-- ==== Sys2Proof/Word.lean ====
section
/-! DEFINITION. The words of the machine and their plainest arithmetic (R3 to R5). -/

namespace Sys2Proof

/-- One byte (R4). -/
abbrev Byte := BitVec 8

/-- A 64-bit word: a scalar register, an address while it is computed, a PC (R255). -/
abbrev Word := BitVec 64

/-- A 32-bit word: a vector lane, an instruction word (R255, R257). -/
abbrev Half := BitVec 32

/-- The bytes of a value, least significant first: the order of R5. -/
def leBytes (n v : Nat) : List Byte :=
  match n with
  | 0 => []
  | k + 1 => BitVec.ofNat 8 v :: leBytes k (v / 256)

/-- The value of bytes in the order of R5: the first byte is the least significant. -/
def leVal (bs : List Byte) : Nat :=
  bs.foldr (fun b acc => b.toNat + 256 * acc) 0

/-- The value of bytes stored most significant first (trailer fields of R86). -/
def beVal (bs : List Byte) : Nat :=
  bs.foldl (fun acc b => acc * 256 + b.toNat) 0

/-- The bytes [hi:lo] of a format, in the notation of R4. -/
def slice (bs : List Byte) (lo len : Nat) : List Byte := (bs.drop lo).take len

/-- The little-endian field of `len` bytes at byte `lo` of a format (R5). -/
def field (bs : List Byte) (lo len : Nat) : Nat := leVal (slice bs lo len)

/-- Bits [lo+n-1:lo] of a value (R4). -/
def bits (v lo n : Nat) : Nat := v / 2 ^ lo % 2 ^ n

/-- Bit [n] of a value (R4). -/
def bit (v n : Nat) : Bool := v.testBit n

/-- Two's complement reading of `n` bits (R97). -/
def toSigned (n v : Nat) : Int :=
  if v % 2 ^ n < 2 ^ (n - 1) then (v % 2 ^ n : Nat) else ((v % 2 ^ n : Nat) : Int) - (2 : Int) ^ n

/-- Two's complement encoding in `n` bits (R97). -/
def ofSigned (n : Nat) (v : Int) : Nat := (v % (2 : Int) ^ n).toNat

/-- Set bit [n] of a value. -/
def setBit (v n : Nat) : Nat := v ||| 2 ^ n

/-- Clear bit [n] of a value. -/
def clearBit (v n : Nat) : Nat := if v.testBit n then v - 2 ^ n else v

/-- Pad a byte string with zero bytes up to `n`, or cut it there. -/
def padTo (n : Nat) (bs : List Byte) : List Byte := (bs ++ List.replicate (n - bs.length) 0).take n

/-- `n` bytes of zero. -/
def zeros (n : Nat) : List Byte := List.replicate n 0

/-- Round up to a multiple of `m`. -/
def roundUp (v m : Nat) : Nat := (v + m - 1) / m * m

end Sys2Proof
end

