-- ==== Sys2Proof/Types.lean ====
section
/-! DEFINITION. The operand types of the commands: interface paths, harts, packets and check outcomes. -/

namespace Sys2Proof

/-- An interface path of R104. -/
inductive Path where
  | config
  | can (port : Fin 2)
  | pciePf
  | pcieVf (n : Fin 8)
  | udp (slot : Fin 16)
  | fuind
  | jtag
  | self
  deriving DecidableEq, Repr

/-- The code of an interface path (R104). -/
def Path.code : Path → Nat
  | .config => 0x00
  | .can p => 0x01 + p.val
  | .pciePf => 0x10
  | .pcieVf n => 0x11 + n.val
  | .udp s => 0x20 + s.val
  | .fuind => 0x30
  | .jtag => 0x38
  | .self => 0x3F

/-- Whether the path is a BAR0 mirror window (R106). -/
def Path.isPcie : Path → Bool
  | .pciePf => true
  | .pcieVf _ => true
  | _ => false

/-- What executes an instruction: an engine context by its global number g (R234), or a Keeper core (R276). -/
inductive Hart where
  | ctx (g : Fin 3072)
  | keeper (c : Fin 4)
  deriving DecidableEq, Repr

/-- Who writes a doorbell page: a PCIe function (0 is the physical function) or a thread (R334). -/
inductive Writer where
  | fn (n : Fin 9)
  | hart (h : Hart)
  deriving DecidableEq, Repr

/-- What the SECDED code finds on a word (R249). -/
inductive Ecc where
  | clean
  | singleData
  | singleCheck
  | double
  deriving DecidableEq, Repr

/-- The outcome of a CSI-2 header check (R149). -/
inductive HeaderCheck where
  | clean
  | corrected
  | uncorrectable
  deriving DecidableEq, Repr

/-- A fence or atomic scope (R244, R264). -/
inductive Scope where
  | engine
  | device
  | system
  deriving DecidableEq, Repr

/-- An atomic's order (R264). -/
inductive Order where
  | relaxed
  | acquire
  | release
  | acqRel
  deriving DecidableEq, Repr

/-- The second vector operand: VV form or VS form (R266). -/
inductive VSrc where
  | vv (v : Fin 8)
  | vs (r : Fin 32)
  deriving DecidableEq, Repr

/-- The element code of a vector memory instruction (R269). -/
inductive Elem where
  | w32
  | w16
  | s8
  | u8
  deriving DecidableEq, Repr

/-- The precision of a TOP (R271). -/
inductive Precision where
  | int8
  | int4
  | bf16
  | fp16
  | int16
  deriving DecidableEq, Repr

/-- A clock the monitors measure (R368); the code is that of EMCY 0x5030. -/
inductive MonClock where
  | refclk
  | fclk
  | kclk
  | iclk
  deriving DecidableEq, Repr

/-- The code of a monitored clock (R349). -/
def MonClock.code : MonClock → Nat
  | .refclk => 1
  | .fclk => 2
  | .kclk => 3
  | .iclk => 4

/-- A frame that CAN port 0 receives in PARKED (R57). -/
structure CanFrame where
  /-- The identifier, 11 or 29 bits. -/
  id : BitVec 29
  ide : Bool
  /-- CAN FD with bit-rate switching. -/
  brs : Bool
  /-- A CAN XL frame. -/
  xl : Bool
  /-- Received with error. -/
  error : Bool
  dlc : BitVec 4
  data : List Byte
  deriving DecidableEq, Repr

/-- A USDO (or SDO) request of the CiA 1301 subset (R129, R132). -/
inductive UsdoReq where
  | uploadInit (idx : BitVec 16) (sub : Byte)
  | uploadSegment
  | downloadExpedited (idx : BitVec 16) (sub : Byte) (data : List Byte)
  | downloadInit (idx : BitVec 16) (sub : Byte) (total : BitVec 32)
  | downloadSegment (data : List Byte) (last : Bool)
  | abort
  deriving DecidableEq, Repr

/-- The frame format that carries a CAN message (R126). -/
inductive FrameFormat where
  | classical
  | fd
  | xl
  deriving DecidableEq, Repr

/-- Whether a received gPTP message is of the subset that R196 lists. The other three are kinds it leaves out: a tagged frame or
another transport, a message of the common link delay service, and a message of a type that no row of the table names (Signaling,
Management), which the port then hands over in this command's place. -/
inductive GptpKind where
  | listed
  | transport
  | cmlds
  | other
  deriving DecidableEq, Repr

/-- An Ethernet frame with the UDP datagram that it carries, as a range port receives it (R151): what its checks look at. -/
structure RangeFrame where
  /-- Destination MAC address, destination IPv4 address, destination UDP port. -/
  mac : BitVec 48
  ip : BitVec 32
  udpPort : BitVec 16
  /-- Its length in bytes, and whether it carries an IEEE 802.1Q tag. -/
  length : Nat
  tagged : Bool
  /-- IPv4 without options, no fragment, protocol UDP. -/
  plain : Bool
  /-- What the check of the IPv4 header checksum finds. -/
  headerOk : Bool
  payload : List Byte
  deriving DecidableEq, Repr

/-- What a short packet of a camera port carries beside its type (R147, R149): virtual channel, whether VCX is set, and what the
check of its header finds. -/
structure ShortHead where
  vc : Fin 4
  vcx : Bool
  hdr : HeaderCheck
  deriving DecidableEq, Repr

/-- What a near-field port finds about a word beside its bits: a framing error (R156), and whether the two comparators of the hazard
path agree on its sample (R226). -/
structure FieldChecks where
  framing : Bool
  agree : Bool
  deriving DecidableEq, Repr

/-- The data of an object write: its bytes, and whether every byte enable of a PCIe write is set (R107). -/
structure WriteData where
  bytes : List Byte
  enables : Bool
  deriving DecidableEq, Repr

/-- What an object read asks for: the subindex and, on PCIe, the length in dwords and whether every byte enable is set (R107). -/
structure ReadForm where
  sub : Byte
  dwords : Nat
  enables : Bool
  deriving DecidableEq, Repr

/-- An access to a doorbell page (R334): its offset in the page, its direction, and the bytes of a write, or as many bytes as a read
asks for. -/
structure BellAccess where
  off : BitVec 12
  write : Bool
  data : List Byte
  deriving DecidableEq, Repr

/-- A word at a hart's PC, and whether the other engine of a twin pair meets the same (R279). -/
structure MetWord where
  word : Half
  agree : Bool
  deriving DecidableEq, Repr

/-- Which word of an instruction faults as it is fetched, and whether the other engine of a twin pair meets the same (R279). -/
structure MetFault where
  second : Bool
  agree : Bool
  deriving DecidableEq, Repr

/-- Where a gPTP message arrives, and of what kind it is (R196). -/
structure GptpArrival where
  port : Fin 2
  kind : GptpKind
  deriving DecidableEq, Repr

/-- A gPTP Sync with its Follow_Up (R198): what 802.1AS-2020 hands the Time Base. -/
structure GptpSync where
  kind : GptpKind
  /-- The 25GBASE-T1 port it arrived on. -/
  port : Fin 2
  domain : Byte
  /-- The sending port identity. -/
  source : BitVec 80
  seq : BitVec 16
  /-- One-step, or the Follow_Up arrived within one sync interval. -/
  followUp : Bool
  /-- The origin timestamp, ns since the PTP epoch. -/
  origin : Nat
  /-- The correction field, of both messages where there are two, whole ns. -/
  correction : Int
  /-- The rate the Sync implies, as the adjustment a in units of 2^-40 (R192). -/
  rate : Int
  deriving DecidableEq, Repr

/-- What one sampled instruction leaves behind (R414). -/
structure SampleInfo where
  pc : BitVec 48
  dataAddr : BitVec 48
  word : Half
  latency : Nat
  context : Fin 64
  /-- Bits [6:0] of byte 23: pipeline, exception, own store room, cellar, other target. -/
  kind : BitVec 7
  deriving DecidableEq, Repr

/-- An error that a scrub finds in one 8-byte word (R367). -/
structure ScrubError where
  /-- Byte offset of the word in the store room, or its physical address in the cellar. -/
  addr : Nat
  ecc : Ecc
  deriving DecidableEq, Repr

/-- The launch port of a timed frame (R207). -/
inductive LaunchPort where
  | eth (n : Fin 2)
  | can (n : Fin 2)
  deriving DecidableEq, Repr

/-- A port that answers ARP (R151, R474). -/
inductive ArpPort where
  | range (n : Fin 4)
  | eth (n : Fin 2)
  deriving DecidableEq, Repr

end Sys2Proof
end

