-- ==== Sys2Proof/Syntax.lean ====
section
/-! DEFINITION. The commands the block takes, one constructor per row of spec/opcode_table.json, in the table's order. -/

namespace Sys2Proof

/-- A command: an access, an event on a pin or bus, an instruction a thread executes, or a step an engine of the
block takes on its own. Each constructor is one row of the table; its docstring gives the row's own words. -/
inductive Instr where
  /-- PORST_N_ASSERT (R68): An accepted low on PORST_N puts Zorward in OFF and resets everything, including the Pumping Station. -/
  | porstNAssert
  /-- PORST_N_RELEASE (R68): An accepted PORST_N release samples the device ID, zeroes the real-time counter and starts the attic read. -/
  | porstNRelease (strap : Fin 4)
  /-- SCLK_CONFIRMED (R69): Once 32 SCLK periods are confirmed against ACLK, the Pumping Station commits PARKED. -/
  | sclkConfirmed
  /-- SCLK_SUBSTITUTE (R69): If SCLK is not confirmed within 1,000 ms, PARKED is committed with ACLK divided by 122 as a substitute. -/
  | sclkSubstitute
  /-- ACLK_RETRIM (R44): Every 2,048 SCLK cycles the Pumping Station retrims ACLK against SCLK. -/
  | aclkRetrim (err : BitVec 16)
  /-- VAON_OUT_OF_RANGE (R515): VAON leaving its range puts Zorward in OFF and records the cause as 0x01 or 0x02. -/
  | vaonOutOfRange (mv : BitVec 16) (flagSurvives : Bool)
  /-- IGN_WAKE_CHANGE (R48): A filtered change of IGN_WAKE fires wake source 0 or drives the IGN rows of the state machine. -/
  | ignWakeChange (level : Bool)
  /-- SHORE_PWR_CHANGE (R48): A filtered change of SHORE_PWR fires wake source 1, or enters HANDOVER from DEPOT. -/
  | shorePwrChange (level : Bool)
  /-- RESET_N_ASSERT (R71): An accepted RESET_N assertion stops the core, saves the journal, powers off the core and commits PARKED. -/
  | resetNAssert
  /-- RESET_N_RELEASE (R76): An accepted RESET_N release writes the history entry and evaluates the SAFE latch and the latched wake causes. -/
  | resetNRelease
  /-- RESET_HELD (R74): A RESET_N hold longer than 5,000 ms changes the current cause to 0x04. -/
  | resetHeld
  /-- RESET_LINE_STUCK (R74): A hold that reaches the stuck time writes a history entry with cause 0x07. -/
  | resetLineStuck
  /-- CAN_PARKED_FRAME (R57): A frame that port 0 receives in PARKED is evaluated by the wake filter, or skipped if it has BRS set or is CAN XL. -/
  | canParkedFrame (f : CanFrame)
  /-- REAL_TIME_ALARM (R56): The real-time counter reaching the non-zero alarm fires wake source 3. -/
  | realTimeAlarm
  /-- DEFERRED_WAKE_COMMIT (R60): A wake deferred above 125 °C commits once the junction temperature is at or below 120 °C. -/
  | deferredWakeCommit
  /-- REQUEST_PARKED (R54): Request 0x01 to 0xB000:01 tears down from BENCH to PARKED. -/
  | requestParked (p : Path)
  /-- REQUEST_WAKE (R54): Request 0x02 in PARKED, with dictionary wake enabled, fires wake source 4. -/
  | requestWake (p : Path)
  /-- REQUEST_BENCH (R54): Request 0x03 within an open unlock window wakes Zorward to BENCH from PARKED, or leaves SAFE for BENCH. -/
  | requestBench (p : Path)
  /-- REQUEST_DRIVE (R54): Request 0x04 in BENCH enters DRIVE when IGN, pairing, twinning, the model and the no-halt conditions hold. -/
  | requestDrive (p : Path)
  /-- CORE_DOMAINS_POWERED (R45): The core domains finish powering up in WAKING, and the PLLs start to lock. -/
  | coreDomainsPowered
  /-- PLL_LOCK (R193): The fast PLLs lock, the Time Base starts and the parallel start-up steps begin. -/
  | pllLock
  /-- KEEPER_LBIST_DONE (R83): The Keeper boot ROM and the Keeper LBIST complete, and a failure demands SAFE. -/
  | keeperLbistDone (passA passB : Bool)
  /-- CELLAR_TRAINING_DONE (R83): Cellar training completes; a first failure retrains once and a second demands SAFE. -/
  | cellarTrainingDone (pass : Bool)
  /-- ENGINE_LBIST_DONE (R83): The start-up engine LBIST and store-room MBIST complete, and a failing engine goes out of service. -/
  | engineLbistDone (lbistFail mbistFail : BitVec 48)
  /-- PCIE_LINK_TRAINED (R82): The PCIe link trains, and the endpoint accepts configuration requests. -/
  | pcieLinkTrained
  /-- CELLAR_ZEROED (R82): The cellar outside the staging window has been written to zero with valid ECC. -/
  | cellarZeroed
  /-- DELIVERED_LENGTH (R89): A write of 0x2050:01 ends image delivery and starts the image checks. -/
  | deliveredLength (p : Path) (len : BitVec 32)
  /-- DELIVERY_DEADLINE (R90): A delivery not complete by its deadline fails with 0x16 and uses up an attempt. -/
  | deliveryDeadline
  /-- IMAGE_CHECK_DONE (R87): The hash and signature checks finish; a failure reopens the window or ends in SAFE or BENCH. -/
  | imageCheckDone
  /-- SECTIONS_PLACED (R88): The image sections are placed and the configuration items are judged and applied in one turn. -/
  | sectionsPlaced
  /-- STARTUP_COMPLETE (R46): Start-up completes and the WAKING rows select BENCH, DRIVE, DEPOT or ready-hold. -/
  | startupComplete
  /-- READY_HOLD_EXPIRY (R50): Ready-hold expires and Zorward tears down to PARKED. -/
  | readyHoldExpiry
  /-- DRIVE_OFF_DELAY_EXPIRY (R49): The drive-off delay expires and DRIVE is left for DEPOT or PARKED. -/
  | driveOffDelayExpiry
  /-- TEARDOWN_DONE (R53): The core domains are off, and PARKED commits on the next ACLK edge. -/
  | teardownDone
  /-- ATTIC_WRITE_DONE (R101): The attic stores an accepted attic-class write, which takes effect and is journaled. -/
  | atticWriteDone (verified : Bool)
  /-- DOZE_ENTRY (R61): After the doze delay with no queued work, jobs or transfers, the polders are power-gated and the cellar enters self-refresh. -/
  | dozeEntry
  /-- POLDER_CLOCK_GATE (R62): The clock-gate delay expires on an idle polder, and it is clock-gated. -/
  | polderClockGate (e : Fin 48)
  /-- POLDER_POWER_GATE (R62): The power-gate delay expires under policy 0x02, and the polder is power-gated. -/
  | polderPowerGate (e : Fin 48)
  /-- POLDER_WAKE_DONE (R62): A gated polder returns to running and serves the access or dispatch that woke it. -/
  | polderWakeDone (e : Fin 48)
  /-- TEMPERATURE_SAMPLE (R370): The 1 ms junction sample feeds the temperature monitor, cellar derating and the duty loop. -/
  | temperatureSample (sensors : List Int) (stack0 stack1 : Int)
  /-- HANDOVER_WIPE_DONE (R51): The tenant wipe finishes, and the HANDOVER target is decided from IGN. -/
  | handoverWipeDone
  /-- RESIDENT_IMAGE_CHECK_DONE (R91): The fresh check of the resident image finishes; a failure reports 0x17 and falls back to delivery. -/
  | residentImageCheckDone
  /-- HANDOVER_COMPLETE (R91): The configuration section is applied and DRIVE commits after self-test and the image check. -/
  | handoverComplete
  /-- OBJECT_WRITE (R102): A dictionary write to an object with no row of its own commits, is checked and is journaled. -/
  | objectWrite (p : Path) (idx : BitVec 16) (sub : Byte) (data : WriteData)
  /-- CLEARING_READ (R99): A read of an rc object returns its value and sets the object to its default in one step. -/
  | clearingRead (p : Path) (idx : BitVec 16) (form : ReadForm)
  /-- TIME_BASE_READ (R195): A read of 0x9000:01 returns the nanoseconds and latches the fraction for the path. -/
  | timeBaseRead (p : Path)
  /-- UNLOCK_FIRST_KEY (R115): A write of 0x5A1D to 0x2010:01 arms the path. -/
  | unlockFirstKey (p : Path)
  /-- UNLOCK_SECOND_KEY (R115): A write of 0xE2C7 within 64 ticks of the first key opens a 64-tick unlock window. -/
  | unlockSecondKey (p : Path)
  /-- UNLOCK_WINDOW_CLOSE (R115): The unlock window closes 64 ticks after it opened. -/
  | unlockWindowClose (p : Path)
  /-- SEALED_WRITE (R117): A 24-byte record to 0x2010:02 opens the window and performs the named write, or seals a staged DOMAIN. -/
  | sealedWrite (p : Path) (rec : List Byte)
  /-- STAGED_DOWNLOAD_TIMEOUT (R118): A staged S-object download with no sealing record within 1,000 ms is discarded. -/
  | stagedDownloadTimeout (p : Path)
  /-- MAILBOX_UPLOAD_START (R109): Command 0x01 starts an upload and presents the first segment. -/
  | mailboxUploadStart (p : Path)
  /-- MAILBOX_NEXT_SEGMENT (R109): Command 0x02 presents the next upload segment, or completes the upload. -/
  | mailboxNextSegment (p : Path)
  /-- MAILBOX_DOWNLOAD_START (R109): Command 0x03 opens a download to the target. -/
  | mailboxDownloadStart (p : Path)
  /-- MAILBOX_SEGMENT_WRITE (R109): A write of the segment length consumes a download segment and advances the offset. -/
  | mailboxSegmentWrite (p : Path) (len : BitVec 16)
  /-- MAILBOX_COMMIT (R110): Command 0x04 commits a complete download whole, or stages it for S-objects. -/
  | mailboxCommit (p : Path)
  /-- MAILBOX_ABORT (R110): Command 0x05 fails an open transfer with 0x0504_0000. -/
  | mailboxAbort (p : Path)
  /-- MAILBOX_TIMEOUT (R110): A transfer idle for 1,000 ms fails with 0x0504_0000. -/
  | mailboxTimeout (p : Path)
  /-- JOURNAL_LATCH (R122): A write of 0x2600:03 latches the journal entry at that index into the path's latch. -/
  | journalLatch (p : Path) (i : Byte)
  /-- PEER_SLOT_RELEASE (R104): A UDP peer slot is released after 10 s without a request. -/
  | peerSlotRelease (slot : Fin 16)
  /-- FUNCTION_LEVEL_RESET (R123): A PCIe function-level reset discards the function's mailbox transfer and resets its path-local objects. -/
  | functionLevelReset (fn : Fin 9)
  /-- PERST_N_ASSERT (R72): PERST_N resets only the PCIe function. -/
  | perstNAssert
  /-- CAN_PORT_TAKEOVER (R127): The core controller takes port 0 from the Pumping Station at the first bus idle after PLL lock. -/
  | canPortTakeover
  /-- NMT_START (R130): NMT command 0x01 puts the port in Operational. -/
  | nmtStart (port : Fin 2) (node : Byte)
  /-- NMT_STOP (R130): NMT command 0x02 puts the port in Stopped. -/
  | nmtStop (port : Fin 2) (node : Byte)
  /-- NMT_ENTER_PREOPERATIONAL (R130): NMT command 0x80 puts the port in Pre-operational. -/
  | nmtEnterPreoperational (port : Fin 2) (node : Byte)
  /-- NMT_RESET_NODE (R131): NMT command 0x81 is a device reset with cause 0x05 where it is enabled, otherwise a reset communication. -/
  | nmtResetNode (port : Fin 2) (node : Byte)
  /-- NMT_RESET_COMMUNICATION (R130): NMT command 0x82 reinitialises the port, discards its sessions and frames, and releases its blocks. -/
  | nmtResetCommunication (port : Fin 2) (node : Byte)
  /-- NMT_AUTOSTART (R130): One tick after boot-up the port enters Operational if autostart is set. -/
  | nmtAutostart (port : Fin 2)
  /-- USDO_REQUEST (R132): A USDO initiate or segment request is served after its commit and answered on the port. -/
  | usdoRequest (port : Fin 2) (fmt : FrameFormat) (req : UsdoReq)
  /-- TPDO_EVENT_TIMER (R133): The event timer of a type 0xFE TPDO expires and a snapshot TPDO is sent. -/
  | tpdoEventTimer (n : Fin 8)
  /-- TPDO_CHANGE (R133): A type 0xFF TPDO is sent at a TICK edge when a mapped value changed and the inhibit time has passed. -/
  | tpdoChange (n : Fin 8)
  /-- HEARTBEAT_TIMER (R134): The CAN heartbeat is sent every 0x1017:00 ms. -/
  | heartbeatTimer (port : Fin 2)
  /-- EMCY_TRANSMIT (R135): A queued EMCY is sent once its port is Pre-operational or Operational and the inhibit time has passed. -/
  | emcyTransmit (port : Fin 2)
  /-- CAN_COLLISION (R142): A read-back bit error after won arbitration counts a collision, and the third blocks the identifier. -/
  | canCollision (port : Fin 2) (id : BitVec 29) (ide : Bool)
  /-- RELEASE_BLOCKS (R142): A write of 1 to subindex 19 releases every blocked identifier of the port. -/
  | releaseBlocks (p : Path) (port : Fin 2)
  /-- BUS_OFF_RECOVERY (R143): The port recovers after 128 occurrences of 11 recessive bits and sends EMCY 0x8140. -/
  | busOffRecovery (port : Fin 2)
  /-- UDP_DICT_READ (R136): Fuind-over-UDP operation 0x01 reads an object. -/
  | udpDictRead (addr : BitVec 32) (port : BitVec 16) (m : List Byte)
  /-- UDP_DICT_WRITE (R136): Fuind-over-UDP operation 0x02 writes an object. -/
  | udpDictWrite (addr : BitVec 32) (port : BitVec 16) (m : List Byte)
  /-- UDP_UPLOAD_START (R136): Operation 0x03 starts a segmented upload. -/
  | udpUploadStart (addr : BitVec 32) (port : BitVec 16) (m : List Byte)
  /-- UDP_UPLOAD_NEXT (R136): Operation 0x04 returns the next upload segment. -/
  | udpUploadNext (addr : BitVec 32) (port : BitVec 16) (m : List Byte)
  /-- UDP_DOWNLOAD_START (R136): Operation 0x05 opens a segmented download. -/
  | udpDownloadStart (addr : BitVec 32) (port : BitVec 16) (m : List Byte)
  /-- UDP_DOWNLOAD_SEGMENT (R136): Operation 0x06 carries a download segment. -/
  | udpDownloadSegment (addr : BitVec 32) (port : BitVec 16) (m : List Byte)
  /-- UDP_DOWNLOAD_COMMIT (R136): Operation 0x07 commits a segmented download. -/
  | udpDownloadCommit (addr : BitVec 32) (port : BitVec 16) (m : List Byte)
  /-- UDP_DICT_ABORT (R136): Operation 0x08 ends an open transfer. -/
  | udpDictAbort (addr : BitVec 32) (port : BitVec 16) (m : List Byte)
  /-- CSI2_LINE_PACKET (R149): A CSI-2 long packet is checked, stamped, rectified and written to its sluice as one line. -/
  | csi2LinePacket (port : Fin 24) (vc : Fin 4) (vcx : Bool) (dt : BitVec 6) (wc : BitVec 16) (payload : List Byte) (hdr : HeaderCheck) (crcOk : Bool)
  /-- FRAME_START (R150): A CSI-2 Frame Start opens a frame, closing an open frame as short. -/
  | frameStart (port : Fin 24) (head : ShortHead)
  /-- FRAME_END (R150): A CSI-2 Frame End ends the frame; missing lines are replaced. -/
  | frameEnd (port : Fin 24) (head : ShortHead)
  /-- RANGE_PACKET (R155): A Syhal Range Packet is checked, bound to a stream and fed to the hazard path as one line. -/
  | rangePacket (port : Fin 4) (frame : RangeFrame) (disagree : List Nat) (fcsOk udpOk : Bool)
  /-- ARP_REQUEST (R151): An ARP request for a port's own address is answered. -/
  | arpRequest (port : ArpPort) (target : BitVec 32) (sender : BitVec 32)
  /-- NEAR_FIELD_WORD (R156): A 32-bit near-field word is checked, fed to the hazard path and written as one line. -/
  | nearFieldWord (port : Fin 2) (w : Half) (checks : FieldChecks)
  /-- DIVERT_COPY_DONE (R168): A diverted strip's copy to the cellar ring completes, and its slot is freed. -/
  | divertCopyDone (s : Fin 96)
  /-- SLUICE_SLOT_RELEASE (R165): A slot is released when its job has read the strip, or when the job is withdrawn. -/
  | sluiceSlotRelease (s : Fin 96) (strip : Nat)
  /-- LIVENESS_EXPIRY (R172): A stream that sends no line before its expiry time is declared lost. -/
  | livenessExpiry (s : Fin 96)
  /-- STREAM_ENABLE (R161): A write of 1 to 0x3000:01 checks the stream and, if it passes, allocates its sluice. -/
  | streamEnable (p : Path)
  /-- STREAM_DISABLE (R163): A write of 0 to 0x3000:01 stops the sluice and discards the strip being filled. -/
  | streamDisable (p : Path)
  /-- CALIBRATION_SET_WRITE (R185): An offered calibration set is checked in order and either rejected or programmed into the erased area. -/
  | calibrationSetWrite (p : Path) (set : List Byte) (verified : Bool)
  /-- CALIBRATION_AREA_COMMIT (R186): The new area's commit word is programmed, the new set takes effect and the old area is erased. -/
  | calibrationAreaCommit
  /-- SYNC_RECEIVED (R198): A gPTP Sync, with its Follow_Up for two-step, is accepted or rejected and drives acquisition and the servo. -/
  | syncReceived (m : GptpSync)
  /-- ANNOUNCE_RECEIVED (R199): An Announce names the grandmaster; a new identity is a grandmaster change and starts holdover. -/
  | announceReceived (arrival : GptpArrival) (domain : Byte) (source : BitVec 80) (gm : BitVec 64)
  /-- PDELAY_REQ_TIMER (R196): A Pdelay_Req is sent each Pdelay interval. -/
  | pdelayReqTimer
  /-- PDELAY_RESP_RECEIVED (R197): A Pdelay response updates the mean link delay and the neighbour rate ratio. -/
  | pdelayRespReceived (delay : BitVec 32) (ratio : BitVec 32)
  /-- PDELAY_REQ_RECEIVED (R196): A received Pdelay_Req is answered two-step with Pdelay_Resp and its Follow_Up. -/
  | pdelayReqReceived (arrival : GptpArrival) (seq : BitVec 16)
  /-- SYNC_RECEIPT_TIMEOUT (R203): No Sync accepted for the set number of sync intervals enters holdover. -/
  | syncReceiptTimeout
  /-- ANNOUNCE_RECEIPT_TIMEOUT (R203): No Announce for the set number of announce intervals enters holdover. -/
  | announceReceiptTimeout
  /-- TIME_BASE_STEP (R201): At a TICK edge, the step D is applied and every pending time value is shifted by D. -/
  | timeBaseStep
  /-- TIMED_LAUNCH (R207): A held timed frame leaves at its launch time. -/
  | timedLaunch (port : LaunchPort) (busFree : Bool)
  /-- FUSED_STRIP_RECORD (R222): At each TICK edge in BENCH or DRIVE, one record is frozen with one outcome per lane and sent on the enabled paths. -/
  | fusedStripRecord (pathReady : BitVec 4)
  /-- STRIP_JOB_RESUBMIT (R214): A refused strip job is submitted again at each TICK edge. -/
  | stripJobResubmit (s : Fin 96)
  /-- STRIP_DEADLINE (R219): A deadline edge passes without a result, and the strip's outcome is missed. -/
  | stripDeadline (s : Fin 96) (strip : Nat)
  /-- STRIP_WITHDRAW (R217): A job is withdrawn at the withdraw age, or when its result slot is needed, and is cancelled. -/
  | stripWithdraw (s : Fin 96) (strip : Nat)
  /-- CANDIDATE_COPY (R297): The Post-Processing Unit copies a published strip's candidates within 2 ticks. -/
  | candidateCopy (s : Fin 96) (strip : Nat)
  /-- SUPPRESSION_START (R304): The Post-Processing Unit starts the decoding and suppression of an ended frame. -/
  | suppressionStart
  /-- SUPPRESSION_DONE (R301): Suppression finishes and the object list is published. -/
  | suppressionDone
  /-- OBJECT_LIST_DEADLINE (R224): At 1,500 ticks an unfinished object list is published with its incomplete flag set. -/
  | objectListDeadline (s : Fin 96)
  /-- HAZARD_HOLD_EXPIRY (R227): The hold expires and HAZARD_N deasserts. -/
  | hazardHoldExpiry
  /-- HAZARD_INJECTION_TEST (R371): Every 10,000 ticks a test sample is injected into each feed's comparators. -/
  | hazardInjectionTest (passed : Bool)
  /-- HAZARD_READBACK_FAULT (R371): A pad level that differs from the driven level on 16 consecutive cycles is a class-S detection with code 0x0C. -/
  | hazardReadbackFault
  /-- TRANSLATION_INVALIDATE (R240): A write of 0x4802:01 invalidates cached translations once older accesses are performed. -/
  | translationInvalidate (p : Path) (v : Byte)
  /-- BAR4_ACCESS (R241): A BAR4 access reaches the function's cellar virtual address, or is refused and counted. -/
  | bar4Access (fn : Fin 9) (x : BitVec 36) (write : Bool) (data : List Byte)
  /-- ADD (R259): Scalar add. -/
  | add (h : Hart) (rd rs1 rs2 : Fin 32) (w : Bool)
  /-- SUB (R259): Scalar subtract. -/
  | sub (h : Hart) (rd rs1 rs2 : Fin 32) (w : Bool)
  /-- AND (R259): Scalar bitwise AND. -/
  | andR (h : Hart) (rd rs1 rs2 : Fin 32) (w : Bool)
  /-- OR (R259): Scalar bitwise OR. -/
  | orR (h : Hart) (rd rs1 rs2 : Fin 32) (w : Bool)
  /-- XOR (R259): Scalar bitwise XOR. -/
  | xor (h : Hart) (rd rs1 rs2 : Fin 32) (w : Bool)
  /-- SLL (R260): Scalar shift left logical. -/
  | sll (h : Hart) (rd rs1 rs2 : Fin 32) (w : Bool)
  /-- SRL (R260): Scalar shift right logical. -/
  | srl (h : Hart) (rd rs1 rs2 : Fin 32) (w : Bool)
  /-- SRA (R260): Scalar shift right arithmetic. -/
  | sra (h : Hart) (rd rs1 rs2 : Fin 32) (w : Bool)
  /-- SLT (R259): Scalar set if less than, signed. -/
  | slt (h : Hart) (rd rs1 rs2 : Fin 32) (w : Bool)
  /-- SLTU (R259): Scalar set if less than, unsigned. -/
  | sltu (h : Hart) (rd rs1 rs2 : Fin 32) (w : Bool)
  /-- MIN (R259): Scalar signed minimum. -/
  | minR (h : Hart) (rd rs1 rs2 : Fin 32) (w : Bool)
  /-- MAX (R259): Scalar signed maximum. -/
  | maxR (h : Hart) (rd rs1 rs2 : Fin 32) (w : Bool)
  /-- MINU (R259): Scalar unsigned minimum. -/
  | minu (h : Hart) (rd rs1 rs2 : Fin 32) (w : Bool)
  /-- MAXU (R259): Scalar unsigned maximum. -/
  | maxu (h : Hart) (rd rs1 rs2 : Fin 32) (w : Bool)
  /-- MUL (R259): Scalar multiply, low 64 bits. -/
  | mul (h : Hart) (rd rs1 rs2 : Fin 32) (w : Bool)
  /-- MULH (R259): Scalar multiply, signed high bits. -/
  | mulh (h : Hart) (rd rs1 rs2 : Fin 32)
  /-- MULHU (R259): Scalar multiply, unsigned high bits. -/
  | mulhu (h : Hart) (rd rs1 rs2 : Fin 32)
  /-- DIV (R260): Scalar signed divide. -/
  | div (h : Hart) (rd rs1 rs2 : Fin 32) (w : Bool)
  /-- DIVU (R260): Scalar unsigned divide. -/
  | divu (h : Hart) (rd rs1 rs2 : Fin 32) (w : Bool)
  /-- REM (R260): Scalar signed remainder. -/
  | rem (h : Hart) (rd rs1 rs2 : Fin 32) (w : Bool)
  /-- REMU (R260): Scalar unsigned remainder. -/
  | remu (h : Hart) (rd rs1 rs2 : Fin 32) (w : Bool)
  /-- CLZ (R260): Count leading zeros. -/
  | clz (h : Hart) (rd rs1 : Fin 32) (w : Bool)
  /-- CTZ (R260): Count trailing zeros. -/
  | ctz (h : Hart) (rd rs1 : Fin 32) (w : Bool)
  /-- POPC (R259): Population count. -/
  | popc (h : Hart) (rd rs1 : Fin 32) (w : Bool)
  /-- ADDI (R259): Add immediate. -/
  | addi (h : Hart) (rd rs1 : Fin 32) (imm : BitVec 14)
  /-- ANDI (R259): AND immediate. -/
  | andi (h : Hart) (rd rs1 : Fin 32) (imm : BitVec 14)
  /-- ORI (R259): OR immediate. -/
  | ori (h : Hart) (rd rs1 : Fin 32) (imm : BitVec 14)
  /-- XORI (R259): XOR immediate. -/
  | xori (h : Hart) (rd rs1 : Fin 32) (imm : BitVec 14)
  /-- SLLI (R260): Shift left by immediate. -/
  | slli (h : Hart) (rd rs1 : Fin 32) (sh : BitVec 6)
  /-- SRLI (R260): Logical shift right by immediate. -/
  | srli (h : Hart) (rd rs1 : Fin 32) (sh : BitVec 6)
  /-- SRAI (R260): Arithmetic shift right by immediate. -/
  | srai (h : Hart) (rd rs1 : Fin 32) (sh : BitVec 6)
  /-- SLTI (R259): Set if less than immediate, signed. -/
  | slti (h : Hart) (rd rs1 : Fin 32) (imm : BitVec 14)
  /-- SLTIU (R259): Set if less than immediate, unsigned. -/
  | sltiu (h : Hart) (rd rs1 : Fin 32) (imm : BitVec 14)
  /-- ADDIW (R259): Add immediate on 32 bits. -/
  | addiw (h : Hart) (rd rs1 : Fin 32) (imm : BitVec 14)
  /-- LI (R261): Load a sign-extended 32-bit immediate. -/
  | li (h : Hart) (rd : Fin 32) (imm : BitVec 32)
  /-- LIH (R261): Load a 32-bit immediate into the high half. -/
  | lih (h : Hart) (rd : Fin 32) (imm : BitVec 32)
  /-- LPC (R261): Load the PC plus an immediate. -/
  | lpc (h : Hart) (rd : Fin 32) (imm : BitVec 32)
  /-- BEQ (R262): Branch if equal. -/
  | beq (h : Hart) (rs1 rs2 : Fin 32) (off : BitVec 15)
  /-- BNE (R262): Branch if not equal. -/
  | bne (h : Hart) (rs1 rs2 : Fin 32) (off : BitVec 15)
  /-- BLT (R262): Branch if less than, signed. -/
  | blt (h : Hart) (rs1 rs2 : Fin 32) (off : BitVec 15)
  /-- BGE (R262): Branch if greater than or equal, signed. -/
  | bge (h : Hart) (rs1 rs2 : Fin 32) (off : BitVec 15)
  /-- BLTU (R262): Branch if less than, unsigned. -/
  | bltu (h : Hart) (rs1 rs2 : Fin 32) (off : BitVec 15)
  /-- BGEU (R262): Branch if greater than or equal, unsigned. -/
  | bgeu (h : Hart) (rs1 rs2 : Fin 32) (off : BitVec 15)
  /-- J (R262): Jump relative. -/
  | j (h : Hart) (off : BitVec 26)
  /-- JAL (R262): Jump and link. -/
  | jal (h : Hart) (off : BitVec 26)
  /-- JR (R262): Jump to a register. -/
  | jr (h : Hart) (rd rs1 : Fin 32)
  /-- LOAD (R263): Scalar load of 1, 2, 4 or 8 bytes. -/
  | load (h : Hart) (size : Fin 4) (sext : Bool) (rd rs1 : Fin 32) (imm : BitVec 14) (ecc : Ecc)
  /-- STORE (R263): Scalar store of 1, 2, 4 or 8 bytes. -/
  | store (h : Hart) (size : Fin 4) (rs2 rs1 : Fin 32) (imm : BitVec 14) (agree : Bool)
  /-- SWAP (R264): Atomic swap. -/
  | swap (h : Hart) (dbl : Bool) (ord : Order) (sc : Scope) (rd rs1 rs2 : Fin 32)
  /-- AMO_ADD (R264): Atomic add. -/
  | amoAdd (h : Hart) (dbl : Bool) (ord : Order) (sc : Scope) (rd rs1 rs2 : Fin 32)
  /-- AMO_AND (R264): Atomic AND. -/
  | amoAnd (h : Hart) (dbl : Bool) (ord : Order) (sc : Scope) (rd rs1 rs2 : Fin 32)
  /-- AMO_OR (R264): Atomic OR. -/
  | amoOr (h : Hart) (dbl : Bool) (ord : Order) (sc : Scope) (rd rs1 rs2 : Fin 32)
  /-- AMO_XOR (R264): Atomic XOR. -/
  | amoXor (h : Hart) (dbl : Bool) (ord : Order) (sc : Scope) (rd rs1 rs2 : Fin 32)
  /-- AMO_MIN (R264): Atomic signed minimum. -/
  | amoMin (h : Hart) (dbl : Bool) (ord : Order) (sc : Scope) (rd rs1 rs2 : Fin 32)
  /-- AMO_MAX (R264): Atomic signed maximum. -/
  | amoMax (h : Hart) (dbl : Bool) (ord : Order) (sc : Scope) (rd rs1 rs2 : Fin 32)
  /-- AMO_MINU (R264): Atomic unsigned minimum. -/
  | amoMinu (h : Hart) (dbl : Bool) (ord : Order) (sc : Scope) (rd rs1 rs2 : Fin 32)
  /-- AMO_MAXU (R264): Atomic unsigned maximum. -/
  | amoMaxu (h : Hart) (dbl : Bool) (ord : Order) (sc : Scope) (rd rs1 rs2 : Fin 32)
  /-- CAS (R264): Atomic compare and swap. -/
  | cas (h : Hart) (dbl : Bool) (ord : Order) (sc : Scope) (rd rs1 rs2 : Fin 32)
  /-- LDA (R264): Atomic load. -/
  | lda (h : Hart) (dbl : Bool) (ord : Order) (sc : Scope) (rd rs1 : Fin 32)
  /-- STA (R264): Atomic store. -/
  | sta (h : Hart) (dbl : Bool) (ord : Order) (sc : Scope) (rs1 rs2 : Fin 32)
  /-- FENCE (R265): Fence of a scope. -/
  | fence (h : Hart) (sc : Scope)
  /-- FENCE_I (R265): Later fetches observe stores performed at device scope. -/
  | fenceI (h : Hart)
  /-- WAITT (R265): Wait until the masked tokens are free, reporting any deferred fault. -/
  | waitt (h : Hart) (mask : Byte)
  /-- BAR (R265): Arrive at an engine barrier, which completes on the count-th arrival. -/
  | bar (h : Hart) (id : Fin 16) (count1 : BitVec 7)
  /-- YIELD (R265): Skip issue on the next cycle. -/
  | yield (h : Hart)
  /-- VADD (R267): Vector wrapping add. -/
  | vadd (h : Hart) (vd vs1 : Fin 8) (src : VSrc) (pr : Option (Fin 4))
  /-- VSUB (R267): Vector wrapping subtract. -/
  | vsub (h : Hart) (vd vs1 : Fin 8) (src : VSrc) (pr : Option (Fin 4))
  /-- VMUL (R267): Vector multiply, low 32 bits. -/
  | vmul (h : Hart) (vd vs1 : Fin 8) (src : VSrc) (pr : Option (Fin 4))
  /-- VMULH (R267): Vector multiply, signed high 32 bits. -/
  | vmulh (h : Hart) (vd vs1 : Fin 8) (src : VSrc) (pr : Option (Fin 4))
  /-- VAND (R267): Vector bitwise AND. -/
  | vand (h : Hart) (vd vs1 : Fin 8) (src : VSrc) (pr : Option (Fin 4))
  /-- VOR (R267): Vector bitwise OR. -/
  | vor (h : Hart) (vd vs1 : Fin 8) (src : VSrc) (pr : Option (Fin 4))
  /-- VXOR (R267): Vector bitwise XOR. -/
  | vxor (h : Hart) (vd vs1 : Fin 8) (src : VSrc) (pr : Option (Fin 4))
  /-- VSLL (R267): Vector shift left logical. -/
  | vsll (h : Hart) (vd vs1 : Fin 8) (src : VSrc) (pr : Option (Fin 4))
  /-- VSRL (R267): Vector shift right logical. -/
  | vsrl (h : Hart) (vd vs1 : Fin 8) (src : VSrc) (pr : Option (Fin 4))
  /-- VSRA (R267): Vector shift right arithmetic. -/
  | vsra (h : Hart) (vd vs1 : Fin 8) (src : VSrc) (pr : Option (Fin 4))
  /-- VMIN (R267): Vector signed minimum. -/
  | vmin (h : Hart) (vd vs1 : Fin 8) (src : VSrc) (pr : Option (Fin 4))
  /-- VMAX (R267): Vector signed maximum. -/
  | vmax (h : Hart) (vd vs1 : Fin 8) (src : VSrc) (pr : Option (Fin 4))
  /-- VABS (R267): Vector absolute value, saturating. -/
  | vabs (h : Hart) (vd vs1 : Fin 8) (pr : Option (Fin 4))
  /-- VADDS (R267): Vector saturating add. -/
  | vadds (h : Hart) (vd vs1 : Fin 8) (src : VSrc) (pr : Option (Fin 4))
  /-- VSUBS (R267): Vector saturating subtract. -/
  | vsubs (h : Hart) (vd vs1 : Fin 8) (src : VSrc) (pr : Option (Fin 4))
  /-- VRSHR (R267): Vector rounding shift right. -/
  | vrshr (h : Hart) (vd vs1 : Fin 8) (rs : Fin 32) (pr : Option (Fin 4))
  /-- VFADD (R268): Vector FP32 add. -/
  | vfadd (h : Hart) (vd vs1 : Fin 8) (src : VSrc) (pr : Option (Fin 4))
  /-- VFSUB (R268): Vector FP32 subtract. -/
  | vfsub (h : Hart) (vd vs1 : Fin 8) (src : VSrc) (pr : Option (Fin 4))
  /-- VFMUL (R268): Vector FP32 multiply. -/
  | vfmul (h : Hart) (vd vs1 : Fin 8) (src : VSrc) (pr : Option (Fin 4))
  /-- VFMA (R267): Vector FP32 fused multiply-add. -/
  | vfma (h : Hart) (vd vs1 : Fin 8) (src : VSrc) (pr : Option (Fin 4))
  /-- VFMIN (R268): Vector FP32 minimum. -/
  | vfmin (h : Hart) (vd vs1 : Fin 8) (src : VSrc) (pr : Option (Fin 4))
  /-- VFMAX (R268): Vector FP32 maximum. -/
  | vfmax (h : Hart) (vd vs1 : Fin 8) (src : VSrc) (pr : Option (Fin 4))
  /-- VCEQ (R267): Vector compare equal into a predicate. -/
  | vceq (h : Hart) (fp : Bool) (pd : Fin 4) (vs1 : Fin 8) (src : VSrc) (pr : Option (Fin 4))
  /-- VCLT (R267): Vector compare less than into a predicate. -/
  | vclt (h : Hart) (fp : Bool) (pd : Fin 4) (vs1 : Fin 8) (src : VSrc) (pr : Option (Fin 4))
  /-- VCLE (R267): Vector compare less than or equal into a predicate. -/
  | vcle (h : Hart) (fp : Bool) (pd : Fin 4) (vs1 : Fin 8) (src : VSrc) (pr : Option (Fin 4))
  /-- VCLTU (R267): Vector unsigned compare less than. -/
  | vcltu (h : Hart) (pd : Fin 4) (vs1 : Fin 8) (src : VSrc) (pr : Option (Fin 4))
  /-- VSEL (R267): Vector select by predicate. -/
  | vsel (h : Hart) (vd vs1 : Fin 8) (src : VSrc) (pr : Fin 4)
  /-- VBCAST (R267): Vector broadcast of a scalar. -/
  | vbcast (h : Hart) (vd : Fin 8) (rs : Fin 32) (pr : Option (Fin 4))
  /-- VCVTIF (R267): Convert INT32 to FP32. -/
  | vcvtif (h : Hart) (vd vs1 : Fin 8) (pr : Option (Fin 4))
  /-- VCVTFI (R267): Convert FP32 to INT32, saturating. -/
  | vcvtfi (h : Hart) (vd vs1 : Fin 8) (pr : Option (Fin 4))
  /-- VCVTFH (R267): Convert FP32 to FP16. -/
  | vcvtfh (h : Hart) (vd vs1 : Fin 8) (pr : Option (Fin 4))
  /-- VCVTFB (R267): Convert FP32 to BF16. -/
  | vcvtfb (h : Hart) (vd vs1 : Fin 8) (pr : Option (Fin 4))
  /-- VLOAD (R269): Vector unit-stride load. -/
  | vload (h : Hart) (el : Elem) (vd : Fin 8) (rs1 : Fin 32) (pr : Option (Fin 4))
  /-- VSTORE (R269): Vector unit-stride store. -/
  | vstore (h : Hart) (el : Elem) (vs : Fin 8) (rs1 : Fin 32) (pr : Option (Fin 4))
  /-- VLOAD_STRIDED (R269): Vector strided load. -/
  | vloadStrided (h : Hart) (el : Elem) (vd : Fin 8) (rs1 rs2 : Fin 32) (pr : Option (Fin 4))
  /-- VSTORE_STRIDED (R269): Vector strided store. -/
  | vstoreStrided (h : Hart) (el : Elem) (vs : Fin 8) (rs1 rs2 : Fin 32) (pr : Option (Fin 4))
  /-- VRSUM (R270): Vector sum reduction. -/
  | vrsum (h : Hart) (fp : Bool) (rd : Fin 32) (vs1 : Fin 8) (pr : Option (Fin 4))
  /-- VRMAX (R270): Vector maximum reduction. -/
  | vrmax (h : Hart) (fp : Bool) (rd : Fin 32) (vs1 : Fin 8) (pr : Option (Fin 4))
  /-- VRMIN (R270): Vector minimum reduction. -/
  | vrmin (h : Hart) (fp : Bool) (rd : Fin 32) (vs1 : Fin 8) (pr : Option (Fin 4))
  /-- VRARGMAX (R270): Lane number of the vector maximum. -/
  | vrargmax (h : Hart) (fp : Bool) (rd : Fin 32) (vs1 : Fin 8) (pr : Option (Fin 4))
  /-- VSLIDEUP (R270): Vector slide up by k lanes. -/
  | vslideup (h : Hart) (vd vs1 : Fin 8) (rs : Fin 32) (pr : Option (Fin 4))
  /-- VSLIDEDOWN (R270): Vector slide down by k lanes. -/
  | vslidedown (h : Hart) (vd vs1 : Fin 8) (rs : Fin 32) (pr : Option (Fin 4))
  /-- VPERM (R270): Vector permute. -/
  | vperm (h : Hart) (vd vs1 vs2 : Fin 8) (pr : Option (Fin 4))
  /-- VCOMPRESS (R270): Pack the enabled lanes into the low lanes. -/
  | vcompress (h : Hart) (vd vs1 : Fin 8) (rd : Fin 32) (pr : Fin 4)
  /-- VFIRST (R270): Move lane 0 to a scalar register. -/
  | vfirst (h : Hart) (rd : Fin 32) (vs1 : Fin 8)
  /-- TOP (R287): Issue a tensor operator on the MAC array from a checked descriptor, taking a token. -/
  | top (h : Hart) (rd rs1 : Fin 32) (prec : Precision) (acc deq : Bool)
  /-- TMOVE (R272): Issue a row copy on the copy path, taking a token. -/
  | tmove (h : Hart) (rd rs1 : Fin 32)
  /-- TENSOR_OP_DONE (R273): A tensor operation finishes, performs its accesses and frees its token, or defers a fault. -/
  | tensorOpDone (g : Fin 3072) (token : Fin 8)
  /-- SUBMIT (R274): Submit a descriptor to a queue and return the status. -/
  | submit (h : Hart) (rd rs1 rs2 : Fin 32)
  /-- CANCEL (R340): Cancel the oldest job with a tag in a queue. -/
  | cancel (h : Hart) (rd rs1 rs2 : Fin 32)
  /-- JOBEND (R274): End this context's part of its job, completing the job when it is the last. -/
  | jobend (h : Hart) (rs1 : Fin 32)
  /-- TSR (R276): Read a thread state word. -/
  | tsr (h : Hart) (rd : Fin 32) (n : BitVec 14)
  /-- TSW (R276): Write a thread state word. -/
  | tsw (h : Hart) (rs1 : Fin 32) (n : BitVec 14)
  /-- TRAP (R275): Raise a software trap exception. -/
  | trap (h : Hart) (imm : BitVec 14)
  /-- BREAK (R499): Raise a breakpoint exception, or halt under break catch in BENCH. -/
  | brk (h : Hart)
  /-- WFE (R275): A Keeper waits until EVENTS is non-zero. -/
  | wfe (h : Hart)
  /-- WFE_WAKE (R275): A Keeper waiting in WFE resumes when EVENTS becomes non-zero. -/
  | wfeWake (c : Fin 4)
  /-- ERET (R275): A Keeper returns from its exception handler. -/
  | eret (h : Hart)
  /-- DOORBELL_SUBMIT (R334): A write covering doorbell bytes 0x038–0x03F submits the staged descriptor. -/
  | doorbellSubmit (wr : Writer) (q : Fin 512) (access : BellAccess)
  /-- DOORBELL_CANCEL (R340): A write of a tag to doorbell offset 0x040 cancels that job. -/
  | doorbellCancel (wr : Writer) (q : Fin 512) (tag : Word)
  /-- COMPLETIONS_CONSUMED (R334): A write of the consumed count frees ring slots for held completion records. -/
  | completionsConsumed (wr : Writer) (q : Fin 512) (n : BitVec 32)
  /-- COMPLETION_RECORD_WRITE (R339): A held completion record is written in submission order once its ring slot is free, and MSI-X is raised. -/
  | completionRecordWrite (q : Fin 512)
  /-- JOB_DISPATCH (R335): The queue manager starts a ready job on an engine chosen by placement, suspending lower-priority jobs. -/
  | jobDispatch
  /-- QUEUE_ENABLE (R329): Enabling a queue checks the pool, the priority and the completion ring. -/
  | queueEnable (p : Path)
  /-- ENGINE_PARTITION_MOVE (R330): A move of an engine to another partition in DEPOT scrubs the store room and clears its caches first. -/
  | enginePartitionMove (p : Path) (e : Fin 48) (part : Byte)
  /-- PARTITION_MOVE_SCRUB_DONE (R330): The store-room scrub for a partition move completes, and the move applies. -/
  | partitionMoveScrubDone (e : Fin 48)
  /-- PARTITION_RESET_DONE (R341): The last polder and the guest cellar are reset, and submissions are accepted again. -/
  | partitionResetDone (part : Fin 9)
  /-- RECURRENCE_SLOT_STEP (R315): A trigger of a slot-mode step reads the slot and updates state through the pointer. -/
  | recurrenceSlotStep (h : Hart) (desc : Word)
  /-- RECURRENCE_BATCH_STEP (R315): A trigger of a batch-mode step updates up to 256 rows, with per-row resets. -/
  | recurrenceBatchStep (h : Hart) (desc : Word)
  /-- RECURRENCE_STEP_DONE (R310): A Recurrence step finishes and writes its completion record, with the tag last. -/
  | recurrenceStepDone
  /-- SAMPLING_FILTER (R324): A sampling request in filter mode applies top-k and top-p and draws a token. -/
  | samplingFilter (h : Hart) (desc : Word)
  /-- SAMPLING_GUMBEL_MAX (R325): A sampling request in Gumbel-max mode chooses the token with the largest perturbed logit. -/
  | samplingGumbelMax (h : Hart) (desc : Word)
  /-- SAMPLING_DONE (R310): A sampling request finishes and writes its completion record. -/
  | samplingDone
  /-- MIX4_LOAD (R320): A load from Random Unit port offset 0x20 returns Mix-4 of the port's inputs. -/
  | mix4Load (h : Hart) (rd : Fin 32) (size : Fin 4) (off : Fin 16)
  /-- STATE_SLOT_STORE (R314): A store to the Recurrence state table sets or validates a slot. -/
  | stateSlotStore (h : Hart) (slot : Fin 4096) (word : Fin 2) (v : Word)
  /-- RESET_ALL_SLOTS (R316): A write of 1 to 0x4810:08 sets the reset flag of every valid slot. -/
  | resetAllSlots (p : Path)
  /-- KEEPER_LOCKSTEP_MISMATCH (R356): The output compare of a Keeper pair disagrees, which is class S. -/
  | keeperLockstepMismatch (pair : Fin 2)
  /-- ALIVE_RESPONSE (R352): A Keeper writes its alive response to its safety controller port. -/
  | aliveResponse (pair : Fin 2) (v : BitVec 16)
  /-- ALIVE_CHECK (R352): Every 1,000 ticks both ports are checked for a valid response, and a new challenge is set. -/
  | aliveCheck
  /-- SAFE_ERR_TOGGLE (R350): The SAFE_ERR pins change after each TICK edge that is a multiple of 500. -/
  | safeErrToggle
  /-- SAFE_COMMIT (R353): SAFE commits at the first TICK edge after the detection, holding the outputs, the Keepers and the engines. -/
  | safeCommit
  /-- KEEPER_SPLIT_REQUEST (R359): A write of 0x01 to 0x5010:01 requests a run-time split and signals both pairs. -/
  | keeperSplitRequest (p : Path)
  /-- HANDOVER_ACK (R359): A pair's firmware writes 0x01 to port offset 0x010. -/
  | handoverAck (pair : Fin 2)
  /-- KEEPER_SPLIT_COMMIT (R359): At the first TICK edge after both acknowledgements the compare stops and cores 1 and 3 start. -/
  | keeperSplitCommit
  /-- KEEPER_SPLIT_TIMEOUT (R359): Acknowledgements missing after 1,000 ticks abandon the split. -/
  | keeperSplitTimeout
  /-- KEEPER_REJOIN_REQUEST (R360): A write of 0x00 to 0x5010:01, or entry to HANDOVER, starts a rejoin. -/
  | keeperRejoinRequest (p : Path)
  /-- KEEPER_REJOIN_ACK_TIMEOUT (R360): Without an acknowledgement, the rejoin proceeds after 1,000 ticks. -/
  | keeperRejoinAckTimeout
  /-- KEEPER_REJOIN_DONE (R360): Keeper LBIST and the reload finish, and both pairs start in lockstep. -/
  | keeperRejoinDone (pass : Bool)
  /-- TWIN_PERIODIC_COMPARE (R362): Twin signatures are compared at least every 1,024 FCLK cycles while a context runs. -/
  | twinPeriodicCompare (pair : Fin 24) (ctx : Fin 64) (agree : Bool)
  /-- POST_MISMATCH_LBIST_DONE (R363): The post-mismatch LBIST ends; a failing engine goes out of service, otherwise the dike opens. -/
  | postMismatchLbistDone (pair : Fin 24) (passEven passOdd : Bool)
  /-- LBIST_WITHDRAW (R365): 24 ticks before its slot the engine is withdrawn from placement. -/
  | lbistWithdraw (e : Fin 48)
  /-- LBIST_SLOT_START (R365): At slot start the contexts are suspended and the rotating test begins. -/
  | lbistSlotStart (e : Fin 48)
  /-- LBIST_SKIP (R365): TOPs still running 100 ticks into the slot skip the test. -/
  | lbistSkip (e : Fin 48)
  /-- LBIST_TEST_DONE (R366): The rotating test ends; a fail takes the engine out of service, otherwise it resumes. -/
  | lbistTestDone (e : Fin 48) (pass : Bool)
  /-- STORE_ROOM_SCRUB (R367): Store rooms are read in full every 8,000 ticks, correcting or poisoning words. -/
  | storeRoomScrub (e : Fin 48) (errs : List ScrubError)
  /-- CELLAR_SCRUB (R367): The host region is read in full every 25,000 ticks. -/
  | cellarScrub (errs : List ScrubError)
  /-- CLOCK_MONITOR_FAULT (R368): A clock stopped or out of ±3 %, or a lost lock, is a class-S detection with code 0x08. -/
  | clockMonitorFault (clk : MonClock) (lockLost : Bool)
  /-- RAIL_FAULT (R369): A rail excursion of 200 ns or more beyond a threshold is a class-S detection with code 0x09. -/
  | railFault (rail : Fin 8) (high : Bool) (mv : BitVec 16)
  /-- WATCHDOG_KICK (R378): A read of 0x5100:01 returns the interval and restarts the host watchdog. -/
  | watchdogKick (p : Path)
  /-- WATCHDOG_EXPIRY (R380): The watchdog expires: EMCY 0x6010, then class S in DRIVE or re-arm. -/
  | watchdogExpiry
  /-- DEADLOCK_SCAN (R382): Every 4,096 FCLK cycles the wait-for graph is scanned, and a cycle found twice is declared. -/
  | deadlockScan
  /-- DIKE_DRAIN_EXPIRY (R385): The drain ends at 50 ticks and the remaining jobs complete with ABORTED_FENCE. -/
  | dikeDrainExpiry (e : Fin 48)
  /-- DIKE_RESET_DONE (R385): The engine reset finishes and the store-room scrub starts. -/
  | dikeResetDone (e : Fin 48)
  /-- DIKE_SCRUB_DONE (R385): The store-room scrub finishes. -/
  | dikeScrubDone (e : Fin 48)
  /-- DIKE_OPEN (R385): At the first TICK edge after the scrub the polder returns to placement. -/
  | dikeOpen (e : Fin 48)
  /-- POLDER_RESET_REQUEST (R387): A write of 0x01 to 0x4020:01 closes the engine's dike with cause 0x05. -/
  | polderResetRequest (p : Path)
  /-- COUNT_SOURCE_SAMPLE (R401): Every 1,000 ticks each count-source channel takes one sample. -/
  | countSourceSample
  /-- WEIR_HOLDOFF_END (R406): At the end of a 1,000-tick hold-off, a pending crossing is notified. -/
  | weirHoldoffEnd (m : Fin 24)
  /-- MONITOR_CLEAR (R404): A write of 1 to 0x7000:0B empties the channel's statistics. -/
  | monitorClear (p : Path)
  /-- COUNTER_BANK_CLEAR (R410): A write of 1 to 0x4030:10 zeroes the bank's counts and overflow bits. -/
  | counterBankClear (p : Path)
  /-- SAMPLED_INSTRUCTION_DONE (R414): A sampled instruction completes and its record enters the sampling buffer. -/
  | sampledInstructionDone (e : Fin 48) (info : SampleInfo)
  /-- SAMPLE_BUFFER_CLEAR (R415): A write of 1 to 0x7040:06 empties the buffer. -/
  | sampleBufferClear (p : Path)
  /-- SAMPLE_RECORD_LATCH (R415): A write of 0x7040:07 latches the record at that index for the path. -/
  | sampleRecordLatch (p : Path) (i : BitVec 16)
  /-- ENTRY_WIPE_DONE (R421): The DEPOT entry wipe finishes, and guests, JOIN or manager service start. -/
  | entryWipeDone
  /-- DEPOT_SUSPEND (R419): A write of 1 to 0x6100:03 in DEPOT triggers HANDOVER. -/
  | depotSuspend (p : Path)
  /-- GUEST_ENABLE (R424): A write of 1 to 0x6021:01 starts a local guest after checking its window. -/
  | guestEnable (p : Path)
  /-- GUEST_START_DONE (R424): The window is zeroed under new keys, the map is built and the virtual function is enabled. -/
  | guestStartDone (g : Fin 8)
  /-- GUEST_DISABLE (R428): A write of 0 to 0x6021:01 starts the guest wipe. -/
  | guestDisable (p : Path)
  /-- GUEST_WIPE_DONE (R428): Keys destroyed, window zeroed, polders scrubbed and map removed. -/
  | guestWipeDone (g : Fin 8)
  /-- JOIN (R431): A worker's JOIN reaches the manager, which answers JOIN_ACK. -/
  | fleetJoin (src : BitVec 32) (m : List Byte)
  /-- JOIN_ACK (R434): The manager's JOIN_ACK starts the worker's heartbeat schedule. -/
  | joinAck (src : BitVec 32) (m : List Byte)
  /-- HEARTBEAT (R432): A worker heartbeat reaches the manager and is answered. -/
  | fleetHeartbeat (src : BitVec 32) (m : List Byte)
  /-- HEARTBEAT_ACK (R431): A manager acknowledges a worker message. -/
  | fleetHeartbeatAck (src : BitVec 32) (m : List Byte)
  /-- LEAVE (R431): A worker announces that it leaves DEPOT. -/
  | fleetLeave (src : BitVec 32) (m : List Byte)
  /-- JOB_OFFER (R433): A worker receives an offer and accepts, starting a guest, or refuses within 1 ms. -/
  | jobOffer (src : BitVec 32) (m : List Byte)
  /-- JOB_ACCEPT (R438): The manager records an accepted offer. -/
  | jobAccept (src : BitVec 32) (m : List Byte)
  /-- JOB_REFUSE (R438): The manager moves a refused offer to the next qualifying worker. -/
  | jobRefuse (src : BitVec 32) (m : List Byte)
  /-- JOB_STARTED (R436): A worker reports that the restore finished and the job runs. -/
  | jobStarted (src : BitVec 32) (m : List Byte)
  /-- CHECKPOINT_REQ (R437): The manager asks a worker for a checkpoint, which stops the guest and captures it. -/
  | checkpointReq (src : BitVec 32) (m : List Byte)
  /-- CHECKPOINT_DONE (R436): A worker reports a taken checkpoint's manifest hash. -/
  | checkpointDone (src : BitVec 32) (m : List Byte)
  /-- JOB_DONE (R436): A worker reports a finished, failed or faulted job. -/
  | jobDone (src : BitVec 32) (m : List Byte)
  /-- EVICT (R436): The manager evicts a job with or without a checkpoint, and the guest is wiped. -/
  | jobEvict (src : BitVec 32) (m : List Byte)
  /-- JOB_EVICTED (R435): A worker reports an evicted job's manifest, and the manager requeues it. -/
  | jobEvicted (src : BitVec 32) (m : List Byte)
  /-- FLEET_RESEND_TIMER (R431): An unanswered fleet message is sent again every 100 ms. -/
  | fleetResendTimer
  /-- WORKER_HEARTBEAT_TIMER (R434): A worker sends HEARTBEAT every 100,000 ticks after its JOIN_ACK, or JOIN while the manager is lost. -/
  | workerHeartbeatTimer
  /-- MANAGER_LOSS (R434): No manager message for the manager-loss time makes the worker manager lost. -/
  | managerLoss
  /-- WORKER_LOSS (R435): No worker message for the worker-loss time returns that worker's jobs to the queue. -/
  | workerLoss (serial : BitVec 64)
  /-- CHECKPOINT_INTERVAL (R436): The offer's checkpoint interval expires and a periodic checkpoint is taken. -/
  | checkpointInterval (g : Fin 8)
  /-- MANAGER_JOB_SUBMIT (R438): A DOMAIN download to 0x6110:03 queues a job with the next job ID. -/
  | managerJobSubmit (p : Path) (offer : List Byte)
  /-- FLEET_JOB_OFFER (R438): The manager offers the oldest queued job to the qualifying worker with the most free engines. -/
  | fleetJobOffer
  /-- OFFER_TIMEOUT (R438): No answer within 500 ms moves the offer to the next worker. -/
  | offerTimeout (job : BitVec 64)
  /-- QUIESCE_DONE (R439): Every guest has stopped, and the checkpoint phase begins. -/
  | quiesceDone
  /-- CHECKPOINT_LIMIT_EXPIRY (R439): At t0 plus the checkpoint limit, unfinished guests are abandoned and the exit wipe starts. -/
  | checkpointLimitExpiry
  /-- EXIT_WIPE_DONE (R429): The exit wipe finishes, and the drive return of R91 follows. -/
  | exitWipeDone
  /-- HASH_BATCH_READY (R449): 128 window chunk hashes are ready and are sent in a HAVE_QUERY. -/
  | hashBatchReady (g : Fin 8)
  /-- HAVE_QUERY (R450): The manager answers which queried hashes it holds. -/
  | haveQuery (src : BitVec 32) (m : List Byte)
  /-- HAVE_REPLY (R449): A worker records which of its chunks the manager lacks. -/
  | haveReply (src : BitVec 32) (m : List Byte)
  /-- PULL (R447): The holder sends the requested segments of an object. -/
  | fleetPull (src : BitVec 32) (m : List Byte)
  /-- SEGMENT (R448): A received segment is stored; the last one triggers the object's hash check. -/
  | fleetSegment (src : BitVec 32) (m : List Byte)
  /-- NOT_HELD (R452): The holder lacks the object, and a restore fails with status 0x24. -/
  | notHeld (src : BitVec 32) (m : List Byte)
  /-- MANIFEST_OFFER (R450): The manager pulls and checks the manifest and its missing chunks, then answers. -/
  | manifestOffer (src : BitVec 32) (m : List Byte)
  /-- MANIFEST_RESULT (R449): The worker learns whether the checkpoint was taken. -/
  | manifestResult (src : BitVec 32) (m : List Byte)
  /-- RESTORE_FAILED (R451): The manager drops a failed chunk's hash from its index. -/
  | restoreFailed (src : BitVec 32) (m : List Byte)
  /-- SEGMENT_IDLE_TIMEOUT (R447): No SEGMENT for 20 ms sends a PULL for the missing segments. -/
  | segmentIdleTimeout (hash : BitVec 256)
  /-- RESULT_REOFFER (R449): An untaken result checkpoint is offered again every 1 s. -/
  | resultReoffer (g : Fin 8)
  /-- PUT_CHUNK (R456): A download to 0x6120:07 stores a chunk under its computed hash. -/
  | putChunk (p : Path) (data : List Byte)
  /-- PUT_MANIFEST (R456): A download to 0x6120:08 stores a checked manifest. -/
  | putManifest (p : Path) (data : List Byte)
  /-- LINK_TRAINING_STEP_DONE (R459): A Fuind training step completes, and the port advances toward Active. -/
  | linkTrainingStepDone (port : Fin 2) (lanes : Fin 3)
  /-- LINK_TRAINING_FAILURE (R460): A failed training retries; three in a row hold the port down. -/
  | linkTrainingFailure (port : Fin 2)
  /-- FLIT_TIMEOUT (R460): No valid flit for 4 ticks retrains the port. -/
  | flitTimeout (port : Fin 2)
  /-- DATA_FLIT (R463): A data flit is accepted in sequence or discarded with a NAK. -/
  | dataFlit (port : Fin 2) (flit : List Byte)
  /-- NAK_FLIT (R463): A NAK makes the sender resend from the named flit. -/
  | nakFlit (port : Fin 2) (flit : List Byte)
  /-- CREDIT_INIT_FLIT (R465): A credit initialisation flit grants the receiver's buffers. -/
  | creditInitFlit (port : Fin 2) (flit : List Byte)
  /-- IDLE_FLIT (R461): An idle flit carries only an acknowledge and a credit return. -/
  | idleFlit (port : Fin 2) (flit : List Byte)
  /-- REPLAY_TIMEOUT (R463): The oldest unacknowledged flit is resent after 2 µs without progress. -/
  | replayTimeout (port : Fin 2)
  /-- HELLO (R462): A HELLO is checked for same ID, configuration and wiring before message traffic is admitted. -/
  | fuindHello (port : Fin 2) (m : List Byte)
  /-- HELLO_RETRY (R462): A port with a wiring error repeats the hello exchange every 100 ms. -/
  | helloRetry (port : Fin 2)
  /-- FUIND_HEARTBEAT (R470): A received heartbeat marks the source present and decides the roles. -/
  | fuindHeartbeat (port : Fin 2) (m : List Byte)
  /-- FUIND_HEARTBEAT_TIMER (R470): Every 10 ticks each device sends HEARTBEAT to the others. -/
  | fuindHeartbeatTimer
  /-- DEVICE_LOSS (R470): A device not heard from within the loss time is no longer present. -/
  | deviceLoss (id : Fin 4)
  /-- FORMATION_LIMIT (R470): A cascade not formed within the limit goes on as incomplete. -/
  | formationLimit
  /-- RECORD (R472): The master forwards a member's record on its own record paths. -/
  | fuindRecord (port : Fin 2) (m : List Byte)
  /-- COMPARE (R473): A received COMPARE is paired with the local strip and counted as a match or mismatch. -/
  | fuindCompare (port : Fin 2) (m : List Byte)
  /-- COMPARE_UNMATCHED (R473): A strip with no counterpart within the match window counts as unmatched. -/
  | compareUnmatched (s : Fin 96) (strip : Nat)
  /-- IMAGE (R471): An IMAGE message writes image bytes into the staging window; the last one ends delivery. -/
  | fuindImage (port : Fin 2) (m : List Byte)
  /-- DICTIONARY (R474): A dictionary message for another device is forwarded and served there on path 0x30. -/
  | fuindDictionary (port : Fin 2) (m : List Byte)
  /-- AVS_EVALUATION (R482): Every 10 ticks the AVS loop adjusts the VCORE set point. -/
  | avsEvaluation (pathMin : BitVec 16) (margin warning acked : Bool)
  /-- AVS_NO_RESPONSE (R516): Three unanswered frames or a regulator fault hold the set point and retry every 10 ticks. -/
  | avsNoResponse (regulatorFault : Bool)
  /-- DROOP_TRIP (R483): VCORE below the trip level stretches FCLK from the second edge after the crossing. -/
  | droopTrip
  /-- DROOP_RELEASE (R483): 64 stretched cycles with VCORE recovered end the stretch. -/
  | droopRelease (cycles : BitVec 32)
  /-- DROOP_MARGIN_EVALUATION (R484): Every 1,000 ticks the trip margin m is raised or lowered. -/
  | droopMarginEvaluation
  /-- POWER_SAMPLE (R487): Each tick the power loop adjusts the power limit on d against the cap. -/
  | powerSample (avg : BitVec 32) (rails : List (BitVec 16)) (traffic : Nat)
  /-- SPILL_LEVEL_EVALUATION (R488): Every 1,000 ticks the spill loop lowers or raises L. -/
  | spillLevelEvaluation
  /-- DISAGREEMENT_HOLDOFF_END (R480): At the end of the 1 s hold-off a pending disagreement is journaled with EMCY 0xFF08. -/
  | disagreementHoldoffEnd
  /-- TRST_N_ASSERT (R496): Asserting TRST_N ends the SDAP session and resumes halted targets. -/
  | trstNAssert
  /-- EXTEST (R494): Boundary-scan EXTEST, effective only in BENCH with a session open. -/
  | extest
  /-- IDCODE (R494): Selects the 32-bit IDCODE register. -/
  | idcode
  /-- SAMPLE_PRELOAD (R494): Boundary-scan sample and preload. -/
  | samplePreload
  /-- BYPASS (R494): Selects the 1-bit bypass register. -/
  | bypass
  /-- SDAP_OBJECT_READ (R497): SDAP operation 0x01 reads an object, quiet or active. -/
  | sdapObjectRead (idx : BitVec 16) (sub : Byte) (active : Bool)
  /-- SDAP_OBJECT_WRITE (R496): SDAP operation 0x02 writes an object on path 0x38. -/
  | sdapObjectWrite (idx : BitVec 16) (sub : Byte) (data : List Byte)
  /-- SDAP_HALT (R498): SDAP operation 0x03 halts a target in BENCH; a Keeper halt in DRIVE demands SAFE. -/
  | sdapHalt (target : Byte)
  /-- SDAP_RESUME (R498): SDAP operation 0x04 resumes a halted target. -/
  | sdapResume (target : Byte)
  /-- SDAP_STEP (R498): SDAP operation 0x05 executes one instruction of a halted target. -/
  | sdapStep (target : Byte)
  /-- SDAP_SESSION_OPEN (R496): SDAP operation 0x06 opens the session and brings path 0x38 into being. -/
  | sdapSessionOpen
  /-- SDAP_SESSION_CLOSE (R496): SDAP operation 0x07 closes the session and resumes halted targets. -/
  | sdapSessionClose
  /-- SDAP_DEBUG_RESET (R501): SDAP operation 0x08 is a device reset with cause 0x06. -/
  | sdapDebugReset
  /-- SDAP_ENGINE_RESET (R501): SDAP operation 0x09 closes the target engine's dike with cause 0x07. -/
  | sdapEngineReset (target : Byte)
  /-- SDAP_MEMORY_READ (R496): SDAP operation 0x0A reads 8 aligned bytes of the map. -/
  | sdapMemoryRead (a : BitVec 48)
  /-- SDAP_MEMORY_WRITE (R496): SDAP operation 0x0B writes 8 aligned bytes of the map. -/
  | sdapMemoryWrite (a : BitVec 48) (d : Word)
  /-- VAON_RETURN_TO_RANGE (R46): VAON comes back into range while PORST_N stays released, and the Pumping Station leaves OFF toward PARKED, recording a cause-0x02 or 0x01 entry. -/
  | vaonReturnToRange
  /-- RAIL_RETURN_TO_RANGE (R140): A monitored rail that was outside its thresholds returns inside them, clearing error-register bit [2] and sending EMCY 0x0000 when the register reaches 0. -/
  | railReturnToRange (rail : Fin 8) (mv : BitVec 16)
  /-- PLL_LOCK_REGAINED (R40): A fast PLL that lost lock regains it, and the bounds stated in its clock hold again. -/
  | pllLockRegained (clk : MonClock)
  /-- ETHERNET_LINK_CHANGE (R197): A 25GBASE-T1 link goes down or comes up, changing asCapable on the gPTP port and entering holdover when it is lost. -/
  | ethernetLinkChange (port : Fin 2) (up : Bool)
  /-- PCIE_HOT_RESET (R72): A PCIe hot reset resets only the PCIe function and leaves no reset-history entry. -/
  | pcieHotReset
  /-- CAN_BUS_ERROR (R141): A CAN port detects an error or a receive overrun on the bus, updates its error counters and may enter or leave error passive or bus-off, with EMCY 0x8110 or 0x8120. -/
  | canBusError (port : Fin 2) (overrun : Bool) (tec rec : Nat)
  /-- CAN_SUCCESSFUL_TRANSMISSION (R142): A frame finishes transmission without error, which resets its identifier's consecutive collision count to zero. -/
  | canSuccessfulTransmission (port : Fin 2) (id : BitVec 29) (ide : Bool)
  /-- ILLEGAL_INSTRUCTION (R258): A context or Keeper core executes a word that is reserved, has non-zero must-be-0 fields, is all zero or lies outside its profile, and raises exception 0x01. -/
  | illegalInstruction (h : Hart) (met : MetWord)
  /-- INSTRUCTION_FETCH_FAULT (R282): An instruction fetch from an unmapped, non-executable or disallowed address raises its memory exception with EPC at the fetch address. -/
  | instructionFetchFault (h : Hart) (kind : Fin 8) (met : MetFault)
  deriving DecidableEq, Repr

end Sys2Proof
end

