-- ==== Sys2Proof/Machine/Crypto.lean ====
section
/-! DEFINITION. SHA-256 (FIPS 180-4) and ECDSA over P-256 (FIPS 186-5): the hash and the signature of R87, R445 and R448. -/

namespace Sys2Proof.Machine

open Sys2Proof

/-! ## SHA-256 -/

/-- The round constants. -/
def shaK : List (BitVec 32) :=
  [0x428A2F98, 0x71374491, 0xB5C0FBCF, 0xE9B5DBA5, 0x3956C25B, 0x59F111F1, 0x923F82A4, 0xAB1C5ED5, 0xD807AA98, 0x12835B01, 0x243185BE, 0x550C7DC3, 0x72BE5D74, 0x80DEB1FE, 0x9BDC06A7, 0xC19BF174,
   0xE49B69C1, 0xEFBE4786, 0x0FC19DC6, 0x240CA1CC, 0x2DE92C6F, 0x4A7484AA, 0x5CB0A9DC, 0x76F988DA, 0x983E5152, 0xA831C66D, 0xB00327C8, 0xBF597FC7, 0xC6E00BF3, 0xD5A79147, 0x06CA6351, 0x14292967]
  ++
  [0x27B70A85, 0x2E1B2138, 0x4D2C6DFC, 0x53380D13, 0x650A7354, 0x766A0ABB, 0x81C2C92E, 0x92722C85, 0xA2BFE8A1, 0xA81A664B, 0xC24B8B70, 0xC76C51A3, 0xD192E819, 0xD6990624, 0xF40E3585, 0x106AA070,
   0x19A4C116, 0x1E376C08, 0x2748774C, 0x34B0BCB5, 0x391C0CB3, 0x4ED8AA4A, 0x5B9CCA4F, 0x682E6FF3, 0x748F82EE, 0x78A5636F, 0x84C87814, 0x8CC70208, 0x90BEFFFA, 0xA4506CEB, 0xBEF9A3F7, 0xC67178F2]

/-- The initial hash value. -/
def shaInit : List (BitVec 32) := [0x6A09E667, 0xBB67AE85, 0x3C6EF372, 0xA54FF53A, 0x510E527F, 0x9B05688C, 0x1F83D9AB, 0x5BE0CD19]

/-- The big-endian bytes of a value. -/
def beBytes (n v : Nat) : List Byte := (leBytes n v).reverse

/-- The padded message. -/
def shaPad (m : List Byte) : List Byte :=
  m ++ [0x80] ++ zeros ((119 - m.length % 64) % 64) ++ beBytes 8 (8 * m.length)

/-- One more word of the schedule, which is held newest first. -/
def shaNext (w : List (BitVec 32)) : List (BitVec 32) :=
  let x := w.getD 1 0
  let y := w.getD 14 0
  ((x.rotateRight 17 ^^^ x.rotateRight 19 ^^^ (x >>> 10)) + w.getD 6 0 +
    (y.rotateRight 7 ^^^ y.rotateRight 18 ^^^ (y >>> 3)) + w.getD 15 0) :: w

/-- The schedule of a block, oldest first. -/
def shaSchedule (block : List Byte) : List (BitVec 32) :=
  let w0 := (List.range 16).map fun k => BitVec.ofNat 32 (beVal (slice block (4 * k) 4))
  ((List.range 48).foldl (fun w _ => shaNext w) w0.reverse).reverse

/-- One round. -/
def shaRound (h : List (BitVec 32)) (kw : BitVec 32 × BitVec 32) : List (BitVec 32) :=
  match h with
  | [a, b, c, d, e, f, g, i] =>
    let t1 := i + (e.rotateRight 6 ^^^ e.rotateRight 11 ^^^ e.rotateRight 25) + ((e &&& f) ^^^ (~~~e &&& g)) + kw.1 + kw.2
    let t2 := (a.rotateRight 2 ^^^ a.rotateRight 13 ^^^ a.rotateRight 22) + ((a &&& b) ^^^ (a &&& c) ^^^ (b &&& c))
    [t1 + t2, a, b, c, d + t1, e, f, g]
  | l => l

/-- One block. -/
def shaBlock (h : List (BitVec 32)) (block : List Byte) : List (BitVec 32) :=
  List.zipWith (· + ·) h ((shaK.zip (shaSchedule block)).foldl shaRound h)

/-- SHA-256 of bytes: 32 bytes. -/
def sha256 (m : List Byte) : List Byte :=
  let p := shaPad m
  ((List.range (p.length / 64)).foldl (fun h k => shaBlock h (slice p (64 * k) 64)) shaInit).flatMap fun w => beBytes 4 w.toNat

/-! ## ECDSA over P-256 -/

/-- The field prime. -/
def p256 : Nat := 0xFFFFFFFF00000001000000000000000000000000FFFFFFFFFFFFFFFFFFFFFFFF
/-- The order of the base point. -/
def n256 : Nat := 0xFFFFFFFF00000000FFFFFFFFFFFFFFFFBCE6FAADA7179E84F3B9CAC2FC632551
/-- The coefficient b of y² = x³ - 3x + b. -/
def b256 : Nat := 0x5AC635D8AA3A93E7B3EBBD55769886BC651D06B0CC53B0F63BCE3C3E27D2604B
/-- The base point. -/
def g256 : Nat × Nat :=
  (0x6B17D1F2E12C4247F8BCE6E563A440F277037D812DEB33A0F4A13945D898C296,
   0x4FE342E2FE1A7F9B8EE7EB4A7C0F9E162BCE33576B315ECECBB6406837BF51F5)

/-- A power modulo m, by the 256 bits of the exponent. -/
def powMod (m b e : Nat) : Nat :=
  ((List.range 256).foldl (fun a k => (if e.testBit k then a.1 * a.2 % m else a.1, a.2 * a.2 % m)) (1 % m, b % m)).1

/-- The inverse modulo a prime. -/
def invMod (m a : Nat) : Nat := powMod m a (m - 2)

/-- A difference modulo the field prime. -/
def subP (a b : Nat) : Nat := (a + p256 - b % p256) % p256

/-- The third point of a line of the given slope. -/
def chord (l x1 y1 x2 : Nat) : Nat × Nat :=
  let x := subP (l * l) (x1 + x2)
  (x, subP (l * subP x1 x) y1)

/-- The sum of two points; none is the point at infinity. -/
def ecAdd (p q : Option (Nat × Nat)) : Option (Nat × Nat) :=
  match p, q with
  | none, q => q
  | p, none => p
  | some a, some b =>
    if a.1 = b.1 then
      if a.2 = b.2 && a.2 != 0 then
        some (chord (subP (3 * a.1 * a.1) 3 * invMod p256 (2 * a.2) % p256) a.1 a.2 b.1)
      else none
    else some (chord (subP b.2 a.2 * invMod p256 (subP b.1 a.1) % p256) a.1 a.2 b.1)

/-- A multiple of a point. -/
def ecMul (k : Nat) (p : Nat × Nat) : Option (Nat × Nat) :=
  ((List.range 256).foldl (fun (a : Option (Nat × Nat) × Option (Nat × Nat)) i =>
    (if k.testBit i then ecAdd a.1 a.2 else a.1, ecAdd a.2 a.2)) (none, some p)).1

/-- Whether a point lies on the curve. -/
def onCurve (p : Nat × Nat) : Bool :=
  p.1 < p256 && p.2 < p256 && p.2 * p.2 % p256 == subP (p.1 * p.1 * p.1 + b256) (3 * p.1)

/-- Whether (r, s) is the signature of a hash under a public key. -/
def ecdsaValid (key : Nat × Nat) (hash r s : Nat) : Bool :=
  if !onCurve key || r = 0 || s = 0 || n256 ≤ r || n256 ≤ s then false
  else
    let w := invMod n256 s
    match ecAdd (ecMul (hash * w % n256) g256) (ecMul (r * w % n256) key) with
    | some p => p.1 % n256 == r
    | none => false

end Sys2Proof.Machine
end

