-- ==== Sys2Proof/Config.lean ====
section
/-! DEFINITION. What an implementation fixes and what the spec leaves open: constants with no body, so that nothing
can be proved of their values. -/

namespace Sys2Proof

/-- A value the spec leaves open where the machine goes on; applied to the state's counter `freeCtr`, it gives a fresh
value each time. DESIGN CHOICE (log entry 2). -/
opaque Config.freeWord : Nat → BitVec 64

/-- What the spec leaves open in a rectified pixel (R160, R180): how a component that falls between two numbers is rounded, what
stands for a neighbour outside the frame, and how the shared chroma of YUV422 is interpolated. Applied to the stream, the line, the
column and the component. DESIGN CHOICE (log entry 3). -/
opaque Config.rectified : Nat → Nat → Nat → Nat → Nat

/-- Whether the programming of a calibration set that a download brings reads back as it was written (R185 step 7); applied to the
state's counter `freeCtr`. DESIGN CHOICE (log entry 2). -/
opaque Config.setVerifies : Nat → Bool

/-- The alive challenge of R352 takes a new value at each check; the spec gives no rule for it. DESIGN CHOICE (log entry 2). -/
opaque Config.challenge : Nat → BitVec 16

/-- Latency of the pads by port type, ns: 1 CSI-2, 2 range, 3 near-field (R205, R213). DESIGN CHOICE (log entry 2). -/
opaque Config.stampLatency : Nat → BitVec 16

/-- Where in the host region Zorward builds the guest maps; R423 names no place. DESIGN CHOICE (log entry 28). -/
opaque Config.mapPlace : BitVec 32

/-- IEEE 754 lets an implementation detect tininess before or after rounding; R268 does not choose. DESIGN CHOICE (log
entry 7). -/
opaque Config.tinyBefore : Bool

/-- IEEE 754 lets 0 × infinity + NaN signal invalid or not; R268 does not choose. DESIGN CHOICE (log entry 7). -/
opaque Config.fmaNanInvalid : Bool

/-- Whether a less-than compare with a quiet NaN signals invalid; R268 does not say. DESIGN CHOICE (log entry 7). -/
opaque Config.compareSignals : Bool

/-- What a byte of an erased reset-history entry reads as; R78 does not say. DESIGN CHOICE (log entry 2). -/
opaque Config.erasedByte : Nat → Byte

end Sys2Proof
end

