-- ==== Sys2Proof/Machine/Amap.lean ====
section
/-! DEFINITION. Sparse tables by key, in one canonical form: keys strictly rising, no entry equal to the default. -/

namespace Sys2Proof.Machine

/-- A sparse table: pairs of a key and a value, the keys strictly rising, no value equal to the table's default. -/
abbrev Amap (β : Type) := List (Nat × β)

/-- The value at a key, or the default where the key is not listed. -/
def Amap.get {β : Type} (d : β) (m : Amap β) (k : Nat) : β :=
  match m with
  | [] => d
  | (a, b) :: t => if a = k then b else Amap.get d t k

/-- Drop a key. -/
def Amap.del {β : Type} (m : Amap β) (k : Nat) : Amap β := m.filter fun e => e.1 != k

/-- Insert a pair before the first larger key. -/
def Amap.ins {β : Type} (k : Nat) (v : β) (m : Amap β) : Amap β :=
  match m with
  | [] => [(k, v)]
  | (a, b) :: t => if k < a then (k, v) :: (a, b) :: t else (a, b) :: Amap.ins k v t

/-- Write a key: writing the default removes the entry, so equal tables are equal data. -/
def Amap.set {β : Type} [DecidableEq β] (d : β) (m : Amap β) (k : Nat) (v : β) : Amap β :=
  if v = d then Amap.del m k else Amap.ins k v (Amap.del m k)

/-- Whether the keys rise strictly. -/
def Amap.rising {β : Type} (m : Amap β) : Bool :=
  match m with
  | [] => true
  | (a, _) :: t => t.all (fun e => a < e.1) && Amap.rising t

/-- The canonical form of a table whose default depends on the key. -/
def Amap.wf {β : Type} [DecidableEq β] (d : Nat → β) (m : Amap β) : Bool :=
  Amap.rising m && m.all fun e => e.2 != d e.1

end Sys2Proof.Machine
end

