-- ==== Sys2Proof/Machine/Crc.lean ====
section
/-! DEFINITION. The check codes of the formats: CRC-32C (R6), the CRC-8 of R154, and the factory calibration set that
carries one (R176, R177). -/

namespace Sys2Proof.Machine

/-- Eight steps of the reflected CRC-32C polynomial. -/
def crc32cByte (k v : Nat) : Nat :=
  match k with
  | 0 => v
  | k + 1 => crc32cByte k (if v % 2 = 1 then v / 2 ^^^ 0x82F63B78 else v / 2)

/-- The CRC-32C register after some bytes. -/
def crc32cRun (c : Nat) (bs : List Byte) : Nat := bs.foldl (fun c b => crc32cByte 8 (c ^^^ b.toNat)) c

/-- The CRC-32C of bytes. -/
def crc32c (bs : List Byte) : Nat := crc32cRun 0xFFFFFFFF bs ^^^ 0xFFFFFFFF

/-- Eight steps of the reflected polynomial of IEEE 802.3. -/
def crc32Byte (k v : Nat) : Nat :=
  match k with
  | 0 => v
  | k + 1 => crc32Byte k (if v % 2 = 1 then v / 2 ^^^ 0xEDB88320 else v / 2)

/-- The CRC-32 of a flit (R461). -/
def crc32 (bs : List Byte) : Nat :=
  bs.foldl (fun c b => crc32Byte 8 (c ^^^ b.toNat)) 0xFFFFFFFF ^^^ 0xFFFFFFFF

/-- Eight steps of the polynomial 0x2F. -/
def crc8Byte (k v : Nat) : Nat :=
  match k with
  | 0 => v
  | k + 1 => crc8Byte k (if v.testBit 7 then (v * 2 % 256) ^^^ 0x2F else v * 2)

/-- The CRC-8 of R154. -/
def crc8 (bs : List Byte) : Nat := bs.foldl (fun c b => crc8Byte 8 (c ^^^ b.toNat)) 0xFF ^^^ 0xFF

/-- Device serial number at manufacture. DESIGN CHOICE (log entry 8): the spec names it a factory value. -/
def factorySerial : Nat := 0

/-- The set's bytes before its CRC at manufacture: generation 1, origin 0x00, no entry present, neutral trims. DESIGN CHOICE
(log entry 16): the spec gives generation and origin only. -/
def factoryBody : List Byte :=
  leBytes 4 0x41435953 ++ leBytes 2 1 ++ leBytes 2 64 ++ leBytes 4 12480 ++ leBytes 4 1 ++ leBytes 1 0 ++ leBytes 1 96 ++
  leBytes 2 128 ++ leBytes 8 factorySerial ++ zeros 36 ++ zeros 12288 ++
  zeros 16 ++ (List.range 8).flatMap (fun _ => leBytes 2 0x8000) ++ zeros 16 ++ leBytes 2 512 ++ zeros 62 ++ zeros 12

/-- The factory set (R176). -/
def factorySet : List Byte := factoryBody ++ leBytes 4 (crc32c factoryBody)

end Sys2Proof.Machine
end

