-- ==== Sys2Proof/Machine/ObjTable.lean ====
section
/-! DEFINITION. The object dictionary as a table (R95 to R98, R100): one row per entry of the spec's object tables. -/

namespace Sys2Proof.Machine

/-- The data types of R97, as far as the dictionary uses them. -/
inductive ObjTy where
  | bool
  | u (n : Nat)
  | i (n : Nat)
  /-- VISIBLE_STRING, 16 bytes for every one of the manual (R97). -/
  | str
  /-- DOMAIN with the length its chapter states; 0 where the length is not fixed. -/
  | domain (len : Nat)
  deriving DecidableEq, Repr

/-- The access codes of R98. -/
inductive Acc where
  | const
  | ro
  | wo
  | rw
  | rc
  deriving DecidableEq, Repr

/-- When an entry takes its default (R100 for rw entries; the owning chapter for the others): never (`fixed`),
over the device's life (`life`), at power-on reset (`por`), on loss of VAON (`retained`, `vaon`), at each PARKED to
WAKING commit (`volatile`, `wake`), at a stream's enable (`enable`), with its path (`path`), never but by an attic
write (`attic`). -/
inductive Cls where
  | attic
  | retained
  | volatile
  | path
  | fixed
  | life
  | por
  | vaon
  | wake
  | enable
  deriving DecidableEq, Repr

/-- The selector an index lies behind (R105). -/
inductive Sel where
  | none
  | stream
  | engine
  | queue
  | monitor
  | guest
  deriving DecidableEq, Repr

/-- How a default is given: a number, the channel, or the channel over 8. -/
inductive Dflt where
  | lit (n : Nat)
  | chan
  | chanDiv8
  deriving DecidableEq, Repr

/-- The range an entry's table row states for a written value. -/
inductive Chk where
  | any
  | range (lo hi : Nat)
  | irange (lo hi : Int)
  /-- Only the bits of the mask may be set (R13). -/
  | mask (m : Nat)
  | oneOf (l : List Nat)
  | align (n : Nat)
  | mult (k lo hi : Nat)
  /-- A power of two in the range. -/
  | pow2 (lo hi : Nat)
  /-- At most `hi`, or 0xFFFF_FFFF. -/
  | orAll (hi : Nat)
  /-- 0xB001:01: bits [4:0], bit [0] set (R67). -/
  | wake
  /-- 0xB002:05: 0x00 to 0x0F, or 0xFF (R67). -/
  | dlc
  | feed
  | hostBase
  | inval
  | armed
  deriving DecidableEq, Repr

/-- One entry, or one run of like entries, of the object tables. -/
structure ObjRow where
  idxLo : Nat
  idxHi : Nat
  subLo : Nat
  subHi : Nat
  ty : ObjTy
  acc : Acc
  /-- Marked S: a safety-relevant object (R114). -/
  sObj : Bool
  cls : Cls
  sel : Sel
  dflt : Dflt
  chk : Chk
  deriving DecidableEq, Repr

/-- Object entries of spec/01_architecture.md (R42). -/
def objTable01 : List ObjRow :=
  [⟨0x2000, 0x2000, 0x1, 0x1, .str, .const, false, .fixed, .none, .lit 0x6C61687953, .any⟩,
   ⟨0x2000, 0x2000, 0x2, 0x2, .str, .const, false, .fixed, .none, .lit 0x726F73617243, .any⟩,
   ⟨0x2000, 0x2000, 0x3, 0x3, .str, .const, false, .fixed, .none, .lit 0x3639575A43, .any⟩,
   ⟨0x2000, 0x2000, 0x4, 0x4, .str, .const, false, .fixed, .none, .lit 0x3142, .any⟩,
   ⟨0x2000, 0x2000, 0x5, 0x5, .u 8, .ro, false, .por, .none, .lit 0, .any⟩,
   ⟨0x2000, 0x2000, 0x6, 0x6, .u 64, .const, false, .fixed, .none, .lit 0, .any⟩,
   ⟨0x2001, 0x2001, 0x1, 0x1, .u 8, .ro, false, .por, .none, .lit 1, .any⟩,
   ⟨0x2001, 0x2001, 0x2, 0x2, .u 8, .ro, false, .por, .none, .lit 1, .any⟩,
   ⟨0x2001, 0x2001, 0x3, 0x3, .bool, .ro, false, .por, .none, .lit 0, .any⟩,
   ⟨0x2001, 0x2001, 0x4, 0x4, .u 8, .ro, false, .por, .none, .lit 48, .any⟩,
   ⟨0x2001, 0x2001, 0x5, 0x5, .u 8, .ro, false, .por, .none, .lit 0, .any⟩,
   ⟨0x2001, 0x2001, 0x6, 0x6, .u 8, .ro, false, .por, .none, .lit 0, .any⟩,
   ⟨0x2001, 0x2001, 0x7, 0x7, .u 8, .ro, false, .por, .none, .lit 0, .any⟩,
   ⟨0x2001, 0x2001, 0x8, 0x8, .u 16, .ro, false, .por, .none, .lit 0, .any⟩]

/-- Object entries of spec/02_pumping_station.md (R67). -/
def objTable02a : List ObjRow :=
  [⟨0xB000, 0xB000, 0x1, 0x1, .u 8, .wo, false, .fixed, .none, .lit 0, .any⟩,
   ⟨0xB000, 0xB000, 0x2, 0x2, .u 8, .ro, false, .por, .none, .lit 0, .any⟩,
   ⟨0xB000, 0xB000, 0x3, 0x3, .u 8, .ro, false, .por, .none, .lit 0, .any⟩,
   ⟨0xB000, 0xB000, 0x4, 0x4, .u 16, .rw, true, .attic, .none, .lit 2000, .range 0 10000⟩,
   ⟨0xB000, 0xB000, 0x5, 0x5, .u 32, .ro, false, .por, .none, .lit 0, .any⟩,
   ⟨0xB000, 0xB000, 0x6, 0x6, .u 64, .ro, false, .por, .none, .lit 0, .any⟩,
   ⟨0xB001, 0xB001, 0x1, 0x1, .u 8, .rw, false, .retained, .none, .lit 1, .wake⟩,
   ⟨0xB001, 0xB001, 0x2, 0x2, .u 8, .rc, false, .por, .none, .lit 0, .any⟩,
   ⟨0xB001, 0xB001, 0x3, 0x3, .u 8, .ro, false, .por, .none, .lit 255, .any⟩,
   ⟨0xB001, 0xB001, 0x4, 0x4, .u 32, .rw, false, .retained, .none, .lit 0x7530, .range 1000 600000⟩,
   ⟨0xB001, 0xB001, 0x5, 0x5, .bool, .rw, false, .retained, .none, .lit 0, .any⟩,
   ⟨0xB001, 0xB001, 0x6, 0x6, .u 32, .ro, false, .por, .none, .lit 0, .any⟩,
   ⟨0xB001, 0xB001, 0x7, 0x7, .u 64, .rw, false, .retained, .none, .lit 0, .any⟩,
   ⟨0xB001, 0xB001, 0x8, 0x8, .u 8, .ro, false, .por, .none, .lit 0, .any⟩,
   ⟨0xB002, 0xB002, 0x1, 0x1, .u 32, .rw, false, .retained, .none, .lit 0, .mask 0x9FFFFFFF⟩,
   ⟨0xB002, 0xB002, 0x2, 0x2, .u 32, .rw, false, .retained, .none, .lit 0x1FFFFFFF, .mask 0x1FFFFFFF⟩,
   ⟨0xB002, 0xB002, 0x3, 0x3, .u 64, .rw, false, .retained, .none, .lit 0, .any⟩,
   ⟨0xB002, 0xB002, 0x4, 0x4, .u 64, .rw, false, .retained, .none, .lit 0, .any⟩,
   ⟨0xB002, 0xB002, 0x5, 0x5, .u 8, .rw, false, .retained, .none, .lit 255, .dlc⟩,
   ⟨0xB002, 0xB002, 0x6, 0x6, .u 32, .rw, false, .retained, .none, .lit 0x7A120, .oneOf [125000, 250000, 500000]⟩,
   ⟨0xB002, 0xB002, 0x7, 0x7, .u 32, .ro, false, .por, .none, .lit 0, .any⟩,
   ⟨0xB002, 0xB002, 0x8, 0x8, .u 32, .ro, false, .por, .none, .lit 0, .any⟩,
   ⟨0xB002, 0xB002, 0x9, 0x9, .u 32, .ro, false, .por, .none, .lit 0, .any⟩,
   ⟨0xB003, 0xB003, 0x1, 0x1, .i 16, .ro, false, .por, .none, .lit 0, .any⟩,
   ⟨0xB003, 0xB003, 0x2, 0x2, .u 16, .ro, false, .por, .none, .lit 0, .any⟩,
   ⟨0xB003, 0xB003, 0x3, 0x3, .u 16, .ro, false, .por, .none, .lit 0, .any⟩,
   ⟨0xB003, 0xB003, 0x4, 0x4, .i 16, .ro, false, .por, .none, .lit 0, .any⟩,
   ⟨0xB003, 0xB003, 0x5, 0x5, .u 16, .ro, false, .por, .none, .lit 0, .any⟩,
   ⟨0xB004, 0xB004, 0x1, 0x1, .u 64, .ro, false, .por, .none, .lit 0, .any⟩,
   ⟨0xB010, 0xB010, 0x1, 0x1, .u 16, .rw, false, .volatile, .none, .lit 64, .range 16 4096⟩]

/-- Object entries of spec/02_pumping_station.md (R67). -/
def objTable02b : List ObjRow :=
  [⟨0xB010, 0xB010, 0x2, 0x2, .u 8, .rw, false, .volatile, .none, .lit 2, .range 0 2⟩,
   ⟨0xB010, 0xB010, 0x3, 0x3, .u 32, .rw, false, .volatile, .none, .lit 1000, .range 10 1000000⟩,
   ⟨0xB010, 0xB010, 0x4, 0x4, .u 64, .ro, false, .wake, .none, .lit 0, .any⟩,
   ⟨0xB010, 0xB010, 0x5, 0x5, .u 64, .ro, false, .wake, .none, .lit 0, .any⟩,
   ⟨0xB010, 0xB010, 0x6, 0x6, .u 64, .ro, false, .wake, .none, .lit 0, .any⟩,
   ⟨0xB011, 0xB011, 0x1, 0x1, .u 32, .rw, false, .volatile, .none, .lit 200, .range 10 60000⟩,
   ⟨0xB011, 0xB011, 0x2, 0x2, .u 32, .ro, false, .wake, .none, .lit 0, .any⟩,
   ⟨0xB011, 0xB011, 0x3, 0x3, .u 64, .ro, false, .wake, .none, .lit 0, .any⟩]

/-- Object entries of spec/03_reset_and_startup.md (R94). -/
def objTable03 : List ObjRow :=
  [⟨0x2030, 0x2030, 0x1, 0x1, .u 8, .ro, false, .por, .none, .lit 1, .any⟩,
   ⟨0x2030, 0x2030, 0x2, 0x2, .u 32, .ro, false, .por, .none, .lit 0, .any⟩,
   ⟨0x2030, 0x2030, 0x3, 0x3, .u 16, .rw, true, .attic, .none, .lit 60, .range 10 3600⟩,
   ⟨0x2030, 0x2030, 0x4, 0x4, .u 32, .ro, false, .life, .none, .lit 0, .any⟩,
   ⟨0x2030, 0x2030, 0x5, 0x5, .u 32, .ro, false, .life, .none, .lit 0, .any⟩,
   ⟨0x2030, 0x2030, 0x6, 0x6, .u 8, .ro, false, .por, .none, .lit 0, .any⟩,
   ⟨0x2031, 0x2031, 0x1, 0x1, .u 32, .ro, false, .life, .none, .lit 0, .any⟩,
   ⟨0x2031, 0x2031, 0x2, 0x2, .u 8, .rw, false, .path, .none, .lit 0, .any⟩,
   ⟨0x2031, 0x2031, 0x3, 0x3, .u 64, .ro, false, .life, .none, .lit 0, .any⟩,
   ⟨0x2031, 0x2031, 0x4, 0x4, .u 8, .ro, false, .life, .none, .lit 0, .any⟩,
   ⟨0x2031, 0x2031, 0x5, 0x5, .u 8, .ro, false, .life, .none, .lit 0, .any⟩,
   ⟨0x2031, 0x2031, 0x6, 0x6, .u 8, .ro, false, .life, .none, .lit 0, .any⟩,
   ⟨0x2031, 0x2031, 0x7, 0x7, .u 32, .ro, false, .life, .none, .lit 0, .any⟩,
   ⟨0x2031, 0x2031, 0x8, 0x8, .u 32, .ro, false, .life, .none, .lit 0, .any⟩,
   ⟨0x2031, 0x2031, 0x9, 0x9, .u 32, .ro, false, .life, .none, .lit 0, .any⟩,
   ⟨0x2031, 0x2031, 0xA, 0xA, .u 16, .ro, false, .life, .none, .lit 0, .any⟩,
   ⟨0x2031, 0x2031, 0xB, 0xB, .u 16, .ro, false, .life, .none, .lit 0, .any⟩,
   ⟨0x2040, 0x2040, 0x1, 0x1, .bool, .rw, true, .attic, .none, .lit 0, .any⟩,
   ⟨0x2040, 0x2040, 0x2, 0x2, .u 8, .rw, true, .attic, .none, .lit 0, .range 0 1⟩,
   ⟨0x2040, 0x2040, 0x3, 0x3, .bool, .rw, true, .attic, .none, .lit 0, .any⟩,
   ⟨0x2040, 0x2040, 0x4, 0x4, .u 8, .rw, true, .attic, .none, .lit 1, .range 1 2⟩,
   ⟨0x2040, 0x2040, 0x5, 0x5, .u 8, .rw, true, .attic, .none, .lit 2, .range 1 3⟩,
   ⟨0x2040, 0x2040, 0x6, 0x6, .u 32, .rw, true, .attic, .none, .lit 0, .any⟩,
   ⟨0x2040, 0x2040, 0x7, 0x7, .domain 32, .rw, true, .attic, .none, .lit 0, .any⟩,
   ⟨0x2040, 0x2040, 0x8, 0x8, .domain 32, .rw, true, .attic, .none, .lit 0, .any⟩,
   ⟨0x2050, 0x2050, 0x1, 0x1, .u 32, .wo, false, .fixed, .none, .lit 0, .any⟩,
   ⟨0x2050, 0x2050, 0x2, 0x2, .u 8, .ro, false, .wake, .none, .lit 0, .any⟩,
   ⟨0x2050, 0x2050, 0x3, 0x3, .u 32, .ro, false, .wake, .none, .lit 0, .any⟩,
   ⟨0x2050, 0x2050, 0x4, 0x4, .domain 32, .ro, false, .wake, .none, .lit 0, .any⟩,
   ⟨0x2050, 0x2050, 0x5, 0x5, .u 8, .ro, false, .wake, .none, .lit 0, .any⟩]

/-- Object entries of spec/04_object_dictionary.md (R124). -/
def objTable04a : List ObjRow :=
  [⟨0x2010, 0x2010, 0x1, 0x1, .u 16, .wo, false, .fixed, .none, .lit 0, .any⟩,
   ⟨0x2010, 0x2010, 0x2, 0x2, .domain 24, .wo, false, .fixed, .none, .lit 0, .any⟩,
   ⟨0x2010, 0x2010, 0x3, 0x3, .u 8, .ro, false, .path, .none, .lit 0, .any⟩,
   ⟨0x2010, 0x2010, 0x4, 0x4, .u 8, .ro, false, .path, .none, .lit 0, .any⟩,
   ⟨0x2010, 0x2010, 0x5, 0x5, .u 32, .ro, false, .wake, .none, .lit 0, .any⟩,
   ⟨0x2010, 0x2010, 0x6, 0x6, .u 32, .ro, false, .wake, .none, .lit 0, .any⟩,
   ⟨0x2020, 0x2020, 0x1, 0x1, .u 32, .rw, false, .path, .none, .lit 0, .mask 0xFFFFFF⟩,
   ⟨0x2020, 0x2020, 0x2, 0x2, .u 8, .wo, false, .path, .none, .lit 0, .any⟩,
   ⟨0x2020, 0x2020, 0x3, 0x3, .u 8, .ro, false, .path, .none, .lit 0, .any⟩,
   ⟨0x2020, 0x2020, 0x4, 0x4, .u 32, .rw, false, .path, .none, .lit 0, .any⟩,
   ⟨0x2020, 0x2020, 0x5, 0x5, .u 32, .ro, false, .path, .none, .lit 0, .any⟩,
   ⟨0x2020, 0x2020, 0x6, 0x6, .u 16, .rw, false, .path, .none, .lit 0, .range 1 256⟩,
   ⟨0x2020, 0x2020, 0x7, 0x7, .u 32, .ro, false, .path, .none, .lit 0, .any⟩,
   ⟨0x2020, 0x2020, 0x8, 0x8, .u 32, .ro, false, .path, .none, .lit 0, .any⟩,
   ⟨0x2020, 0x2020, 0x10, 0x4F, .u 32, .rw, false, .path, .none, .lit 0, .any⟩,
   ⟨0x2021, 0x2021, 0x1, 0x1, .u 32, .ro, false, .path, .none, .lit 0, .any⟩,
   ⟨0x2021, 0x2021, 0x2, 0x2, .u 32, .ro, false, .path, .none, .lit 0, .any⟩,
   ⟨0x2021, 0x2021, 0x3, 0x3, .u 32, .rc, false, .path, .none, .lit 0, .any⟩,
   ⟨0x2021, 0x2021, 0x4, 0x4, .u 8, .ro, false, .path, .none, .lit 0, .any⟩,
   ⟨0x2100, 0x2100, 0x1, 0x1, .u 16, .rw, false, .path, .none, .lit 0, .range 0 95⟩,
   ⟨0x2100, 0x2100, 0x2, 0x2, .u 16, .rw, false, .path, .none, .lit 0, .range 0 47⟩,
   ⟨0x2100, 0x2100, 0x3, 0x3, .u 16, .rw, false, .path, .none, .lit 0, .range 0 511⟩,
   ⟨0x2100, 0x2100, 0x4, 0x4, .u 16, .rw, false, .path, .none, .lit 0, .range 0 23⟩,
   ⟨0x2100, 0x2100, 0x5, 0x5, .u 16, .rw, false, .path, .none, .lit 0, .range 0 7⟩,
   ⟨0x2600, 0x2600, 0x1, 0x1, .u 32, .ro, false, .vaon, .none, .lit 0, .any⟩,
   ⟨0x2600, 0x2600, 0x2, 0x2, .u 32, .ro, false, .vaon, .none, .lit 0, .any⟩,
   ⟨0x2600, 0x2600, 0x3, 0x3, .u 8, .rw, false, .path, .none, .lit 0, .any⟩,
   ⟨0x2600, 0x2600, 0x4, 0x4, .u 16, .ro, false, .path, .none, .lit 0, .any⟩,
   ⟨0x2600, 0x2600, 0x5, 0x5, .u 8, .ro, false, .path, .none, .lit 0, .any⟩,
   ⟨0x2600, 0x2600, 0x6, 0x6, .u 8, .ro, false, .path, .none, .lit 0, .any⟩]

/-- Object entries of spec/04_object_dictionary.md (R124). -/
def objTable04b : List ObjRow :=
  [⟨0x2600, 0x2600, 0x7, 0x7, .u 8, .ro, false, .path, .none, .lit 0, .any⟩,
   ⟨0x2600, 0x2600, 0x8, 0x8, .u 8, .ro, false, .path, .none, .lit 0, .any⟩,
   ⟨0x2600, 0x2600, 0x9, 0x9, .u 16, .ro, false, .path, .none, .lit 0, .any⟩,
   ⟨0x2600, 0x2600, 0xA, 0xA, .u 64, .ro, false, .path, .none, .lit 0, .any⟩,
   ⟨0x2600, 0x2600, 0xB, 0xB, .u 64, .ro, false, .path, .none, .lit 0, .any⟩,
   ⟨0x2600, 0x2600, 0xC, 0xC, .u 64, .ro, false, .path, .none, .lit 0, .any⟩,
   ⟨0x2600, 0x2600, 0xD, 0xD, .domain 32, .ro, false, .path, .none, .lit 0, .any⟩,
   ⟨0x2600, 0x2600, 0xE, 0xE, .u 32, .ro, false, .path, .none, .lit 0, .any⟩,
   ⟨0x2600, 0x2600, 0xF, 0xF, .domain 0, .ro, false, .vaon, .none, .lit 0, .any⟩]

/-- Object entries of spec/05_field_network.md (R144). -/
def objTable05a : List ObjRow :=
  [⟨0x1000, 0x1000, 0x0, 0x0, .u 32, .const, false, .fixed, .none, .lit 0, .any⟩,
   ⟨0x1001, 0x1001, 0x0, 0x0, .u 8, .ro, false, .wake, .none, .lit 0, .any⟩,
   ⟨0x1015, 0x1015, 0x0, 0x0, .u 16, .rw, false, .volatile, .none, .lit 0, .any⟩,
   ⟨0x1017, 0x1017, 0x0, 0x0, .u 16, .rw, false, .retained, .none, .lit 100, .any⟩,
   ⟨0x1014, 0x1014, 0x1, 0x1, .u 32, .rw, false, .volatile, .none, .lit 0, .mask 0xBFFFFFFF⟩,
   ⟨0x1018, 0x1018, 0x1, 0x1, .u 32, .const, false, .fixed, .none, .lit 1447, .any⟩,
   ⟨0x1018, 0x1018, 0x2, 0x2, .u 32, .const, false, .fixed, .none, .lit 0xC960, .any⟩,
   ⟨0x1018, 0x1018, 0x3, 0x3, .u 32, .const, false, .fixed, .none, .lit 2817, .any⟩,
   ⟨0x1018, 0x1018, 0x4, 0x4, .u 32, .const, false, .fixed, .none, .lit 0, .any⟩,
   ⟨0x1800, 0x1807, 0x1, 0x1, .u 32, .rw, false, .volatile, .none, .lit 0, .mask 0xBFFFFFFF⟩,
   ⟨0x1800, 0x1807, 0x2, 0x2, .u 8, .rw, false, .volatile, .none, .lit 254, .range 254 255⟩,
   ⟨0x1800, 0x1807, 0x3, 0x3, .u 16, .rw, false, .volatile, .none, .lit 0, .any⟩,
   ⟨0x1800, 0x1807, 0x5, 0x5, .u 16, .rw, false, .volatile, .none, .lit 100, .range 1 65535⟩,
   ⟨0x1800, 0x1807, 0x6, 0x6, .u 8, .rw, false, .volatile, .none, .lit 1, .mask 0x3⟩,
   ⟨0x1800, 0x1807, 0x7, 0x7, .u 32, .rw, false, .volatile, .none, .lit 0, .mask 0x1FFFF⟩,
   ⟨0x1A00, 0x1A07, 0x1, 0x1, .u 8, .rw, false, .volatile, .none, .lit 0, .range 0 32⟩,
   ⟨0x1A00, 0x1A07, 0x2, 0x21, .u 32, .rw, false, .volatile, .none, .lit 0, .any⟩,
   ⟨0x1F90, 0x1F91, 0x1, 0x1, .u 8, .rw, true, .attic, .none, .lit 0, .range 0 127⟩,
   ⟨0x1F90, 0x1F91, 0x2, 0x2, .u 8, .rw, true, .attic, .none, .lit 1, .range 0 2⟩,
   ⟨0x1F90, 0x1F91, 0x3, 0x3, .u 32, .rw, true, .attic, .none, .lit 0x7A120, .oneOf [125000, 250000, 500000, 1000000]⟩,
   ⟨0x1F90, 0x1F91, 0x4, 0x4, .u 32, .rw, true, .attic, .none, .lit 0x1E8480, .oneOf [1000000, 2000000, 4000000, 5000000, 8000000]⟩,
   ⟨0x1F90, 0x1F91, 0x5, 0x5, .u 32, .rw, true, .attic, .none, .lit 0x989680, .oneOf [2000000, 5000000, 10000000, 20000000]⟩,
   ⟨0x1F90, 0x1F91, 0x6, 0x6, .bool, .rw, true, .attic, .none, .lit 0, .any⟩,
   ⟨0x1F90, 0x1F91, 0x7, 0x7, .u 8, .ro, false, .wake, .none, .lit 0, .any⟩,
   ⟨0x1F90, 0x1F91, 0x8, 0x8, .u 8, .ro, false, .wake, .none, .lit 0, .any⟩,
   ⟨0x1F90, 0x1F91, 0x9, 0x9, .u 8, .ro, false, .wake, .none, .lit 0, .any⟩,
   ⟨0x1F90, 0x1F91, 0xA, 0xA, .u 8, .ro, false, .wake, .none, .lit 0, .any⟩,
   ⟨0x1F90, 0x1F91, 0xB, 0xB, .u 32, .ro, false, .wake, .none, .lit 0, .any⟩,
   ⟨0x1F90, 0x1F91, 0xC, 0xC, .u 32, .ro, false, .wake, .none, .lit 0, .any⟩,
   ⟨0x1F90, 0x1F91, 0xD, 0xD, .u 8, .ro, false, .wake, .none, .lit 0, .any⟩]

/-- Object entries of spec/05_field_network.md (R144). -/
def objTable05b : List ObjRow :=
  [⟨0x1F90, 0x1F91, 0xE, 0x18, .u 32, .ro, false, .wake, .none, .lit 0xFFFFFFFF, .any⟩,
   ⟨0x1F90, 0x1F91, 0x19, 0x19, .bool, .wo, false, .fixed, .none, .lit 0, .any⟩,
   ⟨0x1F90, 0x1F91, 0x1A, 0x1A, .u 32, .ro, false, .wake, .none, .lit 0, .any⟩,
   ⟨0x1F90, 0x1F91, 0x1B, 0x1B, .u 32, .ro, false, .wake, .none, .lit 0, .any⟩,
   ⟨0x1F92, 0x1F92, 0x1, 0x1, .bool, .rw, false, .volatile, .none, .lit 1, .any⟩,
   ⟨0x1F92, 0x1F92, 0x2, 0x2, .bool, .rw, true, .attic, .none, .lit 0, .any⟩,
   ⟨0x1F92, 0x1F92, 0x3, 0x3, .u 32, .ro, false, .wake, .none, .lit 0, .any⟩,
   ⟨0x1F98, 0x1F98, 0x1, 0x1, .u 32, .ro, false, .wake, .none, .lit 0, .any⟩,
   ⟨0x1F98, 0x1F98, 0x2, 0x2, .u 32, .ro, false, .wake, .none, .lit 0, .any⟩,
   ⟨0x1F98, 0x1F98, 0x3, 0x3, .u 32, .ro, false, .wake, .none, .lit 0, .any⟩,
   ⟨0x1F98, 0x1F98, 0x4, 0x4, .u 8, .ro, false, .wake, .none, .lit 0, .any⟩]

/-- Object entries of spec/06_sensor_ingress.md (R175). -/
def objTable06a : List ObjRow :=
  [⟨0x3000, 0x3000, 0x1, 0x1, .bool, .rw, false, .volatile, .stream, .lit 0, .any⟩,
   ⟨0x3000, 0x3000, 0x2, 0x2, .u 8, .rw, false, .volatile, .stream, .lit 0, .range 0 3⟩,
   ⟨0x3000, 0x3000, 0x3, 0x3, .u 8, .rw, false, .volatile, .stream, .lit 0, .range 0 23⟩,
   ⟨0x3000, 0x3000, 0x4, 0x4, .u 8, .rw, false, .volatile, .stream, .lit 0, .any⟩,
   ⟨0x3000, 0x3000, 0x5, 0x5, .u 8, .rw, false, .volatile, .stream, .lit 42, .any⟩,
   ⟨0x3000, 0x3000, 0x6, 0x6, .u 16, .rw, false, .volatile, .stream, .lit 1, .range 1 8192⟩,
   ⟨0x3000, 0x3000, 0x7, 0x7, .u 16, .rw, false, .volatile, .stream, .lit 16, .range 1 8192⟩,
   ⟨0x3000, 0x3000, 0x8, 0x8, .u 8, .rw, false, .volatile, .stream, .lit 16, .oneOf [8, 16, 32]⟩,
   ⟨0x3000, 0x3000, 0x9, 0x9, .u 32, .rw, false, .volatile, .stream, .lit 0x3E80, .any⟩,
   ⟨0x3000, 0x3000, 0xA, 0xA, .u 32, .rw, false, .volatile, .stream, .lit 0x8235, .range 1 1000000⟩,
   ⟨0x3000, 0x3000, 0xB, 0xB, .u 8, .rw, false, .volatile, .stream, .lit 2, .range 1 3⟩,
   ⟨0x3000, 0x3000, 0xC, 0xC, .bool, .rw, false, .volatile, .stream, .lit 0, .any⟩,
   ⟨0x3000, 0x3000, 0xD, 0xD, .u 64, .rw, false, .volatile, .stream, .lit 0, .any⟩,
   ⟨0x3000, 0x3000, 0xE, 0xE, .u 16, .rw, false, .volatile, .stream, .lit 0, .range 0 1024⟩,
   ⟨0x3000, 0x3000, 0xF, 0xF, .u 16, .rw, false, .volatile, .stream, .lit 0, .range 0 160⟩,
   ⟨0x3001, 0x3001, 0x1, 0x1, .bool, .rw, true, .attic, .stream, .lit 0, .any⟩,
   ⟨0x3002, 0x3002, 0x1, 0x1, .u 8, .ro, false, .enable, .stream, .lit 0, .any⟩,
   ⟨0x3002, 0x3002, 0x2, 0x2, .u 8, .ro, false, .enable, .stream, .lit 0, .any⟩,
   ⟨0x3002, 0x3002, 0x3, 0x3, .u 16, .ro, false, .enable, .stream, .lit 0, .any⟩,
   ⟨0x3002, 0x3002, 0x4, 0x4, .bool, .ro, false, .enable, .stream, .lit 0, .any⟩,
   ⟨0x3002, 0x3002, 0x5, 0x5, .u 32, .ro, false, .enable, .stream, .lit 0, .any⟩,
   ⟨0x3002, 0x3002, 0x6, 0x6, .u 32, .ro, false, .enable, .stream, .lit 0, .any⟩,
   ⟨0x3002, 0x3002, 0x7, 0x7, .u 64, .ro, false, .enable, .stream, .lit 0, .any⟩,
   ⟨0x3002, 0x3002, 0x8, 0x8, .u 32, .ro, false, .enable, .stream, .lit 0, .any⟩,
   ⟨0x3003, 0x3003, 0x1, 0x1, .u 32, .ro, false, .enable, .stream, .lit 0, .any⟩,
   ⟨0x3003, 0x3003, 0x2, 0x2, .u 32, .ro, false, .enable, .stream, .lit 0, .any⟩,
   ⟨0x3003, 0x3003, 0x3, 0x3, .u 32, .ro, false, .enable, .stream, .lit 0, .any⟩,
   ⟨0x3003, 0x3003, 0x4, 0x4, .u 32, .ro, false, .enable, .stream, .lit 0, .any⟩,
   ⟨0x3003, 0x3003, 0x5, 0x5, .u 32, .ro, false, .enable, .stream, .lit 0, .any⟩,
   ⟨0x3003, 0x3003, 0x6, 0x6, .u 32, .ro, false, .enable, .stream, .lit 0, .any⟩]

/-- Object entries of spec/06_sensor_ingress.md (R175). -/
def objTable06b : List ObjRow :=
  [⟨0x3003, 0x3003, 0x7, 0x7, .u 32, .ro, false, .enable, .stream, .lit 0, .any⟩,
   ⟨0x3003, 0x3003, 0x8, 0x8, .u 32, .ro, false, .enable, .stream, .lit 0, .any⟩,
   ⟨0x3003, 0x3003, 0x9, 0x9, .u 32, .ro, false, .enable, .stream, .lit 0, .any⟩,
   ⟨0x3003, 0x3003, 0xA, 0xA, .u 32, .ro, false, .enable, .stream, .lit 0, .any⟩,
   ⟨0x3003, 0x3003, 0xB, 0xB, .u 32, .ro, false, .enable, .stream, .lit 0, .any⟩,
   ⟨0x3003, 0x3003, 0xC, 0xC, .u 32, .ro, false, .enable, .stream, .lit 0, .any⟩,
   ⟨0x3003, 0x3003, 0xD, 0xD, .u 32, .ro, false, .enable, .stream, .lit 0, .any⟩,
   ⟨0x3004, 0x3004, 0x1, 0x1, .bool, .rc, false, .enable, .stream, .lit 0, .any⟩,
   ⟨0x3004, 0x3004, 0x2, 0x2, .u 32, .ro, false, .enable, .stream, .lit 0, .any⟩,
   ⟨0x3100, 0x3100, 0x1, 0x18, .u 32, .rw, false, .volatile, .none, .lit 0, .mask 0xFFFF000F⟩,
   ⟨0x3101, 0x3101, 0x1, 0x4, .u 32, .rw, false, .volatile, .none, .lit 0, .mask 0xFFFF0003⟩,
   ⟨0x3102, 0x3102, 0x1, 0x4, .u 32, .rw, false, .volatile, .none, .lit 0, .any⟩,
   ⟨0x3103, 0x3103, 0x1, 0x4, .u 64, .const, false, .fixed, .none, .lit 0, .any⟩,
   ⟨0x3104, 0x3104, 0x1, 0x2, .bool, .rw, false, .volatile, .none, .lit 0, .any⟩,
   ⟨0x3105, 0x3105, 0x1, 0x1E, .u 32, .ro, false, .wake, .none, .lit 0, .any⟩,
   ⟨0x3106, 0x3106, 0x1, 0x1, .u 8, .rw, false, .volatile, .none, .lit 3, .range 2 4⟩,
   ⟨0x3106, 0x3106, 0x2, 0x2, .u 8, .rw, false, .volatile, .none, .lit 4, .range 2 4⟩,
   ⟨0x3106, 0x3106, 0x3, 0x3, .u 8, .ro, false, .wake, .none, .lit 4, .any⟩,
   ⟨0x3106, 0x3106, 0x4, 0x4, .u 32, .ro, false, .wake, .none, .lit 0x2000000, .any⟩]

/-- Object entries of spec/07_calibration.md (R191). -/
def objTable07 : List ObjRow :=
  [⟨0x8000, 0x8000, 0x0, 0x0, .domain 12480, .rw, true, .attic, .none, .lit 0, .any⟩,
   ⟨0x8001, 0x8001, 0x1, 0x1, .u 32, .ro, false, .life, .none, .lit 1, .any⟩,
   ⟨0x8001, 0x8001, 0x2, 0x2, .u 8, .ro, false, .life, .none, .lit 0, .any⟩,
   ⟨0x8001, 0x8001, 0x3, 0x3, .u 8, .ro, false, .life, .none, .lit 0, .any⟩,
   ⟨0x8001, 0x8001, 0x4, 0x4, .u 64, .ro, false, .life, .none, .lit 0, .any⟩,
   ⟨0x8001, 0x8001, 0x5, 0x5, .u 32, .ro, false, .life, .none, .lit 0, .any⟩,
   ⟨0x8001, 0x8001, 0x6, 0x6, .u 32, .ro, false, .life, .none, .lit 0, .any⟩,
   ⟨0x8001, 0x8001, 0x7, 0x7, .u 8, .ro, false, .por, .none, .lit 0, .any⟩,
   ⟨0x8001, 0x8001, 0x8, 0x8, .u 32, .ro, false, .por, .none, .lit 0, .any⟩,
   ⟨0x8001, 0x8001, 0x9, 0x9, .u 32, .ro, false, .por, .none, .lit 0, .any⟩,
   ⟨0x8001, 0x8001, 0xA, 0xA, .u 64, .ro, false, .por, .none, .lit 0, .any⟩,
   ⟨0x8001, 0x8001, 0xB, 0xB, .u 32, .ro, false, .por, .none, .lit 0x400000, .any⟩,
   ⟨0x8002, 0x8002, 0x1, 0x40, .u 16, .ro, false, .life, .none, .lit 0, .any⟩]

/-- Object entries of spec/08_time.md (R213). -/
def objTable08a : List ObjRow :=
  [⟨0x9000, 0x9000, 0x1, 0x1, .u 64, .ro, false, .wake, .none, .lit 0, .any⟩,
   ⟨0x9000, 0x9000, 0x2, 0x2, .u 16, .ro, false, .wake, .none, .lit 0, .any⟩,
   ⟨0x9000, 0x9000, 0x3, 0x3, .u 8, .ro, false, .wake, .none, .lit 1, .any⟩,
   ⟨0x9000, 0x9000, 0x4, 0x4, .i 32, .ro, false, .wake, .none, .lit 0, .any⟩,
   ⟨0x9000, 0x9000, 0x5, 0x5, .u 32, .ro, false, .wake, .none, .lit 0, .any⟩,
   ⟨0x9000, 0x9000, 0x6, 0x6, .i 64, .ro, false, .wake, .none, .lit 0, .any⟩,
   ⟨0x9000, 0x9000, 0x7, 0x7, .u 32, .ro, false, .wake, .none, .lit 0, .any⟩,
   ⟨0x9000, 0x9000, 0x8, 0x8, .i 64, .ro, false, .wake, .none, .lit 0, .any⟩,
   ⟨0x9000, 0x9000, 0x9, 0x9, .u 64, .ro, false, .wake, .none, .lit 0, .any⟩,
   ⟨0x9001, 0x9001, 0x1, 0x1, .bool, .rw, false, .volatile, .none, .lit 1, .any⟩,
   ⟨0x9001, 0x9001, 0x2, 0x2, .u 8, .rw, false, .volatile, .none, .lit 0, .range 0 1⟩,
   ⟨0x9001, 0x9001, 0x3, 0x3, .u 8, .rw, false, .volatile, .none, .lit 0, .range 0 127⟩,
   ⟨0x9001, 0x9001, 0x4, 0x4, .i 8, .rw, false, .volatile, .none, .lit 253, .irange (-5) 0⟩,
   ⟨0x9001, 0x9001, 0x5, 0x5, .u 8, .rw, false, .volatile, .none, .lit 3, .range 2 10⟩,
   ⟨0x9001, 0x9001, 0x6, 0x6, .u 8, .rw, false, .volatile, .none, .lit 3, .range 2 10⟩,
   ⟨0x9001, 0x9001, 0x7, 0x7, .u 32, .rw, false, .volatile, .none, .lit 800, .any⟩,
   ⟨0x9001, 0x9001, 0x8, 0x8, .u 32, .rw, false, .volatile, .none, .lit 100, .range 20 10000⟩,
   ⟨0x9001, 0x9001, 0x9, 0x9, .u 32, .rw, false, .volatile, .none, .lit 0x2710, .range 1000 1000000000⟩,
   ⟨0x9001, 0x9001, 0xA, 0xA, .u 32, .rw, false, .volatile, .none, .lit 0xF4240, .any⟩,
   ⟨0x9001, 0x9001, 0xB, 0xB, .i 8, .rw, false, .volatile, .none, .lit 0, .irange (-3) 3⟩,
   ⟨0x9001, 0x9001, 0xC, 0xC, .u 8, .rw, false, .volatile, .none, .lit 3, .range 1 10⟩,
   ⟨0x9002, 0x9002, 0x1, 0x1, .u 64, .ro, false, .wake, .none, .lit 0, .any⟩,
   ⟨0x9002, 0x9002, 0x2, 0x2, .bool, .ro, false, .wake, .none, .lit 0, .any⟩,
   ⟨0x9002, 0x9002, 0x3, 0x3, .u 32, .ro, false, .wake, .none, .lit 0, .any⟩,
   ⟨0x9002, 0x9002, 0x4, 0x4, .i 32, .ro, false, .wake, .none, .lit 0, .any⟩,
   ⟨0x9002, 0x9002, 0x5, 0x5, .u 32, .ro, false, .wake, .none, .lit 0, .any⟩,
   ⟨0x9002, 0x9002, 0x6, 0x6, .u 32, .ro, false, .wake, .none, .lit 0, .any⟩,
   ⟨0x9002, 0x9002, 0x7, 0x7, .u 32, .ro, false, .wake, .none, .lit 0, .any⟩,
   ⟨0x9002, 0x9002, 0x8, 0x8, .u 32, .ro, false, .wake, .none, .lit 0, .any⟩,
   ⟨0x9002, 0x9002, 0x9, 0x9, .u 32, .ro, false, .wake, .none, .lit 0, .any⟩]

/-- Object entries of spec/08_time.md (R213). -/
def objTable08b : List ObjRow :=
  [⟨0x9002, 0x9002, 0xA, 0xA, .u 32, .ro, false, .wake, .none, .lit 0, .any⟩,
   ⟨0x9003, 0x9003, 0x1, 0x1, .u 32, .rw, false, .volatile, .none, .lit 0xFFFFFFFF, .orAll 60000⟩,
   ⟨0x9003, 0x9003, 0x2, 0x2, .u 32, .rw, false, .volatile, .none, .lit 0xFFFFFFFF, .orAll 1000000⟩,
   ⟨0x9003, 0x9003, 0x3, 0x3, .u 32, .rw, false, .volatile, .none, .lit 0xFFFFFFFF, .orAll 1000000⟩,
   ⟨0x9003, 0x9003, 0x4, 0x4, .u 64, .ro, false, .wake, .none, .lit 0, .any⟩,
   ⟨0x9003, 0x9003, 0x5, 0x5, .u 32, .ro, false, .wake, .none, .lit 0, .any⟩,
   ⟨0x9003, 0x9003, 0x6, 0x6, .u 32, .ro, false, .wake, .none, .lit 0, .any⟩,
   ⟨0x9003, 0x9003, 0x7, 0x7, .u 32, .ro, false, .wake, .none, .lit 0, .any⟩,
   ⟨0x9003, 0x9003, 0x8, 0x8, .u 32, .ro, false, .wake, .none, .lit 0, .any⟩,
   ⟨0x9004, 0x9004, 0x1, 0x1, .u 16, .ro, false, .wake, .none, .lit 0, .any⟩,
   ⟨0x9004, 0x9004, 0x2, 0x2, .u 16, .ro, false, .wake, .none, .lit 0, .any⟩,
   ⟨0x9004, 0x9004, 0x3, 0x3, .u 16, .ro, false, .wake, .none, .lit 0, .any⟩,
   ⟨0x9005, 0x9005, 0x1, 0x1, .u 32, .ro, false, .wake, .none, .lit 0, .any⟩,
   ⟨0x9005, 0x9005, 0x2, 0x2, .u 32, .ro, false, .wake, .none, .lit 0, .any⟩]

/-- Object entries of spec/09_strip_sequencer.md (R230). -/
def objTable09a : List ObjRow :=
  [⟨0x3010, 0x3010, 0x1, 0x1, .u 16, .rw, false, .volatile, .stream, .chan, .range 0 511⟩,
   ⟨0x3010, 0x3010, 0x2, 0x2, .u 8, .rw, false, .volatile, .stream, .lit 24, .range 8 24⟩,
   ⟨0x3010, 0x3010, 0x3, 0x3, .bool, .rw, false, .volatile, .stream, .lit 0, .any⟩,
   ⟨0x3010, 0x3010, 0x4, 0x4, .u 64, .rw, false, .volatile, .stream, .lit 0, .align 65536⟩,
   ⟨0x3010, 0x3010, 0x5, 0x5, .u 32, .rw, false, .volatile, .stream, .lit 256, .mult 256 256 65536⟩,
   ⟨0x3010, 0x3010, 0x6, 0x6, .u 16, .rw, false, .volatile, .stream, .lit 64, .pow2 16 4096⟩,
   ⟨0x3010, 0x3010, 0x7, 0x7, .u 64, .rw, false, .volatile, .stream, .lit 0, .any⟩,
   ⟨0x3010, 0x3010, 0x8, 0x8, .u 8, .rw, false, .volatile, .stream, .lit 1, .range 1 64⟩,
   ⟨0x3010, 0x3010, 0x9, 0x9, .u 64, .rw, false, .volatile, .stream, .lit 0, .any⟩,
   ⟨0x3010, 0x3010, 0xA, 0xA, .u 16, .rw, false, .volatile, .stream, .lit 0, .any⟩,
   ⟨0x3011, 0x3011, 0x1, 0x1, .u 32, .ro, false, .enable, .stream, .lit 0, .any⟩,
   ⟨0x3011, 0x3011, 0x2, 0x2, .u 32, .ro, false, .enable, .stream, .lit 0, .any⟩,
   ⟨0x3011, 0x3011, 0x3, 0x3, .u 32, .ro, false, .enable, .stream, .lit 0, .any⟩,
   ⟨0x3011, 0x3011, 0x4, 0x4, .u 32, .ro, false, .enable, .stream, .lit 0, .any⟩,
   ⟨0x3011, 0x3011, 0x5, 0x5, .u 32, .ro, false, .enable, .stream, .lit 0, .any⟩,
   ⟨0x3011, 0x3011, 0x6, 0x6, .u 32, .ro, false, .enable, .stream, .lit 0, .any⟩,
   ⟨0x3011, 0x3011, 0x7, 0x7, .u 32, .ro, false, .enable, .stream, .lit 0, .any⟩,
   ⟨0x3011, 0x3011, 0x8, 0x8, .u 32, .ro, false, .enable, .stream, .lit 0, .any⟩,
   ⟨0x3011, 0x3011, 0x9, 0x9, .u 32, .ro, false, .enable, .stream, .lit 0, .any⟩,
   ⟨0x3011, 0x3011, 0xA, 0xA, .u 32, .ro, false, .enable, .stream, .lit 0, .any⟩,
   ⟨0x3110, 0x3110, 0x1, 0x1, .u 8, .rw, false, .volatile, .none, .lit 0, .mask 0xF⟩,
   ⟨0x3110, 0x3110, 0x2, 0x2, .u 32, .rw, false, .volatile, .none, .lit 0, .any⟩,
   ⟨0x3110, 0x3110, 0x3, 0x3, .u 16, .rw, false, .volatile, .none, .lit 0xA302, .any⟩,
   ⟨0x3110, 0x3110, 0x4, 0x4, .u 64, .rw, false, .volatile, .none, .lit 0, .align 4096⟩,
   ⟨0x3110, 0x3110, 0x5, 0x5, .u 16, .rw, false, .volatile, .none, .lit 1024, .pow2 16 32768⟩,
   ⟨0x3110, 0x3110, 0x6, 0x6, .u 64, .ro, false, .wake, .none, .lit 0, .any⟩,
   ⟨0x3110, 0x3110, 0x7, 0x7, .u 32, .rw, false, .volatile, .none, .lit 2048, .range 64 65535⟩,
   ⟨0x3110, 0x3110, 0x8, 0x8, .u 32, .ro, false, .wake, .none, .lit 0, .any⟩,
   ⟨0x3111, 0x3111, 0x1, 0x1, .u 32, .rw, true, .attic, .none, .lit 0xF4240, .range 1000 100000000⟩,
   ⟨0x3111, 0x3111, 0x2, 0x2, .bool, .ro, false, .wake, .none, .lit 0, .any⟩]

/-- Object entries of spec/09_strip_sequencer.md (R230). -/
def objTable09b : List ObjRow :=
  [⟨0x3111, 0x3111, 0x3, 0x3, .u 32, .ro, false, .wake, .none, .lit 0, .any⟩,
   ⟨0x3111, 0x3111, 0x4, 0x4, .u 8, .ro, false, .wake, .none, .lit 0, .any⟩,
   ⟨0x3111, 0x3111, 0x5, 0x5, .u 16, .ro, false, .wake, .none, .lit 0, .any⟩,
   ⟨0x3111, 0x3111, 0x6, 0x6, .u 32, .ro, false, .wake, .none, .lit 0, .any⟩,
   ⟨0x3111, 0x3111, 0x7, 0x7, .u 32, .ro, false, .wake, .none, .lit 0, .any⟩,
   ⟨0x3112, 0x3112, 0x1, 0xC, .u 32, .rw, true, .attic, .none, .lit 0, .feed⟩]

/-- Object entries of spec/10_engines_and_memory.md (R254). -/
def objTable10 : List ObjRow :=
  [⟨0x4000, 0x4000, 0x1, 0x1, .u 8, .ro, false, .wake, .engine, .lit 0, .any⟩,
   ⟨0x4000, 0x4000, 0x2, 0x2, .u 8, .const, false, .fixed, .engine, .chanDiv8, .any⟩,
   ⟨0x4000, 0x4000, 0x3, 0x3, .u 8, .ro, false, .wake, .engine, .lit 255, .any⟩,
   ⟨0x4000, 0x4000, 0x4, 0x4, .u 8, .ro, false, .wake, .engine, .lit 0, .any⟩,
   ⟨0x4000, 0x4000, 0x5, 0x5, .u 8, .ro, false, .wake, .engine, .lit 0, .any⟩,
   ⟨0x4000, 0x4000, 0x6, 0x6, .u 32, .ro, false, .wake, .engine, .lit 0, .any⟩,
   ⟨0x4000, 0x4000, 0x7, 0x7, .u 32, .ro, false, .wake, .engine, .lit 0, .any⟩,
   ⟨0x4000, 0x4000, 0x8, 0x8, .u 32, .ro, false, .wake, .engine, .lit 0, .any⟩,
   ⟨0x4000, 0x4000, 0x9, 0x9, .u 32, .ro, false, .wake, .engine, .lit 0, .any⟩,
   ⟨0x4000, 0x4000, 0xA, 0xA, .u 64, .ro, false, .wake, .engine, .lit 0, .any⟩,
   ⟨0x4000, 0x4000, 0xB, 0xB, .u 8, .ro, false, .wake, .engine, .lit 0, .any⟩,
   ⟨0x4800, 0x4800, 0x1, 0x1, .bool, .ro, false, .wake, .none, .lit 0, .any⟩,
   ⟨0x4800, 0x4800, 0x2, 0x2, .u 16, .ro, false, .wake, .none, .lit 3900, .any⟩,
   ⟨0x4800, 0x4800, 0x3, 0x3, .u 32, .ro, false, .wake, .none, .lit 0, .any⟩,
   ⟨0x4800, 0x4800, 0x4, 0x4, .u 64, .ro, false, .wake, .none, .lit 0, .any⟩,
   ⟨0x4800, 0x4800, 0x5, 0x5, .i 16, .ro, false, .wake, .none, .lit 0, .any⟩,
   ⟨0x4800, 0x4800, 0x6, 0x6, .i 16, .ro, false, .wake, .none, .lit 0, .any⟩,
   ⟨0x4800, 0x4800, 0x7, 0x7, .u 32, .ro, false, .wake, .none, .lit 0, .any⟩,
   ⟨0x4800, 0x4800, 0x8, 0x8, .u 32, .ro, false, .wake, .none, .lit 0, .any⟩,
   ⟨0x4800, 0x4800, 0x9, 0x9, .u 32, .ro, false, .wake, .none, .lit 0, .any⟩,
   ⟨0x4800, 0x4800, 0xA, 0xA, .u 64, .ro, false, .wake, .none, .lit 0, .any⟩,
   ⟨0x4800, 0x4800, 0xB, 0xB, .u 16, .const, false, .fixed, .none, .lit 0x12C0, .any⟩,
   ⟨0x4801, 0x4801, 0x1, 0x1, .u 64, .rw, true, .attic, .none, .lit 0xB80000000, .hostBase⟩,
   ⟨0x4801, 0x4801, 0x2, 0x2, .u 64, .ro, false, .por, .none, .lit 0xB80000000, .any⟩,
   ⟨0x4802, 0x4802, 0x1, 0x1, .u 8, .wo, false, .fixed, .none, .lit 0, .inval⟩,
   ⟨0x4802, 0x4802, 0x2, 0x2, .u 32, .ro, false, .wake, .none, .lit 0, .any⟩,
   ⟨0x4803, 0x4803, 0x1, 0x1, .u 32, .ro, false, .wake, .none, .lit 0, .any⟩,
   ⟨0x4803, 0x4803, 0x2, 0x2, .u 64, .ro, false, .wake, .none, .lit 0, .any⟩]

/-- Object entries of spec/12_tensor_operators.md (R307). -/
def objTable12 : List ObjRow :=
  [⟨0x4010, 0x4010, 0x1, 0x1, .u 64, .ro, false, .wake, .engine, .lit 0, .any⟩,
   ⟨0x4010, 0x4010, 0x2, 0x2, .u 32, .ro, false, .wake, .engine, .lit 0, .any⟩,
   ⟨0x4010, 0x4010, 0x3, 0x3, .u 32, .ro, false, .wake, .engine, .lit 0, .any⟩,
   ⟨0x4010, 0x4010, 0x4, 0x4, .u 32, .ro, false, .wake, .engine, .lit 0, .any⟩,
   ⟨0x4010, 0x4010, 0x5, 0x5, .u 32, .ro, false, .wake, .engine, .lit 0, .any⟩,
   ⟨0x3013, 0x3013, 0x1, 0x1, .u 16, .rw, false, .volatile, .stream, .lit 0x8000, .any⟩,
   ⟨0x3013, 0x3013, 0x2, 0x2, .u 16, .rw, false, .volatile, .stream, .lit 0x7333, .any⟩,
   ⟨0x3013, 0x3013, 0x3, 0x3, .u 16, .rw, false, .volatile, .stream, .lit 256, .range 1 1024⟩,
   ⟨0x3013, 0x3013, 0x4, 0x4, .u 64, .rw, false, .volatile, .stream, .lit 0, .any⟩,
   ⟨0x3014, 0x3014, 0x1, 0x1, .u 32, .ro, false, .enable, .stream, .lit 0, .any⟩,
   ⟨0x3014, 0x3014, 0x2, 0x2, .u 32, .ro, false, .enable, .stream, .lit 0, .any⟩,
   ⟨0x3014, 0x3014, 0x3, 0x3, .u 32, .ro, false, .enable, .stream, .lit 0, .any⟩,
   ⟨0x3014, 0x3014, 0x4, 0x4, .u 32, .ro, false, .enable, .stream, .lit 0, .any⟩,
   ⟨0x3014, 0x3014, 0x5, 0x5, .u 32, .ro, false, .enable, .stream, .lit 0, .any⟩,
   ⟨0x3014, 0x3014, 0x6, 0x6, .u 32, .ro, false, .enable, .stream, .lit 0, .any⟩,
   ⟨0x3120, 0x3120, 0x1, 0x1, .u 8, .rw, false, .volatile, .none, .lit 0, .mask 0x7⟩,
   ⟨0x3120, 0x3120, 0x2, 0x2, .u 32, .rw, false, .volatile, .none, .lit 0, .any⟩,
   ⟨0x3120, 0x3120, 0x3, 0x3, .u 16, .rw, false, .volatile, .none, .lit 0xA303, .any⟩,
   ⟨0x3120, 0x3120, 0x4, 0x4, .u 64, .rw, false, .volatile, .none, .lit 0, .align 32768⟩,
   ⟨0x3120, 0x3120, 0x5, 0x5, .u 16, .rw, false, .volatile, .none, .lit 64, .pow2 16 4096⟩,
   ⟨0x3120, 0x3120, 0x6, 0x6, .u 64, .ro, false, .wake, .none, .lit 0, .any⟩,
   ⟨0x3120, 0x3120, 0x7, 0x7, .u 32, .ro, false, .wake, .none, .lit 0, .any⟩]

/-- Object entries of spec/13_sequence_and_sampling.md (R328). -/
def objTable13 : List ObjRow :=
  [⟨0x4810, 0x4810, 0x1, 0x1, .u 16, .ro, false, .wake, .none, .lit 0, .any⟩,
   ⟨0x4810, 0x4810, 0x2, 0x2, .u 64, .ro, false, .wake, .none, .lit 0, .any⟩,
   ⟨0x4810, 0x4810, 0x3, 0x3, .u 32, .ro, false, .wake, .none, .lit 0, .any⟩,
   ⟨0x4810, 0x4810, 0x4, 0x4, .u 32, .ro, false, .wake, .none, .lit 0, .any⟩,
   ⟨0x4810, 0x4810, 0x5, 0x5, .u 32, .ro, false, .wake, .none, .lit 0, .any⟩,
   ⟨0x4810, 0x4810, 0x6, 0x6, .u 32, .ro, false, .wake, .none, .lit 0, .any⟩,
   ⟨0x4810, 0x4810, 0x7, 0x7, .u 32, .ro, false, .wake, .none, .lit 0, .any⟩,
   ⟨0x4810, 0x4810, 0x8, 0x8, .bool, .wo, false, .fixed, .none, .lit 0, .any⟩,
   ⟨0x4811, 0x4811, 0x1, 0x1, .u 32, .ro, false, .wake, .none, .lit 0, .any⟩,
   ⟨0x4811, 0x4811, 0x2, 0x2, .u 32, .ro, false, .wake, .none, .lit 0, .any⟩,
   ⟨0x4811, 0x4811, 0x3, 0x3, .u 32, .ro, false, .wake, .none, .lit 0, .any⟩,
   ⟨0x4811, 0x4811, 0x4, 0x4, .u 32, .ro, false, .wake, .none, .lit 0, .any⟩,
   ⟨0x4811, 0x4811, 0x5, 0x5, .u 32, .ro, false, .wake, .none, .lit 0, .any⟩,
   ⟨0x4811, 0x4811, 0x6, 0x6, .u 32, .ro, false, .wake, .none, .lit 0, .any⟩,
   ⟨0x4812, 0x4812, 0x1, 0x1, .u 64, .ro, false, .wake, .none, .lit 0, .any⟩]

/-- Object entries of spec/14_scheduling.md (R345). -/
def objTable14 : List ObjRow :=
  [⟨0x6000, 0x6000, 0x1, 0x1, .bool, .rw, false, .volatile, .queue, .lit 0, .any⟩,
   ⟨0x6000, 0x6000, 0x2, 0x2, .u 8, .rw, false, .volatile, .queue, .lit 0, .range 0 8⟩,
   ⟨0x6000, 0x6000, 0x3, 0x3, .u 8, .rw, false, .volatile, .queue, .lit 1, .range 0 3⟩,
   ⟨0x6000, 0x6000, 0x4, 0x4, .u 8, .rw, false, .volatile, .queue, .lit 0, .range 0 1⟩,
   ⟨0x6000, 0x6000, 0x5, 0x5, .u 64, .rw, false, .volatile, .queue, .lit 0xFFFFFFFFFFFF, .mask 0xFFFFFFFFFFFF⟩,
   ⟨0x6000, 0x6000, 0x6, 0x6, .u 16, .rw, false, .volatile, .queue, .lit 64, .range 1 1024⟩,
   ⟨0x6000, 0x6000, 0x7, 0x7, .u 64, .rw, false, .volatile, .queue, .lit 0, .any⟩,
   ⟨0x6000, 0x6000, 0x8, 0x8, .u 16, .rw, false, .volatile, .queue, .lit 256, .pow2 16 4096⟩,
   ⟨0x6000, 0x6000, 0x9, 0x9, .u 16, .rw, false, .volatile, .queue, .lit 0, .any⟩,
   ⟨0x6001, 0x6001, 0x1, 0x1, .u 16, .ro, false, .wake, .queue, .lit 0, .any⟩,
   ⟨0x6001, 0x6001, 0x2, 0x2, .u 16, .ro, false, .wake, .queue, .lit 0, .any⟩,
   ⟨0x6001, 0x6001, 0x3, 0x3, .u 32, .ro, false, .wake, .queue, .lit 0, .any⟩,
   ⟨0x6001, 0x6001, 0x4, 0x4, .u 32, .ro, false, .wake, .queue, .lit 0, .any⟩,
   ⟨0x6001, 0x6001, 0x5, 0x5, .u 32, .ro, false, .wake, .queue, .lit 0, .any⟩,
   ⟨0x6001, 0x6001, 0x6, 0x6, .u 32, .ro, false, .wake, .queue, .lit 0, .any⟩,
   ⟨0x6001, 0x6001, 0x7, 0x7, .u 32, .ro, false, .wake, .queue, .lit 0, .any⟩,
   ⟨0x6010, 0x6010, 0x1, 0x30, .u 8, .rw, false, .volatile, .none, .lit 0, .range 0 8⟩,
   ⟨0x6011, 0x6011, 0x1, 0x1, .u 8, .rw, false, .volatile, .none, .lit 16, .range 0 64⟩,
   ⟨0x6011, 0x6011, 0x2, 0x2, .u 64, .ro, false, .wake, .none, .lit 0, .any⟩,
   ⟨0x6011, 0x6011, 0x3, 0x3, .u 32, .ro, false, .wake, .none, .lit 0, .any⟩,
   ⟨0x6011, 0x6011, 0x4, 0x4, .u 32, .ro, false, .wake, .none, .lit 0, .any⟩,
   ⟨0x6011, 0x6011, 0x5, 0x5, .u 16, .ro, false, .wake, .none, .lit 0x4000, .any⟩,
   ⟨0x6020, 0x6020, 0x1, 0x1, .u 64, .ro, false, .wake, .guest, .lit 0, .any⟩,
   ⟨0x6020, 0x6020, 0x2, 0x2, .u 32, .ro, false, .wake, .guest, .lit 0, .any⟩,
   ⟨0x6020, 0x6020, 0x3, 0x3, .u 32, .ro, false, .wake, .guest, .lit 0, .any⟩,
   ⟨0x6020, 0x6020, 0x4, 0x4, .u 8, .ro, false, .wake, .guest, .lit 0, .any⟩]

/-- Object entries of spec/15_safety.md (R376). -/
def objTable15a : List ObjRow :=
  [⟨0x5000, 0x5000, 0x1, 0x1, .u 8, .ro, false, .por, .none, .lit 0, .any⟩,
   ⟨0x5000, 0x5000, 0x2, 0x2, .u 8, .ro, false, .por, .none, .lit 0, .any⟩,
   ⟨0x5000, 0x5000, 0x3, 0x3, .u 32, .ro, false, .por, .none, .lit 0, .any⟩,
   ⟨0x5000, 0x5000, 0x4, 0x4, .u 64, .ro, false, .por, .none, .lit 0, .any⟩,
   ⟨0x5000, 0x5000, 0x5, 0x5, .u 32, .ro, false, .por, .none, .lit 0, .any⟩,
   ⟨0x5000, 0x5000, 0x6, 0x6, .u 32, .ro, false, .wake, .none, .lit 0, .any⟩,
   ⟨0x5000, 0x5000, 0x7, 0x7, .u 8, .ro, false, .por, .none, .lit 0, .any⟩,
   ⟨0x5000, 0x5000, 0x8, 0x8, .u 32, .ro, false, .wake, .none, .lit 0, .any⟩,
   ⟨0x5001, 0x5001, 0x1, 0x1, .u 8, .rw, true, .attic, .none, .lit 0, .range 0 2⟩,
   ⟨0x5001, 0x5001, 0x2, 0x2, .u 8, .rw, true, .attic, .none, .lit 0, .range 0 1⟩,
   ⟨0x5010, 0x5010, 0x1, 0x1, .u 8, .rw, false, .volatile, .none, .lit 0, .range 0 1⟩,
   ⟨0x5010, 0x5010, 0x2, 0x2, .u 8, .ro, false, .wake, .none, .lit 0, .any⟩,
   ⟨0x5010, 0x5010, 0x3, 0x3, .u 32, .ro, false, .por, .none, .lit 0, .any⟩,
   ⟨0x5010, 0x5010, 0x4, 0x4, .u 32, .ro, false, .wake, .none, .lit 0, .any⟩,
   ⟨0x5010, 0x5010, 0x5, 0x5, .u 32, .ro, false, .wake, .none, .lit 0, .any⟩,
   ⟨0x5010, 0x5010, 0x6, 0x6, .u 32, .ro, false, .wake, .none, .lit 0, .any⟩,
   ⟨0x5020, 0x5020, 0x1, 0x1, .bool, .rw, false, .volatile, .none, .lit 1, .any⟩,
   ⟨0x5020, 0x5020, 0x2, 0x2, .u 64, .ro, false, .wake, .none, .lit 0, .any⟩,
   ⟨0x5020, 0x5020, 0x3, 0x3, .u 32, .ro, false, .wake, .none, .lit 0, .any⟩,
   ⟨0x5020, 0x5020, 0x4, 0x4, .u 8, .ro, false, .wake, .none, .lit 255, .any⟩,
   ⟨0x5030, 0x5030, 0x1, 0x1, .u 64, .ro, false, .wake, .none, .lit 0, .any⟩,
   ⟨0x5030, 0x5030, 0x2, 0x2, .u 32, .ro, false, .wake, .none, .lit 0, .any⟩,
   ⟨0x5030, 0x5030, 0x3, 0x3, .u 8, .ro, false, .wake, .none, .lit 255, .any⟩,
   ⟨0x5030, 0x5030, 0x4, 0x4, .u 32, .ro, false, .wake, .none, .lit 0, .any⟩,
   ⟨0x5030, 0x5030, 0x5, 0x5, .u 32, .ro, false, .wake, .none, .lit 0, .any⟩,
   ⟨0x5030, 0x5030, 0x6, 0x6, .u 32, .ro, false, .wake, .none, .lit 0, .any⟩,
   ⟨0x5030, 0x5030, 0x7, 0x7, .u 32, .ro, false, .wake, .none, .lit 0, .any⟩,
   ⟨0x5040, 0x5040, 0x1, 0x1, .u 32, .ro, false, .por, .none, .lit 0, .any⟩,
   ⟨0x5040, 0x5040, 0x2, 0x2, .u 16, .ro, false, .por, .none, .lit 0, .any⟩,
   ⟨0x5040, 0x5040, 0x3, 0x3, .u 32, .ro, false, .por, .none, .lit 0, .any⟩]

/-- Object entries of spec/15_safety.md (R376). -/
def objTable15b : List ObjRow :=
  [⟨0x5040, 0x5040, 0x4, 0x4, .u 8, .ro, false, .por, .none, .lit 255, .any⟩,
   ⟨0x5040, 0x5040, 0x5, 0xC, .u 16, .ro, false, .wake, .none, .lit 0, .any⟩,
   ⟨0x5040, 0x5040, 0xD, 0x14, .i 16, .ro, false, .wake, .none, .lit 0, .any⟩,
   ⟨0x5040, 0x5040, 0x15, 0x15, .i 16, .ro, false, .wake, .none, .lit 0x8000, .any⟩]

/-- Object entries of spec/16_faults_and_recovery.md (R398). -/
def objTable16 : List ObjRow :=
  [⟨0x4020, 0x4020, 0x1, 0x1, .u 8, .wo, false, .fixed, .engine, .lit 0, .oneOf [1]⟩,
   ⟨0x4020, 0x4020, 0x2, 0x2, .u 8, .ro, false, .wake, .engine, .lit 0, .any⟩,
   ⟨0x4020, 0x4020, 0x3, 0x3, .u 8, .ro, false, .wake, .engine, .lit 0, .any⟩,
   ⟨0x4020, 0x4020, 0x4, 0x4, .u 32, .ro, false, .wake, .engine, .lit 0, .any⟩,
   ⟨0x4020, 0x4020, 0x5, 0x5, .u 32, .ro, false, .wake, .engine, .lit 0, .any⟩,
   ⟨0x4020, 0x4020, 0x6, 0x6, .u 8, .ro, false, .wake, .engine, .lit 0, .any⟩,
   ⟨0x4020, 0x4020, 0x7, 0x7, .u 32, .ro, false, .wake, .engine, .lit 0, .any⟩,
   ⟨0x5100, 0x5100, 0x1, 0x1, .u 32, .rc, false, .wake, .none, .lit 0, .any⟩,
   ⟨0x5100, 0x5100, 0x2, 0x2, .u 16, .rw, true, .attic, .none, .lit 10, .range 1 1000⟩,
   ⟨0x5100, 0x5100, 0x3, 0x3, .u 16, .rw, true, .attic, .none, .lit 100, .range 10 10000⟩,
   ⟨0x5100, 0x5100, 0x4, 0x4, .u 8, .rw, true, .attic, .none, .lit 1, .armed⟩,
   ⟨0x5100, 0x5100, 0x5, 0x5, .u 8, .rw, true, .attic, .none, .lit 1, .range 0 1⟩,
   ⟨0x5100, 0x5100, 0x6, 0x6, .u 32, .ro, false, .wake, .none, .lit 0, .any⟩,
   ⟨0x5100, 0x5100, 0x7, 0x7, .u 32, .ro, false, .wake, .none, .lit 0, .any⟩,
   ⟨0x5100, 0x5100, 0x8, 0x8, .u 32, .ro, false, .wake, .none, .lit 0, .any⟩,
   ⟨0x5110, 0x5110, 0x1, 0x1, .u 16, .rw, true, .attic, .none, .lit 100, .range 10 10000⟩,
   ⟨0x5110, 0x5110, 0x2, 0x2, .u 8, .rw, true, .attic, .none, .lit 3, .range 2 10⟩,
   ⟨0x5110, 0x5110, 0x3, 0x3, .u 32, .rw, true, .attic, .none, .lit 0x2710, .range 1000 600000⟩,
   ⟨0x5110, 0x5110, 0x4, 0x4, .u 8, .rw, true, .attic, .none, .lit 12, .range 4 48⟩,
   ⟨0x5110, 0x5110, 0x5, 0x5, .u 8, .rw, true, .attic, .none, .lit 4, .range 1 4⟩,
   ⟨0x5110, 0x5110, 0x6, 0x6, .u 32, .rw, true, .attic, .none, .lit 600, .range 60 86400⟩,
   ⟨0x5110, 0x5110, 0x7, 0x7, .u 8, .rw, true, .attic, .none, .lit 3, .range 2 10⟩,
   ⟨0x5110, 0x5110, 0x8, 0x8, .u 8, .ro, false, .wake, .none, .lit 0, .any⟩,
   ⟨0x5110, 0x5110, 0x9, 0x9, .u 8, .ro, false, .wake, .none, .lit 0, .any⟩,
   ⟨0x5110, 0x5110, 0xA, 0xA, .u 64, .ro, false, .wake, .none, .lit 0, .any⟩,
   ⟨0x5120, 0x5120, 0x1, 0x1, .u 32, .ro, false, .wake, .none, .lit 0, .any⟩,
   ⟨0x5120, 0x5120, 0x2, 0x2, .u 8, .rw, false, .path, .none, .lit 0, .range 0 63⟩,
   ⟨0x5120, 0x5120, 0x3, 0x3, .domain 32, .ro, false, .wake, .none, .lit 0, .any⟩,
   ⟨0x5120, 0x5120, 0x4, 0x4, .domain 0, .ro, false, .wake, .none, .lit 0, .any⟩,
   ⟨0x5120, 0x5120, 0x5, 0x5, .u 32, .ro, false, .wake, .none, .lit 0, .any⟩]

/-- Object entries of spec/17_monitors_and_counters.md (R418). -/
def objTable17a : List ObjRow :=
  [⟨0x7000, 0x7000, 0x1, 0x1, .u 8, .rw, false, .volatile, .monitor, .lit 0, .range 0 18⟩,
   ⟨0x7000, 0x7000, 0x2, 0x2, .u 16, .rw, false, .volatile, .monitor, .lit 0, .any⟩,
   ⟨0x7000, 0x7000, 0x3, 0x3, .u 8, .rw, false, .volatile, .monitor, .lit 0, .range 0 1⟩,
   ⟨0x7000, 0x7000, 0x4, 0x4, .u 8, .rw, false, .volatile, .monitor, .lit 0, .range 0 31⟩,
   ⟨0x7000, 0x7000, 0x5, 0x5, .i 64, .rw, false, .volatile, .monitor, .lit 0, .any⟩,
   ⟨0x7000, 0x7000, 0x6, 0x6, .u 32, .rw, false, .volatile, .monitor, .lit 1, .range 1 4294967295⟩,
   ⟨0x7000, 0x7000, 0x7, 0x7, .i 64, .rw, false, .volatile, .monitor, .lit 0, .any⟩,
   ⟨0x7000, 0x7000, 0x8, 0x8, .u 32, .rw, false, .volatile, .monitor, .lit 0, .any⟩,
   ⟨0x7000, 0x7000, 0x9, 0x9, .bool, .rw, false, .volatile, .monitor, .lit 0, .any⟩,
   ⟨0x7000, 0x7000, 0xA, 0xA, .u 16, .rw, false, .volatile, .monitor, .lit 0xFFFF, .any⟩,
   ⟨0x7000, 0x7000, 0xB, 0xB, .bool, .wo, false, .fixed, .monitor, .lit 0, .any⟩,
   ⟨0x7001, 0x7001, 0x1, 0x1, .u 64, .ro, false, .wake, .monitor, .lit 0, .any⟩,
   ⟨0x7001, 0x7001, 0x2, 0x2, .i 64, .ro, false, .wake, .monitor, .lit 0x7FFFFFFFFFFFFFFF, .any⟩,
   ⟨0x7001, 0x7001, 0x3, 0x3, .i 64, .ro, false, .wake, .monitor, .lit 0x8000000000000000, .any⟩,
   ⟨0x7001, 0x7001, 0x4, 0x4, .i 64, .ro, false, .wake, .monitor, .lit 0, .any⟩,
   ⟨0x7001, 0x7001, 0x5, 0x5, .i 64, .ro, false, .wake, .monitor, .lit 0, .any⟩,
   ⟨0x7001, 0x7001, 0x6, 0x6, .bool, .rc, false, .wake, .monitor, .lit 0, .any⟩,
   ⟨0x7001, 0x7001, 0x7, 0x7, .u 32, .ro, false, .wake, .monitor, .lit 0, .any⟩,
   ⟨0x7001, 0x7001, 0x8, 0x8, .bool, .ro, false, .wake, .monitor, .lit 0, .any⟩,
   ⟨0x7001, 0x7001, 0x9, 0x9, .u 32, .ro, false, .wake, .monitor, .lit 0, .any⟩,
   ⟨0x7001, 0x7001, 0xA, 0xA, .domain 128, .ro, false, .wake, .monitor, .lit 0, .any⟩,
   ⟨0x7002, 0x7002, 0x1, 0x10, .u 32, .ro, false, .wake, .monitor, .lit 0, .any⟩,
   ⟨0x7010, 0x7010, 0x1, 0x1, .u 16, .rw, false, .volatile, .none, .lit 1, .mask 0x1FF⟩,
   ⟨0x7011, 0x7011, 0x1, 0x1, .u 32, .ro, false, .wake, .none, .lit 0, .any⟩,
   ⟨0x4030, 0x4030, 0x1, 0x1, .u 8, .rw, false, .path, .engine, .lit 0, .range 0 8⟩,
   ⟨0x4030, 0x4030, 0x2, 0x2, .u 64, .ro, false, .wake, .engine, .lit 0, .any⟩,
   ⟨0x4030, 0x4030, 0x3, 0x8, .u 64, .ro, false, .wake, .engine, .lit 0, .any⟩,
   ⟨0x4030, 0x4030, 0x9, 0xE, .u 8, .rw, false, .volatile, .engine, .lit 0, .range 0 17⟩,
   ⟨0x4030, 0x4030, 0xF, 0xF, .u 8, .rc, false, .wake, .engine, .lit 0, .any⟩,
   ⟨0x4030, 0x4030, 0x10, 0x10, .bool, .wo, false, .fixed, .engine, .lit 0, .any⟩]

/-- Object entries of spec/17_monitors_and_counters.md (R418). -/
def objTable17b : List ObjRow :=
  [⟨0x7040, 0x7040, 0x1, 0x1, .u 64, .rw, false, .volatile, .none, .lit 0, .mask 0xFFFFFFFFFFFF⟩,
   ⟨0x7040, 0x7040, 0x2, 0x2, .u 32, .rw, false, .volatile, .none, .lit 0x2710, .range 64 16777215⟩,
   ⟨0x7040, 0x7040, 0x3, 0x3, .u 8, .rw, false, .volatile, .none, .lit 0, .range 0 1⟩,
   ⟨0x7040, 0x7040, 0x4, 0x4, .u 16, .ro, false, .wake, .none, .lit 0, .any⟩,
   ⟨0x7040, 0x7040, 0x5, 0x5, .u 32, .ro, false, .wake, .none, .lit 0, .any⟩,
   ⟨0x7040, 0x7040, 0x6, 0x6, .bool, .wo, false, .fixed, .none, .lit 0, .any⟩,
   ⟨0x7040, 0x7040, 0x7, 0x7, .u 16, .rw, false, .path, .none, .lit 0, .range 0 511⟩,
   ⟨0x7040, 0x7040, 0x8, 0x8, .domain 32, .ro, false, .path, .none, .lit 0, .any⟩,
   ⟨0x7040, 0x7040, 0x9, 0x9, .domain 0, .ro, false, .wake, .none, .lit 0, .any⟩,
   ⟨0x7040, 0x7040, 0xA, 0xA, .u 16, .rw, false, .volatile, .none, .lit 511, .mask 0x1FF⟩]

/-- Object entries of spec/18_depot_and_fleet.md (R442). -/
def objTable18a : List ObjRow :=
  [⟨0x6100, 0x6100, 0x1, 0x1, .bool, .rw, true, .attic, .none, .lit 0, .any⟩,
   ⟨0x6100, 0x6100, 0x2, 0x2, .u 8, .rw, true, .attic, .none, .lit 0, .range 0 2⟩,
   ⟨0x6100, 0x6100, 0x3, 0x3, .bool, .rw, false, .volatile, .none, .lit 0, .any⟩,
   ⟨0x6100, 0x6100, 0x4, 0x4, .u 16, .rw, true, .attic, .none, .lit 780, .range 100 790⟩,
   ⟨0x6100, 0x6100, 0x5, 0x5, .u 8, .rw, true, .attic, .none, .lit 0, .range 0 1⟩,
   ⟨0x6100, 0x6100, 0x6, 0x6, .u 32, .rw, true, .attic, .none, .lit 0, .any⟩,
   ⟨0x6100, 0x6100, 0x7, 0x7, .u 32, .rw, true, .attic, .none, .lit 0, .any⟩,
   ⟨0x6100, 0x6100, 0x8, 0x8, .u 16, .rw, true, .attic, .none, .lit 1000, .range 300 60000⟩,
   ⟨0x6100, 0x6100, 0x9, 0x9, .u 16, .rw, true, .attic, .none, .lit 350, .range 250 60000⟩,
   ⟨0x6100, 0x6100, 0xA, 0xA, .u 8, .ro, false, .wake, .none, .lit 0, .any⟩,
   ⟨0x6100, 0x6100, 0xB, 0xB, .u 32, .ro, false, .wake, .none, .lit 0, .any⟩,
   ⟨0x6100, 0x6100, 0xC, 0xC, .u 32, .ro, false, .wake, .none, .lit 0, .any⟩,
   ⟨0x6100, 0x6100, 0xD, 0xD, .bool, .ro, false, .wake, .none, .lit 0, .any⟩,
   ⟨0x6100, 0x6100, 0xE, 0xE, .u 32, .ro, false, .wake, .none, .lit 0, .any⟩,
   ⟨0x6021, 0x6021, 0x1, 0x1, .bool, .rw, false, .volatile, .guest, .lit 0, .any⟩,
   ⟨0x6021, 0x6021, 0x2, 0x2, .u 64, .rw, false, .volatile, .guest, .lit 0, .any⟩,
   ⟨0x6021, 0x6021, 0x3, 0x3, .u 32, .rw, false, .volatile, .guest, .lit 0, .any⟩,
   ⟨0x6021, 0x6021, 0x4, 0x4, .u 8, .ro, false, .wake, .guest, .lit 0, .any⟩,
   ⟨0x6021, 0x6021, 0x5, 0x5, .u 64, .ro, false, .wake, .guest, .lit 0, .any⟩,
   ⟨0x6021, 0x6021, 0x6, 0x6, .u 64, .ro, false, .wake, .guest, .lit 0, .any⟩,
   ⟨0x6021, 0x6021, 0x7, 0x7, .u 64, .ro, false, .wake, .guest, .lit 0, .any⟩,
   ⟨0x6021, 0x6021, 0x8, 0x8, .u 32, .ro, false, .wake, .guest, .lit 0, .any⟩,
   ⟨0x6110, 0x6110, 0x1, 0x1, .u 16, .ro, false, .wake, .none, .lit 0, .any⟩,
   ⟨0x6110, 0x6110, 0x2, 0x2, .u 16, .ro, false, .wake, .none, .lit 0, .any⟩,
   ⟨0x6110, 0x6110, 0x3, 0x3, .domain 64, .wo, false, .fixed, .none, .lit 0, .any⟩,
   ⟨0x6110, 0x6110, 0x4, 0x4, .u 64, .ro, false, .wake, .none, .lit 0, .any⟩,
   ⟨0x6110, 0x6110, 0x5, 0x5, .u 32, .ro, false, .wake, .none, .lit 0, .any⟩,
   ⟨0x6110, 0x6110, 0x6, 0x6, .u 32, .ro, false, .wake, .none, .lit 0, .any⟩,
   ⟨0x6110, 0x6110, 0x7, 0x7, .u 64, .rw, false, .path, .none, .lit 0, .any⟩,
   ⟨0x6110, 0x6110, 0x8, 0x8, .u 8, .ro, false, .wake, .none, .lit 0, .any⟩]

/-- Object entries of spec/18_depot_and_fleet.md (R442). -/
def objTable18b : List ObjRow :=
  [⟨0x6110, 0x6110, 0x9, 0x9, .u 64, .ro, false, .wake, .none, .lit 0, .any⟩,
   ⟨0x6110, 0x6110, 0xA, 0xA, .domain 32, .ro, false, .wake, .none, .lit 0, .any⟩]

/-- Object entries of spec/19_checkpoint.md (R456). -/
def objTable19 : List ObjRow :=
  [⟨0x6022, 0x6022, 0x1, 0x1, .domain 32, .ro, false, .wake, .guest, .lit 0, .any⟩,
   ⟨0x6022, 0x6022, 0x2, 0x2, .u 8, .ro, false, .wake, .guest, .lit 0, .any⟩,
   ⟨0x6022, 0x6022, 0x3, 0x3, .u 32, .ro, false, .wake, .guest, .lit 0, .any⟩,
   ⟨0x6022, 0x6022, 0x4, 0x4, .u 32, .ro, false, .wake, .guest, .lit 0, .any⟩,
   ⟨0x6022, 0x6022, 0x5, 0x5, .u 32, .ro, false, .wake, .guest, .lit 0xFFFFFFFF, .any⟩,
   ⟨0x6022, 0x6022, 0x6, 0x6, .u 64, .ro, false, .wake, .guest, .lit 0, .any⟩,
   ⟨0x6022, 0x6022, 0x7, 0x7, .u 64, .ro, false, .wake, .guest, .lit 0, .any⟩,
   ⟨0x6022, 0x6022, 0x8, 0x8, .u 32, .ro, false, .wake, .guest, .lit 0, .any⟩,
   ⟨0x6120, 0x6120, 0x1, 0x1, .u 32, .ro, false, .wake, .none, .lit 0, .any⟩,
   ⟨0x6120, 0x6120, 0x2, 0x2, .u 64, .ro, false, .wake, .none, .lit 0, .any⟩,
   ⟨0x6120, 0x6120, 0x3, 0x3, .u 64, .ro, false, .wake, .none, .lit 0, .any⟩,
   ⟨0x6120, 0x6120, 0x4, 0x4, .u 32, .ro, false, .wake, .none, .lit 0, .any⟩,
   ⟨0x6120, 0x6120, 0x5, 0x5, .domain 32, .rw, false, .path, .none, .lit 0, .any⟩,
   ⟨0x6120, 0x6120, 0x6, 0x6, .domain 0, .ro, false, .wake, .none, .lit 0, .any⟩,
   ⟨0x6120, 0x6120, 0x7, 0x7, .domain 0, .wo, false, .fixed, .none, .lit 0, .any⟩,
   ⟨0x6120, 0x6120, 0x8, 0x8, .domain 0, .wo, false, .fixed, .none, .lit 0, .any⟩,
   ⟨0x6120, 0x6120, 0x9, 0x9, .u 64, .ro, false, .wake, .none, .lit 0, .any⟩,
   ⟨0x6120, 0x6120, 0xA, 0xA, .u 32, .ro, false, .wake, .none, .lit 0, .any⟩]

/-- Object entries of spec/20_fuind_link.md (R477). -/
def objTable20a : List ObjRow :=
  [⟨0xA000, 0xA000, 0x1, 0x1, .u 8, .rw, true, .attic, .none, .lit 1, .range 1 4⟩,
   ⟨0xA000, 0xA000, 0x2, 0x2, .u 8, .rw, true, .attic, .none, .lit 0, .range 0 1⟩,
   ⟨0xA000, 0xA000, 0x4, 0x4, .u 16, .rw, true, .attic, .none, .lit 200, .range 20 2000⟩,
   ⟨0xA000, 0xA000, 0x5, 0x5, .u 16, .rw, true, .attic, .none, .lit 1, .range 1 100⟩,
   ⟨0xA001, 0xA001, 0x1, 0x1, .u 8, .ro, false, .wake, .none, .lit 0, .any⟩,
   ⟨0xA001, 0xA001, 0x2, 0x2, .u 8, .ro, false, .wake, .none, .lit 0, .any⟩,
   ⟨0xA001, 0xA001, 0x3, 0x3, .u 8, .ro, false, .wake, .none, .lit 255, .any⟩,
   ⟨0xA001, 0xA001, 0x4, 0x4, .u 32, .ro, false, .wake, .none, .lit 0, .any⟩,
   ⟨0xA001, 0xA001, 0x5, 0x5, .u 32, .ro, false, .wake, .none, .lit 0, .any⟩,
   ⟨0xA001, 0xA001, 0x6, 0x6, .u 32, .ro, false, .wake, .none, .lit 0, .any⟩,
   ⟨0xA002, 0xA002, 0x1, 0x1, .u 32, .ro, false, .wake, .none, .lit 0, .any⟩,
   ⟨0xA002, 0xA002, 0x2, 0x2, .u 32, .ro, false, .wake, .none, .lit 0, .any⟩,
   ⟨0xA003, 0xA003, 0x1, 0x1, .u 32, .ro, false, .wake, .none, .lit 0, .any⟩,
   ⟨0xA003, 0xA003, 0x7, 0x7, .u 32, .ro, false, .wake, .none, .lit 0, .any⟩,
   ⟨0xA003, 0xA003, 0x2, 0x2, .u 32, .ro, false, .wake, .none, .lit 0, .any⟩,
   ⟨0xA003, 0xA003, 0x8, 0x8, .u 32, .ro, false, .wake, .none, .lit 0, .any⟩,
   ⟨0xA003, 0xA003, 0x3, 0x3, .u 32, .ro, false, .wake, .none, .lit 0, .any⟩,
   ⟨0xA003, 0xA003, 0x9, 0x9, .u 32, .ro, false, .wake, .none, .lit 0, .any⟩,
   ⟨0xA003, 0xA003, 0x4, 0x4, .u 32, .ro, false, .wake, .none, .lit 0, .any⟩,
   ⟨0xA003, 0xA003, 0xA, 0xA, .u 32, .ro, false, .wake, .none, .lit 0, .any⟩,
   ⟨0xA003, 0xA003, 0x5, 0x5, .u 32, .ro, false, .wake, .none, .lit 0, .any⟩,
   ⟨0xA003, 0xA003, 0xB, 0xB, .u 32, .ro, false, .wake, .none, .lit 0, .any⟩,
   ⟨0xA003, 0xA003, 0x6, 0x6, .u 64, .ro, false, .wake, .none, .lit 0, .any⟩,
   ⟨0xA003, 0xA003, 0xC, 0xC, .u 64, .ro, false, .wake, .none, .lit 0, .any⟩,
   ⟨0xA010, 0xA010, 0x1, 0x1, .u 32, .rw, false, .volatile, .none, .lit 0, .any⟩,
   ⟨0xA010, 0xA010, 0x2, 0x2, .u 32, .rw, false, .volatile, .none, .lit 0, .any⟩,
   ⟨0xA010, 0xA010, 0x3, 0x3, .u 64, .ro, false, .wake, .none, .lit 0, .any⟩,
   ⟨0xA010, 0xA010, 0x4, 0x4, .u 32, .ro, false, .wake, .none, .lit 0, .any⟩,
   ⟨0xA010, 0xA010, 0x5, 0x5, .u 32, .ro, false, .wake, .none, .lit 0, .any⟩,
   ⟨0xA020, 0xA020, 0x1, 0x60, .u 16, .rw, true, .attic, .none, .lit 0, .mask 0xFF07⟩]

/-- Object entries of spec/20_fuind_link.md (R477). -/
def objTable20b : List ObjRow :=
  [⟨0xA022, 0xA022, 0x1, 0x1, .u 32, .rw, false, .volatile, .none, .lit 1000, .range 10 100000⟩,
   ⟨0xA022, 0xA022, 0x2, 0x2, .u 16, .rw, false, .volatile, .none, .lit 64, .range 8 4096⟩,
   ⟨0xA023, 0xA023, 0x1, 0x1, .u 32, .ro, false, .wake, .none, .lit 0, .any⟩,
   ⟨0xA023, 0xA023, 0x2, 0x2, .u 32, .ro, false, .wake, .none, .lit 0, .any⟩,
   ⟨0xA023, 0xA023, 0x3, 0x3, .u 32, .ro, false, .wake, .none, .lit 0, .any⟩,
   ⟨0xA023, 0xA023, 0x4, 0x4, .u 8, .ro, false, .wake, .none, .lit 255, .any⟩]

/-- Object entries of spec/21_adaptive_loops.md (R493). -/
def objTable21a : List ObjRow :=
  [⟨0xB020, 0xB020, 0x1, 0x1, .u 32, .ro, false, .wake, .none, .lit 0, .any⟩,
   ⟨0xB020, 0xB020, 0x2, 0x6, .u 32, .ro, false, .wake, .none, .lit 0, .any⟩,
   ⟨0xB020, 0xB020, 0x7, 0x7, .u 8, .ro, false, .wake, .none, .lit 0, .any⟩,
   ⟨0xB020, 0xB020, 0x8, 0x8, .i 32, .ro, false, .wake, .none, .lit 0, .any⟩,
   ⟨0xB020, 0xB020, 0x9, 0x9, .i 32, .ro, false, .wake, .none, .lit 0, .any⟩,
   ⟨0xB020, 0xB020, 0xA, 0xA, .u 32, .ro, false, .wake, .none, .lit 0, .any⟩,
   ⟨0xB021, 0xB021, 0x1, 0x1, .u 16, .rw, false, .volatile, .none, .lit 650, .range 650 850⟩,
   ⟨0xB021, 0xB021, 0x2, 0x2, .u 16, .rw, false, .volatile, .none, .lit 850, .range 650 850⟩,
   ⟨0xB021, 0xB021, 0x3, 0x3, .u 16, .ro, false, .wake, .none, .lit 0, .any⟩,
   ⟨0xB021, 0xB021, 0x4, 0x4, .u 16, .ro, false, .wake, .none, .lit 0, .any⟩,
   ⟨0xB022, 0xB022, 0x1, 0x1, .u 8, .rw, false, .volatile, .none, .lit 20, .range 5 60⟩,
   ⟨0xB022, 0xB022, 0x2, 0x2, .u 8, .rw, false, .volatile, .none, .lit 40, .range 5 60⟩,
   ⟨0xB022, 0xB022, 0x3, 0x3, .u 8, .ro, false, .wake, .none, .lit 0, .any⟩,
   ⟨0xB022, 0xB022, 0x4, 0x4, .u 32, .ro, false, .wake, .none, .lit 0, .any⟩,
   ⟨0xB022, 0xB022, 0x5, 0x5, .u 64, .ro, false, .wake, .none, .lit 0, .any⟩,
   ⟨0xB022, 0xB022, 0x6, 0x6, .u 32, .ro, false, .wake, .none, .lit 0, .any⟩,
   ⟨0xB023, 0xB023, 0x1, 0x1, .u 8, .rw, false, .volatile, .none, .lit 1, .range 1 16⟩,
   ⟨0xB023, 0xB023, 0x2, 0x2, .u 8, .rw, false, .volatile, .none, .lit 16, .range 1 16⟩,
   ⟨0xB023, 0xB023, 0x3, 0x3, .u 8, .ro, false, .wake, .none, .lit 16, .any⟩,
   ⟨0xB023, 0xB023, 0x4, 0x4, .u 8, .ro, false, .wake, .none, .lit 16, .any⟩,
   ⟨0xB023, 0xB023, 0x5, 0x5, .u 64, .ro, false, .wake, .none, .lit 0, .any⟩,
   ⟨0xB023, 0xB023, 0x6, 0x6, .i 16, .rw, false, .volatile, .none, .lit 1000, .any⟩,
   ⟨0xB023, 0xB023, 0x7, 0x7, .u 32, .ro, false, .wake, .none, .lit 0, .any⟩,
   ⟨0xB024, 0xB024, 0x1, 0x1, .u 8, .rw, false, .volatile, .none, .lit 80, .range 10 100⟩,
   ⟨0xB024, 0xB024, 0x2, 0x2, .u 32, .ro, false, .wake, .none, .lit 0, .any⟩,
   ⟨0xB024, 0xB024, 0x3, 0x3, .u 8, .ro, false, .wake, .none, .lit 16, .any⟩,
   ⟨0xB024, 0xB024, 0x4, 0x4, .u 32, .ro, false, .wake, .none, .lit 0, .any⟩,
   ⟨0xB025, 0xB025, 0x1, 0x1, .u 8, .ro, false, .wake, .none, .lit 4, .any⟩,
   ⟨0xB025, 0xB025, 0x2, 0x2, .u 32, .ro, false, .wake, .none, .lit 0, .any⟩,
   ⟨0x3005, 0x3005, 0x1, 0x1, .u 8, .ro, false, .enable, .stream, .lit 0, .any⟩]

/-- Object entries of spec/21_adaptive_loops.md (R493). -/
def objTable21b : List ObjRow :=
  [⟨0x3005, 0x3005, 0x2, 0x2, .u 8, .ro, false, .enable, .stream, .lit 0, .any⟩,
   ⟨0x3005, 0x3005, 0x3, 0x3, .u 32, .ro, false, .enable, .stream, .lit 0, .any⟩]

/-- Object entries of spec/22_debug.md (R504). -/
def objTable22 : List ObjRow :=
  [⟨0x5050, 0x5050, 0x1, 0x1, .bool, .ro, false, .wake, .none, .lit 0, .any⟩,
   ⟨0x5050, 0x5050, 0x2, 0x2, .u 8, .ro, false, .wake, .none, .lit 0, .any⟩,
   ⟨0x5050, 0x5050, 0x3, 0x3, .u 64, .ro, false, .wake, .none, .lit 0, .any⟩,
   ⟨0x5050, 0x5050, 0x4, 0x4, .u 8, .rw, false, .volatile, .none, .lit 0, .mask 0x3⟩,
   ⟨0x5050, 0x5050, 0x5, 0x5, .u 32, .ro, false, .wake, .none, .lit 0, .any⟩,
   ⟨0x5050, 0x5050, 0x6, 0x6, .u 32, .ro, false, .wake, .none, .lit 0, .any⟩,
   ⟨0x5050, 0x5050, 0x7, 0x7, .u 32, .ro, false, .por, .none, .lit 0, .any⟩]

/-- Object entries of spec/23_signals_and_package.md (R525). -/
def objTable23 : List ObjRow :=
  [⟨0xB030, 0xB030, 0x1, 0x1, .u 32, .ro, false, .wake, .none, .lit 0, .any⟩,
   ⟨0xB030, 0xB030, 0x2, 0x2, .u 16, .ro, false, .wake, .none, .lit 0, .any⟩,
   ⟨0xB030, 0xB030, 0x3, 0x3, .u 32, .ro, false, .wake, .none, .lit 0, .any⟩,
   ⟨0xB030, 0xB030, 0x4, 0x4, .u 32, .ro, false, .wake, .none, .lit 0, .any⟩,
   ⟨0xB030, 0xB030, 0x5, 0x5, .u 8, .ro, false, .wake, .none, .lit 0, .any⟩]

/-- Every entry of the object dictionary, chapter by chapter (R95, R96). -/
def objTable : List ObjRow :=
  objTable01 ++
  objTable02a ++
  objTable02b ++
  objTable03 ++
  objTable04a ++
  objTable04b ++
  objTable05a ++
  objTable05b ++
  objTable06a ++
  objTable06b ++
  objTable07 ++
  objTable08a ++
  objTable08b ++
  objTable09a ++
  objTable09b ++
  objTable10 ++
  objTable12 ++
  objTable13 ++
  objTable14 ++
  objTable15a ++
  objTable15b ++
  objTable16 ++
  objTable17a ++
  objTable17b ++
  objTable18a ++
  objTable18b ++
  objTable19 ++
  objTable20a ++
  objTable20b ++
  objTable21a ++
  objTable21b ++
  objTable22 ++
  objTable23

/-- The row of an entry (R95). -/
def objRow? (idx sub : Nat) : Option ObjRow :=
  objTable.find? fun r => r.idxLo ≤ idx && idx ≤ r.idxHi && r.subLo ≤ sub && sub ≤ r.subHi

/-- Whether some chapter defines the index (R96). -/
def indexExists (idx : Nat) : Bool := objTable.any fun r => r.idxLo ≤ idx && idx ≤ r.idxHi

/-- The highest subindex in use of an index, its subindex 0x00 (R95). -/
def highestSub (idx : Nat) : Nat :=
  (objTable.filter fun r => r.idxLo ≤ idx && idx ≤ r.idxHi).foldl (fun m r => max m r.subHi) 0

/-- Size in bytes of an entry's value on the dictionary (R97); 0 for DOMAIN. -/
def ObjTy.size : ObjTy → Nat
  | .bool => 1
  | .u n => n / 8
  | .i n => n / 8
  | .str => 16
  | .domain _ => 0

/-- Whether the type is a DOMAIN. -/
def ObjTy.isDomain : ObjTy → Bool
  | .domain _ => true
  | _ => false

/-- The number of channels behind a selector (R105). -/
def Sel.count : Sel → Nat
  | .none => 1
  | .stream => 96
  | .engine => 48
  | .queue => 512
  | .monitor => 24
  | .guest => 8

/-- The default of a row on a channel. -/
def Dflt.value (d : Dflt) (ch : Nat) : Nat :=
  match d with
  | .lit n => n
  | .chan => ch
  | .chanDiv8 => ch / 8

/-- The default of an entry (R100); 0 where no table defines it. -/
def objDefault (idx sub ch : Nat) : Nat :=
  match objRow? idx sub with
  | some r => r.dflt.value ch
  | none => 0

/-- The storage class of an entry. -/
def objCls (idx sub : Nat) : Cls :=
  match objRow? idx sub with
  | some r => r.cls
  | none => .fixed

end Sys2Proof.Machine
end

