-- ==== Sys2Proof/Machine/State.lean ====
section
/-! DEFINITION. Everything the spec gives the block, as plain data, and the state right after reset. -/

namespace Sys2Proof.Machine

/-! ## Time, power and pins (chapters 1 to 3, 8, 23) -/

/-- The power states of R46; OFF has no code in 0x2001:01 (R42). -/
inductive Mode where
  | off
  | parked
  | waking
  | bench
  | drive
  | depot
  | handover
  | safe
  deriving DecidableEq, Repr

/-- The encoding of 0x2001:01 (R42), with 0x00 for OFF as the reset history has it (R78). -/
def Mode.code : Mode → Nat
  | .off => 0
  | .parked => 1
  | .waking => 2
  | .bench => 3
  | .drive => 4
  | .depot => 5
  | .handover => 6
  | .safe => 7

/-- The counters of time. `elapsed` is the model's own count of microseconds, which every pending time is held in, so that a Time
Base step leaves each remaining duration as it is (R201): TICK edges while the Time Base runs (R24, R210), else microseconds. -/
structure Clock where
  elapsed : Nat
  /-- Microseconds of REFCLK, which ICLK cycles are counted by (R29, R227). -/
  us : Nat
  /-- The real-time counter 0xB004:01 (R59). -/
  rtc : Nat
  /-- The part of an SCLK period already passed, in units of 1 / 61,000,000 of a period (R59, R69). -/
  rtcFrac : Nat
  /-- The Time Base accumulator, in units of 2^-40 ns (R192). -/
  tb : Nat
  /-- Whether the Time Base runs (R30). -/
  tbRun : Bool
  /-- TICK edges since the Time Base started, 0x9000:09 (R194). -/
  ticks : Nat
  deriving DecidableEq, Repr

/-- The power-state controller and the reset supervisor (R43). -/
structure Power where
  mode : Mode
  /-- 0x2001:02. -/
  prev : Mode
  /-- PORST_N asserted. -/
  porst : Bool
  /-- VAON within its range. -/
  vaonOk : Bool
  /-- PORST_N is released, and PARKED has not committed yet (R69). -/
  booting : Bool
  /-- The history cause that the way out of OFF carries: 0x01 or 0x02 (R77). -/
  offCause : Nat
  /-- The trim of ACLK: the initial trim of the calibration set (R179, R183), then what the retrims make of it (R44). -/
  aclkTrim : Nat
  /-- Lowest VAON seen, mV, for the history detail of cause 0x02 (R78). -/
  lowVaon : Nat
  /-- The state that the way into OFF interrupted, for the next history entry (R78). -/
  offMode : Mode
  /-- Filtered level of IGN_WAKE (R48). -/
  ign : Bool
  /-- Filtered level of SHORE_PWR (R48). -/
  shore : Bool
  /-- RESET_N accepted as asserted (R70). -/
  resetHeld : Bool
  /-- `elapsed` at the accepted assertion of RESET_N. -/
  resetAt : Nat
  /-- Real-time counter at the accepted assertion. -/
  resetRtc : Nat
  /-- State in force at the accepted assertion. -/
  resetMode : Mode
  /-- The stuck time in force at the accepted assertion, s (R74). -/
  resetStuckTime : Nat
  /-- The cause-0x07 entry of this hold has been written. -/
  resetStuck : Bool
  /-- The hold has passed 5,000 ms. -/
  resetLong : Bool
  /-- The SAFE latch of R52. -/
  safeLatch : Bool
  /-- Mechanism code and detail kept in the Pumping Station (R53). -/
  keptCode : Option (Nat × Nat)
  /-- A class-S detection waiting for its SAFE commit: code and detail (R347). -/
  pendSafe : Option (Nat × Nat)
  /-- The mechanism code of the present or last SAFE entry, for R354. -/
  safeCode : Nat
  /-- Teardown is running; the step it has reached: 0 attic writes complete, 1 the journal is committed, 2 the cellar is off, 3
the PLLs are stopped (R53). -/
  teardown : Option Nat
  /-- The drive-off count runs; `elapsed` at its end (R49). -/
  driveOff : Option Nat
  /-- `elapsed` at the end of ready-hold (R50). -/
  readyHold : Option Nat
  /-- A wake deferred by temperature, with its source (R60). -/
  deferred : Option Nat
  /-- The wake was made by request 0x03 (R54). -/
  benchWake : Bool
  /-- WAKE_REQ_N is asserted for a CAN or alarm wake (R58). -/
  wakeReqWake : Bool
  /-- WAKE_REQ_N is asserted for the same-ID condition (R476). -/
  wakeReqSameId : Bool
  /-- REFCLK_REQ_N asserted (R517). -/
  refclkReq : Bool
  /-- Rails outside their thresholds, one bit each (R369). -/
  railsOut : Nat
  /-- The AVS set point, mV (R516). -/
  avsSet : Nat
  deriving DecidableEq, Repr

/-- The boot options as read at the PARKED to WAKING commit (R80). -/
structure BootOpts where
  bench : Bool
  lean : Bool
  split : Bool
  source : Nat
  attempts : Nat
  /-- Minimum generation, and the two owner key hashes. -/
  minGen : Nat
  key0 : Nat
  key1 : Nat
  deriving DecidableEq, Repr

/-- Start-up and model load (R82 to R92). -/
structure Startup where
  boot : BootOpts
  /-- Step 2: the core domains are powered. -/
  coreOn : Bool
  /-- Step 3: the fast PLLs are locked. -/
  pllOn : Bool
  /-- Step 4a done. -/
  keepersTested : Bool
  /-- Step 4b done: the cellar is available. -/
  cellarOn : Bool
  /-- Failed cellar trainings of this wake. -/
  trainFails : Nat
  /-- Step 4c done. -/
  enginesTested : Bool
  /-- Step 4d done: the PCIe link is up. -/
  pcieUp : Bool
  /-- Step 5 done. -/
  zeroed : Bool
  /-- The staging window takes a delivery; `elapsed` at its deadline, 0 for none (R90). -/
  window : Option Nat
  /-- The checks of R87 run on a delivered length. -/
  checking : Option Nat
  /-- The cells of the staging window as they stood when the delivery ended (R87). -/
  image : List Host.Cell
  /-- The checks passed, and the sections are being placed (R88). -/
  placing : Bool
  /-- A drive model is placed (R91). -/
  loaded : Bool
  /-- Length of the resident image in the staging window; 0 for none (R91). -/
  imageLen : Nat
  /-- `elapsed` at the wake reference (R82). -/
  wakeAt : Nat
  /-- HANDOVER has decided for DRIVE (R51). -/
  toDrive : Bool
  /-- The fresh check of the resident image has passed (R91). -/
  freshOk : Bool
  /-- A fresh check runs (R91, R355, R360). -/
  freshRun : Bool
  /-- BENCH entered from SAFE with the Keepers held in reset (R355). -/
  benchRestricted : Bool
  /-- Start-up complete in this wake. -/
  complete : Bool
  deriving DecidableEq, Repr

/-- The SAFE_ERR drivers, HAZARD_N and the JTAG lines (R350, R351, R227, R494). -/
structure Pins where
  /-- Level of SAFE_ERR0_N. -/
  err0 : Bool
  /-- Level of SAFE_ERR1_N. -/
  err1 : Bool
  /-- The pins toggle (R351). -/
  toggling : Bool
  /-- Level of HAZARD_N: true is deasserted. -/
  hazardN : Bool
  /-- Level of TDO's selected register: the TAP instruction in force (R494). -/
  tapReg : Nat
  deriving DecidableEq, Repr

/-! ## The attic, the Change Journal and the interface paths (chapters 3, 4, 7) -/

/-- An accepted write of an attic-class object that the attic has not stored yet (R101). -/
structure AtticWrite where
  path : Nat
  idx : Nat
  sub : Nat
  chan : Nat
  data : List Byte
  /-- State in force at the commit (R120). -/
  state : Nat
  /-- Written by record under R117. -/
  byRecord : Bool
  /-- The path answers when the write takes effect: a CAN or UDP answer waits (R132). -/
  answers : Bool
  deriving DecidableEq, Repr

/-- The attic beside the attic-class objects: the two calibration areas and the reset history. -/
structure Attic where
  /-- Accepted writes, oldest first. -/
  queue : List AtticWrite
  /-- Calibration area A, empty when erased (R186). -/
  areaA : List Byte
  /-- Calibration area B. -/
  areaB : List Byte
  commitA : Bool
  commitB : Bool
  /-- A verified set that waits for its commit word (R186). -/
  pendSet : Option AtticWrite
  /-- The reset history, newest first, 32 bytes each, at most 256; an entry that the erasure of its block has taken is empty
(R78). -/
  history : List (List Byte)
  /-- Entries written over the life of the device: the place of the next one in the ring (R78). -/
  written : Nat
  deriving DecidableEq, Repr

/-- One entry of the Change Journal (R120), with its number (R122). -/
structure JEntry where
  idx : Nat
  sub : Nat
  path : Nat
  state : Nat
  flags : Nat
  chan : Nat
  stamp : Nat
  old : Nat
  new : Nat
  num : Nat
  deriving DecidableEq, Repr

/-- The Change Journal (R121): the newest 256 entries, newest first. -/
structure Journal where
  entries : List JEntry
  /-- 0x2600:01. -/
  written : Nat
  /-- 0x2600:02. -/
  wraps : Nat
  deriving DecidableEq, Repr

/-- A DOMAIN download that waits for its sealing record (R118). -/
structure Staged where
  idx : Nat
  sub : Nat
  chan : Nat
  data : List Byte
  at_ : Nat
  deriving DecidableEq, Repr

/-- A segmented transfer of the mailbox, of a USDO session or of a UDP peer (R109, R132, R136). -/
structure Xfer where
  upload : Bool
  idx : Nat
  sub : Nat
  chan : Nat
  total : Nat
  /-- The whole value of an upload; the bytes received so far of a download. -/
  data : List Byte
  offset : Nat
  /-- Length of the segment last presented. -/
  seg : Nat
  /-- `elapsed` at the last access of the transfer. -/
  at_ : Nat
  /-- Largest segment of the session (R132). -/
  maxSeg : Nat
  deriving DecidableEq, Repr

/-- A dictionary access that waits to be served: while Keeper B is halted (R502), or behind a write that the attic has not stored
(R132). -/
inductive Held where
  /-- A write of a value by a command of its own. -/
  | value (p : Path) (idx sub : Nat) (data : List Byte)
  /-- An object write, on PCIe in the form of the mirror window. -/
  | write (p : Path) (idx sub : Nat) (data : List Byte) (enables : Bool)
  | read (p : Path) (idx sub dwords : Nat) (enables : Bool)
  | record (p : Path) (data : List Byte)
  | download (p : Path) (idx sub : Nat) (data : List Byte)
  /-- A calibration set, and whether its programming reads back. -/
  | calSet (p : Path) (data : List Byte) (verified : Bool)
  | usdo (port : Fin 2) (fmt : FrameFormat) (req : UsdoReq)
  /-- A dictionary message over UDP: operation, address, port, message. -/
  | udp (op addr port : Nat) (m : List Byte)
  deriving DecidableEq, Repr

/-- What one interface path holds for itself (R100, R104). -/
structure PathState where
  /-- The path exists (R104). -/
  live : Bool
  /-- First key accepted at this `elapsed` (R115). -/
  armed : Option Nat
  /-- Window opened at this `elapsed` (R115). -/
  opened : Option Nat
  selStream : Nat
  selEngine : Nat
  selQueue : Nat
  selMonitor : Nat
  selGuest : Nat
  /-- 0x2021:01 to 03. -/
  refusal : Nat
  refused : Nat
  refusals : Nat
  /-- 0x2020:01, 03, 04, 07 and the data words; the rest is in the transfer. -/
  mbTarget : Nat
  mbStatus : Nat
  mbTotal : Nat
  mbOffset : Nat
  mbSeg : Nat
  mbFail : Nat
  mbCrc : Nat
  mbData : List Byte
  /-- The mailbox transfer in progress. -/
  mailbox : Option Xfer
  /-- A segmented transfer of CAN or UDP. -/
  session : Option Xfer
  /-- The failure code that the next request of a failed UDP transfer is answered with (R136). -/
  sessionFail : Option Nat
  staged : Option Staged
  /-- 0x2600:03 and the latch of R122. -/
  jIndex : Nat
  jLatch : Option JEntry
  /-- 0x2031:02. -/
  hIndex : Nat
  /-- 0x4030:01. -/
  bank : Nat
  /-- 0x5120:02. -/
  recIndex : Nat
  /-- 0x6110:07. -/
  jobIndex : Nat
  /-- 0x6120:05. -/
  ckHash : Nat
  /-- 0x7040:07 and 08. -/
  smpIndex : Nat
  smpLatch : List Byte
  /-- The Time Base fraction latched by the last read of 0x9000:01 (R195). -/
  tbFrac : Nat
  /-- UDP peer: source address and port, and `elapsed` at its last request (R104). -/
  peer : Nat × Nat
  peerAt : Nat
  /-- Sequence number and bytes of the last response of a UDP peer (R137). -/
  lastResp : Option (Nat × List Byte)
  /-- USDO requests that wait until the attic has stored the write before them (R132), oldest first. -/
  next : List (FrameFormat × UsdoReq)
  /-- The request of a UDP peer or of path 0x30 that waits for the attic: the head of its response (R137). -/
  busy : Option (List Byte)
  deriving DecidableEq, Repr

/-- A path that has just come into being (R100). -/
def PathState.fresh : PathState where
  live := true
  armed := none
  opened := none
  selStream := 0
  selEngine := 0
  selQueue := 0
  selMonitor := 0
  selGuest := 0
  refusal := 0
  refused := 0
  refusals := 0
  mbTarget := 0
  mbStatus := 0
  mbTotal := 0
  mbOffset := 0
  mbSeg := 0
  mbFail := 0
  mbCrc := 0
  mbData := []
  mailbox := none
  session := none
  sessionFail := none
  staged := none
  jIndex := 0
  jLatch := none
  hIndex := 0
  bank := 0
  recIndex := 0
  jobIndex := 0
  ckHash := 0
  smpIndex := 0
  smpLatch := []
  tbFrac := 0
  peer := (0, 0)
  peerAt := 0
  lastResp := none
  next := []
  busy := none

/-- A path that does not exist. -/
def PathState.absent : PathState := { PathState.fresh with live := false }

/-! ## CAN, EMCY and the outputs (chapter 5) -/

/-- An EMCY (R135): its stamp is the Time Base in whole ns. -/
structure Emcy where
  code : Nat
  reg : Nat
  source : Nat
  info : Nat
  stamp : Nat
  deriving DecidableEq, Repr

/-- One CAN port beside its objects 0x1F90 or 0x1F91. -/
structure CanPort where
  /-- The core controller runs the port (R127). -/
  core : Bool
  /-- Queued EMCYs, oldest first, at most 16 (R135). -/
  emcys : List Emcy
  /-- EMCYs dropped since the last 0xFF0F. -/
  dropped : Nat
  /-- `elapsed` at the last EMCY sent. -/
  emcyAt : Option Nat
  /-- Consecutive collisions by identifier, [28:0] and IDE in [29] (R142). -/
  collisions : Amap Nat
  /-- `elapsed` at the boot-up message, while autostart is still due (R130). -/
  bootAt : Option Nat
  deriving DecidableEq, Repr

/-- One TPDO beside its objects: the data last sent and when, and when its timer started (R133). -/
structure Tpdo where
  last : List Byte
  sentAt : Option Nat
  deriving DecidableEq, Repr

/-- A timed frame that waits for its launch (R207): port (0, 1 Ethernet; 2, 3 CAN), launch time as `elapsed` in units
of ns, and the bytes. -/
structure Timed where
  port : Nat
  at_ : Nat
  kind : Nat
  data : List Byte
  deriving DecidableEq, Repr

/-- What leaves the block. -/
inductive Output where
  /-- The answer to an access on a path: result code (0 success) and data. -/
  | answer (path code : Nat) (data : List Byte)
  /-- A CAN frame: port, identifier with IDE in [29], the XL fields of a TPDO (R133), data. -/
  | can (port id xl : Nat) (data : List Byte)
  /-- A Fuind-over-UDP datagram to an address and port. -/
  | udp (addr port : Nat) (data : List Byte)
  /-- A message handed to a Fuind port. -/
  | fuind (port : Nat) (data : List Byte)
  /-- A flit sent by a Fuind port. -/
  | flit (port : Nat) (data : List Byte)
  /-- A gPTP message: 0 Pdelay_Req, 1 Pdelay_Resp, 2 Pdelay_Resp_Follow_Up. -/
  | gptp (kind port seq : Nat)
  /-- An ARP reply: port, own address, asker. -/
  | arp (port own asker : Nat)
  /-- A fused strip record as a datagram: 25GBASE-T1 port, destination address and UDP port (R222, R223). -/
  | record (via addr port : Nat) (data : List Byte)
  /-- A fragment of an object list as a datagram: 25GBASE-T1 port, destination address and UDP port (R303). -/
  | objectList (via addr port : Nat) (data : List Byte)
  /-- An MSI-X message: function and vector. -/
  | msix (fn vec : Nat)
  /-- A posted write to the host: address and data (R242). -/
  | hostWrite (addr : Nat) (data : List Byte)
  /-- A completion of a BAR4 or BAR2 read: successful, or an error completion (R250). -/
  | pcie (fn : Nat) (ok : Bool) (data : List Byte)
  /-- A voltage write on AVSBus, mV (R516). -/
  | avs (mv : Nat)
  /-- An SDAP or TAP answer: status and data. -/
  | jtag (status : Nat) (data : List Byte)
  deriving DecidableEq, Repr

/-! ## Monitors and counters (chapter 17) -/

/-- The part of a monitor channel that no object shows (R406). -/
structure MonState where
  /-- `elapsed` at the end of the present hold-off. -/
  holdoff : Nat
  pendingNote : Bool
  deriving DecidableEq, Repr

/-- One counter bank of an engine (R410). -/
structure Bank where
  cycle : Nat
  counts : List Nat
  events : List Nat
  overflow : Nat
  deriving DecidableEq, Repr

/-- A bank at reset. -/
def Bank.zero : Bank where
  cycle := 0
  counts := List.replicate 6 0
  events := List.replicate 6 0
  overflow := 0

/-- Precise sampling (R413, R415). -/
structure Sampling where
  /-- Records, newest first, at most 512. -/
  records : List (List Byte)
  /-- Instructions counted per engine since the last sample. -/
  counts : Amap Nat
  /-- Engines whose sampled instruction has not completed. -/
  inFlight : Nat
  /-- The context that each engine's pipelines issued last: engine × 8 + pipeline code, one past the context's number (R233). -/
  last : Amap Nat
  deriving DecidableEq, Repr

/-! ## Threads, engines and memory (chapters 10 to 12) -/

/-- An outstanding tensor operation of a context (R271 to R273). -/
structure TensorOp where
  token : Nat
  /-- A TMOVE; otherwise a TOP. -/
  copy : Bool
  /-- The descriptor captured at issue. -/
  desc : List Byte
  /-- Bits [13:9] of a TOP: precision, accumulate, dequantize. -/
  mode : Nat
  /-- The descriptor's address. -/
  addr : Nat
  /-- PC of the tensor instruction. -/
  pc : Nat
  /-- The operation has finished and waits for an earlier token of its context (R273). -/
  finished : Bool
  /-- A deferred fault: ECODE code and address (R273). -/
  fault : Option (Nat × Nat)
  /-- The model's number of the job that issued it (R245). -/
  job : Nat
  deriving DecidableEq, Repr

/-- The state of an engine context or of a Keeper core (R255, R276), with what its job and the debug port hold of it. -/
structure Ctx where
  x : Vector Word 32
  v : Vector (Vector Half 64) 8
  p : Vector Word 4
  pc : Word
  flags : Word
  epc : Word
  ecode : Word
  eaddr : Word
  tag : Word
  /-- Waiting at a barrier (R256). -/
  barrier : Option Nat
  /-- Outstanding tensor operations in issue order (R273). -/
  ops : List TensorOp
  /-- Index of the context within its job (R337). -/
  index : Nat
  /-- JOBEND has been executed, and its status (R274). -/
  ended : Option Nat
  /-- An exception has stopped the context (R279). -/
  stopped : Bool
  /-- Keeper thread state words (R276). -/
  tvec : Word
  scratch : Word
  /-- A Keeper waits in WFE (R275). -/
  waiting : Bool
  /-- KCLK count of a Keeper core (R276). -/
  cycle : Nat
  deriving DecidableEq, Repr

/-- A context slot of zeros. -/
def Ctx.zero : Ctx where
  x := Vector.replicate 32 0
  v := Vector.replicate 8 (Vector.replicate 64 0)
  p := Vector.replicate 4 0
  pc := 0
  flags := 0
  epc := 0
  ecode := 0
  eaddr := 0
  tag := 0
  barrier := none
  ops := []
  index := 0
  ended := none
  stopped := false
  tvec := 0
  scratch := 0
  waiting := false
  cycle := 0

/-- A barrier of an engine (R265): the count that the first arrival fixed, and the contexts that have arrived. -/
structure Barrier where
  id : Nat
  count : Nat
  arrived : List Nat
  deriving DecidableEq, Repr

/-- A running dike sequence (R384, R385). -/
structure Dike where
  cause : Nat
  /-- The step in progress: 2 drain, 4 reset, 5 scrub, 6 ready to open, 7 test. -/
  step : Nat
  /-- `elapsed` and the Time Base in ns at the close. -/
  at_ : Nat
  ns : Nat
  /-- The queue of the job that caused it, 0xFFFF for none (R394). -/
  queue : Nat
  /-- Already counted toward escalation (R384). -/
  counted : Bool
  /-- Ends out of service (R389). -/
  final : Bool
  /-- Part of a partition reset (R341). -/
  inReset : Bool
  /-- Jobs that its cause has completed ABORTED_FENCE: the job of a mismatch (R363, R394). -/
  lost : Nat
  deriving DecidableEq, Repr

/-- One engine beside its objects. -/
structure Engine where
  barriers : List Barrier
  /-- Issued TOPs in order: context number and token (R295). -/
  tops : List (Nat × Nat)
  /-- Residency directory, most recently entered first: base and length in bytes, at most 16 (R336). -/
  dir : List (Nat × Nat)
  dike : Option Dike
  /-- `elapsed` at the closes of its counted resets, newest first (R389). -/
  resets : List Nat
  /-- Withdrawn from placement for its LBIST slot (R365). -/
  withdrawn : Bool
  /-- Its rotating test runs: contexts are suspended (R365). -/
  testing : Bool
  /-- The last slot was skipped (R365). -/
  skipped : Bool
  /-- Gated: a wake is in progress (R62). -/
  waking : Bool
  /-- A move to another partition waits for its scrub: the partition that the engine still belongs to (R330). -/
  moving : Option Nat
  deriving DecidableEq, Repr

/-- An engine with nothing in it. -/
def Engine.idle : Engine where
  barriers := []
  tops := []
  dir := []
  dike := none
  resets := []
  withdrawn := false
  testing := false
  skipped := false
  waking := false
  moving := none

/-! ## Queues and jobs (chapter 14) -/

/-- Where a job stands. -/
inductive JobPhase where
  | pending
  | running
  /-- Ended; its record waits for its turn or its ring slot (R339). -/
  | ended
  deriving DecidableEq, Repr

/-- An accepted job (R332, R339). -/
structure Job where
  /-- The model's own number of the job, in order of acceptance. -/
  id : Nat
  queue : Nat
  seq : Nat
  desc : List Byte
  /-- Priority and partition of its queue. -/
  prio : Nat
  part : Nat
  phase : JobPhase
  /-- The engine that runs it, 2n for a pair; 0xFF if it never started. -/
  engine : Nat
  /-- Its context numbers on that engine, by index. -/
  slots : List Nat
  /-- A cancel is in progress (R340). -/
  cancelling : Bool
  status : Nat
  user : Nat
  ecode : Nat
  acceptNs : Nat
  startNs : Nat
  endNs : Nat
  deriving DecidableEq, Repr

/-- One queue beside its objects. -/
structure QueueState where
  /-- The next submission sequence number (R333). -/
  next : Nat
  /-- The consumed count of 0x048 (R334). -/
  consumed : Nat
  deriving DecidableEq, Repr

/-- A queue as it is enabled. -/
def QueueState.fresh : QueueState where
  next := 0
  consumed := 0

/-- What a doorbell page holds for one writer (R334). -/
structure Doorbell where
  staging : List Byte
  /-- Code of the last submission or cancel. -/
  status : Nat
  refusals : Nat
  lastSeq : Nat
  deriving DecidableEq, Repr

/-- A doorbell page that its writer has not used. -/
def Doorbell.fresh : Doorbell where
  staging := zeros 64
  status := 0
  refusals := 0
  lastSeq := 0

/-- A partition reset in progress (R341). -/
structure PartReset where
  part : Nat
  /-- The engine that ran the faulting job. -/
  engine : Nat
  /-- Engines still to be reset, ascending; the first is in its sequence. -/
  left : List Nat
  /-- Jobs that never started, completed ABORTED_FENCE at the last polder's reset (R394). -/
  aborted : Nat
  deriving DecidableEq, Repr

/-- The queue manager. -/
structure Sched where
  /-- Accepted jobs whose record is not written, in order of acceptance. -/
  jobs : List Job
  nextId : Nat
  queues : Amap QueueState
  bells : Amap Doorbell
  /-- The queue served last at each priority, plus one; 0 for none (R335). -/
  lastServed : Amap Nat
  resets : List PartReset
  deriving DecidableEq, Repr

/-- No queue, no job. -/
def Sched.idle : Sched where
  jobs := []
  nextId := 0
  queues := []
  bells := []
  lastServed := []
  resets := []

/-! ## The fixed-function units (chapter 13) -/

/-- A request that a unit has taken (R309, R310). -/
structure UnitReq where
  /-- Port owner: g, or 3072 + Keeper core. -/
  port : Nat
  part : Nat
  /-- Served in the first class: a job at P0 or P1, or a Keeper (R311). -/
  first : Bool
  tag : Nat
  desc : List Byte
  /-- Status known before the request is served, at its trigger or its start: 0 for none; 1 invalid, 2 memory fault, 4 not
allowed. -/
  early : Nat
  /-- Engine of the requester, for R317. -/
  engine : Nat
  /-- The model's number of the job that triggered it, none for a Keeper (R245). -/
  job : Option Nat
  /-- The request runs: the words of its state slot as the step read them when it started (R315). -/
  run : Option (Nat × Nat)
  /-- A store has reached the reset flag of its slot while it runs (R327). -/
  kept : Bool
  deriving DecidableEq, Repr

/-! ## Recovery and safety (chapters 15 and 16) -/

/-- The watchdog, the escalation log and the deadlock detector. -/
structure Recovery where
  /-- The watchdog is armed: `elapsed` at the next expiry (R379). -/
  watchdog : Option Nat
  /-- `elapsed` at the last kick or arming (R378). -/
  kickAt : Nat
  /-- Recovery records, newest first, at most 64 (R394). -/
  log : List (List Byte)
  nextSeq : Nat
  /-- `elapsed` of counted polder resets across the device, newest first (R390). -/
  resets : List Nat
  /-- The wait cycles that the last scan found: contexts, then queues (R382). -/
  lastScan : List (List Nat × List Nat)
  deriving DecidableEq, Repr

/-- At each wake. -/
def Recovery.idle : Recovery where
  watchdog := none
  kickAt := 0
  log := []
  nextSeq := 0
  resets := []
  lastScan := []

/-- The safety controller (R351, R352, R358 to R360). -/
structure SafetyCtl where
  /-- The alive challenge of both ports. -/
  challenge : BitVec 16
  /-- A valid response since the last check, by pair. -/
  aliveA : Bool
  aliveB : Bool
  /-- The alive checks run: Keeper A has made its first valid write (R351). -/
  started : Bool
  /-- The pins may toggle: a valid response has come since the start, or since the end of a halt (R502). -/
  toggle : Bool
  /-- Ticks at the last alive check. -/
  checkAt : Nat
  /-- Both Keeper pairs are held in reset. -/
  keepersHeld : Bool
  /-- A run-time split is pending: `elapsed` at the request (R359). -/
  splitAt : Option Nat
  /-- A rejoin runs: `elapsed` at its start (R360). -/
  rejoinAt : Option Nat
  /-- The rejoin has passed its acknowledgement step. -/
  rejoining : Bool
  ackA : Bool
  ackB : Bool
  /-- Store rooms read in the scrub pass in progress, one bit each (R367). -/
  scrubbed : Nat
  /-- PLLs that have lost lock, by clock code (R40, R368). -/
  unlocked : Nat
  /-- Corrected errors of the Keeper memories since the wake (R249, R400). -/
  keeperEcc : Nat
  deriving DecidableEq, Repr

/-- Before start-up. -/
def SafetyCtl.idle : SafetyCtl where
  challenge := 0
  aliveA := false
  aliveB := false
  started := false
  toggle := false
  checkAt := 0
  keepersHeld := true
  splitAt := none
  rejoinAt := none
  rejoining := false
  ackA := false
  ackB := false
  scrubbed := 0
  unlocked := 0
  keeperEcc := 0

/-! ## Sensor ingress, the Strip Sequencer, the hazard path and the Post-Processing Unit (chapters 6, 9 and 12) -/

/-- Where a strip's job stands (R214, R217). -/
inductive StripJob where
  /-- Refused so far; submitted again at each TICK edge. -/
  | toSubmit
  /-- Accepted by its queue: the job's number. -/
  | accepted (id : Nat)
  /-- Ended or withdrawn. -/
  | ended
  deriving DecidableEq, Repr

/-- A complete strip that the Strip Sequencer still follows (R214 to R219). -/
structure Strip where
  /-- Strip number (R214). -/
  n : Nat
  frame : Nat
  index : Nat
  /-- The strip is its frame's last. -/
  last : Bool
  /-- Lines and width after decimation. -/
  lines : Nat
  width : Nat
  replaced : Bool
  decimated : Bool
  diverted : Bool
  /-- The sluice slot it holds (R165). -/
  slot : Option Nat
  /-- The divert-ring entry it holds (R168). -/
  ring : Option Nat
  /-- Address of the strip, argument 0 of its job (R215). -/
  src : Nat
  /-- TICK edges at its completion. -/
  doneTick : Nat
  /-- Its deadline, in TICK edges (R216). -/
  deadline : Nat
  job : StripJob
  /-- It has been submitted before (R214). -/
  tried : Bool
  /-- Its bounded outcome has been registered (R219). -/
  bounded : Bool
  /-- The job ran on one engine without twin compare (R220). -/
  single : Bool
  stamp : Nat
  corrected : Nat
  deriving DecidableEq, Repr

/-- The strip that a sluice is filling (R165). -/
structure Filling where
  n : Nat
  index : Nat
  slot : Nat
  lines : Nat
  replaced : Bool
  stamp : Nat
  corrected : Nat
  deriving DecidableEq, Repr

/-- A sluice: an enabled stream, or a disabled one that still drains (R163). Its counters and status are the objects
0x3002 to 0x3005 of the stream. -/
structure Sluice where
  stream : Nat
  on : Bool
  /-- Allocation in the ingress pool: offset and bytes (R164). -/
  base : Nat
  size : Nat
  /-- Next line number of the frame, and next strip index. -/
  line : Nat
  index : Nat
  /-- Number of the next strip (R214). -/
  next : Nat
  filling : Option Filling
  /-- The last good line, as stored before rectification and offsets; empty for none yet (R159). -/
  good : List Byte
  /-- Input lines of this frame, newest first, at most 9 (R160). -/
  recent : List (List Byte)
  /-- Stamp of the last line, replaced ones included, ns (R158). -/
  lineStamp : Nat
  /-- The same moment in ns of `elapsed`. -/
  lineNs : Nat
  /-- The sensor's own time in the line record of the last range line, where it is valid (R152). -/
  sensorTime : Option Nat
  /-- The strip whose head stands in each result slot (R218). -/
  owners : Amap Nat
  /-- Sequence expected next from the sensor (R155, R156). -/
  seq : Option Nat
  /-- TICK edges at the last line. -/
  lineTick : Nat
  /-- `elapsed` at the last line, and at the last frame start or the enable (R172). -/
  lineAt : Nat
  frameAt : Nat
  strips : List Strip
  /-- Next divert-ring entry (R168). -/
  ringNext : Nat
  /-- The latest deadline of a bounded outcome, in TICK edges (R216). -/
  lastDeadline : Nat
  /-- The sluice weir is above its level (R171, R407). -/
  above : Bool
  /-- `elapsed` at the last EMCY 0xFF04 (R170). -/
  spillAt : Option Nat
  /-- The warp LUT copied at enable, and its grid step; 0 for none (R180). -/
  lut : List Byte
  grid : Nat
  /-- The anchor block copied at enable (R299). -/
  anchors : List Byte
  deriving DecidableEq, Repr

/-- A strip's outcome that waits for its lane (R219, R221). -/
structure Outcome where
  stream : Nat
  code : Nat
  /-- Lane bits [7:4]. -/
  flags : Nat
  strip : Nat
  bounded : Bool
  deadline : Nat
  doneTick : Nat
  frame : Nat
  index : Nat
  corrected : Nat
  deriving DecidableEq, Repr

/-- A published strip whose candidates the Post-Processing Unit has not copied yet (R297). -/
structure CandCopy where
  stream : Nat
  strip : Nat
  frame : Nat
  index : Nat
  code : Nat
  /-- TICK edge of its publication. -/
  tick : Nat
  deriving DecidableEq, Repr

/-- A candidate of a frame (R298), with the strip it came from. -/
structure Cand where
  data : List Byte
  index : Nat
  num : Nat
  /-- From a late or diverted result. -/
  late : Bool
  deriving DecidableEq, Repr

/-- A frame in the Post-Processing Unit (R224, R297). -/
structure PpFrame where
  stream : Nat
  frame : Nat
  /-- Raw stamp of the last line, and that moment in ns of `elapsed`; none while the frame is open. -/
  ended : Option (Nat × Nat)
  /-- Its last strip's number, and whether every strip up to it has its bounded outcome. -/
  lastStrip : Option Nat
  lastOut : Bool
  corrected : Nat
  cands : List Cand
  received : Nat
  partialIn : Bool
  discarded : Bool
  /-- TICK edge at the start of its suppression. -/
  started : Option Nat
  deriving DecidableEq, Repr

/-- The hazard path (R225 to R227). -/
structure Hazard where
  /-- The thresholds are loaded (R39, R225). -/
  loaded : Bool
  latch : Bool
  /-- End of the hold, in ICLK cycles of the model's count (R227). -/
  holdEnd : Nat
  /-- The last TICK edge by 0x9000:09 that HAZARD_N was asserted at or after (R222). -/
  seenAt : Option Nat
  /-- The first assertion after a TICK edge: the edge, and the feed (R222). -/
  first : Option (Nat × Nat)
  deriving DecidableEq, Repr

/-- The Strip Sequencer, its outcomes, and the Post-Processing Unit. -/
structure Seq where
  sluices : List Sluice
  /-- Registered and not published, in order of registration. -/
  waiting : List Outcome
  copies : List CandCopy
  frames : List PpFrame
  hz : Hazard
  /-- `elapsed` at the last EMCY 0xFF07 (R208). -/
  lateAt : Option Nat
  deriving DecidableEq, Repr

/-- No stream enabled. -/
def Seq.idle : Seq where
  sluices := []
  waiting := []
  copies := []
  frames := []
  hz := { loaded := false, latch := false, holdEnd := 0, seenAt := none, first := none }
  lateAt := none

/-! ## The adaptive loops (chapter 21) and the temperature monitor (R370) -/

/-- What the loops hold beside their objects. -/
structure Loops where
  /-- Loops whose applied value lay outside its software range at the last evaluation, one bit each (R479). -/
  outside : Nat
  /-- A disagreement waits for the end of the journal's hold (R480). -/
  pendJournal : Bool
  /-- TICK edges at the last 0xB020 journal entry, and 0xB020:01 then. -/
  journalAt : Option Nat
  journalCount : Nat
  /-- `elapsed` from which on every path monitor has shown margin (R482). -/
  marginSince : Option Nat
  /-- A droop stretch is in progress (R483). -/
  stretch : Bool
  /-- `elapsed` at the beginnings of stretches, newest first (R484). -/
  stretches : List Nat
  /-- Consecutive margin evaluations with no stretch. -/
  calmDroop : Nat
  /-- H at the last ten samples, newest first (R486). -/
  recentH : List Nat
  /-- Consecutive samples in which a sensor differed from the median, by sensor (R370). -/
  apart : List Nat
  /-- Consecutive samples at or below 93.0 °C (R248). -/
  cool : Nat
  /-- `elapsed` from which on the average power has been at or below 95 % of the cap (R487). -/
  lowPower : Option Nat
  /-- A forced drop since the last spill evaluation: of any stream, of a safety-relevant one (R488). -/
  forced : Bool
  forcedSafe : Bool
  /-- Spill evaluations since one saw a forced drop; since one saw that of a safety-relevant stream, at most 100. -/
  calmSpill : Nat
  sinceSafe : Nat
  deriving DecidableEq, Repr

/-- At each wake. -/
def Loops.idle : Loops where
  outside := 0
  pendJournal := false
  journalAt := none
  journalCount := 0
  marginSince := none
  stretch := false
  stretches := []
  calmDroop := 0
  recentH := []
  apart := []
  cool := 0
  lowPower := none
  forced := false
  forcedSafe := false
  calmSpill := 0
  sinceSafe := 100

/-! ## gPTP (chapter 8) -/

/-- The end station of R196 beside its objects. -/
structure Gptp where
  /-- Port identity that sent the last accepted Announce (R198). -/
  source : Option Nat
  /-- sequenceId of the last accepted Sync. -/
  seq : Option Nat
  /-- Consecutive Syncs accepted from the current grandmaster, since holdover or the start (R200). -/
  run : Nat
  /-- Consecutive accepted Syncs whose offset lay within the lock threshold (R200). -/
  within : Nat
  /-- Consecutive Syncs rejected for the jump limit alone (R198). -/
  jumps : Nat
  /-- The rate of the last accepted Sync, without the servo's correction (R202, R203). -/
  rate : Int
  /-- `elapsed` at the last accepted Sync (R204). -/
  syncAt : Option Nat
  /-- `elapsed` at the last Announce (R203), and at the last grandmaster change (R212). -/
  announceAt : Option Nat
  changeAt : Option Nat
  /-- Writes to 0x9001 that take effect at the next TICK edge: subindex and value (R212). -/
  writes : List (Nat × Nat)
  /-- A step that the next TICK edge applies, ns (R201). -/
  step : Option Int
  /-- A Pdelay_Req waits for its response; consecutive ones without; the next sequence number (R197). -/
  asked : Bool
  unanswered : Nat
  pdelaySeq : Nat
  /-- The link delay has been measured since the link came up. -/
  measured : Bool
  deriving DecidableEq, Repr

/-- At each wake. -/
def Gptp.idle : Gptp where
  source := none
  seq := none
  run := 0
  within := 0
  jumps := 0
  rate := 0
  syncAt := none
  announceAt := none
  changeAt := none
  writes := []
  step := none
  asked := false
  unanswered := 0
  pdelaySeq := 0
  measured := false

/-! ## Fuind Link (chapter 20) -/

/-- What a Fuind port does (R459, R460). -/
inductive LinkPhase where
  | down
  | training
  | active
  /-- Held down until the next wake. -/
  | held
  deriving DecidableEq, Repr

/-- A flit that waits to be sent: channel, valid payload, start and end of its message. -/
structure TxFlit where
  vc : Nat
  data : List Byte
  first : Bool
  last : Bool
  /-- Forwarded for another device (R468). -/
  fwd : Bool
  deriving DecidableEq, Repr

/-- One Fuind port beside 0xA002 and 0xA003. -/
structure FlPort where
  phase : LinkPhase
  /-- Training steps done (R459). -/
  step : Nat
  lanes : Nat
  /-- Failed trainings in a row. -/
  fails : Nat
  /-- The hello has passed since the last training (R462). -/
  open_ : Bool
  /-- A hello has passed in this wake, and none has failed since. -/
  admitted : Bool
  /-- The last HELLO was a wiring error. -/
  wiring : Bool
  neighbour : Nat
  /-- Sequence expected next, and sequence of the next data flit sent. -/
  rxSeq : Nat
  txSeq : Nat
  /-- A data flit has been accepted since the port was powered: the acknowledge is valid (R461). -/
  rxAny : Bool
  /-- Flits are discarded until the expected one arrives (R463). -/
  discarding : Bool
  /-- Unacknowledged data flits, oldest first: sequence and flit as queued. -/
  replay : List (Nat × TxFlit)
  /-- Resends from the same oldest flit in a row (R464). -/
  resends : Nat
  /-- Credits held by channel (R465). -/
  credits : List Nat
  /-- The port's own credit initialisation is still to be sent, once its replay buffer has drained (R465). -/
  initDue : Bool
  /-- Flits that wait for a credit. -/
  txq : List TxFlit
  /-- By channel: whether the message last started was a forwarded one, and whether it is unfinished (R468). -/
  turn : List Bool
  mid : List Bool
  /-- Payload received of an unfinished message, by channel. -/
  rx : List (List Byte)
  /-- `elapsed` at the last valid flit (R460), and at the oldest unacknowledged flit's last sending or progress (R463). -/
  flitAt : Nat
  ackAt : Nat
  deriving DecidableEq, Repr

/-- A port that has no power. -/
def FlPort.idle : FlPort where
  phase := .down
  step := 0
  lanes := 0
  fails := 0
  open_ := false
  admitted := false
  wiring := false
  neighbour := 0xFF
  rxSeq := 0
  txSeq := 0
  rxAny := false
  discarding := false
  replay := []
  resends := 0
  credits := [0, 0, 0, 0]
  initDue := false
  txq := []
  turn := [false, false, false, false]
  mid := [false, false, false, false]
  rx := [[], [], [], []]
  flitAt := 0
  ackAt := 0

/-- A strip's outcome that the result compare pairs (R473): one's own, or one that a COMPARE told of. -/
structure CmpStrip where
  /-- Local stream. -/
  stream : Nat
  /-- Strip number; 0 for the partner's. -/
  strip : Nat
  code : Nat
  index : Nat
  corrected : Nat
  digest : Nat
  /-- TICK edges when it began to wait (R473). -/
  tick : Nat
  deriving DecidableEq, Repr

/-- The cascade. -/
structure Cascade where
  fl0 : FlPort
  fl1 : FlPort
  /-- `elapsed` at the last message from each device (R470). -/
  heard : Amap Nat
  /-- Ports up in the last heartbeat of each device, plus one (R467, R468). -/
  portsUp : Amap Nat
  /-- The master's flag came with its last heartbeat. -/
  masterFlag : Bool
  /-- This device has taken the master role in this wake (R470). -/
  master : Bool
  /-- The cascade has been formed (R470). -/
  formed : Bool
  /-- The same-ID condition has been found in this wake (R476). -/
  sameId : Bool
  /-- Number of the last record published (R467). -/
  record : Nat
  /-- The formation limit has passed (R470). -/
  expired : Bool
  /-- `elapsed` at PLL lock, from which the formation limit runs (R470). -/
  startAt : Nat
  own : List CmpStrip
  theirs : List CmpStrip
  /-- Dictionary messages that wait for path 0x30, oldest first (R474). -/
  dict : List (List Byte)
  /-- Relayed requests whose response has not returned: member, sequence number, peer address and port. -/
  relays : List (Nat × Nat × Nat × Nat)
  deriving DecidableEq, Repr

/-- At each wake. -/
def Cascade.idle : Cascade where
  fl0 := FlPort.idle
  fl1 := FlPort.idle
  heard := []
  portsUp := []
  masterFlag := false
  master := false
  formed := false
  sameId := false
  record := 0
  expired := false
  startAt := 0
  own := []
  theirs := []
  dict := []
  relays := []

/-! ## Depot, fleet and checkpoints (chapters 18 and 19) -/

/-- Why a checkpoint is taken: the kind of R445, and what follows it (R436). -/
inductive CkptFor where
  | periodic
  | requested
  | evict
  /-- HANDOVER (R439). -/
  | handover
  /-- The result, with the status of its JOB_DONE. -/
  | result (status : Nat)
  deriving DecidableEq, Repr

/-- The kind byte of a manifest (R445). -/
def CkptFor.kind : CkptFor → Nat
  | .periodic => 1
  | .requested => 2
  | .evict => 3
  | .handover => 3
  | .result _ => 4

/-- A checkpoint in progress (R449). -/
structure Ckpt where
  purpose : CkptFor
  /-- Chunks hashed so far. -/
  hashed : Nat
  /-- Distinct data-chunk hashes queried and not answered, with the sequence numbers of their queries. -/
  asked : List (Nat × List Nat)
  /-- Hashes that have been queried. -/
  queried : List Nat
  /-- Hashes the manager lacks (R449). -/
  lacking : List Nat
  /-- The manifest, and its hash, once it has been built and offered. -/
  manifest : List Byte
  name : Nat
  offered : Bool
  /-- The Time Base in ns when the stopped guest was captured (R445). -/
  ns : Nat
  deriving DecidableEq, Repr

/-- A restore in progress (R452). -/
structure Restore where
  manifest : List Byte
  /-- Data-chunk hashes still to be pulled, in order of first chunk. -/
  wanted : List Nat
  deriving DecidableEq, Repr

/-- A started guest beside 0x6021 and 0x6022. -/
structure Guest where
  /-- It runs a fleet job. -/
  fleet : Bool
  /-- The offer body (R433); empty for a local guest. -/
  offer : List Byte
  /-- Its queues are fenced and its contexts stopped (R437). -/
  stopped : Bool
  ckpt : Option Ckpt
  restore : Option Restore
  /-- Number of its last checkpoint, and hash of the manifest its next one derives from. -/
  ckNum : Nat
  parent : Nat
  /-- Its job is over; the guest is wiped once this message is answered (R436): its sequence number. -/
  closing : Option Nat
  /-- A guest job finished or failed during quiesce: the status of its JOB_DONE (R441). -/
  finish : Option Nat
  /-- The manifest of a result checkpoint that was not taken (R449). -/
  reoffer : Bool
  deriving DecidableEq, Repr

/-- A fleet message that waits for its answer (R431, R447): sequence number, destination, message type of the layer, body,
and the types that answer it. -/
structure FleetMsg where
  seq : Nat
  dst : Nat
  layer : Nat
  body : List Byte
  answers : List Nat
  deriving DecidableEq, Repr

/-- An object being received (R447, R448). -/
structure Pull where
  hash : Nat
  /-- Its length; 0 where the receiver does not know it. -/
  len : Nat
  manifest : Bool
  src : Nat
  /-- Worker and job that the exchange names in its head. -/
  worker : Nat
  job : Nat
  /-- Segments that have arrived. -/
  segs : Amap (List Byte)
  /-- It has been fetched again (R448). -/
  again : Bool
  /-- Whose it is: a guest's restore, or the manager's store. -/
  guest : Option Nat
  /-- `elapsed` at its last PULL or SEGMENT (R447). -/
  at_ : Nat
  deriving DecidableEq, Repr

/-- What a manager holds of a worker (R438). -/
structure Worker where
  addr : Nat
  /-- Body of its last heartbeat. -/
  beat : List Byte
  lost : Bool
  /-- `elapsed` at its last message. -/
  heard : Nat
  deriving DecidableEq, Repr

/-- A job of the manager's table (R438, R442). -/
structure FleetJob where
  id : Nat
  offer : List Byte
  /-- 1 queued, 2 offered, 3 running, 4 finished, 5 failed. -/
  state : Nat
  worker : Nat
  /-- Workers that have refused the present round of offers. -/
  tried : List Nat
  /-- Hashes of the manifests kept: the initial one, the two newest taken, the result (R451). -/
  initial : Nat
  taken : List Nat
  result : Nat
  /-- `elapsed` at its last offer (R438). -/
  offeredAt : Nat
  deriving DecidableEq, Repr

/-- A manifest offer that the manager is answering (R450). -/
structure OfferIn where
  src : Nat
  worker : Nat
  job : Nat
  hash : Nat
  /-- The manifest, once it has been pulled and checked. -/
  manifest : List Byte
  /-- Data chunks still lacking. -/
  wanted : List Nat
  /-- Sequence number and type of the message it answers. -/
  seq : Nat
  deriving DecidableEq, Repr

/-- DEPOT beside its objects. -/
structure Depot where
  /-- The personality in force since the entry to DEPOT (R420). -/
  role : Nat
  /-- `elapsed` at the HANDOVER commit edge, and the reason of LEAVE (R431, R439). -/
  t0 : Nat
  reason : Nat
  guests : Amap Guest
  /-- Keys exist: one bit a guest (R426). -/
  keys : Nat
  /-- Next sequence number of fleet messages (R430). -/
  seq : Nat
  outbox : List FleetMsg
  /-- Messages acted on: source address, sequence number, and the answer (empty for none yet). -/
  acted : List (Nat × Nat × List Byte)
  pulls : List Pull
  /-- TICK edges at the last JOIN_ACK (R434). -/
  joinTick : Option Nat
  /-- `elapsed` at the manager's last message (R434). -/
  heard : Nat
  workers : Amap (Option Worker)
  jobs : List FleetJob
  /-- The manager's store: hash and bytes of chunks and manifests (R450). -/
  chunks : List (Nat × List Byte)
  manifests : List (Nat × List Byte)
  offers : List OfferIn
  deriving DecidableEq, Repr

/-- Outside DEPOT. -/
def Depot.idle : Depot where
  role := 0
  t0 := 0
  reason := 0
  guests := []
  keys := 0
  seq := 0
  outbox := []
  acted := []
  pulls := []
  joinTick := none
  heard := 0
  workers := []
  jobs := []
  chunks := []
  manifests := []
  offers := []

/-- No guest. -/
def Guest.none : Guest where
  fleet := false
  offer := []
  stopped := false
  ckpt := Option.none
  restore := Option.none
  ckNum := 0
  parent := 0
  closing := Option.none
  finish := Option.none
  reoffer := false


/-! ## The state -/

/-- Why a command stops without a next state. No command does: the spec gives every command an effect in every state
(an access it does not allow is refused to the sender, an exception is taken, a fault contained), so the type is empty. -/
inductive Fault where
  deriving DecidableEq, Repr

/-- Why a command is turned away. -/
inductive Refusal where
  /-- Raised by a dispatch arm whose command has no meaning yet; safe: nothing is claimed of it. -/
  | notModelled (mnemonic : String)
  deriving DecidableEq, Repr

/-- The state of the block. Every object of the dictionary that no other field holds is in `objs` (R26, R95), keyed by
`okey`; an unlisted entry reads as its default. -/
structure State where
  objs : Amap Nat
  clk : Clock
  pw : Power
  su : Startup
  pins : Pins
  attic : Attic
  journal : Journal
  /-- Interface paths by path code (R104). -/
  paths : Amap PathState
  can : Amap CanPort
  tpdos : Amap Tpdo
  /-- Timed frames that wait for their launch time (R207). -/
  timed : List Timed
  mons : Amap MonState
  /-- Values of the counters of count sources at the last count-source edge: source × 65,536 + parameter (R401). -/
  edge : Amap Nat
  /-- Counter banks, engine × 16 + partition (R410). -/
  banks : Amap Bank
  smp : Sampling
  /-- DEPOT throttling is in force (R486). -/
  throttling : Bool
  /-- The last junction reading was outside the operating range (R370). -/
  tempOut : Bool
  /-- Accesses held while Keeper B is halted, oldest first (R502). -/
  held : List Held
  /-- Engine contexts by g (R234); Keeper core c by 3072 + c. -/
  ctxs : Amap Ctx
  /-- The L1 data lines of the Keepers, by the core that leads the cache: base address and 64 bytes (R246). -/
  l1 : Amap (List (Nat × List Byte))
  engines : Amap Engine
  sched : Sched
  /-- Requests of the Recurrence Unit, in order of trigger arrival. -/
  recReqs : List UnitReq
  /-- Requests of the Sampling Unit. -/
  smpReqs : List UnitReq
  seq : Seq
  /-- 25GBASE-T1 ports whose link is down, one bit each (R197). -/
  ethDown : Nat
  loops : Loops
  gptp : Gptp
  casc : Cascade
  depot : Depot
  recov : Recovery
  saf : SafetyCtl
  /-- Device memory by physical address; an unlisted byte reads as 0. -/
  mem : List Host.Cell
  /-- Physical addresses of poisoned 8-byte words, rising (R250). -/
  poison : List Nat
  /-- What has left the block, newest first. -/
  out : List Output
  /-- The model's own count of free values taken (see Config). -/
  freeCtr : Nat
  /-- The commands that wait, first in, first out. -/
  pending : List Instr
  deriving DecidableEq, Repr

/-- The key of a dictionary entry: index, subindex and channel. -/
def okey (idx sub ch : Nat) : Nat := idx * 2 ^ 24 + sub * 2 ^ 16 + ch

/-- The default of a dictionary entry by its key. -/
def okeyDefault (k : Nat) : Nat := objDefault (k / 2 ^ 24) (k / 2 ^ 16 % 2 ^ 8) (k % 2 ^ 16)

/-- The boot options before any wake has read them. -/
def BootOpts.default : BootOpts where
  bench := false
  lean := false
  split := false
  source := 1
  attempts := 2
  minGen := 0
  key0 := 0
  key1 := 0

/-- Start-up before a wake. -/
def Startup.idle : Startup where
  boot := BootOpts.default
  coreOn := false
  pllOn := false
  keepersTested := false
  cellarOn := false
  trainFails := 0
  enginesTested := false
  pcieUp := false
  zeroed := false
  window := none
  checking := none
  image := []
  placing := false
  loaded := false
  imageLen := 0
  wakeAt := 0
  toDrive := false
  freshOk := false
  freshRun := false
  benchRestricted := false
  complete := false

/-- A CAN port that the core controller does not run. -/
def CanPort.idle : CanPort where
  core := false
  emcys := []
  dropped := 0
  emcyAt := none
  collisions := []
  bootAt := none

/-- A TPDO that has sent nothing. -/
def Tpdo.idle : Tpdo where
  last := []
  sentAt := none

/-- A monitor channel at wake. -/
def MonState.idle : MonState where
  holdoff := 0
  pendingNote := false

/-- Precise sampling at wake. -/
def Sampling.idle : Sampling where
  records := []
  counts := []
  inFlight := 0
  last := []

/-- The Time Base and the counters of time before power-on. -/
def Clock.reset : Clock where
  elapsed := 0
  us := 0
  rtc := 0
  rtcFrac := 0
  tb := 0
  tbRun := false
  ticks := 0

/-- OFF, with PORST_N asserted and VAON in range (R68). -/
def Power.reset : Power where
  mode := .off
  prev := .parked
  porst := true
  vaonOk := true
  booting := false
  offCause := 1
  aclkTrim := 0
  lowVaon := 0
  offMode := .off
  ign := false
  shore := false
  resetHeld := false
  resetAt := 0
  resetRtc := 0
  resetMode := .off
  resetStuckTime := 60
  resetStuck := false
  resetLong := false
  safeLatch := false
  keptCode := none
  pendSafe := none
  safeCode := 0
  teardown := none
  driveOff := none
  readyHold := none
  deferred := none
  benchWake := false
  wakeReqWake := false
  wakeReqSameId := false
  refclkReq := false
  railsOut := 0
  avsSet := 800

/-- The pins in OFF (R523). -/
def Pins.reset : Pins where
  err0 := false
  err1 := false
  toggling := false
  hazardN := true
  tapReg := 1

/-- The Change Journal, empty (R121). -/
def Journal.reset : Journal where
  entries := []
  written := 0
  wraps := 0

/-- The attic at manufacture (R176, R78): no history, the factory set in area A. -/
def Attic.factory : Attic where
  queue := []
  areaA := factorySet
  areaB := []
  commitA := true
  commitB := false
  pendSet := none
  history := []
  written := 0

/-- The state right after power is applied with PORST_N asserted: OFF, the attic as it left manufacture, every object at
its default. -/
def State.reset : State where
  objs := []
  clk := Clock.reset
  pw := Power.reset
  su := Startup.idle
  pins := Pins.reset
  attic := Attic.factory
  journal := Journal.reset
  paths := []
  can := []
  tpdos := []
  timed := []
  mons := []
  edge := []
  banks := []
  smp := Sampling.idle
  throttling := false
  tempOut := false
  held := []
  ctxs := []
  l1 := []
  engines := []
  sched := Sched.idle
  recReqs := []
  smpReqs := []
  seq := Seq.idle
  ethDown := 0
  loops := Loops.idle
  gptp := Gptp.idle
  casc := Cascade.idle
  depot := Depot.idle
  recov := Recovery.idle
  saf := SafetyCtl.idle
  mem := []
  poison := []
  out := []
  freeCtr := 0
  pending := []

end Sys2Proof.Machine
end

