-- ==== Sys2Proof/Machine/Ops.lean ====
section
/-! DEFINITION. The named operations every chapter uses: the dictionary's entries, time, outputs, the Change Journal,
EMCY, class-S detections, near-misses and the monitor channels. -/

namespace Sys2Proof.Machine

/-- The outcome of a command. -/
abbrev Out := Host.Outcome State Fault Refusal

/-! ## Dictionary entries -/

/-- The value of the entry with a key. -/
def State.objK (s : State) (k : Nat) : Nat := Amap.get (okeyDefault k) s.objs k

/-- The value of an entry: index, subindex, channel (0 where no selector applies) (R95). -/
def State.obj (s : State) (idx sub : Nat) (ch : Nat := 0) : Nat := s.objK (okey idx sub ch)

/-- Whether an entry is non-zero. -/
def State.objB (s : State) (idx sub : Nat) (ch : Nat := 0) : Bool := s.obj idx sub ch != 0

/-- Give an entry a value. -/
def State.setObj (s : State) (idx sub : Nat) (v : Nat) (ch : Nat := 0) : State :=
  { s with objs := Amap.set (okeyDefault (okey idx sub ch)) s.objs (okey idx sub ch) v }

/-- Give an entry the value of a Bool. -/
def State.setObjB (s : State) (idx sub : Nat) (b : Bool) (ch : Nat := 0) : State :=
  s.setObj idx sub (if b then 1 else 0) ch

/-- The width of an entry in bits. -/
def objBits (idx sub : Nat) : Nat :=
  match objRow? idx sub with
  | some r => 8 * r.ty.size
  | none => 64

/-- Count `n` in a counter entry, modulo its width. DESIGN CHOICE (log entry 4): a counter wraps where the spec does
not say that it saturates. -/
def State.bump (s : State) (idx sub : Nat) (ch : Nat := 0) (n : Nat := 1) : State :=
  s.setObj idx sub ((s.obj idx sub ch + n) % 2 ^ objBits idx sub) ch

/-- Count in an entry that saturates at its width (R121, R402, R405). -/
def State.bumpSat (s : State) (idx sub : Nat) (ch : Nat := 0) (n : Nat := 1) : State :=
  s.setObj idx sub (min (s.obj idx sub ch + n) (2 ^ objBits idx sub - 1)) ch

/-- Raise a highest-value entry. -/
def State.raiseMax (s : State) (idx sub v : Nat) (ch : Nat := 0) : State :=
  if s.obj idx sub ch < v then s.setObj idx sub v ch else s

/-- Set or clear bit `n` of an entry. -/
def State.setObjBit (s : State) (idx sub n : Nat) (b : Bool) (ch : Nat := 0) : State :=
  s.setObj idx sub (if b then setBit (s.obj idx sub ch) n else clearBit (s.obj idx sub ch) n) ch

/-- Bit `n` of an entry. -/
def State.objBit (s : State) (idx sub n : Nat) (ch : Nat := 0) : Bool := bit (s.obj idx sub ch) n

/-- The signed value of an entry of `n` bits (R97). -/
def State.objI (s : State) (n idx sub : Nat) (ch : Nat := 0) : Int := toSigned n (s.obj idx sub ch)

/-- Return the entries of some classes to their defaults (R100). -/
def State.dropObjs (s : State) (p : Cls → Bool) : State :=
  { s with objs := s.objs.filter fun e => !p (objCls (e.1 / 2 ^ 24) (e.1 / 2 ^ 16 % 2 ^ 8)) }

/-- Return every entry of an index on a channel to its default. -/
def State.dropIndex (s : State) (idx ch : Nat) : State :=
  { s with objs := s.objs.filter fun e => !(e.1 / 2 ^ 24 == idx && e.1 % 2 ^ 16 == ch) }

/-! ## Time -/

/-- The Time Base in whole nanoseconds (R193). -/
def State.nowNs (s : State) : Nat := s.clk.tb / 2 ^ 40 % 2 ^ 64

/-- The model's count of microseconds. -/
def State.now (s : State) : Nat := s.clk.elapsed

/-! ## Outputs and free values -/

/-- Send something. -/
def State.emit (s : State) (o : Output) : State := { s with out := o :: s.out }

/-- Take a fresh free value: its number, and the state that has counted it. -/
def State.takeFree (s : State) : Nat × State := (s.freeCtr, { s with freeCtr := s.freeCtr + 1 })

/-! ## Paths -/

/-- The state of a path by its code (R104). -/
def State.path (s : State) (c : Nat) : PathState := Amap.get PathState.absent s.paths c

/-- Give a path a state. -/
def State.setPath (s : State) (c : Nat) (ps : PathState) : State :=
  { s with paths := Amap.set PathState.absent s.paths c ps }

/-- Change a path's state. -/
def State.modPath (s : State) (c : Nat) (f : PathState → PathState) : State := s.setPath c (f (s.path c))

/-- A path comes into being, with every path-local object at its default (R100, R104). -/
def State.freshPath (s : State) (c : Nat) : State := s.setPath c PathState.fresh

/-- A path ceases to exist. -/
def State.dropPath (s : State) (c : Nat) : State := s.setPath c PathState.absent

/-- Whether an unlock window is open on a path now: 64 ticks, and the closing edge itself belongs to it (R115, R211). -/
def State.windowOpen (s : State) (c : Nat) : Bool :=
  match (s.path c).opened with
  | some t => s.now ≤ t + 64
  | none => false

/-- Close every window (R116). DESIGN CHOICE (log entry 53): a state change ends an armed sequence too, which the rule leaves open,
and does not count it in 0x2010:06. -/
def State.closeWindows (s : State) : State :=
  { s with paths := s.paths.map fun e => (e.1, { e.2 with armed := none, opened := none }) }

/-- Record a refusal on a path (R108, R111). -/
def State.refuse (s : State) (c idx sub code : Nat) : State :=
  s.modPath c fun p => { p with refusal := code, refused := idx * 256 + sub, refusals := (p.refusals + 1) % 2 ^ 32 }

/-! ## The Change Journal (R119 to R121) -/

/-- Append an entry. -/
def State.journalAdd (s : State) (path idx sub chan state flags old new : Nat) : State :=
  let n := (s.journal.written + 1) % 2 ^ 32
  let e : JEntry :=
    { idx := idx, sub := sub, path := path, state := state, chan := chan,
      flags := flags ||| (if s.clk.tbRun then 0 else 1),
      stamp := if s.clk.tbRun then s.nowNs else s.clk.rtc,
      old := old % 2 ^ 64, new := new % 2 ^ 64, num := n }
  { s with journal :=
    { entries := (e :: s.journal.entries).take 256
      written := n
      wraps := if s.journal.entries.length < 256 then s.journal.wraps else min (s.journal.wraps + 1) (2 ^ 32 - 1) } }

/-- The IPv4 address of a 25GBASE-T1 port: 0xA010, and in DEPOT 0x6100:07 on the fleet port (R430, R474). -/
def State.ownAddr (s : State) (port : Nat) : Nat :=
  if s.pw.mode = .depot && s.obj 0x6100 5 = port then s.obj 0x6100 7 else s.obj 0xA010 (port + 1)

/-! ## EMCY and the error register (R135, R140) -/

/-- The NMT state of a port (R130): 0x00, 0x04, 0x05 or 0x7F. -/
def State.nmt (s : State) (port : Nat) : Nat := s.obj (0x1F90 + port) 7

/-- One CAN port. -/
def State.port (s : State) (port : Nat) : CanPort := Amap.get CanPort.idle s.can port

/-- Change a CAN port. -/
def State.modPort (s : State) (port : Nat) (f : CanPort → CanPort) : State :=
  { s with can := Amap.set CanPort.idle s.can port (f (s.port port)) }

/-- Whether the core's ports exist in a state (R127). -/
def Mode.awake : Mode → Bool
  | .off => false
  | .parked => false
  | _ => true

/-- The node ID in use of a port (R128). -/
def State.nodeId (s : State) (port : Nat) : Nat :=
  if s.obj (0x1F90 + port) 1 = 0 then 0x10 + s.obj 0x2000 5 else s.obj (0x1F90 + port) 1

/-- The largest TPDO of the ports it is sent on, bytes, by their frame modes (R133). -/
def State.tpdoRoom (s : State) (ports : Nat) : Nat :=
  let room (p : Nat) : Nat :=
    if !bit ports p then 2048
    else match s.obj (0x1F90 + p) 2 with
      | 0 => 8
      | 1 => 64
      | _ => 2048
  min (room 0) (room 1)

/-- The subindices of a port's block slots (R142). -/
def blockSlots : List Nat := (List.range 11).map (0x0E + ·)

/-- Whether an identifier, [28:0] with IDE in [29], is blocked on a port that the core controller runs (R142). -/
def State.blocked (s : State) (port id : Nat) : Bool :=
  (s.port port).core && blockSlots.any fun k => s.obj (0x1F90 + port) k = id

/-- A frame leaves a CAN port: none in bus-off (R143); on a blocked identifier it is withheld and counted (R142). -/
def State.canSend (s : State) (port id xl : Nat) (data : List Byte) : State :=
  if s.obj (0x1F90 + port) 8 = 2 then s
  else if s.blocked port id then s.bump (0x1F90 + port) 0x1A
  else s.emit (.can port id xl data)

/-- Whether a port that the core controller runs sends no USDO response: it is Stopped or in bus-off (R130, R143). -/
def State.usdoSilent (s : State) (port : Nat) : Bool :=
  (s.port port).core && (s.nmt port = 4 || s.obj (0x1F90 + port) 8 = 2)

/-- The answer to an access on a path; on CAN it is a USDO response, which a port that sends none keeps back, and which is withheld
on a blocked identifier (R128, R130, R142, R143). -/
def State.answer (s : State) (p code : Nat) (data : List Byte) : State :=
  if (p = 1 || p = 2) && s.usdoSilent (p - 1) then s
  else if (p = 1 || p = 2) && s.blocked (p - 1) (0x580 + s.nodeId (p - 1)) then s.bump (0x1F90 + (p - 1)) 0x1A
  else s.emit (.answer p code data)

/-- Queue an EMCY on one port (R135). -/
def State.queueEmcy (s : State) (port : Nat) (e : Emcy) : State :=
  if !s.pw.mode.awake then s
  else if s.nmt port = 0x04 || 16 ≤ (s.port port).emcys.length then
    (s.bump (0x1F90 + port) 0x1B).modPort port fun p => { p with dropped := p.dropped + 1 }
  else s.modPort port fun p => { p with emcys := p.emcys ++ [e] }

/-- The error register as its lasting conditions make it (R140). -/
def State.errReg (s : State) : Nat :=
  (if s.obj 0x5110 0x0A != 0 then 0x01 else 0) +
  (if s.pw.railsOut != 0 then 0x04 else 0) +
  (if s.objB 0x4800 1 || s.throttling || s.tempOut then 0x08 else 0) +
  (if s.objB 0x1F90 8 || s.objB 0x1F91 8 || s.objB 0x1F90 0x0D || s.objB 0x1F91 0x0D || s.pw.wakeReqSameId
   then 0x10 else 0) +
  (if s.pw.mode = .safe || s.obj 0x9000 3 = 4 then 0x80 else 0)

/-- An EMCY of this moment, on both ports. -/
def State.sendEmcy (s : State) (code source info : Nat) : State :=
  let e : Emcy := { code := code, reg := s.obj 0x1001 0, source := source, info := info % 2 ^ 32, stamp := s.nowNs }
  (s.queueEmcy 0 e).queueEmcy 1 e

/-- Bring 0x1001:00 up to its conditions; code 0x0000 is sent when it returns to 0 (R140). -/
def State.refreshReg (s : State) : State :=
  let old := s.obj 0x1001 0
  let new := s.errReg
  let s := s.setObj 0x1001 0 new
  if old != 0 && new == 0 then s.sendEmcy 0x0000 0xFF 0 else s

/-- Raise an EMCY: the register first, so that byte [2] carries it as it stands after the event (R135, R141). -/
def State.raise (s : State) (code source info : Nat) : State := s.refreshReg.sendEmcy code source info

/-! ## Class-S detections (R347, R351, R53) -/

/-- Drive both SAFE_ERR pins low until the next toggle start (R350, R351). -/
def State.errPinsLow (s : State) : State :=
  { s with pins := { s.pins with err0 := false, err1 := false, toggling := false }
           saf := { s.saf with started := false, toggle := false } }

/-- A class-S detection: the mechanism's code and detail, and the mechanism's own EMCY (code and source), if it has
one. OFF and PARKED detect nothing, SAFE only counts (R347). Two detections on one edge record the lower code
(R375). From the teardown step that stops the PLLs on, the latch is set instead (R53). -/
def State.classS (s : State) (code detail : Nat) (own : Option (Nat × Nat × Nat) := none) : State :=
  match s.pw.mode with
  | .off => s
  | .parked => s
  | .safe => s.bump 0x5000 8
  | _ =>
    if s.pw.teardown = some 3 then
      { s.errPinsLow with pw := { s.pw with safeLatch := true, keptCode := some (s.pw.keptCode.getD (code, detail)) } }
    else
    let s := s.bump 0x5000 8
    let s := match own with
      | some (c, src, info) => s.raise c src info
      | none => s
    let s := s.errPinsLow
    match s.pw.pendSafe with
    | none =>
      let s := { s with pw := { s.pw with pendSafe := some (code, detail) } }
      ((s.setObj 0x5000 2 code).setObj 0x5000 3 (detail % 2 ^ 32)).setObj 0x5000 4 s.nowNs
    | some (c, _) =>
      if code < c && s.obj 0x5000 4 = s.nowNs then
        let s := { s with pw := { s.pw with pendSafe := some (code, detail) } }
        (s.setObj 0x5000 2 code).setObj 0x5000 3 (detail % 2 ^ 32)
      else s

/-- A class-S detection of a mechanism that has no EMCY of its own: 0x5000:03 is to hold "the mechanism's EMCY additional
information" (R376), of which there is none, so it takes a free value (log entry 2). -/
def State.classSOpen (s : State) (code : Nat) : State :=
  let f := s.takeFree
  f.2.classS code ((Config.freeWord f.1).toNat % 2 ^ 32)

/-! ## Halts (R502, R526) -/

/-- End every halt: BENCH is left, or the debug session ends (R496, R526). -/
def State.endHalts (s : State) : State := (s.setObj 0x5050 2 0).setObj 0x5050 3 0

/-- A core of Keeper B is halted (R502). -/
def State.haltedB (s : State) : Bool := s.obj 0x5050 2 &&& 0x0C != 0

/-! ## Near-misses (R211) -/

/-- A near-miss whose owning chapter names the counter. -/
def State.nearMissIn (s : State) (idx sub : Nat) (ch : Nat := 0) : State := (s.bump 0x9005 1).bump idx sub ch

/-- A near-miss with no owning counter. -/
def State.nearMiss (s : State) : State := s.nearMissIn 0x9005 2

/-- An arrival on the edge at which a limit of `n` microseconds from `t` expires: it prevails, and is a near-miss (R211). -/
def State.nearEdge (s : State) (t n : Nat) : State := if s.now = t + n then s.nearMiss else s

/-! ## Monitor channels (R400 to R407) -/

/-- The monitor state of a channel. -/
def State.mon (s : State) (m : Nat) : MonState := Amap.get MonState.idle s.mons m

/-- Give a channel's monitor state. -/
def State.setMon (s : State) (m : Nat) (v : MonState) : State := { s with mons := Amap.set MonState.idle s.mons m v }

/-- The histogram bin of a sample (R403). -/
def histBin (mode shift : Nat) (base : Int) (width : Nat) (v : Int) : Nat :=
  if mode = 0 then
    let w := v / (2 : Int) ^ shift
    if w ≤ 0 then 0 else min 15 (Nat.log2 w.toNat + 1)
  else
    let b := (v - base) / (width : Int)
    if b < 0 then 0 else min 15 b.toNat

/-- The limits of INTEGER64. -/
def satI64 (v : Int) : Int := max (-(2 : Int) ^ 63) (min ((2 : Int) ^ 63 - 1) v)

/-- Send a channel's notification and start its hold-off (R406). -/
def State.notify (s : State) (m : Nat) : State :=
  let s := s.raise 0xFF05 m (s.obj 0x7001 7 m)
  let s := if s.obj 0x7000 0x0A m = 0xFFFF then s else s.emit (.msix 0 (s.obj 0x7000 0x0A m))
  let s := s.bump 0x7001 9 m
  s.setMon m { s.mon m with holdoff := s.now + 1000, pendingNote := false }

/-- A sample meets a channel's weir (R405). -/
def State.weirSample (s : State) (m : Nat) (v : Int) : State :=
  if !s.objB 0x7000 9 m then s
  else
    let l := s.objI 64 0x7000 7 m
    let h : Int := s.obj 0x7000 8 m
    if s.objB 0x7001 8 m then
      if v < l - h then s.setObj 0x7001 8 0 m else s
    else if l ≤ v then
      let s := ((s.setObj 0x7001 8 1 m).setObj 0x7001 6 1 m).bumpSat 0x7001 7 m
      if (s.mon m).holdoff ≤ s.now then s.notify m
      else s.setMon m { s.mon m with pendingNote := true }
    else s

/-- A sample enters a channel (R402). -/
def State.monUpdate (s : State) (m : Nat) (v : Int) : State :=
  let n := s.obj 0x7001 1 m
  let lo := if v < s.objI 64 0x7001 2 m then v else s.objI 64 0x7001 2 m
  let hi := if s.objI 64 0x7001 3 m < v then v else s.objI 64 0x7001 3 m
  let b := histBin (s.obj 0x7000 3 m) (s.obj 0x7000 4 m) (s.objI 64 0x7000 5 m) (s.obj 0x7000 6 m) v
  let s := (((s.setObj 0x7001 1 ((n + 1) % 2 ^ 64) m).setObj 0x7001 2 (ofSigned 64 lo) m).setObj 0x7001 3
    (ofSigned 64 hi) m)
  let s := s.setObj 0x7001 4 (ofSigned 64 (satI64 (s.objI 64 0x7001 4 m + v))) m
  let s := (s.setObj 0x7001 5 (ofSigned 64 v) m).bumpSat 0x7002 (b + 1) m
  s.weirSample m v

/-- Whether the stream or queue that a source names is disabled (R401). -/
def State.sourceOff (s : State) (src param : Nat) : Bool :=
  if src = 1 || src = 5 || src = 6 || src = 0x0C then !s.objB 0x3000 1 param
  else if src = 2 || src = 3 || src = 7 then !s.objB 0x6000 1 param
  else false

/-- An event of a source with a parameter gives every channel that watches it one sample (R400), none where the stream or queue is
disabled (R401). -/
def State.monSample (s : State) (src param : Nat) (v : Int) : State :=
  if s.sourceOff src param then s
  else
  (List.range 24).foldl (fun s m =>
    if s.obj 0x7000 1 m = src && s.obj 0x7000 2 m = param then s.monUpdate m v else s) s

/-- Empty a channel's statistics; the weir stays (R404). -/
def State.monEmpty (s : State) (m : Nat) : State :=
  let s := (List.range 5).foldl (fun s k => s.setObj 0x7001 (k + 1) (objDefault 0x7001 (k + 1) m) m) s
  (List.range 16).foldl (fun s k => s.setObj 0x7002 (k + 1) 0 m) s

/-- Return a channel's weir to below, with flag, count and pending notification cleared (R405). -/
def State.weirReset (s : State) (m : Nat) : State :=
  let s := ((s.setObj 0x7001 6 0 m).setObj 0x7001 7 0 m).setObj 0x7001 8 0 m
  s.setMon m { s.mon m with pendingNote := false }

end Sys2Proof.Machine
end

