-- ==== Sys2Proof/Machine/Memory.lean ====
section
/-! DEFINITION. The shared address space: memory cells and poison, where an address leads, which accesses fault and with
which kind, and what the SECDED code does (chapter 10; R281, R308). -/

namespace Sys2Proof.Machine

open Sys2Proof

/-! ## Cells -/

/-- The canonical form of device memory: addresses strictly rising, no listed byte 0. -/
def Memory.wf (m : List Host.Cell) : Bool := Amap.wf (fun _ => (0 : Byte)) m

/-- One byte of device memory; a byte never written reads as 0 (R82 step 5, R385 step 5). -/
def State.memByte (s : State) (a : Nat) : Byte := Amap.get 0 s.mem a

/-- `n` bytes from an address. -/
def State.memBytes (s : State) (a n : Nat) : List Byte := (List.range n).map fun k => s.memByte (a + k)

/-- The little-endian value of `n` bytes. -/
def State.memNat (s : State) (a n : Nat) : Nat := leVal (s.memBytes a n)

/-- Write bytes into a memory list. -/
def memPut (m : List Host.Cell) (a : Nat) (bs : List Byte) : List Host.Cell :=
  match bs with
  | [] => m
  | b :: t => memPut (Amap.set 0 m a b) (a + 1) t

/-- The 8-byte words that bytes [a, a+n) cover whole. -/
def wordsWithin (a n w : Nat) : Bool := a ≤ w && w + 8 ≤ a + n

/-- Store bytes; a store of a whole word clears its poison (R250). -/
def State.memWrite (s : State) (a : Nat) (bs : List Byte) : State :=
  { s with mem := memPut s.mem a bs, poison := s.poison.filter fun w => !wordsWithin a bs.length w }

/-- Write a range to zero with valid ECC. -/
def State.memZero (s : State) (lo n : Nat) : State :=
  { s with
    mem := s.mem.filter fun e => !(lo ≤ e.1 && e.1 < lo + n)
    poison := s.poison.filter fun w => !(lo ≤ w && w < lo + n) }

/-- Whether an access meets a poisoned word (R250). -/
def State.poisoned (s : State) (a n : Nat) : Bool := s.poison.any fun w => a < w + 8 && w < a + n

/-- Insert into a rising list. -/
def insertNat (v : Nat) (l : List Nat) : List Nat :=
  match l with
  | [] => [v]
  | h :: t => if v < h then v :: h :: t else if v = h then h :: t else h :: insertNat v t

/-- Poison the word that holds an address. -/
def State.poisonAt (s : State) (a : Nat) : State := { s with poison := insertNat (a / 8 * 8) s.poison }

/-! ## The map (R235) -/

/-- Base of the store rooms. -/
def storeBase : Nat := 0xF000000000
/-- Base of the Keeper memories. -/
def keeperBase : Nat := 0xF100000000
/-- Base of the doorbells. -/
def bellBase : Nat := 0xF200000000
/-- Base of the fixed-function windows. -/
def unitBase : Nat := 0xF300000000
/-- Base of the ingress pool. -/
def poolBase : Nat := 0xF400000000

/-- The address of engine e's store room. -/
def storeRoom (e : Nat) : Nat := storeBase + e * 0x200000

/-- The engine whose store room holds an address, and the offset in it. -/
def storeOf (a : Nat) : Option (Nat × Nat) :=
  if storeBase ≤ a && a < storeBase + 48 * 0x200000 then
    some ((a - storeBase) / 0x200000, (a - storeBase) % 0x200000)
  else none

/-- Whether a physical address lies in the cellar (R236). -/
def cellarEnd : Nat := 0xC00000000

/-- The base of the host region in force (R237). -/
def State.hostRegion (s : State) : Nat := s.obj 0x4801 2

/-! ## Engines, twins and partitions -/

/-- Engines run twinned: in DRIVE, and in BENCH with twinning on (R32, R361). -/
def State.twinned (s : State) : Bool :=
  s.pw.mode = .drive || (s.pw.mode = .bench && s.objB 0x5020 1)

/-- The engine that stands for a polder or its pair. -/
def State.lead (s : State) (e : Nat) : Nat := if s.twinned then e / 2 * 2 else e

/-- The engines of the unit that an engine leads. -/
def State.unitOf (s : State) (e : Nat) : List Nat :=
  if s.twinned then [e / 2 * 2, e / 2 * 2 + 1] else [e]

/-- The effective partition of a queue (R330). -/
def State.queuePart (s : State) (q : Nat) : Nat := if s.pw.mode = .depot then s.obj 0x6000 2 q else 0

/-- The state of an engine. -/
def State.engine (s : State) (e : Nat) : Engine := Amap.get Engine.idle s.engines e

/-- The effective partition of an engine: the held value acts in DEPOT alone, and a move applies once its scrub is done
(R330). -/
def State.enginePart (s : State) (e : Nat) : Nat :=
  if s.pw.mode = .depot then (s.engine e).moving.getD (s.obj 0x6010 (e + 1)) else 0

/-- Change an engine's state. -/
def State.modEngine (s : State) (e : Nat) (f : Engine → Engine) : State :=
  { s with engines := Amap.set Engine.idle s.engines e (f (s.engine e)) }

/-- Mark a gated polder or pair as waking (R62). -/
def State.wakeEngine (s : State) (e : Nat) : State :=
  (s.unitOf e).foldl (fun s e => s.modEngine e fun v => { v with waking := true }) s

/-- Whether an engine is out of service (R83, R366, R389). -/
def State.outOfService (s : State) (e : Nat) : Bool := s.objBit 0x5110 0x0A e

/-- Whether an engine's partner is out of service (R364). -/
def State.widowed (s : State) (e : Nat) : Bool := s.objBit 0x5020 2 e

/-- Resets of a list that lie within a window of ms (R389). -/
def State.within (s : State) (l : List Nat) (ms : Nat) : List Nat := l.filter fun t => s.now ≤ t + 1000 * ms

/-- The level that 0x4000:01 shows: out of service, fenced, or the gating level; a test brings a gated engine to running for
its slot (R62, R254). -/
def State.level (s : State) (e : Nat) : Nat :=
  if s.outOfService e then 5
  else if (s.engine (s.lead e)).dike.isSome then 4
  else if (s.engine e).testing then 0
  else s.obj 0x4000 1 e

/-! ## Who accesses -/

/-- A requester: a thread or a Keeper core, or a unit or PCIe function acting for a partition. -/
inductive Who where
  | hart (h : Hart)
  | part (p : Nat)
  deriving DecidableEq, Repr

/-- The partition of a requester; the Keepers use the host partition's map (R281). -/
def State.whoPart (s : State) (w : Who) : Nat :=
  match w with
  | .hart (.ctx g) => s.enginePart (g.val / 64)
  | .hart (.keeper _) => 0
  | .part p => p

/-- The engine of a requester, 48 where it has none. -/
def whoEngine (w : Who) : Nat :=
  match w with
  | .hart (.ctx g) => g.val / 64
  | _ => 48

/-- Whether a requester is a Keeper core. -/
def Who.isKeeper : Who → Bool
  | .hart (.keeper _) => true
  | _ => false

/-- Whether a requester is a core of Keeper B, which runs the scheduler and may reach the context area (R232, R276). -/
def Who.isScheduler : Who → Bool
  | .hart (.keeper c) => 2 ≤ c.val
  | _ => false

/-- Whether the Keeper pairs are split (R359). -/
def State.keepersSplit (s : State) : Bool := s.obj 0x2001 5 = 2

/-- Whether a Keeper core may reach an offset of the Keeper memories: its pair's, or its half when split (R281). -/
def State.ownKeeperMem (s : State) (c off : Nat) : Bool :=
  if s.keepersSplit then off / 0x100000 == c else off / 0x200000 == c / 2

/-! ## Kinds of access -/

/-- Whether the map of R235 has anything at an address. -/
def mapped (a : Nat) : Bool :=
  a < cellarEnd || (storeOf a).isSome || (keeperBase ≤ a && a < keeperBase + 0x400000) ||
  (bellBase ≤ a && a < bellBase + 0x200000) || (unitBase ≤ a && a < unitBase + 0x1000000) ||
  (poolBase ≤ a && a < poolBase + 0x2000000)

/-- What an access does. -/
inductive Acs where
  | read
  | write
  | fetch
  deriving DecidableEq, Repr

/-- Where an access leads. -/
inductive Place where
  /-- Cells at a physical address, and the cells of the twin's store room that a write also reaches (R242). -/
  | cells (a : Nat) (mirror : Option Nat)
  /-- A word of a context slot, which the scheduler on Keeper B reaches (R232). -/
  | slot (g o : Nat)
  /-- A Keeper pair's safety controller port (R352). -/
  | port (pair off : Nat)
  | bell (q off : Nat)
  /-- A fixed-function window: 0 Post-Processing, 1 Recurrence, 2 Sampling, 3 Random. -/
  | unit (u off : Nat)
  /-- A power-gated polder, which the access wakes, and the cells that then serve it (R62, R253). -/
  | gated (e a : Nat) (mirror : Option Nat)
  deriving DecidableEq, Repr

/-- A guest map's translation of a cellar address: the physical address, or the kind of its fault (R236, R239). -/
def State.guestWalk (s : State) (p : Nat) (acc : Acs) (a : Nat) : Nat ⊕ Nat :=
  let base := s.obj 0x6021 5 (p - 1)
  let e := s.memNat (base + 8 * (a / 2 ^ 21)) 8
  let perm (x : Nat) : Bool := match acc with
    | .read => true
    | .write => x.testBit 2
    | .fetch => x.testBit 3
  if base = 0 || !e.testBit 0 || e / 2 ^ 36 != 0 then .inl 1
  else if !e.testBit 1 then
    let pa := e / 2 ^ 21 * 2 ^ 21
    if e / 2 ^ 4 % 2 ^ 17 != 0 || cellarEnd ≤ pa then .inl 1
    else if s.hostRegion < pa + 2 ^ 21 then .inl 4
    else if perm e then .inr (pa + a % 2 ^ 21) else .inl 2
  else if e / 2 ^ 4 % 2 ^ 4 != 0 || cellarEnd ≤ e / 2 ^ 8 * 2 ^ 8 then .inl 1
  else
    let t := s.memNat (e / 2 ^ 8 * 2 ^ 8 + 8 * (a / 2 ^ 16 % 32)) 8
    let pa := t / 2 ^ 16 * 2 ^ 16
    if !t.testBit 0 || t.testBit 1 || t / 2 ^ 4 % 2 ^ 12 != 0 || t / 2 ^ 36 != 0 || cellarEnd ≤ pa then .inl 1
    else if s.hostRegion < pa + 2 ^ 16 then .inl 4
    else if perm t then .inr (pa + a % 2 ^ 16) else .inl 2

/-- The translation of a cellar virtual address in a partition (R238, R239). -/
def State.translate (s : State) (p : Nat) (acc : Acs) (a : Nat) : Nat ⊕ Nat :=
  if p = 0 then
    if s.pw.mode != .depot || s.hostRegion ≤ a then .inr a else .inl 1
  else s.guestWalk p acc a

/-- Where an access by a requester leads, or the kind of its fault (R236, R242, R281, R308). Alignment is judged by the
instruction. -/
def State.place (s : State) (w : Who) (acc : Acs) (a : Nat) : Nat ⊕ Place :=
  let p := s.whoPart w
  let off := a - keeperBase
  if acc = .fetch && w.isKeeper && !(keeperBase ≤ a && a < keeperBase + 0x400000) then .inl 2
  else if acc = .fetch && !w.isKeeper && mapped a && cellarEnd ≤ a then .inl 2
  else if a < cellarEnd then
    match s.translate p acc a with
    | .inl k => .inl k
    | .inr pa => .inr (.cells pa none)
  else if (storeOf a).isSome then
    let e := (a - storeBase) / 0x200000
    let off := (a - storeBase) % 0x200000
    let own : Bool := s.lead (whoEngine w) == s.lead e && whoEngine w < 48
    let cell : Nat × Option Nat :=
      if s.twinned then (storeRoom (e / 2 * 2) + off, some (storeRoom (e / 2 * 2 + 1) + off)) else (a, none)
    if (0x1C0000 ≤ off && !w.isScheduler) || (!w.isKeeper && s.enginePart e != p) then .inl 3
    else if 3 ≤ s.level e && !(own && s.level e = 4) then .inl 5
    else if s.level e = 2 && !own then .inr (.gated e cell.1 cell.2)
    else if 0x1C0000 ≤ off then .inr (.slot (s.lead e * 64 + (off - 0x1C0000) / 0x1000) (off % 0x1000))
    else .inr (.cells cell.1 cell.2)
  else if keeperBase ≤ a && a < keeperBase + 0x400000 then
    match w with
    | .hart (.keeper c) =>
      if !s.ownKeeperMem c.val off then .inl (if acc = .fetch then 2 else 3)
      else if acc != .fetch && off / 0x1000 = 0xFF then .inr (.port 0 (off % 0x1000))
      else if acc != .fetch && off / 0x1000 = 0x2FF then .inr (.port 1 (off % 0x1000))
      else .inr (.cells a none)
    | _ => .inl 3
  else if bellBase ≤ a && a < bellBase + 0x200000 then
    let q := (a - bellBase) / 0x1000
    if !w.isKeeper && s.queuePart q != p then .inl 3 else .inr (.bell q (a % 0x1000))
  else if unitBase ≤ a && a < unitBase + 0x1000000 then
    .inr (.unit ((a - unitBase) / 0x400000) ((a - unitBase) % 0x400000))
  else if poolBase ≤ a && a < poolBase + 0x2000000 then
    if acc != .read then .inl 2 else if p != 0 then .inl 3 else .inr (.cells a none)
  else .inl 1

/-- Store bytes at a place's cells and at the twin's. -/
def State.cellsWrite (s : State) (a : Nat) (mirror : Option Nat) (bs : List Byte) : State :=
  let s := s.memWrite a bs
  match mirror with
  | some m => s.memWrite m bs
  | none => s

/-- The memory class of EMCY 0x5010 (R349). -/
def memClass (pa : Nat) : Nat :=
  if pa < cellarEnd then 1
  else if (storeOf pa).isSome then 0
  else if keeperBase ≤ pa && pa < keeperBase + 0x400000 then 2
  else if poolBase ≤ pa then 4
  else 7

/-! ## The Keepers' L1 caches (R246)

Lines of the Keeper memories and of the host region; write-through; no other observer's writes reach them. How long a line
stays, and its length, are left open: a line here is 64 bytes, and while it differs from the memory a free value says
whether a load still finds it (log entry 65). -/

/-- The core whose number an L1 goes by: the pair's first where its cores share one, under Lean replication or in lockstep. -/
def State.l1Key (s : State) (c : Nat) : Nat := if s.su.boot.lean || !s.keepersSplit then c / 2 * 2 else c

/-- Whether the L1 caches hold lines of an address. -/
def State.l1Holds (s : State) (pa : Nat) : Bool := memClass pa == 2 || (s.hostRegion ≤ pa && pa < cellarEnd)

/-- A Keeper core's load of bytes of one line, and the state with the line in its L1. -/
def State.l1Load (s : State) (c pa n : Nat) : List Byte × State :=
  if !s.l1Holds pa then (s.memBytes pa n, s)
  else
    let k := s.l1Key c
    let base := pa / 64 * 64
    let lines := Amap.get [] s.l1 k
    let fill (s : State) : List Byte × State :=
      (s.memBytes pa n, { s with
        l1 := Amap.set [] s.l1 k ((base, s.memBytes base 64) :: lines.filter fun l => l.1 != base) })
    match lines.find? fun l => l.1 = base with
    | none => fill s
    | some l =>
      let hit := slice l.2 (pa % 64) n
      if hit = s.memBytes pa n then (hit, s)
      else
        let f := s.takeFree
        if (Config.freeWord f.1).toNat % 2 = 0 then (hit, f.2) else fill f.2

/-- A Keeper core's own store updates its L1 line, if it holds one. -/
def State.l1Store (s : State) (c pa : Nat) (bs : List Byte) : State :=
  { s with l1 := Amap.set [] s.l1 (s.l1Key c) ((Amap.get [] s.l1 (s.l1Key c)).map fun l =>
      if l.1 = pa / 64 * 64 then (l.1, l.2.take (pa % 64) ++ bs ++ l.2.drop (pa % 64 + bs.length)) else l) }

/-- A fence of device or system scope on a Keeper core: its L1 data lines are invalidated. -/
def State.l1Clear (s : State) (c : Nat) : State := { s with l1 := Amap.set [] s.l1 (s.l1Key c) [] }

/-! ## SECDED (R249, R250) -/

/-- The EMCY source of a memory error: the engine for a store room (R349). -/
def memSource (pa : Nat) : Nat :=
  match storeOf pa with
  | some (e, _) => e
  | none => 0xFF

/-- A corrected error counts, and, where it lay in the check bits, in the subset (R249). -/
def State.eccCorrected (s : State) (pa : Nat) (check : Bool) : State :=
  match storeOf pa with
  | some (e, _) =>
    let s := s.bump 0x4000 6 e
    if check then s.bump 0x4000 7 e else s
  | none =>
    if pa < cellarEnd then
      let s := s.bump 0x4800 7
      if check then s.bump 0x4800 8 else s
    else if memClass pa = 2 then { s with saf := { s.saf with keeperEcc := s.saf.keeperEcc + 1 } }
    else s

/-- An uncorrectable error: the word is poisoned, counted and reported; in a Keeper memory it is class S (R249, R349). -/
def State.eccDouble (s : State) (pa : Nat) : State :=
  let info := memClass pa * 2 ^ 29 + pa / 8 % 2 ^ 29
  let s := s.poisonAt pa
  let s :=
    match storeOf pa with
    | some (e, _) => s.bump 0x4000 8 e
    | none => if pa < cellarEnd then (s.bump 0x4800 9).setObj 0x4800 0x0A (pa / 8 * 8) else s
  if memClass pa = 2 then s.classS 0x05 info (some (0x5010, 0xFF, info))
  else s.raise 0x5010 (memSource pa) info

/-- What the code finds on the word at a physical address (R249). -/
def State.eccEvent (s : State) (pa : Nat) (e : Ecc) : State :=
  match e with
  | .clean => s
  | .singleData => s.eccCorrected pa false
  | .singleCheck => s.eccCorrected pa true
  | .double => s.eccDouble pa

/-! ## Performance counters (R409, R410) -/

/-- The bank in force on an engine (R410). -/
def State.bankNo (s : State) (e : Nat) : Nat := e * 16 + s.enginePart e

/-- Count an event in one bank: every counter that selects it wraps modulo 2^48, a wrap setting its bit (R409). -/
def Bank.event (b : Bank) (code n : Nat) : Bank :=
  (List.range 6).foldl (fun b k =>
    if b.events.getD k 0 = code && code != 0 then
      let v := b.counts.getD k 0 + n
      { b with
        counts := b.counts.set k (v % 2 ^ 48)
        overflow := if 2 ^ 48 ≤ v then setBit b.overflow k else b.overflow }
    else b) b

/-- Count an event of an engine in the bank in force, and in its twin's where a pair runs (R412). -/
def State.perf (s : State) (e code : Nat) (n : Nat := 1) : State :=
  (s.unitOf e).foldl (fun s e =>
    let b := (Amap.get Bank.zero s.banks (s.bankNo e)).event code n
    { s with banks := Amap.set Bank.zero s.banks (s.bankNo e) b }) s

end Sys2Proof.Machine
end

