-- ==== Sys2Proof/Machine/CalOps.lean ====
section
/-! DEFINITION. The calibration set as the machine uses it: its checks, its entries, the choice at power-on reset, the
cellar copy (chapter 7, R176 to R187). -/

namespace Sys2Proof.Machine

open Sys2Proof

/-! ## Checks (R177 to R179, R185) -/

/-- Whether every byte is zero. -/
def allZero (bs : List Byte) : Bool := bs.all (· == 0)

/-- Whether a REAL32 is finite. -/
def realFinite (v : Nat) : Bool := v / 2 ^ 23 % 2 ^ 8 != 255

/-- Step 3: magic, version, header size, total length, entry count and entry size. -/
def calHeader (c : List Byte) : Bool :=
  field c 0 4 = 0x41435953 && field c 4 2 = 1 && field c 6 2 = 64 && field c 8 4 = 12480 && field c 17 1 = 96 && field c 18 2 = 128

/-- Entry s of a set (R178). -/
def calEntryOf (c : List Byte) (strm : Nat) : List Byte := slice c (64 + 128 * strm) 128

/-- Step 6 of one entry. -/
def entryOk (e : List Byte) : Bool :=
  if !bit (field e 0 1) 0 then allZero e
  else
    field e 0 1 < 8 && (1 ≤ field e 1 1 && field e 1 1 ≤ 3) && field e 2 2 = 0 && field e 82 2 = 0 && field e 90 2 = 0 &&
    allZero (slice e 102 26) && ((List.range 16).all fun k => realFinite (field e (4 + 4 * k) 4)) &&
    (field e 100 2 = 8 || field e 100 2 = 16)

/-- Step 6 of the trims (R179). -/
def trimsOk (t : List Byte) : Bool :=
  ((List.range 8).all fun k =>
    let o := toSigned 16 (field t (2 * k) 2)
    let v := toSigned 16 (field t (32 + 2 * k) 2)
    decide (-100 ≤ o) && o ≤ 100 && 31130 ≤ field t (16 + 2 * k) 2 && field t (16 + 2 * k) 2 ≤ 34406 && decide (-20 ≤ v) && v ≤ 20) &&
  field t 48 2 ≤ 1023 && allZero (slice t 50 62)

/-- Step 6 of a whole set. -/
def calBody (c : List Byte) : Bool :=
  (List.range 96).all (fun k => entryOk (calEntryOf c k)) && trimsOk (slice c 12352 112) && allZero (slice c 12464 12)

/-- Step 2. -/
def calCrc (c : List Byte) : Bool := field c 12476 4 = crc32c (c.take 12476)

/-! ## The set in force -/

/-- The set in force; empty where there is none (R187). -/
def State.calSet (s : State) : List Byte :=
  match s.obj 0x8001 3 with
  | 0 => s.attic.areaA
  | 1 => s.attic.areaB
  | _ => []

/-- The entry of a stream in the set in force. -/
def State.calEntry (s : State) (strm : Nat) : List Byte := padTo 128 (calEntryOf s.calSet strm)

/-- The entry of a stream for an enable that commits now: of a set that has committed and waits for its commit word, where there is
one (R190). -/
def State.entryAtEnable (s : State) (strm : Nat) : List Byte :=
  match s.attic.pendSet with
  | some w => padTo 128 (calEntryOf w.data strm)
  | none => s.calEntry strm

/-- The monitor trims in force. -/
def State.trims (s : State) : List Byte := padTo 112 (slice s.calSet 12352 112)

/-- The initial trim of ACLK is applied (R179, R183). -/
def State.trimAclk (s : State) : State :=
  if s.calSet.isEmpty then s else { s with pw := { s.pw with aclkTrim := field s.trims 48 2 } }

/-- Show the set in force in 0x8001 (R191). -/
def State.calShow (s : State) (area : Nat) : State :=
  let s := s.setObj 0x8001 3 area
  let c := s.calSet
  if area = 0xFF then (((s.setObj 0x8001 1 0).setObj 0x8001 2 0xFF).setObj 0x8001 4 0).setObj 0x8001 5 0
  else
    let mask := (List.range 96).foldl (fun m k => if bit (field (calEntryOf c k) 0 1) 0 then setBit m k else m) 0
    (((s.setObj 0x8001 1 (field c 12 4)).setObj 0x8001 2 (field c 16 1)).setObj 0x8001 4 (mask % 2 ^ 64)).setObj 0x8001 5
      (mask / 2 ^ 64)

/-- Whether an area holds a valid set (R187). -/
def State.areaValid (s : State) (c : List Byte) (commit : Bool) : Bool :=
  commit && c.length = 12480 && calCrc c && calHeader c && field c 20 8 = s.obj 0x2000 6

/-- One erasure of an attic block; at 10,000 it is reported (R189). -/
def State.wearBlock (s : State) (b : Nat) : State :=
  let s := s.bumpSat 0x8002 (b + 1)
  if s.obj 0x8002 (b + 1) = 10000 then s.raise 0xFF09 0xFF b else s

/-- Erase an area: one erasure on each of its four blocks (R186). -/
def State.eraseArea (s : State) (b : Bool) : State :=
  let s := { s with attic := if b then { s.attic with areaB := [], commitB := false } else { s.attic with areaA := [], commitA := false } }
  (List.range 4).foldl (fun s k => s.wearBlock ((if b then 6 else 2) + k)) s

/-- The choice at each power-on reset (R187). -/
def State.calChoose (s : State) : State :=
  let a := s.areaValid s.attic.areaA s.attic.commitA
  let b := s.areaValid s.attic.areaB s.attic.commitB
  if a && (!b || field s.attic.areaB 12 4 ≤ field s.attic.areaA 12 4) then
    let s := s.calShow 0
    if s.attic.areaB.isEmpty then s else s.eraseArea true
  else if b then
    let s := s.calShow 1
    if s.attic.areaA.isEmpty then s else s.eraseArea false
  else s.calShow 0xFF

/-- Address of the cellar copy (R183). -/
def calCopyAddr : Nat := 0xBEFFF0000

/-- Write the cellar copy of the set in force (R183). -/
def State.calCopy (s : State) : State :=
  if s.calSet.isEmpty then s else (s.memWrite calCopyAddr s.calSet).setObj 0x8001 0x0A calCopyAddr

/-! ## Rectification and offsets (R180 to R182) -/

/-- Nodes of a LUT across and down. -/
def lutNodes (width lines g : Nat) : Nat × Nat := ((width + g - 1) / g + 1, (lines + g - 1) / g + 1)

/-- The LUT that an enable copies, or none where the entry is rejected (R180). -/
def State.lutFor (s : State) (strm : Nat) : Option (List Byte) :=
  let e := s.entryAtEnable strm
  let g := field e 100 2
  let n := lutNodes (s.obj 0x3000 6 strm) (s.obj 0x3000 7 strm) g
  let len := 4 * n.1 * n.2
  let lut := s.memBytes (field e 84 6) len
  if !bit (field e 0 1) 0 || field e 1 1 != s.obj 0x3000 2 strm || !bit (field e 0 1) 1 || (g != 8 && g != 16) then none
  else if field e 92 4 != len || cellarEnd < field e 84 6 + len || crc32c lut != field e 96 4 then none
  else if !((List.range (n.1 * n.2)).all fun k =>
      let dy := toSigned 16 (field lut (4 * k + 2) 2)
      decide (-128 ≤ dy) && dy ≤ 0) then none
  else if s.obj 0x8001 0x0B < len then none
  else some lut

/-- Round a quotient to nearest, ties away from zero. -/
def roundAway (n : Int) (d : Nat) : Int :=
  if 0 ≤ n then (2 * n + d) / (2 * d) else -((2 * -n + d) / (2 * d))

/-- The corrected time of a line (R181). -/
def State.correctedTime (s : State) (strm k stamp : Nat) : Nat :=
  let e := s.calEntry strm
  if !bit (field e 0 1) 0 then stamp
  else
    let k : Int := if s.obj 0x3000 2 strm = 1 then k else 0
    ofSigned 64 (stamp + toSigned 32 (field e 68 4) + roundAway (k * toSigned 32 (field e 72 4)) 1000)

/-- Clamp an integer. -/
def clampI (lo hi v : Int) : Int := max lo (min hi v)

/-- A range sample with the entry's offsets (R182); its check byte is carried as it came (log entry 17). -/
def offsetRange (e b : List Byte) : List Byte :=
  let d := field b 0 2
  let d' := if d = 0xFFFF then d else (clampI 0 0xFFFE (d + toSigned 16 (field e 76 2))).toNat
  let az := (field b 2 2 + field e 78 2) % 65536
  let el := clampI (-9000) 9000 (toSigned 16 (field b 4 2) + toSigned 16 (field e 80 2))
  leBytes 2 d' ++ leBytes 2 az ++ leBytes 2 (ofSigned 16 el) ++ slice b 6 2

/-- A near-field word with the entry's distance offset (R182). -/
def offsetNear (e b : List Byte) : List Byte :=
  let w := field b 0 4
  let d := (clampI 0 8191 (bits w 16 13 + toSigned 16 (field e 76 2))).toNat
  leBytes 4 (w / 2 ^ 29 * 2 ^ 29 + d * 2 ^ 16 + w % 2 ^ 16)

end Sys2Proof.Machine
end

