-- ==== Sys2Proof/Machine/SeqOps.lean ====
section
/-! DEFINITION. The Strip Sequencer's bookkeeping that the queue manager reports to: sluice slots and fill, outcomes, the
end of a strip job; the hazard output; timed launch (chapters 6, 8 and 9). -/

namespace Sys2Proof.Machine

open Sys2Proof

/-! ## Sluices (R163 to R171) -/

/-- The enabled sluice of a stream. -/
def State.sluice? (s : State) (strm : Nat) : Option Sluice := s.seq.sluices.find? fun q => q.on && q.stream = strm

/-- Change the sluices that a predicate takes. -/
def State.mapSluices (s : State) (p : Sluice → Bool) (f : Sluice → Sluice) : State :=
  { s with seq := { s.seq with sluices := s.seq.sluices.map fun q => if p q then f q else q } }

/-- Change the enabled sluice of a stream. -/
def State.modSluice (s : State) (strm : Nat) (f : Sluice → Sluice) : State :=
  s.mapSluices (fun q => q.on && q.stream = strm) f

/-- Stored bytes per pixel or sample (R148, R164). -/
def storedBytes (pt dt : Nat) : Nat :=
  if pt = 2 then 8 else if pt = 3 then 4
  else if dt = 0x24 then 3
  else if dt = 0x2B || dt = 0x2C || dt = 0x2D || dt = 0x2E || dt = 0x1E then 2
  else 1

/-- Stored bytes of a stream's pixel or sample. -/
def State.pixelBytes (s : State) (strm : Nat) : Nat := storedBytes (s.obj 0x3000 2 strm) (s.obj 0x3000 5 strm)

/-- Bytes of one full strip of a stream (R164). -/
def State.stripBytes (s : State) (strm : Nat) : Nat :=
  s.obj 0x3000 8 strm * s.obj 0x3000 6 strm * s.pixelBytes strm

/-- H without the completing strip: slots that hold complete strips (R166). -/
def Sluice.held (q : Sluice) : Nat := (q.strips.filter (·.slot.isSome)).length

/-- The fill in lines (R171). -/
def Sluice.fill (q : Sluice) : Nat :=
  (q.strips.foldl (fun n t => if t.slot.isSome then n + t.lines else n) 0) +
  (match q.filling with | some f => f.lines | none => 0)

/-- The pool's free bytes (R164). -/
def State.poolFree (s : State) : Nat := 2 ^ 25 - s.seq.sluices.foldl (fun n q => n + q.size) 0

/-- Judge the sluice weir on the present fill (R171, R407), as a line write or a release does, and sample it for monitor source
0x06. -/
def State.weirCheck (s : State) (q : Sluice) : State :=
  let l := s.obj 0x3000 0x0F q.stream
  let n := q.fill
  let s :=
    if !q.on || l = 0 then s
    else if !q.above && l ≤ n then
      ((s.setObj 0x3004 1 1 q.stream).bumpSat 0x3004 2 q.stream).modSluice q.stream fun q => { q with above := true }
    else if q.above && n < l then s.modSluice q.stream fun q => { q with above := false }
    else s
  if q.on then s.monSample 0x06 q.stream n else s

/-- Whether two sluices are the same one: a stream's draining sluices stand beside its enabled one (R163). -/
def Sluice.same (q r : Sluice) : Bool := r.stream = q.stream && r.on == q.on && r.base = q.base

/-- The sluice that a stream's status shows: the enabled one, else one that drains. -/
def State.shownSluice (s : State) (strm : Nat) : Option Sluice :=
  s.seq.sluices.find? fun q => q.stream = strm && (q.on || (s.sluice? strm).isNone)

/-- A sluice has changed: held strips and fill are shown, an allocation whose last slot is released returns to the pool, and
what is finished is forgotten (R163, R165). -/
def State.sluiceChanged (s : State) (strm : Nat) : State :=
  let s := s.mapSluices (fun q => q.stream = strm) fun q =>
    { q with
      strips := q.strips.filter fun t => t.slot.isSome || t.job != .ended || (q.on && !t.bounded)
      size := if q.on || 0 < q.held then q.size else 0 }
  let s := { s with seq := { s.seq with sluices := s.seq.sluices.filter fun q => q.on || 0 < q.size || !q.strips.isEmpty } }
  let s := s.setObj 0x3106 4 s.poolFree
  match s.shownSluice strm with
  | none => ((s.setObj 0x3002 1 0 strm).setObj 0x3002 2 0 strm).setObj 0x3002 3 0 strm
  | some q =>
    let s := (s.setObj 0x3002 2 q.held strm).setObj 0x3002 3 q.fill strm
    if !q.on && q.size = 0 then s.setObj 0x3002 1 0 strm else s

/-- A line write or a release has changed a sluice: the weir compares (R171). -/
def State.sluiceMoved (s : State) (strm : Nat) : State :=
  let s := s.sluiceChanged strm
  match s.shownSluice strm with
  | none => s
  | some q => s.weirCheck q

/-- Change one strip of a sluice that a predicate takes. -/
def State.modStrip (s : State) (p : Sluice → Bool) (n : Nat) (f : Strip → Strip) : State :=
  s.mapSluices p fun q => { q with strips := q.strips.map fun t => if t.n = n then f t else t }

/-- Release what a strip holds: its slot, unless its divert copy still reads it, and its ring entry (R165, R168). -/
def State.releaseStrip (s : State) (p : Sluice → Bool) (strm n : Nat) : State :=
  (s.modStrip p n fun t => { t with slot := if t.diverted then t.slot else none, ring := none }).sluiceMoved strm

/-! ## Outcomes (R216, R219 to R221) -/

/-- Lane bits [7:4] of a strip (R220). -/
def Strip.flags (t : Strip) : Nat :=
  (if t.replaced then 0x10 else 0) + (if t.decimated then 0x20 else 0) + (if t.last then 0x40 else 0) +
  (if t.single then 0x80 else 0)

/-- The outcome of a strip under a code. -/
def Strip.outcome (t : Strip) (strm code : Nat) (bounded : Bool) : Outcome :=
  { stream := strm, code := code, flags := t.flags, strip := t.n, bounded := bounded, deadline := t.deadline,
    doneTick := t.doneTick, frame := t.frame, index := t.index, corrected := t.corrected }

/-- A frame's bounded outcome reaches the Post-Processing Unit: any code but 0x1 makes its input partial, and the last
strip's makes the frame ready (R224). -/
def State.frameOutcome (s : State) (o : Outcome) : State :=
  if !o.bounded then s
  else
    { s with seq := { s.seq with frames := s.seq.frames.map fun f =>
      if f.stream = o.stream && f.frame = o.frame then
        { f with partialIn := f.partialIn || o.code != 1, lastOut := f.lastOut || f.lastStrip == some o.strip }
      else f } }

/-- Register an outcome: it waits for its lane. -/
def State.register (s : State) (o : Outcome) : State :=
  { s with seq := { s.seq with waiting := s.seq.waiting ++ [o] } }.frameOutcome o

/-- Register the bounded outcome "missed" of a strip of an enabled stream (R219). -/
def State.registerMiss (s : State) (strm : Nat) (t : Strip) : State :=
  let s := s.modStrip (fun q => q.on && q.stream = strm) t.n fun t => { t with bounded := true }
  (s.bump 0x3011 2 strm).register (t.outcome strm 2 true)

/-- The sluice and the strip that a job serves. -/
def State.stripOfJob (s : State) (id : Nat) : Option (Sluice × Strip) :=
  s.seq.sluices.findSome? fun q => (q.strips.find? fun t => t.job == .accepted id).map fun t => (q, t)

/-- A strip job's result, in time, late or diverted, on an enabled stream; on the edge of the withdraw age or of the deadline it
prevails (R211, R219, R229). -/
def State.stripResult (s : State) (strm : Nat) (t : Strip) : State :=
  let mark (s : State) := s.modStrip (fun q => q.on && q.stream = strm) t.n fun t => { t with bounded := true }
  let s := if s.clk.ticks = t.doneTick + s.obj 0x3110 7 then s.nearMiss else s
  if t.diverted then s.register (t.outcome strm 9 false)
  else if t.bounded then (s.bump 0x3011 3 strm).register (t.outcome strm 8 false)
  else if s.clk.ticks ≤ t.deadline then
    let s := if s.clk.ticks = t.deadline then s.nearMissIn 0x3011 6 strm else s
    let s := ((mark s).bump 0x3011 1 strm).raiseMax 0x3011 9 (s.clk.ticks - t.doneTick) strm
    s.register (t.outcome strm 1 true)
  else ((s.registerMiss strm t).bump 0x3011 3 strm).register (t.outcome strm 8 false)

/-- A strip job has ended (R219, R386): with ABORTED_FENCE it is submitted again; else its slot is released, and its outcome
registered where the status gives one. Status 7 stands for a twin mismatch. -/
def State.stripJobEnd (s : State) (j : Job) (status : Nat) : State :=
  match s.stripOfJob j.id with
  | none => s
  | some (q, t) =>
    let mine := q.same
    let t := { t with single := !s.twinned }
    if status = 5 then s.modStrip mine t.n fun t => { t with job := .toSubmit }
    else
      let s := s.modStrip mine t.n fun u => { u with job := .ended, single := t.single }
      let s :=
        if !q.on then s
        else if status = 0 then s.stripResult q.stream t
        else if status = 7 then
          let s := s.bump 0x3011 5 q.stream
          if !t.bounded && !t.diverted && s.clk.ticks ≤ t.deadline then
            (s.modStrip mine t.n fun u => { u with bounded := true }).register (t.outcome q.stream 7 true)
          else s
        else s
      s.releaseStrip mine q.stream t.n

/-! ## The hazard output (R39, R227, R354) -/

/-- Whether the gate at ICLK edge 7 asserts HAZARD_N. ICLK runs where the Time Base does. -/
def State.hazardAsserts (s : State) : Bool :=
  if !s.clk.tbRun || !s.pw.mode.awake || !s.seq.hz.loaded then false
  else if s.pw.mode = .safe then
    match s.obj 0x5001 1 with
    | 0 => true
    | 1 => s.seq.hz.latch || s.pw.safeCode = 6 || s.pw.safeCode = 8 || s.pw.safeCode = 0xB || s.pw.safeCode = 0xC
    | _ => false
  else s.seq.hz.latch

/-- The feed of the first assertion since the last TICK edge, with an assertion of this moment: one of an earlier edge is over
(R222). -/
def State.firstFeed (s : State) : Option (Nat × Nat) :=
  match s.seq.hz.first with
  | some (t, f) => if t = s.clk.ticks || !s.seq.hz.latch then some (t, f) else some (s.clk.ticks, s.obj 0x3111 4)
  | none => if s.seq.hz.latch then some (s.clk.ticks, s.obj 0x3111 4) else none

/-- Bring the pin to what the gate gives; an assertion counts (0x3111:03), and the next record shows what was asserted since the
last TICK edge (R222). -/
def State.hazardRecheck (s : State) : State :=
  let a := s.hazardAsserts
  let was := !s.pins.hazardN
  let s := { s with pins := { s.pins with hazardN := !a } }
  let s := s.setObjB 0x3111 2 a
  let s := if a || was then { s with seq := { s.seq with hz := { s.seq.hz with seenAt := some s.clk.ticks } } } else s
  if a && !was then
    let s := s.bump 0x3111 3
    { s with seq := { s.seq with hz := { s.seq.hz with first := s.firstFeed } } }
  else s

/-- Time in ns of the model's count. -/
def State.nsNow (s : State) : Nat := s.clk.elapsed * 1000

/-- ICLK cycles of the model's count, at 1.0 GHz (R29). -/
def State.iclk (s : State) : Nat := s.clk.us * 1000

/-- A sample that a comparator finds below threshold (R226, R227): the latch is set and the hold restarts; on the edge at which the
hold expires the sample prevails, a near-miss (R229). -/
def State.hazardBelow (s : State) (feed dist : Nat) : State :=
  let s := if s.seq.hz.latch && s.seq.hz.holdEnd = s.iclk then s.nearMissIn 0x3111 7 else s
  let s := (s.setObj 0x3111 4 feed).setObj 0x3111 5 dist
  { s with seq := { s.seq with hz := { s.seq.hz with latch := true, holdEnd := s.iclk + s.obj 0x3111 1 } } }.hazardRecheck

/-- A qualified sample at a feed (R225, R226): below where its distance is less than the threshold, or where the two comparators
disagree, which counts and is class S (R349). -/
def State.hazardSample (s : State) (feed sensor dist : Nat) (agree : Bool) : State :=
  let f := s.obj 0x3112 feed
  let takes := bit f 0 && (feed < 9 || bit f 1 || bits f 8 8 = sensor)
  if !takes || !s.clk.tbRun || !s.seq.hz.loaded then s
  else
    let t := if agree && bits f 16 16 ≤ dist then s else s.hazardBelow feed dist
    if agree then t else (t.bump 0x3111 6).classSOpen 0x0B

/-! ## Timed launch (R206 to R208) -/

/-- Count a late frame, with EMCY 0xFF07 for the first of a wake and then no more than once per 100 ms (R208). -/
def State.lateFrame (s : State) (by_ : Nat) : State :=
  let s := ((s.bump 0x9003 5).bump 0x9003 4).raiseMax 0x9003 8 by_
  let due := match s.seq.lateAt with
    | none => true
    | some t => t + 100000 ≤ s.now
  if due then { s with seq := { s.seq with lateAt := some s.now } }.raise 0xFF07 0xFF (s.obj 0x9003 5) else s

/-- A frame leaves its port. Kind 0 is a record and 1 an object list, each to its destination (R223, R303); on a CAN port the kind holds the identifier in [29:0] and
the XL fields above it. -/
def State.launch (s : State) (t : Timed) : State :=
  if t.port < 2 then
    s.emit (if t.kind = 0 then .record t.port (s.obj 0x3110 2) (s.obj 0x3110 3) t.data
            else .objectList t.port (s.obj 0x3120 2) (s.obj 0x3120 3) t.data)
  else s.canSend (t.port - 2) (t.kind % 2 ^ 30) (t.kind / 2 ^ 30) t.data

/-- Send a composed frame: at once where its offset object reads 0xFFFF_FFFF, else at `base` + offset, in ns of the
model's count (R206); a late frame goes at once (R208). -/
def State.sendTimed (s : State) (port kind off base : Nat) (data : List Byte) : State :=
  let t : Timed := { port := port, at_ := base + off, kind := kind, data := data }
  if off = 0xFFFFFFFF then s.launch t
  else
    let room := (s.timed.filter fun u => u.port = port).length < (if port < 2 then 64 else 8)
    if t.at_ < s.nsNow then ((s.bump 0x9003 6).lateFrame (s.nsNow - t.at_)).launch t
    else if t.at_ < s.nsNow + 2000 || !room then (s.lateFrame 0).launch t
    else { s with timed := s.timed ++ [t] }

end Sys2Proof.Machine
end

