-- ==== Sys2Proof/Machine/Queue.lean ====
section
/-! DEFINITION. Queues and jobs: submission, doorbells, dispatch and placement, cancelling, ending and completion records
(chapter 14, R329 to R344). -/

namespace Sys2Proof.Machine

open Sys2Proof

/-! ## Contexts -/

/-- The key of a hart in `ctxs`. -/
def hartKey : Hart → Nat
  | .ctx g => g.val
  | .keeper c => 3072 + c.val

/-- The state of a hart. -/
def State.ctx (s : State) (h : Hart) : Ctx := Amap.get Ctx.zero s.ctxs (hartKey h)

/-- The state of a context by number. -/
def State.ctxAt (s : State) (g : Nat) : Ctx := Amap.get Ctx.zero s.ctxs g

/-- Give a hart its state. -/
def State.setCtx (s : State) (h : Hart) (c : Ctx) : State :=
  { s with ctxs := Amap.set Ctx.zero s.ctxs (hartKey h) c }

/-- Give a context its state by number. -/
def State.setCtxAt (s : State) (g : Nat) (c : Ctx) : State := { s with ctxs := Amap.set Ctx.zero s.ctxs g c }

/-- The value of a scalar register; x0 reads 0 (R255). -/
def Ctx.get (c : Ctx) (r : Fin 32) : Word := if r = 0 then 0 else c.x[r]

/-- Write a scalar register; a write to x0 is discarded (R255). -/
def Ctx.put (c : Ctx) (r : Fin 32) (v : Word) : Ctx := if r = 0 then c else { c with x := c.x.set r v }

/-! ## Jobs -/

/-- A descriptor's fields (R332). -/
def Job.type (j : Job) : Nat := field j.desc 0 1
/-- Interrupt on completion. -/
def Job.interrupts (j : Job) : Bool := bit (field j.desc 1 1) 0
/-- Contexts the job asks for. -/
def Job.contexts (j : Job) : Nat := field j.desc 2 1 % 64 + 1
/-- The tag. -/
def Job.tag (j : Job) : Nat := field j.desc 8 8
/-- The two ranges in bytes: base and length. -/
def Job.ranges (j : Job) : List (Nat × Nat) :=
  [(field j.desc 32 6, field j.desc 38 2 * 65536), (field j.desc 40 6, field j.desc 46 2 * 65536)]

/-- The global numbers of the contexts a job holds. -/
def Job.harts (j : Job) : List Nat := j.slots.map fun c => j.engine * 64 + c

/-- The running job that holds a context. -/
def State.jobOf (s : State) (g : Nat) : Option Job :=
  s.sched.jobs.find? fun j => j.phase = .running && j.harts.contains g

/-- A job by its number. -/
def State.job (s : State) (id : Nat) : Option Job := s.sched.jobs.find? fun j => j.id = id

/-- Change a job. -/
def State.modJob (s : State) (id : Nat) (f : Job → Job) : State :=
  { s with sched := { s.sched with jobs := s.sched.jobs.map fun j => if j.id = id then f j else j } }

/-- Jobs running on an engine (the lead of its pair). -/
def State.jobsOn (s : State) (e : Nat) : List Job :=
  s.sched.jobs.filter fun j => j.phase = .running && j.engine = s.lead e

/-- Contexts in use on an engine (R254). -/
def State.inUse (s : State) (e : Nat) : List Nat := (s.jobsOn e).flatMap (·.slots)

/-- Whether a running job is suspended by one of higher priority on its engine (R338). -/
def State.suspended (s : State) (j : Job) : Bool := (s.jobsOn j.engine).any fun k => k.prio < j.prio

/-- Jobs of a queue that hold its depth: accepted, their record not written (R339). -/
def State.queueJobs (s : State) (q : Nat) : List Job := s.sched.jobs.filter fun j => j.queue = q

/-- A queue's state. -/
def State.queue (s : State) (q : Nat) : QueueState := Amap.get QueueState.fresh s.sched.queues q

/-- Give a queue its state. -/
def State.setQueue (s : State) (q : Nat) (v : QueueState) : State :=
  { s with sched := { s.sched with queues := Amap.set QueueState.fresh s.sched.queues q v } }

/-- The occupancy samples of monitor sources 0x07 and 0x08 (R400). -/
def State.occupancy (s : State) (q : Nat) : State :=
  s.monSample 0x07 q ((s.queueJobs q).filter (·.phase != .ended)).length

/-- The samples of contexts in use, of an engine that is neither gated nor off (R401) and of the device (R400). -/
def State.useSample (s : State) (e : Nat) : State :=
  let s := if s.level e != 0 then s else s.monSample 0x08 (s.lead e) (s.inUse e).length
  s.monSample 0x08 0xFFFF
    ((s.sched.jobs.filter (·.phase = .running)).foldl (fun n j => n + j.slots.length) 0)

/-! ## Engine sets (R331) -/

/-- The effective engine set of a queue: engines, or the even engines of complete pairs. -/
def State.effSet (s : State) (q : Nat) : List Nat :=
  let set := s.obj 0x6000 5 q
  let p := s.queuePart q
  (List.range 48).filter fun e =>
    set.testBit e && s.enginePart e == p && !s.outOfService e && s.obj 0x4000 1 e != 3 && (s.engine e).moving.isNone &&
    (!s.twinned || (e % 2 == 0 && !s.outOfService (e + 1) && !s.widowed e))

/-- Free contexts of an engine. -/
def State.freeSlots (s : State) (e : Nat) : List Nat :=
  let used := s.inUse e
  (List.range 64).filter fun c => !used.contains c

/-- Whether a partition is being reset (R341). -/
def State.resetting (s : State) (p : Nat) : Bool := s.sched.resets.any fun r => r.part = p

/-- Whether the guest of a partition is stopped: its queues are fenced and its contexts do not issue (R437). -/
def State.guestStopped (s : State) (p : Nat) : Bool :=
  p != 0 && (Amap.get Guest.none s.depot.guests (p - 1)).stopped

/-! ## Submission (R332, R333) -/

/-- Whether a descriptor has no reserved bit or field set and an aligned entry (R332, R333). -/
def descValid (d : List Byte) (strip : Bool) : Bool :=
  (field d 0 1 = 1 || (field d 0 1 = 2 && strip)) && field d 1 1 < 2 && field d 2 1 < 64 && field d 3 1 = 0 &&
  (field d 0 1 = 2 || field d 4 4 = 0) && field d 16 8 % 4 = 0 && field d 56 8 = 0

/-- The code of a submission: in SAFE every one is FENCED (R353), and in HANDOVER one to a guest's queue (R437). DESIGN
CHOICE (log entry 5): the order in which several codes apply. -/
def State.submitCode (s : State) (q : Nat) (d : List Byte) (strip : Bool) : Nat :=
  let p := s.queuePart q
  if s.pw.mode = .safe || (s.pw.mode = .handover && s.obj 0x6000 2 q != 0) then 0x04
  else if !s.objB 0x6000 1 q then 0x08
  else if !descValid d strip || (field d 0 1 = 1 && s.obj 0x6000 7 q = 0) then 0x07
  else if s.resetting p || s.guestStopped p || (p != 0 && s.obj 0x6100 0x0A = 1) then 0x04
  else if (s.effSet q).isEmpty then 0x09
  else if (s.effSet q).all (fun e => (s.engine e).dike.isSome) then 0x04
  else if s.obj 0x6000 6 q ≤ (s.queueJobs q).length then 0x06
  else 0x00

/-- A submission to a queue: the code, and the state. -/
def State.submit (s : State) (q : Nat) (d : List Byte) (strip : Bool) : Nat × State :=
  let c := s.submitCode q d strip
  if c != 0 then (c, s.bump 0x6001 5 q)
  else
    let n := (s.queue q).next
    let j : Job :=
      { id := s.sched.nextId, queue := q, seq := n, desc := d, prio := s.obj 0x6000 3 q, part := s.queuePart q,
        phase := .pending, engine := 0xFF, slots := [], cancelling := false, status := 0, user := 0, ecode := 0,
        acceptNs := s.nowNs, startNs := 0, endNs := 0 }
    let s := { s with sched := { s.sched with jobs := s.sched.jobs ++ [j], nextId := s.sched.nextId + 1 } }
    let s := (s.setQueue q { s.queue q with next := (n + 1) % 2 ^ 32 }).setObj 0x6001 3 n q
    (0, s.occupancy q)

/-! ## The end of a job (R339) -/

/-- Take a context off the barriers of its engine (R265). -/
def State.leaveBarriers (s : State) (g : Nat) : State :=
  let s := s.modEngine (g / 64) fun e =>
    { e with barriers := (e.barriers.map fun b => { b with arrived := b.arrived.filter (· != g) }) }
  s.setCtxAt g { s.ctxAt g with barrier := none }

/-- Enter a job's ranges in the directory of the engine that ran it (R336). -/
def enterRange (dir : List (Nat × Nat)) (r : Nat × Nat) : List (Nat × Nat) :=
  if r.2 = 0 then dir else (r :: dir.filter fun e => e.1 != r.1).take 16

/-- A job ends with a status; its record waits (R339). A strip job reports to the Strip Sequencer: with its status, or with
7 where a twin mismatch ended it (R363, R386). -/
def State.endJob (s : State) (id status ecode : Nat) (mismatch : Bool := false) : State :=
  match s.job id with
  | none => s
  | some j =>
    if j.phase = .ended then s
    else
      let user := ((j.harts.map fun g => (s.ctxAt g).ended.getD 0).find? (· != 0)).getD 0
      let s := if j.phase = .running then j.harts.foldl (fun s g => s.leaveBarriers g) s else s
      let s := s.modJob id fun j =>
        { j with phase := .ended, status := status, ecode := ecode, user := user, endNs := s.nowNs }
      let s := if status = 0 && j.phase = .running then
          (s.unitOf j.engine).foldl (fun s e => s.modEngine e fun v =>
            { v with dir := j.ranges.foldl enterRange v.dir }) s
        else s
      let s := if j.phase = .running then (s.perf j.engine 0x0F).useSample j.engine else s
      let s := if status = 3 then s.bump 0x6001 6 j.queue else s
      let s := if status = 5 && j.phase = .running then (s.unitOf j.engine).foldl (fun s e => s.bump 0x4020 5 e) s else s
      let s := s.occupancy j.queue
      if j.type = 2 then s.stripJobEnd j (if mismatch then 7 else status) else s

/-- The completion record (R339). -/
def Job.record (j : Job) : List Byte :=
  leBytes 8 j.tag ++ leBytes 1 j.status ++ leBytes 1 j.user ++ leBytes 1 j.engine ++ leBytes 1 j.ecode ++
  leBytes 4 j.seq ++ leBytes 8 j.startNs ++ leBytes 8 j.endNs

/-- Write bytes for a partition at a device virtual address; where it does not lead to cells, nothing is written. -/
def State.writeFor (s : State) (p a : Nat) (bs : List Byte) : State :=
  match s.place (.part p) .write a with
  | .inr (.cells pa m) => s.cellsWrite pa m bs
  | _ => s

/-- Whether nothing of a job is outstanding: issued tensor operations, and requests of the units (R245, R340). -/
def State.jobQuiet (s : State) (j : Job) : Bool :=
  (j.harts.all fun g => (s.ctxAt g).ops.all fun o => o.job != j.id || o.finished || o.fault.isSome) &&
  !((s.recReqs ++ s.smpReqs).any fun r => r.job = some j.id)

/-- Write the record of the oldest job of a queue, where it has ended, every access of it has been performed (R245), and its
ring slot is consumed (R339). -/
def State.writeRecord (s : State) (q : Nat) : State :=
  match s.queueJobs q with
  | [] => s
  | j :: _ =>
    let base := s.obj 0x6000 7 q
    let size := s.obj 0x6000 8 q
    let ahead := (j.seq + 2 ^ 32 - (s.queue q).consumed) % 2 ^ 32
    if j.phase != .ended || !s.jobQuiet j || (base != 0 && size ≤ ahead) then s
    else
      let s := { s with sched := { s.sched with jobs := s.sched.jobs.filter fun k => k.id != j.id } }
      let s := if base = 0 then s
        else (s.writeFor j.part (base + 32 * (j.seq % size)) j.record).bump 0x6001 4 q
      let s := if j.status = 0 && j.part != 0 then s.bump 0x6020 1 (j.part - 1) else s
      let s := s.monSample 0x02 q (j.endNs - j.acceptNs : Int)
      let s := if j.engine != 0xFF then s.monSample 0x03 q (j.endNs - j.startNs : Int) else s
      if j.interrupts then s.emit (.msix j.part (s.obj 0x6000 9 q)) else s

/-! ## Cancelling (R340) -/

/-- End the cancelled jobs that have become quiet. -/
def State.settleCancels (s : State) : State :=
  s.sched.jobs.foldl (fun s j =>
    if j.phase = .running && j.cancelling && s.jobQuiet j then s.endJob j.id 2 0 else s) s

/-- CANCEL of the oldest uncompleted job of a queue with a tag: the code, and the state. -/
def State.cancelTag (s : State) (q tag : Nat) : Nat × State :=
  match (s.queueJobs q).find? fun j => j.phase != .ended && j.tag = tag with
  | none => (0x0A, s)
  | some j =>
    if j.phase = .pending then (0, s.endJob j.id 3 0)
    else (0, (s.modJob j.id fun j => { j with cancelling := true }).settleCancels)

/-! ## Doorbells (R334) -/

/-- The code of a writer. -/
def writerCode : Writer → Nat
  | .fn n => n.val
  | .hart h => 16 + hartKey h

/-- A writer's view of a doorbell page. -/
def State.bell (s : State) (q wc : Nat) : Doorbell := Amap.get Doorbell.fresh s.sched.bells (q * 8192 + wc)

/-- Give a writer's view. -/
def State.setBell (s : State) (q wc : Nat) (b : Doorbell) : State :=
  { s with sched := { s.sched with bells := Amap.set Doorbell.fresh s.sched.bells (q * 8192 + wc) b } }

/-- The staged descriptor is submitted. -/
def State.bellSubmit (s : State) (q wc : Nat) : State :=
  let r := s.submit q (s.bell q wc).staging false
  let b := r.2.bell q wc
  if r.1 = 0 then r.2.setBell q wc { b with status := 0, lastSeq := r.2.obj 0x6001 3 q }
  else r.2.setBell q wc { b with status := r.1, refusals := min (b.refusals + 1) (2 ^ 24 - 1) }

/-- A cancel by its tag, and the writer's status (R334, R340). -/
def State.bellCancel (s : State) (q wc tag : Nat) : State :=
  let r := s.cancelTag q tag
  let b := r.2.bell q wc
  r.2.setBell q wc { b with status := r.1, refusals := if r.1 = 0 then b.refusals else min (b.refusals + 1) (2 ^ 24 - 1) }

/-- A write to a doorbell page at an offset (R334): it stages, and what it covers whole of the submitting word, the cancel
tag and the consumed count acts; the rest is dropped. -/
def State.bellWrite (s : State) (q wc off : Nat) (bs : List Byte) : State :=
  let covers (a k : Nat) : Bool := off ≤ a && a + k ≤ off + bs.length
  let b := s.bell q wc
  let s := if off < 64 then
      s.setBell q wc { b with staging := (b.staging.take off ++ bs ++ b.staging.drop (off + bs.length)).take 64 }
    else s
  let s := if covers 0x38 8 then s.bellSubmit q wc else s
  let s := if covers 0x40 8 then s.bellCancel q wc (field bs (0x40 - off) 8) else s
  if covers 0x48 4 then s.setQueue q { s.queue q with consumed := field bs (0x48 - off) 4 } else s

/-- The bytes that a writer reads from a doorbell page (R334). -/
def State.bellRead (s : State) (q wc off n : Nat) : List Byte :=
  let b := s.bell q wc
  let pend := ((s.queueJobs q).filter fun j => j.phase = .pending).length
  let run := ((s.queueJobs q).filter fun j => j.phase = .running).length
  let page := leBytes 4 (b.status + b.refusals * 256) ++ leBytes 4 b.lastSeq ++
    leBytes 2 pend ++ leBytes 2 run ++ leBytes 4 (s.obj 0x6001 4 q)
  (List.range n).map fun k => if 0x50 ≤ off + k then page.getD (off + k - 0x50) 0 else 0

/-- DOZE ends (R61); the polders stay gated until something wakes them. -/
def State.endDoze (s : State) : State := s.setObj 0x2001 3 0

/-- A writer's access to a page: a PCIe function outside the queue's partition is dropped and counted (R334); a thread
outside it is judged by its store (R236). -/
def State.bellBy (s : State) (wr : Writer) (q off : Nat) (bs : List Byte) : State :=
  match wr with
  | .fn n =>
    if !s.pw.mode.awake || !(s.path (0x10 + n.val)).live then s
    else if s.queuePart q != n.val then s.bump 0x4803 1 else s.endDoze.bellWrite q (writerCode wr) off bs
  | .hart _ => s.endDoze.bellWrite q (writerCode wr) off bs

/-! ## Dispatch (R335 to R338) -/

/-- The 64 KiB units of a job's ranges that lie within an entry of a directory (R336). -/
def residency (dir : List (Nat × Nat)) (j : Job) : Nat :=
  j.ranges.foldl (fun n r =>
    n + ((List.range (r.2 / 65536)).filter fun k =>
      dir.any fun e => e.1 ≤ r.1 + k * 65536 && r.1 + (k + 1) * 65536 ≤ e.1 + e.2).length) 0

/-- Whether an engine runs jobs in the state in force: in BENCH, DRIVE and DEPOT; in HANDOVER, until the self-test that precedes
DRIVE, where no guest held it (log entry 66). -/
def State.serves (s : State) (e : Nat) : Bool :=
  s.pw.mode = .bench || s.pw.mode = .drive || s.pw.mode = .depot ||
  (s.pw.mode = .handover && !s.su.toDrive && s.obj 0x6010 (e + 1) = 0)

/-- Whether placement may choose an engine, contexts aside: it runs jobs, its dike is open, and no test withdraws it or its twin
(R365, R385). -/
def State.placeable (s : State) (e : Nat) : Bool :=
  let v := s.engine e
  let w := s.engine (e + 1)
  s.serves e && v.dike.isNone && !v.withdrawn && !v.testing && (!s.twinned || !w.withdrawn && !w.testing)

/-- Engines of a job's effective set that can start it now. -/
def State.eligible (s : State) (j : Job) : List Nat :=
  (s.effSet j.queue).filter fun e =>
    let free := (s.freeSlots e).length
    s.placeable e && j.contexts ≤ free && (j.prio < 2 || s.obj 0x6011 1 ≤ free - j.contexts)

/-- The engine with the highest score, ties to the lowest number; scores are taken in ascending order. -/
def bestEngine (score : Nat → Nat) (l : List Nat) : Option Nat :=
  l.foldl (fun b e =>
    match b with
    | none => some e
    | some x => if score x < score e then some e else some x) none

/-- Whether thermal steering passes over an engine: its cluster's sensor exceeds the threshold (R485). PRESUMED (log entry
26): sensor n is that of cluster n. -/
def State.hot (s : State) (e : Nat) : Bool := decide (s.objI 16 0xB023 6 < s.objI 16 0x5040 (0x0D + e / 8))

/-- The engine that a placement mode chooses among some (R336). -/
def State.chooseAmong (s : State) (j : Job) (l : List Nat) : Option Nat :=
  if s.obj 0x6000 4 j.queue = 1 then bestEngine (fun e => residency (s.engine e).dir j) l else l.head?

/-- The engines that steering leaves for a job at P2 or P3 in DEPOT and BENCH, where any can start it (R485). -/
def State.steered (s : State) (j : Job) : List Nat :=
  let l := s.eligible j
  let cool := l.filter fun e => !s.hot e
  if (s.pw.mode = .depot || s.pw.mode = .bench) && 2 ≤ j.prio && !cool.isEmpty then cool else l

/-- The engine that a job's placement chooses (R336, R485). -/
def State.choose (s : State) (j : Job) : Option Nat := s.chooseAmong j (s.steered j)

/-- The head job of a queue that is ready: every earlier job of the queue has started or completed (R335); none while its
guest is stopped (R437) or its partition is being reset (R341). -/
def State.readyHead (s : State) (q : Nat) : Option Job :=
  (s.queueJobs q).find? fun j => j.phase = .pending && !s.guestStopped j.part && !s.resetting j.part

/-- Queues in the order a priority serves them: after the one served last (R335). -/
def State.serveOrder (s : State) (prio : Nat) : List Nat :=
  let last := Amap.get 0 s.sched.lastServed prio
  let qs := ((s.sched.jobs.filter fun j => j.phase = .pending && j.prio = prio).map (·.queue)).foldl
    (fun l q => insertNat q l) []
  (qs.filter fun q => last ≤ q) ++ qs.filter fun q => q < last

/-- The jobs that a dispatch decision can start, each with its engine, in the order it considers them (R335). -/
def State.starts (s : State) : List (Job × Nat) :=
  [0, 1, 2, 3].flatMap fun p => (s.serveOrder p).filterMap fun q =>
    match s.readyHead q with
    | some j => (s.choose j).map fun e => (j, e)
    | none => none

/-- A job's start state in one context (R337). -/
def startCtx (j : Job) (index : Nat) : Ctx :=
  let x := ((((Ctx.zero.x.set 10 (BitVec.ofNat 64 (field j.desc 24 8))).set 11
    (BitVec.ofNat 64 (field j.desc 48 8))).set 12 (BitVec.ofNat 64 index)).set 13 (BitVec.ofNat 64 j.contexts))
  { Ctx.zero with
    x := x, pc := BitVec.ofNat 64 (field j.desc 16 8), tag := BitVec.ofNat 64 j.tag, index := index }

/-- A job starts on an engine (R335, R337, R338): it takes the lowest free slots; where it suspends jobs, the context
switch counts, and its time is a free value of at most 4,000 ns (log entry 2). -/
def State.startJob (s : State) (j : Job) (e : Nat) : State :=
  let slots := (s.freeSlots e).take j.contexts
  let hit := (s.jobsOn e).filter fun k => j.prio < k.prio && !s.suspended k
  let s := s.modJob j.id fun j => { j with phase := .running, engine := e, slots := slots, startNs := s.nowNs }
  let s := { s with sched := { s.sched with lastServed := Amap.set 0 s.sched.lastServed j.prio (j.queue + 1) } }
  let s := (slots.zip (List.range 64)).foldl (fun s p => s.setCtxAt (e * 64 + p.1) (startCtx j p.2)) s
  let s := if hit.isEmpty then s
    else
      let f := s.takeFree
      let t := (Config.freeWord f.1).toNat % 4001
      let s := (f.2.bump 0x6011 2).raiseMax 0x6011 3 t
      let s := hit.foldl (fun s _ => s.perf e 0x10) s
      (s.monSample 0x04 e t).monSample 0x04 0xFFFF t
  s.useSample e

/-- Whether a job's engine is gated, so that it must wake before the job starts. -/
def State.mustWake (s : State) (p : Job × Nat) : Bool := s.obj 0x4000 1 p.2 != 0

/-- A dispatch decision: the first job that can start at once does; the gated polders of those before it wake for them (R335,
R338, R62). -/
def State.dispatch (s : State) : State :=
  let l := s.starts
  let woken := (l.takeWhile s.mustWake).foldl (fun s p => s.wakeEngine p.2) s
  match l.find? fun p => !s.mustWake p with
  | none => woken
  | some (j, e) => (if s.chooseAmong j (s.eligible j) = some e then woken else woken.bump 0xB023 7).startJob j e

end Sys2Proof.Machine
end

