-- ==== Sys2Proof/Machine/UnitPorts.lean ====
section
/-! DEFINITION. The request queues of the Recurrence and the Sampling Unit: which request runs, what a step reads when it
starts, the state table's reset flags, and what the reset of an engine takes away (chapter 13, R309 to R317, R327). -/

namespace Sys2Proof.Machine

/-- Base of a unit's window: 1 Recurrence, 2 Sampling, 3 Random. -/
def unitWindow (u : Nat) : Nat := unitBase + u * 0x400000

/-- The address of state slot n. -/
def slotAddr (n : Nat) : Nat := unitWindow 1 + 0x380000 + 16 * n

/-- The owner engine of a port (R308): 48 for a Keeper. -/
def portEngine (port : Nat) : Nat := if port < 3072 then port / 64 else 48

/-- The request that a unit serves (R311), and the rest: the one that runs; else the oldest of the first class; else the
oldest. -/
def nextReq (l : List UnitReq) : Option (UnitReq × List UnitReq) :=
  match ((l.find? (·.run.isSome)).orElse fun _ => l.find? (·.first)).orElse fun _ => l.head? with
  | some r => some (r, l.erase r)
  | none => none

/-- Whether a step works on a slot of the state table; otherwise on a batch (R313). -/
def UnitReq.onSlot (r : UnitReq) : Bool := field r.desc 1 1 == 0

/-- The slot of a slot-mode step. -/
def UnitReq.slot (r : UnitReq) : Nat := field r.desc 2 2

/-- Whether a step descriptor keeps the rules of R313, with the slot's words as the step read them. -/
def stepValid (d : List Byte) (w0 w1 : Nat) : Bool :=
  let op := field d 0 1
  let mode := field d 1 1
  let n := field d 2 2
  let w := field d 4 2
  1 ≤ op && op ≤ 3 && mode ≤ 1 && 1 ≤ w && w ≤ 4096 && field d 6 2 = 0 && field d 8 6 % 64 = 0 && field d 14 6 % 64 = 0 &&
  field d 20 6 % 64 = 0 && field d 26 6 % 32 = 0 &&
  (if mode = 0 then
    n < 4096 && field d 20 6 = 0 && field d 32 32 = 0 && bit w0 48 && w1 % 2 ^ 13 = w
  else 1 ≤ n && n ≤ 256 && field d 32 32 / 2 ^ n = 0)

/-- The words of a step's slot, as the table holds them. -/
def State.slotWords (s : State) (r : UnitReq) : Nat × Nat :=
  if r.onSlot then (s.memNat (slotAddr r.slot) 8, s.memNat (slotAddr r.slot + 8) 8) else (0, 0)

/-- The rows that a started step takes from zero state (R315): the slot's reset flag, or the batch mask. -/
def UnitReq.zeroRow (r : UnitReq) (k : Nat) : Bool :=
  if r.onSlot then bit (r.run.getD (0, 0)).1 49 else bit (field r.desc 32 32) k

/-- The Recurrence Unit starts its next step, where none runs: the slot is read once, the descriptor judged, and a start
from zero state counts (R313, R315, R328). -/
def State.recStart (s : State) : State :=
  match nextReq s.recReqs with
  | none => s
  | some (r, rest) =>
    if r.run.isSome then s
    else
      let w := s.slotWords r
      let r := { r with
        run := some w
        early := if r.early != 0 then r.early else if stepValid r.desc w.1 w.2 then 0 else 1 }
      let s := { s with recReqs := r :: rest }
      if r.early != 0 then s
      else if r.onSlot then (if r.zeroRow 0 then s.bump 0x4810 3 else s)
      else s.bump 0x4810 4 0 ((List.range r.slot).filter r.zeroRow).length

/-- The Sampling Unit starts its next request, where none runs. -/
def State.smpStart (s : State) : State :=
  match nextReq s.smpReqs with
  | some (r, rest) => if r.run.isSome then s else { s with smpReqs := { r with run := some (0, 0) } :: rest }
  | none => s

/-- A store into the state table. One that reaches the reset flag of the slot that a step runs on is kept: the end of that
step clears no flag (R327). -/
def State.tableStore (s : State) (a : Nat) (bs : List Byte) : State :=
  let s := s.memWrite a bs
  { s with recReqs := s.recReqs.map fun r =>
      if r.run.isSome && r.onSlot && a ≤ slotAddr r.slot + 6 && slotAddr r.slot + 6 < a + bs.length then { r with kept := true }
      else r }

/-- Set the reset flag of a slot. -/
def State.flagSlot (s : State) (n : Nat) : State :=
  s.tableStore (slotAddr n) (leBytes 8 (setBit (s.memNat (slotAddr n) 8) 49))

/-- The requests of an engine at its reset: a valid slot-mode step that runs leaves its slot's reset flag set, and every
step of the engine is discarded (R317). -/
def State.dropSteps (s : State) (e : Nat) : State :=
  let gone := s.recReqs.filter fun r => portEngine r.port = e
  let s := gone.foldl (fun s r => if r.run.isSome && r.early = 0 && r.onSlot then s.flagSlot r.slot else s) s
  let s := { s with recReqs := s.recReqs.filter fun r => portEngine r.port != e }
  (s.bump 0x4810 7 0 gone.length).recStart

end Sys2Proof.Machine
end

