-- ==== Sys2Proof/Machine/Recovery.lean ====
section
/-! DEFINITION. Dikes, escalation, partition resets, twin mismatches, engines out of service, the watchdog, the deadlock
detector and the recovery log (chapter 16; R341, R361 to R366). -/

namespace Sys2Proof.Machine

open Sys2Proof

/-! ## The recovery log (R394) -/

/-- Write a recovery record. -/
def State.recLog (s : State) (ns event engine part cause queue aborted detail : Nat) : State :=
  let n := s.recov.nextSeq
  let b := leBytes 8 ns ++ leBytes 1 event ++ leBytes 1 engine ++ leBytes 1 part ++ leBytes 1 cause ++ leBytes 2 queue ++
    leBytes 2 (min aborted 0xFFFF) ++ leBytes 4 detail ++ leBytes 4 n ++ leBytes 1 s.pw.mode.code ++ zeros 3
  let s := { s with recov := { s.recov with log := ((b ++ leBytes 4 (crc32c b)) :: s.recov.log).take 64
                                            nextSeq := (n + 1) % 2 ^ 32 } }
  s.setObj 0x5120 1 n

/-! ## Out of service (R364, R366, R389, R390) -/

/-- Engines out of service. -/
def State.oosCount (s : State) : Nat := ((List.range 48).filter s.outOfService).length

/-- Every engine in service takes a gating level (R62, R52). -/
def State.engineLevels (s : State) (lvl : Nat) : State :=
  (List.range 48).foldl (fun s e => if s.outOfService e then s else s.setObj 0x4000 1 lvl e) s

/-! ## Closing a dike (R384, R385, R389, R390) -/

/-- Whether a cause counts toward escalation; cause 0x01 counts for the polder that ran the faulting job alone. -/
def causeCounts (cause : Nat) : Bool := cause = 1 || cause = 2 || cause = 3

/-- Count a reset of a polder: against the polder limit, EMCY 0x5060 and an end out of service; against the device limit,
SAFE (R389, R390). -/
def State.countReset (s : State) (e : Nat) : State :=
  let s := s.modEngine e fun v =>
    { v with resets := s.now :: s.within v.resets (s.obj 0x5110 1), dike := v.dike.map fun d => { d with counted := true } }
  let n := (s.engine e).resets.length
  let s := s.setObj 0x4020 3 n e
  let s := if s.obj 0x5110 2 ≤ n then
      let s := (s.unitOf e).foldl (fun s k => s.setObj 0x4020 6 6 k) s
      (s.modEngine e fun v => { v with dike := v.dike.map fun d => { d with final := true, cause := 6 } }).raise 0x5060 e n
    else s
  let s : State := { s with recov := { s.recov with resets := s.now :: s.within s.recov.resets (s.obj 0x5110 3) } }
  let m : Nat := s.recov.resets.length
  let s := s.setObj 0x5110 8 m
  if s.obj 0x5110 4 ≤ m then (s.recLog s.nowNs 0x08 0xFF 0xFF 0 0xFFFF 0 0x01).classSOpen 0x0F else s

/-- Jobs that a recovery ends complete ABORTED_FENCE, or CANCELLED where a cancel is in progress (R344, R385 step 3). -/
def State.abortJobs (s : State) (jobs : List Job) (mismatch : Bool := false) : State :=
  jobs.foldl (fun s j => s.endJob j.id (if j.cancelling then 2 else 5) 0 (mismatch := mismatch)) s

/-- How many of some jobs complete ABORTED_FENCE when a recovery ends them (R394). -/
def abortedOf (jobs : List Job) : Nat := (jobs.filter fun j => !j.cancelling).length

/-- The end of the drain: what remains on the polder completes ABORTED_FENCE, and the close is recorded with the drain
ticks used (R385 step 3, R394). -/
def State.drainEnd (s : State) (e : Nat) : State :=
  match (s.engine e).dike with
  | none => s
  | some d =>
    if d.step != 2 then s
    else
      let jobs := s.jobsOn e
      let s := s.abortJobs jobs (d.cause = 2)
      let s := s.modEngine e fun v => { v with dike := some { d with step := 4 } }
      s.recLog d.ns 0x01 e (s.enginePart e) d.cause d.queue (d.lost + abortedOf jobs) (s.now - d.at_)

/-- Close the dike of a polder or pair (R385 step 1). A dike that is closed already is not closed again; a counting cause
counts once for the sequence (R384). `lost` jobs have completed ABORTED_FENCE by the cause (R394). -/
def State.closeDike (s : State) (e cause queue : Nat) (counts inReset : Bool) (lost : Nat := 0) : State :=
  let e := s.lead e
  if s.outOfService e then s
  else
    match (s.engine e).dike with
    | some d =>
      let s := (s.unitOf e).foldl (fun s k => s.setObj 0x4020 6 cause k) s
      if counts && !d.counted then s.countReset e else s
    | none =>
      let d : Dike :=
        { cause := cause, step := 2, at_ := s.now, ns := s.nowNs, queue := queue, counted := false, final := false,
          inReset := inReset, lost := lost }
      let s := (s.unitOf e).foldl (fun s k => (s.bump 0x4020 4 k).setObj 0x4020 6 cause k) s
      let s := s.modEngine e fun v => { v with dike := some d }
      let s := if counts then s.countReset e else s
      if (s.jobsOn e).isEmpty then s.drainEnd e else s

/-- Every drain that has no job left ends (R385 step 2). -/
def State.settleDikes (s : State) : State :=
  (List.range 48).foldl (fun s e =>
    match (s.engine e).dike with
    | some d => if d.step = 2 && (s.jobsOn e).isEmpty then s.drainEnd e else s
    | none => s) s

/-- What may follow from a job's or a unit's end: cancels complete, drains end. -/
def State.settle (s : State) : State := s.settleCancels.settleDikes

/-- The reset of an engine (R385 step 4): contexts, tokens, barriers and directory; its Recurrence steps are discarded
(R317); a sample in flight is lost (R417). -/
def State.resetEngine (s : State) (e : Nat) : State :=
  let s := s.dropSteps e
  let s := { s with ctxs := s.ctxs.filter fun c => !(c.1 < 3072 && c.1 / 64 = e) }
  let s := if bit s.smp.inFlight e then
      { s with smp := { s.smp with inFlight := clearBit s.smp.inFlight e } }.bump 0x7040 5
    else s
  s.modEngine e fun v => { v with barriers := [], tops := [], dir := [] }

/-- The scrub of a store room (R385 step 5): zero with valid ECC, context area included. -/
def State.scrubStore (s : State) (e : Nat) : State :=
  let s := s.memZero (storeRoom e) 0x200000
  { s with ctxs := s.ctxs.filter fun c => !(c.1 < 3072 && c.1 / 64 = e) }

/-! ## Partition reset (R341) -/

/-- The guest's cellar window, from 0x6021 (R422). -/
def State.guestWindow (s : State) (g : Nat) : Nat × Nat := (s.obj 0x6021 2 g, s.obj 0x6021 3 g * 2 ^ 21)

/-- A partition reset goes on: the dike of the first polder still to be reset, and in service, closes; when none is left, the
jobs that never started complete ABORTED_FENCE. -/
def State.nextInReset (s : State) (r : PartReset) : State :=
  let unstarted := s.sched.jobs.filter fun j => j.part = r.part && j.phase = .pending
  let left := r.left.filter fun e => !s.outOfService e
  let r := { r with left := left, aborted := if left.isEmpty then unstarted.length else 0 }
  let s : State := { s with sched := { s.sched with
    resets := s.sched.resets.map fun (x : PartReset) => if x.part = r.part then r else x } }
  match r.left with
  | [] =>
    unstarted.foldl (fun s j => s.endJob j.id 5 0) s
  | e :: _ => s.closeDike e 0x01 0xFFFF (e == r.engine) true

/-- A polder of a partition reset has opened or gone out: the next follows. -/
def State.advanceReset (s : State) (e : Nat) : State :=
  (s.sched.resets.filter fun r => r.left.head? = some e).foldl
    (fun s r => s.nextInReset { r with left := r.left.tail }) s

/-- An engine goes off and out of service for the wake; its partner is widowed; a partition reset that
stands at it goes on (R341), and the limit of R390 is judged. -/
def State.goOut (s : State) (e cause : Nat) (aborted : Nat := 0) : State :=
  if s.outOfService e then s
  else
    let s := s.setObjBit 0x5110 0x0A e true
    let s := (s.setObj 0x5110 9 s.oosCount).setObj 0x2001 4 (48 - s.oosCount)
    let p := if e % 2 = 0 then e + 1 else e - 1
    let s := (s.setObjBit 0x5020 2 e false).setObjBit 0x5020 2 p (!s.outOfService p)
    let s := s.modEngine e fun v => { Engine.idle with resets := v.resets }
    let s := s.refreshReg.recLog s.nowNs 0x03 e (s.enginePart e) cause 0xFFFF aborted
      (s.within (s.engine e).resets (s.obj 0x5110 1)).length
    let s := if s.sched.resets.any fun r => r.left.head? = some e then s.advanceReset e else s
    if s.obj 0x5110 5 ≤ s.oosCount then
      (s.recLog s.nowNs 0x08 0xFF 0xFF 0 0xFFFF 0 0x02).classSOpen 0x0F
    else s

/-- An engine fails a test: EMCY 0x5050 with the test code, and out of service (R83, R366); `cause` is that of the dike sequence
the test ran in, 0 for none (R394). -/
def State.engineFail (s : State) (e test : Nat) (cause : Nat := 0) : State :=
  if s.outOfService e then s
  else
    let s := s.bump 0x5030 2
    let jobs := s.jobsOn e
    ((s.abortJobs jobs).goOut e cause (abortedOf jobs)).raise 0x5050 e test

/-- A checkpoint of a guest that is being taken is dropped (R441). -/
def State.dropCkpt (s : State) (g : Nat) : State :=
  let v := Amap.get Guest.none s.depot.guests g
  { s with depot := { s.depot with guests := Amap.set Guest.none s.depot.guests g { v with ckpt := none, reoffer := false } } }

/-- A job fault (R341): the job ends with JOB_FAULT, and its partition is reset, unless that is in progress (R397); a checkpoint of the
guest is dropped (R441). -/
def State.jobFault (s : State) (id ecode : Nat) : State :=
  match s.job id with
  | none => s
  | some j =>
    let p := j.part
    let e := j.engine
    let s := s.bump 0x6001 7 j.queue
    let s := if p != 0 then (s.bump 0x6020 2 (p - 1)).dropCkpt (p - 1) else s
    let s := if j.cancelling then s.endJob id 2 0 else s.endJob id 1 ecode
    if s.resetting p then s.settle
    else
      let left := (List.range 48).filter fun k =>
        s.enginePart k = p && !s.outOfService k && s.obj 0x4000 1 k != 3 && s.lead k = k
      let r : PartReset := { part := p, engine := e, left := left, aborted := 0 }
      let s := { s with sched := { s.sched with resets := s.sched.resets ++ [r] } }
      let s := s.bump 0x6011 4
      let s := if p != 0 then s.bump 0x6020 3 (p - 1) else s
      let s := s.recLog s.nowNs 0x04 e p 0 j.queue 0 0
      (s.nextInReset r).settle

/-! ## The steps of a dike (R385, R389, R363) -/

/-- A dike sequence ends: in a partition reset the next polder follows. -/
def State.dikeGone (s : State) (e : Nat) (d : Dike) : State :=
  let s := s.modEngine e fun v => { v with dike := none }
  if d.inReset || s.sched.resets.any (fun r => r.left.head? = some e) then s.advanceReset e else s

/-- The scrub is done: out of service under a final sequence, the test under causes 0x02 and 0x04, else ready to open. -/
def State.dikeScrubbed (s : State) (e : Nat) (d : Dike) : State :=
  let s := (s.unitOf e).foldl (fun s k => s.scrubStore k) s
  if d.final then
    let s := s.dikeGone e d
    s.goOut e 6
  else if d.cause = 2 || d.cause = 4 then s.modEngine e fun v => { v with dike := some { d with step := 7 } }
  else s.modEngine e fun v => { v with dike := some { d with step := 6 } }

/-- The dike opens (R385 step 6). -/
def State.dikeOpened (s : State) (e : Nat) (d : Dike) : State :=
  (s.dikeGone e d).recLog s.nowNs 0x02 e (s.enginePart e) d.cause 0xFFFF 0 0

/-- A twin signature mismatch (R363): the job completes ABORTED_FENCE (or CANCELLED where its cancel is in progress), EMCY
0x5040, and the pair's dike closes with cause 0x02. -/
def State.twinMismatch (s : State) (e : Nat) (job : Option Job) : State :=
  let e := e / 2 * 2
  let s := (s.bump 0x5020 3).setObj 0x5020 4 e
  let s := s.raise 0x5040 e (e + 1)
  let jobs := job.toList
  ((s.abortJobs jobs true).closeDike e 0x02 (job.elim 0xFFFF (·.queue)) true false (abortedOf jobs)).settle

/-! ## The watchdog (R378 to R380) -/

/-- Whether the watchdog runs in the state in force (R379). -/
def State.watchdogRuns (s : State) : Bool :=
  match s.pw.mode with
  | .drive => true
  | .bench => s.objBit 0x5100 4 1
  | .depot => s.objBit 0x5100 4 2
  | _ => false

/-- The watchdog arms at the entry of a state in which it runs (R379). -/
def State.watchdogArm (s : State) : State :=
  { s with recov := { s.recov with
    watchdog := if s.watchdogRuns then some (s.now + 1000 * s.obj 0x5100 3) else none
    kickAt := s.now } }

/-- A write of the armed states (R379): [0] reads 1, and where the watchdog no longer runs it stops. -/
def State.watchdogWritten (s : State) (v : Nat) : State :=
  let s := s.setObj 0x5100 4 (v ||| 1)
  if s.watchdogRuns then s else { s with recov := { s.recov with watchdog := none } }

/-- A kick (R378): the interval is kept for 0x5100:08; a kick at the edge of the expiry prevails and is a near-miss
(R397). -/
def State.kick (s : State) : State :=
  let ms := (s.now - s.recov.kickAt) / 1000
  let s := s.raiseMax 0x5100 8 ms
  let s := match s.recov.watchdog with
    | some t => if t ≤ s.now then s.nearMissIn 0x5100 7 else s
    | none => s
  { s with recov := { s.recov with
    kickAt := s.now
    watchdog := s.recov.watchdog.map fun _ => s.now + 1000 * s.obj 0x5100 2 } }

/-- The watchdog expires (R380). -/
def State.watchdogExpire (s : State) : State :=
  if s.recov.watchdog.isNone then s
  else
    let ms := (s.now - s.recov.kickAt) / 1000
    let s := (s.bump 0x5100 6).raise 0x6010 0xFF ms
    let s := s.recLog s.nowNs 0x07 0xFF 0xFF 0 0xFFFF 0 ms
    if s.pw.mode = .drive && s.obj 0x5100 5 = 1 then
      { s with recov := { s.recov with watchdog := none } }.classS 0x11 ms
    else
      { s with recov := { s.recov with kickAt := s.now, watchdog := some (s.now + 1000 * s.obj 0x5100 2) } }

/-! ## The deadlock detector (R381 to R383)

A node is a context's number g, or 3072 + q for a queue. -/

/-- Whether a queue is waiting: its ready head cannot start, for lack of free contexts on an engine that would serve it (R381). -/
def State.queueWaits (s : State) (q : Nat) : Bool :=
  match s.readyHead q with
  | none => false
  | some j => (s.eligible j).isEmpty && (s.effSet q).any s.placeable

/-- Queues with a ready head whose effective set has an engine. -/
def State.queuesOn (s : State) (e : Nat) : List Nat :=
  ((s.sched.jobs.filter fun j => j.phase = .pending).map (·.queue)).foldl (fun l q =>
    if (s.readyHead q).isSome && (s.effSet q).contains e then insertNat q l else l) []

/-- The edges of a waiting node; none where the node is not waiting; a halted context is no node (R381, R503). -/
def State.waitEdges (s : State) (n : Nat) : Option (List Nat) :=
  if n < 3072 then
    match if s.objBit 0x5050 3 (n / 64) then none else s.jobOf n with
    | none => none
    | some j =>
      match (s.ctxAt n).barrier with
      | some b =>
        some (((s.inUse j.engine).map fun c => j.engine * 64 + c).filter (fun g => (s.ctxAt g).barrier != some b) ++
          (s.queuesOn j.engine).map fun q => 3072 + q)
      | none =>
        if s.suspended j then
          some (((s.jobsOn j.engine).filter fun k => k.prio < j.prio).flatMap Job.harts)
        else none
  else if s.queueWaits (n - 3072) then
    some ((s.effSet (n - 3072)).flatMap fun e => (s.inUse e).map fun c => e * 64 + c)
  else none

/-- The nodes that can wait. -/
def State.waitNodes (s : State) : List Nat :=
  (s.sched.jobs.filter (·.phase = .running)).flatMap Job.harts ++
  (((s.sched.jobs.filter (·.phase = .pending)).map (·.queue)).foldl (fun l q => insertNat q l) []).map (3072 + ·)

/-- The nodes reachable from a set, or none where a node that does not wait is among them. -/
def State.waitReach (s : State) (fuel : Nat) (seen : List Nat) (todo : List Nat) : Option (List Nat) :=
  match fuel with
  | 0 => some seen
  | k + 1 =>
    match todo with
    | [] => some seen
    | n :: rest =>
      if seen.contains n then s.waitReach k seen rest
      else
        match s.waitEdges n with
        | none => none
        | some es => s.waitReach k (insertNat n seen) (es ++ rest)

/-- The wait cycles of a snapshot (R382). DEDUCED (log entry 67): the smallest closed sets of waiting nodes. -/
def State.waitCycles (s : State) : List (List Nat) :=
  let nodes := s.waitNodes
  let fuel := 3600 * 3600
  let sets := nodes.filterMap fun n => if (s.waitEdges n).isSome then s.waitReach fuel [] [n] else none
  (sets.filter fun c => sets.all fun d => !(d.all c.contains) || d.length = c.length).eraseDups

/-- A wait cycle is declared (R383). -/
def State.declareDeadlock (s : State) (cyc : List Nat) : State :=
  let ctxs := cyc.filter (· < 3072)
  let qs := (cyc.filter (3072 ≤ ·)).map (· - 3072)
  let q := match qs, ctxs with
    | q :: _, _ => q
    | [], g :: _ => (match s.jobOf g with | some j => j.queue | none => 0xFFFF)
    | [], [] => 0xFFFF
  let p0 := ctxs.any fun g => (match s.jobOf g with | some j => j.prio == 0 | none => false)
  let engines := (ctxs.map (· / 64)).foldl (fun l e => insertNat e l) []
  let s := (s.bump 0x5120 5).raise 0x6020 q ctxs.length
  let s := s.recLog s.nowNs 0x06 0xFF 0xFF 0 q 0 ctxs.length
  let s := if s.pw.mode = .drive && p0 then s.classS 0x12 ctxs.length else s
  (engines.foldl (fun s e => s.closeDike e 0x03 q true false) s).settle

/-- One scan: a cycle that the scan before found too is declared (R382). -/
def State.deadlockScan (s : State) : State :=
  let cs := s.waitCycles
  let split (c : List Nat) : List Nat × List Nat := (c.filter (· < 3072), (c.filter (3072 ≤ ·)).map (· - 3072))
  let again := cs.filter fun c => s.recov.lastScan.contains (split c)
  let s := { s with recov := { s.recov with lastScan := cs.map split } }
  again.foldl (fun s c => s.declareDeadlock c) s

end Sys2Proof.Machine
end

