-- ==== Sys2Proof/Machine/SafetyOps.lean ====
section
/-! DEFINITION. The safety controller: the SAFE_ERR pins, the alive ports, and the Keepers' reset, start, split and rejoin
(chapter 15, R350 to R360). -/

namespace Sys2Proof.Machine

open Sys2Proof

/-! ## The SAFE_ERR pins (R350, R351) -/

/-- Whether the pins may toggle: the state allows it, the toggle has started, no class-S detection waits, no rejoin runs, no Keeper core is halted (R351, R502). -/
def State.mayToggle (s : State) : Bool :=
  (s.pw.mode = .bench || s.pw.mode = .drive || s.pw.mode = .depot || s.pw.mode = .handover || s.pw.mode = .waking) &&
  s.saf.toggle && s.pw.pendSafe.isNone && s.saf.rejoinAt.isNone && s.obj 0x5050 2 = 0

/-- Drive the pins by the tick count: SAFE_ERR0_N is high while ⌊ticks ÷ 500⌋ is even, SAFE_ERR1_N is its opposite; both
are low where they may not toggle. -/
def State.drivePins (s : State) : State :=
  if s.mayToggle then
    let hi := s.clk.ticks / 500 % 2 == 0
    { s with pins := { s.pins with err0 := hi, err1 := !hi, toggling := true } }
  else { s with pins := { s.pins with err0 := false, err1 := false, toggling := false } }

/-! ## What the output balls show (R523) -/

/-- The outputs of R523. -/
inductive Ball where
  | safeErr0 | safeErr1 | hazard | wakeReq | refclkReq | can0Txd | can1Txd | tdo | avs | clkreq
  deriving DecidableEq, Repr

/-- What a ball shows with VIO present: high impedance, a level, or what its interface drives. -/
inductive BallLevel where
  | undriven | low | high | active
  deriving DecidableEq, Repr

/-- A driven level. -/
def BallLevel.of (high : Bool) : BallLevel := if high then .high else .low

/-- What an output shows (R523, R58, R517, R57). -/
def State.ball (s : State) (b : Ball) : BallLevel :=
  match b with
  | .safeErr0 => .of s.pins.err0
  | .safeErr1 => .of s.pins.err1
  | .hazard => .of s.pins.hazardN
  | .wakeReq => if s.pw.mode != .off && (s.pw.wakeReqWake || s.pw.wakeReqSameId) then .low else .undriven
  | .refclkReq => .of !s.pw.refclkReq
  | .can0Txd => if s.pw.mode = .off then .high else .active
  | .can1Txd => if s.pw.mode.awake then .active else .high
  | .tdo => if s.pw.mode.awake then .active else .undriven
  | .avs => if s.pw.mode = .off then .high else .active
  | .clkreq => if s.pw.mode.awake && s.su.pcieUp then .low else .undriven

/-! ## The alive ports (R352) -/

/-- A hand-over request is pending on a pair: a split or a rejoin waits for its acknowledgement (R352, R359). -/
def State.handoverPending (s : State) (pair : Nat) : Bool :=
  (s.saf.splitAt.isSome || (s.saf.rejoinAt.isSome && !s.saf.rejoining)) &&
  !(if pair = 0 then s.saf.ackA else s.saf.ackB)

/-- The lockstep compare is active (R356). -/
def State.lockstep (s : State) : Bool :=
  s.pw.mode.awake && s.pw.mode != .safe && !s.saf.keepersHeld && !s.keepersSplit && !s.saf.rejoining

/-- The bytes that a port shows at an offset (R352). -/
def State.portRead (s : State) (pair off n : Nat) : List Byte :=
  let st := (if s.handoverPending pair then 1 else 0) + (if s.lockstep then 2 else 0)
  let at_ (k : Nat) : Byte :=
    if k < 2 then (leBytes 2 s.saf.challenge.toNat).getD k 0
    else if 0x18 ≤ k && k < 0x1C then (leBytes 4 st).getD (k - 0x18) 0
    else 0
  (List.range n).map fun k => at_ (off + k)

/-- An alive response at a pair's port (R352, R351): the first valid one of Keeper A starts the toggle, and after a
halt the first valid one restarts it (R502). -/
def State.alive (s : State) (pair : Nat) (v : BitVec 16) : State :=
  if v != s.saf.challenge ^^^ 0xA5A5 then s.bump 0x5010 4
  else
    let near := s.saf.started && s.clk.ticks % 1000 = 0 && s.saf.checkAt != s.clk.ticks &&
      !(if pair = 0 then s.saf.aliveA else s.saf.aliveB)
    let s := if near then s.nearMissIn 0x5010 6 else s
    let s := if pair = 0 then { s with saf := { s.saf with aliveA := true } }
      else { s with saf := { s.saf with aliveB := true } }
    let begins := pair = 0 && !s.saf.started && s.pw.pendSafe.isNone &&
      (s.pw.mode != .waking || (s.su.enginesTested && s.su.keepersTested)) && s.pw.mode.awake && s.pw.mode != .safe
    if begins then { s with saf := { s.saf with started := true, toggle := true, aliveB := true, checkAt := s.clk.ticks } }.drivePins
    else if s.saf.started && s.obj 0x5050 2 = 0 then { s with saf := { s.saf with toggle := true } }
    else s

/-- A rejoin passes its acknowledgement step: all four cores are held in reset (R360 step 1). -/
def State.rejoinHold (s : State) : State :=
  { s with saf := { s.saf with rejoining := true, keepersHeld := true }, ctxs := s.ctxs.filter fun c => c.1 < 3072 }

/-- A hand-over acknowledgement at a pair's port (R359, R360); one on the edge at which its 1,000 ticks end prevails, and is a
near-miss (R211). -/
def State.handoverAcked (s : State) (pair : Nat) : State :=
  if !s.handoverPending pair then s
  else
    let s := match s.saf.splitAt.orElse fun _ => s.saf.rejoinAt with
      | some t => s.nearEdge t 1000
      | none => s
    let s := if pair = 0 then { s with saf := { s.saf with ackA := true } }
      else { s with saf := { s.saf with ackB := true } }
    if s.saf.rejoinAt.isSome && s.saf.ackA && s.saf.ackB then s.rejoinHold else s

/-- A write to a port (R352); a reserved offset takes nothing. -/
def State.portWrite (s : State) (pair off : Nat) (bs : List Byte) : State :=
  if off = 8 && bs.length = 2 then s.alive pair (BitVec.ofNat 16 (leVal bs))
  else if off = 0x10 && bs.length = 1 && leVal bs = 1 then s.handoverAcked pair
  else s

/-! ## Reset, start, split and rejoin of the Keepers -/

/-- Both pairs held in reset, paired as the wake has them (R81): their registers are gone (log entry 8). -/
def State.keepersReset (s : State) : State :=
  { s.setObj 0x2001 5 (if s.su.boot.lean then 1 else 0) with
    saf := { s.saf with keepersHeld := true, splitAt := none, rejoinAt := none, rejoining := false, ackA := false, ackB := false }
    ctxs := s.ctxs.filter fun c => c.1 < 3072
    l1 := [] }

/-- A Keeper core as it starts. -/
def coreStart (pc : Nat) : Ctx := { Ctx.zero with pc := BitVec.ofNat 64 pc }

/-- Both pairs start in lockstep with nothing in their L1 caches (R360 step 4); the alive checks begin with a new period (log
entry 15). -/
def State.keepersStart (s : State) : State :=
  let s := { s with l1 := [], saf := { s.saf with keepersHeld := false, aliveA := true, aliveB := true, rejoinAt := none, rejoining := false, ackA := false, ackB := false } }
  let s := s.setObj 0x2001 5 (if s.su.boot.lean then 1 else 0)
  (s.setCtxAt 3072 (coreStart 0xF100000000)).setCtxAt 3074 (coreStart 0xF100200000)

/-- The pairs split: cores 1 and 3 are reset and start in their halves; cores 0 and 2 go on (R359 step 3). -/
def State.splitNow (s : State) : State :=
  let s := { s with saf := { s.saf with splitAt := none, ackA := false, ackB := false } }
  let s := ((s.setObj 0x2001 5 2).setObj 0x5010 2 2).bump 0x5010 5
  (s.setCtxAt 3073 (coreStart 0xF100100000)).setCtxAt 3075 (coreStart 0xF100300000)

/-- At boot the pairs split where the boot option says so and they run (R81). DESIGN CHOICE (log entry 63): they split at once,
with no acknowledgement; 0x5010:01 then reads 1, and 0x5010:02 stays idle; where they are held in reset they do not
split. -/
def State.splitAtBoot (s : State) : State :=
  if s.su.boot.split && !s.saf.keepersHeld then
    let s := ((s.setObj 0x2001 5 2).setObj 0x5010 1 1).bump 0x5010 5
    (s.setCtxAt 3073 (coreStart 0xF100100000)).setCtxAt 3075 (coreStart 0xF100300000)
  else s

/-- A rejoin starts (R360): the pins go low, a split in progress is abandoned (R375). -/
def State.rejoinStart (s : State) : State :=
  let s := { s with saf := { s.saf with splitAt := none, rejoinAt := some s.now, rejoining := false, ackA := false, ackB := false } }
  (s.setObj 0x5010 2 1).drivePins

end Sys2Proof.Machine
end

