-- ==== Sys2Proof/Machine/Float.lean ====
section
/-! DEFINITION. Floating point as R268 chooses it: binary32, FP16 and BF16, exact inside and rounded once, to nearest with
ties to even; and the exponential and the logarithm rounded to nearest (R300, R312, R325). -/

namespace Sys2Proof.Machine

/-! ## Formats -/

/-- A format: the bits of its significand with the hidden bit, and of its exponent. -/
structure FpFmt where
  p : Nat
  w : Nat
  deriving DecidableEq, Repr

/-- FP32 (R268). -/
def fp32 : FpFmt := ⟨24, 8⟩

/-- FP16. -/
def fp16 : FpFmt := ⟨11, 5⟩

/-- BF16. -/
def bf16 : FpFmt := ⟨8, 8⟩

/-- The exponent bias. -/
def FpFmt.bias (f : FpFmt) : Nat := 2 ^ (f.w - 1) - 1

/-- The encoding of +infinity. -/
def FpFmt.inf (f : FpFmt) : Nat := (2 ^ f.w - 1) * 2 ^ (f.p - 1)

/-- The one NaN that results take: 0x7FC0_0000 in FP32 (R268). -/
def FpFmt.nan (f : FpFmt) : Nat := f.inf + 2 ^ (f.p - 2)

/-- The sign bit of an encoding. -/
def FpFmt.signBit (f : FpFmt) : Nat := 2 ^ (f.p + f.w - 1)

/-- What an encoding says: a NaN (signalling or not), an infinity, or ± m × 2^e. -/
inductive Fp where
  | nan (signals : Bool)
  | inf (neg : Bool)
  | fin (neg : Bool) (m : Nat) (e : Int)
  deriving DecidableEq, Repr

/-- Read an encoding. -/
def FpFmt.read (f : FpFmt) (v : Nat) : Fp :=
  let neg := v.testBit (f.p + f.w - 1)
  let ex := v / 2 ^ (f.p - 1) % 2 ^ f.w
  let fr := v % 2 ^ (f.p - 1)
  if ex = 2 ^ f.w - 1 then
    if fr = 0 then .inf neg else .nan (!fr.testBit (f.p - 2))
  else if ex = 0 then .fin neg fr (2 - (2 ^ (f.w - 1) : Nat) - (f.p - 1 : Nat))
  else .fin neg (fr + 2 ^ (f.p - 1)) ((ex : Int) - f.bias - (f.p - 1 : Nat))

/-! ## Rounding -/

/-- The sticky flags of FLAGS [3:1] (R268). -/
def flagInvalid : Nat := 2
/-- FLAGS [2]. -/
def flagOverflow : Nat := 4
/-- FLAGS [3]. -/
def flagUnderflow : Nat := 8

/-- Divide by 2^n, to nearest with ties to even. -/
def rneShift (m n : Nat) : Nat :=
  let q := m / 2 ^ n
  let r := m % 2 ^ n
  if 2 ^ n < 2 * r || (2 * r = 2 ^ n && q % 2 = 1) then q + 1 else q

/-- m × 2^e at a quantum of 2^q. -/
def atQuantum (m : Nat) (e q : Int) : Nat :=
  if q ≤ e then m * 2 ^ (e - q).toNat else rneShift m (q - e).toNat

/-- Round ± m × 2^e into a format, with the flags it raises. -/
def FpFmt.round (f : FpFmt) (neg : Bool) (m : Nat) (e : Int) : Nat × Nat :=
  let s := if neg then f.signBit else 0
  if m = 0 then (s, 0)
  else
    let emin : Int := 1 - (f.bias : Int)
    let top : Int := e + (Nat.log2 m : Nat)
    let q : Int := max (top - (f.p - 1 : Nat)) (emin - (f.p - 1 : Nat))
    let k := atQuantum m e q
    let inexact : Bool := decide (e < q) && m % 2 ^ (q - e).toNat != 0
    let v :=
      if k < 2 ^ (f.p - 1) then k
      else ((q - emin + (f.p - 1 : Nat) + 1).toNat) * 2 ^ (f.p - 1) + (k - 2 ^ (f.p - 1))
    let fullK := atQuantum m e (top - (f.p - 1 : Nat))
    let tinyAfter : Bool := decide (top < emin) && !(decide (top = emin - 1) && fullK = 2 ^ f.p)
    let tiny : Bool := if Config.tinyBefore then decide (top < emin) else tinyAfter
    if f.inf ≤ v then (s + f.inf, flagOverflow)
    else (s + v, if inexact && (tinyAfter || (decide (top < emin) && tiny)) then flagUnderflow else 0)

/-- Round an exact integer. -/
def FpFmt.ofInt (f : FpFmt) (v : Int) : Nat × Nat := f.round (v < 0) v.natAbs 0

/-! ## Arithmetic -/

/-- Whether an operand signals. -/
def Fp.signals : Fp → Bool
  | .nan b => b
  | _ => false

/-- Whether an operand is a NaN. -/
def Fp.isNan : Fp → Bool
  | .nan _ => true
  | _ => false

/-- A NaN result, with the invalid flag where an operand signals. -/
def nanResult (sig : Bool) : Nat × Nat := (fp32.nan, if sig then flagInvalid else 0)

/-- The invalid operation. -/
def invalidResult : Nat × Nat := (fp32.nan, flagInvalid)

/-- The exact sum of two finite values: sign, magnitude, exponent. An exact zero sum is +0 unless both are negative. -/
def exactSum (n1 : Bool) (m1 : Nat) (e1 : Int) (n2 : Bool) (m2 : Nat) (e2 : Int) : Bool × Nat × Int :=
  let e := min e1 e2
  let a : Int := (if n1 then -1 else 1) * (m1 * 2 ^ (e1 - e).toNat : Nat)
  let b : Int := (if n2 then -1 else 1) * (m2 * 2 ^ (e2 - e).toNat : Nat)
  let c := a + b
  if c = 0 then (n1 && n2, 0, e) else (decide (c < 0), c.natAbs, e)

/-- FP32 addition of read operands. -/
def fpAdd (a b : Fp) : Nat × Nat :=
  match a, b with
  | .nan s, y => nanResult (s || y.signals)
  | x, .nan s => nanResult (s || x.signals)
  | .inf s, .inf t => if s = t then (fp32.inf + (if s then fp32.signBit else 0), 0) else invalidResult
  | .inf s, _ => (fp32.inf + (if s then fp32.signBit else 0), 0)
  | _, .inf s => (fp32.inf + (if s then fp32.signBit else 0), 0)
  | .fin n1 m1 e1, .fin n2 m2 e2 =>
    let r := exactSum n1 m1 e1 n2 m2 e2
    fp32.round r.1 r.2.1 r.2.2

/-- The negative of a read operand. -/
def Fp.neg : Fp → Fp
  | .nan s => .nan s
  | .inf s => .inf !s
  | .fin s m e => .fin (!s) m e

/-- FP32 multiplication of read operands. -/
def fpMul (a b : Fp) : Nat × Nat :=
  match a, b with
  | .nan s, y => nanResult (s || y.signals)
  | x, .nan s => nanResult (s || x.signals)
  | .inf s, .inf t => (fp32.inf + (if s != t then fp32.signBit else 0), 0)
  | .inf s, .fin t m _ => if m = 0 then invalidResult else (fp32.inf + (if s != t then fp32.signBit else 0), 0)
  | .fin t m _, .inf s => if m = 0 then invalidResult else (fp32.inf + (if s != t then fp32.signBit else 0), 0)
  | .fin n1 m1 e1, .fin n2 m2 e2 => fp32.round (n1 != n2) (m1 * m2) (e1 + e2)

/-- FP32 division of read operands. -/
def fpDiv (a b : Fp) : Nat × Nat :=
  match a, b with
  | .nan s, y => nanResult (s || y.signals)
  | x, .nan s => nanResult (s || x.signals)
  | .inf _, .inf _ => invalidResult
  | .inf s, .fin t _ _ => (fp32.inf + (if s != t then fp32.signBit else 0), 0)
  | .fin s _ _, .inf t => (if s != t then fp32.signBit else 0, 0)
  | .fin n1 m1 e1, .fin n2 m2 e2 =>
    if m2 = 0 then
      if m1 = 0 then invalidResult else (fp32.inf + (if n1 != n2 then fp32.signBit else 0), 0)
    else
      let q := m1 * 2 ^ 64 / m2
      let r := m1 * 2 ^ 64 % m2
      fp32.round (n1 != n2) (2 * q + (if r = 0 then 0 else 1)) (e1 - e2 - 65)

/-- a + b × c with a single rounding (R267, VFMA). -/
def fpFma (a b c : Fp) : Nat × Nat :=
  let zeroInf : Bool := match b, c with
    | .inf _, .fin _ m _ => m == 0
    | .fin _ m _, .inf _ => m == 0
    | _, _ => false
  if a.isNan || b.isNan || c.isNan then
    nanResult (a.signals || b.signals || c.signals || (zeroInf && Config.fmaNanInvalid))
  else if zeroInf then invalidResult
  else
    match b, c with
    | .fin n1 m1 e1, .fin n2 m2 e2 =>
      (match a with
       | .fin n m e =>
         let r := exactSum n m e (n1 != n2) (m1 * m2) (e1 + e2)
         fp32.round r.1 r.2.1 r.2.2
       | .inf s => (fp32.inf + (if s then fp32.signBit else 0), 0)
       | .nan s => nanResult s)
    | _, _ =>
      let pn : Bool := (match b with | .inf s => s | .fin s _ _ => s | .nan s => s) !=
        (match c with | .inf s => s | .fin s _ _ => s | .nan s => s)
      (match a with
       | .inf s => if s = pn then (fp32.inf + (if s then fp32.signBit else 0), 0) else invalidResult
       | _ => (fp32.inf + (if pn then fp32.signBit else 0), 0))

/-- Whether a < b, of operands that are no NaN; −0 equals +0. -/
def fpLt (a b : Fp) : Bool :=
  match a, b with
  | .nan _, _ => false
  | _, .nan _ => false
  | .inf s, .inf t => s && !t
  | .inf s, .fin _ _ _ => s
  | .fin _ _ _, .inf t => !t
  | .fin n1 m1 e1, .fin n2 m2 e2 =>
    let e := min e1 e2
    let x : Int := (if n1 then -1 else 1) * (m1 * 2 ^ (e1 - e).toNat : Nat)
    let y : Int := (if n2 then -1 else 1) * (m2 * 2 ^ (e2 - e).toNat : Nat)
    x < y

/-- Whether a = b; −0 equals +0, and a NaN equals nothing. -/
def fpEq (a b : Fp) : Bool := !a.isNan && !b.isNan && !fpLt a b && !fpLt b a

/-- The sign of a read operand. -/
def Fp.isNeg : Fp → Bool
  | .nan _ => false
  | .inf s => s
  | .fin s _ _ => s

/-- Whether a is below b in the order of VFMIN and VFMAX, −0 below +0 (R268). -/
def fpBelow (a b : Fp) : Bool := fpLt a b || (fpEq a b && a.isNeg && !b.isNeg)

/-- VFADD on encodings. -/
def f32Add (a b : Nat) : Nat × Nat := fpAdd (fp32.read a) (fp32.read b)
/-- VFSUB on encodings. -/
def f32Sub (a b : Nat) : Nat × Nat := fpAdd (fp32.read a) (fp32.read b).neg
/-- VFMUL on encodings. -/
def f32Mul (a b : Nat) : Nat × Nat := fpMul (fp32.read a) (fp32.read b)
/-- Division on encodings. -/
def f32Div (a b : Nat) : Nat × Nat := fpDiv (fp32.read a) (fp32.read b)
/-- d + a × b on encodings. -/
def f32Fma (d a b : Nat) : Nat × Nat := fpFma (fp32.read d) (fp32.read a) (fp32.read b)

/-- VFMIN and VFMAX: the operand that is no NaN where one is; `pickLow` for the minimum. -/
def f32Ext (pickLow : Bool) (a b : Nat) : Nat × Nat :=
  let x := fp32.read a
  let y := fp32.read b
  let fl := if x.signals || y.signals then flagInvalid else 0
  if x.isNan && y.isNan then (fp32.nan, fl)
  else if x.isNan then (b, fl)
  else if y.isNan then (a, fl)
  else if fpBelow x y == pickLow then (a, fl)
  else if fpBelow y x == pickLow then (b, fl)
  else (a, fl)

/-- The compares: 0 equal, 1 less, 2 less or equal; every one with a NaN is false (R268). -/
def f32Cmp (k a b : Nat) : Bool × Nat :=
  let x := fp32.read a
  let y := fp32.read b
  let fl := if x.signals || y.signals || (k != 0 && (x.isNan || y.isNan) && Config.compareSignals)
    then flagInvalid else 0
  (match k with
   | 0 => (fpEq x y, fl)
   | 1 => (fpLt x y, fl)
   | _ => (fpLt x y || fpEq x y, fl))

/-! ## Conversions -/

/-- The value widened to FP32, exactly. A NaN becomes the one NaN. -/
def FpFmt.widen (f : FpFmt) (v : Nat) : Nat :=
  match f.read v with
  | .nan _ => fp32.nan
  | .inf s => fp32.inf + (if s then fp32.signBit else 0)
  | .fin s m e => (fp32.round s m e).1

/-- FP32 narrowed to a format (VCVTFH, VCVTFB); overflow gives infinity with the sign kept (R268). -/
def FpFmt.narrow (f : FpFmt) (v : Nat) : Nat × Nat :=
  match fp32.read v with
  | .nan s => (f.nan, if s then flagInvalid else 0)
  | .inf s => (f.inf + (if s then f.signBit else 0), 0)
  | .fin s m e => f.round s m e

/-- m × 2^e rounded to an integer, ties to even. -/
def fpToInt (neg : Bool) (m : Nat) (e : Int) : Int :=
  (if neg then -1 else 1) * ((if 0 ≤ e then m * 2 ^ e.toNat else rneShift m (-e).toNat : Nat) : Int)

/-- FP32 to an integer with limits: NaN gives 0, and a value beyond a limit saturates; the second part says that it did. -/
def f32ToInt (lo hi : Int) (v : Nat) : Int × Bool :=
  match fp32.read v with
  | .nan _ => (0, false)
  | .inf s => (if s then lo else hi, true)
  | .fin s m e =>
    let r := fpToInt s m e
    if r < lo then (lo, true) else if hi < r then (hi, true) else (r, false)

/-- Whether an FP32 encoding is a NaN. -/
def f32IsNan (v : Nat) : Bool := (fp32.read v).isNan

/-- Whether a value of a format is finite and greater than 0. -/
def FpFmt.isPositive (f : FpFmt) (v : Nat) : Bool :=
  match f.read v with
  | .fin s m _ => !s && m != 0
  | _ => false

/-! ## The exponential and the logarithm

Both work in fixed point with 320 fraction bits, with an error below 2^-300, and round the result once. e^x and ln x of an
FP32 value are, but for x = 0 and x = 1, no value at or midway between FP32 values, and none comes nearer to one than
2^-120 of itself, so the rounding is that of the exact value. -/

/-- Fraction bits of the fixed point. -/
def fxBits : Nat := 320

/-- The sum of 1 / (k × 2^k) for k from `k` up. -/
def ln2Sum (fuel k acc : Nat) : Nat :=
  match fuel with
  | 0 => acc
  | n + 1 => ln2Sum n (k + 1) (acc + 2 ^ fxBits / (k * 2 ^ k))

/-- ln 2 in fixed point. -/
def fxLn2 : Nat := ln2Sum 330 1 0

/-- The Taylor sum of e^r. -/
def expSum (fuel k r term acc : Nat) : Nat :=
  match fuel with
  | 0 => acc
  | n + 1 =>
    let t := term * r / 2 ^ fxBits / k
    expSum n (k + 1) r t (acc + t)

/-- E(x): the FP32 value nearest e^x, ties to even (R300, R312). -/
def f32Exp (v : Nat) : Nat :=
  match fp32.read v with
  | .nan _ => fp32.nan
  | .inf s => if s then 0 else fp32.inf
  | .fin s m e =>
    if m = 0 then 0x3F800000
    else if 7 < e + (Nat.log2 m : Nat) then (if s then 0 else fp32.inf)
    else
      let x : Int := (if s then -1 else 1) * ((m * 2 ^ (e + fxBits).toNat : Nat) : Int)
      let n : Int := x / (fxLn2 : Int)
      let r : Nat := (x - n * fxLn2).toNat
      let y := expSum 90 1 r (2 ^ fxBits) (2 ^ fxBits)
      (fp32.round false (2 * y + 1) (n - fxBits - 1)).1

/-- The sum of z^(2i+1) / (2i+1). -/
def atanhSum (fuel k z2 pow acc : Nat) : Nat :=
  match fuel with
  | 0 => acc
  | n + 1 => atanhSum n (k + 2) z2 (pow * z2 / 2 ^ fxBits) (acc + pow / k)

/-- L(y): the FP32 value nearest ln y, ties to even (R325). ln of a value that is not above 0 is not asked for by the
manual; it is taken as IEEE 754 has it: −inf for 0, NaN below. -/
def f32Ln (v : Nat) : Nat :=
  match fp32.read v with
  | .nan _ => fp32.nan
  | .inf s => if s then fp32.nan else fp32.inf
  | .fin s m e =>
    if m = 0 then fp32.inf + fp32.signBit
    else if s then fp32.nan
    else
      let l := Nat.log2 m
      let f := m * 2 ^ (fxBits - l)
      let z := (f - 2 ^ fxBits) * 2 ^ fxBits / (f + 2 ^ fxBits)
      let lnf := 2 * atanhSum 105 1 (z * z / 2 ^ fxBits) z 0
      let k : Int := e + (l : Nat)
      let r : Int := k * fxLn2 + lnf
      if m = 2 ^ l && k = 0 then 0
      else (fp32.round (r < 0) (2 * r.natAbs + 1) (-(fxBits : Int) - 1)).1

end Sys2Proof.Machine
end

