-- ==== Sys2Proof/Machine/Units.lean ====
section
/-! DEFINITION. The Recurrence, Random and Sampling Units: ports, requests, the state table, Mix-4, the recurrence steps and
token sampling (chapter 13, R308 to R327). -/

namespace Sys2Proof.Machine

open Sys2Proof

/-! ## Mix-4 (R319) -/

/-- Left rotation of a 32-bit word. -/
def rotl32 (w n : Nat) : Nat := (w * 2 ^ n + w / 2 ^ (32 - n)) % 2 ^ 32

/-- One round of Mix-4 on w0 to w3 with key word k[i % 4]. -/
def mixRound (i k : Nat) (w : Nat × Nat × Nat × Nat) : Nat × Nat × Nat × Nat :=
  let (w0, w1, w2, w3) := w
  let w0 := (w0 + w1) % 2 ^ 32
  let w3 := rotl32 (w3 ^^^ w0) 16
  let w2 := (w2 + w3) % 2 ^ 32
  let w1 := rotl32 (w1 ^^^ w2) 12
  let w0 := (w0 + w1 + k) % 2 ^ 32
  let w3 := rotl32 (w3 ^^^ w0) 8
  let w2 := (w2 + w3 + 0xA7C35B1D * (i + 1)) % 2 ^ 32
  let w1 := rotl32 (w1 ^^^ w2) 7
  (w0, w1, w2, w3)

/-- Mix-4 over a key, a stream and a position: w0 to w3. -/
def mix4 (key : List Nat) (strm pos : Nat) : List Nat :=
  let k (i : Nat) : Nat := key.getD i 0
  let w := (List.range 10).foldl (fun w i => mixRound i (k (i % 4)) w)
    (pos % 2 ^ 32, pos / 2 ^ 32 % 2 ^ 32, strm % 2 ^ 32, 0x5C3A96E1)
  [(w.1 + k 0) % 2 ^ 32, (w.2.1 + k 1) % 2 ^ 32, (w.2.2.1 + k 2) % 2 ^ 32, (w.2.2.2 + k 3) % 2 ^ 32]

/-- The uniform value of a word as REAL32, rounded toward zero (R319). -/
def uniform32 (w : Nat) : Nat :=
  let m := 2 * (w / 256 % 2 ^ 24) + 1
  let m := if 2 ^ 24 ≤ m then m / 2 * 2 else m
  (fp32.round false m (-25)).1

/-! ## Windows and ports (R308, R309, R314, R320) -/

/-- The kind of fault of an access to a window, 0 for none. -/
def State.unitKind (s : State) (h : Hart) (u off n : Nat) (write : Bool) : Nat :=
  let host : Bool := s.whoPart (.hart h) == 0
  let o := off % 0x400
  if u = 0 then (if !host then 3 else if write then 2 else 0)
  else if u = 1 && 0x380000 ≤ off && off < 0x390000 then (if host then 0 else 3)
  else if off / 0x400 != hartKey h || 0x301000 ≤ off then 3
  else if u = 3 then
    if o + n ≤ 0x14 || (0x18 ≤ o && o + n ≤ 0x20) then 0
    else if 0x20 ≤ o && o + n ≤ 0x30 && !write then 0
    else 2
  else if o = 0 && n = 8 then (if write then 0 else 2)
  else if 8 ≤ o && o + n ≤ 0x10 then 0
  else if 0x10 ≤ o && o + n ≤ 0x18 then (if write then 2 else 0)
  else 2

/-- The requests outstanding on a port (R309). -/
def State.outstanding (s : State) (u port : Nat) : Nat :=
  ((if u = 1 then s.recReqs else s.smpReqs).filter fun r => r.port = port).length

/-- Mix-4 over a port's inputs (R320). -/
def State.portMix (s : State) (port : Nat) : List Nat :=
  let b := unitWindow 3 + port * 0x400
  mix4 ((List.range 4).map fun i => s.memNat (b + 4 * i) 4) (s.memNat (b + 0x10) 4) (s.memNat (b + 0x18) 8)

/-- A load from a window that may be made: the bytes, and the state, in which a Mix-4 load has counted (R320). -/
def State.unitLoad (s : State) (u off n : Nat) : List Byte × State :=
  let o := off % 0x400
  let port := off / 0x400
  if u = 3 && 0x20 ≤ o then
    (slice ((s.portMix port).flatMap (leBytes 4)) (o - 0x20) n, s.bump 0x4812 1)
  else if (u = 1 || u = 2) && 0x10 ≤ o && off < 0x380000 then
    (slice (leBytes 8 (s.outstanding u port)) (o - 0x10) n, s)
  else (s.memBytes (unitWindow u + off) n, s)

/-! ## The state table (R314) -/

/-- Whether a slot's words are valid fields of a valid slot. -/
def State.slotFits (s : State) (w0 w1 : Nat) : Bool :=
  let ptr := w0 % 2 ^ 48
  let d := w1 % 2 ^ 13
  let kind := w1 / 2 ^ 16 % 256
  w0 / 2 ^ 52 = 0 && w0 / 2 ^ 50 % 4 != 0 && s.hostRegion ≤ ptr && ptr < cellarEnd && ptr % 64 = 0 &&
  w1 / 2 ^ 13 % 8 = 0 && w1 / 2 ^ 40 = 0 && 1 ≤ d && d ≤ 4096 && kind ≤ 2 && (kind != 1 || w1 / 2 ^ 24 % 2 ^ 16 < 96)

/-- Whether the state slot that holds an address fits, if it is valid. -/
def State.slotOk (s : State) (a : Nat) : Bool :=
  let base := a / 16 * 16
  !bit (s.memNat base 8) 48 || s.slotFits (s.memNat base 8) (s.memNat (base + 8) 8)

/-- Valid slots, 0x4810:01. -/
def State.validSlots (s : State) : Nat :=
  ((List.range 4096).filter fun n => bit (s.memNat (slotAddr n) 8) 48).length

/-- Set the reset flag of every valid slot that a predicate on its second word takes (R316). -/
def State.flagSlots (s : State) (p : Nat → Bool) : State :=
  (List.range 4096).foldl (fun s n =>
    if bit (s.memNat (slotAddr n) 8) 48 && p (s.memNat (slotAddr n + 8) 8) then s.flagSlot n else s) s

/-- The slots of a stream (R316). -/
def State.flagStream (s : State) (strm : Nat) : State :=
  s.flagSlots fun w => w / 2 ^ 16 % 256 = 1 && w / 2 ^ 24 % 2 ^ 16 = strm

/-! ## A request's accesses (R311) -/

/-- The cells that an access of a unit or of the MAC array reaches, or the kind of its fault. A power-gated polder serves
it as it wakes (R62, `wakeReach`); a place that holds no cells answers kind 0x03 (log entry 11). -/
def State.cellsOf (s : State) (w : Who) (acc : Acs) (a : Nat) : Nat ⊕ (Nat × Option Nat) :=
  match s.place w acc a with
  | .inl k => .inl k
  | .inr (.cells pa m) => .inr (pa, m)
  | .inr (.gated _ pa m) => .inr (pa, m)
  | .inr _ => .inl 3

/-- Up to 8 bytes at a device virtual address for a requester, or the kind and address of the fault; a poisoned word is kind
0x06 (R250). -/
def State.wordBy (s : State) (w : Who) (a m : Nat) : (Nat × Nat) ⊕ List Byte :=
  match s.cellsOf w .read a with
  | .inr (pa, _) => if s.poisoned pa m then .inl (6, a) else .inr (s.memBytes pa m)
  | .inl kd => .inl (kd, a)

/-- The bytes at a device virtual address for a requester, in 8-byte steps, or the kind and address of the first fault. -/
def State.fetchBy (s : State) (w : Who) (a n : Nat) : (Nat × Nat) ⊕ List Byte :=
  (List.range ((n + 7) / 8)).foldl (fun acc k =>
    match acc with
    | .inl f => .inl f
    | .inr bs =>
      match s.wordBy w (a + 8 * k) (min 8 (n - 8 * k)) with
      | .inr b => .inr (bs ++ b)
      | .inl f => .inl f) (.inr [])

/-- The bytes of a span of which the requester may reach only a part: the rest is not accessed, and stands as 0. -/
def State.spanBy (s : State) (w : Who) (a n : Nat) : List Byte :=
  (List.range ((n + 7) / 8)).flatMap fun k =>
    let m := min 8 (n - 8 * k)
    ((s.wordBy w (a + 8 * k) m).getRight?).getD (zeros m)

/-- Store bytes at a device virtual address for a requester, in 8-byte steps, up to the first fault, whose kind and address
come back. -/
def State.putBy (s : State) (w : Who) (a : Nat) (bs : List Byte) : Option (Nat × Nat) × State :=
  (List.range ((bs.length + 7) / 8)).foldl (fun acc k =>
    match acc.1 with
    | some _ => acc
    | none =>
      match acc.2.cellsOf w .write (a + 8 * k) with
      | .inr (pa, m) => (none, acc.2.cellsWrite pa m (slice bs (8 * k) 8))
      | .inl kd => (some (kd, a + 8 * k), acc.2)) (none, s)

/-- The bytes at a device virtual address for a requester, none on a fault or a poisoned word. -/
def State.readBy (s : State) (w : Who) (a n : Nat) : Option (List Byte) := (s.fetchBy w a n).getRight?

/-- Store bytes at a device virtual address for a requester, none on a fault. -/
def State.writeBy (s : State) (w : Who) (a : Nat) (bs : List Byte) : Option State :=
  let r := s.putBy w a bs
  if r.1.isSome then none else some r.2

/-- The hart of a port number. -/
def portHart (port : Nat) : Hart :=
  if h : port < 3072 then .ctx ⟨port, h⟩ else .keeper ⟨(port - 3072) % 4, Nat.mod_lt _ (by decide)⟩

/-- The requester of a request: its hart's accesses. -/
def UnitReq.who (r : UnitReq) : Who := .hart (portHart r.port)

/-- The power-gated polders among those whose store rooms the range [a, a+n) touches wake for an access of a requester (R62,
R253). -/
def State.wakeReach (s : State) (w : Who) (a n : Nat) : State :=
  (List.range 48).foldl (fun s e =>
    if storeRoom e < a + n && a < storeRoom e + 0x1C0000 then
      match s.place w .read (max a (storeRoom e)) with
      | .inr (.gated e _ _) => s.wakeEngine e
      | _ => s
    else s) s

/-- A completion record's bytes (R310). -/
def unitRecord (tag status unit m token z u : Nat) : List Byte :=
  leBytes 8 tag ++ leBytes 1 status ++ leBytes 1 unit ++ leBytes 2 m ++ leBytes 4 token ++ leBytes 4 z ++ leBytes 4 u ++
  zeros 8

/-- The completion address of a descriptor: bytes [31:26] for the Recurrence Unit, [35:30] for the Sampling Unit. -/
def completionAddr (u : Nat) (d : List Byte) : Nat := if u = 1 then field d 26 6 else field d 30 6

/-- Write a completion record; where its address cannot take it, none is written (log entry 11). -/
def State.complete (s : State) (u : Nat) (r : UnitReq) (rec : List Byte) : State :=
  let a := completionAddr u r.desc
  if r.desc.isEmpty || a % 32 != 0 then s else ((s.wakeReach r.who a 32).writeBy r.who a rec).getD s

/-- A trigger on a port (R309): the descriptor and the tag are read at once; a fifth request is not served. -/
def State.trigger (s : State) (u : Nat) (h : Hart) (desc : Nat) : State :=
  let port := hartKey h
  let s := s.wakeReach (.hart h) desc 64
  let d := if desc % 64 = 0 && (desc < cellarEnd || (storeOf desc).any (fun p => s.lead p.1 = s.lead (whoEngine (.hart h))))
    then (s.readBy (.hart h) desc 64).getD [] else []
  let ok : Bool :=
    if u = 1 then
      (if field d 1 1 = 0 then s.pw.mode = .drive || s.pw.mode = .bench else s.pw.mode = .depot || s.pw.mode = .bench)
    else s.pw.mode = .depot || s.pw.mode = .bench
  let first : Bool := match h with
    | .keeper _ => true
    | .ctx g => (s.jobOf g.val).any fun j => j.prio ≤ 1
  let r : UnitReq :=
    { port := port, part := s.whoPart (.hart h), first := first, tag := s.memNat (unitWindow u + port * 0x400 + 8) 8,
      desc := d, early := if d.isEmpty then 2 else if !ok then 4 else 0, engine := portEngine port,
      job := (s.jobOf (hartKey h)).map (·.id), run := none, kept := false }
  if 4 ≤ s.outstanding u port then
    (s.complete u r (unitRecord r.tag 3 (u + 1) 0 0 0 0)).bump (0x480F + u) 5
  else if u = 1 then { s with recReqs := s.recReqs ++ [r] }.recStart
  else { s with smpReqs := s.smpReqs ++ [r] }.smpStart

/-! ## The Recurrence Unit (R312 to R317) -/

/-- FP32 operations without their flags. -/
def fadd (a b : Nat) : Nat := (f32Add a b).1
/-- FP32 subtraction. -/
def fsub (a b : Nat) : Nat := (f32Sub a b).1
/-- FP32 multiplication. -/
def fmul (a b : Nat) : Nat := (f32Mul a b).1
/-- FP32 division. -/
def fdiv (a b : Nat) : Nat := (f32Div a b).1
/-- FP32 1. -/
def fone : Nat := 0x3F800000
/-- FP32 2. -/
def ftwo : Nat := 0x40000000
/-- The negative of an encoding. -/
def fneg (v : Nat) : Nat := v ^^^ 0x80000000

/-- σ(x) = 1 ÷ (1 + E(−x)). -/
def fsigma (x : Nat) : Nat := fdiv fone (fadd fone (f32Exp (fneg x)))

/-- tanh(x) = 2 × σ(2x) − 1. -/
def ftanh (x : Nat) : Nat := fsub (fmul ftwo (fsigma (fmul ftwo x))) fone

/-- Inputs of an op per element, and state values per element. -/
def recInputs (op : Nat) : Nat := if op = 2 then 4 else 2
/-- State arrays of an op: two for LSTM. -/
def recStates (op : Nat) : Nat := if op = 2 then 2 else 1

/-- One element's update: the new state values, h′ last. -/
def recUpdate (op : Nat) (x st : List Nat) : List Nat :=
  let i (k : Nat) : Nat := x.getD k 0
  match op with
  | 1 => [fadd (fmul (i 0) (st.getD 0 0)) (i 1)]
  | 2 =>
    let c := fadd (fmul (fsigma (i 1)) (st.getD 0 0)) (fmul (fsigma (i 0)) (ftanh (i 2)))
    [c, fmul (fsigma (i 3)) (ftanh c)]
  | _ =>
    let z := fsigma (i 0)
    [fadd (fmul (fsub fone z) (ftanh (i 1))) (fmul z (st.getD 0 0))]

/-- FP32 value number k of a row. -/
def fpAt (b : List Byte) (k : Nat) : Nat := field b (4 * k) 4

/-- One row: the output's bytes and the new state's bytes, each padded to 64 bytes. -/
def recRow (op d : Nat) (inp st : List Byte) : List Byte × List Byte :=
  let rows := (List.range d).map fun e =>
    recUpdate op ((List.range (recInputs op)).map fun k => fpAt inp (k * d + e))
      ((List.range (recStates op)).map fun k => fpAt st (k * d + e))
  let col (k : Nat) : List Byte := rows.flatMap fun r => leBytes 4 (r.getD k 0)
  let out := col (recStates op - 1)
  let new := (List.range (recStates op)).flatMap col
  (padTo (roundUp (4 * d) 64) out, padTo (roundUp (4 * d * recStates op) 64) new)

/-- Run a valid step that has started, to its end: its status and the state (R315, R317, R327). -/
def State.runStep (s : State) (r : UnitReq) : Nat × State :=
  let d := r.desc
  let op := field d 0 1
  let slot := r.onSlot
  let n := r.slot
  let w := field d 4 2
  let rows := if slot then 1 else n
  let inSz := roundUp (4 * w * recInputs op) 64
  let outSz := roundUp (4 * w) 64
  let stSz := roundUp (4 * w * recStates op) 64
  let s := ((s.wakeReach r.who (field d 8 6) (rows * inSz)).wakeReach r.who (field d 14 6) (rows * outSz))
  let ptr := if slot then (r.run.getD (0, 0)).1 % 2 ^ 48 else field d 20 6
  let results := (List.range rows).map fun k =>
    match s.readBy r.who (field d 8 6 + k * inSz) inSz,
          (if r.zeroRow k then some (zeros stSz) else s.readBy r.who (ptr + k * stSz) stSz) with
    | some i, some st => some (recRow op w i st)
    | _, _ => none
  if results.any (·.isNone) then (2, s)
  else
    let out := results.flatMap fun x => (x.map (·.1)).getD []
    let new := results.flatMap fun x => (x.map (·.2)).getD []
    match s.writeBy r.who (field d 14 6) (out.take (rows * outSz)) with
    | none => (2, s)
    | some t =>
      match t.writeBy r.who ptr new with
      | none => (2, if slot then t.flagSlot n else t)
      | some t =>
        let t := t.bump (0x4810) 2
        (0, if slot && !r.kept then t.memWrite (slotAddr n) (leBytes 8 (clearBit (t.memNat (slotAddr n) 8) 49)) else t)

/-- The step that the Recurrence Unit runs finishes (R310), and the next one starts. -/
def State.stepDone (s : State) : State :=
  let s := s.recStart
  match nextReq s.recReqs with
  | none => s
  | some (r, rest) =>
    let s := { s with recReqs := rest }
    let res := if r.early != 0 then (r.early, s) else s.runStep r
    let s := if res.1 = 0 then res.2 else res.2.bump 0x4810 6
    (s.complete 1 r (unitRecord r.tag res.1 2 0 0 0 0)).recStart

/-! ## The Sampling Unit (R322 to R325) -/

/-- Whether a sampling descriptor keeps the rules of R322. -/
def samplingValid (d : List Byte) : Bool :=
  let mode := field d 0 1
  let v := field d 4 4
  let sz := if field d 1 1 = 0 then 4 else 2
  (mode = 1 || mode = 2) && field d 1 1 ≤ 2 && 1 ≤ v && v ≤ 262144 && fp16.isPositive (field d 8 2) &&
  (if mode = 1 then 1 ≤ field d 2 2 && field d 2 2 ≤ 1024 else field d 2 2 = 0 && field d 10 2 = 0) &&
  field d 24 6 % sz = 0 && field d 30 6 % 32 = 0 && field d 36 4 = 0 && field d 56 8 = 0

/-- FP32 −infinity. -/
def fNegInf : Nat := 0xFF800000

/-- A logit widened to FP32; a NaN becomes −inf (R323). -/
def logit32 (ty v : Nat) : Nat × Bool :=
  let x := if ty = 0 then v else if ty = 1 then fp16.widen v else bf16.widen v
  if f32IsNan x then (fNegInf, true) else (x, false)

/-- a > b on FP32 encodings. -/
def fgt (a b : Nat) : Bool := fpLt (fp32.read b) (fp32.read a)

/-- Insert into a list ordered by z from highest, ties to the lower index (R324). -/
def insertZ (e : Nat × Nat) (l : List (Nat × Nat)) : List (Nat × Nat) :=
  match l with
  | [] => [e]
  | h :: t => if fgt e.2 h.2 then e :: h :: t else h :: insertZ e t

/-- The k largest of a list of (index, z). -/
def topK (k : Nat) (zs : List (Nat × Nat)) : List (Nat × Nat) :=
  zs.foldl (fun l e => (insertZ e l).take k) []

/-- Running sums in candidate order (R324 step 2). -/
def cumulate (acc : Nat) (l : List Nat) : List Nat :=
  match l with
  | [] => []
  | e :: t => fadd acc e :: cumulate (fadd acc e) t

/-- cum × p × 2^-16, rounded once. -/
def scaleTopP (cum p : Nat) : Nat :=
  match fp32.read cum with
  | .fin n m e => (fp32.round n (m * p) (e - 16)).1
  | _ => cum

/-- A sampling result: candidates kept, token, z, u, whether top-p truncated. -/
structure Sample where
  m : Nat
  token : Nat
  z : Nat
  u : Nat
  truncated : Bool
  deriving DecidableEq, Repr

/-- Filter mode on scaled logits (R324, R327). -/
def sampleFilter (zs : List (Nat × Nat)) (k p : Nat) (key : List Nat) (strm pos : Nat) : Sample :=
  let c := topK k zs
  let z0 := (c.getD 0 (0, 0)).2
  let es := (c.zip (List.range c.length)).map fun x =>
    let t := fsub x.1.2 z0
    if x.2 = 0 then fone else if f32IsNan t then 0 else f32Exp t
  let cum := cumulate 0 es
  let total := cum.getLastD 0
  let tp := scaleTopP total p
  let m := if p = 0 then c.length
    else match cum.findIdx? fun v => !fgt tp v with
      | some j => j + 1
      | none => c.length
  let u := uniform32 ((mix4 key strm pos).getD 0 0)
  let t := fmul u (cum.getD (m - 1) 0)
  let j := match (cum.take m).findIdx? fun v => fgt v t with
    | some j => j
    | none => m - 1
  { m := m, token := (c.getD j (0, 0)).1, z := (c.getD j (0, 0)).2, u := u, truncated := m < c.length }

/-- Gumbel-max mode (R325). -/
def sampleGumbel (zs : List (Nat × Nat)) (key : List Nat) (strm pos : Nat) : Sample :=
  let g (e : Nat × Nat) : Nat :=
    let w := (mix4 key strm ((pos + e.1 / 4) % 2 ^ 64)).getD (e.1 % 4) 0
    fadd e.2 (fneg (f32Ln (fneg (f32Ln (uniform32 w)))))
  let best := zs.foldl (fun (b : Option (Nat × Nat × Nat)) e =>
    match b with
    | none => some (e.1, e.2, g e)
    | some x => if fgt (g e) x.2.2 then some (e.1, e.2, g e) else some x) none
  match best with
  | some x => { m := 0, token := x.1, z := x.2.1, u := 0, truncated := false }
  | none => { m := 0, token := 0, z := 0, u := 0, truncated := false }

/-- Run a valid request: its status, its result and the state. -/
def State.runSample (s : State) (r : UnitReq) : Nat × Sample × State :=
  let d := r.desc
  let ty := field d 1 1
  let v := field d 4 4
  let sz := if ty = 0 then 4 else 2
  let key := (List.range 4).map fun i => field d (40 + 4 * i) 4
  let none_ : Sample := { m := 0, token := 0, z := 0, u := 0, truncated := false }
  let s := s.wakeReach r.who (field d 24 6) (v * sz)
  match s.readBy r.who (field d 24 6) (v * sz) with
  | none => (2, none_, s)
  | some b =>
    let raw := (List.range v).map fun i => logit32 ty (field b (i * sz) sz)
    let s := s.bump 0x4811 4 0 (raw.filter (·.2)).length
    let rt := fp16.widen (field d 8 2)
    let zs := (raw.zip (List.range v)).map fun x => (x.2, fmul x.1.1 rt)
    if field d 0 1 = 1 then
      let x := sampleFilter zs (min (field d 2 2) v) (field d 10 2) key (field d 12 4) (field d 16 8)
      let s := s.bump 0x4811 1
      (0, x, if x.truncated then s.bump 0x4811 3 else s)
    else (0, sampleGumbel zs key (field d 12 4) (field d 16 8), s.bump 0x4811 2)

/-- The request that the Sampling Unit serves finishes (R310), and the next one starts. -/
def State.sampleDone (s : State) : State :=
  let s := s.smpStart
  match nextReq s.smpReqs with
  | none => s
  | some (r, rest) =>
    let s := { s with smpReqs := rest }
    if r.early != 0 || !samplingValid r.desc then
      let st := if r.early != 0 then r.early else 1
      ((s.bump 0x4811 6).complete 2 r (unitRecord r.tag st 3 0 0 0 0)).smpStart
    else
      let x := s.runSample r
      let s := if x.1 = 0 then x.2.2 else x.2.2.bump 0x4811 6
      (s.complete 2 r (unitRecord r.tag x.1 3 x.2.1.m x.2.1.token x.2.1.z x.2.1.u)).smpStart

end Sys2Proof.Machine
end

