-- ==== Sys2Proof/Machine/IngressOps.lean ====
section
/-! DEFINITION. Sensor ingress: enabling and disabling streams, lines into sluices, strips, the spillway, liveness; the jobs
the Strip Sequencer forms, and their withdrawal (chapters 6 and 9). -/

namespace Sys2Proof.Machine

open Sys2Proof

/-! ## Ports and states (R146) -/

/-- Ports run where ICLK does. -/
def State.portsRun (s : State) : Bool := s.clk.tbRun && s.pw.mode.awake

/-- Sluices cut strips in BENCH and DRIVE alone. -/
def State.sluicing (s : State) : Bool := (s.pw.mode = .bench || s.pw.mode = .drive) && s.clk.tbRun

/-- The enabled stream bound to a port, channel and, for a camera, data type (R148, R155, R156). -/
def State.bound (s : State) (pt port ch dt : Nat) : Option Sluice :=
  s.seq.sluices.find? fun q =>
    q.on && s.obj 0x3000 2 q.stream = pt && s.obj 0x3000 3 q.stream = port && s.obj 0x3000 4 q.stream = ch &&
    (pt != 1 || s.obj 0x3000 5 q.stream = dt)

/-- Count a discarded line. -/
def State.discardLine (s : State) (strm : Nat) : State := s.bump 0x3003 0x0A strm

/-- Count a packet or word as unattributed at a port of 0x3105. -/
def State.unattributed (s : State) (sub : Nat) : State := s.bump 0x3105 sub

/-! ## Lines (R148, R158 to R160, R180, R182) -/

/-- Cut bytes into groups of n. -/
def groups (n : Nat) (l : List Byte) : List (List Byte) := (List.range (l.length / n)).map fun k => slice l (n * k) n

/-- The stored form of a camera line (R148): 10 to 16 bit pixels right-aligned in two bytes. PRESUMED (log entry 18): the
packing of MIPI CSI-2. -/
def unpackLine (dt : Nat) (p : List Byte) : List Byte :=
  let b (g : List Byte) (k : Nat) : Nat := (g.getD k 0).toNat
  if dt = 0x2B then
    (groups 5 p).flatMap fun g => (List.range 4).flatMap fun k => leBytes 2 (b g k * 4 + bits (b g 4) (2 * k) 2)
  else if dt = 0x2C then
    (groups 3 p).flatMap fun g => (List.range 2).flatMap fun k => leBytes 2 (b g k * 16 + bits (b g 2) (4 * k) 4)
  else if dt = 0x2D then
    (groups 7 p).flatMap fun g => (List.range 4).flatMap fun k => leBytes 2 (b g k * 64 + bits (field g 4 3) (6 * k) 6)
  else if dt = 0x2E then
    (groups 2 p).flatMap fun g => leBytes 2 (b g 0 * 256 + b g 1)
  else p

/-- The components of a stored camera pixel, as places and bytes in it (R148): three of RGB888, chroma and luma of YUV422, else one. -/
def components (dt bs : Nat) : List (Nat × Nat) :=
  if dt = 0x24 then [(0, 1), (1, 1), (2, 1)] else if dt = 0x1E then [(0, 1), (1, 1)] else [(0, bs)]

/-- Whether a component is the chroma that a pixel of YUV422 shares with its neighbour. -/
def isChroma (dt off : Nat) : Bool := dt = 0x1E && off = 0

/-- A component of one pixel of a line. -/
def componentOf (bs : Nat) (line : List Byte) (x : Nat) (c : Nat × Nat) : Nat := field line (x * bs + c.1) c.2

/-- The source point of an output point (R180), over the divisor 16 × G²: the point plus the displacement interpolated bilinearly
between the four nodes around it. -/
def sourcePoint (q : Sluice) (width lines x y : Nat) : Int × Int :=
  let g := q.grid
  let cols := (lutNodes width lines g).1
  let node (i j sub : Nat) : Int := toSigned 16 (field q.lut (4 * (j * cols + i) + sub) 2)
  let i := x / g
  let j := y / g
  let fx := x % g
  let fy := y % g
  let disp (sub : Nat) : Int :=
    node i j sub * (((g - fx) * (g - fy) : Nat) : Int) + node (i + 1) j sub * ((fx * (g - fy) : Nat) : Int) +
    node i (j + 1) sub * (((g - fx) * fy : Nat) : Int) + node (i + 1) (j + 1) sub * ((fx * fy : Nat) : Int)
  let d : Int := 16 * g * g
  (x * d + disp 0, y * d + disp 2)

/-- One component of a rectified pixel (R160): bilinear between the four input pixels around the source point, of which those of no
weight do not matter. `recent` holds the input lines y, y-1, … . The free value of log entry 3 decides the rounding, stands where a
pixel that matters lies outside the frame, and for chroma off a pixel of its own kind. -/
def rectComponent (q : Sluice) (width lines bs dt y : Nat) (recent : List (List Byte)) (x : Nat) (c : Nat × Nat) : Nat :=
  let free := Config.rectified q.stream y x c.1
  let d : Int := 16 * q.grid * q.grid
  let p := sourcePoint q width lines x y
  let near : List (Int × Int × Int) := [(0, 0, (d - p.1 % d) * (d - p.2 % d)), (1, 0, p.1 % d * (d - p.2 % d)),
    (0, 1, (d - p.1 % d) * (p.2 % d)), (1, 1, p.1 % d * (p.2 % d))]
  let near := (near.filter fun k => k.2.2 != 0).map fun k => (p.1 / d + k.1, p.2 / d + k.2.1, k.2.2)
  if near.any (fun k => k.1 < 0 || (width : Int) ≤ k.1 || k.2.1 < 0 || (y : Int) < k.2.1 ||
      (isChroma dt c.1 && (near.length != 1 || (k.1 - x) % 2 != 0))) then free % 2 ^ (8 * c.2)
  else
    let sum : Int := near.foldl (fun n k =>
      n + k.2.2 * componentOf bs (recent.getD (y - k.2.1.toNat) []) k.1.toNat c) 0
    (sum / (d * d)).toNat + (if sum % (d * d) = 0 then 0 else free % 2)

/-- A rectified pixel. -/
def rectPixel (q : Sluice) (width lines bs dt y : Nat) (recent : List (List Byte)) (x : Nat) : List Byte :=
  (components dt bs).flatMap fun c => leBytes c.2 (rectComponent q width lines bs dt y recent x c)

/-- The bytes that a line leaves in its sluice (R159, R160, R182): the warp takes camera lines alone. -/
def State.lineOut (s : State) (q : Sluice) (line : List Byte) : List Byte :=
  let strm := q.stream
  let w := s.obj 0x3000 6 strm
  let pt := s.obj 0x3000 2 strm
  let e := s.calEntry strm
  if q.grid != 0 && pt = 1 then
    (List.range w).flatMap
      (rectPixel q w (s.obj 0x3000 7 strm) (s.pixelBytes strm) (s.obj 0x3000 5 strm) q.line (line :: q.recent))
  else if bit (field e 0 1) 0 && bit (field e 0 1) 2 && pt = 2 then (groups 8 line).flatMap (offsetRange e)
  else if bit (field e 0 1) 0 && bit (field e 0 1) 2 && pt = 3 then (groups 4 line).flatMap (offsetNear e)
  else line

/-! ## Deadlines, spills and drops (R166 to R170, R216, R490) -/

/-- The deadline of a bounded outcome decided now: B ticks on, or one tick after the stream's latest (R216). -/
def State.nextDeadline (s : State) (q : Sluice) : Nat × State :=
  let d := s.clk.ticks + s.obj 0x3010 2 q.stream
  let ext : Bool := d ≤ q.lastDeadline && q.lastDeadline != 0
  let d := if ext then q.lastDeadline + 1 else d
  let s := if ext then s.bump 0x3011 0x0A q.stream else s
  (d, s.modSluice q.stream fun q => { q with lastDeadline := d })

/-- Count a spill or forced drop, with EMCY 0xFF04 for the first of the stream and then no more than once per 1 ms (R170). -/
def State.countSpill (s : State) (strm sub : Nat) : State :=
  let s := (s.bump 0x3003 sub strm).bump 0x3003 0x0D strm
  let s := if sub = 4 then { s with loops := { s.loops with
      forced := true, forcedSafe := s.loops.forcedSafe || s.objB 0x3001 1 strm } } else s
  match s.sluice? strm with
  | none => s
  | some q =>
    let due : Bool := match q.spillAt with
      | none => true
      | some t => t + 1000 ≤ s.now
    if due then (s.modSluice strm fun q => { q with spillAt := some s.now }).raise 0xFF04 strm (s.obj 0x3003 0x0D strm)
    else s

/-- A strip that ends with a bounded outcome and no job: codes 0x3 to 0x5. -/
def State.dropStrip (s : State) (strm : Nat) (t : Strip) (code : Nat) : State :=
  match s.sluice? strm with
  | none => s
  | some q =>
    let r := s.nextDeadline q
    let s := r.2.register ({ t with deadline := r.1, bounded := true }.outcome strm code true)
    if code = 4 || code = 5 then s.flagStream strm else s

/-- A stream fault (R372). -/
def State.streamFault (s : State) (strm : Nat) : State :=
  if !s.objB 0x3001 1 strm then s
  else
    let s := s.bump 0x5000 6
    if s.obj 0x5001 2 = 1 then s.classSOpen 0x0D else s

/-- The consecutive count of degraded strips (R490). -/
def State.degradedCount (s : State) (strm : Nat) (t : Strip) : State :=
  if t.replaced then
    let n := min (s.obj 0x3005 1 strm + 1) 255
    let s := (s.setObj 0x3005 1 n strm).raiseMax 0x3005 2 n strm
    if n = 5 then ((s.raise 0xFF03 strm 5).bump 0x3005 3 strm).streamFault strm else s
  else if t.decimated then s
  else s.setObj 0x3005 1 0 strm

/-- The units of a line that decimation keeps (R169): even quad columns for RAW, else every second unit. -/
def keptPixels (raw : Bool) (unit width : Nat) : List Nat :=
  (List.range width).filter fun x => if raw then x / 2 % 2 = 0 else x / unit % 2 = 0

/-- The lines of a strip that decimation keeps, ⌈lines ÷ 2⌉ of them. -/
def keptLines (raw : Bool) (lines : Nat) : List Nat :=
  ((List.range lines).filter fun y => if raw then y / 2 % 2 = 0 else y % 2 = 0).take ((lines + 1) / 2)

/-- Decimate a strip in its slot (R169); the kept lines stand from the slot's start on (log entry 19). -/
def State.decimate (s : State) (strm : Nat) (t : Strip) : Strip × State :=
  let pt := s.obj 0x3000 2 strm
  let dt := s.obj 0x3000 5 strm
  let raw : Bool := pt = 1 && 0x2A ≤ dt && dt ≤ 0x2E
  let bs := s.pixelBytes strm
  let xs := keptPixels raw (if pt = 1 && dt = 0x1E then 2 else 1) t.width
  let ys := keptLines raw t.lines
  let data := ys.flatMap fun y => xs.flatMap fun x => s.memBytes (t.src + (y * t.width + x) * bs) bs
  ({ t with lines := ys.length, width := xs.length, decimated := true }, s.memWrite t.src data)

/-! ## Strip jobs (R214, R215, R217, R218) -/

/-- The address of a strip's result slot, 0 for none (R218). -/
def State.resultSlot (s : State) (strm n : Nat) : Nat :=
  if s.obj 0x3010 4 strm = 0 then 0
  else s.obj 0x3010 4 strm + (n % s.obj 0x3010 6 strm) * s.obj 0x3010 5 strm

/-- The descriptor of a strip job (R215, R332). -/
def State.stripDesc (s : State) (strm : Nat) (t : Strip) : List Byte :=
  leBytes 1 2 ++ leBytes 1 0 ++ leBytes 1 (s.obj 0x3010 8 strm - 1) ++ leBytes 1 0 ++
  leBytes 1 strm ++ leBytes 2 t.lines ++ leBytes 1 (t.n % 256) ++ leBytes 7 t.n ++ leBytes 1 strm ++
  leBytes 8 (s.obj 0x3010 7 strm) ++ leBytes 8 t.src ++
  leBytes 6 (s.obj 0x3010 9 strm) ++ leBytes 2 (s.obj 0x3010 0x0A strm) ++ zeros 8 ++
  leBytes 8 (s.resultSlot strm t.n) ++ zeros 8

/-- The first 64 bytes of a result slot as the job is formed (R218). -/
def Strip.slotHead (t : Strip) : List Byte :=
  leBytes 8 t.n ++ leBytes 4 t.frame ++ leBytes 2 t.index ++ leBytes 2 t.lines ++ leBytes 8 t.corrected ++
  leBytes 8 t.stamp ++ zeros 32

/-- Cancel a strip job in its queue by its tag (R215). -/
def State.cancelStrip (s : State) (id : Nat) : State :=
  match s.job id with
  | none => s
  | some j => if j.phase = JobPhase.ended then s else (s.cancelTag j.queue j.tag).2

/-- Withdraw a strip's job (R217): cancelled in its queue, its slot and ring entry released, the code 0xA for it; of a stream that has
been disabled nothing is published (R229). -/
def State.withdraw (s : State) (q : Sluice) (t : Strip) : State :=
  let s := s.modStrip q.same t.n fun t => { t with job := .ended }
  let s := match t.job with
    | .accepted id => s.cancelStrip id
    | _ => s
  let s := s.bump 0x3011 4 q.stream
  let s := if q.on then s.register (t.outcome q.stream 0xA false) else s
  (s.releaseStrip q.same q.stream t.n).settle

/-- Submit a strip's job to the stream's queue (R214). -/
def State.submitStrip (s : State) (q : Sluice) (t : Strip) : State :=
  let id := s.sched.nextId
  let s := if t.tried then s.bump 0x3011 7 q.stream else s
  let r := s.submit (s.obj 0x3010 1 q.stream) (s.stripDesc q.stream t) true
  r.2.modStrip q.same t.n fun t =>
    { t with tried := true, job := if r.1 = 0 then .accepted id else t.job }

/-- Whether an earlier strip of the stream still waits for its submission: the jobs are submitted in strip order. -/
def Sluice.blocked (q : Sluice) (n : Nat) : Bool := q.strips.any fun t => t.n < n && t.job == .toSubmit

/-- The strip that stands in a strip's result slot with its job outstanding: it is older by slot counts (R217). -/
def Sluice.slotHolder (q : Sluice) (w n : Nat) : Option Strip :=
  q.strips.find? fun u => u.n < n && u.n % w = n % w && u.job != StripJob.ended

/-- Form a strip's job: withdraw the strip that holds its result slot, write the slot's head, submit (R214, R217, R218). -/
def State.formJob (s : State) (strm : Nat) (t : Strip) : State :=
  let w := s.obj 0x3010 6 strm
  let a := s.resultSlot strm t.n
  let s :=
    if a = 0 then s
    else
      let s := match s.sluice? strm with
        | some q =>
          match q.slotHolder w t.n with
          | some u => s.withdraw q u
          | none => s
        | none => s
      (s.writeFor 0 a t.slotHead).modSluice strm fun q => { q with owners := Amap.set 0 q.owners (t.n % w) (t.n + 1) }
  match s.sluice? strm with
  | some q => if q.blocked t.n then s else s.submitStrip q t
  | none => s

/-! ## A strip completes (R166 to R169) -/

/-- Keep a strip in its slot and hand it to the Strip Sequencer. -/
def State.absorb (s : State) (strm : Nat) (t : Strip) : State :=
  match s.sluice? strm with
  | none => s
  | some q =>
    let r := s.nextDeadline q
    let t := { t with deadline := r.1 }
    let s := (r.2.modSluice strm fun q => { q with strips := q.strips ++ [t] }).sluiceChanged strm
    s.formJob strm t

/-- Divert a strip (R168): its bytes go to the next ring entry, its marker is its outcome, its job reads the copy. With the
ring full, or the predecessor's copy in progress, it is a forced drop. -/
def State.divert (s : State) (strm : Nat) (t : Strip) : State :=
  match s.sluice? strm with
  | none => s
  | some q =>
    let size := s.obj 0x3000 0x0E strm
    let used := q.strips.filterMap (·.ring)
    if q.strips.any (fun u => u.diverted && u.slot.isSome) || size ≤ used.length then
      ((s.countSpill strm 4).dropStrip strm t 4).sluiceChanged strm
    else
      let e := ((List.range size).map fun k => (q.ringNext + k) % size).find? (fun k => !used.contains k) |>.getD 0
      let a := s.obj 0x3000 0x0D strm + e * roundUp (s.stripBytes strm) 4096
      let s := s.memWrite a (s.memBytes t.src (t.lines * t.width * s.pixelBytes strm))
      let r := (s.countSpill strm 2).nextDeadline q
      let t := { t with ring := some e, src := a, diverted := true, bounded := true, deadline := r.1 }
      let s := r.2.modSluice strm fun q => { q with ringNext := (e + 1) % size, strips := q.strips ++ [t] }
      let s := (s.register (t.outcome strm 6 true)).sluiceChanged strm
      s.formJob strm t

/-- Decimate and keep a strip; it counts as a spill. -/
def State.spillDecimated (s : State) (strm : Nat) (t : Strip) : State :=
  let r := s.decimate strm t
  (r.2.countSpill strm 3).absorb strm r.1

/-- The decision of R166 on a completed strip, then the degraded count of R490. -/
def State.decideStrip (s : State) (strm : Nat) (t : Strip) : State :=
  match s.sluice? strm with
  | none => s
  | some q =>
    let h := q.held + 1
    let dec := s.objB 0x3002 4 strm
    let s : State :=
      if 5 ≤ h then ((s.countSpill strm 4).dropStrip strm { t with slot := none } 4).sluiceChanged strm
      else if dec && 1 < h then s.spillDecimated strm t
      else
        let s := if dec then s.setObj 0x3002 4 0 strm else s
        if s.obj 0x3106 3 ≤ h then
          match s.obj 0x3000 0x0B strm with
          | 1 => s.divert strm t
          | 3 => (s.setObj 0x3002 4 1 strm).spillDecimated strm t
          | _ => ((s.countSpill strm 1).dropStrip strm { t with slot := none } 3).sluiceChanged strm
        else s.absorb strm t
    let t := { t with decimated := dec && 1 < h || (s.obj 0x3106 3 ≤ h && s.obj 0x3000 0x0B strm = 3) }
    s.degradedCount strm t

/-- The strip being filled completes (R165): `last` where it is its frame's last. -/
def State.completeStrip (s : State) (strm : Nat) (last : Bool) : State :=
  match s.sluice? strm with
  | none => s
  | some q =>
    match q.filling with
    | none => s
    | some f =>
      let t : Strip :=
        { n := f.n, frame := s.obj 0x3002 5 strm - 1, index := f.index, last := last, lines := f.lines,
          width := s.obj 0x3000 6 strm, replaced := f.replaced, decimated := false, diverted := false,
          slot := some f.slot, ring := none, src := poolBase + q.base + f.slot * s.stripBytes strm,
          doneTick := s.clk.ticks, deadline := 0, job := .toSubmit, tried := false, bounded := false, single := false,
          stamp := f.stamp, corrected := f.corrected }
      let s := s.modSluice strm fun q => { q with filling := none }
      let s := if last then { s with seq := { s.seq with frames := s.seq.frames.map fun p =>
          if p.stream = strm && p.frame = t.frame then { p with lastStrip := some f.n } else p } }
        else s
      s.decideStrip strm t

/-! ## Frames and lines (R150, R155, R156, R158, R159) -/

/-- The state of a stream as 0x3002:01 has it. -/
def State.streamState (s : State) (strm : Nat) : Nat := s.obj 0x3002 1 strm

/-- A frame opens (R150); it restores a lost stream (R172). -/
def State.openFrame (s : State) (strm : Nat) : State :=
  let s := (s.setObj 0x3002 1 2 strm).bump 0x3002 5 strm
  let n := s.obj 0x3002 5 strm - 1
  let s := s.modSluice strm fun q =>
    { q with line := 0, index := 0, recent := [], frameAt := s.now, lineAt := s.now,
             lineStamp := s.nowNs - s.obj 0x3000 9 strm, lineNs := s.nsNow - s.obj 0x3000 9 strm }
  if s.objB 0x3010 3 strm then
    { s with seq := { s.seq with frames := s.seq.frames ++
      [{ stream := strm, frame := n, ended := none, lastStrip := none, lastOut := false, corrected := 0, cands := [],
         received := 0, partialIn := false, discarded := false, started := none }] } }
  else s

/-- A frame of the Post-Processing Unit as its stream's frame ends; one without a line never yields a list. -/
def PpFrame.close (p : PpFrame) (q : Sluice) : Option PpFrame :=
  if p.stream != q.stream || p.ended.isSome then some p
  else if q.line = 0 then none
  else
    let n := p.lastStrip.getD (q.next - 1)
    let out := p.lastOut || (p.lastStrip.isNone && q.strips.all fun t => t.bounded || t.n != n)
    some { p with ended := some (q.lineStamp, q.lineNs), lastStrip := some n, lastOut := out }

/-- A frame ends (R150). -/
def State.closeFrame (s : State) (strm : Nat) (short : Bool) : State :=
  let s := s.setObj 0x3002 1 3 strm
  let s := if short then s.bump 0x3003 9 strm else s
  match s.sluice? strm with
  | none => s
  | some q => { s with seq := { s.seq with frames := s.seq.frames.filterMap fun p => p.close q } }

/-- The expiry of a stream's liveness, in ns of the model's count (R172). -/
def State.livenessEnd (s : State) (q : Sluice) : Nat :=
  let st := s.obj 0x3000 8 q.stream * s.obj 0x3000 9 q.stream
  if s.streamState q.stream = 2 then q.lineAt * 1000 + 2 * st
  else q.frameAt * 1000 + s.obj 0x3000 0x0A q.stream * 1000 + 2 * st

/-- A line or frame start on the edge of the expiry prevails: a near-miss (R174). -/
def State.livenessArrival (s : State) (q : Sluice) : State :=
  if s.streamState q.stream != 4 && s.livenessEnd q = s.nsNow then s.nearMissIn 0x3003 0x0C q.stream else s

/-- One line enters a sluice (R158, R159): `good` bytes, or none for a bad or missing line, which the last good line replaces, or
zeros, with the stamp that the line period gives it; `real` where the line arrived. -/
def State.writeLine (s : State) (strm : Nat) (good : Option (List Byte)) (real : Bool) : State :=
  match s.sluice? strm with
  | none => s
  | some q =>
    let w := s.obj 0x3000 6 strm * s.pixelBytes strm
    let stamp := if good.isSome then s.nowNs else q.lineStamp + s.obj 0x3000 9 strm
    let ns := if good.isSome then s.nsNow else q.lineNs + s.obj 0x3000 9 strm
    let line := match good with
      | some l => l
      | none => padTo w q.good
    let out := s.lineOut q line
    let f : Filling := q.filling.getD
      { n := q.next, index := q.index,
        slot := ((List.range 5).find? fun k => !q.strips.any fun t => t.slot == some k).getD 0,
        lines := 0, replaced := false, stamp := stamp, corrected := s.correctedTime strm q.line stamp }
    let s := if q.filling.isNone then s.bump 0x3002 6 strm else s
    let s := s.memWrite (poolBase + q.base + f.slot * s.stripBytes strm + f.lines * w) out
    let s := if good.isNone then s.bump 0x3003 5 strm else s
    let f' := { f with lines := f.lines + 1, replaced := f.replaced || good.isNone }
    let s := if q.line = 0 then { s with seq := { s.seq with frames := s.seq.frames.map fun p =>
        if p.stream = strm && p.ended.isNone then { p with corrected := f.corrected } else p } }
      else s
    let s := s.modSluice strm fun q =>
      { q with
        filling := some f', good := good.getD q.good, recent := (line :: q.recent).take 8, lineStamp := stamp, lineNs := ns,
        line := q.line + 1,
        next := if q.filling.isNone then q.next + 1 else q.next,
        index := if q.filling.isNone then q.index + 1 else q.index,
        lineTick := if real then s.clk.ticks else q.lineTick, lineAt := if real then s.now else q.lineAt }
    let s := if real then s.setObj 0x3002 7 stamp strm else s
    let s := s.sluiceMoved strm
    let ends : Bool := s.obj 0x3000 7 strm ≤ q.line + 1
    let s := if ends || s.obj 0x3000 8 strm ≤ f'.lines then s.completeStrip strm ends else s
    if ends then s.closeFrame strm false else s

/-- Replace lines until the frame's line reaches `upTo`, or the frame has ended (R159). -/
def State.fillLines (s : State) (strm : Nat) (k : Nat) : State :=
  match k with
  | 0 => s
  | k + 1 => if s.streamState strm = 2 then (s.writeLine strm none false).fillLines strm k else s

/-- An early frame end (R150): the missing lines are replaced; the frame is short. -/
def State.endShort (s : State) (strm : Nat) : State :=
  match s.sluice? strm with
  | none => s
  | some q =>
    if s.streamState strm != 2 then s
    else
      let miss := s.obj 0x3000 7 strm - q.line
      let s := s.fillLines strm miss
      if 0 < miss then s.bump 0x3003 9 strm else s

/-- A frame start while a frame is open (R150, R174): the frame closes as short. A strip being filled completes as the frame's short
last strip; with none, the missing lines are replaced. -/
def State.cutShort (s : State) (strm : Nat) : State :=
  match s.sluice? strm with
  | none => s
  | some q =>
    if s.streamState strm != 2 then s
    else if q.filling.isSome then (s.completeStrip strm true).closeFrame strm true
    else s.endShort strm

/-! ## Enabling and disabling (R160 to R164, R168, R215, R218, R299, R342) -/

/-- The lowest gap of the pool that takes an allocation. DESIGN CHOICE (log entry 20). -/
def poolGap (used : List (Nat × Nat)) (size : Nat) : Option Nat :=
  let starts := 0 :: used.map fun u => u.1 + u.2
  (starts.filter fun b => b + size ≤ 2 ^ 25 && !used.any fun u => u.1 < b + size && b < u.1 + u.2).min?

/-- The pool's allocations. -/
def State.poolUsed (s : State) : List (Nat × Nat) :=
  (s.seq.sluices.filter fun q => 0 < q.size).map fun q => (q.base, q.size)

/-- Whether a stream's geometry fits its port type (R148, R152, R156, R161). -/
def State.geometryOk (s : State) (strm : Nat) : Bool :=
  let pt := s.obj 0x3000 2 strm
  let port := s.obj 0x3000 3 strm
  let ch := s.obj 0x3000 4 strm
  let w := s.obj 0x3000 6 strm
  let dt := s.obj 0x3000 5 strm
  if pt = 1 then
    port < 24 && ch < 4 && bit (s.obj 0x3100 (port + 1)) 0 &&
    (if dt = 0x2A || dt = 0x2B || dt = 0x2C || dt = 0x2D || dt = 0x2E then w % 4 = 0
     else if dt = 0x1E then w % 2 = 0
     else dt = 0x24 || (0x30 ≤ dt && dt ≤ 0x37))
  else if pt = 2 then port < 4 && ch < 256 && 1 ≤ w && w ≤ 180
  else if pt = 3 then port < 2 && ch < 4 && w = 1
  else false

/-- Whether the divert ring of a stream conforms (R168). -/
def State.ringOk (s : State) (strm : Nat) : Bool :=
  let b := s.obj 0x3000 0x0D strm
  let n := s.obj 0x3000 0x0E strm
  b % 65536 = 0 && s.hostRegion ≤ b && 1 ≤ n && n ≤ 1024 && b + n * roundUp (s.stripBytes strm) 4096 ≤ cellarEnd

/-- The anchor block that an enable copies, or none where it is rejected (R299). -/
def State.anchorsFor (s : State) (strm : Nat) : Option (List Byte) :=
  let a := s.obj 0x3013 4 strm
  let b := s.memBytes a 1044
  if a % 64 != 0 || a < s.hostRegion || cellarEnd < a + 1044 then none
  else if crc32c (b.take 1040) != field b 1040 4 then none
  else if !(List.range 8).all (fun k => 1 ≤ field b k 1 && field b k 1 ≤ 128) then none
  else if s.obj 0x3010 4 strm = 0 then none
  else some b

/-- Whether an enable of a stream is admitted. -/
def State.enableOk (s : State) (strm : Nat) : Bool :=
  let e := s.obj 0x3010 7 strm
  let q := s.obj 0x3010 1 strm
  s.geometryOk strm &&
  (s.bound (s.obj 0x3000 2 strm) (s.obj 0x3000 3 strm) (s.obj 0x3000 4 strm) (s.obj 0x3000 5 strm)).isNone &&
  8000 ≤ s.obj 0x3000 8 strm * s.obj 0x3000 9 strm &&
  (!s.objB 0x3001 1 strm || s.obj 0x3000 0x0A strm ≤ 33333) &&
  (poolGap s.poolUsed (roundUp (5 * s.stripBytes strm) 4096)).isSome &&
  (!s.objB 0x3000 0x0C strm || (s.lutFor strm).isSome) &&
  (s.obj 0x3000 0x0B strm != 1 || s.ringOk strm) &&
  e != 0 && e % 4 = 0 && s.hostRegion ≤ e && e < cellarEnd &&
  (s.obj 0x3010 0x0A strm = 0 || s.obj 0x3010 9 strm % 65536 = 0) &&
  s.objB 0x6000 1 q && s.obj 0x6000 2 q = 0 && s.obj 0x6000 3 q = 1 &&
  (!s.objB 0x3010 3 strm || (s.anchorsFor strm).isSome)

/-- The objects that restart at enable (R163, R230, R307, R407, R490). -/
def State.restartCounters (s : State) (strm : Nat) : State :=
  [0x3002, 0x3003, 0x3004, 0x3005, 0x3011, 0x3014].foldl (fun s i => s.dropIndex i strm) s

/-- A stream is enabled (R161 to R164, R172, R316). -/
def State.enableStream (s : State) (strm : Nat) : State :=
  let size := roundUp (5 * s.stripBytes strm) 4096
  let rect := s.objB 0x3000 0x0C strm
  let lut := if rect then (s.lutFor strm).getD [] else []
  let q : Sluice :=
    { stream := strm, on := true, base := (poolGap s.poolUsed size).getD 0, size := size, line := 0, index := 0, next := 0,
      filling := none, good := [], recent := [], lineStamp := 0, lineNs := 0,
      sensorTime := none, owners := [], seq := none, lineTick := s.clk.ticks, lineAt := s.now,
      frameAt := s.now, strips := [], ringNext := 0, lastDeadline := 0, above := false, spillAt := none,
      lut := lut, grid := if rect then field (s.entryAtEnable strm) 100 2 else 0,
      anchors := if s.objB 0x3010 3 strm then (s.anchorsFor strm).getD [] else [] }
  let s := s.restartCounters strm
  let s := { s with seq := { s.seq with sluices := s.seq.sluices ++ [q] } }
  let s := ((s.setObj 0x3002 1 1 strm).setObj 0x3002 8 size strm).setObj 0x8001 0x0B (s.obj 0x8001 0x0B - lut.length)
  (s.setObj 0x3106 4 s.poolFree).flagStream strm

/-- A stream is disabled (R163, R229, R306). -/
def State.disableStream (s : State) (strm : Nat) : State :=
  match s.sluice? strm with
  | none => s
  | some q =>
    let s := s.modSluice strm fun q => { q with on := false, filling := none, lut := [], anchors := [], grid := 0 }
    let s := { s with seq := { s.seq with
      waiting := s.seq.waiting.filter fun o => o.stream != strm
      copies := s.seq.copies.filter fun c => c.stream != strm
      frames := s.seq.frames.filter fun f => f.stream != strm } }
    let s := s.setObj 0x8001 0x0B (s.obj 0x8001 0x0B + q.lut.length)
    ((s.setObj 0x3002 1 5 strm).setObj 0x3002 4 0 strm).sluiceChanged strm

/-! ## Leaving and entering the states with records (R146, R172, R217) -/

/-- BENCH or DRIVE is left for a state without records: jobs are cancelled, slots released, outcomes discarded (R217). -/
def State.seqExit (s : State) : State :=
  let ids := s.seq.sluices.flatMap fun q => q.strips.filterMap fun t =>
    match t.job with
    | .accepted id => some id
    | _ => none
  let s := s.mapSluices (fun _ => true) fun q => { q with filling := none, strips := [] }
  let s := { s with seq := { s.seq with waiting := [], copies := [], frames := [] } }
  let s := ids.foldl (fun s id => s.cancelStrip id) s
  let s := (s.seq.sluices.map (·.stream)).foldl (fun s k => s.sluiceChanged k) s
  ((s.seq.sluices.filter (·.on)).map (·.stream)).foldl (fun s k => s.setObj 0x3002 1 1 k) s.settle

/-- A state with records is entered: each enabled stream awaits a frame start, its liveness armed (log entry 21). -/
def State.sluicesStart (s : State) : State :=
  let s := s.mapSluices (·.on) fun q => { q with filling := none, frameAt := s.now, lineAt := s.now, seq := none }
  ((s.seq.sluices.filter (·.on)).map (·.stream)).foldl (fun s k => s.setObj 0x3002 1 1 k) s

end Sys2Proof.Machine
end

