-- ==== Sys2Proof/Machine/FuindOps.lean ====
section
/-! DEFINITION. Fuind Link: messages and their check, flits, replay and credits, training, routing and roles, and what a
device sends of its own accord (chapter 20, R457 to R473 and R476). -/

namespace Sys2Proof.Machine

open Sys2Proof

/-! ## Messages (R466, R467) -/

/-- A message: its 16-byte head, with the check, and its body (R466). -/
def fuindMsg (type src dst : Nat) (body : List Byte) : List Byte :=
  let h := leBytes 1 type ++ leBytes 1 src ++ leBytes 1 dst ++ leBytes 1 0 ++ leBytes 2 body.length ++ leBytes 6 0
  h ++ leBytes 4 (crc32c (h ++ body)) ++ body

/-- The body of a message. -/
def msgBody (m : List Byte) : List Byte := m.drop 16

/-- Whether a body's length fits a type on the link (R467). -/
def linkBody (type n : Nat) : Bool :=
  match type with
  | 0x01 => n == 24
  | 0x02 => n == 16
  | 0x03 => n == 256
  | 0x04 => n == 32
  | 0x05 => 16 ≤ n && n ≤ 4112
  | 0x10 => 24 ≤ n && n ≤ 1048
  | _ => false

/-- Whether a body's length fits a type over UDP (R467); the layers of DEPOT judge theirs. -/
def udpBody (type n : Nat) : Bool :=
  match type with
  | 0x10 => 24 ≤ n && n ≤ 1048
  | 0x20 => n ≤ 4352
  | 0x21 => n ≤ 4352
  | _ => false

/-- Whether a message is accepted: its length field, its type and length on the transport, and its check (R466). -/
def msgOk (fits : Nat → Nat → Bool) (m : List Byte) : Bool :=
  16 ≤ m.length && field m 4 2 = m.length - 16 && fits (field m 0 1) (m.length - 16) &&
  field m 12 4 = crc32c (m.take 12 ++ msgBody m)

/-- The virtual channel of a type (R465). -/
def linkVc (type : Nat) : Nat :=
  match type with
  | 0x01 => 0
  | 0x02 => 0
  | 0x03 => 1
  | 0x04 => 1
  | 0x10 => 2
  | _ => 3

/-! ## The cascade (R457, R458, R470) -/

/-- The device ID (R38). -/
def State.deviceId (s : State) : Nat := s.obj 0x2000 5

/-- The cascade size N. -/
def State.cascSize (s : State) : Nat := s.obj 0xA000 1

/-- Whether the cascade is wired as a ring (R458). -/
def State.ring (s : State) : Bool := s.obj 0xA000 2 == 1

/-- Whether the ports have power (R457). -/
def State.fuindOn (s : State) : Bool := s.pw.mode.awake && s.cascSize != 1

/-- A port. -/
def State.fl (s : State) (p : Nat) : FlPort := if p = 0 then s.casc.fl0 else s.casc.fl1

/-- Change a port. -/
def State.modFl (s : State) (p : Nat) (f : FlPort → FlPort) : State :=
  if p = 0 then { s with casc := { s.casc with fl0 := f s.casc.fl0 } }
  else { s with casc := { s.casc with fl1 := f s.casc.fl1 } }

/-- Count in 0xA003 of a port. -/
def State.flCount (s : State) (p k : Nat) (n : Nat := 1) : State := s.bump 0xA003 (6 * p + k) 0 n

/-- Whether a port takes messages: a hello has passed in this wake, and the port is Active or retrains (R460, R462). -/
def FlPort.up (p : FlPort) : Bool := p.admitted && (p.phase == .active || p.phase == .training)

/-- Ports up, bit per port, as a HEARTBEAT tells them (R467). -/
def State.portBits (s : State) : Nat := (if s.casc.fl0.up then 1 else 0) + (if s.casc.fl1.up then 2 else 0)

/-- Whether a device is present (R470). -/
def State.present (s : State) (j : Nat) : Bool :=
  s.fuindOn && j < s.cascSize && (j = s.deviceId || Amap.get 0 s.casc.heard j != 0)

/-- The present devices, bit per ID. -/
def State.presentMask (s : State) : Nat := (List.range 4).foldl (fun n j => if s.present j then setBit n j else n) 0

/-- Whether this device is a member (R470). -/
def State.isMember (s : State) : Bool :=
  s.fuindOn && !s.casc.sameId && s.deviceId != 0 && s.deviceId < s.cascSize && s.casc.masterFlag

/-- The cascade role, 0x2001:07: 0 single, 1 master, 2 member; 0 in DEPOT (R37, R470). -/
def State.cascRole (s : State) : Nat :=
  if s.pw.mode = .depot || !s.fuindOn then 0 else if s.casc.master then 1 else if s.isMember then 2 else 0

/-- 0xA001:01. -/
def State.cascPhase (s : State) : Nat :=
  if !s.fuindOn then 0
  else if s.casc.sameId then 5
  else if s.casc.fl0.wiring || s.casc.fl1.wiring then 6
  else if s.casc.formed then 3
  else if s.casc.expired then 4
  else if s.casc.fl0.admitted || s.casc.fl1.admitted then 2
  else if s.casc.fl0.phase = .down && s.casc.fl1.phase = .down then 0
  else 1

/-- 0xA002 of a port (R477). -/
def State.portStatus (s : State) (p : Nat) : Nat :=
  let f := s.fl p
  (match f.phase with
   | .down => 0
   | .training => 1
   | .active => 2
   | .held => 3) + f.lanes * 8 + (if f.phase = .active && f.admitted then f.neighbour else 0xFF) * 256

/-- Bring the roles up to date: the master's claim, and the formation that it finds (R470); one on the edge of its limit is a near-miss
(R211). -/
def State.castRoles (s : State) : State :=
  if !s.fuindOn then s
  else
    let s := if s.deviceId = 0 && !s.casc.sameId && (s.casc.fl0.admitted || s.casc.fl1.admitted) then
        { s with casc := { s.casc with master := true } }
      else s
    if s.casc.master && !s.casc.formed && s.presentMask = 2 ^ s.cascSize - 1 then
      let s := if s.casc.expired then s else s.nearEdge s.casc.startAt (1000 * s.obj 0xA000 4)
      { s with casc := { s.casc with formed := true } }
    else s

/-! ## Flits (R461) -/

/-- The 76 bytes of a flit: kind with its start and end bits and channel, length field, sequence, credits returned on a
channel, payload; the acknowledge is the port's. -/
def FlPort.flit (p : FlPort) (kind : Nat) (first last : Bool) (vc len seq back backVc : Nat) (payload : List Byte) : List Byte :=
  let ack := (p.rxSeq + 4095) % 4096 + (if p.rxAny then 0x8000 else 0)
  let b := leBytes 1 (kind + (if first then 16 else 0) + (if last then 32 else 0) + vc * 64) ++ leBytes 1 len ++
    leBytes 2 seq ++ leBytes 2 (if p.rxAny then ack else 0) ++ leBytes 1 (back + backVc * 64) ++ leBytes 1 0 ++ padTo 64 payload
  b ++ leBytes 4 (crc32 b)

/-- Whether a flit's CRC holds. -/
def flitOk (f : List Byte) : Bool := f.length = 76 && field f 72 4 = crc32 (f.take 72)

/-- Send a data flit with a sequence number. -/
def State.sendData (s : State) (p seq : Nat) (f : TxFlit) : State :=
  s.emit (.flit p ((s.fl p).flit 1 f.first f.last f.vc (f.data.length - 1) seq 0 0 f.data))

/-- Send an idle flit with the acknowledge and a credit return (R461). DESIGN CHOICE (log entry 27): of the idle flits a port
sends whenever it has nothing else, the model shows those that answer an accepted data flit. -/
def State.sendIdle (s : State) (p back vc : Nat) : State :=
  s.emit (.flit p ((s.fl p).flit 0 false false 0 0 0 back vc []))

/-- Send a NAK with the expected sequence number (R461, R463). -/
def State.sendNak (s : State) (p : Nat) : State :=
  s.emit (.flit p ((s.fl p).flit 2 false false 0 0 0 0 0 (leBytes 2 (s.fl p).rxSeq)))

/-- The receive buffers of channels 0 to 3, in flits (R465). -/
def vcBuffers : List Nat := [16, 64, 128, 256]

/-- Grant the whole buffers (R465). -/
def State.sendCredits (s : State) (p : Nat) : State :=
  (s.emit (.flit p ((s.fl p).flit 3 false false 0 0 0 0 0 (vcBuffers.flatMap (leBytes 2))))).modFl p
    fun f => { f with initDue := false }

/-! ## Sending (R463, R465, R468) -/

/-- The flits of a message: whole 64-byte pieces, the last one shorter. -/
def toFlits (vc : Nat) (fwd first : Bool) (fuel : Nat) (m : List Byte) : List TxFlit :=
  match fuel with
  | 0 => []
  | k + 1 =>
    { vc := vc, data := m.take 64, first := first, last := decide (m.length ≤ 64), fwd := fwd } ::
      (if m.length ≤ 64 then [] else toFlits vc fwd false k (m.drop 64))

/-- Whether a flit is a HELLO. -/
def TxFlit.isHello (f : TxFlit) : Bool := f.first && f.data.head? == some 1

/-- The next flit of a channel: the message in progress goes on; then forwarded and own messages take turns (R468). -/
def FlPort.nextOn (p : FlPort) (vc : Nat) : Option TxFlit :=
  let l := p.txq.filter fun f => f.vc = vc
  let last := p.turn.getD vc false
  match l.find? fun f => f.fwd == (if p.mid.getD vc false then last else !last) with
  | some f => some f
  | none => l.head?

/-- The flit that the next slot takes: the lowest channel with a flit and a credit; before the hello has passed, a HELLO
alone; none while the replay buffer is full (R462, R463, R465). -/
def FlPort.nextFlit (p : FlPort) : Option TxFlit :=
  if p.phase != .active || p.initDue || 512 ≤ p.replay.length then none
  else if !p.open_ then (p.txq.find? (·.isHello)).filter fun _ => p.credits.getD 0 0 != 0
  else ((List.range 4).filterMap fun vc => if p.credits.getD vc 0 = 0 then none else p.nextOn vc).head?

/-- A flit leaves the queue: it takes the next sequence number, a credit, and a place in the replay buffer. -/
def FlPort.take (p : FlPort) (f : TxFlit) : FlPort :=
  { p with
    txq := p.txq.erase f
    replay := p.replay ++ [(p.txSeq, f)]
    txSeq := (p.txSeq + 1) % 4096
    credits := p.credits.set f.vc (p.credits.getD f.vc 0 - 1)
    turn := if f.first then p.turn.set f.vc f.fwd else p.turn
    mid := p.mid.set f.vc (!f.last) }

/-- Send every flit that can go. -/
def State.pumpN (s : State) (p fuel : Nat) : State :=
  match fuel with
  | 0 => s
  | k + 1 =>
    match (s.fl p).nextFlit with
    | none => s
    | some f =>
      ((s.sendData p (s.fl p).txSeq f).modFl p fun q =>
        { q.take f with ackAt := if q.replay.isEmpty then s.now else q.ackAt }).pumpN p k

/-- Send every flit that can go. -/
def State.pump (s : State) (p : Nat) : State := s.pumpN p (s.fl p).txq.length

/-- Hand a message to a port. -/
def State.linkPut (s : State) (p : Nat) (fwd : Bool) (m : List Byte) : State :=
  (s.modFl p fun q => { q with txq := q.txq ++ toFlits (linkVc (field m 0 1)) fwd true 70 m }).emit (.fuind p m) |>.pump p

/-- Whether the ports along a path are up by the latest heartbeats: `up` counts IDs upward (R468). -/
def State.pathUp (s : State) (dst : Nat) (up : Bool) : Bool :=
  let n := s.cascSize
  let step (i : Nat) : Nat := if up then (i + 1) % n else (i + n - 1) % n
  let shown (i bit_ : Nat) : Bool :=
    let v := Amap.get 0 s.casc.portsUp i
    v = 0 || bit (v - 1) bit_
  let rec go (fuel i : Nat) : Bool :=
    match fuel with
    | 0 => true
    | k + 1 =>
      let j := step i
      shown j (if up then 0 else 1) && (j = dst || (shown j (if up then 1 else 0) && go k j))
  (s.fl (if up then 1 else 0)).up && go 4 s.deviceId

/-- The port that a message for a device leaves on (R468). -/
def State.routePort (s : State) (dst : Nat) : Nat :=
  let up : Bool := decide (s.deviceId < dst)
  let up := if s.ring && !s.pathUp dst up && s.pathUp dst (!up) then !up else up
  if up then 1 else 0

/-- Whether a port exists in the wiring: the ends of a chain have none (R458). -/
def State.wired (s : State) (p : Nat) : Bool :=
  s.ring || (if p = 0 then s.deviceId != 0 else s.deviceId + 1 < s.cascSize)

/-- Send a message out of a port, or drop it there (R468): whether it went, and the state. -/
def State.linkOut (s : State) (p : Nat) (fwd : Bool) (m : List Byte) : Bool × State :=
  if s.wired p && (s.fl p).up then (true, s.linkPut p fwd m) else (false, s.flCount p 5)

/-- Send a message of one's own to a device (R468). -/
def State.linkSend (s : State) (type dst : Nat) (body : List Byte) : Bool × State :=
  if !s.fuindOn || s.casc.sameId then (false, s)
  else s.linkOut (s.routePort dst) false (fuindMsg type s.deviceId dst body)

/-! ## Training (R459, R460, R464) -/

/-- Training starts when the PLLs lock in WAKING. -/
def State.fuindStart (s : State) : State :=
  if s.cascSize = 1 then s
  else
    { s with casc := { s.casc with
      startAt := s.now
      fl0 := { s.casc.fl0 with phase := .training }
      fl1 := { s.casc.fl1 with phase := .training } } }

/-- A port retrains from step 2, and counts it. -/
def State.retrain (s : State) (p : Nat) : State :=
  (s.modFl p fun f =>
    { f with phase := .training, step := 1, open_ := false, resends := 0, discarding := false, credits := [0, 0, 0, 0], initDue := false }).flCount p 3

/-- A port is held down until the next wake: what was in flight on it is lost (R460, R469). -/
def State.holdPort (s : State) (p : Nat) : State :=
  s.modFl p fun f => { FlPort.idle with phase := .held, fails := f.fails }

/-- The body of a HELLO (R467). -/
def State.helloBody (s : State) (p : Nat) : List Byte :=
  leBytes 1 s.deviceId ++ leBytes 1 p ++ leBytes 1 s.cascSize ++ leBytes 1 (s.obj 0xA000 2) ++
  leBytes 8 (s.obj 0x2000 6) ++ leBytes 1 0x42 ++ leBytes 1 0x31 ++ zeros 10

/-- Send a HELLO to the neighbour: it goes before everything that waits. -/
def State.sendHello (s : State) (p : Nat) : State :=
  let m := fuindMsg 0x01 s.deviceId 0xFF (s.helloBody p)
  ((s.modFl p fun q => { q with txq := toFlits 0 false true 1 m ++ q.txq.filter fun f => !f.isHello }).emit (.fuind p m)).pump p

/-- What follows once the replay buffer has drained after training: credit initialisation and the hello (R462, R465). -/
def State.linkReady (s : State) (p : Nat) : State :=
  if (s.fl p).initDue && (s.fl p).replay.isEmpty then (s.sendCredits p).sendHello p else s.pump p

/-- Send the replay buffer again from its oldest flit (R463, R464). -/
def State.resendFrom (s : State) (p : Nat) (l : List (Nat × TxFlit)) : State :=
  l.foldl (fun s e => (s.sendData p e.1 e.2).flCount p 2) s

/-- A resend from the oldest flit; the eighth in a row is the replay limit (R464). -/
def State.resendOldest (s : State) (p : Nat) : State :=
  let n := (s.fl p).resends + 1
  let s := (s.modFl p fun f => { f with resends := n, ackAt := s.now }).resendFrom p (s.fl p).replay
  if 8 ≤ n then s.retrain p else s

/-- The port becomes Active (R459 step 6): what is unacknowledged is sent again, and then the credits follow. -/
def State.linkActive (s : State) (p : Nat) : State :=
  let s := s.modFl p fun f => { f with phase := .active, fails := 0, initDue := true, flitAt := s.now, ackAt := s.now }
  (s.resendFrom p (s.fl p).replay).linkReady p

/-! ## Receiving (R461 to R465) -/

/-- The flits of the replay buffer that an acknowledge leaves: what follows the acknowledged one, or all of them where it names
none of them. -/
def ackDrop (seq : Nat) (l : List (Nat × TxFlit)) : List (Nat × TxFlit) :=
  if l.any fun e => e.1 = seq then (l.dropWhile fun e => e.1 != seq).drop 1 else l

/-- Every flit's acknowledge and credit return (R461); progress on the edge of the replay timeout prevails, and is a near-miss (R211,
R463). -/
def State.flitHead (s : State) (p : Nat) (f : List Byte) : State :=
  let a := field f 4 2
  let old := (s.fl p).replay
  let new := if bit a 15 then ackDrop (a % 4096) old else old
  let c := field f 6 1
  let s := if new.length < old.length then s.nearEdge (s.fl p).ackAt 2 else s
  let s := s.modFl p fun q =>
    { q with
      replay := new
      ackAt := if new.length < old.length then s.now else q.ackAt
      resends := if new.length < old.length then 0 else q.resends
      credits := if q.phase = .active && !q.initDue then
          q.credits.set (c / 64) (min (q.credits.getD (c / 64) 0 + c % 64) (vcBuffers.getD (c / 64) 0))
        else q.credits }
  s.linkReady p

/-- The condition for a port to take flits: it is Active; a flit whose CRC fails is counted (R461, R463); a valid one on the edge at
which 4 ticks without one end prevails, and is a near-miss (R211, R460). -/
def State.flitIn (s : State) (p : Nat) (f : List Byte) (act : State → State) : State :=
  if (s.fl p).phase != .active then s
  else if !flitOk f then
    let s := s.flCount p 1
    if (s.fl p).discarding then s else (s.modFl p fun q => { q with discarding := true }).sendNak p
  else act (((s.nearEdge (s.fl p).flitAt 4).modFl p fun q => { q with flitAt := s.now }).flitHead p f)

/-- A data flit in sequence joins its message: the message, once its end has come, and the state with the reply that returns
the credit. Out of sequence it is discarded, with a NAK for the first (R463). -/
def State.dataIn (s : State) (p : Nat) (f : List Byte) : Option (List Byte) × State :=
  let q := s.fl p
  if field f 2 2 % 4096 != q.rxSeq then
    (none, if q.discarding then s else (s.modFl p fun q => { q with discarding := true }).sendNak p)
  else
    let b0 := field f 0 1
    let vc := b0 / 64
    let part := slice f 8 (field f 1 1 % 64 + 1)
    let m := (if bit b0 4 then [] else q.rx.getD vc []) ++ part
    let done := bit b0 5
    let s := s.modFl p fun q =>
      { q with rxSeq := (q.rxSeq + 1) % 4096, rxAny := true, discarding := false,
               rx := q.rx.set vc (if done then [] else m) }
    (if done then some m else none, s.sendIdle p 1 vc)

/-- A message from a device has come: it is present from now (R470); one on the edge of its loss prevails, and is a near-miss
(R476). -/
def State.hear (s : State) (j : Nat) : State :=
  let t := Amap.get 0 s.casc.heard j
  let s := if t != 0 && s.now + 1 = t + 1000 * s.obj 0xA000 5 then s.nearMissIn 0xA001 6 else s
  { s with casc := { s.casc with heard := Amap.set 0 s.casc.heard j (s.now + 1) } }.castRoles

/-! ## HELLO (R458, R462, R476) -/

/-- The neighbour that a port must have (R458). -/
def State.wantNeighbour (s : State) (p : Nat) : Option Nat :=
  let n := s.cascSize
  if !s.wired p then none
  else some (if p = 1 then (s.deviceId + 1) % n else (s.deviceId + n - 1) % n)

/-- The same-ID condition (R476): both ports held down, WAKE_REQ_N, EMCY 0xFF11, no role. -/
def State.sameIdFound (s : State) : State :=
  let s := (s.holdPort 0).holdPort 1
  let s := { s with
    casc := { s.casc with sameId := true, master := false, masterFlag := false, formed := false }
    pw := { s.pw with wakeReqSameId := true } }
  (s.bump 0xA001 4).raise 0xFF11 0xFF s.deviceId

/-- A HELLO that a port has received, judged in the order of R462. A FL0 end must meet a FL1 end (R458). A wiring error counts in
0xA001:05, and, as a message that is not taken, in 0xA003 (log entry 41). -/
def State.helloIn (s : State) (p : Nat) (m : List Byte) : State :=
  let b := msgBody m
  let id := field b 0 1
  if id = s.deviceId then s.sameIdFound
  else if field b 2 1 != s.cascSize || field b 3 1 != s.obj 0xA000 2 || s.wantNeighbour p != some id || field b 1 1 != 1 - p then
    ((s.modFl p fun f => { f with wiring := true, open_ := false, admitted := false, neighbour := id }).bump 0xA001 5).flCount p 5
  else
    let s := s.modFl p fun f => { f with wiring := false, open_ := true, admitted := true, neighbour := id }
    let s := if (s.path 0x30).live then s else s.freshPath 0x30
    (s.hear id).pump p

/-! ## HEARTBEAT and presence (R467, R470, R476) -/

/-- The body of a HEARTBEAT (R467). -/
def State.heartbeatBody (s : State) : List Byte :=
  leBytes 1 s.pw.mode.code ++
  leBytes 1 ((if s.casc.master then 1 else 0) + (if s.casc.sameId then 2 else 0) + (if s.casc.formed then 4 else 0)) ++
  leBytes 1 s.portBits ++ leBytes 1 s.presentMask ++ leBytes 8 s.casc.record ++ zeros 4

/-- A HEARTBEAT from another device (R470, R476). -/
def State.heartbeatIn (s : State) (m : List Byte) : State :=
  let j := field m 1 1
  let b := msgBody m
  if s.cascSize ≤ j || j = s.deviceId then s
  else
    let s := { s with casc := { s.casc with
      portsUp := Amap.set 0 s.casc.portsUp j (field b 2 1 % 4 + 1)
      masterFlag := if j = 0 then bit (field b 1 1) 0 else s.casc.masterFlag
      formed := if j = 0 && s.deviceId != 0 then bit (field b 1 1) 2 else s.casc.formed } }
    s.hear j

/-! ## What the Strip Sequencer sends (R472, R473) -/

/-- A member's record goes to the master (R472); where it cannot be sent, it is lost. -/
def State.fuindSendRecord (s : State) (r : List Byte) : State :=
  if !s.isMember then s.bump 0x3110 8
  else
    let x := s.linkSend 0x03 0 r
    if x.1 then x.2 else x.2.bump 0x3110 8

/-- The digest of a result slot (R473). -/
def State.resultDigest (s : State) (strm n : Nat) : Nat :=
  let a := s.resultSlot strm n
  if a = 0 then 0
  else
    match s.place (.part 0) .read a with
    | .inr (.cells pa _) => crc32c (s.memBytes (pa + 64) (s.obj 0x3010 5 strm - 64))
    | _ => crc32c []

/-- Whether a strip of the partner and one's own are a pair (R473). -/
def State.pairs (s : State) (own theirs : CmpStrip) : Bool :=
  own.stream = theirs.stream && own.index = theirs.index &&
  own.corrected ≤ theirs.corrected + s.obj 0xA022 1 && theirs.corrected ≤ own.corrected + s.obj 0xA022 1

/-- Count a pair. -/
def State.countPair (s : State) (own theirs : CmpStrip) : State :=
  if own.code = theirs.code && own.digest = theirs.digest then s.bump 0xA023 1
  else (s.bump 0xA023 2).setObj 0xA023 4 own.stream

/-- A strip that waits for its counterpart meets it; on the edge at which the match window ends that prevails, and is a near-miss
(R211, R473). -/
def State.matchEdge (s : State) (w : CmpStrip) : State := if s.clk.ticks = w.tick + s.obj 0xA022 2 then s.nearMiss else s

/-- One's own strip meets what the partner has told, or waits for it. -/
def State.cmpOwn (s : State) (c : CmpStrip) : State :=
  match s.casc.theirs.find? fun t => s.pairs c t with
  | some t => ({ s with casc := { s.casc with theirs := s.casc.theirs.erase t } }.matchEdge t).countPair c t
  | none => { s with casc := { s.casc with own := s.casc.own ++ [c] } }

/-- A COMPARE meets one's own strip of the partner stream, or waits for it. -/
def State.cmpTheirs (s : State) (t : CmpStrip) : State :=
  match s.casc.own.find? fun c => s.pairs c t with
  | some c => ({ s with casc := { s.casc with own := s.casc.own.erase c } }.matchEdge c).countPair c t
  | none => { s with casc := { s.casc with theirs := s.casc.theirs ++ [t] } }

/-- A strip's outcome is published on a stream whose result is compared: a COMPARE to the partner, and one's own strip waits
for the partner's (R473). -/
def State.fuindSendCompare (s : State) (o : Outcome) : State :=
  let v := s.obj 0xA020 (o.stream + 1)
  let d := s.resultDigest o.stream o.strip
  let body := leBytes 1 o.stream ++ leBytes 1 (bits v 8 8) ++ leBytes 1 o.code ++ leBytes 1 0 ++ leBytes 2 o.index ++
    zeros 2 ++ leBytes 8 o.corrected ++ leBytes 4 d ++ zeros 12
  let s := (s.linkSend 0x04 (bits v 1 2) body).2
  s.cmpOwn { stream := o.stream, strip := o.strip, code := o.code, index := o.index, corrected := o.corrected, digest := d,
              tick := s.clk.ticks }

end Sys2Proof.Machine
end

