-- ==== Sys2Proof/Machine/GuestOps.lean ====
section
/-! DEFINITION. Guests, the wipes of DEPOT, the fleet messages a device sends, and the entry to and the way out of DEPOT
(chapter 18, R419 to R439). -/

namespace Sys2Proof.Machine

open Sys2Proof

/-! ## Guests (R422 to R426) -/

/-- A guest's state beside its objects. -/
def State.guest (s : State) (g : Nat) : Guest := Amap.get Guest.none s.depot.guests g

/-- Give a guest its state. -/
def State.setGuest (s : State) (g : Nat) (v : Guest) : State :=
  { s with depot := { s.depot with guests := Amap.set Guest.none s.depot.guests g v } }

/-- Change a guest's state. -/
def State.modGuest (s : State) (g : Nat) (f : Guest → Guest) : State := s.setGuest g (f (s.guest g))

/-- 0x6021:04 of a guest: 0 none, 1 starting, 2 running, 3 stopped, 4 checkpointing, 5 wiping. -/
def State.guestState (s : State) (g : Nat) : Nat := s.obj 0x6021 4 g

/-- The engines that 0x6010 gives to a guest, in any state. -/
def State.guestEngines (s : State) (g : Nat) : List Nat := (List.range 48).filter fun e => s.obj 0x6010 (e + 1) = g + 1

/-- The enabled queues of a guest, in ascending number (R446). -/
def State.guestQueues (s : State) (g : Nat) : List Nat :=
  (List.range 512).filter fun q => s.obj 0x6000 2 q = g + 1 && s.objB 0x6000 1 q

/-- Bytes of a guest's window. -/
def State.windowBytes (s : State) (g : Nat) : Nat := s.obj 0x6021 3 g * 2 ^ 21

/-- Whether a window meets R422. -/
def State.windowFits (s : State) (g base units : Nat) : Bool :=
  base % 2 ^ 21 = 0 && 1 ≤ units && units ≤ 23552 && base + units * 2 ^ 21 ≤ s.hostRegion &&
  (List.range 8).all fun h =>
    h = g || s.guestState h = 0 || s.obj 0x6021 2 h + s.windowBytes h ≤ base || base + units * 2 ^ 21 ≤ s.obj 0x6021 2 h

/-- The address of a guest's map: 4 KiB aligned, in the host region, no two alike; which one, the spec leaves open (log
entry 28). -/
def State.mapBase (s : State) (g : Nat) : Nat :=
  s.hostRegion + (Config.mapPlace.toNat % ((cellarEnd - s.hostRegion) / 0x40000 - 7) + g) * 0x40000

/-- The first-level entries of a guest's map (R239, R423): 2 MiB pages with read, write and execute permission. -/
def mapEntries (base units : Nat) : List Byte :=
  (List.range units).flatMap fun k => leBytes 8 (base + k * 2 ^ 21 + 0xD)

/-- Build a guest's map (R423). -/
def State.buildMap (s : State) (g : Nat) : State :=
  let a := s.mapBase g
  ((s.memZero a 0x30000).memWrite a (mapEntries (s.obj 0x6021 2 g) (s.obj 0x6021 3 g))).setObj 0x6021 5 a g

/-- Remove a guest's map (R428 step 5). -/
def State.removeMap (s : State) (g : Nat) : State :=
  let a := s.obj 0x6021 5 g
  (if a = 0 then s else s.memZero a 0x30000).setObj 0x6021 5 0 g

/-- Whether an entry is an S-object. -/
def objIsS (idx sub : Nat) : Bool := match objRow? idx sub with
  | some r => r.sObj
  | none => false

/-- Zorward itself writes an object, journaled with path 0x3F (R104, R424). -/
def State.selfWrite (s : State) (idx sub v : Nat) (ch : Nat) (behind : Bool) : State :=
  let old := s.obj idx sub ch
  (s.setObj idx sub v ch).journalAdd 0x3F idx sub (if behind then ch else 0xFFFF) s.pw.mode.code
    (if objIsS idx sub then 4 else 0) old v

/-- Give an engine to a partition in DEPOT: the move applies once its scrub is done (R330). -/
def State.moveEngine (s : State) (e part : Nat) : State :=
  let old := s.enginePart e
  let s := s.selfWrite 0x6010 (e + 1) part 0 false
  if s.pw.mode = .depot && old != part then s.modEngine e fun v => { v with moving := some old } else s

/-- A guest's start begins (R424 steps 2 to 4): its keys exist and its window is written to zero. -/
def State.guestStart (s : State) (g : Nat) (v : Guest) : State :=
  let s := (s.setGuest g v).setObj 0x6021 4 1 g
  { s with depot := { s.depot with keys := setBit s.depot.keys g } }.memZero (s.obj 0x6021 2 g) (s.windowBytes g)

/-- A guest's start may end: every polder of its partition has been scrubbed (R424 step 4). -/
def State.guestStartReady (s : State) (g : Nat) : Bool :=
  s.guestState g = 1 && (s.guestEngines g).all fun e => (s.engine e).moving.isNone

/-- A guest's start ends (R424 step 5). -/
def State.guestStarted (s : State) (g : Nat) : State := ((s.buildMap g).freshPath (0x11 + g)).setObj 0x6021 4 2 g

/-- A local guest starts (R424). -/
def State.localStart (s : State) (g : Nat) : State :=
  if s.windowFits g (s.obj 0x6021 2 g) (s.obj 0x6021 3 g) then s.guestStart g Guest.none else s

/-! ## The guest wipe (R428) -/

/-- Discard every job of a partition without a record. -/
def State.dropJobs (s : State) (part : Nat) : State :=
  let s := (s.sched.jobs.filter fun j => j.part = part && j.phase = .running).foldl
    (fun s j => j.harts.foldl (fun s g => s.leaveBarriers g) s) s
  { s with sched := { s.sched with
    jobs := s.sched.jobs.filter fun j => j.part != part
    resets := s.sched.resets.filter fun r => r.part != part } }

/-- Disable a queue; in worker mode the write is journaled. -/
def State.queueOff (s : State) (fleet : Bool) (q : Nat) : State :=
  if fleet then s.selfWrite 0x6000 1 0 q true else s.setObj 0x6000 1 0 q

/-- A guest's keys are destroyed: nothing of its window can be read in plain form any more (R427); what a read of the enciphered bytes
gives is free. DESIGN CHOICE (log entry 46). -/
def State.keysGone (s : State) (g : Nat) : State :=
  if !bit s.depot.keys g then s
  else
    let n := s.windowBytes g
    let t := s.memWrite (s.obj 0x6021 2 g) ((List.range n).map fun k => (Config.freeWord (s.freeCtr + k)).setWidth 8)
    { t with freeCtr := s.freeCtr + n, depot := { s.depot with keys := clearBit s.depot.keys g } }

/-- A wipe begins (R428 steps 1 and 2): queues and virtual function disabled, descriptors discarded, keys destroyed. -/
def State.wipeStart (s : State) (g : Nat) : State :=
  if s.guestState g = 0 || s.guestState g = 5 then s
  else
    let v := s.guest g
    let s := (s.guestQueues g).foldl (fun s q => s.queueOff v.fleet q) s
    let s := ((s.dropJobs (g + 1)).dropPath (0x11 + g)).setObj 0x6021 4 5 g
    let s := s.setGuest g { Guest.none with fleet := v.fleet, stopped := true }
    { s.keysGone g with depot := { s.depot with
      keys := clearBit s.depot.keys g
      pulls := s.depot.pulls.filter fun p => p.guest != some g } }

/-- A wipe ends (R428 steps 3 to 5); a local guest that has been enabled again meanwhile starts: window, polders, directories and counter banks are clear, the map is gone; a worker's
engines return to partition 0. -/
def State.wipeDone (s : State) (g : Nat) : State :=
  if s.guestState g != 5 then s
  else
    let fleet := (s.guest g).fleet
    let s := s.memZero (s.obj 0x6021 2 g) (s.windowBytes g)
    let s := (s.guestEngines g).foldl (fun s e =>
      let s := (s.resetEngine e).scrubStore e
      let s := s.modEngine e fun v => { v with dike := none }
      if fleet then s.selfWrite 0x6010 (e + 1) 0 0 false else s) s
    let s := { s with banks := s.banks.filter fun b => b.1 % 16 != g + 1 }
    let s := ((s.removeMap g).setObj 0x6021 4 0 g).bump 0x6021 8 g
    let s := if fleet then
        ((((s.setObj 0x6021 1 0 g).setObj 0x6021 6 0 g).setObj 0x6021 7 0 g).setObj 0x6021 2 0 g).setObj 0x6021 3 0 g
      else s
    let s := s.setGuest g Guest.none
    if !fleet && s.pw.mode = .depot && s.obj 0x6100 0x0A = 2 && s.objB 0x6021 1 g then s.localStart g else s

/-- Write zero over all cellar outside the host region (R421, R429). -/
def State.zeroOutside (s : State) : State := s.memZero 0 s.hostRegion

/-! ## Fleet messages (R430 to R432) -/

/-- Whether the device is a worker, or a manager, of the fleet: the personality in force since the entry to DEPOT (R420,
R439). -/
def State.isWorker (s : State) : Bool := s.depot.role = 1 && s.obj 0x6100 0x0A != 0
/-- A manager serves in DEPOT. -/
def State.isManager (s : State) : Bool := s.depot.role = 2 && s.obj 0x6100 0x0A = 2 && s.pw.mode = .depot

/-- The 24-byte head (R430). -/
def fleetHead (type status serial job seq : Nat) : List Byte :=
  leBytes 1 type ++ leBytes 1 status ++ leBytes 2 0 ++ leBytes 8 serial ++ leBytes 8 job ++ leBytes 4 seq

/-- Send a fleet message (layer 0x20) or a checkpoint message (layer 0x21): it takes the next sequence number; with types that
answer it, it waits for its answer (R430, R431, R447). The message sent, and the state. -/
def State.fleetSend (s : State) (layer dst type status serial job : Nat) (body : List Byte) (answers : List Nat) :
    List Byte × State :=
  let n := s.depot.seq
  let m := fuindMsg layer s.deviceId 0xFF (fleetHead type status serial job n ++ body)
  let s := { s with depot := { s.depot with seq := (n + 1) % 2 ^ 32 } }
  let s := if answers.isEmpty then s
    else { s with depot := { s.depot with outbox := s.depot.outbox ++
      [{ seq := n, dst := dst, layer := layer, body := m, answers := answers }] } }
  (m, s.emit (.udp dst 41720 m))

/-- A worker sends to its manager, under its own serial. -/
def State.workerSend (s : State) (layer type status job : Nat) (body : List Byte) (answers : List Nat) : State :=
  (s.fleetSend layer (s.obj 0x6100 6) type status (s.obj 0x2000 6) job body answers).2

/-- Free engines: healthy and in partition 0 (R432). -/
def State.freeEngines (s : State) : List Nat :=
  (List.range 48).filter fun e => s.obj 0x6010 (e + 1) = 0 && s.level e < 3

/-- Free cellar outside the host region and outside every window, in 2 MiB units (R432). -/
def State.freeUnits (s : State) : Nat :=
  s.hostRegion / 2 ^ 21 - (List.range 8).foldl (fun n g => if s.guestState g = 0 then n else n + s.obj 0x6021 3 g) 0

/-- Whether a guest holds a fleet job that is not over. -/
def State.holdsJob (s : State) (g : Nat) : Bool :=
  (s.guest g).fleet && (s.guest g).closing.isNone && s.guestState g != 0 && s.guestState g != 5

/-- The heartbeat body (R432). -/
def State.beatBody (s : State) : List Byte :=
  let guests := (List.range 8).filter fun g => s.guestState g != 0
  leBytes 1 s.pw.mode.code ++
  leBytes 1 ((if s.objB 0x2001 3 then 1 else 0) + (if s.throttling then 2 else 0) +
    (if s.pw.mode = .handover then 4 else 0) + (if s.objB 0x6100 0x0D then 0 else 8)) ++
  leBytes 1 ((List.range 48).filter fun e => s.level e < 4).length ++ leBytes 1 s.freeEngines.length ++
  leBytes 1 (8 - guests.length) ++ leBytes 1 (guests.filter s.holdsJob).length ++
  leBytes 2 (s.obj 0xB003 1) ++ leBytes 4 s.freeUnits ++ leBytes 4 0

/-- Send JOIN (R431). -/
def State.sendJoin (s : State) : State := s.workerSend 0x20 0x10 0 0 s.beatBody [0x11]

/-- Send JOB_DONE with a status and a manifest hash (R436); the sequence number it took. -/
def State.sendDone (s : State) (job status hash : Nat) : Nat × State :=
  (s.depot.seq, s.workerSend 0x20 0x26 status job (leBytes 32 hash) [0x13])

/-- Send JOB_EVICTED (R436). -/
def State.sendEvicted (s : State) (job hash : Nat) : State := s.workerSend 0x20 0x28 0 job (leBytes 32 hash) [0x13]

/-! ## DEPOT entry (R419 to R421) -/

/-- DEPOT commits: the entry wipe runs, guests stay out (R421). -/
def State.depotEnter (s : State) : State :=
  ({ s with depot := { Depot.idle with seq := s.depot.seq, role := s.obj 0x6100 2 } }.setObj 0x6100 0x0D 0).setObj 0x6100 0x0A 1

/-- The entry wipe ends (R421). -/
def State.entryWiped (s : State) : State :=
  let s := s.zeroOutside
  let s := ((List.range 48).filter fun e => s.obj 0x6010 (e + 1) != 0).foldl (fun s e => s.scrubStore e) s
  let s := s.setObj 0x6100 0x0A 2
  if s.depot.role = 0 then
    (List.range 8).foldl (fun s g => if s.objB 0x6021 1 g then s.localStart g else s) s
  else if s.depot.role = 1 then s.sendJoin
  else s

/-! ## HANDOVER (R437, R439, R441) -/

/-- Stop a guest: submissions are refused, its contexts stop at an instruction boundary (R437). -/
def State.stopGuest (s : State) (g : Nat) : State :=
  (s.modGuest g fun v => { v with stopped := true }).setObj 0x6021 4 3 g

/-- A stopped guest resumes where it stopped. -/
def State.resumeGuest (s : State) (g : Nat) : State :=
  (s.modGuest g fun v => { v with stopped := false, ckpt := none }).setObj 0x6021 4 2 g

/-- A manager leaves DEPOT: its store, index and job table are lost (R450, R455). -/
def State.storeLost (s : State) : State :=
  { s with depot := { s.depot with workers := [], jobs := [], chunks := [], manifests := [], offers := [], pulls := [], outbox := [] } }

/-- HANDOVER commits from DEPOT: LEAVE with its reason, every guest stops (R439), and a manager loses its store. -/
def State.handoverStart (s : State) : State :=
  let reason := if s.pw.ign then 1 else if !s.pw.shore then 2 else 3
  let s := { s with depot := { s.depot with t0 := s.now, reason := reason } }
  let s := if s.depot.role = 2 then s.storeLost else s
  let s := if s.isWorker then s.workerSend 0x20 0x14 reason 0 [] [0x11] else s
  let s := s.setObj 0x6100 0x0A 3
  (List.range 8).foldl (fun s g => if s.guestState g = 2 then s.stopGuest g else s) s

/-- Whether nothing of a guest is outstanding: its contexts have stopped, issued TOPs have finished, triggered requests have
completed (R437). -/
def State.guestQuiet (s : State) (g : Nat) : Bool :=
  (s.sched.jobs.filter fun j => j.part = g + 1 && j.phase = .running).all fun j => s.jobQuiet j

/-- The exit wipe starts (R429). -/
def State.exitWipe (s : State) : State :=
  ((List.range 8).foldl (fun s g => s.wipeStart g) s).setObj 0x6100 0x0A 5

/-- A fleet guest is abandoned: JOB_EVICTED with an all-zero hash (R439, R449). -/
def State.abandon (s : State) (g : Nat) : State :=
  let job := s.obj 0x6021 6 g
  let s := s.modGuest g fun v => { v with ckpt := none, restore := none, closing := some 0 }
  ((s.setObj 0x6022 2 0x11 g).bump 0x6100 0x0C).sendEvicted job 0

/-- Every fleet guest whose checkpoint is not complete is abandoned, and the exit wipe starts (R439). -/
def State.abandonAll (s : State) : State :=
  ((List.range 8).foldl (fun s g => if s.holdsJob g then (s.abandon g).wipeStart g else s) s).exitWipe

/-- SAFE commits in DEPOT or HANDOVER: no checkpoint; the keys are destroyed, so that no guest byte can be read any more
(R427, R441); the fleet is left. -/
def State.depotSafe (s : State) : State :=
  let s := (List.range 8).foldl (fun s g => s.keysGone g) s
  (s.storeLost.setObj 0x6100 0x0D 0).setObj 0x6100 0x0A 0

end Sys2Proof.Machine
end

