-- ==== Sys2Proof/Machine/FleetOps.lean ====
section
/-! DEFINITION. Fleet messages, checkpoints and restores: what a worker and a manager do with what reaches them (R430 to R442,
R443 to R456). -/

namespace Sys2Proof.Machine

open Sys2Proof

/-! ## Receiving (R430, R431, R434, R447, R466) -/

/-- The operation lengths of the fleet layer, head included; 0 for a reserved type (R431). -/
def fleetLen (type : Nat) : Nat :=
  match type with
  | 0x10 => 40
  | 0x11 => 24
  | 0x12 => 40
  | 0x13 => 24
  | 0x14 => 24
  | 0x20 => 88
  | 0x21 => 24
  | 0x22 => 24
  | 0x23 => 24
  | 0x24 => 24
  | 0x25 => 56
  | 0x26 => 56
  | 0x27 => 24
  | 0x28 => 56
  | _ => 0

/-- Whether a checkpoint body has the length of its operation (R447); a reserved operation has none. -/
def ckptFits (b : List Byte) : Bool :=
  match field b 0 1 with
  | 1 => 1 ≤ field b 24 2 && field b 24 2 ≤ 128 && b.length = 28 + 32 * field b 24 2
  | 2 => b.length = 44
  | 3 => b.length = 576
  | 4 => 1 ≤ field b 58 2 && field b 58 2 ≤ 1024 && b.length = 64 + field b 58 2
  | 5 => b.length = 56
  | 6 => b.length = 60
  | 7 => b.length = 60
  | 8 => b.length = 60
  | _ => false

/-- A message of the manager reaches a worker; one on the edge of the manager's loss prevails, and is a near-miss (R211, R434). -/
def State.managerHeard (s : State) : State :=
  let s := if s.objB 0x6100 0x0D then s.nearEdge s.depot.heard (1000 * s.obj 0x6100 8) else s
  { s with depot := { s.depot with heard := s.now } }

/-- A message of a fleet layer that reaches the fleet port, for the row of one operation: what another row names has no
effect here. A job message ends DOZE (R61). -/
def State.fleetIn (s : State) (layer op src : Nat) (m : List Byte) (act : State → State) : State :=
  let b := msgBody m
  let o := field b 0 1
  if !s.pw.mode.awake || s.ownAddr (s.obj 0x6100 5) = 0 then s
  else
    let s := s.bump 0xA010 3
    let reserved : Bool := if layer = 0x20 then fleetLen o = 0 else o = 0 || 8 < o
    let fits : Bool := if layer = 0x20 then b.length = fleetLen o else ckptFits b
    if !msgOk udpBody m || b.length < 24 then s.bump 0xA010 4
    else if field m 0 1 != layer || !(s.isWorker || s.isManager) then s
    else if (s.isWorker && src != s.obj 0x6100 6) || reserved then s.bump 0x6100 0x0E
    else if !fits then s.bump 0xA010 4
    else if o != op then s
    else
      let s := if s.isWorker then s.managerHeard else s
      act (if layer = 0x20 && 0x20 ≤ o then s.endDoze else s)

/-- Act on a message once; a repeat gets the same answer again (R431). -/
def State.once (s : State) (src : Nat) (m : List Byte) (act : State → State) : State :=
  let seq := field (msgBody m) 20 4
  match s.depot.acted.find? fun a => a.1 = src && a.2.1 = seq with
  | some (_, _, ans) => if ans.isEmpty then s else s.emit (.udp src 41720 ans)
  | none => act { s with depot := { s.depot with acted := s.depot.acted ++ [(src, seq, [])] } }

/-- Answer a message, and keep the answer for its repeats. -/
def State.fleetAnswer (s : State) (src seq layer type status serial job : Nat) (body : List Byte) : State :=
  let r := s.fleetSend layer src type status serial job body []
  { r.2 with depot := { r.2.depot with acted := r.2.depot.acted.map fun a =>
    if a.1 = src && a.2.1 = seq then (src, seq, r.1) else a } }

/-- The first waiting message that a type answers, for a job: its sequence number. -/
def State.answered? (s : State) (layer type job : Nat) : Option FleetMsg :=
  s.depot.outbox.find? fun f => f.layer = layer && f.answers.contains type && field f.body 28 8 = job

/-- A waiting message has its answer. -/
def State.clearOutbox (s : State) (seq : Nat) : State :=
  { s with depot := { s.depot with outbox := s.depot.outbox.filter fun f => f.seq != seq } }

/-- Clear the first waiting message that a type answers, for a job. -/
def State.answeredBy (s : State) (layer type job : Nat) : State :=
  match s.answered? layer type job with
  | some f => s.clearOutbox f.seq
  | none => s

/-- The worker's guest that holds a job. -/
def State.guestOfJob (s : State) (job : Nat) : Option Nat :=
  (List.range 8).find? fun g => (s.guest g).fleet && s.guestState g != 0 && s.guestState g != 5 && s.obj 0x6021 6 g = job

/-! ## Hashes, chunks and manifests (R444 to R446, R448) -/

/-- A SHA-256 as the number of its 32 bytes. -/
def hashOf (bs : List Byte) : Nat := leVal (sha256 bs)

/-- Chunks of a window (R444). -/
def State.chunkCount (s : State) (g : Nat) : Nat := (s.obj 0x6021 3 g + 1) / 2

/-- The bytes of a chunk of a window. -/
def State.chunk (s : State) (g k : Nat) : List Byte :=
  s.memBytes (s.obj 0x6021 2 g + k * 0x400000) (min 0x400000 (s.windowBytes g - k * 0x400000))

/-- A queue record (R446). -/
def State.queueRecord (s : State) (i q : Nat) : List Byte :=
  leBytes 2 i ++ leBytes 2 (s.obj 0x6000 8 q) ++ leBytes 8 (s.obj 0x6000 7 q) ++ leBytes 4 (s.queue q).next ++
  leBytes 4 (s.queue q).consumed ++ leBytes 4 (s.obj 0x6001 4 q) ++ zeros 8

/-- A job record (R446). -/
def jobRecord (i : Nat) (j : Job) : List Byte :=
  j.desc ++ (if j.phase = .ended then j.record else zeros 32) ++ leBytes 2 i ++
  leBytes 1 (match j.phase with | .pending => 1 | .running => 2 | .ended => 3) ++ leBytes 1 0 ++ leBytes 4 j.seq ++ zeros 24

/-- A chunk entry (R446). -/
def State.chunkEntry (s : State) (g k : Nat) : List Byte :=
  let b := s.chunk g k
  if allZero b then zeros 32 ++ leBytes 4 b.length ++ leBytes 1 1 ++ zeros 3
  else sha256 b ++ leBytes 4 b.length ++ leBytes 1 0 ++ zeros 3

/-- The manifest of a guest (R445). -/
def State.manifestOf (s : State) (g : Nat) (c : Ckpt) : List Byte :=
  let qs := s.guestQueues g
  let jobs := (qs.zip (List.range qs.length)).flatMap fun p => (s.queueJobs p.1).map fun j => jobRecord p.2 j
  let n := s.chunkCount g
  let b := leBytes 4 0x4D435953 ++ leBytes 2 1 ++ leBytes 2 128 ++ leBytes 4 (128 + 32 * qs.length + 128 * jobs.length + 40 * n + 4) ++
    leBytes 8 (s.obj 0x6021 6 g) ++ leBytes 8 (s.obj 0x6021 7 g) ++ leBytes 8 (s.obj 0x2000 6) ++ leBytes 8 c.ns ++
    leBytes 4 ((s.guest g).ckNum + 1) ++ leBytes 1 c.purpose.kind ++ leBytes 1 (s.guestEngines g).length ++ leBytes 1 qs.length ++
    leBytes 1 0 ++ leBytes 4 (s.obj 0x6021 3 g) ++ leBytes 4 jobs.length ++ leBytes 4 n ++ leBytes 32 (s.guest g).parent ++ zeros 32
  let b := b ++ (qs.zip (List.range qs.length)).flatMap (fun p => s.queueRecord p.2 p.1) ++ jobs.flatten ++
    (List.range n).flatMap fun k => s.chunkEntry g k
  b ++ leBytes 4 (crc32c b)

/-- The offset of a manifest's chunk entries, and their number. -/
def chunksAt (m : List Byte) : Nat := 128 + 32 * field m 50 1 + 128 * field m 56 4
/-- The number of chunk entries. -/
def chunksIn (m : List Byte) : Nat := field m 60 4
/-- A chunk entry's hash; 0 for a zero chunk. -/
def chunkHash (m : List Byte) (k : Nat) : Nat := if field m (chunksAt m + 40 * k + 36) 1 = 1 then 0 else field m (chunksAt m + 40 * k) 32
/-- A chunk entry's length. -/
def chunkLen (m : List Byte) (k : Nat) : Nat := field m (chunksAt m + 40 * k + 32) 4

/-- Whether a manifest's header obeys R445 and its CRC-32C holds (R448). -/
def manifestOk (m : List Byte) : Bool :=
  field m 0 4 = 0x4D435953 && field m 4 2 = 1 && field m 6 2 = 128 && field m 8 4 = m.length &&
  m.length = chunksAt m + 40 * chunksIn m + 4 && 1 ≤ field m 48 1 && field m 48 1 ≤ 6 && 1 ≤ field m 49 1 && field m 49 1 ≤ 48 &&
  1 ≤ field m 50 1 && field m 50 1 ≤ 64 && field m 51 1 = 0 && 1 ≤ field m 52 4 && field m 52 4 ≤ 23552 && field m 56 4 ≤ 4096 &&
  chunksIn m = (field m 52 4 + 1) / 2 && allZero (slice m 96 32) && field m (m.length - 4) 4 = crc32c (m.take (m.length - 4))

/-- The distinct data-chunk hashes of a manifest, in order of first chunk. -/
def dataHashes (m : List Byte) : List Nat :=
  (((List.range (chunksIn m)).filter fun k => field m (chunksAt m + 40 * k + 36) 1 = 0).map fun k => chunkHash m k).eraseDups

/-- The first chunk of a manifest that names a hash. -/
def chunkOf (m : List Byte) (h : Nat) : Nat :=
  ((List.range (chunksIn m)).find? fun k => field m (chunksAt m + 40 * k + 36) 1 = 0 && chunkHash m k = h).getD 0xFFFFFFFF

/-! ## Pulling an object (R447, R448) -/

/-- The segments of a length. -/
def segments (len : Nat) : Nat := (len + 1023) / 1024

/-- The bytes that the segments of a pull make so far, in order, up to the first one missing. -/
def pullRun (segs : Amap (List Byte)) (fuel k : Nat) : List Byte :=
  match fuel with
  | 0 => []
  | f + 1 =>
    let b := Amap.get [] segs k
    if b.isEmpty then [] else b ++ pullRun segs f (k + 1)

/-- The whole object, once every segment has arrived. DESIGN CHOICE (log entry 29): the length of an object that the receiver
does not know is a manifest's own length field, and for a chunk 4 MiB, or 2 MiB where those bytes have its hash. -/
def Pull.whole (p : Pull) : Option (List Byte) :=
  let b := pullRun p.segs 4096 0
  if p.len != 0 then (if p.len ≤ b.length then some (b.take p.len) else none)
  else if p.manifest then
    if b.length < 128 then none
    else if 0x400000 < field b 8 4 || field b 8 4 ≤ b.length then some (b.take (field b 8 4)) else none
  else if b.length = 0x400000 then some b
  else if b.length = 0x200000 && hashOf b = p.hash then some b
  else none

/-- The body of a PULL for the segments that are still missing. -/
def Pull.request (p : Pull) : List Byte :=
  let n := if p.len = 0 then 4096 else segments p.len
  let bits := (List.range 4096).foldl (fun v k => if k < n && (Amap.get [] p.segs k).isEmpty then setBit v k else v) 0
  leBytes 32 p.hash ++ leBytes 4 (if p.len = 0 then 0x400000 else p.len) ++ leBytes 1 (if p.manifest then 1 else 0) ++ zeros 3 ++
    leBytes 512 bits

/-- Forget a pull and the PULLs that wait for it. -/
def State.dropPull (s : State) (hash : Nat) : State :=
  { s with depot := { s.depot with
    pulls := s.depot.pulls.filter fun p => p.hash != hash
    outbox := s.depot.outbox.filter fun f => !(f.layer = 0x21 && field f.body 16 1 = 3 && field f.body 40 32 = hash) } }

/-- Send a pull's PULL in place of an earlier one. -/
def State.sendPull (s : State) (p : Pull) : State :=
  let s := { s with depot := { s.depot with
    outbox := s.depot.outbox.filter fun f => !(f.layer = 0x21 && field f.body 16 1 = 3 && field f.body 40 32 = p.hash) } }
  let s := { s with depot := { s.depot with pulls := s.depot.pulls.map fun (q : Pull) =>
    if q.hash = p.hash && q.src = p.src then { q with at_ := s.now } else q } }
  (s.fleetSend 0x21 p.src 3 0 p.worker p.job p.request [4, 5]).2

/-- Begin to pull an object. -/
def State.pull (s : State) (p : Pull) : State :=
  { s with depot := { s.depot with pulls := (s.depot.pulls.filter fun (q : Pull) => q.hash != p.hash) ++ [p] } }.sendPull p

/-- Send the wanted segments of an object that the device holds (R447). -/
def State.serveObject (s : State) (dst : Nat) (m data : List Byte) : State :=
  let b := msgBody m
  let h := field b 24 32
  (List.range (segments data.length)).foldl (fun s k =>
    if bit (field b 64 512) k then
      let d := slice data (1024 * k) 1024
      (s.fleetSend 0x21 dst 4 0 (field b 4 8) (field b 12 8) (leBytes 32 h ++ leBytes 2 k ++ leBytes 2 d.length ++ zeros 4 ++ d) []).2
    else s) s

/-- Answer NOT_HELD. -/
def State.notHeld (s : State) (dst : Nat) (m : List Byte) : State :=
  let b := msgBody m
  (s.fleetSend 0x21 dst 5 0 (field b 4 8) (field b 12 8) (leBytes 32 (field b 24 32)) []).2

/-! ## A worker's checkpoint (R437, R439, R449) -/

/-- A checkpoint of a guest begins: the guest stops, and is then captured; none while its partition is being reset (R436 step 5,
R441). -/
def State.ckptStart (s : State) (g : Nat) (why : CkptFor) : State :=
  if s.resetting (g + 1) then s
  else
    let c : Ckpt := { purpose := why, hashed := 0, asked := [], queried := [], lacking := [], manifest := [], name := 0, offered := false,
                      ns := 0 }
    (((s.stopGuest g).modGuest g fun v => { v with ckpt := some c }).setObj 0x6021 4 4 g).setObj 0x6022 3 0 g

/-- The checkpoint phase of HANDOVER goes on: with the manager lost, or with no guest left, the exit wipe starts; guests whose
job has not started yet are abandoned; else the lowest guest is checkpointed (R439). -/
def State.handoverNext (s : State) : State :=
  if s.pw.mode != .handover || s.obj 0x6100 0x0A != 4 then s
  else if !s.objB 0x6100 0x0D then s.abandonAll
  else
    let s := (List.range 8).foldl (fun s g =>
      if s.holdsJob g && (s.guestState g = 1 || (s.guest g).restore.isSome) then s.abandon g else s) s
    match (List.range 8).find? fun g => s.holdsJob g with
    | none => s.exitWipe
    | some g => if (s.guest g).ckpt.isSome then s else s.ckptStart g .handover

/-- Scan the window from a chunk for new data hashes, at most 128: the next chunk, and the hashes. -/
def State.hashScan (s : State) (g : Nat) (old : List Nat) (fuel k : Nat) (new : List Nat) : Nat × List Nat :=
  match fuel with
  | 0 => (k, new)
  | f + 1 =>
    if 128 ≤ new.length then (k, new)
    else
      let b := s.chunk g k
      let h := hashOf b
      if allZero b || old.contains h || new.contains h then s.hashScan g old f (k + 1) new
      else s.hashScan g old f (k + 1) (new ++ [h])

/-- When the window is done and every query answered, the manifest is built and offered (R449 step 4). -/
def State.ckptOffer (s : State) (g : Nat) : State :=
  match (s.guest g).ckpt with
  | none => s
  | some c =>
    if c.hashed < s.chunkCount g || !c.asked.isEmpty || c.offered then s
    else
      let m := s.manifestOf g c
      let h := hashOf m
      let s := s.modGuest g fun v => { v with ckpt := some { c with manifest := m, name := h, offered := true } }
      s.workerSend 0x21 6 0 (s.obj 0x6021 6 g) (leBytes 32 h ++ leBytes 4 m.length) [7]

/-- The next hashes are ready (R449 steps 1 and 2). -/
def State.hashBatch (s : State) (g : Nat) : State :=
  match (s.guest g).ckpt with
  | none => s
  | some c =>
    if !s.guestQuiet g || s.chunkCount g ≤ c.hashed then s
    else
      let r := s.hashScan g c.queried (s.chunkCount g - c.hashed) c.hashed []
      let c := { c with hashed := r.1, queried := c.queried ++ r.2, ns := if c.hashed = 0 then s.nowNs else c.ns,
                        asked := if r.2.isEmpty then c.asked else c.asked ++ [(s.depot.seq, r.2)] }
      let s := (s.modGuest g fun v => { v with ckpt := some c }).setObj 0x6022 3 r.1 g
      let s := if r.2.isEmpty then s
        else s.workerSend 0x21 1 0 (s.obj 0x6021 6 g) (leBytes 2 r.2.length ++ zeros 2 ++ r.2.flatMap (leBytes 32)) [2]
      s.ckptOffer g

/-- A HAVE_REPLY answers the oldest query of its size. -/
def State.haveReply (s : State) (g : Nat) (b : List Byte) : State :=
  match (s.guest g).ckpt with
  | none => s
  | some c =>
    match c.asked.find? fun a => a.2.length = field b 24 2 with
    | none => s
    | some a =>
      let lack := ((a.2.zip (List.range 128)).filter fun p => !bit (field b 28 16) p.2).map (·.1)
      let c := { c with asked := c.asked.erase a, lacking := c.lacking ++ lack }
      ((s.clearOutbox a.1).modGuest g fun v => { v with ckpt := some c }).ckptOffer g

/-- A checkpoint has been taken: the message that R436 names follows, and what comes after it. -/
def State.ckptTaken (s : State) (g : Nat) (c : Ckpt) : State :=
  let job := s.obj 0x6021 6 g
  let s := (s.setObj 0x6022 1 c.name g).setObj 0x6022 2 0x10 g
  let s := s.modGuest g fun v => { v with ckNum := v.ckNum + 1, parent := c.name, ckpt := none, reoffer := false }
  let done (s : State) (st : Nat) : State :=
    let r := s.sendDone job st c.name
    r.2.modGuest g fun v => { v with closing := some r.1 }
  match c.purpose with
  | .evict => if s.pw.mode = .handover then ((s.sendEvicted job c.name).modGuest g fun v => { v with closing := some 0 }).handoverNext
      else (s.sendEvicted job c.name).wipeStart g
  | .handover =>
    match (s.guest g).finish with
    | some st => (done s st).handoverNext
    | none => ((s.sendEvicted job c.name).modGuest g fun v => { v with closing := some 0 }).handoverNext
  | .result st => (done s st).handoverNext
  | _ => (s.workerSend 0x20 0x25 0 job (leBytes 32 c.name) [0x13]).resumeGuest g

/-- A checkpoint has not been taken (R449). -/
def State.ckptNotTaken (s : State) (g : Nat) (c : Ckpt) (status chunk : Nat) : State :=
  let s := s.setObj 0x6022 2 0x11 g
  let s := if status = 2 then s.setObj 0x6022 5 chunk g else s
  if s.pw.mode = .handover then (s.abandon g).handoverNext
  else
    match c.purpose with
    | .result _ => s.modGuest g fun v => { v with reoffer := true }
    | .periodic => s.resumeGuest g
    | .requested => s.resumeGuest g
    | _ => (s.abandon g).wipeStart g

/-- MANIFEST_RESULT for a guest's manifest; one that arrives on the edge at which the checkpoint limit expires prevails (R441). -/
def State.manifestResult (s : State) (g : Nat) (b : List Byte) : State :=
  match (s.guest g).ckpt with
  | none => s
  | some c =>
    if !c.offered || field b 24 32 != c.name then s
    else
      let s := s.answeredBy 0x21 7 (s.obj 0x6021 6 g)
      let s := if s.pw.mode = .handover && s.now = s.depot.t0 + 1000 * s.obj 0x6100 4 then s.nearMiss else s
      if field b 1 1 = 0 then s.ckptTaken g c else s.ckptNotTaken g c (field b 1 1) (field b 56 4)

/-- What a worker's guest holds of a pulled object (R449 step 3). -/
def State.guestObject (s : State) (g hash : Nat) (manifest : Bool) : Option (List Byte) :=
  match (s.guest g).ckpt with
  | none => none
  | some c =>
    if manifest then (if c.offered && c.name = hash then some c.manifest else none)
    else ((List.range (s.chunkCount g)).map fun k => s.chunk g k).find? fun b => !allZero b && hashOf b = hash

/-- A guest job has completed with user status 0xFF or 0xFE: the fleet job is over (R436 step 4); during quiesce and the
checkpoints of HANDOVER, the checkpoint there is the result (R441). -/
def State.guestFinish (s : State) (g user : Nat) : State :=
  if !s.holdsJob g || (user != 0xFF && user != 0xFE) then s
  else
    let st := 0xFF - user
    if s.pw.mode = .handover then s.modGuest g fun v => { v with finish := some st }
    else
      match (s.guest g).ckpt with
      | none => s.ckptStart g (.result st)
      | some c => s.modGuest g fun v => { v with ckpt := some { c with purpose := .result st } }

/-- The partition of a fleet guest has been reset after a job fault: JOB_DONE with status 0x02, and the wipe (R436 step 5). -/
def State.guestFaulted (s : State) (g : Nat) : State :=
  if !s.holdsJob g then s else ((s.sendDone (s.obj 0x6021 6 g) 2 0).2.wipeStart g).handoverNext

/-! ## A worker's restore (R452) -/

/-- A restore fails: RESTORE_FAILED, JOB_DONE with status 0x01, and the wipe. -/
def State.restoreFail (s : State) (g status chunk hash : Nat) : State :=
  let job := s.obj 0x6021 6 g
  let s := s.setObj 0x6022 2 status g
  let s := if chunk = 0xFFFFFFFF then s else s.setObj 0x6022 5 chunk g
  let s := s.workerSend 0x21 8 status job (leBytes 32 hash ++ leBytes 4 chunk) []
  ((s.sendDone job 1 0).2.wipeStart g).handoverNext

/-- The manifest that a guest's offer names (R433). -/
def State.offerManifest (s : State) (g : Nat) : Nat := field (s.guest g).offer 32 32

/-- Pull an object for a guest from the manager. -/
def State.guestPull (s : State) (g hash len : Nat) (manifest again : Bool) : State :=
  s.pull { hash := hash, len := len, manifest := manifest, src := s.obj 0x6100 6, worker := s.obj 0x2000 6, job := s.obj 0x6021 6 g,
           segs := [], again := again, guest := some g, at_ := s.now }

/-- A fleet guest has started: its restore begins. -/
def State.restoreStart (s : State) (g : Nat) : State :=
  (s.modGuest g fun v => { v with restore := some { manifest := [], wanted := [] } }).guestPull g (s.offerManifest g) 0 true false

/-- A recorded job comes back to its queue (R452 step 5). -/
def State.restoreJob (s : State) (g : Nat) (qs : List Nat) (r : List Byte) : State :=
  let q := qs.getD (field r 96 2) 0
  let d := r.take 64
  let c := slice r 64 32
  let held : Bool := field r 98 1 = 3
  let j : Job :=
    { id := s.sched.nextId, queue := q, seq := field r 100 4, desc := d, prio := s.obj 0x6000 3 q, part := g + 1,
      phase := if held then .ended else .pending, engine := if held then field c 10 1 else 0xFF, slots := [], cancelling := false,
      status := field c 8 1, user := field c 9 1, ecode := field c 11 1, acceptNs := s.nowNs,
      startNs := field c 16 8, endNs := field c 24 8 }
  { s with sched := { s.sched with jobs := s.sched.jobs ++ [j], nextId := s.sched.nextId + 1 } }.occupancy q

/-- The window is whole: queues and jobs are restored, and JOB_STARTED is sent (R452 steps 4 and 5, R436 step 2). -/
def State.restoreFinish (s : State) (g : Nat) (m : List Byte) : State :=
  let qs := s.guestQueues g
  let s := (qs.zip (List.range qs.length)).foldl (fun s p =>
    let r := slice m (128 + 32 * p.2) 32
    let s := (s.selfWrite 0x6000 7 (field r 4 8) p.1 true).selfWrite 0x6000 8 (field r 2 2) p.1 true
    let s := s.setQueue p.1 { next := field r 12 4, consumed := field r 16 4 }
    (s.setObj 0x6001 4 (field r 20 4) p.1).setObj 0x6001 3 ((field r 12 4 + 2 ^ 32 - 1) % 2 ^ 32) p.1) s
  let s := (List.range (field m 56 4)).foldl (fun s k => s.restoreJob g qs (slice m (128 + 32 * field m 50 1 + 128 * k) 128)) s
  let h := s.offerManifest g
  let s := (s.setObj 0x6022 1 h g).setObj 0x6022 2 0x20 g
  let s := s.modGuest g fun v => { v with restore := none, parent := h, ckNum := field m 44 4 }
  s.workerSend 0x20 0x23 0 (s.obj 0x6021 6 g) [] [0x13]

/-- The next chunk of a restore is pulled, or the restore finishes. -/
def State.restoreNext (s : State) (g : Nat) (r : Restore) : State :=
  match r.wanted with
  | [] => s.restoreFinish g r.manifest
  | h :: _ => (s.modGuest g fun v => { v with restore := some r }).guestPull g h (chunkLen r.manifest (chunkOf r.manifest h)) false false

/-- The manifest of a restore has arrived: it is checked against the offer (R452 step 2). -/
def State.restoreManifest (s : State) (g : Nat) (m : List Byte) : State :=
  let o := (s.guest g).offer
  let job := s.obj 0x6021 6 g
  if field m 49 1 = field o 8 1 && field m 50 1 = field o 10 1 && field m 52 4 = field o 12 4 && field m 20 8 = field o 0 8 &&
      (field m 12 8 = 0 || field m 12 8 = job) then
    s.restoreNext g { manifest := m, wanted := dataHashes m }
  else s.restoreFail g 0x22 0xFFFFFFFF (s.offerManifest g)

/-- Write a chunk to every place where the manifest names it, within the window. -/
def State.placeChunk (s : State) (g : Nat) (m : List Byte) (h : Nat) (data : List Byte) : State :=
  (List.range (chunksIn m)).foldl (fun s k =>
    if field m (chunksAt m + 40 * k + 36) 1 = 0 && chunkHash m k = h then
      s.memWrite (s.obj 0x6021 2 g + k * 0x400000) (data.take (s.windowBytes g - k * 0x400000))
    else s) s

/-- An object that a guest's restore has pulled (R448, R452). -/
def State.guestObjectIn (s : State) (g : Nat) (p : Pull) (data : List Byte) : State :=
  match (s.guest g).restore with
  | none => s
  | some r =>
    if p.manifest then
      if hashOf data = p.hash && manifestOk data then s.restoreManifest g data
      else s.restoreFail g 0x21 0xFFFFFFFF p.hash
    else if hashOf data = p.hash then (s.placeChunk g r.manifest p.hash data).restoreNext g { r with wanted := r.wanted.tail }
    else if p.again then s.restoreFail g 0x23 (chunkOf r.manifest p.hash) (s.offerManifest g)
    else (s.bump 0x6022 8 g).guestPull g p.hash p.len false true

/-! ## The manager's store (R450, R451, R456) -/

/-- The chunk of a hash. -/
def State.storedChunk (s : State) (h : Nat) : Option (List Byte) := (s.depot.chunks.find? fun c => c.1 = h).map (·.2)

/-- The manifest of a hash. -/
def State.storedManifest (s : State) (h : Nat) : Option (List Byte) := (s.depot.manifests.find? fun c => c.1 = h).map (·.2)

/-- Bytes that the store's chunks take. -/
def State.storeBytes (s : State) : Nat := s.depot.chunks.foldl (fun n c => n + c.2.length) 0

/-- Whether a chunk fits the store: the cellar outside the host region. -/
def State.storeFits (s : State) (n : Nat) : Bool := s.storeBytes + n ≤ s.hostRegion

/-- Keep a chunk once. -/
def State.keepChunk (s : State) (h : Nat) (data : List Byte) : State :=
  if (s.storedChunk h).isSome then s else { s with depot := { s.depot with chunks := s.depot.chunks ++ [(h, data)] } }

/-- Keep a manifest once. -/
def State.keepManifest (s : State) (h : Nat) (m : List Byte) : State :=
  if (s.storedManifest h).isSome then s else { s with depot := { s.depot with manifests := s.depot.manifests ++ [(h, m)] } }

/-- The manifests that the manager keeps for a job (R451). -/
def FleetJob.kept (j : FleetJob) : List Nat := j.initial :: j.result :: j.taken

/-- Release a manifest that no job keeps any more; chunks that it named and no kept manifest names are freed (R451). -/
def State.releaseManifest (s : State) (h : Nat) : State :=
  if s.depot.jobs.any fun j => j.kept.contains h then s
  else
    match s.storedManifest h with
    | none => s
    | some m =>
      let left := s.depot.manifests.filter fun c => c.1 != h
      let gone := (dataHashes m).filter fun c => !(left.any fun k => (dataHashes k.2).contains c)
      { s with depot := { s.depot with manifests := left, chunks := s.depot.chunks.filter fun c => !gone.contains c.1 } }

/-- Answer a manifest offer, and forget it. -/
def State.offerResult (s : State) (o : OfferIn) (status chunk : Nat) : State :=
  let s := { s with depot := { s.depot with offers := s.depot.offers.filter fun (p : OfferIn) => !(p.src = o.src && p.seq = o.seq) } }
  s.fleetAnswer o.src o.seq 0x21 7 status o.worker o.job (leBytes 32 o.hash ++ leBytes 4 chunk)

/-- Offers that lack nothing any more are held (R450). -/
def State.settleOffers (s : State) : State :=
  s.depot.offers.foldl (fun s o =>
    if !o.manifest.isEmpty && o.wanted.isEmpty then (s.keepManifest o.hash o.manifest).offerResult o 0 0xFFFFFFFF else s) s

/-- A chunk does not fit in the store: the offers that lack it are answered (R450). -/
def State.chunkUnfit (s : State) (h : Nat) : State :=
  s.depot.offers.foldl (fun s o => if o.wanted.contains h then s.offerResult o 3 (chunkOf o.manifest h) else s) s

/-- A chunk is held: no offer lacks it any more. -/
def State.chunkHeld (s : State) (h : Nat) : State :=
  { s with depot := { s.depot with offers := s.depot.offers.map fun (o : OfferIn) => { o with wanted := o.wanted.filter (· != h) } } }.settleOffers

/-- The manager pulls from a worker. -/
def State.managerPull (s : State) (src worker job hash len : Nat) (manifest again : Bool) : State :=
  s.pull { hash := hash, len := len, manifest := manifest, src := src, worker := worker, job := job, segs := [], again := again,
           guest := none, at_ := s.now }

/-- A chunk cannot be had from a worker: its offers that lack the chunk are answered (R450); another worker's offer pulls it from that
worker (R455). -/
def State.chunkLost (s : State) (h src : Nat) : State :=
  let s := s.depot.offers.foldl (fun s o =>
    if o.wanted.contains h && o.src = src then s.offerResult o 2 (chunkOf o.manifest h) else s) s
  match s.depot.offers.find? fun o => o.wanted.contains h with
  | some o => s.managerPull o.src o.worker o.job h (chunkLen o.manifest (chunkOf o.manifest h)) false false
  | none => s

/-- A checked manifest of an offer: what the index lacks is pulled from the offering worker (R450). -/
def State.offerManifestIn (s : State) (o : OfferIn) (m : List Byte) : State :=
  let want := (dataHashes m).filter fun h => (s.storedChunk h).isNone
  let s := { s with depot := { s.depot with offers := s.depot.offers.map fun (p : OfferIn) =>
    if p.src = o.src && p.seq = o.seq then { p with manifest := m, wanted := want } else p } }
  (want.foldl (fun s h =>
    if s.depot.pulls.any fun p => p.hash = h then s
    else s.managerPull o.src o.worker o.job h (chunkLen m (chunkOf m h)) false false) s).settleOffers

/-- An object that the manager has pulled (R448, R450). -/
def State.storeObjectIn (s : State) (p : Pull) (data : List Byte) : State :=
  if p.manifest then
    match s.depot.offers.find? fun o => o.hash = p.hash && o.manifest.isEmpty with
    | none => s
    | some o => if hashOf data = p.hash && manifestOk data then s.offerManifestIn o data else s.offerResult o 1 0xFFFFFFFF
  else if hashOf data = p.hash then
    if s.storeFits data.length then (s.keepChunk p.hash data).chunkHeld p.hash else s.chunkUnfit p.hash
  else if p.again then s.chunkLost p.hash p.src
  else s.managerPull p.src p.worker p.job p.hash p.len false true

/-- A segment has arrived (R447, R448); one on the edge of the idle time prevails, and is a near-miss (R455, R211). -/
def State.segmentIn (s : State) (src : Nat) (b : List Byte) : State :=
  let h := field b 24 32
  match s.depot.pulls.find? fun p => p.hash = h && p.src = src with
  | none => s
  | some p =>
    let n := field b 58 2
    let s := s.nearEdge p.at_ 20000
    let p := { p with segs := Amap.set [] p.segs (field b 56 2) (slice b 64 n), at_ := s.now }
    let s := match p.guest with
      | some g => s.bump 0x6022 7 g n
      | none => s
    match p.whole with
    | none =>
      let s := { s with depot := { s.depot with
        outbox := s.depot.outbox.filter fun f => !(f.layer = 0x21 && field f.body 16 1 = 3 && field f.body 40 32 = h) } }
      { s with depot := { s.depot with pulls := s.depot.pulls.map fun q => if q.hash = h && q.src = src then p else q } }
    | some data =>
      let s := s.dropPull h
      match p.guest with
      | some g => s.guestObjectIn g p data
      | none => s.storeObjectIn p data

/-! ## The manager's workers and jobs (R435, R438) -/

/-- A worker by its serial. -/
def State.worker (s : State) (serial : Nat) : Option Worker := Amap.get none s.depot.workers serial

/-- Give a worker. -/
def State.setWorker (s : State) (serial : Nat) (w : Worker) : State :=
  { s with depot := { s.depot with workers := Amap.set none s.depot.workers serial (some w) } }

/-- Workers that are not lost. -/
def State.workersKnown (s : State) : Nat :=
  (s.depot.workers.filter fun e => e.2.any fun w => !w.lost).length

/-- Change a job of the table. -/
def State.modFleetJob (s : State) (id : Nat) (f : FleetJob → FleetJob) : State :=
  { s with depot := { s.depot with jobs := s.depot.jobs.map fun j => if j.id = id then f j else j } }

/-- A job of the table. -/
def State.fleetJob (s : State) (id : Nat) : Option FleetJob := s.depot.jobs.find? fun j => j.id = id

/-- The last manifest held for a job (R435). -/
def FleetJob.last (j : FleetJob) : Nat := if j.result != 0 then j.result else j.taken.headD j.initial

/-- A worker's heartbeat body arrives, with a JOIN or a HEARTBEAT. -/
def State.workerBeat (s : State) (src serial : Nat) (beat : List Byte) : State :=
  if (s.worker serial).isNone && 1024 ≤ s.depot.workers.length then s
  else s.setWorker serial { addr := src, beat := beat, lost := false, heard := s.now }

/-- Any message of a known worker; one on the edge of its loss expiry prevails, and is a near-miss (R435, R441). -/
def State.workerHeard (s : State) (src serial : Nat) : State :=
  match s.worker serial with
  | some w =>
    let s := if !w.lost && s.now = w.heard + 1000 * s.obj 0x6100 9 then s.nearMiss else s
    s.setWorker serial { w with addr := src, heard := s.now }
  | none => s

/-- The worker that a job is offered to next: not lost, not leaving, with enough free engines, cellar and a guest slot; the one
with the most free engines, ties to the lowest serial (R438). -/
def State.bestWorker (s : State) (j : FleetJob) : Option (Nat × Worker) :=
  let ok (w : Worker) : Bool := !w.lost && !bit (field w.beat 1 1) 2 && field j.offer 8 1 ≤ field w.beat 3 1 &&
    field j.offer 12 4 ≤ field w.beat 8 4 && 1 ≤ field w.beat 4 1
  s.depot.workers.foldl (fun best e =>
    match e.2 with
    | none => best
    | some w =>
      if !ok w || j.tried.contains e.1 then best
      else
        match best with
        | none => some (e.1, w)
        | some (k, v) => if field v.beat 3 1 < field w.beat 3 1 then some (e.1, w) else some (k, v)) none

/-- Offer a job to the next worker that qualifies, from the last manifest held for it; with none left, it is queued again
(R435, R438). -/
def State.offerJob (s : State) (j : FleetJob) : State :=
  match s.bestWorker j with
  | none => s.modFleetJob j.id fun j => { j with state := 1, worker := 0, tried := [] }
  | some (serial, w) =>
    let s := s.modFleetJob j.id fun j => { j with state := 2, worker := serial, offeredAt := s.now }
    (s.fleetSend 0x20 w.addr 0x20 0 serial j.id (j.offer.take 32 ++ leBytes 32 j.last) [0x21, 0x22]).2

/-- An answer to an outstanding offer on the edge of its 500 ms prevails, and is a near-miss (R211, R438). -/
def State.offerEdge (s : State) (j : FleetJob) : State :=
  if j.state = 2 && (s.answered? 0x20 0x22 j.id).isSome then s.nearEdge j.offeredAt 500000 else s

/-- A job's offer did not end in an acceptance: the next worker (R438). -/
def State.nextOffer (s : State) (id : Nat) : State :=
  match s.fleetJob id with
  | none => s
  | some j =>
    let j := { j with tried := j.worker :: j.tried }
    (s.modFleetJob id fun k => { k with tried := j.tried }).offerJob j

/-- Send EVICT (R431, R435). -/
def State.sendEvict (s : State) (dst serial job reason : Nat) : State :=
  (s.fleetSend 0x20 dst 0x27 reason serial job [] [0x28]).2

/-- A worker reports on a job: where the job has since been given to another worker, or is over, EVICT with reason 0x01 is the answer
(R435); else the report is recorded and acknowledged. -/
def State.workerReport (s : State) (src : Nat) (m : List Byte) (rec : State → FleetJob → State) : State :=
  let b := msgBody m
  let serial := field b 4 8
  let job := field b 12 8
  let s := s.workerHeard src serial
  let ack (s : State) : State := s.fleetAnswer src (field b 20 4) 0x20 0x13 0 serial job []
  match s.fleetJob job with
  | none => ack s
  | some j =>
    if j.worker != serial && j.state != 1 then (ack s).sendEvict src serial job 1
    else ack (rec s j)

/-- A job's manifests change: those no longer kept are released (R451). -/
def State.jobKeeps (s : State) (j : FleetJob) (f : FleetJob → FleetJob) : State :=
  let s := s.modFleetJob j.id f
  j.kept.foldl (fun s h => s.releaseManifest h) s

/-- A taken checkpoint of a job. -/
def FleetJob.take (j : FleetJob) (h : Nat) : FleetJob :=
  if h = 0 then j else { j with taken := (h :: j.taken.filter (· != h)).take 2 }

/-- A worker is lost: its jobs are queued again (R435). -/
def State.loseWorker (s : State) (serial : Nat) : State :=
  match s.worker serial with
  | none => s
  | some w =>
    if w.lost then s
    else
      let s := (s.setWorker serial { w with lost := true }).bump 0x6110 5
      (s.depot.jobs.filter fun j => j.worker = serial && (j.state = 2 || j.state = 3)).foldl (fun s j =>
        let s := { s with depot := { s.depot with outbox := s.depot.outbox.filter fun f =>
          !(f.dst = w.addr && field f.body 28 8 = j.id) } }
        (s.modFleetJob j.id fun j => { j with state := 1, worker := 0, tried := [] }).bump 0x6110 6) s

/-- You submit a job to the manager (R438). -/
def State.submitFleetJob (s : State) (offer : List Byte) : State :=
  let id := s.obj 0x6110 4 + 1
  let j : FleetJob := { id := id, offer := offer, state := 1, worker := 0, tried := [], initial := field offer 32 32, taken := [],
                        result := 0, offeredAt := 0 }
  { s with depot := { s.depot with jobs := s.depot.jobs ++ [j] } }.setObj 0x6110 4 id

/-! ## A worker's offers (R425, R433, R436) -/

/-- Whether an offer body is in range (R433). -/
def offerOk (o : List Byte) : Bool :=
  1 ≤ field o 8 1 && field o 8 1 ≤ 48 && (field o 9 1 = 2 || field o 9 1 = 3) && 1 ≤ field o 10 1 && field o 10 1 ≤ 64 &&
  field o 11 1 = 0 && 1 ≤ field o 12 4 && field o 12 4 ≤ 23552 && field o 20 8 = 0 && field o 28 4 = 0

/-- The free engines that an accepted offer takes from: with no context in use (R330). -/
def State.offerEngines (s : State) : List Nat := s.freeEngines.filter fun e => (s.inUse e).isEmpty

/-- The lowest window of a size that fits (R422, R425). -/
def State.fitWindow (s : State) (units : Nat) : Option Nat :=
  ((List.range (s.hostRegion / 2 ^ 21)).map (· * 2 ^ 21)).find? fun b => s.windowFits 8 b units

/-- The queues that are not enabled, in ascending number. -/
def State.idleQueues (s : State) : List Nat := (List.range 512).filter fun q => !s.objB 0x6000 1 q

/-- The reason to refuse an offer, 0 for none (R433). DESIGN CHOICE (log entry 5): the order. -/
def State.offerReason (s : State) (job : Nat) (o : List Byte) : Nat :=
  if !offerOk o then 7
  else if s.pw.mode != .depot || s.obj 0x6100 0x0A != 2 then 4
  else if (s.guestOfJob job).isSome then 5
  else if (List.range 8).all fun g => s.guestState g != 0 then 1
  else if s.offerEngines.length < field o 8 1 then 2
  else if s.idleQueues.length < field o 10 1 then 6
  else if (s.fitWindow (field o 12 4)).isNone then 3
  else 0

/-- Set a guest's queue up (R425): `i` of `n` rings stand at the top of the window, one 4 KiB page each. -/
def State.setQueueUp (s : State) (g q i n : Nat) (o : List Byte) (set : Nat) : State :=
  let s := s.selfWrite 0x6000 2 (g + 1) q true
  let s := s.selfWrite 0x6000 3 (field o 9 1) q true
  let s := s.selfWrite 0x6000 4 0 q true
  let s := s.selfWrite 0x6000 5 set q true
  let s := s.selfWrite 0x6000 6 64 q true
  let s := s.selfWrite 0x6000 7 (field o 12 4 * 2 ^ 21 - (n - i) * 4096) q true
  let s := s.selfWrite 0x6000 8 64 q true
  (s.selfWrite 0x6000 1 1 q true).setQueue q QueueState.fresh

/-- An offer is accepted: the guest's engines, queues and window are chosen, and it starts (R424, R425, R436 step 1). -/
def State.acceptOffer (s : State) (job : Nat) (o : List Byte) : State :=
  match (List.range 8).find? fun g => s.guestState g = 0, s.fitWindow (field o 12 4) with
  | some g, some base =>
    let es := s.offerEngines.take (field o 8 1)
    let qs := s.idleQueues.take (field o 10 1)
    let set := es.foldl setBit 0
    let s := es.foldl (fun s e => s.moveEngine e (g + 1)) s
    let s := (qs.zip (List.range qs.length)).foldl (fun s p => s.setQueueUp g p.1 p.2 qs.length o set) s
    let s := (((s.setObj 0x6021 2 base g).setObj 0x6021 3 (field o 12 4) g).setObj 0x6021 6 job g).setObj 0x6021 7 (field o 0 8) g
    s.guestStart g { Guest.none with fleet := true, offer := o }
  | _, _ => s

end Sys2Proof.Machine
end

