-- ==== Sys2Proof/Machine/DictViews.lean ====
section
/-! DEFINITION. The entries that show a state held elsewhere: what each reads as, and what a clearing read does (R67,
R124, R254, R318, R343, R376, R395, R407, R442, R456, R477, R504). -/

namespace Sys2Proof.Machine

open Sys2Proof

/-- A mask of the engines in some level (R67); an engine out of service is held off (R62). -/
def State.levelMask (s : State) (lvl : Nat) : Nat :=
  (List.range 48).foldl (fun n e => if s.level e = lvl || (lvl == 3 && s.level e = 5) then setBit n e else n) 0

/-- 0x2001:04: engines neither out of service nor fenced (R35). -/
def State.healthy (s : State) : Nat :=
  ((List.range 48).filter fun e => s.level e != 5 && s.level e != 4).length

/-- 0x4000:03: the other engine of a pair, 0xFF when single (R32, R364). -/
def State.twinOf (s : State) (e : Nat) : Nat :=
  let p := if e % 2 = 0 then e + 1 else e - 1
  if s.twinned && !s.outOfService e && !s.outOfService p then p else 0xFF

/-- 0x4020:02 of an engine (R398). -/
def State.dikeState (s : State) (e : Nat) : Nat :=
  if s.outOfService e then 5
  else
    match (s.engine (s.lead e)).dike with
    | none => 0
    | some d => if d.step = 2 then 1 else if d.step = 4 then 2 else if d.step = 5 then 3 else if d.step = 7 then 4 else 3

/-- Entries of the descriptor pool that no enabled queue holds (R329). -/
def State.descFree (s : State) : Nat :=
  16384 - (List.range 512).foldl (fun n q => if s.objB 0x6000 1 q then n + s.obj 0x6000 6 q else n) 0

/-- 0x9000:07 (R204). -/
def State.holdoverAge (s : State) : Nat :=
  match s.gptp.syncAt with
  | some t => (s.now - t) / 1000 % 2 ^ 32
  | none => 0

/-- The job that a path queries (R442). -/
def State.queriedJob (s : State) (p : Nat) : Option FleetJob := s.depot.jobs.find? fun j => j.id = (s.path p).jobIndex

/-- 0x6120 serves in manager personality in DEPOT alone (R456). -/
def State.storeServed (s : State) : Bool := s.pw.mode = .depot && s.obj 0x2001 6 = 2

/-- 0x6120:01 to 04 (R456). -/
def State.storeView (s : State) (sub : Nat) : Nat :=
  match sub with
  | 1 => s.depot.chunks.length
  | 2 => s.depot.chunks.foldl (fun n c => n + c.2.length) 0
  | 3 => s.hostRegion
  | _ => s.depot.manifests.length

/-- The entries that show a state held elsewhere, and the stored ones. -/
def State.viewMore (s : State) (p idx sub ch : Nat) : Nat ⊕ Nat :=
  if idx = 0x6120 && !s.storeServed then .inl 0x08000022
  else
    match idx, sub with
    | 0x2001, 4 => .inr s.healthy
    | 0x2001, 7 => .inr s.cascRole
    | 0x4000, 1 => .inr (s.level ch)
    | 0x4000, 3 => .inr (s.twinOf ch)
    | 0x4000, 4 => .inr (s.enginePart ch)
    | 0x4000, 5 => .inr (s.inUse ch).length
    | 0x4020, 2 => .inr (s.dikeState ch)
    | 0x4020, 3 => .inr (s.within (s.engine ch).resets (s.obj 0x5110 1)).length
    | 0x5110, 8 => .inr (s.within s.recov.resets (s.obj 0x5110 3)).length
    | 0x4810, 1 => .inr s.validSlots
    | 0x5050, 1 => .inr (if (s.path 0x38).live then 1 else 0)
    | 0x5100, 1 => .inr ((s.now - s.recov.kickAt) / 1000 % 2 ^ 32)
    | 0x6001, 1 => .inr ((s.queueJobs ch).filter (·.phase = .pending)).length
    | 0x6001, 2 => .inr ((s.queueJobs ch).filter (·.phase = .running)).length
    | 0x6011, 5 => .inr s.descFree
    | 0x6020, 4 => .inr ((List.range 48).filter fun e => s.enginePart e = ch + 1).length
    | 0x6110, 1 => .inr (s.workersKnown % 2 ^ 16)
    | 0x6110, 2 => .inr s.depot.jobs.length
    | 0x6110, 8 => .inr (match s.queriedJob p with | some j => j.state | none => 0)
    | 0x6110, 9 => .inr (match s.queriedJob p with | some j => j.worker | none => 0)
    | 0x6120, 9 => .inr (s.obj 0x6120 9)
    | 0x6120, 0x0A => .inr (s.obj 0x6120 0x0A)
    | 0x6120, k => .inr (if k = 0 then 0x0A else s.storeView k)
    | 0x9000, 7 => .inr s.holdoverAge
    | 0xA001, 1 => .inr s.cascPhase
    | 0xA001, 2 => .inr s.presentMask
    | 0xA001, 3 => .inr (if s.fuindOn && !s.casc.sameId && (s.casc.master || (s.casc.masterFlag && s.present 0)) then 0 else 0xFF)
    | 0xA002, 1 => .inr (s.portStatus 0)
    | 0xA002, 2 => .inr (s.portStatus 1)
    | 0xB010, 4 => .inr (s.levelMask 1)
    | 0xB010, 5 => .inr (s.levelMask 2)
    | 0xB010, 6 => .inr (s.levelMask 3)
    | _, _ => .inr (s.obj idx sub ch)

/-- The DOMAIN entries that show a state held elsewhere. -/
def State.domainMore (s : State) (p idx sub ch : Nat) : Nat ⊕ List Byte :=
  if idx = 0x6120 && !s.storeServed then .inl 0x08000022
  else
    match idx, sub with
    | 0x5120, 3 =>
      match s.recov.log[(s.path p).recIndex]? with
      | some b => .inr b
      | none => .inl 0x08000024
    | 0x5120, 4 => .inr s.recov.log.reverse.flatten
    | 0x6022, 1 => .inr (leBytes 32 (s.obj 0x6022 1 ch))
    | 0x6110, 0x0A =>
      match s.queriedJob p with
      | some j => .inr (leBytes 32 j.last)
      | none => .inl 0x08000024
    | 0x6120, 5 => .inr (leBytes 32 (s.path p).ckHash)
    | 0x6120, 6 =>
      match (s.depot.chunks ++ s.depot.manifests).find? fun c => c.1 = (s.path p).ckHash with
      | some c => .inr c.2
      | none => .inl 0x08000024
    | _, _ => .inl 0x08000024

/-- What a clearing read does beside returning the value (R99): the kick (R378); any other rc entry takes its default. -/
def State.clearMore (s : State) (_p idx sub ch : Nat) : State :=
  if idx = 0x5100 then s.kick else s.setObj idx sub (objDefault idx sub ch) ch

end Sys2Proof.Machine
end

