-- ==== Sys2Proof/Machine/LoopOps.lean ====
section
/-! DEFINITION. The adaptive loops: limits and disagreements, adaptive voltage, the issue duty (chapter 21, R478 to R487;
R516). -/

namespace Sys2Proof.Machine

open Sys2Proof

/-! ## Limits and disagreements (R478 to R480) -/

/-- The value a loop applies: the wanted one inside both ranges, or the hardware limit that the software range lies beyond. -/
def loopPick (f c lo hi v : Nat) : Nat :=
  if c < lo then lo else if hi < f then hi else max (max f lo) (min (min c hi) v)

/-- Append the 0xB020 journal entry, with EMCY 0xFF08 (R480). -/
def State.loopJournal (s : State) : State :=
  let n := s.obj 0xB020 1
  let s := s.journalAdd 0x3F 0xB020 1 0xFFFF s.pw.mode.code 0 s.loops.journalCount n
  let s := { s with loops := { s.loops with journalAt := some s.clk.ticks, journalCount := n, pendJournal := false } }
  (s.bump 0xB020 0x0A).raise 0xFF08 0xFF n

/-- Judge a loop's applied value against its software range; a beginning counts once (R479). -/
def State.loopJudge (s : State) (loop f c v : Nat) : State :=
  let out := v < f || c < v
  let began := out && !bit s.loops.outside loop
  let s := { s with loops := { s.loops with
    outside := if out then setBit s.loops.outside loop else clearBit s.loops.outside loop } }
  if !began then s
  else
    let s := (s.bump 0xB020 1).bump 0xB020 (2 + loop)
    let s := ((s.setObj 0xB020 7 (loop + 1)).setObj 0xB020 8 (if v < f then f else c)).setObj 0xB020 9 v
    let due : Bool := match s.loops.journalAt with
      | none => true
      | some t => t + 1000000 ≤ s.clk.ticks
    if due then s.loopJournal else { s with loops := { s.loops with pendJournal := true } }

/-- The states in which the loops run (R481). -/
def State.loopsRun (s : State) : Bool := s.pw.mode.awake && s.clk.tbRun

/-! ## Adaptive voltage (R482, R516) -/

/-- The AVS set point is written to the regulator (R516). -/
def State.avsWrite (s : State) (mv : Nat) : State :=
  let s := { s with pw := { s.pw with avsSet := mv } }
  ((s.bump 0xB030 1).setObj 0xB021 3 mv).emit (.avs mv)

/-- At a relock of FCLK the set point starts at 800 mV, or at the nearest value within the range (R482). -/
def State.avsRelock (s : State) : State :=
  s.avsWrite (loopPick (s.obj 0xB021 1) (s.obj 0xB021 2) (max 650 (s.obj 0xB021 4)) 850 800)

/-! ## The issue duty (R486) -/

/-- The thermal limit of a junction temperature in 0.1 °C. -/
def thermalLimit (t : Int) : Nat := if t ≤ 1050 then 16 else max 2 (16 - 2 * ((t - 1050 + 9) / 10).toNat)

/-- The hardware range's upper limit of d in the state in force; both limits are 16 in the states without throttling. -/
def State.dutyMax (s : State) : Nat :=
  match s.pw.mode with
  | .depot => min (s.obj 0xB023 4) (s.obj 0xB024 3)
  | .bench => min (s.obj 0xB023 4) (s.obj 0xB024 3)
  | .handover => s.obj 0xB024 3
  | _ => 16

/-- The issue duty of the state in force: the highest value the ranges allow. -/
def State.duty (s : State) : Nat :=
  let lo := if s.pw.mode = .depot || s.pw.mode = .bench || s.pw.mode = .handover then 1 else 16
  loopPick (s.obj 0xB023 1) (s.obj 0xB023 2) lo s.dutyMax 16

/-- The duty at a state change: the thermal limit and throttling hold in DEPOT and BENCH alone. -/
def State.dutyEval (s : State) : State :=
  let s := if s.pw.mode = .depot || s.pw.mode = .bench then s
    else { s with throttling := false, loops := { s.loops with recentH := [] } }.setObj 0xB023 4 16
  s.setObj 0xB023 3 s.duty

end Sys2Proof.Machine
end

