-- ==== Sys2Proof/Machine/PowerOps.lean ====
section
/-! DEFINITION. The operations of the Pumping Station: state changes, wakes, teardown, resets and the reset history
(chapters 2 and 3, R44 to R94, and R515 to R517). -/

namespace Sys2Proof.Machine

/-! ## State changes (R33, R46, R67, R116) -/

/-- Commit a state: the previous state, the transition count and time, and every unlock window closed. -/
def State.setMode (s : State) (m : Mode) : State :=
  let s := { s with pw := { s.pw with prev := s.pw.mode, mode := m } }
  ((s.bump 0xB000 5).setObj 0xB000 6 s.clk.rtc).closeWindows

/-- Show the phase of 0xB000:03 (R67). -/
def State.setPhase (s : State) (p : Nat) : State := s.setObj 0xB000 3 p

/-- Whether a transition other than OFF and SAFE may commit now: SAFE prevails over it (R47). -/
def State.mayMove (s : State) : Bool := s.pw.pendSafe.isNone && s.pw.teardown.isNone

/-- Depot enabled (R419): 0x6100:01, and outside PARKED no suspend flag 0x6100:03. -/
def State.depotOn (s : State) : Bool := s.objB 0x6100 1 && (s.pw.mode = .parked || !s.objB 0x6100 3)

/-- Depot is enabled and SHORE asserted, as the DEPOT rows of R46 ask. -/
def State.depotReady (s : State) : Bool := s.pw.shore && s.depotOn

/-- Start the drive-off count (R49). -/
def State.startDriveOff (s : State) : State :=
  { s with pw := { s.pw with driveOff := some (s.now + 1000 * s.obj 0xB000 4) } }.setPhase 5

/-- DRIVE commits (R46): FCLK at 1.0 GHz, twin pairs, the Keepers paired (R32, R81), the cascade role in force (R37),
the host watchdog armed; the drive-off count starts at once if IGN is deasserted (R49). -/
def State.enterDrive (s : State) : State :=
  let s := if s.pw.mode = .bench then s else s.sluicesStart
  let s := (s.setMode .drive).setPhase 0
  let s := { s with pw := { s.pw with readyHold := none, driveOff := none } }
  let s := ((s.setObj 0x2001 8 1000).setObj 0x2001 6 0).dutyEval
  let s := (s.engineLevels 0).watchdogArm
  if s.pw.ign then s else s.startDriveOff

/-- BENCH commits (R46): the Keepers split here from WAKING if the boot option says so (R81), and HAZARD_N follows its latch again
where SAFE held it (R227). -/
def State.enterBench (s : State) : State :=
  let s := (s.sluicesStart.setMode .bench).setPhase 0
  let s := { s with pw := { s.pw with readyHold := none, driveOff := none } }
  let s := (s.setObj 0x2001 8 1000).setObj 0x2001 6 0
  (s.engineLevels 0).watchdogArm.hazardRecheck

/-- Engines whose 0x6010 names a guest change partition as DEPOT is entered or left: their directories are clear (R330, R336). -/
def State.partitionsTurn (s : State) : State :=
  (List.range 48).foldl (fun s e =>
    if s.obj 0x6010 (e + 1) = 0 then s else s.modEngine e fun v => { v with dir := [] }) s

/-- What ends with DEPOT (R37, R41, R42): DOZE, FCLK at 1.2 GHz, the personality in force, the guests' partitions. -/
def State.depotLeft (s : State) : State :=
  (((s.setObj 0x2001 3 0).setObj 0x2001 8 1000).setObj 0x2001 6 0).partitionsTurn

/-- DEPOT commits (R46): FCLK at 1.2 GHz (R41), engines single (R32), the fleet personality in force (R37). -/
def State.enterDepot (s : State) : State :=
  let s := (s.setMode .depot).setPhase 0
  let s := { s with pw := { s.pw with readyHold := none, driveOff := none } }
  let s := ((s.setObj 0x2001 8 1200).setObj 0x2001 6 (s.obj 0x6100 2)).setObj 0xB011 2 0
  (s.setObj 0xB011 3 0).avsRelock.watchdogArm.partitionsTurn.depotEnter

/-- HANDOVER commits from DEPOT (R46, R55): FCLK back at 1.0 GHz, DOZE over, the tenant steps of R439 and the Keeper
rejoin (R360) begin. -/
def State.enterHandover (s : State) : State :=
  let s := (s.setMode .handover).setPhase 0
  let s := s.depotLeft
  (s.avsRelock.dutyEval.refreshReg).watchdogArm.handoverStart.rejoinStart

/-! ## What the core domains hold beside objects (R53, R71, R100) -/

/-- Everything the core domains hold beside objects and memory restarts. -/
def State.volatileReset (s : State) : State :=
  { s with
    seq := Seq.idle, sched := Sched.idle, engines := [], ctxs := [], banks := [], mons := [], edge := [], smp := Sampling.idle, l1 := [],
    recReqs := [], smpReqs := [], loops := Loops.idle, gptp := Gptp.idle, casc := Cascade.idle, depot := Depot.idle,
    recov := Recovery.idle, saf := SafetyCtl.idle, held := [], tpdos := [], timed := [] }

/-! ## Resets of the storage classes (R100) -/

/-- Volatile and per-wake entries take their defaults: at each PARKED to WAKING commit. -/
def Cls.atWake : Cls → Bool
  | .volatile => true
  | .wake => true
  | .enable => true
  | _ => false

/-- Entries that a power-on reset restarts. -/
def Cls.atPor : Cls → Bool
  | .por => true
  | c => c.atWake

/-- Entries that loss of VAON restarts. -/
def Cls.atVaonLoss : Cls → Bool
  | .retained => true
  | .vaon => true
  | c => c.atPor

/-! ## The reset history (R77 to R79) -/

/-- The 32 bytes of a history entry (R78). -/
def historyEntry (time cause state flags hold detail seq : Nat) : List Byte :=
  let b := leBytes 8 time ++ leBytes 1 cause ++ leBytes 1 state ++ leBytes 1 flags ++ leBytes 1 0 ++
    leBytes 4 (min hold (2 ^ 32 - 1)) ++ leBytes 4 detail ++ leBytes 4 seq ++ leBytes 4 0
  b ++ leBytes 4 (crc32c b)

/-- Whether an entry's CRC holds (R79). -/
def historyValid (e : List Byte) : Bool := e.length = 32 && field e 28 4 = crc32c (e.take 28)

/-- The sequence number of the next entry: the one after the highest valid one (R79); 0 where there is none, which the spec
leaves open (log entry 8). -/
def nextSequence (l : List (List Byte)) : Nat :=
  match (l.filter historyValid).map fun e => field e 20 4 with
  | [] => 0
  | x :: rest => (rest.foldl max x + 1) % 2 ^ 32

/-- The entries that stay as the ring comes to place `n`: at the first place of a block that has been written before, that block's
128 entries, the oldest, are erased (R78). -/
def ringBefore (n : Nat) (l : List (List Byte)) : List (List Byte) :=
  if n % 128 = 0 && 256 ≤ n then l.take 128 ++ List.replicate 128 [] else l

/-- Write an entry: it takes the next sequence number; as the ring wraps into a block, the block is erased once (R78). An entry of
cause 0x01 restarts 0x2030:04 and counts in 0x2030:05 (R94). -/
def State.addHistory (s : State) (time cause state flags hold detail : Nat) : State :=
  let n := s.attic.written
  let flags := flags ||| (if s.objB 0x2030 6 then 4 else 0)
  let e := historyEntry time cause state flags hold detail (nextSequence s.attic.history)
  let s := { s with attic := { s.attic with history := (e :: ringBefore n s.attic.history).take 256, written := n + 1 } }
  let s := if n % 128 = 0 && 256 ≤ n then s.wearBlock (n / 128 % 2) else s
  if cause = 1 then (s.bumpSat 0x2030 5).setObj 0x2030 4 0 else s.bumpSat 0x2030 4

/-! ## Wakes (R56, R60, R80, R82) -/

/-- The lowest bit that is set among the five wake causes. -/
def lowestCause (v : Nat) : Nat :=
  if bit v 0 then 0 else if bit v 1 then 1 else if bit v 2 then 2 else if bit v 3 then 3 else if bit v 4 then 4 else 0xFF

/-- The boot options as the objects hold them (R80). -/
def State.readBoot (s : State) : BootOpts where
  bench := s.objB 0x2040 1
  lean := s.obj 0x2040 2 = 1
  split := s.objB 0x2040 3
  source := s.obj 0x2040 4
  attempts := s.obj 0x2040 5
  minGen := s.obj 0x2040 6
  key0 := s.obj 0x2040 7
  key1 := s.obj 0x2040 8

/-- EMCY 0xFF09 for every attic block at its rated wear, at each wake (R189). -/
def State.wearReport (s : State) : State :=
  (List.range 64).foldl (fun s b => if 10000 ≤ s.obj 0x8002 (b + 1) then s.raise 0xFF09 0xFF b else s) s

/-- The monitor thresholds of a rail, mV: under below, over above (R369). -/
def State.railLimits (s : State) (r : Nat) : Nat × Nat :=
  match r with
  | 0 => (s.pw.avsSet - 60, min (s.pw.avsSet + 60) 900)
  | 1 => (740, 860)
  | 2 => (740, 860)
  | 3 => (1670, 1930)
  | 4 => (840, 960)
  | 5 => (1120, 1280)
  | 6 => (370, 430)
  | _ => (1670, 1930)

/-- A supply monitor's class-S detection on a rail (R349, R369); in SAFE it counts as a detection alone (R347). -/
def State.railDetect (s : State) (r : Nat) (high : Bool) (mv : Nat) : State :=
  if s.pw.mode = .safe then s.classS 0x09 0
  else ((s.bump 0x5040 3).setObj 0x5040 4 r).classS 0x09 (r + mv * 2 ^ 16)
    (some (if high then 0x3110 else 0x3120, 0xFF, r + mv * 2 ^ 16))

/-- Rails that left their range in PARKED are detected at the wake commit (R515). -/
def State.wakeRails (s : State) : State :=
  (List.range 8).foldl (fun s r =>
    if bit s.pw.railsOut r && r != 2 then
      s.railDetect r (decide ((s.railLimits r).2 < s.obj 0x5040 (5 + r))) (s.obj 0x5040 (5 + r))
    else s) s

/-- PARKED to WAKING commits for a source (R56): volatile objects and all core state restart, the boot options are read
once (R80), REFCLK_REQ_N asserts (R517), the 800 mV set point is written (R516), the CAN paths come into being (R104),
the host-region base takes force (R251). -/
def State.commitWaking (s : State) (src : Nat) : State :=
  let s := ((s.setMode .waking).dropObjs Cls.atWake).volatileReset
  let s := { s with
    su := { Startup.idle with boot := s.readBoot, imageLen := s.su.imageLen, wakeAt := s.now }
    pw := { s.pw with refclkReq := true, deferred := none, driveOff := none, readyHold := none, teardown := none, pendSafe := none }
    throttling := false, tempOut := false }
  let s := ((((s.setObj 0xB001 3 src).bump 0xB001 6).setPhase 1).avsWrite 800).setObj 0xB022 3 30
  let s := ((s.setObj 0x2001 5 (if s.su.boot.lean then 1 else 0)).setObj 0x4801 2 (s.obj 0x4801 1)).setObj 0x2001 4 48
  ((s.freshPath 0x01).freshPath 0x02).wearReport.wakeRails

/-- A source fires beside those of the present wake: where the wake was made in the same microsecond and nothing has been powered
since, both fired on one edge, and the lower number is recorded (R56; log entry 6). -/
def State.joinWake (s : State) (src : Nat) : State :=
  if s.pw.mode = .waking && s.su.wakeAt = s.now && !s.su.coreOn && src < s.obj 0xB001 3 then s.setObj 0xB001 3 src else s

/-- An enabled wake source fires (R56): its bit is latched; in PARKED, unless RESET_N is held (R73), WAKING commits, or
is deferred above 125 °C (R60). -/
def State.fireWake (s : State) (src : Nat) : State :=
  if !s.objBit 0xB001 1 src then s
  else
    let s := s.setObjBit 0xB001 2 src true
    if s.pw.mode != .parked || s.pw.resetHeld then s.joinWake src
    else
      match s.pw.deferred with
      | some d => { s with pw := { s.pw with deferred := some (min d src) } }
      | none =>
        if 1250 < s.objI 16 0xB003 1 then { s with pw := { s.pw with deferred := some src } }.bump 0xB003 5
        else s.commitWaking src

/-- Evaluate the latched causes on a PARKED edge (R66, R76). -/
def State.evalCauses (s : State) : State :=
  let v := s.obj 0xB001 2 &&& s.obj 0xB001 1
  if v = 0 then s
  else if 1250 < s.objI 16 0xB003 1 then
    { s with pw := { s.pw with deferred := some (lowestCause v) } }.bump 0xB003 5
  else s.commitWaking (lowestCause v)

/-! ## Teardown, PARKED and OFF (R53, R71) -/

/-- Teardown begins (R53); halted targets take part in it as running ones do (R526). -/
def State.startTeardown (s : State) : State :=
  { s with pw := { s.pw with teardown := some 0, driveOff := none, readyHold := none } }.endHalts.setPhase 4

/-- The physical range of the cellar (R236). -/
def inCellar (a : Nat) : Bool := a < 0xC00000000

/-- Everything the core domains held is gone: memory (the cellar stays in self-refresh where `keepCellar`), engines,
queues, the Time Base, every path but CAN port 0's, and the core's CAN ports (R53, R71). What has no block behind it any more reads
so: no FCLK, no DOZE, no personality (R42), no cellar copy of the calibration set, and all of the warp memory free (R183, R180). The guests' keys are destroyed (R427).
DESIGN CHOICE (log entry 63): 0x2001:05 keeps in PARKED what it read when the core was last powered. -/
def State.corePowerOff (s : State) (keepCellar : Bool) : State :=
  let s := (if keepCellar then (List.range 8).foldl (fun s g => s.keysGone g) s else s).volatileReset
  let s := { s with
    mem := if keepCellar then s.mem.filter fun e => inCellar e.1 else []
    poison := if keepCellar then s.poison.filter inCellar else []
    clk := { s.clk with tbRun := false }
    su := { Startup.idle with boot := s.su.boot, imageLen := if keepCellar then s.su.imageLen else 0 }
    paths := [(0x01, PathState.fresh)]
    can := [], tpdos := [], timed := []
    throttling := false, tempOut := false }
  let s := ((s.setObj 0x2001 8 0).setObj 0x2001 3 0).setObj 0x2001 6 0
  ((s.setObj 0x8001 0x0A 0).setObj 0x8001 0x0B (objDefault 0x8001 0x0B 0)).endHalts

/-- The cellar is powered off, and its contents are lost (R53). -/
def State.cellarOff (s : State) : State :=
  { s with mem := s.mem.filter fun e => !inCellar e.1, poison := s.poison.filter fun a => !inCellar a }

/-- The next step of a teardown (R53): once no attic write is in progress the journal is committed to retention, which is where the
model keeps it; the cellar is powered off; then the PLLs stop, and with them the engines, the Keepers, the Time Base and every core
block, the strip jobs outstanding withdrawn (R217). From there on no path is served until PARKED commits. -/
def State.teardownStep (s : State) : State :=
  match s.pw.teardown with
  | some 0 =>
    if s.attic.queue.isEmpty && s.attic.pendSet.isNone then { s with pw := { s.pw with teardown := some 1 } } else s
  | some 1 => { s with pw := { s.pw with teardown := some 2 } }.cellarOff
  | some 2 =>
    { s.seqExit.errPinsLow.corePowerOff false with
      pw := { s.pw with teardown := some 3 }, paths := [], pins := { Pins.reset with tapReg := s.pins.tapReg } }
  | _ => s

/-- PARKED commits (R53, R517, R516): pins low, HAZARD_N deasserted (R39), the 650 mV set point, REFCLK_REQ_N and a
wake-caused WAKE_REQ_N deasserted (R58; that of the same-ID condition stays, R476), CAN port 0's path in being (R104). -/
def State.commitParked (s : State) (keepCellar : Bool) : State :=
  let s := ((s.setMode .parked).corePowerOff keepCellar).setPhase 0
  let s := { s with
    pw := { s.pw with teardown := none, pendSafe := none, driveOff := none, readyHold := none, refclkReq := false,
                      wakeReqWake := false, benchWake := false }
    pins := { s.pins with err0 := false, err1 := false, toggling := false, hazardN := true } }
  (s.setObj 0x1001 0 0).avsWrite 650

/-- OFF (R46, R68): nothing runs; outputs as R523 has them. The attic, the retained objects and the journal stay. -/
def State.turnOff (s : State) : State :=
  let id := s.obj 0x2000 5
  let s := ((s.corePowerOff false).dropObjs Cls.atPor).setObj 0x2000 5 id
  { s with
    paths := []
    pw := { Power.reset with porst := s.pw.porst, vaonOk := s.pw.vaonOk, lowVaon := s.pw.lowVaon,
                             offCause := s.pw.offCause, railsOut := s.pw.railsOut,
                             offMode := if s.pw.mode = .off then s.pw.offMode else s.pw.mode }
    pins := Pins.reset
    attic := { s.attic with queue := [], pendSet := none }
    clk := { s.clk with tb := 0, tbRun := false, ticks := 0 } }

/-- VAON leaves its range (R515, R100, R121, R52): OFF; retained objects and the journal are lost; the cause is 0x02 where
the sticky flag survives and PORST_N stays released. -/
def State.vaonLost (s : State) (mv : Nat) (flagSurvives : Bool) : State :=
  let low := if s.pw.vaonOk then mv else min s.pw.lowVaon mv
  let cause := if s.pw.porst || !flagSurvives then 1 else 2
  let s := { s with pw := { s.pw with vaonOk := false, lowVaon := low, offCause := cause } }.turnOff
  { s.dropObjs Cls.atVaonLoss with journal := Journal.reset }.setObj 0x2000 5 (s.obj 0x2000 5)

/-- The Pumping Station starts from OFF (R69): the attic is read, the calibration set chosen (R187), and the entry of
the power-on or VAON reset written, with the counter's value at the release and the state that was interrupted (R78). -/
def State.bootStart (s : State) : State :=
  let m := s.pw.offMode
  let s := { s with pw := { s.pw with booting := true, offMode := .off } }.calChoose
  s.addHistory s.clk.rtc s.pw.offCause m.code 0 0 (if s.pw.offCause = 2 then s.pw.lowVaon else 0)

/-- PARKED commits after OFF (R69): the first commit, which is no state change since power-on reset; the trims of the calibration set
are applied (R183). -/
def State.bootParked (s : State) : State :=
  let s := { s with
    paths := [(0x01, PathState.fresh)]
    pw := { s.pw with mode := .parked, prev := .parked, booting := false, ign := false, shore := false } }
  (((s.setObj 0x2030 1 s.pw.offCause).setObj 0xB000 6 s.clk.rtc).trimAclk).avsWrite 650

/-! ## Device resets (R71, R75) -/

/-- Hold time so far, ms (R73). -/
def State.holdMs (s : State) : Nat := (s.now - s.pw.resetAt) / 1000

/-- Whether a device reset whose state was `m` counts toward escalation (R75). -/
def countsReset (m : Mode) : Bool := m != .bench

/-- What an accepted assertion does at once (R71): core stopped, journal retained, core and cellar off (self-refresh with
the SAFE latch), PARKED. In PARKED the state stays, and is the interrupted one that 0x2001:02 reads. -/
def State.resetCore (s : State) : State :=
  if s.pw.mode = .parked then
    { s with pw := { s.pw with prev := .parked } }.closeWindows.setObj 0x1001 0 0
  else s.commitParked s.pw.safeLatch

/-- The wake after a reset: at once with the SAFE latch, else by the latched causes, with an asserted IGN taken as
source 0 and an asserted SHORE, depot enabled, as source 1 (R76). -/
def State.afterReset (s : State) : State :=
  let s := if s.pw.ign then s.setObjBit 0xB001 2 0 true else s
  let s := if s.depotReady && s.objBit 0xB001 1 1 then s.setObjBit 0xB001 2 1 true else s
  if s.pw.safeLatch then s.commitWaking (lowestCause (s.obj 0xB001 2)) else s.evalCauses

/-- A counted device reset (R391): with the entry about to be written, the counted entries within the device-reset window; at
the limit the SAFE latch is set, and the wake that follows ends in SAFE with code 0x0F, whose detail is a free value
(log entry 2). -/
def State.deviceResetCount (s : State) : State :=
  let w := s.obj 0x5110 6 * 32768
  let n := 1 + (s.attic.history.filter fun e => historyValid e && bit (field e 10 1) 0 && s.clk.rtc ≤ field e 0 8 + w).length
  if s.obj 0x5110 7 ≤ n then
    let f := s.takeFree
    { f.2 with pw := { f.2.pw with safeLatch := true, keptCode := some (0x0F, (Config.freeWord f.1).toNat % 2 ^ 32) } }
  else s

/-- A device reset of cause 0x05 or 0x06, with release at once (R131, R501). -/
def State.deviceReset (s : State) (cause detail : Nat) : State :=
  let m := s.pw.mode
  let t := s.clk.rtc
  let s := s.resetCore
  let counted := countsReset m
  let s := if counted then s.deviceResetCount else s
  let s := s.addHistory t cause m.code
    ((if counted then 1 else 0) + (if s.pw.safeLatch then 2 else 0)) 0 detail
  (s.setObj 0x2030 1 cause).afterReset

/-! ## Start-up (R82, R83) -/

/-- Self-test is done: steps 4a to 4c. -/
def State.selfTested (s : State) : Bool := s.su.keepersTested && s.su.enginesTested && s.su.cellarOn

/-- With the SAFE latch set, WAKING runs the self-test only and enters SAFE again, with the kept code if there is one
(R52, R53). -/
def State.latchCheck (s : State) : State :=
  if s.pw.safeLatch && s.selfTested && s.pw.pendSafe.isNone && s.pw.mode = .waking then
    match s.pw.keptCode with
    | some (c, d) =>
      let s := ((s.setObj 0x5000 2 c).setObj 0x5000 3 (d % 2 ^ 32)).setObj 0x5000 4 s.nowNs
      { s with pw := { s.pw with pendSafe := some (c, d), keptCode := none } }
    | none => { s with pw := { s.pw with pendSafe := some (0, 0) } }
  else s

/-- Open the staging window for a delivery (R89, R90): 875 ms from the report, or from the wake reference. -/
def State.openWindow (s : State) (deadline : Nat) : State :=
  { s with su := { s.su with window := some deadline, checking := none, placing := false } }

/-- A failed attempt (R90): it counts; the window opens again with a deadline 875 ms on, or, after the last attempt,
BENCH without a model where the wake ends in BENCH, or SAFE with code 0x0E. -/
def State.attemptFailed (s : State) (status : Nat) : State :=
  let s := ((s.setObj 0x2050 2 status).bumpSat 0x2050 5).raise 0x6030 0xFF status
  let s := { s with su := { s.su with window := none, checking := none, placing := false } }
  if s.obj 0x2050 5 < s.su.boot.attempts then s.openWindow (s.now + 875000)
  else if s.pw.mode = .bench then s
  else if s.pw.mode = .waking && (s.su.boot.bench || s.pw.benchWake) then s
  else s.classS 0x0E status

end Sys2Proof.Machine
end

