-- ==== Sys2Proof/Machine/DictRead.lean ====
section
/-! DEFINITION. Reading the object dictionary: what each entry shows, on which path and in which state (chapter 4;
R64, R94, R122, R353, R355). -/

namespace Sys2Proof.Machine

/-! ## Which accesses are served -/

/-- The PARKED-visible indexes (R64). -/
def parkedVisible (idx : Nat) : Bool :=
  [0x1000, 0x1001, 0x1017, 0x1018, 0x2000, 0x2001, 0x2010, 0x2600, 0x2030, 0x2031, 0x2040, 0x8000, 0x8001, 0x8002,
   0xB000, 0xB001, 0xB002, 0xB003, 0xB004].contains idx

/-- The indexes served in SAFE beside each path's mailbox and status (R353). -/
def safeServed (idx : Nat) : Bool :=
  parkedVisible idx || (0x5000 ≤ idx && idx ≤ 0x5040) || idx == 0x5050 || idx == 0x2020 || idx == 0x2021

/-- Whether path 0x01 is served by the Pumping Station as in PARKED: until the core controller takes port 0 over, whatever state has
been committed by then (R127). -/
def State.asParked (s : State) (p : Nat) : Bool :=
  s.pw.mode = .parked || (p == 0x01 && s.pw.mode.awake && !(s.port 0).core)

/-- The refusal of an access by state, path and index: 0 where it is served (R64, R111, R353, R355); with Keeper B halted, path
0x38 reaches the objects of R353 alone (R502). -/
def State.serveCode (s : State) (p idx : Nat) : Nat :=
  if s.asParked p then (if parkedVisible idx && p == 0x01 then 0 else 0x08000022)
  else if s.pw.mode = .safe then
    (if safeServed idx && (p == 0x01 || p == 0x10 || p == 0x38) then 0 else 0x08000022)
  else if s.su.benchRestricted then
    (if (safeServed idx || idx == 0x2050) && (p == 0x01 || p == 0x10 || p == 0x38) then 0 else 0x08000022)
  else if s.haltedB && p == 0x38 && !safeServed idx then 0x08000022
  else 0

/-- The refusal of an entry that no table defines (R95, R111): 0 where it exists. Subindex 0x00 of an index whose
entries begin at 0x01 exists. -/
def existsCode (idx sub : Nat) : Nat :=
  if !indexExists idx then 0x06020000
  else if (objRow? idx sub).isSome || sub == 0 then 0
  else 0x06090011

/-- The row of an entry, with the constant subindex 0x00 that holds the highest subindex in use (R95). -/
def rowOf (idx sub : Nat) : ObjRow :=
  match objRow? idx sub with
  | some r => r
  | none => { idxLo := idx, idxHi := idx, subLo := 0, subHi := 0, ty := .u 8, acc := .const, sObj := false,
              cls := .fixed, sel := .none, dflt := .lit (highestSub idx), chk := .any }

/-- The channel a path's selector holds for a row (R95, R105); 0xFFFF where the index lies behind no selector. -/
def PathState.channel (p : PathState) (sel : Sel) : Nat :=
  match sel with
  | .none => 0xFFFF
  | .stream => p.selStream
  | .engine => p.selEngine
  | .queue => p.selQueue
  | .monitor => p.selMonitor
  | .guest => p.selGuest

/-- The channel as a key of `objs`. -/
def chanKey (ch : Nat) : Nat := if ch = 0xFFFF then 0 else ch

/-! ## Computed entries -/

/-- The default COB-ID of EMCY or of a TPDO on a port (R128). -/
def State.defaultCob (s : State) (idx port : Nat) : Nat :=
  if idx = 0x1014 then 0x080 + s.nodeId port
  else
    let n := idx - 0x1800
    0x80000000 + (if n < 4 then 0x180 + 0x100 * n else 0x1A0 + 0x100 * (n - 4)) + s.nodeId port

/-- The COB-ID of EMCY or of a TPDO on a port: the default until the object is written in this wake (R128). A written
value is held with bit [32] set. -/
def State.cobId (s : State) (idx port : Nat) : Nat :=
  if s.obj idx 1 = 0 then s.defaultCob idx port else s.obj idx 1 % 2 ^ 32

/-- Bytes [31:0] of a journal entry (R120). -/
def JEntry.bytes (e : JEntry) : List Byte :=
  leBytes 2 e.idx ++ leBytes 1 e.sub ++ leBytes 1 e.path ++ leBytes 1 e.state ++ leBytes 1 e.flags ++
  leBytes 2 e.chan ++ leBytes 8 e.stamp ++ leBytes 8 e.old ++ leBytes 8 e.new

/-- 0x2010:03 on a path (R118, R124): staged, armed, open or closed. -/
def State.lockState (s : State) (p : Nat) : Nat :=
  if (s.path p).staged.isSome then 3
  else if (s.path p).armed.isSome then 1
  else if s.windowOpen p then 2
  else 0

/-- 0x2010:04 on a path: 0 while staged; while armed, ticks left for the second key; else, ticks left in the window
(R115, R124). -/
def State.lockTicks (s : State) (p : Nat) : Nat :=
  if (s.path p).staged.isSome then 0
  else
    match (s.path p).armed, (s.path p).opened with
    | some t, _ => t + 64 - s.now
    | none, some t => t + 64 - s.now
    | none, none => 0

/-- The history entry at a path's read index (R94). The bytes that an erased entry reads as are free (log entry 2). -/
def State.histAt (s : State) (p : Nat) : Option (List Byte) :=
  s.attic.history[(s.path p).hIndex]?.map fun b => if b.isEmpty then (List.range 32).map Config.erasedByte else b

/-- 0x2031:04 at a path's read index: 0 where the entry is not valid (R79, R94). -/
def State.histCause (s : State) (p : Nat) : Option (List Byte) :=
  s.attic.history[(s.path p).hIndex]?.map fun b => if historyValid b then b else []

/-- The newest valid history entry (R79). -/
def State.histNewest (s : State) : Option (List Byte) := s.attic.history.find? historyValid

/-- 0x2020 on a path (R109, R124). -/
def PathState.mailboxValue (p : PathState) (sub : Nat) : Nat :=
  match sub with
  | 1 => p.mbTarget
  | 3 => p.mbStatus
  | 4 => p.mbTotal
  | 5 => p.mbOffset
  | 6 => p.mbSeg
  | 7 => p.mbFail
  | 8 => p.mbCrc
  | _ => field (padTo 256 p.mbData) (4 * (sub - 0x10)) 4

/-- The counter bank of an engine and a partition (R410). -/
def State.bank (s : State) (e part : Nat) : Bank := Amap.get Bank.zero s.banks (e * 16 + part)

/-- Give a counter bank. -/
def State.setBank (s : State) (e part : Nat) (b : Bank) : State :=
  { s with banks := Amap.set Bank.zero s.banks (e * 16 + part) b }

/-- 0x4030 of a bank (R411, R418). -/
def Bank.value (b : Bank) (sub : Nat) : Nat :=
  if sub = 2 then b.cycle
  else if 3 ≤ sub && sub ≤ 8 then b.counts.getD (sub - 3) 0
  else if 9 ≤ sub && sub ≤ 0x0E then b.events.getD (sub - 9) 0
  else b.overflow

/-- 0x5000:01 and 0x5000:07 (R376). -/
def State.health (s : State) : Nat := if s.pw.mode = .safe then 2 else if s.pins.toggling then 0 else 1

/-- 0x5000:07. -/
def State.safetyOutputs (s : State) : Nat :=
  (if s.pins.err0 then 1 else 0) + (if s.pins.err1 then 2 else 0) + (if s.pins.toggling then 4 else 0) +
  (if s.lockstep then 8 else 0)

/-- A journal latch field, or absent (R122). -/
def latchField (l : Option JEntry) (f : JEntry → Nat) : Nat ⊕ Nat :=
  match l with
  | some e => .inr (f e)
  | none => .inl 0x08000024

/-- A history field, or absent (R94). -/
def histField (e : Option (List Byte)) (f : List Byte → Nat) : Nat ⊕ Nat :=
  match e with
  | some b => .inr (f b)
  | none => .inl 0x08000024

/-- The number an entry shows on a path: the highest subindex where no row has subindex 0 (R95), the computed entries, then the
stored ones. The island power reading 0xB003:03 is a free value (log entry 2). -/
def State.readNat (s : State) (p idx sub ch : Nat) : Nat ⊕ Nat :=
  let ps := s.path p
  if (objRow? idx sub).isNone then .inr (highestSub idx)
  else
  match idx, sub with
  | 0x1001, 0 => .inr (s.obj 0x1001 0)
  | 0x1014, 1 => .inr (s.cobId 0x1014 0)
  | 0x1018, 4 => .inr (s.obj 0x2000 6 % 2 ^ 32)
  | 0x2001, 1 => .inr s.pw.mode.code
  | 0x2001, 2 => .inr s.pw.prev.code
  | 0x2010, 3 => .inr (s.lockState p)
  | 0x2010, 4 => .inr (s.lockTicks p)
  | 0x2021, 1 => .inr ps.refusal
  | 0x2021, 2 => .inr ps.refused
  | 0x2021, 3 => .inr ps.refusals
  | 0x2021, 4 => .inr p
  | 0x2030, 2 => .inr (if s.pw.resetHeld then min s.holdMs (2 ^ 32 - 1) else s.obj 0x2030 2)
  | 0x2031, 1 => histField s.histNewest fun b => field b 20 4
  | 0x2031, 2 => .inr ps.hIndex
  | 0x2031, 3 => histField (s.histAt p) fun b => field b 0 8
  | 0x2031, 4 => histField (s.histCause p) fun b => field b 8 1
  | 0x2031, 5 => histField (s.histAt p) fun b => field b 9 1
  | 0x2031, 6 => histField (s.histAt p) fun b => field b 10 1
  | 0x2031, 7 => histField (s.histAt p) fun b => field b 12 4
  | 0x2031, 8 => histField (s.histAt p) fun b => field b 16 4
  | 0x2031, 9 => histField (s.histAt p) fun b => field b 20 4
  | 0x2031, 0x0A => .inr (s.obj 0x8002 1)
  | 0x2031, 0x0B => .inr (s.obj 0x8002 2)
  | 0x2100, 1 => .inr ps.selStream
  | 0x2100, 2 => .inr ps.selEngine
  | 0x2100, 3 => .inr ps.selQueue
  | 0x2100, 4 => .inr ps.selMonitor
  | 0x2100, 5 => .inr ps.selGuest
  | 0x2600, 1 => .inr s.journal.written
  | 0x2600, 2 => .inr s.journal.wraps
  | 0x2600, 3 => .inr ps.jIndex
  | 0x2600, 4 => latchField ps.jLatch (·.idx)
  | 0x2600, 5 => latchField ps.jLatch (·.sub)
  | 0x2600, 6 => latchField ps.jLatch (·.path)
  | 0x2600, 7 => latchField ps.jLatch (·.state)
  | 0x2600, 8 => latchField ps.jLatch (·.flags)
  | 0x2600, 9 => latchField ps.jLatch (·.chan)
  | 0x2600, 0x0A => latchField ps.jLatch (·.stamp)
  | 0x2600, 0x0B => latchField ps.jLatch (·.old)
  | 0x2600, 0x0C => latchField ps.jLatch (·.new)
  | 0x2600, 0x0E => latchField ps.jLatch (·.num)
  | 0x4030, 1 => .inr ps.bank
  | 0x5000, 1 => .inr s.health
  | 0x5000, 7 => .inr s.safetyOutputs
  | 0x5120, 2 => .inr ps.recIndex
  | 0x6110, 7 => .inr ps.jobIndex
  | 0x7040, 4 => .inr s.smp.records.length
  | 0x7040, 7 => .inr ps.smpIndex
  | 0x9000, 1 => .inr s.nowNs
  | 0x9000, 2 => .inr ps.tbFrac
  | 0x9000, 9 => .inr (s.clk.ticks % 2 ^ 64)
  | 0x9004, k => .inr (Config.stampLatency k).toNat
  | 0xB001, 8 => .inr ((if s.pw.ign then 1 else 0) + (if s.pw.shore then 2 else 0))
  | 0xB003, 2 => .inr (s.obj 0x5040 7)
  | 0xB003, 3 => .inr ((Config.freeWord s.now).toNat % 2 ^ 16)
  | 0xB004, 1 => .inr (s.clk.rtc % 2 ^ 64)
  | _, _ =>
    if idx = 0x2020 then .inr (ps.mailboxValue sub)
    else if 0x1800 ≤ idx && idx ≤ 0x1807 && sub = 1 then .inr (s.cobId idx 0)
    else if idx = 0x4030 then .inr ((s.bank ch ps.bank).value sub)
    else s.viewMore p idx sub ch

/-- The bytes of a DOMAIN entry on a path, or the refusal. -/
def State.readDomain (s : State) (p idx sub ch : Nat) : Nat ⊕ List Byte :=
  let ps := s.path p
  match idx, sub with
  | 0x2050, 4 => .inr (leBytes 32 (s.obj 0x2050 4))
  | 0x2040, k => .inr (leBytes 32 (s.obj 0x2040 k))
  | 0x2600, 0x0D =>
    match ps.jLatch with
    | some e => .inr e.bytes
    | none => .inl 0x08000024
  | 0x2600, 0x0F => .inr (s.journal.entries.reverse.flatMap JEntry.bytes)
  | 0x7040, 8 => if ps.smpLatch.isEmpty then .inl 0x08000024 else .inr ps.smpLatch
  | 0x7040, 9 => .inr s.smp.records.reverse.flatten
  | 0x7001, 0x0A =>
    .inr (leBytes 8 (s.obj 0x7001 1 ch) ++ leBytes 8 (s.obj 0x7001 2 ch) ++ leBytes 8 (s.obj 0x7001 3 ch) ++
      leBytes 8 (s.obj 0x7001 4 ch) ++ leBytes 8 (s.obj 0x7001 5 ch) ++ leBytes 4 (s.obj 0x7001 7 ch) ++
      leBytes 1 (s.obj 0x7001 6 ch + 2 * s.obj 0x7001 8 ch + (if (s.mon ch).pendingNote then 4 else 0)) ++ zeros 3 ++
      leBytes 8 s.nowNs ++ zeros 8 ++ (List.range 16).flatMap fun b => leBytes 4 (s.obj 0x7002 (b + 1) ch))
  | 0x8000, 0 =>
    if s.obj 0x8001 3 = 0 then .inr s.attic.areaA
    else if s.obj 0x8001 3 = 1 then .inr s.attic.areaB
    else .inl 0x08000024
  | _, _ => s.domainMore p idx sub ch

/-- A read judged on a path and a channel, with no effect: the refusal, or the bytes (R98, R107). `whole` allows DOMAIN:
an upload of the mailbox or a segmented transfer. -/
def State.peek (s : State) (p idx sub ch : Nat) (whole : Bool) : Nat ⊕ List Byte :=
  let r := rowOf idx sub
  if s.serveCode p idx != 0 then .inl (s.serveCode p idx)
  else if existsCode idx sub != 0 then .inl (existsCode idx sub)
  else if r.acc = .wo then .inl 0x06010001
  else if r.ty.isDomain then
    if whole then s.readDomain p idx sub (chanKey ch) else .inl 0x06010000
  else
    match s.readNat p idx sub (chanKey ch) with
    | .inl c => .inl c
    | .inr v => .inr (leBytes r.ty.size v)

/-- What a clearing read does beside returning the value (R99): the object takes its default. -/
def State.clearRead (s : State) (p idx sub ch : Nat) : State :=
  if idx = 0x2021 then s.modPath p fun q => { q with refusals := 0 }
  else if idx = 0x4030 then
    s.setBank (chanKey ch) (s.path p).bank { s.bank (chanKey ch) (s.path p).bank with overflow := 0 }
  else s.clearMore p idx sub (chanKey ch)

/-- Touch the mailbox: every access of it restarts the 1,000 ms limit (R110); one on the edge of its expiry prevails, and is a
near-miss (R143, R211). -/
def State.mbTouch (s : State) (p : Nat) : State :=
  match (s.path p).mailbox with
  | some x =>
    (s.modPath p fun q => { q with mailbox := some { x with at_ := s.now } }).nearEdge x.at_ 1000000
  | none => s

/-- A dictionary read on a path at the commit point: the code (0 for success), the bytes, and the state after. An rc
entry is cleared in the same step (R99); a read of 0x9000:01 latches the fraction (R195). -/
def State.dictRead (s : State) (p idx sub : Nat) (whole : Bool := false) : Nat × List Byte × State :=
  let ch := (s.path p).channel (rowOf idx sub).sel
  let s := if idx = 0x2020 then s.mbTouch p else s
  match s.peek p idx sub ch whole with
  | .inl c => (c, [], s.refuse p idx sub c)
  | .inr b =>
    let s := if (rowOf idx sub).acc = .rc then s.clearRead p idx sub ch else s
    let s := if idx = 0x9000 && sub = 1 then s.modPath p fun q => { q with tbFrac := s.clk.tb / 2 ^ 24 % 2 ^ 16 } else s
    (0, b, s)

end Sys2Proof.Machine
end

