-- ==== Sys2Proof/Machine/FieldOps.lean ====
section
/-! DEFINITION. The operations of the CAN ports: identifiers in use, blocks, and what a frame's sending does (chapter 5,
R125 to R135, R142). -/

namespace Sys2Proof.Machine

open Sys2Proof

/-! ## Blocks (R142)

An identifier is [28:0], with IDE in [29]. -/

/-- Release the block of an identifier, and reset its count; 0x1001:00 follows (R140). -/
def State.releaseBlock (s : State) (port id : Nat) : State :=
  let had := s.blocked port id
  let s := blockSlots.foldl (fun s k =>
    if s.obj (0x1F90 + port) k = id then s.setObj (0x1F90 + port) k 0xFFFFFFFF else s) s
  let s := s.modPort port fun p => { p with collisions := Amap.del p.collisions id }
  if had then (s.setObj (0x1F90 + port) 0x0D (s.obj (0x1F90 + port) 0x0D - 1)).refreshReg else s

/-- Release every block of a port, and reset every count. -/
def State.releaseBlocks (s : State) (port : Nat) : State :=
  let s := blockSlots.foldl (fun s k => s.setObj (0x1F90 + port) k 0xFFFFFFFF) s
  let s := s.modPort port fun p => { p with collisions := [] }
  (s.setObj (0x1F90 + port) 0x0D 0).refreshReg

/-- A COB-ID object has been written (R142): the identifier it set, on both ports, is released. While it showed port 0's
default, port 1 used its own. -/
def State.cobWritten (s : State) (idx old : Nat) : State :=
  let s := (s.releaseBlock 0 (old % 2 ^ 30)).releaseBlock 1 (old % 2 ^ 30)
  if old = s.defaultCob idx 0 then s.releaseBlock 1 (s.defaultCob idx 1 % 2 ^ 30) else s

/-! ## Responses to dictionary messages (R136, R137) -/

/-- The head of a response: operation, sequence number, entry, value length, total or offset, result and value (R136). -/
def dictHead (op seq idx sub n word code : Nat) (v : List Byte) : List Byte :=
  leBytes 1 (op + 0x80) ++ leBytes 1 0 ++ leBytes 2 seq ++ leBytes 2 idx ++ leBytes 1 sub ++ leBytes 1 n ++
  leBytes 4 word ++ leBytes 4 code ++ padTo 8 v

/-- A response leaves: to its UDP peer, whose slot keeps it (R137), or over the link to the device that path 0x30 serves
(R474). -/
def State.dictRespond (s : State) (p : Nat) (r : List Byte) : State :=
  let peer := (s.path p).peer
  if p = 0x30 then ((s.modPath p fun q => { q with busy := none }).linkSend 0x10 peer.1 r).2
  else
    let m := fuindMsg 0x10 s.deviceId 0xFF r
    let s := s.modPath p fun q => { q with busy := none, lastResp := some (field r 2 2, m) }
    (s.bump 0x1F98 1).emit (.udp peer.1 peer.2 m)

/-- The answer of a write that has waited for the attic (R101): the kept head completes the response of a dictionary
message; SDAP's is its response (R495); any other path is answered as it stands. A path that is gone has no answer. -/
def State.answerWrite (s : State) (p code : Nat) : State :=
  if !(s.path p).live then s
  else
    match (s.path p).busy with
    | some h =>
      if p = 0x38 then
        (s.modPath p fun q => { q with busy := none }).emit (.jtag (if code = 0 then 0 else 2)
          (leBytes 1 2 ++ leBytes 1 (if code = 0 then 0 else 2) ++ leBytes 4 code ++ leBytes 2 0 ++ zeros 8))
      else s.dictRespond p (h.take 12 ++ leBytes 4 code ++ h.drop 16)
    | none => s.answer p code []

/-- A mailbox download that has waited for the attic ends: status 0x03, or failed (R101, R109, R110). -/
def State.mailboxDone (s : State) (p code : Nat) : State :=
  let q := s.path p
  if q.live && q.mbStatus = 2 && q.mailbox.isNone then
    s.setPath p (if code = 0 then { q with mbStatus := 3 } else { q with mbStatus := 0x0F, mbFail := code })
  else s

/-- What the path of a write that has waited for the attic is told. -/
def State.tellWrite (s : State) (w : AtticWrite) (code : Nat) : State :=
  if w.answers then s.answerWrite w.path code else s.mailboxDone w.path code

end Sys2Proof.Machine
end

