-- ==== Sys2Proof/Machine/Monitors.lean ====
section
/-! DEFINITION. The monitor channels' count sources, the weirs' hold-off, and precise sampling (chapter 17). -/

namespace Sys2Proof.Machine

open Sys2Proof

/-- The counter behind a count source (R400). -/
def State.countOf (s : State) (src param : Nat) : Nat :=
  match src with
  | 0x0A => s.obj 0x9005 1
  | 0x0B => s.obj 0x7011 1
  | 0x0C => s.obj 0x3003 0x0D param
  | 0x0D => s.obj 0x9003 5
  | _ => (List.range 48).foldl (fun n e => n + s.obj 0x4000 6 e) (s.obj 0x4800 7 + s.saf.keeperEcc)

/-- Increments of a count source since the last edge; a stream's counter restarts at its enable. -/
def State.countSince (s : State) (src param : Nat) : Nat :=
  let last := Amap.get 0 s.edge (src * 65536 + param)
  let now := s.countOf src param
  if last ≤ now then now - last else if src = 0x0C then now else (now + 2 ^ 32 - last) % 2 ^ 32

/-- The count sources: source and parameter (R400). -/
def countSources : List (Nat × Nat) :=
  [(0x0A, 0), (0x0B, 0), (0x0D, 0), (0x0E, 0)] ++ (List.range 96).map fun k => (0x0C, k)

/-- COUNT_SOURCE_SAMPLE (R401): at each 1,000th TICK edge, with the holdover age of source 0x12; a disabled stream yields no
sample. -/
def execCountSourceSample (s : State) : Out :=
  .next (
    if !s.pw.mode.awake || !s.clk.tbRun then s
    else
      let t := countSources.foldl (fun t c =>
        t.monSample c.1 c.2 (s.countSince c.1 c.2)) s
      let t := t.monSample 0x12 0 s.holdoverAge
      { t with edge := countSources.foldl (fun m c => Amap.set 0 m (c.1 * 65536 + c.2) (s.countOf c.1 c.2)) [] })

/-- WEIR_HOLDOFF_END (R406): a pending crossing is notified. -/
def execWeirHoldoffEnd (m : Fin 24) (s : State) : Out :=
  .next (if s.pw.mode.awake && (s.mon m.val).pendingNote then s.notify m.val else s)

/-- A sampling record (R414). -/
def State.sampleRecord (s : State) (e : Nat) (i : SampleInfo) : List Byte :=
  leBytes 6 i.pc.toNat ++ leBytes 6 i.dataAddr.toNat ++ leBytes 4 i.word.toNat ++ leBytes 4 (min i.latency (2 ^ 32 - 1)) ++
  leBytes 1 e ++ leBytes 1 i.context.val ++ leBytes 1 (s.enginePart e) ++
  leBytes 1 (i.kind.toNat + (if s.twinned then 128 else 0)) ++ leBytes 8 s.nowNs

/-- SAMPLED_INSTRUCTION_DONE (R413 to R415): in stop mode a full buffer drops the record, in wrap mode the oldest goes. -/
def execSampledInstructionDone (e : Fin 48) (info : SampleInfo) (s : State) : Out :=
  .next (
    if !bit s.smp.inFlight e.val then s
    else
      let s := { s with smp := { s.smp with inFlight := clearBit s.smp.inFlight e.val } }
      if s.obj 0x7040 3 = 0 && 512 ≤ s.smp.records.length then s.bump 0x7040 5
      else { s with smp := { s.smp with records := (s.sampleRecord e.val info :: s.smp.records).take 512 } })

end Sys2Proof.Machine
end

