-- ==== Sys2Proof/Machine/TimeCmds.lean ====
section
/-! DEFINITION. The gPTP end station: capability, Announce, Sync, acquisition, slew, step and holdover (chapter 8). -/

namespace Sys2Proof.Machine

open Sys2Proof

/-- Change the end station's state. -/
def State.modGptp (s : State) (f : Gptp → Gptp) : State := { s with gptp := f s.gptp }

/-- gPTP runs: enabled, with the Time Base running (R196). -/
def State.gptpOn (s : State) : Bool := s.objB 0x9001 1 && s.clk.tbRun && s.pw.mode.awake

/-- 250 ppm and 100 ppm in units of 2^-40. -/
def ppm250 : Int := 274877906
/-- 100 ppm. -/
def ppm100 : Int := 109951162

/-- Enter holdover (R203): from state 0x03 alone; the rate is frozen without the servo's correction. -/
def State.holdover (s : State) : State :=
  let s := s.modGptp fun g => { g with run := 0, within := 0 }
  if s.obj 0x9000 3 != 3 then s
  else
    let s := (s.setObj 0x9000 3 4).setObj 0x9000 4 (ofSigned 32 s.gptp.rate)
    (s.bump 0x9002 8).raise 0xFF06 0xFF 1

/-- Whether the port is asCapable (R197); the link delay must have been measured. DEDUCED (log entry 25). -/
def State.capable (s : State) : Bool :=
  s.gptpOn && !bit s.ethDown (s.obj 0x9001 2) && s.gptp.measured && s.obj 0x9002 3 ≤ s.obj 0x9001 7 &&
  decide (-ppm250 ≤ s.objI 32 0x9002 4) && decide (s.objI 32 0x9002 4 ≤ ppm250) && s.gptp.unanswered < s.obj 0x9001 0x0C

/-- Bring 0x9002:02 up to its conditions; a port that ceases to be asCapable enters holdover (R203). -/
def State.refreshCapable (s : State) : State :=
  let was := s.objB 0x9002 2
  let s := s.setObjB 0x9002 2 s.capable
  if was && !s.capable then s.holdover else s

/-- Microseconds of `n` sync intervals of 2^0x9001:04 seconds, 0x9001:04 being -5 to 0 (R203). -/
def State.syncIntervals (s : State) (n : Nat) : Nat := n * 1000000 / 2 ^ (-(s.objI 8 0x9001 4)).toNat

/-- An arrival on the edge at which a receipt timeout of state 0x03 expires prevails, and is a near-miss (R203, R211). -/
def State.receiptEdge (s : State) (at_ : Option Nat) (n : Nat) : State :=
  match at_ with
  | some t => if s.obj 0x9000 3 = 3 then s.nearEdge t n else s
  | none => s

/-- A message of a kind that R196 does not list, on the port in use: discarded and counted. -/
def State.unsupported (s : State) (port : Nat) : State := if s.obj 0x9001 2 = port then s.bump 0x9002 0x0A else s

/-- ANNOUNCE_RECEIVED (R196, R199): on the port and domain in use; another grandmaster than the last one is a change. An announce
interval is 1 s, the interval that IEEE 802.1AS-2020 begins with. PRESUMED (log entry 68). -/
def execAnnounceReceived (arrival : GptpArrival) (domain : Byte) (source : BitVec 80) (gm : BitVec 64) (s : State) : Out :=
  .next (
    if !s.gptpOn then s
    else if arrival.kind != .listed then s.unsupported arrival.port.val
    else if s.obj 0x9001 2 != arrival.port.val || s.obj 0x9001 3 != domain.toNat then s
    else
      let s := s.receiptEdge s.gptp.announceAt (s.obj 0x9001 6 * 1000000)
      let change := s.gptp.source.isSome && s.obj 0x9002 1 != gm.toNat
      let s := if s.gptp.source = some source.toNat then s
        else s.modGptp fun g => { g with source := some source.toNat, seq := none }
      let s := (s.setObj 0x9002 1 gm.toNat).modGptp fun g => { g with announceAt := some s.now }
      if change then ((s.modGptp fun g => { g with changeAt := some s.now }).bump 0x9002 9).holdover else s)

/-- Whether a Sync is accepted but for the jump limit (R198). -/
def State.syncFits (s : State) (m : GptpSync) : Bool :=
  s.gptp.source == some m.source.toNat && m.followUp && decide (-ppm250 ≤ m.rate) && decide (m.rate ≤ ppm250) &&
  (match s.gptp.seq with
   | some q => let d := (m.seq.toNat + 65536 - q) % 65536; 0 < d && d < 32768
   | none => true)

/-- The absolute value as a number. -/
def absNat (v : Int) : Nat := v.natAbs

/-- The servo's correction: at most 100 ppm either way; its rule is not given, so it is a free value (log entry 2). -/
def servo (n : Nat) : Int := ((Config.freeWord n).toNat % (2 * ppm100.toNat + 1) : Nat) - ppm100

/-- The whole-microsecond part of -O, toward zero (R201). -/
def stepOf (o : Int) : Int := -(o.tdiv 1000) * 1000

/-- The rate that slewing gives: the grandmaster's rate with the servo's correction, clamped (R192, R202). -/
def State.slew (s : State) : State :=
  let f := s.takeFree
  f.2.setObj 0x9000 4 (ofSigned 32 (max (-ppm250) (min ppm250 (s.gptp.rate + servo f.1))))

/-- An accepted Sync disciplines the Time Base (R200, R202): the second in a row acquires and gives the rate, a step waits for the
next TICK edge, and otherwise the Time Base slews; the fourth within the lock threshold locks. -/
def State.syncAccepted (s : State) (m : GptpSync) (o : Int) : State :=
  let old := s.obj 0x9000 3
  let within := if absNat o ≤ s.obj 0x9001 8 then s.gptp.within + 1 else 0
  let run := s.gptp.run + 1
  let s := s.modGptp fun g =>
    { g with seq := some m.seq.toNat, run := run, within := within, jumps := 0, rate := m.rate, syncAt := some s.now }
  let s := ((s.bump 0x9002 5).setObj 0x9000 8 (ofSigned 64 o)).monSample 0x11 0 o
  let acquires := old != 3 && run = 2
  let s := if acquires && old = 4 then (s.setObj 0x9000 3 2).raise 0xFF06 0xFF 0
    else if acquires then s.setObj 0x9000 3 2 else s
  if acquires && s.obj 0x9001 9 < absNat o then
    (s.modGptp fun g => { g with step := some (stepOf o) }).setObj 0x9000 4 (ofSigned 32 m.rate)
  else if s.obj 0x9000 3 = 3 || (s.obj 0x9000 3 = 2 && 2 ≤ run) then
    let s := s.slew
    if s.obj 0x9000 3 = 2 && 4 ≤ within && !acquires then s.setObj 0x9000 3 3 else s
  else s

/-- The offset O at a Sync: the Time Base at its receipt less the grandmaster's time, which is the origin timestamp, the correction
field and the mean link delay (R198). The correction's part below a nanosecond and the delay's scaling to the grandmaster's rate are
left out. PRESUMED (log entry 68). -/
def State.syncOffset (s : State) (m : GptpSync) : Int :=
  (s.nowNs : Int) - ((m.origin : Int) + m.correction + s.obj 0x9002 3)

/-- SYNC_RECEIVED (R196, R198, R200); one on the edge of a grandmaster change is discarded (R212). -/
def execSyncReceived (m : GptpSync) (s : State) : Out :=
  .next (
    if !s.gptpOn then s
    else if m.kind != .listed then s.unsupported m.port.val
    else if s.gptp.changeAt = some s.now then s
    else if s.obj 0x9001 2 != m.port.val || s.obj 0x9001 3 != m.domain.toNat || !s.objB 0x9002 2 then s
    else
      let o := s.syncOffset m
      if !s.syncFits m then
        (s.bump 0x9002 7).modGptp fun g => { g with jumps := 0, within := 0, run := if g.run < 2 then 0 else g.run }
      else if s.obj 0x9000 3 = 3 && s.obj 0x9001 0x0A < absNat o then
        let s := (s.bump 0x9002 7).modGptp fun g => { g with jumps := g.jumps + 1 }
        if s.gptp.jumps = 4 then
          (s.modGptp fun g => { g with jumps := 0, run := 0, within := 0 }).setObj 0x9000 3 2
        else s
      else (s.receiptEdge s.gptp.syncAt (s.syncIntervals (s.obj 0x9001 5))).syncAccepted m o)

/-- PDELAY_REQ_TIMER (R196, R197): a request without a response counts when the next is sent. -/
def execPdelayReqTimer (s : State) : Out :=
  .next (
    if !s.gptpOn || bit s.ethDown (s.obj 0x9001 2) then s
    else
      let s := s.modGptp fun g =>
        { g with asked := true, unanswered := if g.asked then g.unanswered + 1 else g.unanswered
                 pdelaySeq := (g.pdelaySeq + 1) % 65536 }
      (s.emit (.gptp 0 (s.obj 0x9001 2) ((s.gptp.pdelaySeq + 65535) % 65536))).refreshCapable)

/-- PDELAY_RESP_RECEIVED (R197): the response with its Follow_Up completes the exchange. -/
def execPdelayRespReceived (delay ratio : BitVec 32) (s : State) : Out :=
  .next (
    if !s.gptpOn || !s.gptp.asked then s
    else
      let s := s.modGptp fun g => { g with asked := false, unanswered := 0, measured := true }
      (((s.setObj 0x9002 3 delay.toNat).setObj 0x9002 4 ratio.toNat).bump 0x9002 6).refreshCapable)

/-- PDELAY_REQ_RECEIVED (R196): answered two-step on the port in use; one of the common link delay service is not supported. -/
def execPdelayReqReceived (arrival : GptpArrival) (seq : BitVec 16) (s : State) : Out :=
  let port := arrival.port
  .next (
    if !s.gptpOn then s
    else if arrival.kind != .listed then s.unsupported port.val
    else if s.obj 0x9001 2 != port.val || bit s.ethDown port.val then s
    else (s.emit (.gptp 1 port.val seq.toNat)).emit (.gptp 2 port.val seq.toNat))

/-- SYNC_RECEIPT_TIMEOUT (R203). -/
def execSyncReceiptTimeout (s : State) : Out := .next (if s.gptpOn && s.obj 0x9000 3 = 3 then s.holdover else s)

/-- ANNOUNCE_RECEIPT_TIMEOUT (R203). -/
def execAnnounceReceiptTimeout (s : State) : Out := .next (if s.gptpOn && s.obj 0x9000 3 = 3 then s.holdover else s)

/-- TIME_BASE_STEP (R201): D is applied at the TICK edge, and the rest of the offset is slewed from it on; what the model holds as
pending is held in `elapsed` and in TICK edges, which a step leaves alone. -/
def execTimeBaseStep (s : State) : Out :=
  .next (
    match s.gptp.step with
    | none => s
    | some d =>
      if !s.clk.tbRun then s
      else
        let s := { s with clk := { s.clk with tb := (((s.clk.tb : Int) + d * 2 ^ 40) % 2 ^ 104).toNat } }
        (((s.modGptp fun g => { g with step := none }).bump 0x9000 5).setObj 0x9000 6 (ofSigned 64 d)).slew)

/-- ETHERNET_LINK_CHANGE (R197, R203). -/
def execEthernetLinkChange (port : Fin 2) (up : Bool) (s : State) : Out :=
  .next (
    if !s.pw.mode.awake || !s.clk.tbRun then s
    else
      let s := { s with ethDown := if up then clearBit s.ethDown port.val else setBit s.ethDown port.val }
      let s := if !up && s.obj 0x9001 2 = port.val then
          s.modGptp fun g => { g with measured := false, asked := false, unanswered := 0 }
        else s
      s.refreshCapable)

/-- A write to 0x9001 takes effect (R212): with the Time Base locked, a change of port or domain enters state 0x02 without
holdover; a disable leaves it free-running. -/
def State.gptpWritten (s : State) (sub old v : Nat) : State :=
  if sub = 1 && v = 0 then
    ((s.modGptp fun g => { Gptp.idle with syncAt := g.syncAt, writes := g.writes }).setObj 0x9000 3 1).refreshCapable.refreshReg
  else if (sub = 2 || sub = 3) && old != v then
    let s := s.modGptp fun g => { Gptp.idle with rate := g.rate, syncAt := g.syncAt, pdelaySeq := g.pdelaySeq, writes := g.writes }
    let s := (if s.obj 0x9000 3 = 3 then s.setObj 0x9000 3 2 else s)
    s.setObjB 0x9002 2 s.capable
  else s.refreshCapable

/-- Whether a write to 0x9001 waits for the next TICK edge: the Time Base is locked, or an earlier write waits (R212). -/
def State.gptpHolds (s : State) : Bool := s.obj 0x9000 3 = 3 || !s.gptp.writes.isEmpty

/-- A held write to 0x9001 takes effect. -/
def State.gptpTakes (s : State) (sub v : Nat) : State := (s.setObj 0x9001 sub v).gptpWritten sub (s.obj 0x9001 sub) v

end Sys2Proof.Machine
end

