-- ==== Sys2Proof/Machine/DictEffects.lean ====
section
/-! DEFINITION. What the chapters check of a dictionary write, and what a write that takes effect does beside its value
(R66, R89, R126, R133, R142, R160 to R163, R184 to R186, R218, R225, R230, R240, R251, R307, R316, R329, R330, R342, R358 to
R361, R378, R379, R387, R400, R404, R405, R409, R410, R415, R419, R424, R438, R456, R479). -/

namespace Sys2Proof.Machine

open Sys2Proof

/-! ## Checks -/

/-- A range or state refusal as a code: 0 where the write is in order. -/
def codeIf (bad : Bool) (code : Nat) : Nat := if bad then code else 0

/-- Whether a parameter lies in the range of a monitor source (R400). -/
def paramOk (src v : Nat) : Bool :=
  match src with
  | 0x01 => v < 96
  | 0x05 => v < 96
  | 0x06 => v < 96
  | 0x0C => v < 96
  | 0x02 => v < 512
  | 0x03 => v < 512
  | 0x07 => v < 512
  | 0x04 => v < 48 || v = 0xFFFF
  | 0x08 => v < 48 || v = 0xFFFF
  | 0x0F => v < 8 || v = 0xFFFF
  | 0x10 => v < 8
  | _ => v = 0

/-- Whether a mapping entry names a ro object of its width (R133). -/
def mapEntryOk (v : Nat) : Bool :=
  let idx := v / 2 ^ 16
  let sub := v / 2 ^ 8 % 2 ^ 8
  let bits := v % 2 ^ 8
  [8, 16, 32, 64].contains bits &&
  (match objRow? idx sub with
   | some r => r.acc = .ro && !r.ty.isDomain && 8 * r.ty.size = bits
   | none => false)

/-- Whether a TPDO's mapping, of `n` entries as a function, obeys R133. -/
def State.mapOk (s : State) (t n : Nat) (entry : Nat → Nat) : Bool :=
  (List.range n).all (fun k => mapEntryOk (entry k)) &&
  (List.range n).foldl (fun b k => b + entry k % 2 ^ 8 / 8) 0 ≤ s.tpdoRoom (s.obj (0x1800 + t) 6)

/-- The mapped total of a TPDO, bytes. -/
def State.tpdoLength (s : State) (t : Nat) : Nat :=
  (List.range (s.obj (0x1A00 + t) 1)).foldl (fun b k => b + s.obj (0x1A00 + t) (k + 2) % 2 ^ 8 / 8) 0

/-- Whether an entry holds a value, or an accepted write that waits for the attic will give it that value (R101). -/
def State.holdsOrWill (s : State) (idx sub v : Nat) : Bool :=
  s.obj idx sub = v || s.attic.queue.any fun w => w.idx = idx && w.sub = sub && leVal w.data = v

/-- The rates and TMS of one port always form a valid set (R126): 20 Mbit/s needs TMS. A write is judged beside the accepted writes
that are still to take effect, so that no two of them break the set. -/
def State.ratesCheck (s : State) (idx sub v : Nat) : Nat :=
  codeIf ((sub = 5 && v = 20000000 && s.holdsOrWill idx 6 0) || (sub = 6 && v = 0 && s.holdsOrWill idx 5 20000000)) 0x06090030

/-- The check of a mapping write (R133). -/
def State.mappingCheck (s : State) (t sub v : Nat) : Nat :=
  let held (k : Nat) : Nat := s.obj (0x1A00 + t) (k + 2)
  if sub = 1 then codeIf (!s.mapOk t v held) 0x06090030
  else
    let entry (k : Nat) : Nat := if k + 2 = sub then v else held k
    codeIf (!mapEntryOk v || !s.mapOk t (s.obj (0x1A00 + t) 1) entry) 0x06090030

/-- Whether a stream is enabled (R161). -/
def State.streamOn (s : State) (strm : Nat) : Bool := s.objB 0x3000 1 strm

/-- The check of 0x3000 (R161, R162). -/
def State.streamCheck (s : State) (sub ch v : Nat) : Nat :=
  if sub != 1 then codeIf (s.streamOn ch) 0x08000022
  else if v = 0 then codeIf (s.pw.mode = .drive && s.objB 0x3001 1 ch) 0x08000022
  else codeIf (!s.streamOn ch && !s.enableOk ch) 0x06090030

/-- The check of 0x3010 (R215, R218, R230): an entry of the result ring, of the kernel and of the weight range. -/
def State.stripCheck (s : State) (sub ch v : Nat) : Nat :=
  if s.streamOn ch then 0x08000022
  else
    codeIf ((sub = 4 && v != 0 && (v < s.hostRegion || cellarEnd ≤ v)) ||
            (sub = 7 && v != 0 && (v % 4 != 0 || v < s.hostRegion || cellarEnd ≤ v)) ||
            (sub = 9 && (v % 65536 != 0 || cellarEnd ≤ v))) 0x06090030

/-- Whether a completion ring meets R334: 4 KiB aligned in the cellar of its partition; a base of 0, for strip jobs alone, in
partition 0. -/
def State.complRingOk (s : State) (q : Nat) : Bool :=
  let p := s.obj 0x6000 2 q
  let b := s.obj 0x6000 7 q
  let e := b + 32 * s.obj 0x6000 8 q
  if b = 0 then p = 0
  else if p = 0 then b % 4096 = 0 && e ≤ cellarEnd && (s.pw.mode != .depot || s.hostRegion ≤ b)
  else b % 4096 = 0 && e ≤ s.windowBytes (p - 1)

/-- The check of 0x6000 (R329, R342). -/
def State.queueCheck (s : State) (sub q v : Nat) : Nat :=
  let on := s.objB 0x6000 1 q
  if sub = 9 then 0
  else if sub != 1 then codeIf on 0x08000022
  else if v = 0 then
    codeIf (on && (List.range 96).any fun k => s.streamOn k && s.obj 0x3010 1 k = q) 0x08000022
  else if on then 0
  else
    codeIf (s.descFree < s.obj 0x6000 6 q || (s.obj 0x6000 2 q != 0 && s.obj 0x6000 3 q < 2) || !s.complRingOk q) 0x06090030

/-- The check of 0x6021 (R424). -/
def State.guestCheck (s : State) (sub g v : Nat) : Nat :=
  if s.pw.mode != .depot && s.pw.mode != .bench then 0x08000022
  else if s.obj 0x2001 6 != 0 then 0x08000022
  else if sub != 1 then codeIf (s.guestState g != 0) 0x08000022
  else
    codeIf (v = 1 && s.pw.mode = .depot && s.obj 0x6100 0x0A = 2 && (s.guestState g = 0 || s.guestState g = 5) &&
      !s.windowFits g (s.obj 0x6021 2 g) (s.obj 0x6021 3 g)) 0x06090030

/-- The check of a hazard feed (R225): the "any" bit and the sensor ID are the range feeds' alone. -/
def feedOk (sub v : Nat) : Bool :=
  v % 2 ^ 8 / 4 = 0 &&
  (if sub ≤ 8 then !bit v 1 && v / 2 ^ 8 % 2 ^ 8 = 0 && v / 2 ^ 16 ≤ 8191 else v / 2 ^ 16 ≤ 0xFFFE)

/-- The check of 0x5010:01 (R358, R360). -/
def State.splitCheck (s : State) (v : Nat) : Nat :=
  codeIf ((s.pw.mode != .bench && s.pw.mode != .depot) ||
    (v = 1 && (s.saf.splitAt.isSome || s.saf.rejoinAt.isSome || s.keepersSplit))) 0x08000022

/-- Whether a delivery can end now (R89, R90): no check runs; in WAKING and HANDOVER the staging window is open, in BENCH a
load may always be started. DESIGN CHOICE (log entry 35): a length written in WAKING or HANDOVER while no window is open is refused
with 0x0800_0022, and one is taken whatever the image source. -/
def State.lengthOk (s : State) : Bool :=
  s.su.checking.isNone && !s.su.placing &&
  (match s.pw.mode with
   | .waking => s.su.window.isSome
   | .handover => s.su.window.isSome
   | .bench => true
   | _ => false)

/-- Whether a camera port's configuration is one of R147 (R175): no reserved lane code, and a rate within the PHY's range; the rate
of a port that is not enabled may be 0, its default. DESIGN CHOICE (log entry 64). -/
def cameraPortOk (v : Nat) : Bool :=
  v % 2 ^ 32 &&& 0xFFFF000F == v && bits v 2 2 != 3 &&
  ((v / 2 ^ 16 = 0 && !bit v 0) || (80 ≤ v / 2 ^ 16 && v / 2 ^ 16 ≤ (if bit v 1 then 6000 else 4500)))

/-- The refusal of a write of a value by its chapter; 0 where it is accepted. -/
def State.chapterCheck (s : State) (_p idx sub ch v : Nat) : Nat :=
  if idx = 0x6120 && !s.storeServed then 0x08000022
  else if 0x1A00 ≤ idx && idx ≤ 0x1A07 then s.mappingCheck (idx - 0x1A00) sub v
  else if idx = 0x1F90 || idx = 0x1F91 then s.ratesCheck idx sub v
  else if idx = 0x3000 then s.streamCheck sub ch v
  else if idx = 0x3010 then s.stripCheck sub ch v
  else if idx = 0x3013 then codeIf (s.streamOn ch) 0x08000022
  else if idx = 0x3100 then codeIf (!cameraPortOk v) 0x06090030
  else if idx = 0x3112 then codeIf (!feedOk sub v) 0x06090030
  else if idx = 0x6000 then s.queueCheck sub ch v
  else if idx = 0x6010 then
    codeIf ((s.pw.mode != .bench && s.pw.mode != .depot) || !(s.inUse (sub - 1)).isEmpty) 0x08000022
  else if idx = 0x6021 then s.guestCheck sub ch v
  else
    match idx, sub with
    | 0x2040, 6 => codeIf (v < s.obj 0x2040 6) 0x06090030
    | 0x2050, 1 => codeIf (!s.lengthOk) 0x08000022
    | 0x3001, 1 => codeIf (v = 1 && s.streamOn ch && 33333 < s.obj 0x3000 0x0A ch) 0x06090030
    | 0x3106, 1 => codeIf (s.obj 0x3106 2 < v) 0x06090030
    | 0x3106, 2 => codeIf (v < s.obj 0x3106 1) 0x06090030
    | 0x4020, 1 =>
      codeIf ((s.pw.mode != .bench && s.pw.mode != .depot) || s.outOfService ch || s.obj 0x4000 1 ch = 3) 0x08000022
    | 0x4801, 1 => codeIf (v < 0xA00000000 || 0xBC0000000 < v || v % 2 ^ 30 != 0) 0x06090030
    | 0x4802, 1 => codeIf (8 < v && v != 0xFF) 0x06090030
    | 0x5010, 1 => s.splitCheck v
    | 0x5020, 1 => codeIf (s.pw.mode != .bench || (List.range 48).any fun e => !(s.inUse e).isEmpty) 0x08000022
    | 0x5100, 2 => codeIf (s.obj 0x5100 3 < v) 0x06090030
    | 0x5100, 3 => codeIf (v < s.obj 0x5100 2) 0x06090030
    | 0x5100, 4 => codeIf (7 < v) 0x06090030
    | 0x7000, 1 => codeIf (!paramOk v (s.obj 0x7000 2 ch)) 0x06090030
    | 0x7000, 2 => codeIf (!paramOk (s.obj 0x7000 1 ch) v) 0x06090030
    | 0xB021, 1 => codeIf (s.obj 0xB021 2 < v) 0x06090030
    | 0xB021, 2 => codeIf (v < s.obj 0xB021 1) 0x06090030
    | 0xB022, 1 => codeIf (s.obj 0xB022 2 < v) 0x06090030
    | 0xB022, 2 => codeIf (v < s.obj 0xB022 1) 0x06090030
    | 0xB023, 1 => codeIf (s.obj 0xB023 2 < v) 0x06090030
    | 0xB023, 2 => codeIf (v < s.obj 0xB023 1) 0x06090030
    | _, _ => 0

/-- The refusal of a DOMAIN write by the present state, whatever its bytes (R184, R438, R456): a download to it fails at its start
(R110). -/
def State.domainState (s : State) (idx sub : Nat) : Nat :=
  codeIf ((idx = 0x6120 && !s.storeServed) || (idx = 0x8000 && sub = 0 && (List.range 96).any s.streamOn) ||
          (idx = 0x6110 && sub = 3 && (!s.storeServed || 4096 ≤ s.depot.jobs.length))) 0x08000022

/-- The refusal of a DOMAIN write by its chapter (R184, R438, R456); reserved bytes of an offer must be zero (R13, R433). -/
def State.domainCheck (s : State) (_p idx sub _ch : Nat) (d : List Byte) : Nat :=
  if s.domainState idx sub != 0 then s.domainState idx sub
  else
    match idx, sub with
    | 0x6110, 3 => codeIf (!allZero (slice d 11 1) || !allZero (slice d 20 12)) 0x06090030
    | 0x6120, 7 =>
      if d.length != 2 ^ 21 && d.length != 2 ^ 22 then 0x06070010
      else codeIf ((s.storedChunk (hashOf d)).isNone && !s.storeFits d.length) 0x08000022
    | 0x6120, 8 =>
      codeIf (!manifestOk d || (dataHashes d).any fun h => (s.storedChunk h).isNone) 0x06090030
    | _, _ => 0

/-! ## Effects -/

/-- A run-time split begins (R359 step 1). -/
def State.splitStart (s : State) : State :=
  { s with saf := { s.saf with splitAt := some s.now, ackA := false, ackB := false } }.setObj 0x5010 2 1

/-- A rejoin that a write of 0x5010:01 starts (R360): the resident image is checked afresh beside it. -/
def State.rejoinByWrite (s : State) : State :=
  if s.saf.rejoinAt.isSome then s
  else { s.rejoinStart with su := { s.su with freshRun := true, freshOk := false } }

/-- A write of the suspend flag (R419, R46): in DEPOT it clears depot enable; cleared in ready-hold, the DEPOT row may apply, and
the boot option splits the pairs there (DESIGN CHOICE, log entry 63). -/
def State.suspendWritten (s : State) (v : Nat) : State :=
  if v = 1 then (if s.pw.mode = .depot && s.mayMove then s.enterHandover else s)
  else if s.pw.mode = .waking && s.pw.readyHold.isSome && s.mayMove && !s.pw.ign && s.depotReady then
    s.enterDepot.splitAtBoot
  else s

/-- A write of 0x6021:01 in DEPOT while guests are served (R424, R428). -/
def State.guestWritten (s : State) (g v : Nat) : State :=
  if s.pw.mode != .depot || s.obj 0x6100 0x0A != 2 then s
  else if v = 0 then s.wipeStart g
  else if s.guestState g = 0 then s.localStart g
  else s

/-- An engine's partition has been written (R330): in DEPOT the move waits for its scrub. -/
def State.partitionWritten (s : State) (e old v : Nat) : State :=
  if s.pw.mode = .depot && old != v then s.modEngine e fun x => { x with moving := some (x.moving.getD old) } else s

/-- A write of an event selection or of the clear, in the bank that the path has chosen (R409, R410). -/
def State.bankWritten (s : State) (e part sub v : Nat) : State :=
  let b := s.bank e part
  if sub = 0x10 then
    if v = 1 then s.setBank e part { b with cycle := 0, counts := List.replicate 6 0, overflow := 0 } else s
  else s.setBank e part { b with counts := b.counts.set (sub - 9) 0, events := b.events.set (sub - 9) v }

/-- 0xA000:01 has been written (R457, R476): a cascade of one powers both ports off and ends the same-ID condition. -/
def State.cascadeWritten (s : State) (v : Nat) : State :=
  if v = 1 then
    { s with
      pw := { s.pw with wakeReqSameId := false }
      casc := { s.casc with fl0 := FlPort.idle, fl1 := FlPort.idle } }.refreshReg
  else s

/-- Delivery ends with a length (R89, R471): the checks read the window as it stands now (R87). One that ends on the edge of its deadline
prevails, and is a near-miss (R90, R211). -/
def State.deliveryEnds (s : State) (len : Nat) : State :=
  let s := if s.su.window = some s.now then s.nearMiss else s
  { s with su := { s.su with
      checking := some len, window := none
      image := s.mem.filter fun e => 0xBF0000000 ≤ e.1 && e.1 < 0xC00000000 } }.setObj 0x2050 2 2

/-- What a write of a value that takes effect does beside its value; `old` is what the entry showed before. -/
def State.chapterEffect (s : State) (p idx sub ch old v : Nat) : State :=
  if (idx = 0x1014 || (0x1800 ≤ idx && idx ≤ 0x1807)) && sub = 1 then s.cobWritten idx old
  else if idx = 0x1F90 || idx = 0x1F91 then
    if sub = 1 || (sub = 0x19 && v = 1) then s.releaseBlocks (idx - 0x1F90) else s
  else if idx = 0x4030 then s.bankWritten ch (s.path p).bank sub v
  else if idx = 0x6010 then s.partitionWritten (sub - 1) old v
  else if idx = 0x7000 then
    if sub ≤ 6 || (sub = 0x0B && v = 1) then s.monEmpty ch
    else if 7 ≤ sub && sub ≤ 9 then s.weirReset ch
    else s
  else if idx = 0x9001 then s.gptpWritten sub old v
  else if idx = 0x3112 || (idx = 0x3111 && sub = 1) || (idx = 0x5001 && sub = 1) then s.hazardRecheck
  else
    match idx, sub with
    | 0x2050, 1 => s.deliveryEnds v
    | 0x3000, 1 => if old = v then s else if v = 1 then s.enableStream ch else s.disableStream ch
    | 0x4020, 1 => (s.closeDike ch 5 0xFFFF false false).settle
    | 0x4802, 1 => s.bump 0x4802 2
    | 0x4810, 8 => if v = 1 then s.flagSlots fun _ => true else s
    | 0x5010, 1 => if v = 1 then s.splitStart else s.rejoinByWrite
    | 0x5100, 4 => s.watchdogWritten v
    | 0x6000, 1 => if old = v || v = 0 then s else s.setQueue ch QueueState.fresh
    | 0x6021, 1 => s.guestWritten ch v
    | 0x6100, 3 => s.suspendWritten v
    | 0x7040, 6 => if v = 1 then { s with smp := { s.smp with records := [] } } else s
    | 0xA000, 1 => s.cascadeWritten v
    | _, _ => s

/-- A new calibration set takes effect (R186, R183): its area takes the commit word, the other area is erased, and in BENCH the
cellar copy follows. -/
def State.calEffect (s : State) : State :=
  let b := s.obj 0x8001 3 = 0
  let s := { s with attic := if b then { s.attic with commitB := true } else { s.attic with commitA := true } }
  let s := (((s.calShow (if b then 1 else 0)).bump 0x8001 6).eraseArea (!b)).trimAclk
  if s.pw.mode = .bench && s.su.cellarOn then s.calCopy else s

/-- What a DOMAIN write that takes effect does: an owner key hash, the calibration set, a fleet job, a chunk, a manifest. -/
def State.domainEffect (s : State) (_p idx sub _ch : Nat) (d : List Byte) : State :=
  match idx, sub with
  | 0x2040, 7 => s.setObj 0x2040 7 (leVal d)
  | 0x2040, 8 => s.setObj 0x2040 8 (leVal d)
  | 0x8000, 0 => s.calEffect
  | 0x6110, 3 => s.submitFleetJob d
  | 0x6120, 7 => s.keepChunk (hashOf d) d
  | 0x6120, 8 => s.keepManifest (hashOf d) d
  | _, _ => s

/-! ## The calibration set's checks (R185) -/

/-- The reason and the refusal of an offered set; reason 0 where it passes steps 1 to 6. -/
def State.calJudge (s : State) (d : List Byte) : Nat × Nat :=
  if d.length != 12480 then (1, 0x06070010)
  else if !calCrc d then (2, 0x08000020)
  else if !calHeader d then (3, 0x06090030)
  else if field d 20 8 != s.obj 0x2000 6 then (4, 0x06090030)
  else if field d 16 1 != 1 || field d 12 4 != s.obj 0x8001 1 + 1 then (5, 0x06090030)
  else if !calBody d then (6, 0x06090030)
  else (0, 0)

/-- A rejected set (R185): recorded, counted, with EMCY 0xFF0A. -/
def State.calReject (s : State) (reason : Nat) (d : List Byte) : State :=
  let gen := field (padTo 16 d) 12 4
  ((((s.setObj 0x8001 7 reason).setObj 0x8001 8 gen).bump 0x8001 9)).raise 0xFF0A 0xFF gen

/-- Program a set into the erased area and verify it (R186 step 1). -/
def State.calProgram (s : State) (w : AtticWrite) : State :=
  let b := s.obj 0x8001 3 = 0
  { s with attic := if b then { s.attic with areaB := w.data, commitB := false, pendSet := some w }
                    else { s.attic with areaA := w.data, commitA := false, pendSet := some w } }

/-- What a PCIe function's reset ends beside its path: what its doorbell pages hold (R334, R72). -/
def State.fnReset (s : State) (fn : Nat) : State :=
  { s with sched := { s.sched with bells := s.sched.bells.filter fun b => b.1 % 8192 != fn } }

end Sys2Proof.Machine
end

