-- ==== Sys2Proof/Machine/DictOps.lean ====
section
/-! DEFINITION. Writing the object dictionary: judging a write, the unlock sequence, sealed records, the attic's queue,
the DOMAIN transfers and the journal (chapter 4). The chapters' own checks and effects are `chapterCheck` and
`chapterEffect`. -/

namespace Sys2Proof.Machine

/-! ## Ranges -/

/-- Whether a value meets its row's range (R13, R97). -/
def ObjRow.admits (r : ObjRow) (v : Nat) : Bool :=
  (match r.ty with
   | .bool => v ≤ 1
   | _ => true) &&
  (match r.chk with
   | .any => true
   | .range lo hi => lo ≤ v && v ≤ hi
   | .irange lo hi => lo ≤ toSigned (8 * r.ty.size) v && toSigned (8 * r.ty.size) v ≤ hi
   | .mask m => v &&& m == v
   | .oneOf l => l.contains v
   | .align n => v % n == 0
   | .mult k lo hi => v % k == 0 && lo ≤ v && v ≤ hi
   | .pow2 lo hi => lo ≤ v && v ≤ hi && v &&& (v - 1) == 0
   | .orAll hi => v ≤ hi || v == 0xFFFFFFFF
   | .wake => v < 32 && v % 2 == 1
   | .dlc => v ≤ 15 || v == 255
   | .feed => true
   | .hostBase => true
   | .inval => true
   | .armed => true)

/-! ## Failing a transfer, invalidating an upload (R110) -/

/-- The path status takes a refusal of an entry (R111). -/
def PathState.noteRefusal (p : PathState) (idx sub code : Nat) : PathState :=
  { p with refusal := code, refused := idx * 256 + sub, refusals := (p.refusals + 1) % 2 ^ 32 }

/-- A mailbox transfer of an entry fails with a code, which 0x2020:07 and the path status report (R110, R111). -/
def PathState.failXfer (p : PathState) (idx sub code : Nat) : PathState :=
  { p with mailbox := none, mbStatus := 0x0F, mbFail := code }.noteRefusal idx sub code

/-- The mailbox of a path fails with a code, where a transfer is open. -/
def PathState.failMailbox (p : PathState) (code : Nat) : PathState :=
  match p.mailbox with
  | some x => p.failXfer x.idx x.sub code
  | none => p

/-- Whether a path carries dictionary messages: a UDP peer, or path 0x30 (R136, R474). -/
def isUdp (c : Nat) : Bool := 0x20 ≤ c && c ≤ 0x30

/-- The session of a path fails: a UDP peer hears of it at its next request (R136), a CAN client by an abort (R132). -/
def State.failSession (s : State) (c code : Nat) : State :=
  match (s.path c).session with
  | none => s
  | some x =>
    let s := (s.modPath c fun p =>
      { p with session := none, sessionFail := if isUdp c then some code else none }).refuse c x.idx x.sub code
    if isUdp c then s else s.answer c code []

/-- An upload of an entry that is written fails with 0x0800_0020 on every path (R110). -/
def State.invalidate (s : State) (idx sub ch : Nat) : State :=
  let hit (x : Xfer) : Bool := x.upload && x.idx == idx && x.sub == sub && x.chan == ch
  (s.paths.map (·.1)).foldl (fun s c =>
    let s := if (s.path c).mailbox.any hit then s.modPath c fun p => p.failMailbox 0x08000020 else s
    if (s.path c).session.any hit then s.failSession c 0x08000020 else s) s

/-! ## A write takes effect (R101, R119) -/

/-- Store the value of an rw entry. The COB-IDs keep bit [32] as the mark of a written value (R128). -/
def State.storeValue (s : State) (idx sub ch v : Nat) : State :=
  if (rowOf idx sub).acc != .rw then s
  else if idx = 0x4030 then s
  else if (idx = 0x1014 && sub = 1) || (0x1800 ≤ idx && idx ≤ 0x1807 && sub = 1) then s.setObj idx sub (v + 2 ^ 32) ch
  else s.setObj idx sub v ch

/-- The value of an entry before a write, for the journal: 0 for wo entries (R120). -/
def State.oldValue (s : State) (p idx sub ch : Nat) : Nat :=
  if (rowOf idx sub).acc != .rw then 0
  else if (rowOf idx sub).ty.isDomain then
    (match s.readDomain p idx sub (chanKey ch) with
     | .inr b => leVal (b.take 8)
     | .inl _ => 0)
  else
    match s.readNat p idx sub (chanKey ch) with
    | .inr v => v
    | .inl _ => 0

/-- A write takes effect: stored, journaled with the state of its commit, uploads of the entry invalidated, and the
owning chapter's effect; a write to 0x9001 with the Time Base locked waits for the next TICK edge (R212). Flags: [1] wider than 8 bytes, [2] S-object, [3] by record (R120). -/
def State.takeEffect (s : State) (p idx sub ch : Nat) (data : List Byte) (st : Nat) (byRecord : Bool) : State :=
  let r := rowOf idx sub
  let old := s.oldValue p idx sub ch
  let held : Bool := idx = 0x9001 && s.gptpHolds
  let s := if r.ty.isDomain || held then s else s.storeValue idx sub (chanKey ch) (leVal data)
  let flags := (if 8 < data.length then 2 else 0) + (if r.sObj then 4 else 0) + (if byRecord then 8 else 0)
  let s := s.journalAdd p idx sub ch st flags old (leVal (data.take 8))
  let s := s.invalidate idx sub ch
  if r.ty.isDomain then s.domainEffect p idx sub (chanKey ch) data
  else if held then s.modGptp fun g => { g with writes := g.writes ++ [(sub, leVal data)] }
  else s.chapterEffect p idx sub (chanKey ch) old (leVal data)

/-- The commit word of a set that has been programmed is written: the set takes effect, and its response is given (R186
step 2). -/
def State.calCommit (s : State) : State :=
  match s.attic.pendSet with
  | none => s
  | some w =>
    let s := { s with attic := { s.attic with pendSet := none } }
    let s := s.takeEffect w.path 0x8000 0 w.chan w.data w.state w.byRecord
    s.tellWrite w 0

/-- An offered calibration set (R185, R186): one that still waits for its commit word is committed first. -/
def State.calWrite (s : State) (p : Nat) (d : List Byte) (byRecord answers verified : Bool) : Nat × State :=
  let s := s.calCommit
  let j := s.calJudge d
  if j.1 != 0 then (j.2, s.calReject j.1 d)
  else if !verified then (0x08000020, s.calReject 7 d)
  else
    (0, s.calProgram { path := p, idx := 0x8000, sub := 0, chan := 0xFFFF, data := d, state := s.pw.mode.code,
                       byRecord := byRecord, answers := answers })

/-- Commit a DOMAIN write that has been judged and is no attic-class object: a calibration set, checked in order, whose verification
in the attic (R185 step 7) is a free value (log entry 2), or a write that takes effect at once. -/
def State.commitDomain (s : State) (p idx sub ch : Nat) (d : List Byte) (byRecord answers : Bool) : Nat × State :=
  if idx = 0x8000 then
    let f := s.takeFree
    f.2.calWrite p d byRecord answers (Config.setVerifies f.1)
  else (0, s.takeEffect p idx sub ch d s.pw.mode.code byRecord)

/-! ## Judging a write -/

/-- The refusal of a write by its form alone, in the order: served, exists, access code, DOMAIN reached directly,
length (R64, R98, R107, R111). The length of the calibration set is checked with the set (R185). -/
def State.formCode (s : State) (p idx sub : Nat) (data : List Byte) (whole : Bool) : Nat :=
  let r := rowOf idx sub
  if s.serveCode p idx != 0 then s.serveCode p idx
  else if existsCode idx sub != 0 then existsCode idx sub
  else if r.acc != .wo && r.acc != .rw then 0x06010002
  else
    match r.ty with
    | .domain n => if !whole then 0x06010000 else if n != 0 && idx != 0x8000 && data.length != n then 0x06070010 else 0
    | t => if data.length != t.size then 0x06070010 else 0

/-- The refusal of an S-object write by the state or the window (R114). -/
def State.safetyCode (s : State) (p idx sub : Nat) (inWindow : Bool) : Nat :=
  if !(rowOf idx sub).sObj then 0
  else if s.pw.mode != .parked && s.pw.mode != .bench then 0x08000022
  else if !inWindow && !s.windowOpen p then 0x08000021
  else 0

/-- The refusal of a write, 0 where it is accepted (R12, R13, R97, R111 to R114). DESIGN CHOICE (log entry 5): where
several refusals apply, the first in this order is reported. -/
def State.judge (s : State) (p idx sub ch : Nat) (data : List Byte) (whole inWindow : Bool) : Nat :=
  let r := rowOf idx sub
  if s.formCode p idx sub data whole != 0 then s.formCode p idx sub data whole
  else if s.safetyCode p idx sub inWindow != 0 then s.safetyCode p idx sub inWindow
  else if r.ty.isDomain then s.domainCheck p idx sub (chanKey ch) data
  else if !r.admits (leVal data) then 0x06090030
  else s.chapterCheck p idx sub (chanKey ch) (leVal data)

/-! ## Path-local writes -/

/-- Write a path-local entry; none of them is journaled (R119). A write of 0x2600:03 or 0x7040:07 latches (R122, R415). -/
def State.writeLocal (s : State) (p idx sub v : Nat) : State :=
  s.modPath p fun q =>
    match idx, sub with
    | 0x2100, 1 => { q with selStream := v }
    | 0x2100, 2 => { q with selEngine := v }
    | 0x2100, 3 => { q with selQueue := v }
    | 0x2100, 4 => { q with selMonitor := v }
    | 0x2100, 5 => { q with selGuest := v }
    | 0x2600, 3 => { q with jIndex := v, jLatch := s.journal.entries[v]? }
    | 0x2031, 2 => { q with hIndex := v }
    | 0x4030, 1 => { q with bank := v }
    | 0x5120, 2 => { q with recIndex := v }
    | 0x6110, 7 => { q with jobIndex := v }
    | 0x7040, 7 => { q with smpIndex := v, smpLatch := s.smp.records.getD v [] }
    | 0x2020, 1 => { q with mbTarget := v }
    | 0x2020, 4 => { q with mbTotal := v }
    | 0x2020, k =>
      if 0x10 ≤ k && k ≤ 0x4F then
        { q with mbData := (padTo 256 q.mbData).take (4 * (k - 0x10)) ++ leBytes 4 v ++
                           (padTo 256 q.mbData).drop (4 * (k - 0x10) + 4) }
      else q
    | _, _ => q

/-- The refusal of a path-local write that names an absent journal entry (R122) or sets reserved bits of the mailbox's target.
An open transfer keeps the target and the total that it started with. -/
def State.localCode (s : State) (_p idx sub v : Nat) : Nat :=
  if idx = 0x2600 && sub = 3 && s.journal.entries.length ≤ v then 0x08000024
  else if idx = 0x2020 && sub = 1 && 2 ^ 24 ≤ v then 0x06090030
  else 0

/-! ## The unlock sequence (R115) -/

/-- End an armed sequence, counted once (R115). -/
def State.endSequence (s : State) (p : Nat) : State :=
  if (s.path p).armed.isSome then (s.modPath p fun q => { q with armed := none }).bump 0x2010 6 else s

/-- A refused key: it ends the sequence, or with none armed counts all the same. -/
def State.failKey (s : State) (p : Nat) : State := (s.modPath p fun q => { q with armed := none }).bump 0x2010 6

/-- A write of the unlock key (R114, R115): the refusal, and the state; a key that the state refuses counts like any other refused
one. -/
def State.unlockKey (s : State) (p v : Nat) : Nat × State :=
  if s.pw.mode != .parked && s.pw.mode != .bench && s.pw.mode != .safe then (0x08000022, s.failKey p)
  else
    match (s.path p).armed with
    | none =>
      if v = 0x5A1D then
        (0, (s.modPath p fun q => { q with armed := some s.now }).journalAdd p 0x2010 1 0xFFFF s.pw.mode.code 0 0 v)
      else (0x06090030, s.failKey p)
    | some t =>
      if v = 0xE2C7 && s.now ≤ t + 64 then
        let near := s.now == t + 64
        let s := (s.modPath p fun q => { q with armed := none, opened := some s.now }).bump 0x2010 5
        let s := if near then s.nearMiss else s
        (0, s.journalAdd p 0x2010 1 0xFFFF s.pw.mode.code 0 0 v)
      else (0x06090030, s.failKey p)

/-! ## State requests (R54, R66) -/

/-- A transition is in progress (R66): teardown or HANDOVER, a wake source fired, a class-S detection made. -/
def State.transitionBusy (s : State) : Bool :=
  s.pw.teardown.isSome || s.pw.mode = .handover || s.pw.deferred.isSome || s.pw.pendSafe.isSome

/-- The status that R54 gives a request, 0x01 where it accepts it; 0x14 where a transition is in progress (R66). -/
def State.requestStatus (s : State) (p v : Nat) (inWindow : Bool) : Nat :=
  let dictWake := s.objBit 0xB001 1 4 && !s.pw.resetHeld
  let open_ := inWindow || s.windowOpen p
  let st :=
    match v, s.pw.mode with
    | 1, .bench => 0x01
    | 2, .parked => if dictWake then 0x01 else 0x10
    | 3, .parked => if !dictWake then 0x10 else if open_ then 0x01 else 0x11
    | 3, .safe => if open_ then 0x01 else 0x11
    | 4, .bench =>
      if !s.pw.ign then 0x12
      else if s.obj 0x2001 5 = 2 || s.obj 0x5010 2 = 1 || !s.objB 0x5020 1 || !s.su.loaded ||
              s.objB 0x5050 2 || s.objB 0x5050 3 then 0x13
      else 0x01
    | _, _ => 0x10
  if st = 0x01 && s.transitionBusy then 0x14 else st

/-- What an accepted request does (R46, R54, R52, R355). -/
def State.requestAct (s : State) (v : Nat) : State :=
  match v with
  | 1 => s.startTeardown
  | 2 => s.fireWake 4
  | 3 =>
    if s.pw.mode = .safe then
      let s := { s with pw := { s.pw with safeLatch := false, keptCode := none } }
      let s := { s.enterBench with su := { s.su with benchRestricted := true, freshRun := true, cellarOn := true } }
      s.refreshReg.keepersReset
    else { s with pw := { s.pw with benchWake := true } }.fireWake 4
  | _ => s.enterDrive

/-- A write of 0xB000:01: the status is shown, an accepted request is journaled and acts; any other is refused (R12). -/
def State.requestWrite (s : State) (p v : Nat) (inWindow byRecord : Bool) : Nat × State :=
  let st := s.requestStatus p v inWindow
  let s := s.setObj 0xB000 2 st
  if st = 0x01 then
    let s := s.journalAdd p 0xB000 1 0xFFFF s.pw.mode.code (if byRecord then 8 else 0) 0 v
    (0, s.requestAct v)
  else (0x08000022, s)

/-! ## Committing a judged write -/

/-- Commit a write that has been judged: a path-local entry is set, an attic-class entry waits for the attic (R101), every
other entry takes effect at once. -/
def State.commitWrite (s : State) (p idx sub ch : Nat) (data : List Byte) (byRecord answers : Bool) : Nat × State :=
  let r := rowOf idx sub
  if idx = 0x2010 && sub = 1 then s.unlockKey p (leVal data)
  else if idx = 0xB000 && sub = 1 then s.requestWrite p (leVal data) byRecord byRecord
  else if r.cls = .path then
    let v := leVal data
    if r.ty.isDomain then (0, s.modPath p fun q => { q with ckHash := v })
    else if s.localCode p idx sub v != 0 then (s.localCode p idx sub v, s)
    else (0, s.writeLocal p idx sub v)
  else if r.cls = .attic && idx != 0x8000 then
    let w : AtticWrite :=
      { path := p, idx := idx, sub := sub, chan := ch, data := data, state := s.pw.mode.code, byRecord := byRecord,
        answers := answers }
    (0, { s with attic := { s.attic with queue := s.attic.queue ++ [w] } })
  else if r.ty.isDomain then s.commitDomain p idx sub ch data byRecord answers
  else (0, s.takeEffect p idx sub ch data s.pw.mode.code byRecord)

/-- An S-object write on the edge that closes its window is inside it, and a near-miss (R115, R211). -/
def State.windowEdge (s : State) (p idx sub : Nat) : State :=
  match (rowOf idx sub).sObj, (s.path p).opened with
  | true, some t => s.nearEdge t 64
  | _, _ => s

/-- A dictionary write on a path at the commit point, with the channel of the path's selector: the code, and the state
after. Any write but the keys ends an armed sequence, accepted or refused (R115). A refusal shows in 0x2021 (R108). -/
def State.dictWrite (s : State) (p idx sub : Nat) (data : List Byte) (whole answers : Bool) : Nat × State :=
  let ch := (s.path p).channel (rowOf idx sub).sel
  let s := if idx = 0x2010 && sub = 1 && s.formCode p idx sub data whole = 0 then s else s.endSequence p
  let s := if idx = 0x2020 then s.mbTouch p else s
  let c := s.judge p idx sub ch data whole false
  if c != 0 then (c, s.refuse p idx sub c)
  else
    let s := s.windowEdge p idx sub
    let r := s.commitWrite p idx sub ch data false answers
    if r.1 != 0 then (r.1, r.2.refuse p idx sub r.1) else (0, r.2)

/-- A download that is complete: committed; or staged, where it is a DOMAIN download to an S-object in PARKED or BENCH with no
window open (R118). -/
def State.commitDownload (s : State) (p idx sub ch : Nat) (data : List Byte) (answers : Bool) : Nat × State :=
  let s := s.endSequence p
  let r := rowOf idx sub
  if s.formCode p idx sub data true = 0 && r.sObj && r.ty.isDomain && (s.pw.mode = .parked || s.pw.mode = .bench) && !s.windowOpen p then
    if (s.path p).staged.isSome then (0x05040005, s)
    else (0, s.modPath p fun q => { q with staged := some { idx := idx, sub := sub, chan := ch, data := data, at_ := s.now } })
  else
    let c := s.judge p idx sub ch data true false
    if c != 0 then (c, s) else (s.windowEdge p idx sub).commitWrite p idx sub ch data false answers

/-! ## Sealed records (R117, R118) -/

/-- Whether a record's channel fits its index (R117). -/
def channelFits (sel : Sel) (ch : Nat) : Bool :=
  match sel with
  | .none => ch == 0xFFFF
  | t => ch < t.count

/-- The window opens on a path by a record: an armed sequence ends, counted (R115, R117). -/
def State.openByRecord (s : State) (p : Nat) : State :=
  ((s.endSequence p).modPath p fun q => { q with opened := some s.now }).bump 0x2010 5

/-- The named write of a record, in its window: where it would be refused, no window opens, and the lock stays as it was (R117). -/
def State.commitInWindow (s : State) (p idx sub ch : Nat) (data : List Byte) (answers : Bool) : Nat × State :=
  let t := s.commitWrite p idx sub ch data true answers
  if t.1 != 0 then t else (s.openByRecord p).commitWrite p idx sub ch data true answers

/-- A record that is refused for itself, and not for the write it names: like any other write it ends an armed sequence (R115). -/
def State.recordRefused (s : State) (p code : Nat) : Nat × State := (code, s.endSequence p)

/-- A 24-byte record to 0x2010:02: the refusal, and the state. DESIGN CHOICE (log entry 53): the state is judged before the keys; a
record with wrong keys on an armed path counts once; a record that names 0x2010:01 or 0x2010:02 is refused with 0x0609_0030. -/
def State.sealedRecord (s : State) (p : Nat) (b : List Byte) (answers : Bool) : Nat × State :=
  let idx := field b 4 2
  let sub := field b 6 1
  let len := field b 7 1
  let ch := field b 8 2
  let value := slice b 16 len
  if s.serveCode p 0x2010 != 0 then s.recordRefused p (s.serveCode p 0x2010)
  else if s.pw.mode != .parked && s.pw.mode != .bench && s.pw.mode != .safe then s.recordRefused p 0x08000022
  else if b.length != 24 then s.recordRefused p 0x06070010
  else if field b 0 2 != 0x5A1D || field b 2 2 != 0xE2C7 then (0x06090030, s.failKey p)
  else if field b 10 6 != 0 || 8 < len then s.recordRefused p 0x06090030
  else if s.formCode p idx sub value true = 0x06020000 || s.formCode p idx sub value true = 0x06090011 ||
          s.serveCode p idx != 0 then (s.formCode p idx sub value true, s)
  else if !channelFits (rowOf idx sub).sel ch then s.recordRefused p 0x06090030
  else if idx = 0x2010 && sub ≤ 2 && 1 ≤ sub then (0x06090030, s)
  else if s.pw.mode = .safe && !(idx = 0xB000 && sub = 1) then (0x08000022, s)
  else if len = 0 then
    match (s.path p).staged with
    | none => (0x08000024, s)
    | some g =>
      if g.idx != idx || g.sub != sub || g.chan != ch then (0x08000024, s)
      else if crc32c g.data != field b 16 4 then (0x08000020, s.modPath p fun q => { q with staged := none })
      else
        let c := s.judge p idx sub ch g.data true true
        if c != 0 then (c, s)
        else
          let r := (s.nearEdge g.at_ 1000000).commitInWindow p idx sub ch g.data answers
          (r.1, if r.1 = 0 then r.2.modPath p fun q => { q with staged := none } else r.2)
  else
    let c := s.judge p idx sub ch value false true
    if c != 0 then (c, s) else s.commitInWindow p idx sub ch value answers

/-! ## The mailbox (R109, R110) -/

/-- A start or a step of an upload presents a segment: status, offset, length, data words and the CRC-32C so far. -/
def PathState.present (q : PathState) (x : Xfer) (now : Nat) : PathState :=
  let n := min 256 (x.total - x.offset)
  let b := slice x.data x.offset n
  { q with
    mailbox := some { x with seg := n, at_ := now }
    mbStatus := 1, mbTotal := x.total, mbOffset := x.offset, mbSeg := n
    mbData := padTo 256 b
    mbCrc := crc32c (x.data.take (x.offset + n)) }

/-- A transfer is open, or its commit waits for the attic (R101, R110). -/
def PathState.busyMailbox (q : PathState) : Bool := q.mailbox.isSome || q.mbStatus = 2

/-- Command 0x01: a target that cannot be read fails the transfer at once (R110). -/
def State.mbUploadStart (s : State) (p : Nat) : Nat × State :=
  let q := s.path p
  if q.busyMailbox then (0x08000022, s)
  else
    let idx := q.mbTarget / 256 % 2 ^ 16
    let sub := q.mbTarget % 256
    let ch := q.channel (rowOf idx sub).sel
    match s.peek p idx sub ch true with
    | .inl c => (0, s.modPath p fun q => q.failXfer idx sub c)
    | .inr b =>
      let s := (s.dictRead p idx sub true).2.2
      let x : Xfer := { upload := true, idx := idx, sub := sub, chan := ch, total := b.length, data := b, offset := 0,
                        seg := 0, at_ := s.now, maxSeg := 256 }
      (0, s.modPath p fun q => q.present x s.now)

/-- The refusal of a download's start by its target (R110): it must exist, be writable in the present state, and be no longer
than 16 MiB; S-objects are staged or judged at the commit. -/
def State.downloadCode (s : State) (p idx sub total : Nat) : Nat :=
  let r := rowOf idx sub
  if s.serveCode p idx != 0 then s.serveCode p idx
  else if existsCode idx sub != 0 then existsCode idx sub
  else if r.acc != .wo && r.acc != .rw then 0x06010002
  else if r.sObj && s.pw.mode != .parked && s.pw.mode != .bench then 0x08000022
  else if s.domainState idx sub != 0 then s.domainState idx sub
  else if 2 ^ 24 < total then 0x06070010
  else 0

/-- The refusal of an access of an open transfer under the rules in force at that access (R110). -/
def State.xferCode (s : State) (p : Nat) (x : Xfer) : Nat :=
  if !x.upload then s.downloadCode p x.idx x.sub x.total
  else if s.serveCode p x.idx != 0 then s.serveCode p x.idx
  else codeIf (x.idx = 0x6120 && !s.storeServed) 0x08000022

/-- Command 0x02. -/
def State.mbNextSegment (s : State) (p : Nat) : Nat × State :=
  match (s.path p).mailbox with
  | some x =>
    if !x.upload then (0x08000022, s)
    else if s.xferCode p x != 0 then (0, s.modPath p fun q => q.failMailbox (s.xferCode p x))
    else if x.total ≤ x.offset + x.seg then
      (0, s.modPath p fun q => { q with mailbox := none, mbStatus := 3 })
    else (0, s.modPath p fun q => q.present { x with offset := x.offset + x.seg } s.now)
  | none => (0x08000022, s)

/-- Command 0x03: the target is checked at the start (R110). -/
def State.mbDownloadStart (s : State) (p : Nat) : Nat × State :=
  let q := s.path p
  if q.busyMailbox then (0x08000022, s)
  else
    let idx := q.mbTarget / 256 % 2 ^ 16
    let sub := q.mbTarget % 256
    let r := rowOf idx sub
    let c := s.downloadCode p idx sub q.mbTotal
    if c != 0 then (0, s.modPath p fun q => q.failXfer idx sub c)
    else
      let x : Xfer := { upload := false, idx := idx, sub := sub, chan := q.channel r.sel, total := q.mbTotal, data := [],
                        offset := 0, seg := 0, at_ := s.now, maxSeg := 256 }
      (0, s.modPath p fun q => { q with mailbox := some x, mbStatus := 2, mbOffset := 0, mbSeg := 0, mbCrc := 0 })

/-- A write of the segment length consumes a download segment. -/
def State.mbSegment (s : State) (p len : Nat) : Nat × State :=
  match (s.path p).mailbox with
  | some x =>
    if x.upload then (0x08000022, s)
    else if s.xferCode p x != 0 then (0, s.modPath p fun q => q.failMailbox (s.xferCode p x))
    else if len = 0 || 256 < len then (0x06090030, s)
    else if x.total < x.data.length + len then (0x06070010, s)
    else
      (0, s.modPath p fun q =>
        let d := x.data ++ (padTo 256 q.mbData).take len
        { q with mailbox := some { x with data := d, offset := d.length, at_ := s.now }
                 mbOffset := d.length, mbSeg := len, mbCrc := crc32c d })
  | none => (0x08000022, s)

/-- Whether an accepted write to an entry waits for the attic: an attic-class entry, unless the download has only been staged
(R101, R118). -/
def State.waitsAttic (s : State) (p idx sub : Nat) (s' : State) : Bool :=
  (rowOf idx sub).cls = .attic && !((s.path p).staged.isNone && (s'.path p).staged.isSome)

/-- A download that is complete commits: a sealed record, or a DOMAIN download: the code, whether the answer waits for the attic,
and the state after. -/
def State.commitXfer (s : State) (p : Nat) (x : Xfer) (answers : Bool) : Nat × Bool × State :=
  let sealing := x.idx = 0x2010 && x.sub = 2
  let r := if sealing then s.sealedRecord p x.data answers else s.commitDownload p x.idx x.sub x.chan x.data answers
  let wait := r.1 = 0 &&
    (if sealing then s.waitsAttic p (field x.data 4 2) (field x.data 6 1) r.2 else s.waitsAttic p x.idx x.sub r.2)
  (r.1, wait, if r.1 = 0 then r.2 else r.2.refuse p x.idx x.sub r.1)

/-- Command 0x04. -/
def State.mbCommit (s : State) (p : Nat) : Nat × State :=
  match (s.path p).mailbox with
  | some x =>
    if x.upload || x.data.length != x.total then (0x08000022, s)
    else
      let s := s.modPath p fun q => { q with mailbox := none }
      let r := s.commitXfer p x false
      if r.1 = 0 then (0, if r.2.1 then r.2.2 else r.2.2.modPath p fun q => { q with mbStatus := 3 })
      else (0, r.2.2.modPath p fun q => { q with mbStatus := 0x0F, mbFail := r.1 })
  | none => (0x08000022, s)

/-- Command 0x05: accepted with no effect where no transfer is open. -/
def State.mbAbort (s : State) (p : Nat) : Nat × State :=
  (0, s.modPath p fun q => q.failMailbox 0x05040000)

/-- A mailbox command: served, ending an armed sequence like any other write (R115), touching the limit, then run. -/
def State.mbCommand (s : State) (p sub : Nat) (run : State → Nat × State) : Nat × State :=
  let s := s.endSequence p
  if s.serveCode p 0x2020 != 0 then (s.serveCode p 0x2020, s.refuse p 0x2020 sub (s.serveCode p 0x2020))
  else
    let r := run (s.mbTouch p)
    if r.1 = 0 then r else (r.1, r.2.refuse p 0x2020 sub r.1)

/-- A write of 0x2020:02 or 0x2020:06 by value. -/
def State.mbWrite (s : State) (p sub v : Nat) : Nat × State :=
  s.mbCommand p sub fun s =>
    if sub = 6 then s.mbSegment p v
    else
      match v with
      | 1 => s.mbUploadStart p
      | 2 => s.mbNextSegment p
      | 3 => s.mbDownloadStart p
      | 4 => s.mbCommit p
      | 5 => s.mbAbort p
      | _ => (0x06090030, s)

/-- Whether every byte of a path's access may be served now: the path exists. -/
def State.live (s : State) (p : Nat) : Bool := (s.path p).live

/-- Keeper B is halted, or accesses held by a halt have not been served yet, so that an access of any path but 0x38 waits its
turn (R502). -/
def State.holds (s : State) (p : Nat) : Bool := (s.haltedB || !s.held.isEmpty) && p != 0x38

/-- A write on a path, whatever the entry: the mailbox's commands, or an object: the code, whether the answer waits for the
attic, and the state after. -/
def State.accessOn (s : State) (p idx sub : Nat) (data : List Byte) : Nat × Bool × State :=
  if idx = 0x2020 && (sub = 2 || sub = 6) && data.length = (if sub = 2 then 1 else 2) then
    let r := s.mbWrite p sub (leVal data)
    (r.1, false, r.2)
  else
    let r := s.dictWrite p idx sub data false true
    (r.1, r.1 = 0 && (rowOf idx sub).cls = .attic, r.2)

/-- A write delivered on a path, answered on the path (R139). The answer of an attic-class write waits for the attic (R101). -/
def State.dictAccess (s : State) (p idx sub : Nat) (data : List Byte) : State :=
  if !s.live p then s
  else
    let r := s.accessOn p idx sub data
    if r.2.1 then r.2.2 else r.2.2.answer p r.1 []

end Sys2Proof.Machine
end

