-- ==== Sys2Proof/Machine/Dictionary.lean ====
section
/-! DEFINITION. The commands that are dictionary accesses: object writes and reads, the unlock sequence, sealed records,
the mailbox, state requests, and every row that is a write of one named object (chapter 4; R54, R89, R142, R161, R240,
R316, R329, R330, R358, R360, R378, R387, R404, R410, R415, R419, R424, R428, R438, R456). -/

namespace Sys2Proof.Machine

/-- An access that its path delivers: nothing where the path does not exist or the block is in OFF; held while Keeper B is
halted (R502). -/
def State.deliver (s : State) (p : Nat) (i : Held) (f : State → State) : State :=
  if s.pw.mode = .off || !s.live p then s
  else if s.holds p then { s with held := s.held ++ [i] }
  else f s

/-- A write of a value of `n` bytes to one object, as a command of its own. -/
def State.writeRow (s : State) (p : Path) (idx sub n v : Nat) : State :=
  s.deliver p.code (.value p idx sub (leBytes n v))
    fun s => s.dictAccess p.code idx sub (leBytes n v)

/-- The byte that extends an object's value in the mirror: the sign of an INTEGER, else 0 (R106). -/
def mirrorSign (t : ObjTy) (b : List Byte) : Byte :=
  match t with
  | .i _ => if bit (leVal (b.take t.size)) (8 * t.size - 1) then 0xFF else 0
  | _ => 0

/-- The value bytes of a mirror write: the data of whole dwords with every byte enable set, whose bytes beyond the object must be
the extension (R106, R107). -/
def mirrorValue (t : ObjTy) (data : List Byte) (enables : Bool) : Nat ⊕ List Byte :=
  let n := t.size
  if t.isDomain then .inl 0x06010000
  else if !enables || data.length != roundUp n 4 then .inl 0x06070010
  else
    if (data.drop n).all (· == mirrorSign t data) then .inr (data.take n) else .inl 0x06090030

/-- An object write of a path: the mirror's form first, where the path is a PCIe function (R106 to R108). -/
def State.objectWriteOn (s : State) (p : Path) (idx sub : Nat) (data : List Byte) (enables : Bool) : State :=
  if p.isPcie && s.serveCode p.code idx = 0 && existsCode idx sub = 0 then
    match mirrorValue (rowOf idx sub).ty data enables with
    | .inl c => ((s.endSequence p.code).refuse p.code idx sub c).answer p.code c []
    | .inr v => s.dictAccess p.code idx sub v
  else s.dictAccess p.code idx sub data

/-- OBJECT_WRITE (R102). -/
def execObjectWrite (p : Path) (idx : BitVec 16) (sub : Byte) (data : WriteData) (s : State) : Out :=
  .next (s.deliver p.code (.write p idx.toNat sub.toNat data.bytes data.enables)
    fun s => s.objectWriteOn p idx.toNat sub.toNat data.bytes data.enables)

/-- The dwords of an object's value in the mirror: beyond the object, the extension (R106). -/
def mirrorData (t : ObjTy) (b : List Byte) : List Byte :=
  b ++ List.replicate (roundUp t.size 4 - b.length) (mirrorSign t b)

/-- A read on a path and its answer; a refused read of the mirror completes with every byte 0xFF (R106, R108). -/
def State.readRow (s : State) (p : Path) (idx sub : Nat) : State :=
  let r := s.dictRead p.code idx sub
  let t := (rowOf idx sub).ty
  let b := if !p.isPcie then r.2.1
    else if r.1 = 0 then mirrorData t r.2.1
    else List.replicate (max 4 (roundUp t.size 4)) 0xFF
  r.2.2.answer p.code r.1 b

/-- A read of the mirror window that its form refuses: every byte 0xFF (R107, R108). -/
def State.mirrorRefuse (s : State) (p idx sub code n : Nat) : State :=
  (s.refuse p idx sub code).answer p code (List.replicate n 0xFF)

/-- The form of a read of the mirror window: of an entry that can be read, the length must be its width in dwords, and every byte
enable must be set (R107); 0 where the form is right. -/
def State.mirrorForm (s : State) (p : Path) (idx sub dwords : Nat) (enables : Bool) : Nat :=
  if !p.isPcie || s.serveCode p.code idx != 0 || existsCode idx sub != 0 || (rowOf idx sub).ty.isDomain then 0
  else if enables && 4 * dwords = roundUp (rowOf idx sub).ty.size 4 then 0 else 0x06070010

/-- An object read of a path: the mirror's form first, where the path is a PCIe function. -/
def State.readOn (s : State) (p : Path) (idx sub dwords : Nat) (enables : Bool) : State :=
  let c := s.mirrorForm p idx sub dwords enables
  if c = 0 then s.readRow p idx sub else s.mirrorRefuse p.code idx sub c (4 * dwords)

/-- CLEARING_READ (R99): the value read and the default set in one step; an event that follows applies to the default. On PCIe
the read has a length in dwords, and byte enables (R107). -/
def execClearingRead (p : Path) (idx : BitVec 16) (form : ReadForm) (s : State) : Out :=
  .next (s.deliver p.code (.read p idx.toNat form.sub.toNat form.dwords form.enables)
    fun s => s.readOn p idx.toNat form.sub.toNat form.dwords form.enables)

/-- TIME_BASE_READ (R195): on PCIe, of both dwords. -/
def execTimeBaseRead (p : Path) (s : State) : Out :=
  .next (s.deliver p.code (.read p 0x9000 1 2 true) fun s => s.readRow p 0x9000 1)

/-- UNLOCK_FIRST_KEY (R115). -/
def execUnlockFirstKey (p : Path) (s : State) : Out := .next (s.writeRow p 0x2010 1 2 0x5A1D)

/-- UNLOCK_SECOND_KEY (R115). -/
def execUnlockSecondKey (p : Path) (s : State) : Out := .next (s.writeRow p 0x2010 1 2 0xE2C7)

/-- UNLOCK_WINDOW_CLOSE (R115). -/
def execUnlockWindowClose (p : Path) (s : State) : Out :=
  .next (if s.live p.code then s.modPath p.code fun q => { q with opened := none } else s)

/-- A sealed record on a path, and its answer (R117). -/
def State.sealedRow (s : State) (p : Nat) (b : List Byte) : State :=
  let r := s.sealedRecord p b true
  let s := if r.1 = 0 then r.2 else r.2.refuse p 0x2010 2 r.1
  if r.1 = 0 && (rowOf (field b 4 2) (field b 6 1)).cls = .attic then s else s.answer p r.1 []

/-- SEALED_WRITE (R117, R118). -/
def execSealedWrite (p : Path) (rec : List Byte) (s : State) : Out :=
  .next (s.deliver p.code (.record p rec) fun s => s.sealedRow p.code rec)

/-- STAGED_DOWNLOAD_TIMEOUT (R118): discarded with 0x0504_0000. -/
def execStagedDownloadTimeout (p : Path) (s : State) : Out :=
  .next <|
    match (s.path p.code).staged with
    | some g => (s.modPath p.code fun q => { q with staged := none }).refuse p.code g.idx g.sub 0x05040000
    | none => s

/-- MAILBOX_UPLOAD_START (R109). -/
def execMailboxUploadStart (p : Path) (s : State) : Out := .next (s.writeRow p 0x2020 2 1 1)

/-- MAILBOX_NEXT_SEGMENT (R109). -/
def execMailboxNextSegment (p : Path) (s : State) : Out := .next (s.writeRow p 0x2020 2 1 2)

/-- MAILBOX_DOWNLOAD_START (R109). -/
def execMailboxDownloadStart (p : Path) (s : State) : Out := .next (s.writeRow p 0x2020 2 1 3)

/-- MAILBOX_SEGMENT_WRITE (R109). -/
def execMailboxSegmentWrite (p : Path) (len : BitVec 16) (s : State) : Out := .next (s.writeRow p 0x2020 6 2 len.toNat)

/-- MAILBOX_COMMIT (R110). -/
def execMailboxCommit (p : Path) (s : State) : Out := .next (s.writeRow p 0x2020 2 1 4)

/-- MAILBOX_ABORT (R110). -/
def execMailboxAbort (p : Path) (s : State) : Out := .next (s.writeRow p 0x2020 2 1 5)

/-- MAILBOX_TIMEOUT (R110, R132): the mailbox's transfer, or the session of a CAN or UDP path, fails with 0x0504_0000; the
limit does not run while accesses are held (R502). -/
def execMailboxTimeout (p : Path) (s : State) : Out :=
  .next <|
    if s.holds p.code then s
    else if (s.path p.code).mailbox.isSome then s.modPath p.code fun q => q.failMailbox 0x05040000
    else s.failSession p.code 0x05040000

/-- JOURNAL_LATCH (R122). -/
def execJournalLatch (p : Path) (i : Byte) (s : State) : Out := .next (s.writeRow p 0x2600 3 1 i.toNat)

/-- PEER_SLOT_RELEASE (R104). -/
def execPeerSlotRelease (slot : Fin 16) (s : State) : Out :=
  .next <|
    if s.live (0x20 + slot.val) then (s.dropPath (0x20 + slot.val)).setObj 0x1F98 4 (s.obj 0x1F98 4 - 1) else s

/-- FUNCTION_LEVEL_RESET (R123, R72): the function's transfer is discarded and its path comes into being anew. -/
def execFunctionLevelReset (fn : Fin 9) (s : State) : Out :=
  .next (if s.live (0x10 + fn.val) then (s.freshPath (0x10 + fn.val)).fnReset fn.val else s)

/-- Every PCIe function resets and nothing else (R72, R524); the physical function's path returns at link-up (R104). -/
def State.pcieReset (s : State) : State :=
  let s := { s with
    su := { s.su with pcieUp := false }
    paths := s.paths.filter fun e => !(0x10 ≤ e.1 && e.1 ≤ 0x18) }
  (List.range 9).foldl (fun s f => s.fnReset f) s

/-- PERST_N_ASSERT (R72). -/
def execPerstNAssert (s : State) : Out := .next s.pcieReset

/-- PCIE_HOT_RESET (R72): no history entry. -/
def execPcieHotReset (s : State) : Out := .next s.pcieReset

/-- REQUEST_PARKED (R54). -/
def execRequestParked (p : Path) (s : State) : Out := .next (s.writeRow p 0xB000 1 1 1)

/-- REQUEST_WAKE (R54). -/
def execRequestWake (p : Path) (s : State) : Out := .next (s.writeRow p 0xB000 1 1 2)

/-- REQUEST_BENCH (R54). -/
def execRequestBench (p : Path) (s : State) : Out := .next (s.writeRow p 0xB000 1 1 3)

/-- REQUEST_DRIVE (R54). -/
def execRequestDrive (p : Path) (s : State) : Out := .next (s.writeRow p 0xB000 1 1 4)

/-- DELIVERED_LENGTH (R89). -/
def execDeliveredLength (p : Path) (len : BitVec 32) (s : State) : Out := .next (s.writeRow p 0x2050 1 4 len.toNat)

/-- RELEASE_BLOCKS (R142). -/
def execReleaseBlocks (p : Path) (port : Fin 2) (s : State) : Out := .next (s.writeRow p (0x1F90 + port.val) 0x19 1 1)

/-- STREAM_ENABLE (R161). -/
def execStreamEnable (p : Path) (s : State) : Out := .next (s.writeRow p 0x3000 1 1 1)

/-- STREAM_DISABLE (R163). -/
def execStreamDisable (p : Path) (s : State) : Out := .next (s.writeRow p 0x3000 1 1 0)

/-- TRANSLATION_INVALIDATE (R240). -/
def execTranslationInvalidate (p : Path) (v : Byte) (s : State) : Out := .next (s.writeRow p 0x4802 1 1 v.toNat)

/-- QUEUE_ENABLE (R329). -/
def execQueueEnable (p : Path) (s : State) : Out := .next (s.writeRow p 0x6000 1 1 1)

/-- ENGINE_PARTITION_MOVE (R330). -/
def execEnginePartitionMove (p : Path) (e : Fin 48) (part : Byte) (s : State) : Out :=
  .next (s.writeRow p 0x6010 (e.val + 1) 1 part.toNat)

/-- RESET_ALL_SLOTS (R316). -/
def execResetAllSlots (p : Path) (s : State) : Out := .next (s.writeRow p 0x4810 8 1 1)

/-- KEEPER_SPLIT_REQUEST (R359). -/
def execKeeperSplitRequest (p : Path) (s : State) : Out := .next (s.writeRow p 0x5010 1 1 1)

/-- KEEPER_REJOIN_REQUEST (R360). -/
def execKeeperRejoinRequest (p : Path) (s : State) : Out := .next (s.writeRow p 0x5010 1 1 0)

/-- WATCHDOG_KICK (R378): a clearing read of 0x5100:01. -/
def execWatchdogKick (p : Path) (s : State) : Out :=
  .next (s.deliver p.code (.read p 0x5100 1 1 true) fun s => s.readRow p 0x5100 1)

/-- POLDER_RESET_REQUEST (R387). -/
def execPolderResetRequest (p : Path) (s : State) : Out := .next (s.writeRow p 0x4020 1 1 1)

/-- MONITOR_CLEAR (R404). -/
def execMonitorClear (p : Path) (s : State) : Out := .next (s.writeRow p 0x7000 0x0B 1 1)

/-- COUNTER_BANK_CLEAR (R410). -/
def execCounterBankClear (p : Path) (s : State) : Out := .next (s.writeRow p 0x4030 0x10 1 1)

/-- SAMPLE_BUFFER_CLEAR (R415). -/
def execSampleBufferClear (p : Path) (s : State) : Out := .next (s.writeRow p 0x7040 6 1 1)

/-- SAMPLE_RECORD_LATCH (R415). -/
def execSampleRecordLatch (p : Path) (i : BitVec 16) (s : State) : Out := .next (s.writeRow p 0x7040 7 2 i.toNat)

/-- DEPOT_SUSPEND (R419). -/
def execDepotSuspend (p : Path) (s : State) : Out := .next (s.writeRow p 0x6100 3 1 1)

/-- GUEST_ENABLE (R424). -/
def execGuestEnable (p : Path) (s : State) : Out := .next (s.writeRow p 0x6021 1 1 1)

/-- GUEST_DISABLE (R428). -/
def execGuestDisable (p : Path) (s : State) : Out := .next (s.writeRow p 0x6021 1 1 0)

/-- A DOMAIN download that arrives whole, and its answer. -/
def State.downloadOn (s : State) (p idx sub : Nat) (data : List Byte) : State :=
  let ch := (s.path p).channel (rowOf idx sub).sel
  let r := s.commitDownload p idx sub ch data false
  let s := if r.1 = 0 then r.2 else r.2.refuse p idx sub r.1
  s.answer p r.1 []

/-- A DOMAIN download that arrives whole, as a command of its own. -/
def State.downloadRow (s : State) (p : Path) (idx sub : Nat) (data : List Byte) : State :=
  s.deliver p.code (.download p idx sub data) fun s => s.downloadOn p.code idx sub data

/-- MANAGER_JOB_SUBMIT (R438). -/
def execManagerJobSubmit (p : Path) (offer : List Byte) (s : State) : Out := .next (s.downloadRow p 0x6110 3 offer)

/-- PUT_CHUNK (R456). -/
def execPutChunk (p : Path) (data : List Byte) (s : State) : Out := .next (s.downloadRow p 0x6120 7 data)

/-- PUT_MANIFEST (R456). -/
def execPutManifest (p : Path) (data : List Byte) (s : State) : Out := .next (s.downloadRow p 0x6120 8 data)

end Sys2Proof.Machine
end

