-- ==== Sys2Proof/Machine/DictMsg.lean ====
section
/-! DEFINITION. Dictionary messages over Fuind-over-UDP and over the link: their form, the service of a peer path, replays,
relays, and path 0x30 (R104, R136, R137, R474). -/

namespace Sys2Proof.Machine

open Sys2Proof

/-! ## Form and turn (R136, R137) -/

/-- Whether the body of a dictionary message is well formed: a known operation, reserved fields zero, lengths that match. -/
def dictForm (b : List Byte) : Bool :=
  let op := field b 0 1
  let n := field b 7 1
  24 ≤ b.length && 1 ≤ op && op ≤ 8 && field b 1 1 = 0 && field b 12 4 = 0 && n ≤ 8 && (n = 0 || op ≤ 2) &&
  allZero (slice b (16 + n) (8 - n)) && (field b 8 4 = 0 || (4 ≤ op && op ≤ 6)) &&
  (if op = 6 then 24 < b.length && b.length ≤ 24 + 1024 else b.length = 24)

/-- Whether an operation is in turn on a path. A transfer that has failed since its last request lets its next one in (R136). -/
def PathState.inTurn (q : PathState) (b : List Byte) : Bool :=
  let op := field b 0 1
  let off := field b 8 4
  if op ≤ 2 || op = 8 then true
  else if op = 3 || op = 5 then q.session.isNone
  else if q.session.isNone && q.sessionFail.isSome then true
  else
    match q.session with
    | none => false
    | some x =>
      if op = 4 then x.upload && off = x.offset
      else if op = 6 then !x.upload && off = x.offset && x.offset + (b.length - 24) ≤ x.total
      else !x.upload && x.offset = x.total

/-! ## Service -/

/-- A response to a request: word, result, value and segment. -/
def dictReply (b : List Byte) (word code : Nat) (v seg : List Byte) : List Byte :=
  dictHead (field b 0 1) (field b 2 2) (field b 4 2) (field b 6 1) v.length word code v ++ seg

/-- The session of a path ends. -/
def State.endSession (s : State) (p : Nat) : State := s.modPath p fun q => { q with session := none, sessionFail := none }

/-- An access of an open transfer is judged under the rules in force: a refusal ends it (R110). -/
def State.sessionStep (s : State) (p : Nat) (x : Xfer) (b : List Byte) (act : State → Option (List Byte) × State) :
    Option (List Byte) × State :=
  let c := s.xferCode p x
  if c != 0 then (some (dictReply b 0 c [] []), (s.endSession p).refuse p x.idx x.sub c)
  else act (s.nearEdge x.at_ 1000000)

/-- Operation 0x03: the response carries the total, and the first segment follows at offset 0. DEDUCED (log entry 30). -/
def State.dictUploadStart (s : State) (p : Nat) (b : List Byte) : Option (List Byte) × State :=
  let idx := field b 4 2
  let sub := field b 6 1
  let ch := (s.path p).channel (rowOf idx sub).sel
  match s.peek p idx sub ch true with
  | .inl c => (some (dictReply b 0 c [] []), s.refuse p idx sub c)
  | .inr v =>
    let x : Xfer := { upload := true, idx := idx, sub := sub, chan := ch, total := v.length, data := v, offset := 0, seg := 0,
                      at_ := s.now, maxSeg := 1024 }
    (some (dictReply b v.length 0 [] []), (s.dictRead p idx sub true).2.2.modPath p fun q => { q with session := some x, sessionFail := none })

/-- Operation 0x04: the next segment; the transfer closes with the last one. -/
def State.dictUploadNext (s : State) (p : Nat) (x : Xfer) (b : List Byte) : Option (List Byte) × State :=
  s.sessionStep p x b fun s =>
    let v := slice x.data x.offset (min 1024 (x.total - x.offset))
    let off := x.offset + v.length
    (some (dictReply b x.offset 0 [] v),
      if x.total ≤ off then s.endSession p
      else s.modPath p fun q => { q with session := some { x with offset := off, seg := v.length, at_ := s.now } })

/-- Operation 0x05. -/
def State.dictDownloadStart (s : State) (p : Nat) (b : List Byte) : Option (List Byte) × State :=
  let idx := field b 4 2
  let sub := field b 6 1
  let total := field b 8 4
  let c := s.downloadCode p idx sub total
  if c != 0 then (some (dictReply b 0 c [] []), s.refuse p idx sub c)
  else
    let x : Xfer := { upload := false, idx := idx, sub := sub, chan := (s.path p).channel (rowOf idx sub).sel, total := total,
                      data := [], offset := 0, seg := 0, at_ := s.now, maxSeg := 1024 }
    (some (dictReply b 0 0 [] []), s.modPath p fun q => { q with session := some x, sessionFail := none })

/-- Operation 0x06. -/
def State.dictDownloadSegment (s : State) (p : Nat) (x : Xfer) (b : List Byte) : Option (List Byte) × State :=
  s.sessionStep p x b fun s =>
    let d := x.data ++ b.drop 24
    (some (dictReply b x.offset 0 [] []),
      s.modPath p fun q => { q with session := some { x with data := d, offset := d.length, at_ := s.now } })

/-- An accepted write that waits for the attic keeps the head of its response; any other is answered at once. -/
def State.dictWait (s : State) (p : Nat) (b : List Byte) (code : Nat) (wait : Bool) : Option (List Byte) × State :=
  if wait then (none, s.modPath p fun q => { q with busy := some (dictReply b 0 0 [] []) })
  else (some (dictReply b 0 code [] []), s)

/-- Operation 0x07. -/
def State.dictCommit (s : State) (p : Nat) (x : Xfer) (b : List Byte) : Option (List Byte) × State :=
  s.sessionStep p x b fun s =>
    let r := (s.endSession p).commitXfer p x true
    r.2.2.dictWait p b r.1 r.2.1

/-- Operation 0x02: a write of the value. -/
def State.dictValue (s : State) (p : Nat) (b : List Byte) : Option (List Byte) × State :=
  let r := s.accessOn p (field b 4 2) (field b 6 1) (slice b 16 (field b 7 1))
  r.2.2.dictWait p b r.1 r.2.1

/-- Operation 0x01: a value of up to 8 bytes; a longer string is read by a segmented transfer (R111). -/
def State.dictFetch (s : State) (p : Nat) (b : List Byte) : Option (List Byte) × State :=
  let idx := field b 4 2
  let sub := field b 6 1
  if existsCode idx sub = 0 && s.serveCode p idx = 0 && 8 < (rowOf idx sub).ty.size then
    (some (dictReply b 0 0x06010000 [] []), s.refuse p idx sub 0x06010000)
  else
    let r := s.dictRead p idx sub
    (some (dictReply b 0 r.1 r.2.1 []), r.2.2)

/-- Serve a request that is in form and in turn: the response, none while it waits for the attic, and the state. -/
def State.dictServe (s : State) (p : Nat) (b : List Byte) : Option (List Byte) × State :=
  let q := s.path p
  let op := field b 0 1
  if op = 1 then s.dictFetch p b
  else if op = 2 then s.dictValue p b
  else if op = 3 then s.dictUploadStart p b
  else if op = 5 then s.dictDownloadStart p b
  else
    match q.session, q.sessionFail with
    | none, some c => (some (dictReply b 0 c [] []), s.endSession p)
    | none, none => (some (dictReply b 0 0 [] []), s)
    | some x, _ =>
      if op = 4 then s.dictUploadNext p x b
      else if op = 6 then s.dictDownloadSegment p x b
      else if op = 7 then s.dictCommit p x b
      else (some (dictReply b 0 0 [] []), s.endSession p)

/-- Serve a request on a path, and send its response. -/
def State.dictRequest (s : State) (p : Nat) (b : List Byte) : State :=
  let r := s.dictServe p b
  match r.1 with
  | some m => r.2.dictRespond p m
  | none => r.2

/-! ## UDP peers (R104, R137, R474) -/

/-- The slot of a peer, or a free one; none where all 16 are held by others. -/
def State.peerSlot (s : State) (peer : Nat × Nat) : Option Nat :=
  let l := (List.range 16).map (0x20 + ·)
  match l.find? fun c => s.live c && (s.path c).peer = peer with
  | some c => some c
  | none => l.find? fun c => !s.live c

/-- A dictionary message whose destination is another device goes over the link, and its response comes back to the peer. -/
def State.dictRelay (s : State) (peer : Nat × Nat) (dst : Nat) (b : List Byte) : State :=
  let r := s.linkSend 0x10 dst b
  if r.1 then
    { r.2 with casc := { r.2.casc with relays := r.2.casc.relays ++ [(dst, field b 2 2, peer.1, peer.2)] } }.bump 0xA010 5
  else r.2

/-- A well-formed request of a peer: its slot, then the replay, the busy slot, and the turn (R137). -/
def State.peerRequest (s : State) (peer : Nat × Nat) (b : List Byte) : State :=
  match s.peerSlot peer with
  | none => s.emit (.udp peer.1 peer.2 (fuindMsg 0x10 s.deviceId 0xFF (dictReply b 0 0x05040005 [] [])))
  | some p =>
    let s := if s.live p then s
      else ((s.freshPath p).modPath p fun q => { q with peer := peer }).setObj 0x1F98 4 (s.obj 0x1F98 4 + 1)
    let s := s.modPath p fun q => { q with peerAt := s.now }
    let q := s.path p
    if q.busy.isSome then s.bump 0x1F98 3
    else
      match q.lastResp with
      | some (n, m) =>
        if n = field b 2 2 then (s.bump 0x1F98 2).emit (.udp peer.1 peer.2 m)
        else if q.inTurn b then s.dictRequest p b else s.bump 0x1F98 3
      | none => if q.inTurn b then s.dictRequest p b else s.bump 0x1F98 3

/-- A Fuind-over-UDP datagram with a dictionary message, for the row of one operation: a message that another row names has no
effect here. While Keeper B is halted it waits (R502). -/
def State.udpDict (s : State) (op addr port : Nat) (m : List Byte) : State :=
  let b := msgBody m
  let o := field b 0 1
  if !s.pw.mode.awake || !s.clk.tbRun || (1 ≤ o && o ≤ 8 && o != op) then s
  else if s.holds 0x20 then { s with held := s.held ++ [.udp op addr port m] }
  else
    let s := s.bump 0xA010 3
    if !msgOk udpBody m || field m 0 1 != 0x10 then s.bump 0xA010 4
    else if field m 2 1 != 0xFF && field m 2 1 != s.deviceId then s.dictRelay (addr, port) (field m 2 1) b
    else if !dictForm b then s.bump 0x1F98 3
    else s.peerRequest (addr, port) b

/-- UDP_DICT_READ (R136). -/
def execUdpDictRead (addr : BitVec 32) (port : BitVec 16) (m : List Byte) (s : State) : Out :=
  .next (s.udpDict 1 addr.toNat port.toNat m)

/-- UDP_DICT_WRITE (R136). -/
def execUdpDictWrite (addr : BitVec 32) (port : BitVec 16) (m : List Byte) (s : State) : Out :=
  .next (s.udpDict 2 addr.toNat port.toNat m)

/-- UDP_UPLOAD_START (R136). -/
def execUdpUploadStart (addr : BitVec 32) (port : BitVec 16) (m : List Byte) (s : State) : Out :=
  .next (s.udpDict 3 addr.toNat port.toNat m)

/-- UDP_UPLOAD_NEXT (R136). -/
def execUdpUploadNext (addr : BitVec 32) (port : BitVec 16) (m : List Byte) (s : State) : Out :=
  .next (s.udpDict 4 addr.toNat port.toNat m)

/-- UDP_DOWNLOAD_START (R136). -/
def execUdpDownloadStart (addr : BitVec 32) (port : BitVec 16) (m : List Byte) (s : State) : Out :=
  .next (s.udpDict 5 addr.toNat port.toNat m)

/-- UDP_DOWNLOAD_SEGMENT (R136). -/
def execUdpDownloadSegment (addr : BitVec 32) (port : BitVec 16) (m : List Byte) (s : State) : Out :=
  .next (s.udpDict 6 addr.toNat port.toNat m)

/-- UDP_DOWNLOAD_COMMIT (R136). -/
def execUdpDownloadCommit (addr : BitVec 32) (port : BitVec 16) (m : List Byte) (s : State) : Out :=
  .next (s.udpDict 7 addr.toNat port.toNat m)

/-- UDP_DICT_ABORT (R136). -/
def execUdpDictAbort (addr : BitVec 32) (port : BitVec 16) (m : List Byte) (s : State) : Out :=
  .next (s.udpDict 8 addr.toNat port.toNat m)

/-! ## Path 0x30 (R474) -/

/-- Path 0x30 serves what waits, in arrival order, one request at a time; nothing while Keeper B is halted (R502). -/
def State.serveLinkN (s : State) (fuel : Nat) : State :=
  match fuel with
  | 0 => s
  | k + 1 =>
    if (s.path 0x30).busy.isSome || s.holds 0x30 then s
    else
      match s.casc.dict with
      | [] => s
      | m :: rest =>
        let s := { s with casc := { s.casc with dict := rest } }
        let b := msgBody m
        let s := s.modPath 0x30 fun q => { q with peer := (field m 1 1, 0) }
        (if (s.path 0x30).inTurn b then s.dictRequest 0x30 b else s.bump 0x1F98 3).serveLinkN k

/-- Path 0x30 serves what waits. -/
def State.serveLink (s : State) : State := s.serveLinkN s.casc.dict.length

/-- A dictionary message that has come to this device over the link: a response goes back to its peer; a request waits for path
0x30, which holds 16 with the one in service (log entry 31). -/
def State.linkDict (s : State) (m : List Byte) : State :=
  let b := msgBody m
  let src := field m 1 1
  if bit (field b 0 1) 7 then
    match s.casc.relays.find? fun r => r.1 = src && r.2.1 = field b 2 2 with
    | some r =>
      { s with casc := { s.casc with relays := s.casc.relays.erase r } }.emit
        (.udp r.2.2.1 r.2.2.2 (fuindMsg 0x10 src 0xFF b))
    | none => s
  else if !dictForm b then s.bump 0x1F98 3
  else if 16 ≤ s.casc.dict.length + (if (s.path 0x30).busy.isSome then 1 else 0) then s.bump 0x1F98 3
  else { s with casc := { s.casc with dict := s.casc.dict ++ [m] } }.serveLink

end Sys2Proof.Machine
end

