-- ==== Sys2Proof/Machine/Field.lean ====
section
/-! DEFINITION. The commands of the CAN ports: takeover, NMT, the USDO server, TPDOs, heartbeat, EMCYs, collisions and bus errors
(chapter 5), and the attic's completion of a write, which answers the paths that wait for it (R101, R132). -/

namespace Sys2Proof.Machine

open Sys2Proof

/-! ## NMT (R127, R130, R131, R135) -/

/-- EMCYs lost since the last report leave as 0xFF0F, once the port serves EMCYs and its queue has room (R135). -/
def State.reportLost (s : State) (port : Nat) : State :=
  let p := s.port port
  if p.dropped = 0 || 16 ≤ p.emcys.length then s
  else
    let e : Emcy := { code := 0xFF0F, reg := s.obj 0x1001 0, source := 0xFF, info := p.dropped % 2 ^ 32, stamp := s.nowNs }
    s.modPort port fun q => { q with emcys := q.emcys ++ [e], dropped := 0 }

/-- A port takes an NMT state. -/
def State.setNmt (s : State) (port v : Nat) : State :=
  let s := s.setObj (0x1F90 + port) 7 v
  if v = 5 || v = 0x7F then s.reportLost port else s

/-- A port in Initialisation sends its boot-up message and enters Pre-operational (R130). -/
def State.bootPort (s : State) (port : Nat) : State :=
  let s := (s.setObj (0x1F90 + port) 7 0).canSend port (0x700 + s.nodeId port) 0 [0]
  (s.modPort port fun p => { p with bootAt := some s.now }).setNmt port 0x7F

/-- CAN_PORT_TAKEOVER (R127): the core controller runs port 0, and port 1 with it (log entry 32); EMCYs that arose before stay
queued (R135). -/
def execCanPortTakeover (s : State) : Out :=
  .next (
    if !s.pw.mode.awake || !s.su.pllOn || (s.port 0).core then s
    else
      let s := (s.modPort 0 fun p => { p with core := true }).modPort 1 fun p => { p with core := true }
      (s.bootPort 0).bootPort 1)

/-- Whether an NMT command to a node reaches a port: the core controller runs it, it is not in bus-off, and the node is 0 or its
own (R130, R57). -/
def State.nmtReaches (s : State) (port node : Nat) : Bool :=
  (s.port port).core && s.obj (0x1F90 + port) 8 != 2 && (node = 0 || node = s.nodeId port)

/-- A command that names a state: it cancels a pending autostart (R130). -/
def State.nmtCommand (s : State) (port node v : Nat) : State :=
  if !s.nmtReaches port node then s
  else (s.modPort port fun p => { p with bootAt := none }).setNmt port v

/-- NMT_START (R130). -/
def execNmtStart (port : Fin 2) (node : Byte) (s : State) : Out := .next (s.nmtCommand port.val node.toNat 5)

/-- NMT_STOP (R130). -/
def execNmtStop (port : Fin 2) (node : Byte) (s : State) : Out := .next (s.nmtCommand port.val node.toNat 4)

/-- NMT_ENTER_PREOPERATIONAL (R130). -/
def execNmtEnterPreoperational (port : Fin 2) (node : Byte) (s : State) : Out :=
  .next (s.nmtCommand port.val node.toNat 0x7F)

/-- Reset communication (R130): sessions and queued frames are discarded, blocks released, and the port initialises again. -/
def State.resetComm (s : State) (port : Nat) : State :=
  let s := s.modPath (1 + port) fun q => { q with session := none, next := [] }
  let s := { s with timed := s.timed.filter fun t => t.port != 2 + port }
  let s := (s.modPort port fun p => { p with emcys := [], bootAt := none }).releaseBlocks port
  s.bootPort port

/-- NMT_RESET_COMMUNICATION (R130). -/
def execNmtResetCommunication (port : Fin 2) (node : Byte) (s : State) : Out :=
  .next (if s.nmtReaches port.val node.toNat then s.resetComm port.val else s)

/-- NMT_RESET_NODE (R131): a device reset of cause 0x05 where it is enabled in BENCH, DEPOT or SAFE; else a reset communication,
counted. -/
def execNmtResetNode (port : Fin 2) (node : Byte) (s : State) : Out :=
  .next (
    if !s.nmtReaches port.val node.toNat then s
    else if s.objB 0x1F92 2 && (s.pw.mode = .bench || s.pw.mode = .depot || s.pw.mode = .safe) then
      s.deviceReset 5 (1 + port.val)
    else (s.bump 0x1F92 3).resetComm port.val)

/-- NMT_AUTOSTART (R130). -/
def execNmtAutostart (port : Fin 2) (s : State) : Out :=
  .next (
    if (s.port port.val).bootAt.isNone then s
    else
      let s := s.modPort port.val fun p => { p with bootAt := none }
      if s.objB 0x1F92 1 && s.nmt port.val = 0x7F then s.setNmt port.val 5 else s)

/-! ## The USDO server (R126, R132) -/

/-- The order of the frame formats (R126). -/
def formatRank : FrameFormat → Nat
  | .classical => 0
  | .fd => 1
  | .xl => 2

/-- The data bytes of a segment: 7, and the largest data field less a header of one byte (log entry 33). -/
def segmentBytes : FrameFormat → Nat
  | .classical => 7
  | .fd => 63
  | .xl => 2047

/-- Whether a port's server takes a request: as in PARKED without CAN XL (R57), else in a format that its mode can send, in
Pre-operational or Operational (R126, R130). -/
def State.usdoServed (s : State) (port : Nat) (fmt : FrameFormat) : Bool :=
  if (s.port port).core then
    formatRank fmt ≤ s.obj (0x1F90 + port) 2 && s.obj (0x1F90 + port) 8 != 2 && (s.nmt port = 5 || s.nmt port = 0x7F)
  else port = 0 && s.asParked 1 && formatRank fmt ≤ 1

/-- A committed write of a path still waits for the attic (R132). -/
def State.atticWaits (s : State) (p : Nat) : Bool :=
  (s.attic.queue.any fun w => w.path = p && w.answers) ||
  (match s.attic.pendSet with
   | some w => w.path = p && w.answers
   | none => false)

/-- A new initiate request ends the open session with 0x0504_0000 (R132). -/
def State.usdoNew (s : State) (p : Nat) : State := s.failSession p 0x05040000

/-- An upload: expedited where the value is no DOMAIN and fits (log entry 33); else the total, and a session. -/
def State.usdoUpload (s : State) (p idx sub : Nat) (fmt : FrameFormat) : State :=
  let s := s.usdoNew p
  let r := rowOf idx sub
  let ch := (s.path p).channel r.sel
  let g := s.dictRead p idx sub true
  let s := g.2.2
  if g.1 != 0 then s.answer p g.1 []
  else if !r.ty.isDomain && (fmt != .classical || g.2.1.length ≤ 4) then s.answer p 0 g.2.1
  else
    let x : Xfer := { upload := true, idx := idx, sub := sub, chan := ch, total := g.2.1.length, data := g.2.1, offset := 0,
                      seg := 0, at_ := s.now, maxSeg := segmentBytes fmt }
    (s.modPath p fun q => { q with session := some x }).answer p 0 (leBytes 4 x.total)

/-- The next segment of an upload; the session ends with the last one. -/
def State.usdoUploadSegment (s : State) (p : Nat) (x : Xfer) : State :=
  let s := s.nearEdge x.at_ 1000000
  let v := slice x.data x.offset (min x.maxSeg (x.total - x.offset))
  let off := x.offset + v.length
  let s := s.modPath p fun q =>
    { q with session := if x.total ≤ off then none else some { x with offset := off, seg := v.length, at_ := s.now } }
  s.answer p 0 v

/-- An expedited download. -/
def State.usdoWrite (s : State) (p idx sub : Nat) (data : List Byte) : State := (s.usdoNew p).dictAccess p idx sub data

/-- A segmented download begins. -/
def State.usdoDownload (s : State) (p idx sub total : Nat) (fmt : FrameFormat) : State :=
  let s := s.usdoNew p
  let c := s.downloadCode p idx sub total
  if c != 0 then (s.refuse p idx sub c).answer p c []
  else
    let x : Xfer := { upload := false, idx := idx, sub := sub, chan := (s.path p).channel (rowOf idx sub).sel, total := total,
                      data := [], offset := 0, seg := 0, at_ := s.now, maxSeg := segmentBytes fmt }
    (s.modPath p fun q => { q with session := some x }).answer p 0 []

/-- A session ends with an abort. -/
def State.usdoAbort (s : State) (p : Nat) (x : Xfer) (code : Nat) : State :=
  ((s.modPath p fun q => { q with session := none }).refuse p x.idx x.sub code).answer p code []

/-- A segment of a download; the download commits with its last one, whole (R110, R132). -/
def State.usdoSegment (s : State) (p : Nat) (x : Xfer) (data : List Byte) (last : Bool) : State :=
  let s := s.nearEdge x.at_ 1000000
  let d := x.data ++ data
  let x' : Xfer := { x with data := d, offset := d.length, at_ := s.now }
  if x.maxSeg < data.length || x.total < d.length || (last && d.length != x.total) then s.usdoAbort p x 0x06070010
  else if !last then (s.modPath p fun q => { q with session := some x' }).answer p 0 []
  else
    let r := (s.modPath p fun q => { q with session := none }).commitXfer p x' true
    if r.2.1 then r.2.2 else r.2.2.answer p r.1 []

/-- A segment request, with the session that it needs: judged under the rules in force (R110); a request out of turn is aborted
with 0x0800_0022. -/
def State.usdoSession (s : State) (p : Nat) (upload : Bool) (act : Xfer → State) : State :=
  match (s.path p).session with
  | none => s.answer p 0x08000022 []
  | some x =>
    if s.xferCode p x != 0 then s.usdoAbort p x (s.xferCode p x)
    else if x.upload != upload then s.usdoAbort p x 0x08000022
    else act x

/-- Serve a USDO request on a path. -/
def State.usdoServe (s : State) (p : Nat) (fmt : FrameFormat) (req : UsdoReq) : State :=
  match req with
  | .uploadInit idx sub => s.usdoUpload p idx.toNat sub.toNat fmt
  | .uploadSegment => s.usdoSession p true fun x => s.usdoUploadSegment p x
  | .downloadExpedited idx sub data => s.usdoWrite p idx.toNat sub.toNat data
  | .downloadInit idx sub total => s.usdoDownload p idx.toNat sub.toNat total.toNat fmt
  | .downloadSegment data last => s.usdoSession p false fun x => s.usdoSegment p x data last
  | .abort => s.modPath p fun q => { q with session := none }

/-- USDO_REQUEST (R132): held while Keeper B is halted (R502); served after a write of the path that waits for the attic. -/
def execUsdoRequest (port : Fin 2) (fmt : FrameFormat) (req : UsdoReq) (s : State) : Out :=
  .next (
    let p := 1 + port.val
    if !s.usdoServed port.val fmt then s
    else s.deliver p (.usdo port fmt req) fun s =>
      if s.atticWaits p then s.modPath p fun q => { q with next := q.next ++ [(fmt, req)] } else s.usdoServe p fmt req)

/-- Serve what has waited on a CAN path, up to the next write that waits for the attic; what the port's server no longer takes is
ignored (R130). -/
def State.usdoNextN (s : State) (p fuel : Nat) : State :=
  match fuel with
  | 0 => s
  | k + 1 =>
    if s.atticWaits p || s.holds p then s
    else
      match (s.path p).next with
      | (fmt, req) :: rest =>
        let s := s.modPath p fun q => { q with next := rest }
        (if s.usdoServed (p - 1) fmt then s.usdoServe p fmt req else s).usdoNextN p k
      | [] => s

/-- What waited for the attic on any path is served. -/
def State.serveWaiting (s : State) : State :=
  ((s.usdoNextN 1 (s.path 1).next.length).usdoNextN 2 (s.path 2).next.length).serveLink

/-! ## TPDOs (R133, R206) -/

/-- The value of one mapped object on a path, as the path's selectors hold; an entry that has none at the moment shows a free value
(log entry 2). -/
def State.mapped (s : State) (p v : Nat) : List Byte × State :=
  let idx := v / 2 ^ 16
  let sub := v / 2 ^ 8 % 2 ^ 8
  match s.peek p idx sub ((s.path p).channel (rowOf idx sub).sel) false with
  | .inr b =>
    (b, if idx = 0x9000 && sub = 1 then s.modPath p fun q => { q with tbFrac := s.clk.tb / 2 ^ 24 % 2 ^ 16 } else s)
  | .inl _ =>
    let f := s.takeFree
    (leBytes (v % 2 ^ 8 / 8) (Config.freeWord f.1).toNat, f.2)

/-- The data of a TPDO in one snapshot, as the CAN path of its first port. -/
def State.tpdoData (s : State) (n : Nat) : List Byte × State :=
  let p := if bit (s.obj (0x1800 + n) 6) 0 then 1 else 2
  (List.range (s.obj (0x1A00 + n) 1)).foldl (fun (a : List Byte × State) k =>
    let r := a.2.mapped p (s.obj (0x1A00 + n) (k + 2))
    (a.1 ++ r.1, r.2)) ([], s)

/-- The ports on which a TPDO can be sent now: selected, Operational, its identifier not disabled, and its mapped total within what
the port's frame mode holds; never in SAFE, nor on the edge that enters it (R126, R133, R143). -/
def State.tpdoPorts (s : State) (n : Nat) : List Nat :=
  if s.pw.mode = .safe || s.pw.pendSafe.isSome then []
  else [0, 1].filter fun p =>
    bit (s.obj (0x1800 + n) 6) p && (s.port p).core && s.nmt p = 5 && s.obj (0x1F90 + p) 8 != 2 &&
    !bit (s.cobId (0x1800 + n) p) 31 && s.tpdoLength n ≤ s.tpdoRoom (2 ^ p)

/-- A TPDO is sent on its ports, at its launch time (R206); a port in XL mode sends the XL fields as the TPDO sets them (R125). -/
def State.tpdoSend (s : State) (n : Nat) (data : List Byte) : State :=
  let xl := s.obj (0x1800 + n) 7
  let s := { s with tpdos := Amap.set Tpdo.idle s.tpdos n { last := data, sentAt := some s.now } }
  (s.tpdoPorts n).foldl (fun s p =>
    let id := s.cobId (0x1800 + n) p % 2 ^ 30
    s.sendTimed (2 + p) (id + (if s.obj (0x1F90 + p) 2 = 2 then xl else 0) * 2 ^ 30) (s.obj 0x9003 3) s.nsNow data) s

/-- TPDO_EVENT_TIMER (R133). -/
def execTpdoEventTimer (n : Fin 8) (s : State) : Out :=
  .next (
    if (s.tpdoPorts n.val).isEmpty || s.obj (0x1800 + n.val) 2 != 0xFE then s
    else
      let d := s.tpdoData n.val
      d.2.tpdoSend n.val d.1)

/-- TPDO_CHANGE (R133): a mapped value differs from the last one sent, and the inhibit time has passed. -/
def execTpdoChange (n : Fin 8) (s : State) : Out :=
  .next (
    let t := Amap.get Tpdo.idle s.tpdos n.val
    let free := match t.sentAt with
      | some a => a + 100 * s.obj (0x1800 + n.val) 3 ≤ s.now
      | none => true
    if (s.tpdoPorts n.val).isEmpty || s.obj (0x1800 + n.val) 2 != 0xFF || !free then s
    else
      let d := s.tpdoData n.val
      if d.1 = t.last then s else d.2.tpdoSend n.val d.1)

/-! ## Heartbeat and EMCY (R134, R135) -/

/-- HEARTBEAT_TIMER (R134). -/
def execHeartbeatTimer (port : Fin 2) (s : State) : Out :=
  .next (
    if !(s.port port.val).core || s.obj 0x1017 0 = 0 then s
    else s.canSend port.val (0x700 + s.nodeId port.val) 0 (leBytes 1 (s.nmt port.val)))

/-- The payload of an EMCY: 8 bytes in Classical mode, 16 in FD and XL mode (R135). -/
def State.emcyBytes (s : State) (port : Nat) (e : Emcy) : List Byte :=
  let b := leBytes 2 e.code ++ leBytes 1 e.reg ++ leBytes 1 e.source ++ leBytes 4 e.info
  if s.obj (0x1F90 + port) 2 = 0 then b else b ++ leBytes 8 e.stamp

/-- EMCY_TRANSMIT (R135): the oldest queued EMCY, once the port serves EMCYs and the inhibit time has passed; with the identifier
disabled it is discarded. -/
def execEmcyTransmit (port : Fin 2) (s : State) : Out :=
  .next (
    let k := port.val
    let p := s.port k
    let free := match p.emcyAt with
      | some a => a + 100 * s.obj 0x1015 0 ≤ s.now
      | none => true
    match p.emcys with
    | [] => s
    | e :: rest =>
      if !p.core || !(s.nmt k = 5 || s.nmt k = 0x7F) || s.obj (0x1F90 + k) 8 = 2 || !free then s
      else
        let id := s.cobId 0x1014 k
        let s := (s.modPort k fun q => { q with emcys := rest }).reportLost k
        if bit id 31 then s
        else (s.modPort k fun q => { q with emcyAt := some s.now }).canSend k (id % 2 ^ 30) 0 (s.emcyBytes k e))

/-! ## Errors on the bus (R140 to R143)

The error counters and their limits are those of ISO 11898-1, which the spec names: 128 for error passive, 256 for bus-off.
PRESUMED (log entry 34). -/

/-- A port's error counters take values, and its error state follows; error passive is reported (R141). -/
def State.setErrors (s : State) (port tec rec : Nat) : State :=
  let o := 0x1F90 + port
  let old := s.obj o 8
  let new := if 256 ≤ tec then 2 else if 128 ≤ tec || 128 ≤ rec then 1 else 0
  let s := ((s.setObj o 8 new).setObj o 9 (min tec 255)).setObj o 0x0A (min rec 255)
  if new = 2 then
    let s := (s.bump o 0x0B).refreshReg
    { s with timed := s.timed.filter fun t => t.port != 2 + port }
  else if new = 1 && old = 0 then s.raise 0x8120 0xFF port
  else s.refreshReg

/-- CAN_BUS_ERROR (R140, R141, R143): the counters as they stand after the error; an overrun is reported. -/
def execCanBusError (port : Fin 2) (overrun : Bool) (tec rec : Nat) (s : State) : Out :=
  .next (
    if !(s.port port.val).core || s.obj (0x1F90 + port.val) 8 = 2 then s
    else
      let s := s.setErrors port.val tec rec
      if overrun then s.raise 0x8110 0xFF port.val else s)

/-- CAN_SUCCESSFUL_TRANSMISSION (R142): the identifier's count returns to zero, and the transmit counter falls by one. -/
def execCanSuccessfulTransmission (port : Fin 2) (id : BitVec 29) (ide : Bool) (s : State) : Out :=
  .next (
    let o := 0x1F90 + port.val
    if !(s.port port.val).core || s.obj o 8 = 2 then s
    else
      let k := id.toNat + (if ide then 2 ^ 29 else 0)
      (s.modPort port.val fun p => { p with collisions := Amap.del p.collisions k }).setErrors port.val
        (s.obj o 9 - 1) (s.obj o 0x0A))

/-- The third collision in a row blocks an identifier (R142): a free slot takes it, the colliding frame is discarded, a journal
entry of path 0x3F follows, and EMCY 0xFF10 on every port. A timed frame that is held for the identifier is withheld at its launch. -/
def State.blockId (s : State) (port key : Nat) : State :=
  let o := 0x1F90 + port
  match blockSlots.find? fun k => s.obj o k = 0xFFFFFFFF with
  | none => s
  | some k =>
    let s := (s.setObj o k key).setObj o 0x0D (s.obj o 0x0D + 1)
    let s := s.journalAdd 0x3F o k 0xFFFF s.pw.mode.code 0 0xFFFFFFFF key
    s.raise 0xFF10 0xFF (key + port * 2 ^ 30)

/-- CAN_COLLISION (R142): a bit error of a frame that had won arbitration. -/
def execCanCollision (port : Fin 2) (id : BitVec 29) (ide : Bool) (s : State) : Out :=
  .next (
    let o := 0x1F90 + port.val
    let key := id.toNat + (if ide then 2 ^ 29 else 0)
    if !(s.port port.val).core || s.obj o 8 = 2 || s.blocked port.val key then s
    else
      let n := Amap.get 0 (s.port port.val).collisions key + 1
      let s := (s.bump o 0x0C).modPort port.val fun p => { p with collisions := Amap.set 0 p.collisions key n }
      let s := s.setErrors port.val (s.obj o 9 + 8) (s.obj o 0x0A)
      if 3 ≤ n then s.blockId port.val key else s)

/-- BUS_OFF_RECOVERY (R143). -/
def execBusOffRecovery (port : Fin 2) (s : State) : Out :=
  .next (
    let o := 0x1F90 + port.val
    if s.obj o 8 != 2 then s
    else (((s.setObj o 8 0).setObj o 9 0).setObj o 0x0A 0).raise 0x8140 0xFF port.val)

/-! ## The attic stores (R101, R132, R183, R186, R188, R189) -/

/-- The attic block that holds an object (R188). -/
def atticBlock (idx : Nat) : Nat :=
  if idx < 0x2000 then 10
  else if idx < 0x2100 then 11
  else if idx < 0x5000 then 12
  else if idx < 0x6000 then 13
  else if idx < 0x8000 then 14
  else 15

/-- ATTIC_WRITE_DONE (R101): the oldest accepted write takes effect, is journaled and answered; a write that does not verify
leaves the old value and answers 0x0800_0020. -/
def execAtticWriteDone (verified : Bool) (s : State) : Out :=
  .next (
    match s.attic.queue with
    | [] => s
    | w :: rest =>
      let s := { s with attic := { s.attic with queue := rest } }.wearBlock (atticBlock w.idx)
      let code := if verified then 0 else 0x08000020
      let s := if verified then s.takeEffect w.path w.idx w.sub w.chan w.data w.state w.byRecord
        else s.refuse w.path w.idx w.sub code
      (s.tellWrite w code).serveWaiting)

/-- A complete download of 0x8000, whose programming reads back as `verified` says; with no window open in PARKED or BENCH it is
staged (R118), and then nothing is programmed. -/
def State.calSetOn (s : State) (p : Nat) (set : List Byte) (verified : Bool) : State :=
  let c := s.endSequence p
  let r := if c.judge p 0x8000 0 0xFFFF set true false = 0 then c.calWrite p set false true verified
    else s.commitDownload p 0x8000 0 0xFFFF set true
  if r.1 = 0 then (if s.waitsAttic p 0x8000 0 r.2 then r.2 else r.2.answer p 0 [])
  else (r.2.refuse p 0x8000 0 r.1).answer p r.1 []

/-- CALIBRATION_SET_WRITE (R185): an offered set is checked in order, and rejected or programmed into the erased area. -/
def execCalibrationSetWrite (p : Path) (set : List Byte) (verified : Bool) (s : State) : Out :=
  .next (s.deliver p.code (.calSet p set verified) fun s => s.calSetOn p.code set verified)

/-- CALIBRATION_AREA_COMMIT (R186 steps 2 to 4). -/
def execCalibrationAreaCommit (s : State) : Out := .next s.calCommit.serveWaiting

end Sys2Proof.Machine
end

