-- ==== Sys2Proof/Machine/Sequencer.lean ====
section
/-! DEFINITION. What the Strip Sequencer and the Post-Processing Unit do at their edges: deadlines, withdrawals, the fused
strip record, candidates, suppression and object lists; timed launch (chapters 8, 9 and 12). -/

namespace Sys2Proof.Machine

open Sys2Proof

/-! ## Strips (R214, R217, R219) -/

/-- A strip of the enabled stream by its number. -/
def State.strip? (s : State) (strm n : Nat) : Option Strip :=
  match s.sluice? strm with
  | none => none
  | some q => q.strips.find? fun t => t.n = n

/-- Submit the refused jobs of a sluice in strip order, up to the first that is refused again. -/
def State.resubmit (s : State) (q : Sluice) (l : List Strip) : State :=
  match l with
  | [] => s
  | t :: rest =>
    let s := s.submitStrip q t
    match (s.seq.sluices.find? q.same).bind fun r => r.strips.find? fun u => u.n = t.n with
    | some u => if u.job = .toSubmit then s else s.resubmit q rest
    | none => s

/-- The sluices of a stream, those that drain first: a disabled stream's complete strips keep their jobs (R163). -/
def State.sluicesOf (s : State) (strm : Nat) : List Sluice :=
  (s.seq.sluices.filter fun q => q.stream = strm && !q.on) ++ (s.seq.sluices.filter fun q => q.stream = strm && q.on)

/-- STRIP_JOB_RESUBMIT (R214, R386): one further submission of each refused job, in strip order, draining strips first. -/
def execStripJobResubmit (strm : Fin 96) (s : State) : Out :=
  .next (
    if !s.sluicing then s
    else (s.sluicesOf strm.val).foldl (fun s q => s.resubmit q (q.strips.filter fun t => t.job = .toSubmit)) s)

/-- STRIP_DEADLINE (R219): the deadline edge passes without a result. -/
def execStripDeadline (strm : Fin 96) (strip : Nat) (s : State) : Out :=
  .next (
    match s.strip? strm.val strip with
    | none => s
    | some t => if t.bounded || !s.sluicing then s else (s.registerMiss strm.val t).sluiceChanged strm.val)

/-- The outstanding strip job of a stream by its strip's number, with its sluice; of a draining sluice first, whose strips are older. -/
def State.outstandingStrip (s : State) (strm n : Nat) : Option (Sluice × Strip) :=
  (s.sluicesOf strm).findSome? fun q => (q.strips.find? fun t => t.n = n && t.job != .ended).map fun t => (q, t)

/-- STRIP_WITHDRAW (R217). -/
def execStripWithdraw (strm : Fin 96) (strip : Nat) (s : State) : Out :=
  .next (
    match s.outstandingStrip strm.val strip with
    | none => s
    | some (q, t) => if !s.sluicing then s else s.withdraw q t)

/-! ## The fused strip record (R220 to R223) -/

/-- Of two bounded outcomes the one with the earlier deadline; the first registered where they tie. -/
def earlier (a b : Outcome) : Outcome := if b.deadline < a.deadline then b else a

/-- The outcome a lane takes (R221). -/
def lanePick (l : List Outcome) (strm : Nat) : Option Outcome :=
  let mine := l.filter fun o => o.stream = strm
  match mine.filter (·.bounded) with
  | o :: rest => some (rest.foldl earlier o)
  | [] => mine.head?

/-- The outcomes that the record of this edge publishes, by stream. -/
def State.laneOutcomes (s : State) : List (Option Outcome) := (List.range 96).map fun k => lanePick s.seq.waiting k

/-- The fused strip record (R222). -/
def State.fusedRecord (s : State) (lanes : List (Option Outcome)) (left : Nat) : List Byte :=
  let used := (lanes.filter Option.isSome).length
  let st := s.obj 0x9000 3
  let asserted := !s.pins.hazardN
  let seen : Bool := match s.seq.hz.seenAt with
    | some t => t + 1 = s.clk.ticks
    | none => false
  let source := match s.seq.hz.first with
    | some (t, f) => if t + 1 = s.clk.ticks then f else 0
    | none => 0
  let flags := (if used = 0 then 1 else 0) + (if 0 < left then 2 else 0) + (if st = 3 then 4 else 0) + (if st = 4 then 8 else 0) +
    (if asserted then 16 else 0) + (if asserted || seen then 32 else 0)
  let code : Option Outcome → Byte
    | some o => BitVec.ofNat 8 (o.code + o.flags)
    | none => 0
  let tag : Option Outcome → Byte
    | some o => BitVec.ofNat 8 o.strip
    | none => 0
  let b := leBytes 4 0x52535953 ++ leBytes 1 1 ++ leBytes 1 (s.obj 0x2000 5) ++ leBytes 1 s.pw.mode.code ++ leBytes 1 flags ++
    leBytes 8 s.clk.ticks ++ leBytes 8 s.nowNs ++ leBytes 4 (s.obj 0x2050 3) ++ leBytes 1 source ++ leBytes 1 used ++
    leBytes 2 (min left 0xFFFF) ++ zeros 16 ++ lanes.map code ++ lanes.map tag ++ zeros 12
  b ++ leBytes 4 (crc32c b)

/-- Send a record on one path of 0x3110:01, or lose it there (R223, R206, R472). -/
def State.recordOn (s : State) (pathReady : BitVec 4) (rec : List Byte) (k : Nat) : State :=
  if !s.objBit 0x3110 1 k then s
  else if !pathReady.getLsbD k then s.bump 0x3110 8
  else if k < 2 then s.sendTimed k 0 (s.obj 0x9003 1) s.nsNow rec
  else if k = 2 then
    let base := s.obj 0x3110 4
    let n := s.obj 0x3110 5
    (s.emit (.hostWrite (base + 256 * (s.clk.ticks % n)) rec)).emit (.hostWrite (base + 256 * n - 8) (leBytes 8 s.clk.ticks))
  else s.fuindSendRecord rec

/-- Whether a strip's head stands in its result slot: its job has been formed, and no newer strip has taken the slot (R218). -/
def State.ownsSlot (s : State) (strm n : Nat) : Bool :=
  match s.sluice? strm with
  | some q => Amap.get 0 q.owners (n % s.obj 0x3010 6 strm) = n + 1
  | none => false

/-- What follows a lane's publication: the result slot shows it, the latency is sampled, the candidates and the compare
partner get it (R218, R297, R400, R473). -/
def State.published (s : State) (o : Outcome) : State :=
  let a := s.resultSlot o.stream o.strip
  let s := if a = 0 || !s.ownsSlot o.stream o.strip then s else s.writeFor 0 (a + 32) (leBytes 1 o.code ++ leBytes 1 o.flags)
  let result : Bool := o.code = 1 || o.code = 8 || o.code = 9
  let s := if o.code = 1 || o.code = 8 then s.monSample 0x01 o.stream (s.clk.ticks - o.doneTick) else s
  let s := if result && s.objB 0x3010 3 o.stream then
      { s with seq := { s.seq with copies := s.seq.copies ++
        [{ stream := o.stream, strip := o.strip, frame := o.frame, index := o.index, code := o.code, tick := s.clk.ticks }] } }
    else s
  if result && s.objBit 0xA020 (o.stream + 1) 0 then s.fuindSendCompare o else s

/-- FUSED_STRIP_RECORD (R220 to R223, R228, R353): only in BENCH and DRIVE, with no class-S detection waiting. -/
def execFusedStripRecord (pathReady : BitVec 4) (s : State) : Out :=
  .next (
    if !s.sluicing || s.pw.pendSafe.isSome then s
    else
      let lanes := s.laneOutcomes
      let out := lanes.filterMap id
      let left := s.seq.waiting.filter fun o => !out.contains o
      let rec_ := s.fusedRecord lanes left.length
      let s := { s with seq := { s.seq with waiting := left } }
      let s := { s.bump 0x3110 6 with casc := { s.casc with record := s.clk.ticks } }
      let s := out.foldl (fun s o => s.published o) s
      (List.range 4).foldl (fun s k => s.recordOn pathReady rec_ k) s)

/-! ## Candidates (R297, R298, R306) -/

/-- The unit works in BENCH and DRIVE alone (R303); after a class-S detection no list starts (R353). -/
def State.ppRuns (s : State) : Bool := s.sluicing && s.pw.pendSafe.isNone

/-- Change a frame of the Post-Processing Unit. -/
def State.modFrame (s : State) (strm n : Nat) (f : PpFrame → PpFrame) : State :=
  { s with seq := { s.seq with frames := s.seq.frames.map fun p => if p.stream = strm && p.frame = n then f p else p } }

/-- The candidates of a result slot that the unit can read: a poisoned word ends the copy with an error completion (R250), and what
lies from there on is discarded. -/
def State.readableCands (s : State) (a n : Nat) : Nat :=
  ((List.range n).find? fun k => s.poisoned (a + 128 + 16 * k) 16).getD n

/-- The candidate count of a result slot, of which the unit reads none where its word is poisoned (R250, R297). -/
def State.candCount (s : State) (a : Nat) : Nat := if s.poisoned (a + 64) 4 then 0 else s.memNat (a + 64) 4

/-- Copy the candidates of a published strip into its frame. -/
def State.copyCands (s : State) (c : CandCopy) (p : PpFrame) : State :=
  let a := s.resultSlot c.stream c.strip
  let count := s.candCount a
  let room := (s.obj 0x3010 5 c.stream - 128) / 16
  let fit := s.readableCands a (min (min count room) (65536 - p.cands.length))
  let cs : List Cand := (List.range fit).map fun k =>
    { data := s.memBytes (a + 128 + 16 * k) 16, index := c.index, num := k, late := c.code != 1 }
  let s := (s.bump 0x3014 3 c.stream fit).bump 0x3014 4 c.stream (count - fit)
  s.modFrame c.stream c.frame fun p =>
    { p with cands := p.cands ++ cs, received := p.received + fit, discarded := p.discarded || fit < count }

/-- CANDIDATE_COPY (R297, R306): after its frame's suppression has started, the candidates are too late, unless the strip
was published on the edge of the start. -/
def execCandidateCopy (strm : Fin 96) (strip : Nat) (s : State) : Out :=
  .next (
    match s.seq.copies.find? fun c => c.stream = strm.val && c.strip = strip with
    | none => s
    | some c =>
      let s := { s with seq := { s.seq with copies := s.seq.copies.filter fun d => d != c } }
      let late (s : State) := s.bump 0x3014 5 c.stream (s.candCount (s.resultSlot c.stream c.strip))
      if !s.ppRuns then s
      else
        match s.seq.frames.find? fun p => p.stream = c.stream && p.frame = c.frame with
        | none => late s
        | some p =>
          match p.started with
          | none => s.copyCands c p
          | some t => if t = c.tick then (s.nearMissIn 0x3014 6 c.stream).copyCands c p else late s)

/-! ## Decoding and suppression (R299 to R301) -/

/-- A decoded box: corners in quarter pixels, score, class, flags and strip index. -/
structure Box where
  x0 : Nat
  y0 : Nat
  x1 : Nat
  y1 : Nat
  score : Nat
  cls : Nat
  late : Bool
  index : Nat
  num : Nat
  deriving DecidableEq, Repr

/-- An integer in FP32. -/
def fpInt (v : Int) : Nat := (fp32.ofInt v).1

/-- v × 2^-10 in FP32; exact. -/
def fpMilli (v : Int) : Nat := fmul (fpInt v) 0x3A800000

/-- A corner clipped to 0 and a limit, in quarter pixels with ties to even. -/
def quarter (limit v : Nat) : Nat :=
  let c := if fgt 0 v then 0 else if fgt v (fpInt limit) then fpInt limit else v
  (f32ToInt 0 65535 (fmul 0x40800000 c)).1.toNat

/-- Decode a candidate by its stream's anchor block and frame size (R300); none where the box is empty. -/
def decodeBox (anchors : List Byte) (width lines : Nat) (c : Cand) : Option Box :=
  let d := c.data
  let level := field d 7 1 % 8
  let an := 16 + 4 * (32 * level + field d 7 1 / 8)
  let stride := fpInt (field anchors level 1)
  let centre (pos t : Nat) : Nat := fmul (fadd (fadd (fpInt pos) 0x3F000000) (fpMilli (toSigned 16 t))) stride
  let size (a t : Nat) : Nat :=
    fmul (fdiv (fpInt a) 0x40800000) (f32Exp (fpMilli (clampI (-4096) 4096 (toSigned 16 t))))
  let cx := centre (field d 0 2) (field d 8 2)
  let cy := centre (field d 2 2) (field d 10 2)
  let w := fdiv (size (field anchors an 2) (field d 12 2)) 0x40000000
  let h := fdiv (size (field anchors (an + 2) 2) (field d 14 2)) 0x40000000
  let x0 := quarter width (fsub cx w)
  let x1 := quarter width (fadd cx w)
  let y0 := quarter lines (fsub cy h)
  let y1 := quarter lines (fadd cy h)
  if x1 ≤ x0 || y1 ≤ y0 then none
  else some { x0 := x0, y0 := y0, x1 := x1, y1 := y1, score := field d 4 2, cls := field d 6 1, late := c.late, index := c.index, num := c.num }

/-- Whether a box comes before another (R301 step 1). -/
def Box.before (a b : Box) : Bool :=
  b.score < a.score || (a.score = b.score && (a.index < b.index || (a.index = b.index && a.num < b.num)))

/-- Insert a box in its order. -/
def insertBox (b : Box) (l : List Box) : List Box :=
  match l with
  | [] => [b]
  | h :: t => if b.before h then b :: h :: t else h :: insertBox b t

/-- The area of a box. -/
def Box.area (b : Box) : Nat := (b.x1 - b.x0) * (b.y1 - b.y0)

/-- Whether a kept box suppresses another of its class (R301 step 2). -/
def Box.suppresses (t : Nat) (k b : Box) : Bool :=
  let i := (min k.x1 b.x1 - max k.x0 b.x0) * (min k.y1 b.y1 - max k.y0 b.y0)
  k.cls = b.cls && t * (k.area + b.area - i) < i * 65536

/-- Suppression: the kept boxes in order, and whether the limit left candidates unexamined (R301). -/
def suppress (t limit : Nat) (kept : List Box) (l : List Box) : List Box × Bool :=
  match l with
  | [] => (kept, false)
  | b :: rest =>
    if limit ≤ kept.length then (kept, true)
    else if kept.any fun k => k.suppresses t b then suppress t limit kept rest
    else suppress t limit (kept ++ [b]) rest

/-- The boxes of a frame in order, and how many decoding discarded. -/
def State.frameBoxes (s : State) (p : PpFrame) : List Box × Nat :=
  let anchors := match s.sluice? p.stream with
    | some q => q.anchors
    | none => []
  let cs := p.cands.filter fun c => s.obj 0x3013 1 p.stream ≤ field c.data 4 2
  let bs := cs.filterMap (decodeBox anchors (s.obj 0x3000 6 p.stream) (s.obj 0x3000 7 p.stream))
  (bs.foldl (fun l b => insertBox b l) [], cs.length - bs.length)

/-! ## Object lists (R302, R303) -/

/-- The 16 bytes of an object. -/
def Box.bytes (b : Box) : List Byte :=
  leBytes 2 b.x0 ++ leBytes 2 b.y0 ++ leBytes 2 b.x1 ++ leBytes 2 b.y1 ++ leBytes 2 b.score ++ leBytes 1 b.cls ++
  leBytes 1 (if b.late then 1 else 0) ++ leBytes 2 b.index ++ leBytes 2 0

/-- One fragment of a list: header and objects. -/
def State.listFragment (s : State) (p : PpFrame) (flags frag frags first total : Nat) (objs : List Box) : List Byte :=
  let h := leBytes 4 0x4C4F5953 ++ leBytes 1 1 ++ leBytes 1 (s.obj 0x2000 5) ++ leBytes 1 p.stream ++ leBytes 1 flags ++
    leBytes 4 p.frame ++ leBytes 4 total ++ leBytes 8 p.corrected ++ leBytes 8 (match p.ended with | some e => e.1 | none => 0) ++
    leBytes 4 p.received ++ leBytes 4 (s.obj 0x2050 3) ++ leBytes 2 frag ++ leBytes 2 frags ++ leBytes 2 first ++
    leBytes 2 objs.length ++ zeros 12
  let body := objs.flatMap Box.bytes
  h ++ leBytes 4 (crc32c (h ++ body)) ++ body

/-- Whether a 25GBASE-T1 port or the PCIe function can take a list. -/
def State.listPath (s : State) (k : Nat) : Bool := if k = 2 then s.su.pcieUp else !bit s.ethDown k

/-- Send a list on the paths of 0x3120:01, and copy it to the unit's window (R303); one that leaves on some path counts as sent. -/
def State.sendList (s : State) (p : PpFrame) (flags : Nat) (objs : List Box) : State :=
  let at_ := match p.ended with
    | some e => e.2
    | none => s.nsNow
  let whole := s.listFragment p flags 0 1 0 objs.length objs
  let s := s.memWrite (unitBase + p.stream * 0x8000) (padTo 0x8000 whole)
  let n := max 1 ((objs.length + 79) / 80)
  let s := (List.range 2).foldl (fun s k =>
    if !s.objBit 0x3120 1 k then s
    else if !s.listPath k then s.bump 0x3120 7
    else (List.range n).foldl (fun s i =>
      s.sendTimed k 1 (s.obj 0x9003 2) at_ (s.listFragment p flags i n (80 * i) objs.length ((objs.drop (80 * i)).take 80))) s) s
  let base := s.obj 0x3120 4 + 32768 * (s.obj 0x3120 6 % s.obj 0x3120 5)
  let s := if !s.objBit 0x3120 1 2 then s
    else if !s.listPath 2 then s.bump 0x3120 7
    else (s.emit (.hostWrite base whole)).emit (.hostWrite (base + 32760) (leBytes 8 (s.obj 0x3120 6)))
  if (List.range 3).any fun k => s.objBit 0x3120 1 k && s.listPath k then s.bump 0x3120 6 else s

/-- Publish a frame's list (R224, R302): its counters, the latency sample, and the frame is forgotten. -/
def State.publishList (s : State) (p : PpFrame) (objs : List Box) (incomplete truncated : Bool) (bad : Nat) : State :=
  let flags := (if incomplete then 1 else 0) + (if p.partialIn then 2 else 0) + (if p.discarded || 0 < bad then 4 else 0) +
    (if truncated then 8 else 0)
  let s := (s.bump 0x3014 1 p.stream).bump 0x3014 4 p.stream bad
  let s := if truncated then s.bump 0x3014 2 p.stream else s
  let s := s.sendList p flags objs
  let s := match p.ended with
    | some e => s.monSample 0x05 p.stream (s.now - e.2 / 1000)
    | none => s
  { s with seq := { s.seq with frames := s.seq.frames.filter fun f => !(f.stream = p.stream && f.frame = p.frame) } }

/-- Whether a frame is ready: it has ended and its last strip has an outcome (R224). -/
def PpFrame.ready (p : PpFrame) : Bool := p.ended.isSome && p.lastOut && p.started.isNone

/-- Of two frames, the one with the earlier last-line stamp, then the lower stream (R304). -/
def PpFrame.first (a b : PpFrame) : PpFrame :=
  let sa := (a.ended.map (·.1)).getD 0
  let sb := (b.ended.map (·.1)).getD 0
  if sb < sa || (sa = sb && b.stream < a.stream) then b else a

/-- SUPPRESSION_START (R304): one frame at a time. -/
def execSuppressionStart (s : State) : Out :=
  .next (
    if !s.ppRuns || s.seq.frames.any (·.started.isSome) then s
    else
      match s.seq.frames.filter PpFrame.ready with
      | [] => s
      | p :: rest =>
        let f := rest.foldl PpFrame.first p
        s.modFrame f.stream f.frame fun p => { p with started := some s.clk.ticks })

/-- SUPPRESSION_DONE (R301 to R303, R306): on the edge of the 1,500-tick bound the finished list is complete, a near-miss. -/
def execSuppressionDone (s : State) : Out :=
  .next (
    match s.seq.frames.find? (·.started.isSome) with
    | none => s
    | some p =>
      if !s.ppRuns then s
      else
        let b := s.frameBoxes p
        let r := suppress (s.obj 0x3013 2 p.stream) (s.obj 0x3013 3 p.stream) [] b.1
        let edge := match p.ended with
          | some e => e.2 / 1000 + 1500 == s.now
          | none => false
        let s := if edge then s.nearMissIn 0x3014 6 p.stream else s
        s.publishList p r.1 false r.2 b.2)

/-- OBJECT_LIST_DEADLINE (R224): the oldest ended frame's list is published as it stands. How far decoding and suppression have come
is a free value (log entry 2); a kept box shows that all is decoded (R301), with the empty boxes counted (R300). -/
def execObjectListDeadline (strm : Fin 96) (s : State) : Out :=
  .next (
    match s.seq.frames.find? fun p => p.stream = strm.val && p.ended.isSome with
    | none => s
    | some p =>
      if !s.ppRuns then s
      else
        let b := s.frameBoxes p
        let r := suppress (s.obj 0x3013 2 p.stream) (s.obj 0x3013 3 p.stream) [] b.1
        let f := s.takeFree
        let k := if p.started.isSome then (Config.freeWord f.1).toNat % (r.1.length + 1) else 0
        let s := if p.started.isSome then f.2 else s
        let bad := if p.started.isNone then 0 else if k = 0 then (Config.freeWord f.1).toNat / 65536 % (b.2 + 1) else b.2
        (s.bump 0x3011 8 strm.val).publishList p (r.1.take k) true (r.2 && 0 < k && k = r.1.length) bad)

/-! ## Timed launch (R207, R208) -/

/-- The port number of a launch port. -/
def launchCode : LaunchPort → Nat
  | .eth n => n.val
  | .can n => 2 + n.val

/-- Whether a held frame can still leave: a TPDO only while its port is Operational, with its mode's room for it (R126, R133). -/
def State.canLeave (s : State) (t : Timed) : Bool :=
  t.port < 2 || (s.nmt (t.port - 2) = 5 && t.data.length ≤ s.tpdoRoom (2 ^ (t.port - 2)))

/-- TIMED_LAUNCH (R207, R208, R209): the held frame with the earliest launch time leaves. On a busy CAN bus it leaves at the
first opportunity, counted in 0x9003:07; behind another timed frame of an Ethernet port it is late, by the time since its launch
time. A TPDO whose port has left Operational is not sent (R133). None starts after a class-S detection (R353). -/
def execTimedLaunch (port : LaunchPort) (busFree : Bool) (s : State) : Out :=
  .next (
    if !s.clk.tbRun || s.pw.pendSafe.isSome || s.pw.mode = .safe then s
    else
      let k := launchCode port
      match s.timed.filter fun t => t.port = k with
      | [] => s
      | t :: rest =>
        let t := rest.foldl (fun a b => if b.at_ < a.at_ then b else a) t
        let s := { s with timed := s.timed.erase t }
        if !s.canLeave t then s
        else
        let s := if busFree then s.bump 0x9003 4
          else if k < 2 then s.lateFrame (s.nsNow - t.at_)
          else (s.bump 0x9003 4).bump 0x9003 7
        s.launch t)

end Sys2Proof.Machine
end

