-- ==== Sys2Proof/Machine/Flags.lean ====
section
/-! DEFINITION. The FLAGS word of a context or Keeper core (R267, R268, R276). -/

namespace Sys2Proof.Machine

open Sys2Proof

/-- The writable bits of FLAGS: saturation, the FP flags, and the in-exception bit of the Keepers (R276). -/
def flagsMask (h : Hart) : Word :=
  match h with
  | .ctx _ => 0x00F
  | .keeper _ => 0x10F

/-- Set sticky flags. -/
def Ctx.orFlags (c : Ctx) (n : Nat) : Ctx := { c with flags := c.flags ||| BitVec.ofNat 64 n }

/-- FLAGS [0], saturation. -/
def flagSat : Nat := 1

/-- Whether a Keeper core is in an exception: FLAGS [8] (R280). -/
def Ctx.inException (c : Ctx) : Bool := c.flags.getLsbD 8

/-- Set FLAGS [8]. -/
def Ctx.enterExc (c : Ctx) : Ctx := { c with flags := c.flags ||| 0x100 }

/-- Clear FLAGS [8] (ERET, R275). -/
def Ctx.leaveExc (c : Ctx) : Ctx := { c with flags := c.flags &&& 0xFFFFFFFFFFFFFEFF }

end Sys2Proof.Machine
end

