-- ==== Sys2Proof/Machine/Operands.lean ====
section
/-! DEFINITION. The operand forms of the thread instructions: immediates, W operands, vector lanes, the VV and VS forms and
predicates (R259 to R270). -/

namespace Sys2Proof.Machine

open Sys2Proof

/-- A 14-bit immediate, sign-extended (R259). -/
def sx14 (imm : BitVec 14) : Word := imm.signExtend 64

/-- A 32-bit value, sign-extended. -/
def sx32 (v : Half) : Word := v.signExtend 64

/-- The low half of a word. -/
def lo32 (v : Word) : Half := v.truncate 32

/-- The result of an RRR operation: on words, or with W = 1 on the low halves, sign-extended (R259). -/
def rrrResult (w : Bool) (f64 : Word → Word → Word) (f32 : Half → Half → Half) (a b : Word) : Word :=
  if w then sx32 (f32 (lo32 a) (lo32 b)) else f64 a b

/-- A branch target: the offset counts words from the branch itself (R262). -/
def branchTo (pc : Word) (off : BitVec 15) : Word := pc + (off.signExtend 64 <<< 2)

/-- A jump target. -/
def jumpTo (pc : Word) (off : BitVec 26) : Word := pc + (off.signExtend 64 <<< 2)

/-- A lane of a vector register. -/
def Ctx.lane (c : Ctx) (v : Fin 8) (i : Fin 64) : Half := c.v[v][i]

/-- Whether a lane is enabled (R266). -/
def Ctx.enabled (c : Ctx) (pr : Option (Fin 4)) (i : Fin 64) : Bool :=
  match pr with
  | none => true
  | some p => c.p[p].getLsbD i.val

/-- The second vector operand in a lane: a register's lane, or the broadcast low half of a scalar (R266). -/
def Ctx.src (c : Ctx) (s : VSrc) (i : Fin 64) : Half :=
  match s with
  | .vv v => c.lane v i
  | .vs r => lo32 (c.get r)

/-- Every lane number in order. -/
def lanes : List (Fin 64) := List.finRange 64

/-- Write the enabled lanes of a vector register; the others keep their value (R266). -/
def Ctx.putLanes (c : Ctx) (vd : Fin 8) (pr : Option (Fin 4)) (f : Fin 64 → Half) : Ctx :=
  { c with v := c.v.set vd (Vector.ofFn fun i => if c.enabled pr i then f i else c.lane vd i) }

/-- Write the enabled bits of a predicate register; the others keep their value (R266). -/
def Ctx.putPred (c : Ctx) (pd : Fin 4) (pr : Option (Fin 4)) (f : Fin 64 → Bool) : Ctx :=
  let old := c.p[pd]
  let v : Nat := lanes.foldl (fun n i =>
    if (if c.enabled pr i then f i else old.getLsbD i.val) then n + 2 ^ i.val else n) 0
  { c with p := c.p.set pd (BitVec.ofNat 64 v) }

/-- The OR of a flag value over the enabled lanes. -/
def Ctx.laneFlags (c : Ctx) (pr : Option (Fin 4)) (f : Fin 64 → Nat) : Nat :=
  lanes.foldl (fun n i => if c.enabled pr i then n ||| f i else n) 0

/-- The bytes of an element (R269). -/
def Elem.bytes : Elem → Nat
  | .w32 => 4
  | .w16 => 2
  | .s8 => 1
  | .u8 => 1

/-- A loaded element in its lane: a 16-bit and a signed 8-bit element sign-extend (R269). -/
def Elem.extend (e : Elem) (v : Nat) : Half :=
  match e with
  | .w32 => BitVec.ofNat 32 v
  | .w16 => BitVec.ofInt 32 (toSigned 16 v)
  | .s8 => BitVec.ofInt 32 (toSigned 8 v)
  | .u8 => BitVec.ofNat 32 v

end Sys2Proof.Machine
end

