-- ==== Sys2Proof/Machine/Tensor.lean ====
section
/-! DEFINITION. The tensor operations: layouts, the TOP descriptor and its checks, accumulation and dequantization, and the
copies of TMOVE (chapter 12, R283 to R296; R272, R273). -/

namespace Sys2Proof.Machine

open Sys2Proof

/-! ## The descriptor (R285) -/

/-- A TOP: its descriptor and bits [13:9] of the instruction. -/
structure TopOp where
  d : List Byte
  prec : Nat
  acc : Bool
  deq : Bool
  deriving DecidableEq, Repr

namespace TopOp

variable (t : TopOp)

/-- Operator: 1 CONV, 2 DWCONV. -/
def oper : Nat := field t.d 0 1
/-- Input layout code. -/
def inLay : Nat := field t.d 1 1 % 4
/-- Output layout code. -/
def outLay : Nat := field t.d 1 1 / 4 % 4
/-- Input element code. -/
def inTy : Nat := field t.d 2 1 % 4
/-- Output type code. -/
def outTy : Nat := field t.d 2 1 / 4 % 8
/-- Activation code. -/
def activ : Nat := field t.d 2 1 / 32 % 4
/-- Kernel columns. -/
def kw : Nat := field t.d 3 1 % 16 + 1
/-- Kernel rows. -/
def kh : Nat := field t.d 3 1 / 16 + 1
/-- Vertical stride. -/
def sy : Nat := field t.d 4 1 % 4 + 1
/-- Horizontal stride. -/
def sx : Nat := field t.d 4 1 / 4 % 4 + 1
/-- Vertical dilation. -/
def dy : Nat := field t.d 4 1 / 16 % 4 + 1
/-- Horizontal dilation. -/
def dx : Nat := field t.d 4 1 / 64 % 4 + 1
/-- Space-to-depth code. -/
def rCode : Nat := field t.d 5 1 % 8
/-- Depth-to-space code. -/
def qCode : Nat := field t.d 5 1 / 8 % 8
/-- Space-to-depth factor. -/
def r : Nat := 2 ^ t.rCode
/-- Depth-to-space factor. -/
def q : Nat := 2 ^ t.qCode
/-- Padding rows above. -/
def top : Nat := field t.d 6 1 % 16
/-- Padding rows below. -/
def bottom : Nat := field t.d 6 1 / 16
/-- Padding columns left. -/
def left : Nat := field t.d 7 1 % 16
/-- Padding columns right. -/
def right : Nat := field t.d 7 1 / 16
/-- Input channels. -/
def ic : Nat := field t.d 8 2
/-- Output channels. -/
def oc : Nat := field t.d 10 2
/-- Input rows. -/
def h : Nat := field t.d 12 2
/-- Input columns. -/
def w : Nat := field t.d 14 2
/-- Input address. -/
def inp : Nat := field t.d 16 6
/-- Weight pack address. -/
def wts : Nat := field t.d 22 6
/-- Output address. -/
def out : Nat := field t.d 28 6
/-- Accumulator address. -/
def accA : Nat := field t.d 34 6
/-- Outlier activations address. -/
def outl : Nat := field t.d 40 6
/-- Input row pitch. -/
def pitch : Nat := field t.d 46 4
/-- Input block stride. -/
def stride : Nat := field t.d 50 4
/-- Output reciprocal scale. -/
def recip : Nat := field t.d 54 4
/-- Input shift. -/
def shift : Nat := field t.d 58 1
/-- Outlier count n. -/
def n : Nat := field t.d 59 1
/-- Input offset. -/
def offset : Nat := field t.d 60 2

/-- Integer 8-bit array precisions: INT8 and INT4. -/
def isInt : Bool := t.prec ≤ 1
/-- FP precisions: BF16 and FP16. -/
def isFp : Bool := t.prec = 2 || t.prec = 3
/-- The INT16 outlier lane runs the whole operation. -/
def isLane : Bool := t.prec = 4

/-- Element size of the input, bytes (R283, R285). -/
def inSize : Nat := if t.inTy = 1 then 1 else if t.inTy = 2 then 2 else if t.isInt then 1 else 2
/-- Element size of the output, bytes. -/
def outSize : Nat := if t.outTy = 0 then 1 else if t.outTy = 3 then 4 else 2
/-- Block of input channels and of output channels (R288). -/
def blk : Nat := if t.isInt then 32 else 16

/-! ### Shapes (R286) -/

/-- Rows after space-to-depth. -/
def hc : Nat := t.h / t.r
/-- Columns after space-to-depth. -/
def wc : Nat := t.w / t.r
/-- Channels after space-to-depth. -/
def icc : Nat := t.ic * t.r * t.r
/-- Output rows; an Int, since a kernel may exceed its input. -/
def ohI : Int := ((t.hc + t.top + t.bottom : Nat) - (t.dy * (t.kh - 1) : Nat) - 1 : Int) / (t.sy : Int) + 1
/-- Output columns. -/
def owI : Int := ((t.wc + t.left + t.right : Nat) - (t.dx * (t.kw - 1) : Nat) - 1 : Int) / (t.sx : Int) + 1
/-- Output rows. -/
def oh : Nat := t.ohI.toNat
/-- Output columns. -/
def ow : Nat := t.owI.toNat
/-- Padded output channels. -/
def ocp : Nat := roundUp t.oc t.blk
/-- Rows, columns and channels of the stored output. -/
def oRows : Nat := t.oh * t.q
/-- Columns of the stored output. -/
def oCols : Nat := t.ow * t.q
/-- Channels of the stored output. -/
def oChans : Nat := t.oc / (t.q * t.q)

/-- Elements of one output position's row: 1 in PLANAR, 16 or 32 in the blocked layouts. -/
def outBlk : Nat := if t.outLay = 2 then 16 else if t.outLay = 3 then 32 else 1
/-- Row pitch of the output (R283). -/
def outPitch : Nat := roundUp (t.oCols * t.outBlk * t.outSize) 64
/-- Block stride of the output. -/
def outStride : Nat := t.oRows * t.outPitch
/-- Blocks of the output. -/
def outBlocks : Nat := (t.oChans + t.outBlk - 1) / t.outBlk

/-! ### The weight pack (R288) -/

/-- Bytes of one block of weights. -/
def wBlk : Nat := if t.oper = 2 then 32 else if t.prec = 0 then 1024 else 512
/-- Input blocks per tap. -/
def nib : Nat := if t.oper = 2 then 1 else (t.icc + t.blk - 1) / t.blk
/-- Bytes of the weight section. -/
def wBytes : Nat := t.ocp / t.blk * t.kh * t.kw * t.nib * t.wBlk
/-- Offset of the bias section. -/
def biasOff : Nat := roundUp t.wBytes 64
/-- Offset of the scales. -/
def scaleOff : Nat := roundUp (t.biasOff + 4 * t.ocp) 64
/-- Offset of the outlier index list. -/
def listOff : Nat := roundUp (t.scaleOff + 2 * t.ocp) 64
/-- Offset of the outlier weights. -/
def owtOff : Nat := roundUp (t.listOff + 2 * t.n) 64
/-- Blocks of 16 outliers. -/
def njb : Nat := (t.n + 15) / 16
/-- Offset of the outlier scales. -/
def oscOff : Nat := roundUp (t.owtOff + t.ocp / t.blk * t.kh * t.kw * t.njb * 1024) 64
/-- Bytes of the pack. -/
def packLen : Nat := if t.n = 0 then t.scaleOff + 2 * t.ocp else t.oscOff + 2 * t.ocp

/-! ### Ranges -/

/-- Bytes of one input row. -/
def rowBytes : Nat :=
  t.w * t.inSize * (if t.inLay = 0 then 1 else if t.inLay = 1 then t.ic else if t.inLay = 2 then 16 else 32)
/-- Blocks or planes of the input. -/
def inBlocks : Nat :=
  if t.inLay = 0 then t.ic else if t.inLay = 1 then 1 else if t.inLay = 2 then (t.ic + 15) / 16 else (t.ic + 31) / 32
/-- Bytes from the input's first to its last. -/
def inLen : Nat := (t.inBlocks - 1) * t.stride + (t.h - 1) * t.pitch + t.rowBytes
/-- Bytes of the output. -/
def outLen : Nat := t.outBlocks * t.outStride
/-- Bytes of the accumulator region (R293). -/
def accLen : Nat :=
  let e := t.oh * t.ow * t.ocp
  if t.isLane then e * 8 else e * 4 + (if t.n = 0 then 0 else e * 8)
/-- Row pitch of the outlier activations, stored dense (R291). -/
def olPitch : Nat := roundUp (t.w * 32) 64
/-- Bytes of the outlier activations. -/
def olLen : Nat := t.njb * t.h * t.olPitch
/-- Whether the accumulator region is used. -/
def usesAcc : Bool := t.acc || !t.deq

end TopOp

/-- Whether two byte ranges overlap. -/
def overlaps (a n b m : Nat) : Bool := a < b + m && b < a + n && n != 0 && m != 0

/-- Whether layouts, element types and precision are allowed together (R284). -/
def TopOp.allowed (t : TopOp) : Bool :=
  let firstLayer : Bool := t.isInt && t.inLay ≤ 1 && t.inTy ≤ 2 && (t.inLay = 0 || t.ic ≤ 4)
  let int8Layer : Bool := t.isInt && t.inLay = 3 && t.inTy = 0
  let wide : Bool := !t.isInt && t.inLay = 2 && t.inTy = 0
  let planar : Bool := t.outLay = 0 && t.outTy ≤ 3
  let cb32 : Bool := t.outLay = 3 && t.outTy = 0
  let cb16 : Bool := t.outLay = 2 && (t.outTy = 1 || t.outTy = 2)
  (firstLayer && (planar || cb32 || cb16)) || (int8Layer && (planar || cb32)) || (wide && (planar || cb16))

/-- The checks of R287 at issue. -/
def TopOp.valid (t : TopOp) : Bool :=
  (t.oper = 1 || t.oper = 2) && field t.d 1 1 < 16 && t.inTy ≤ 2 && t.outTy ≤ 3 && t.activ ≤ 1 && field t.d 2 1 < 128 &&
  t.rCode ≤ 2 && t.qCode ≤ 2 && field t.d 5 1 < 64 && t.shift < 16 && t.n ≤ 64 && field t.d 62 2 = 0 &&
  1 ≤ t.ic && t.ic ≤ 4096 && 1 ≤ t.oc && t.oc ≤ 4096 && 1 ≤ t.h && t.h ≤ 8192 && 1 ≤ t.w && t.w ≤ 8192 &&
  t.allowed &&
  (t.oper != 2 || (t.prec = 0 && t.ic = t.oc && t.inLay = 3 && t.r = 1 && t.q = 1 && t.n = 0)) &&
  (t.r = 1 || (t.inLay ≤ 1 && t.h % t.r = 0 && t.w % t.r = 0 && t.icc ≤ 64)) &&
  (t.q = 1 || (t.outLay = 0 && t.oc % (t.q * t.q) = 0 && t.oChans ≤ 64)) &&
  (t.n = 0 || (t.isInt && t.r = 1 && t.inLay = 3)) &&
  1 ≤ t.ohI && 1 ≤ t.owI &&
  t.inp % 64 = 0 && t.wts % 64 = 0 && t.out % 64 = 0 && t.accA % 64 = 0 && t.outl % 64 = 0 && t.pitch % 64 = 0 &&
  t.stride % 64 = 0 && t.rowBytes ≤ t.pitch &&
  (t.deq || t.out = 0) && (t.usesAcc || t.accA = 0) && (t.n != 0 || t.outl = 0) && fp32.isPositive t.recip &&
  (let reads := [(t.inp, t.inLen), (t.wts, t.packLen)] ++ (if t.n = 0 then [] else [(t.outl, t.olLen)])
   let o := (t.out, if t.deq then t.outLen else 0)
   let a := (t.accA, if t.usesAcc then t.accLen else 0)
   !overlaps o.1 o.2 a.1 a.2 && reads.all (fun x => !overlaps o.1 o.2 x.1 x.2 && !overlaps a.1 a.2 x.1 x.2))

/-! ## Elements -/

/-- The operands an operation has read. -/
structure TopData where
  inp : List Byte
  wts : List Byte
  acc : List Byte
  outl : List Byte
  deriving DecidableEq, Repr

namespace TopOp

variable (t : TopOp) (m : TopData)

/-- The raw input element (c, y, x) (R283). -/
def raw (c y x : Nat) : Nat :=
  let e := t.inSize
  let a :=
    if t.inLay = 0 then c * t.stride + y * t.pitch + x * e
    else if t.inLay = 1 then y * t.pitch + (x * t.ic + c) * e
    else if t.inLay = 2 then c / 16 * t.stride + y * t.pitch + (16 * x + c % 16) * e
    else c / 32 * t.stride + y * t.pitch + (32 * x + c % 32) * e
  field m.inp a e

/-- Whether a tap lies in the regrouped input, and where: row and column. -/
def tap (y x ky kx : Nat) : Option (Nat × Nat) :=
  let iy : Int := (y * t.sy + ky * t.dy : Nat) - (t.top : Int)
  let ix : Int := (x * t.sx + kx * t.dx : Nat) - (t.left : Int)
  if 0 ≤ iy && iy < t.hc && 0 ≤ ix && ix < t.wc then some (iy.toNat, ix.toNat) else none

/-- The raw element of a regrouped channel at a place of the regrouped input (R286). -/
def regrouped (c y x : Nat) : Nat :=
  let g := c / t.ic
  t.raw m (c % t.ic) (t.r * y + g / t.r) (t.r * x + g % t.r)

/-- The integer activation of a raw element: INT8, INT16, or an unsigned sensor element (R286). -/
def intAct (v : Nat) : Int :=
  if t.inTy = 0 then toSigned (8 * t.inSize) v
  else min 127 (max (-128) (((v / 2 ^ t.shift : Nat) : Int) - t.offset))

/-- The raw weight of output o, tap (ky, kx) and input c (R288). -/
def weight (o ky kx c : Nat) : Nat :=
  if t.oper = 2 then field m.wts (((o / 32 * t.kh + ky) * t.kw + kx) * 32 + o % 32) 1
  else
    let b := ((o / t.blk * t.kh + ky) * t.kw + kx) * t.nib + c / t.blk
    let oo := o % t.blk
    let i := c % t.blk
    if t.prec = 0 then field m.wts (b * 1024 + oo * 32 + i) 1
    else if t.prec = 1 then field m.wts (b * 512 + oo * 16 + i / 2) 1 / (if i % 2 = 0 then 1 else 16) % 16
    else field m.wts (b * 512 + (oo * 16 + i) * 2) 2

/-- The signed weight at an integer precision. -/
def intWeight (o ky kx c : Nat) : Int :=
  toSigned (if t.prec = 0 then 8 else if t.prec = 1 then 4 else 16) (t.weight m o ky kx c)

/-- The outlier index list. -/
def outliers : List Nat := (List.range t.n).map fun j => field m.wts (t.listOff + 2 * j) 2

/-- Whether the index list is ascending, distinct and below IC (R288). -/
def listOk : Bool :=
  let l := t.outliers m
  l.all (· < t.ic) && ((l.zip l.tail).all fun p => p.1 < p.2)

/-- The taps of the kernel in weight-pack order. -/
def taps : List (Nat × Nat) := (List.range t.kh).flatMap fun ky => (List.range t.kw).map fun kx => (ky, kx)

/-- The index of an accumulator (R293). -/
def accIdx (o y x : Nat) : Nat := (y * t.ow + x) * t.ocp + o

/-- The stored main accumulator. -/
def accMain (o y x : Nat) : Nat := field m.acc (t.accIdx o y x * 4) 4

/-- Offset of the 48-bit accumulators in the region. -/
def acc48Off : Nat := if t.isLane then 0 else t.oh * t.ow * t.ocp * 4

/-- The stored 48-bit accumulator. -/
def acc48 (o y x : Nat) : Int := toSigned 64 (field m.acc (t.acc48Off + t.accIdx o y x * 8) 8)

/-- The bias entry. -/
def bias (o : Nat) : Nat := field m.wts (t.biasOff + 4 * o) 4

/-- Saturate to n bits; the second part says that it did. -/
def sat (n : Nat) (v : Int) : Int × Bool :=
  if v < -(2 : Int) ^ (n - 1) then (-(2 : Int) ^ (n - 1), true)
  else if (2 : Int) ^ (n - 1) ≤ v then ((2 : Int) ^ (n - 1) - 1, true)
  else (v, false)

/-- The exact total of an integer accumulator (R289, R291): the bias or the stored value, and every product. Listed
outlier channels multiply by zero in the main lane. -/
def intTotal (o y x : Nat) : Int :=
  let skip := t.outliers m
  let start : Int :=
    if t.acc then (if t.isLane then t.acc48 m o y x else toSigned 32 (t.accMain m o y x)) else toSigned 32 (t.bias m o)
  let chans := if t.oper = 2 then [o] else List.range t.icc
  t.taps.foldl (fun a k =>
    match t.tap y x k.1 k.2 with
    | none => a
    | some (iy, ix) =>
      chans.foldl (fun a c =>
        if skip.contains c then a
        else a + t.intAct (t.regrouped m c iy ix) * t.intWeight m o k.1 k.2 c) a) start

/-- The exact total of an outlier accumulator (R291). -/
def outlTotal (o y x : Nat) : Int :=
  t.taps.foldl (fun a k =>
    match t.tap y x k.1 k.2 with
    | none => a
    | some (iy, ix) =>
      (List.range t.n).foldl (fun a j =>
        let v := field m.outl (j / 16 * (t.h * t.olPitch) + iy * t.olPitch + (16 * ix + j % 16) * 2) 2
        let b := ((o / 32 * t.kh + k.1) * t.kw + k.2) * t.njb + j / 16
        let w := field m.wts (t.owtOff + b * 1024 + (o % 32 * 16 + j % 16) * 2) 2
        a + toSigned 16 v * toSigned 16 w) a) (if t.acc then t.acc48 m o y x else 0)

/-- Pairwise sums of adjacent values, in `k` levels (R290). -/
def pairSum (k : Nat) (l : List Nat) : Nat :=
  match k with
  | 0 => l.headD 0
  | k + 1 => fadd (pairSum k (l.take (2 ^ k))) (pairSum k (l.drop (2 ^ k)))

/-- The FP32 accumulator at BF16 and FP16 (R290). -/
def fpTotal (o y x : Nat) : Nat :=
  let f : FpFmt := if t.prec = 2 then bf16 else fp16
  t.taps.foldl (fun a k =>
    (List.range t.nib).foldl (fun a ib =>
      let prods := (List.range 16).map fun i =>
        let c := ib * 16 + i
        if t.icc ≤ c then 0
        else
          let v := match t.tap y x k.1 k.2 with
            | some (iy, ix) => t.regrouped m c iy ix
            | none => 0
          fmul (f.widen v) (f.widen (t.weight m o k.1 k.2 c))
      fadd a (pairSum 4 prods)) a) (if t.acc then t.accMain m o y x else t.bias m o)

/-- One output position's accumulators: main (FP32 bits or integer), 48-bit, and the saturations of each. -/
structure Acc where
  main : Int
  a48 : Int
  s32 : Bool
  s48 : Bool
  deriving DecidableEq, Repr

/-- The accumulators of an output element. -/
def accOf (o y x : Nat) : Acc :=
  if t.isFp then { main := t.fpTotal m o y x, a48 := 0, s32 := false, s48 := false }
  else if t.isLane then
    let r := sat 48 (t.intTotal m o y x)
    { main := 0, a48 := r.1, s32 := false, s48 := r.2 }
  else
    let r := sat 32 (t.intTotal m o y x)
    let q := if t.n = 0 then (0, false) else sat 48 (t.outlTotal m o y x)
    { main := r.1, a48 := q.1, s32 := r.2, s48 := q.2 }

/-- The FP32 result of dequantization (R292 steps 1 to 3). -/
def dequant (o : Nat) (a : Acc) : Nat :=
  let s := fp16.widen (field m.wts (t.scaleOff + 2 * o) 2)
  let y := if t.isFp then fmul a.main.toNat s
    else if t.isLane then fmul (fp32.ofInt a.a48).1 s
    else fmul (fp32.ofInt a.main).1 s
  let y := if t.n = 0 then y
    else fadd y (fmul (fp32.ofInt a.a48).1 (fp16.widen (field m.wts (t.oscOff + 2 * o) 2)))
  if t.activ = 1 then (if f32IsNan y then fp32.nan else (f32Ext false y 0).1) else y

/-- The stored output value, and whether it saturated (R292 step 4). -/
def outValue (y : Nat) : Nat × Bool :=
  if t.outTy = 0 then
    let r := f32ToInt (-128) 127 (fmul y t.recip)
    (ofSigned 8 r.1, r.2)
  else if t.outTy = 1 then ((fp16.narrow y).1, false)
  else if t.outTy = 2 then ((bf16.narrow y).1, false)
  else (y, false)

/-- The offset of output element (channel c, row y, column x) (R283). -/
def outOff (c y x : Nat) : Nat :=
  c / t.outBlk * t.outStride + y * t.outPitch + (t.outBlk * x + c % t.outBlk) * t.outSize

/-- Every (output channel, row, column) of the operation. -/
def positions : List (Nat × Nat × Nat) :=
  (List.range t.oh).flatMap fun y => (List.range t.ow).flatMap fun x => (List.range t.oc).map fun o => (o, y, x)

/-- Compute cycles of the main lane and of the outlier lane (R296). -/
def cycles : Nat × Nat :=
  let p := t.oh * t.ow
  let taps := t.kh * t.kw
  let cd (a b : Nat) : Nat := (a + b - 1) / b
  let l := if t.prec = 1 then 64 else 32
  let icq := if t.icc ≤ 4 then 4 else if t.icc ≤ 8 then 8 else if t.icc ≤ 16 then 16 else 32
  let main :=
    if t.oper = 2 then cd t.ic 32 * taps * p
    else if !t.isInt then cd t.oc 16 * taps * cd t.icc 16 * p
    else if t.icc ≤ l / 2 then cd t.oc 32 * cd taps (l / icq) * p
    else cd t.oc 32 * taps * cd t.icc l * p
  (if t.isLane then 0 else main, if t.isLane then main else cd t.oc 16 * taps * cd t.n 16 * p)

end TopOp

/-! ## Running an operation -/

/-- A TOP from what its context holds of it. -/
def TensorOp.top (o : TensorOp) : TopOp :=
  { d := o.desc, prec := o.mode / 4 % 8, acc := bit o.mode 1, deq := bit o.mode 0 }

/-- The pieces that an operation reads, address and length: the sections of the weight pack, the rows of the input and of
the outlier activations, and the accumulators of its output channels. The gaps between them are not accessed. -/
def TopOp.readPieces (t : TopOp) : List (Nat × Nat) :=
  let pack := [(t.wts, t.wBytes), (t.wts + t.biasOff, 4 * t.ocp), (t.wts + t.scaleOff, 2 * t.ocp)] ++
    (if t.n = 0 then [] else
      [(t.wts + t.listOff, 2 * t.n), (t.wts + t.owtOff, t.ocp / t.blk * t.kh * t.kw * t.njb * 1024),
       (t.wts + t.oscOff, 2 * t.ocp)])
  let rows (base stride pitch len blocks : Nat) : List (Nat × Nat) :=
    (List.range blocks).flatMap fun b => (List.range t.h).map fun y => (base + b * stride + y * pitch, len)
  let accs := if !t.acc then [] else
    (List.range (t.oh * t.ow)).flatMap fun k =>
      (if t.isLane then [] else [(t.accA + k * t.ocp * 4, t.oc * 4)]) ++
      (if t.isLane then [(t.accA + k * t.ocp * 8, t.oc * 8)]
       else if t.n = 0 then [] else [(t.accA + t.oh * t.ow * t.ocp * 4 + k * t.ocp * 8, t.oc * 8)])
  pack ++ rows t.inp t.stride t.pitch t.rowBytes t.inBlocks ++
    (if t.n = 0 then [] else rows t.outl (t.h * t.olPitch) t.olPitch (t.w * 32) t.njb) ++ accs

/-- Read the operands, or the first fault among the pieces they are read from. -/
def State.topRead (s : State) (w : Who) (t : TopOp) : (Nat × Nat) ⊕ TopData :=
  match t.readPieces.findSome? fun p => (s.fetchBy w p.1 p.2).getLeft? with
  | some f => .inl f
  | none => .inr
    { inp := s.spanBy w t.inp t.inLen, wts := s.spanBy w t.wts t.packLen,
      acc := if t.acc then s.spanBy w t.accA t.accLen else [],
      outl := if t.n = 0 then [] else s.spanBy w t.outl t.olLen }

/-- The power-gated polders that an operation's operands or results lie in wake (R62, R253). -/
def State.topWakes (s : State) (w : Who) (t : TopOp) : State :=
  let r := [(t.wts, t.packLen), (t.inp, t.inLen), (t.outl, t.olLen), (t.accA, if t.usesAcc then t.accLen else 0),
    (t.out, if t.deq then t.outLen else 0)]
  r.foldl (fun s p => if p.2 = 0 then s else s.wakeReach w p.1 p.2) s

/-- Store several pieces, up to the first fault. -/
def State.putAll (s : State) (w : Who) (l : List (Nat × List Byte)) : Option (Nat × Nat) × State :=
  l.foldl (fun r p => if r.1.isSome then r else r.2.putBy w p.1 p.2) (none, s)

/-- The pieces that an operation stores: outputs with the zeros of padding channels, or accumulators (R284, R292, R293). -/
def TopOp.pieces (t : TopOp) (m : TopData) : List (Nat × List Byte) :=
  if t.deq then
    let vals := t.positions.map fun p =>
      let g := p.1 / t.oChans
      let v := (t.outValue (t.dequant m p.1 (t.accOf m p.1 p.2.1 p.2.2))).1
      (t.out + t.outOff (p.1 % t.oChans) (t.q * p.2.1 + g / t.q) (t.q * p.2.2 + g % t.q), leBytes t.outSize v)
    let pads := (List.range (t.outBlocks * t.outBlk - t.oChans)).flatMap fun k =>
      (List.range t.oRows).flatMap fun y => (List.range t.oCols).map fun x =>
        (t.out + t.outOff (t.oChans + k) y x, zeros t.outSize)
    vals ++ pads
  else
    t.positions.flatMap fun p =>
      let a := t.accOf m p.1 p.2.1 p.2.2
      let k := t.accIdx p.1 p.2.1 p.2.2
      (if t.isLane then [] else
        [(t.accA + k * 4, leBytes 4 (if t.isFp then a.main.toNat else ofSigned 32 a.main))]) ++
      (if t.isLane || t.n != 0 then [(t.accA + t.acc48Off + k * 8, leBytes 8 (ofSigned 64 a.a48))] else [])

/-- Run a TOP of an engine to its end: the deferred fault, if any, and the state with its counters (R289 to R295). -/
def State.runTop (s : State) (w : Who) (e : Nat) (o : TensorOp) : Option (Nat × Nat) × State :=
  let t := o.top
  let s := s.topWakes w t
  match s.topRead w t with
  | .inl (k, a) => (some (0x10 + k, a), s)
  | .inr m =>
    if !t.listOk m then (some (0x08, o.addr), s)
    else
      let accs := t.positions.map fun p => t.accOf m p.1 p.2.1 p.2.2
      let n32 := (accs.filter (·.s32)).length
      let n48 := (accs.filter (·.s48)).length
      let nOut := if !t.deq then 0
        else (t.positions.filter fun p => (t.outValue (t.dequant m p.1 (t.accOf m p.1 p.2.1 p.2.2))).2).length
      let r := s.putAll w (t.pieces m)
      match r.1 with
      | some (k, a) => (some (0x10 + k, a), r.2)
      | none =>
        let s := (s.unitOf e).foldl (fun s k =>
          (((s.bump 0x4010 1 k).bump 0x4010 2 k n32).bump 0x4010 3 k n48).bump 0x4010 4 k nOut) r.2
        (none, (s.perf e 0x06 t.cycles.1).perf e 0x07 t.cycles.2)

/-! ## TMOVE (R272) -/

/-- The rules of a TMOVE descriptor; bytes [63:32] are reserved, and ignored (R13). -/
def moveValid (d : List Byte) : Bool :=
  let len := field d 16 4
  field d 0 8 % 8 = 0 && field d 8 8 % 8 = 0 && len % 8 = 0 && 8 ≤ len && len ≤ 1048576 && 1 ≤ field d 20 4 &&
  field d 20 4 ≤ 65535 && field d 24 4 % 8 = 0 && field d 28 4 % 8 = 0

end Sys2Proof.Machine
end

