-- ==== Sys2Proof/Machine/ThreadCode.lean ====
section
/-! DEFINITION. The words of the thread instruction set (R257 to R276): encoding an instruction, and decoding a word, with
every reserved code and every field that must be 0 checked (R258). -/

namespace Sys2Proof.Machine

open Sys2Proof

/-! ## Fields -/

/-- Bits [lo+n-1:lo] of a word as a register number. -/
def fld (w lo : Nat) (n : Nat) (h : 0 < n) : Fin n := ⟨w / 2 ^ lo % n, Nat.mod_lt _ h⟩

/-- A scalar register field. -/
def xfld (w lo : Nat) : Fin 32 := fld w lo 32 (by decide)

/-- A vector register field. -/
def vfld (w lo : Nat) : Fin 8 := fld w lo 8 (by decide)

/-- A predicate register field. -/
def pfld (w lo : Nat) : Fin 4 := fld w lo 4 (by decide)

/-- The predicate operand: register at `lo`, enable at `en`. -/
def prfld (w lo en : Nat) : Option (Fin 4) := if w.testBit en then some (pfld w lo) else none

/-- The value of a Bool bit. -/
def b2n (b : Bool) : Nat := if b then 1 else 0

/-- The bits of a predicate operand. -/
def prBits (pr : Option (Fin 4)) (lo en : Nat) : Nat :=
  match pr with
  | some p => p.val * 2 ^ lo + 2 ^ en
  | none => 0

/-- Scope codes of R264; 0b11 is reserved. -/
def scopeOf (v : Nat) : Option Scope :=
  match v with
  | 0 => some .engine
  | 1 => some .device
  | 2 => some .system
  | _ => none

/-- The code of a scope. -/
def scopeCode : Scope → Nat
  | .engine => 0
  | .device => 1
  | .system => 2

/-- Order codes of R264. -/
def orderOf (v : Nat) : Order :=
  match v with
  | 0 => .relaxed
  | 1 => .acquire
  | 2 => .release
  | _ => .acqRel

/-- The code of an order. -/
def orderCode : Order → Nat
  | .relaxed => 0
  | .acquire => 1
  | .release => 2
  | .acqRel => 3

/-- Element codes of R269. -/
def elemOf (v : Nat) : Elem :=
  match v with
  | 0 => .w32
  | 1 => .w16
  | 2 => .s8
  | _ => .u8

/-- The code of an element. -/
def elemCode : Elem → Nat
  | .w32 => 0
  | .w16 => 1
  | .s8 => 2
  | .u8 => 3

/-- Precision codes of R271. -/
def precOf (v : Nat) : Option Precision :=
  match v with
  | 0 => some .int8
  | 1 => some .int4
  | 2 => some .bf16
  | 3 => some .fp16
  | 4 => some .int16
  | _ => none

/-- The code of a precision. -/
def precCode : Precision → Nat
  | .int8 => 0
  | .int4 => 1
  | .bf16 => 2
  | .fp16 => 3
  | .int16 => 4

/-! ## Encoding -/

/-- RRR (R259). -/
def encRrr (f : Nat) (rd rs1 rs2 : Fin 32) (w : Bool) : Nat :=
  f * 2 ^ 22 + rd.val * 2 ^ 17 + rs1.val * 2 ^ 12 + rs2.val * 2 ^ 7 + b2n w * 2 ^ 6

/-- RRI (R259). -/
def encRri (f : Nat) (rd rs1 : Fin 32) (imm : Nat) : Nat :=
  0x10000000 + f * 2 ^ 24 + rd.val * 2 ^ 19 + rs1.val * 2 ^ 14 + imm

/-- Branch (R262). -/
def encBranch (c : Nat) (rs1 rs2 : Fin 32) (off : BitVec 15) : Nat :=
  0x30000000 + c * 2 ^ 25 + rs1.val * 2 ^ 20 + rs2.val * 2 ^ 15 + off.toNat

/-- Atomic (R264). -/
def encAmo (f : Nat) (dbl : Bool) (ord : Order) (sc : Scope) (rd rs1 rs2 : Fin 32) : Nat :=
  0x60000000 + f * 2 ^ 24 + (2 + b2n dbl) * 2 ^ 22 + orderCode ord * 2 ^ 20 + scopeCode sc * 2 ^ 18 +
    rd.val * 2 ^ 13 + rs1.val * 2 ^ 8 + rs2.val * 2 ^ 3

/-- Vector operate (R266): vd, vs1, vs2, rs, type, form and predicate. -/
def encVec (f vd vs1 vs2 rs ty form : Nat) (pr : Option (Fin 4)) : Nat :=
  0x80000000 + f * 2 ^ 22 + vd * 2 ^ 19 + vs1 * 2 ^ 16 + vs2 * 2 ^ 13 + rs * 2 ^ 8 + ty * 2 ^ 6 + form * 2 ^ 5 +
    prBits pr 3 2

/-- Vector operate with a second operand in either form. -/
def encVecSrc (f vd vs1 ty : Nat) (src : VSrc) (pr : Option (Fin 4)) : Nat :=
  match src with
  | .vv v => encVec f vd vs1 v.val 0 ty 0 pr
  | .vs r => encVec f vd vs1 0 r.val ty 1 pr

/-- Vector memory (R269). -/
def encVmem (op : Nat) (el : Elem) (v : Fin 8) (rs1 rs2 : Nat) (pr : Option (Fin 4)) : Nat :=
  0x90000000 + op * 2 ^ 26 + elemCode el * 2 ^ 24 + v.val * 2 ^ 21 + rs1 * 2 ^ 16 + rs2 * 2 ^ 11 + prBits pr 9 8

/-- Vector reduce and permute (R270). -/
def encVred (f vd vs1 vs2 rd ty : Nat) (pr : Option (Fin 4)) : Nat :=
  0xA0000000 + f * 2 ^ 24 + vd * 2 ^ 21 + vs1 * 2 ^ 18 + vs2 * 2 ^ 15 + rd * 2 ^ 10 + ty * 2 ^ 8 + prBits pr 6 5

/-- System (R275). -/
def encSys (f rd rs1 imm : Nat) : Nat := 0xD0000000 + f * 2 ^ 24 + rd * 2 ^ 19 + rs1 * 2 ^ 14 + imm

/-- The hart that executes an instruction of the thread instruction set. -/
def threadHart : Instr → Option Hart
  | .add h _ _ _ _ => some h
  | .sub h _ _ _ _ => some h
  | .andR h _ _ _ _ => some h
  | .orR h _ _ _ _ => some h
  | .xor h _ _ _ _ => some h
  | .sll h _ _ _ _ => some h
  | .srl h _ _ _ _ => some h
  | .sra h _ _ _ _ => some h
  | .slt h _ _ _ _ => some h
  | .sltu h _ _ _ _ => some h
  | .minR h _ _ _ _ => some h
  | .maxR h _ _ _ _ => some h
  | .minu h _ _ _ _ => some h
  | .maxu h _ _ _ _ => some h
  | .mul h _ _ _ _ => some h
  | .div h _ _ _ _ => some h
  | .divu h _ _ _ _ => some h
  | .rem h _ _ _ _ => some h
  | .remu h _ _ _ _ => some h
  | .mulh h _ _ _ => some h
  | .mulhu h _ _ _ => some h
  | .clz h _ _ _ => some h
  | .ctz h _ _ _ => some h
  | .popc h _ _ _ => some h
  | .addi h _ _ _ => some h
  | .andi h _ _ _ => some h
  | .ori h _ _ _ => some h
  | .xori h _ _ _ => some h
  | .slti h _ _ _ => some h
  | .sltiu h _ _ _ => some h
  | .addiw h _ _ _ => some h
  | .slli h _ _ _ => some h
  | .srli h _ _ _ => some h
  | .srai h _ _ _ => some h
  | .li h _ _ => some h
  | .lih h _ _ => some h
  | .lpc h _ _ => some h
  | .beq h _ _ _ => some h
  | .bne h _ _ _ => some h
  | .blt h _ _ _ => some h
  | .bge h _ _ _ => some h
  | .bltu h _ _ _ => some h
  | .bgeu h _ _ _ => some h
  | .swap h _ _ _ _ _ _ => some h
  | .amoAdd h _ _ _ _ _ _ => some h
  | .amoAnd h _ _ _ _ _ _ => some h
  | .amoOr h _ _ _ _ _ _ => some h
  | .amoXor h _ _ _ _ _ _ => some h
  | .amoMin h _ _ _ _ _ _ => some h
  | .amoMax h _ _ _ _ _ _ => some h
  | .amoMinu h _ _ _ _ _ _ => some h
  | .amoMaxu h _ _ _ _ _ _ => some h
  | .cas h _ _ _ _ _ _ => some h
  | .vadd h _ _ _ _ => some h
  | .vsub h _ _ _ _ => some h
  | .vmul h _ _ _ _ => some h
  | .vmulh h _ _ _ _ => some h
  | .vand h _ _ _ _ => some h
  | .vor h _ _ _ _ => some h
  | .vxor h _ _ _ _ => some h
  | .vsll h _ _ _ _ => some h
  | .vsrl h _ _ _ _ => some h
  | .vsra h _ _ _ _ => some h
  | .vmin h _ _ _ _ => some h
  | .vmax h _ _ _ _ => some h
  | .vadds h _ _ _ _ => some h
  | .vsubs h _ _ _ _ => some h
  | .vfadd h _ _ _ _ => some h
  | .vfsub h _ _ _ _ => some h
  | .vfmul h _ _ _ _ => some h
  | .vfma h _ _ _ _ => some h
  | .vfmin h _ _ _ _ => some h
  | .vfmax h _ _ _ _ => some h
  | .vceq h _ _ _ _ _ => some h
  | .vclt h _ _ _ _ _ => some h
  | .vcle h _ _ _ _ _ => some h
  | .vcvtif h _ _ _ => some h
  | .vcvtfi h _ _ _ => some h
  | .vcvtfh h _ _ _ => some h
  | .vcvtfb h _ _ _ => some h
  | .vrsum h _ _ _ _ => some h
  | .vrmax h _ _ _ _ => some h
  | .vrmin h _ _ _ _ => some h
  | .vrargmax h _ _ _ _ => some h
  | .j h _ => some h
  | .jal h _ => some h
  | .jr h _ _ => some h
  | .load h _ _ _ _ _ _ => some h
  | .store h _ _ _ _ _ => some h
  | .lda h _ _ _ _ _ => some h
  | .sta h _ _ _ _ _ => some h
  | .fence h _ => some h
  | .fenceI h => some h
  | .waitt h _ => some h
  | .bar h _ _ => some h
  | .yield h => some h
  | .vabs h _ _ _ => some h
  | .vrshr h _ _ _ _ => some h
  | .vcltu h _ _ _ _ => some h
  | .vsel h _ _ _ _ => some h
  | .vbcast h _ _ _ => some h
  | .vload h _ _ _ _ => some h
  | .vstore h _ _ _ _ => some h
  | .vloadStrided h _ _ _ _ _ => some h
  | .vstoreStrided h _ _ _ _ _ => some h
  | .vslideup h _ _ _ _ => some h
  | .vslidedown h _ _ _ _ => some h
  | .vperm h _ _ _ _ => some h
  | .vcompress h _ _ _ _ => some h
  | .vfirst h _ _ => some h
  | .top h _ _ _ _ _ => some h
  | .tmove h _ _ => some h
  | .submit h _ _ _ => some h
  | .cancel h _ _ _ => some h
  | .jobend h _ => some h
  | .tsr h _ _ => some h
  | .tsw h _ _ => some h
  | .trap h _ => some h
  | .brk h => some h
  | .wfe h => some h
  | .eret h => some h
  | _ => none

/-- The words of an instruction of the thread instruction set: the first, and the second of a long immediate. Only the
canonical form: fields that an instruction does not use are 0. -/
def encodeThread : Instr → Option (Nat × Option Nat)
  | .add _ rd rs1 rs2 w => some (encRrr 0x00 rd rs1 rs2 w, none)
  | .sub _ rd rs1 rs2 w => some (encRrr 0x01 rd rs1 rs2 w, none)
  | .andR _ rd rs1 rs2 w => some (encRrr 0x02 rd rs1 rs2 w, none)
  | .orR _ rd rs1 rs2 w => some (encRrr 0x03 rd rs1 rs2 w, none)
  | .xor _ rd rs1 rs2 w => some (encRrr 0x04 rd rs1 rs2 w, none)
  | .sll _ rd rs1 rs2 w => some (encRrr 0x05 rd rs1 rs2 w, none)
  | .srl _ rd rs1 rs2 w => some (encRrr 0x06 rd rs1 rs2 w, none)
  | .sra _ rd rs1 rs2 w => some (encRrr 0x07 rd rs1 rs2 w, none)
  | .slt _ rd rs1 rs2 w => some (encRrr 0x08 rd rs1 rs2 w, none)
  | .sltu _ rd rs1 rs2 w => some (encRrr 0x09 rd rs1 rs2 w, none)
  | .minR _ rd rs1 rs2 w => some (encRrr 0x0A rd rs1 rs2 w, none)
  | .maxR _ rd rs1 rs2 w => some (encRrr 0x0B rd rs1 rs2 w, none)
  | .minu _ rd rs1 rs2 w => some (encRrr 0x0C rd rs1 rs2 w, none)
  | .maxu _ rd rs1 rs2 w => some (encRrr 0x0D rd rs1 rs2 w, none)
  | .mul _ rd rs1 rs2 w => some (encRrr 0x10 rd rs1 rs2 w, none)
  | .div _ rd rs1 rs2 w => some (encRrr 0x14 rd rs1 rs2 w, none)
  | .divu _ rd rs1 rs2 w => some (encRrr 0x15 rd rs1 rs2 w, none)
  | .rem _ rd rs1 rs2 w => some (encRrr 0x16 rd rs1 rs2 w, none)
  | .remu _ rd rs1 rs2 w => some (encRrr 0x17 rd rs1 rs2 w, none)
  | .mulh _ rd rs1 rs2 => some (encRrr 0x11 rd rs1 rs2 false, none)
  | .mulhu _ rd rs1 rs2 => some (encRrr 0x12 rd rs1 rs2 false, none)
  | .clz _ rd rs1 w => some (encRrr 0x18 rd rs1 0 w, none)
  | .ctz _ rd rs1 w => some (encRrr 0x19 rd rs1 0 w, none)
  | .popc _ rd rs1 w => some (encRrr 0x1A rd rs1 0 w, none)
  | .addi _ rd rs1 imm => some (encRri 0 rd rs1 imm.toNat, none)
  | .andi _ rd rs1 imm => some (encRri 1 rd rs1 imm.toNat, none)
  | .ori _ rd rs1 imm => some (encRri 2 rd rs1 imm.toNat, none)
  | .xori _ rd rs1 imm => some (encRri 3 rd rs1 imm.toNat, none)
  | .slti _ rd rs1 imm => some (encRri 7 rd rs1 imm.toNat, none)
  | .sltiu _ rd rs1 imm => some (encRri 8 rd rs1 imm.toNat, none)
  | .addiw _ rd rs1 imm => some (encRri 9 rd rs1 imm.toNat, none)
  | .slli _ rd rs1 sh => some (encRri 4 rd rs1 sh.toNat, none)
  | .srli _ rd rs1 sh => some (encRri 5 rd rs1 sh.toNat, none)
  | .srai _ rd rs1 sh => some (encRri 6 rd rs1 sh.toNat, none)
  | .li _ rd imm => some (0x20000000 + 0 * 2 ^ 26 + rd.val * 2 ^ 21, some imm.toNat)
  | .lih _ rd imm => some (0x20000000 + 1 * 2 ^ 26 + rd.val * 2 ^ 21, some imm.toNat)
  | .lpc _ rd imm => some (0x20000000 + 2 * 2 ^ 26 + rd.val * 2 ^ 21, some imm.toNat)
  | .beq _ rs1 rs2 off => some (encBranch 0 rs1 rs2 off, none)
  | .bne _ rs1 rs2 off => some (encBranch 1 rs1 rs2 off, none)
  | .blt _ rs1 rs2 off => some (encBranch 2 rs1 rs2 off, none)
  | .bge _ rs1 rs2 off => some (encBranch 3 rs1 rs2 off, none)
  | .bltu _ rs1 rs2 off => some (encBranch 4 rs1 rs2 off, none)
  | .bgeu _ rs1 rs2 off => some (encBranch 5 rs1 rs2 off, none)
  | .j _ off => some (0x40000000 + off.toNat, none)
  | .jal _ off => some (0x44000000 + off.toNat, none)
  | .jr _ rd rs1 => some (0x48000000 + rd.val * 2 ^ 21 + rs1.val * 2 ^ 16, none)
  | .load _ size sext rd rs1 imm _ =>
    some (0x50000000 + size.val * 2 ^ 25 + b2n sext * 2 ^ 24 + rd.val * 2 ^ 19 + rs1.val * 2 ^ 14 + imm.toNat, none)
  | .store _ size rs2 rs1 imm _ =>
    some (0x58000000 + size.val * 2 ^ 25 + rs2.val * 2 ^ 19 + rs1.val * 2 ^ 14 + imm.toNat, none)
  | .swap _ dbl ord sc rd rs1 rs2 => some (encAmo 0 dbl ord sc rd rs1 rs2, none)
  | .amoAdd _ dbl ord sc rd rs1 rs2 => some (encAmo 1 dbl ord sc rd rs1 rs2, none)
  | .amoAnd _ dbl ord sc rd rs1 rs2 => some (encAmo 2 dbl ord sc rd rs1 rs2, none)
  | .amoOr _ dbl ord sc rd rs1 rs2 => some (encAmo 3 dbl ord sc rd rs1 rs2, none)
  | .amoXor _ dbl ord sc rd rs1 rs2 => some (encAmo 4 dbl ord sc rd rs1 rs2, none)
  | .amoMin _ dbl ord sc rd rs1 rs2 => some (encAmo 5 dbl ord sc rd rs1 rs2, none)
  | .amoMax _ dbl ord sc rd rs1 rs2 => some (encAmo 6 dbl ord sc rd rs1 rs2, none)
  | .amoMinu _ dbl ord sc rd rs1 rs2 => some (encAmo 7 dbl ord sc rd rs1 rs2, none)
  | .amoMaxu _ dbl ord sc rd rs1 rs2 => some (encAmo 8 dbl ord sc rd rs1 rs2, none)
  | .cas _ dbl ord sc rd rs1 rs2 => some (encAmo 9 dbl ord sc rd rs1 rs2, none)
  | .lda _ dbl ord sc rd rs1 => some (encAmo 10 dbl ord sc rd rs1 0, none)
  | .sta _ dbl ord sc rs1 rs2 => some (encAmo 11 dbl ord sc 0 rs1 rs2, none)
  | .fence _ sc => some (0x70000000 + scopeCode sc * 2 ^ 22, none)
  | .fenceI _ => some (0x71000000, none)
  | .waitt _ mask => some (0x72000000 + mask.toNat, none)
  | .bar _ id c => some (0x73000000 + id.val * 2 ^ 8 + c.toNat, none)
  | .yield _ => some (0x74000000, none)
  | .vadd _ vd vs1 src pr => some (encVecSrc 0x00 vd.val vs1.val 0 src pr, none)
  | .vsub _ vd vs1 src pr => some (encVecSrc 0x01 vd.val vs1.val 0 src pr, none)
  | .vmul _ vd vs1 src pr => some (encVecSrc 0x02 vd.val vs1.val 0 src pr, none)
  | .vmulh _ vd vs1 src pr => some (encVecSrc 0x03 vd.val vs1.val 0 src pr, none)
  | .vand _ vd vs1 src pr => some (encVecSrc 0x04 vd.val vs1.val 0 src pr, none)
  | .vor _ vd vs1 src pr => some (encVecSrc 0x05 vd.val vs1.val 0 src pr, none)
  | .vxor _ vd vs1 src pr => some (encVecSrc 0x06 vd.val vs1.val 0 src pr, none)
  | .vsll _ vd vs1 src pr => some (encVecSrc 0x07 vd.val vs1.val 0 src pr, none)
  | .vsrl _ vd vs1 src pr => some (encVecSrc 0x08 vd.val vs1.val 0 src pr, none)
  | .vsra _ vd vs1 src pr => some (encVecSrc 0x09 vd.val vs1.val 0 src pr, none)
  | .vmin _ vd vs1 src pr => some (encVecSrc 0x0A vd.val vs1.val 0 src pr, none)
  | .vmax _ vd vs1 src pr => some (encVecSrc 0x0B vd.val vs1.val 0 src pr, none)
  | .vadds _ vd vs1 src pr => some (encVecSrc 0x0D vd.val vs1.val 0 src pr, none)
  | .vsubs _ vd vs1 src pr => some (encVecSrc 0x0E vd.val vs1.val 0 src pr, none)
  | .vfadd _ vd vs1 src pr => some (encVecSrc 0x10 vd.val vs1.val 1 src pr, none)
  | .vfsub _ vd vs1 src pr => some (encVecSrc 0x11 vd.val vs1.val 1 src pr, none)
  | .vfmul _ vd vs1 src pr => some (encVecSrc 0x12 vd.val vs1.val 1 src pr, none)
  | .vfma _ vd vs1 src pr => some (encVecSrc 0x13 vd.val vs1.val 1 src pr, none)
  | .vfmin _ vd vs1 src pr => some (encVecSrc 0x14 vd.val vs1.val 1 src pr, none)
  | .vfmax _ vd vs1 src pr => some (encVecSrc 0x15 vd.val vs1.val 1 src pr, none)
  | .vceq _ fp pd vs1 src pr => some (encVecSrc 0x20 pd.val vs1.val (b2n fp) src pr, none)
  | .vclt _ fp pd vs1 src pr => some (encVecSrc 0x21 pd.val vs1.val (b2n fp) src pr, none)
  | .vcle _ fp pd vs1 src pr => some (encVecSrc 0x22 pd.val vs1.val (b2n fp) src pr, none)
  | .vabs _ vd vs1 pr => some (encVec 0x0C vd.val vs1.val 0 0 0 0 pr, none)
  | .vrshr _ vd vs1 rs pr => some (encVec 0x0F vd.val vs1.val 0 rs.val 0 0 pr, none)
  | .vcltu _ pd vs1 src pr => some (encVecSrc 0x23 pd.val vs1.val 0 src pr, none)
  | .vsel _ vd vs1 src pr => some (encVecSrc 0x28 vd.val vs1.val 0 src (some pr), none)
  | .vbcast _ vd rs pr => some (encVec 0x29 vd.val 0 0 rs.val 0 1 pr, none)
  | .vcvtif _ vd vs1 pr => some (encVec 0x2C vd.val vs1.val 0 0 0 0 pr, none)
  | .vcvtfi _ vd vs1 pr => some (encVec 0x2D vd.val vs1.val 0 0 0 0 pr, none)
  | .vcvtfh _ vd vs1 pr => some (encVec 0x2E vd.val vs1.val 0 0 0 0 pr, none)
  | .vcvtfb _ vd vs1 pr => some (encVec 0x2F vd.val vs1.val 0 0 0 0 pr, none)
  | .vload _ el vd rs1 pr => some (encVmem 0 el vd rs1.val 0 pr, none)
  | .vstore _ el vs rs1 pr => some (encVmem 1 el vs rs1.val 0 pr, none)
  | .vloadStrided _ el vd rs1 rs2 pr => some (encVmem 2 el vd rs1.val rs2.val pr, none)
  | .vstoreStrided _ el vs rs1 rs2 pr => some (encVmem 3 el vs rs1.val rs2.val pr, none)
  | .vrsum _ fp rd vs1 pr => some (encVred 0 0 vs1.val 0 rd.val (b2n fp) pr, none)
  | .vrmax _ fp rd vs1 pr => some (encVred 1 0 vs1.val 0 rd.val (b2n fp) pr, none)
  | .vrmin _ fp rd vs1 pr => some (encVred 2 0 vs1.val 0 rd.val (b2n fp) pr, none)
  | .vrargmax _ fp rd vs1 pr => some (encVred 3 0 vs1.val 0 rd.val (b2n fp) pr, none)
  | .vslideup _ vd vs1 rs pr => some (encVred 4 vd.val vs1.val 0 rs.val 0 pr, none)
  | .vslidedown _ vd vs1 rs pr => some (encVred 5 vd.val vs1.val 0 rs.val 0 pr, none)
  | .vperm _ vd vs1 vs2 pr => some (encVred 6 vd.val vs1.val vs2.val 0 0 pr, none)
  | .vcompress _ vd vs1 rd pr => some (encVred 7 vd.val vs1.val 0 rd.val 0 (some pr), none)
  | .vfirst _ rd vs1 => some (encVred 8 0 vs1.val 0 rd.val 0 none, none)
  | .top _ rd rs1 prec acc deq =>
    some (0xB0000000 + rd.val * 2 ^ 19 + rs1.val * 2 ^ 14 + precCode prec * 2 ^ 11 + b2n acc * 2 ^ 10 +
      b2n deq * 2 ^ 9, none)
  | .tmove _ rd rs1 => some (0xB1000000 + rd.val * 2 ^ 19 + rs1.val * 2 ^ 14, none)
  | .submit _ rd rs1 rs2 => some (0xC0000000 + rd.val * 2 ^ 19 + rs1.val * 2 ^ 14 + rs2.val * 2 ^ 9, none)
  | .cancel _ rd rs1 rs2 => some (0xC1000000 + rd.val * 2 ^ 19 + rs1.val * 2 ^ 14 + rs2.val * 2 ^ 9, none)
  | .jobend _ rs1 => some (0xC2000000 + rs1.val * 2 ^ 14, none)
  | .tsr _ rd n => some (encSys 0 rd.val 0 n.toNat, none)
  | .tsw _ rs1 n => some (encSys 1 0 rs1.val n.toNat, none)
  | .trap _ imm => some (encSys 2 0 0 imm.toNat, none)
  | .brk _ => some (encSys 3 0 0 0, none)
  | .wfe _ => some (encSys 4 0 0 0, none)
  | .eret _ => some (encSys 5 0 0 0, none)
  | _ => none

/-- The first word of an instruction, for EADDR of an illegal instruction (R278). -/
def firstWord (i : Instr) : Nat :=
  match encodeThread i with
  | some p => p.1
  | none => 0

/-! ## Decoding -/

/-- Class 0x0 (R259). -/
def decRrr (h : Hart) (w : Nat) : Option Instr :=
  let rd := xfld w 17
  let rs1 := xfld w 12
  let rs2 := xfld w 7
  let W := w.testBit 6
  if w % 2 ^ 6 != 0 || w = 0 then none
  else
    match w / 2 ^ 22 % 2 ^ 6 with
    | 0x00 => some (.add h rd rs1 rs2 W)
    | 0x01 => some (.sub h rd rs1 rs2 W)
    | 0x02 => some (.andR h rd rs1 rs2 W)
    | 0x03 => some (.orR h rd rs1 rs2 W)
    | 0x04 => some (.xor h rd rs1 rs2 W)
    | 0x05 => some (.sll h rd rs1 rs2 W)
    | 0x06 => some (.srl h rd rs1 rs2 W)
    | 0x07 => some (.sra h rd rs1 rs2 W)
    | 0x08 => some (.slt h rd rs1 rs2 W)
    | 0x09 => some (.sltu h rd rs1 rs2 W)
    | 0x0A => some (.minR h rd rs1 rs2 W)
    | 0x0B => some (.maxR h rd rs1 rs2 W)
    | 0x0C => some (.minu h rd rs1 rs2 W)
    | 0x0D => some (.maxu h rd rs1 rs2 W)
    | 0x10 => some (.mul h rd rs1 rs2 W)
    | 0x14 => some (.div h rd rs1 rs2 W)
    | 0x15 => some (.divu h rd rs1 rs2 W)
    | 0x16 => some (.rem h rd rs1 rs2 W)
    | 0x17 => some (.remu h rd rs1 rs2 W)
    | 0x11 => if W then none else some (.mulh h rd rs1 rs2)
    | 0x12 => if W then none else some (.mulhu h rd rs1 rs2)
    | 0x18 => if rs2 != 0 then none else some (.clz h rd rs1 W)
    | 0x19 => if rs2 != 0 then none else some (.ctz h rd rs1 W)
    | 0x1A => if rs2 != 0 then none else some (.popc h rd rs1 W)
    | _ => none

/-- Class 0x1 (R259, R260). -/
def decRri (h : Hart) (w : Nat) : Option Instr :=
  let rd := xfld w 19
  let rs1 := xfld w 14
  let imm := BitVec.ofNat 14 w
  let sh := BitVec.ofNat 6 w
  match w / 2 ^ 24 % 2 ^ 4 with
  | 0 => some (.addi h rd rs1 imm)
  | 1 => some (.andi h rd rs1 imm)
  | 2 => some (.ori h rd rs1 imm)
  | 3 => some (.xori h rd rs1 imm)
  | 7 => some (.slti h rd rs1 imm)
  | 8 => some (.sltiu h rd rs1 imm)
  | 9 => some (.addiw h rd rs1 imm)
  | 4 => if w / 2 ^ 6 % 2 ^ 8 != 0 then none else some (.slli h rd rs1 sh)
  | 5 => if w / 2 ^ 6 % 2 ^ 8 != 0 then none else some (.srli h rd rs1 sh)
  | 6 => if w / 2 ^ 6 % 2 ^ 8 != 0 then none else some (.srai h rd rs1 sh)
  | _ => none

/-- Class 0x2 (R261). -/
def decLong (h : Hart) (w w2 : Nat) : Option Instr :=
  let rd := xfld w 21
  let imm := BitVec.ofNat 32 w2
  if w % 2 ^ 21 != 0 then none
  else
    match w / 2 ^ 26 % 2 ^ 2 with
    | 0 => some (.li h rd imm)
    | 1 => some (.lih h rd imm)
    | 2 => some (.lpc h rd imm)
    | _ => none

/-- Class 0x3 (R262). -/
def decBranch (h : Hart) (w : Nat) : Option Instr :=
  let rs1 := xfld w 20
  let rs2 := xfld w 15
  let off := BitVec.ofNat 15 w
  match w / 2 ^ 25 % 2 ^ 3 with
  | 0 => some (.beq h rs1 rs2 off)
  | 1 => some (.bne h rs1 rs2 off)
  | 2 => some (.blt h rs1 rs2 off)
  | 3 => some (.bge h rs1 rs2 off)
  | 4 => some (.bltu h rs1 rs2 off)
  | 5 => some (.bgeu h rs1 rs2 off)
  | _ => none

/-- Class 0x4 (R262). -/
def decJump (h : Hart) (w : Nat) : Option Instr :=
  match w / 2 ^ 26 % 2 ^ 2 with
  | 0 => some (.j h (BitVec.ofNat 26 w))
  | 1 => some (.jal h (BitVec.ofNat 26 w))
  | 2 => if w % 2 ^ 16 != 0 then none else some (.jr h (xfld w 21) (xfld w 16))
  | _ => none

/-- Class 0x5 (R263). -/
def decMem (h : Hart) (w : Nat) : Option Instr :=
  let size := pfld w 25
  let sx := w.testBit 24
  let r := xfld w 19
  let rs1 := xfld w 14
  let imm := BitVec.ofNat 14 w
  if w.testBit 27 then (if sx then none else some (.store h size r rs1 imm true))
  else if sx && size = 3 then none
  else some (.load h size sx r rs1 imm .clean)

/-- Class 0x6 (R264). -/
def decAmo (h : Hart) (w : Nat) : Option Instr :=
  let dbl := w.testBit 22
  let ord := orderOf (w / 2 ^ 20 % 4)
  let rd := xfld w 13
  let rs1 := xfld w 8
  let rs2 := xfld w 3
  if w % 8 != 0 || !w.testBit 23 then none
  else
    match scopeOf (w / 2 ^ 18 % 4) with
    | none => none
    | some sc =>
      match w / 2 ^ 24 % 2 ^ 4 with
      | 0 => some (.swap h dbl ord sc rd rs1 rs2)
      | 1 => some (.amoAdd h dbl ord sc rd rs1 rs2)
      | 2 => some (.amoAnd h dbl ord sc rd rs1 rs2)
      | 3 => some (.amoOr h dbl ord sc rd rs1 rs2)
      | 4 => some (.amoXor h dbl ord sc rd rs1 rs2)
      | 5 => some (.amoMin h dbl ord sc rd rs1 rs2)
      | 6 => some (.amoMax h dbl ord sc rd rs1 rs2)
      | 7 => some (.amoMinu h dbl ord sc rd rs1 rs2)
      | 8 => some (.amoMaxu h dbl ord sc rd rs1 rs2)
      | 9 => some (.cas h dbl ord sc rd rs1 rs2)
      | 10 => if rs2 != 0 then none else some (.lda h dbl ord sc rd rs1)
      | 11 => if rd != 0 then none else some (.sta h dbl ord sc rs1 rs2)
      | _ => none

/-- Class 0x7 (R265). -/
def decSync (h : Hart) (w : Nat) : Option Instr :=
  let sc := w / 2 ^ 22 % 4
  let op := w % 2 ^ 12
  if w / 2 ^ 12 % 2 ^ 10 != 0 then none
  else
    match w / 2 ^ 24 % 2 ^ 4 with
    | 0 => if op != 0 then none else (scopeOf sc).map (Instr.fence h)
    | 1 => if op != 0 || sc != 0 then none else some (.fenceI h)
    | 2 => if op / 2 ^ 8 != 0 || sc != 0 then none else some (.waitt h (BitVec.ofNat 8 op))
    | 3 => if w.testBit 7 || sc != 0 then none
           else some (.bar h (fld w 8 16 (by decide)) (BitVec.ofNat 7 op))
    | 4 => if op != 0 || sc != 0 then none else some (.yield h)
    | _ => none

/-- Class 0x8 (R266, R267). -/
def decVec (h : Hart) (w : Nat) : Option Instr :=
  let f := w / 2 ^ 22 % 2 ^ 6
  let vd := vfld w 19
  let vs1 := vfld w 16
  let vs2 := vfld w 13
  let rs := xfld w 8
  let ty := w / 2 ^ 6 % 4
  let vsForm := w.testBit 5
  let pr := prfld w 3 2
  let src : VSrc := if vsForm then .vs rs else .vv vs2
  let int (i : Instr) : Option Instr := if ty = 0 then some i else none
  let fp (i : Instr) : Option Instr := if ty = 1 then some i else none
  if w % 4 != 0 || (vsForm && vs2 != 0) || (!vsForm && rs != 0 && f != 0x0F) || 2 ≤ ty then none
  else
    match f with
    | 0x00 => int (.vadd h vd vs1 src pr)
    | 0x01 => int (.vsub h vd vs1 src pr)
    | 0x02 => int (.vmul h vd vs1 src pr)
    | 0x03 => int (.vmulh h vd vs1 src pr)
    | 0x04 => int (.vand h vd vs1 src pr)
    | 0x05 => int (.vor h vd vs1 src pr)
    | 0x06 => int (.vxor h vd vs1 src pr)
    | 0x07 => int (.vsll h vd vs1 src pr)
    | 0x08 => int (.vsrl h vd vs1 src pr)
    | 0x09 => int (.vsra h vd vs1 src pr)
    | 0x0A => int (.vmin h vd vs1 src pr)
    | 0x0B => int (.vmax h vd vs1 src pr)
    | 0x0D => int (.vadds h vd vs1 src pr)
    | 0x0E => int (.vsubs h vd vs1 src pr)
    | 0x0C => if vs2 != 0 then none else int (.vabs h vd vs1 pr)
    | 0x0F => if vsForm then none else int (.vrshr h vd vs1 rs pr)
    | 0x10 => fp (.vfadd h vd vs1 src pr)
    | 0x11 => fp (.vfsub h vd vs1 src pr)
    | 0x12 => fp (.vfmul h vd vs1 src pr)
    | 0x13 => fp (.vfma h vd vs1 src pr)
    | 0x14 => fp (.vfmin h vd vs1 src pr)
    | 0x15 => fp (.vfmax h vd vs1 src pr)
    | 0x20 => if w.testBit 21 then none else some (.vceq h (ty = 1) (pfld w 19) vs1 src pr)
    | 0x21 => if w.testBit 21 then none else some (.vclt h (ty = 1) (pfld w 19) vs1 src pr)
    | 0x22 => if w.testBit 21 then none else some (.vcle h (ty = 1) (pfld w 19) vs1 src pr)
    | 0x23 => if w.testBit 21 then none else int (.vcltu h (pfld w 19) vs1 src pr)
    | 0x28 => if w.testBit 2 then int (.vsel h vd vs1 src (pfld w 3)) else none
    | 0x29 => if vsForm && vs1 = 0 then int (.vbcast h vd rs pr) else none
    | 0x2C => int (.vcvtif h vd vs1 pr)
    | 0x2D => int (.vcvtfi h vd vs1 pr)
    | 0x2E => int (.vcvtfh h vd vs1 pr)
    | 0x2F => int (.vcvtfb h vd vs1 pr)
    | _ => none

/-- Class 0x9 (R269). -/
def decVmem (h : Hart) (w : Nat) : Option Instr :=
  let el := elemOf (w / 2 ^ 24 % 4)
  let v := vfld w 21
  let rs1 := xfld w 16
  let rs2 := xfld w 11
  let pr := prfld w 9 8
  if w % 2 ^ 8 != 0 then none
  else
    match w / 2 ^ 26 % 4 with
    | 0 => if rs2 != 0 then none else some (.vload h el v rs1 pr)
    | 1 => if rs2 != 0 then none else some (.vstore h el v rs1 pr)
    | 2 => some (.vloadStrided h el v rs1 rs2 pr)
    | _ => some (.vstoreStrided h el v rs1 rs2 pr)

/-- Class 0xA (R270): any field a function does not name must be 0. -/
def decVred (h : Hart) (w : Nat) : Option Instr :=
  let vd := vfld w 21
  let vs1 := vfld w 18
  let vs2 := vfld w 15
  let rd := xfld w 10
  let ty := w / 2 ^ 8 % 4
  let pr := prfld w 6 5
  let red (i : Instr) : Option Instr := if vd = 0 && vs2 = 0 && ty ≤ 1 then some i else none
  if w % 2 ^ 5 != 0 then none
  else
    match w / 2 ^ 24 % 2 ^ 4 with
    | 0 => red (.vrsum h (ty = 1) rd vs1 pr)
    | 1 => red (.vrmax h (ty = 1) rd vs1 pr)
    | 2 => red (.vrmin h (ty = 1) rd vs1 pr)
    | 3 => red (.vrargmax h (ty = 1) rd vs1 pr)
    | 4 => if vs2 = 0 && ty = 0 then some (.vslideup h vd vs1 rd pr) else none
    | 5 => if vs2 = 0 && ty = 0 then some (.vslidedown h vd vs1 rd pr) else none
    | 6 => if rd = 0 && ty = 0 then some (.vperm h vd vs1 vs2 pr) else none
    | 7 => if vs2 = 0 && ty = 0 && w.testBit 5 then some (.vcompress h vd vs1 rd (pfld w 6)) else none
    | 8 => if vd = 0 && vs2 = 0 && ty = 0 && w / 2 ^ 5 % 8 = 0 then some (.vfirst h rd vs1) else none
    | _ => none

/-- Class 0xB (R271). -/
def decTensor (h : Hart) (w : Nat) : Option Instr :=
  let rd := xfld w 19
  let rs1 := xfld w 14
  if w % 2 ^ 9 != 0 then none
  else
    match w / 2 ^ 24 % 2 ^ 4 with
    | 0 => (precOf (w / 2 ^ 11 % 8)).map fun p => .top h rd rs1 p (w.testBit 10) (w.testBit 9)
    | 1 => if w / 2 ^ 9 % 2 ^ 5 != 0 then none else some (.tmove h rd rs1)
    | _ => none

/-- Class 0xC (R274). -/
def decQueue (h : Hart) (w : Nat) : Option Instr :=
  let rd := xfld w 19
  let rs1 := xfld w 14
  let rs2 := xfld w 9
  if w % 2 ^ 9 != 0 then none
  else
    match w / 2 ^ 24 % 2 ^ 4 with
    | 0 => some (.submit h rd rs1 rs2)
    | 1 => some (.cancel h rd rs1 rs2)
    | 2 => if rd != 0 || rs2 != 0 then none else some (.jobend h rs1)
    | _ => none

/-- Class 0xD (R275): any field a function does not name must be 0. -/
def decSys (h : Hart) (w : Nat) : Option Instr :=
  let rd := xfld w 19
  let rs1 := xfld w 14
  let imm := BitVec.ofNat 14 w
  match w / 2 ^ 24 % 2 ^ 4 with
  | 0 => if rs1 != 0 then none else some (.tsr h rd imm)
  | 1 => if rd != 0 then none else some (.tsw h rs1 imm)
  | 2 => if rd != 0 || rs1 != 0 then none else some (.trap h imm)
  | 3 => if w % 2 ^ 24 != 0 then none else some (.brk h)
  | 4 => if w % 2 ^ 24 != 0 then none else some (.wfe h)
  | 5 => if w % 2 ^ 24 != 0 then none else some (.eret h)
  | _ => none

/-- The instruction that a word spells, with the second word of a long immediate; none where it is illegal (R258). The
profile of the core that runs it is judged where it runs. -/
def decodeThread (h : Hart) (w w2 : Nat) : Option Instr :=
  match w / 2 ^ 28 with
  | 0x0 => decRrr h w
  | 0x1 => decRri h w
  | 0x2 => decLong h w w2
  | 0x3 => decBranch h w
  | 0x4 => decJump h w
  | 0x5 => decMem h w
  | 0x6 => decAmo h w
  | 0x7 => decSync h w
  | 0x8 => decVec h w
  | 0x9 => decVmem h w
  | 0xA => decVred h w
  | 0xB => decTensor h w
  | 0xC => decQueue h w
  | 0xD => decSys h w
  | _ => none

/-- Whether a first word has a second word (R257). -/
def isLong (w : Nat) : Bool := w / 2 ^ 28 == 2

end Sys2Proof.Machine
end

