-- ==== Sys2Proof/Machine/Thread.lean ====
section
/-! DEFINITION. How a thread or a Keeper core executes an instruction: when it may issue, retiring, taking an exception, memory
accesses, and the counting that goes with them (R233, R236, R276 to R282, R409, R413). -/

namespace Sys2Proof.Machine

open Sys2Proof

/-! ## When an instruction issues -/

/-- An engine is halted by the debug port (R498). -/
def State.engineHalted (s : State) (e : Nat) : Bool := s.objBit 0x5050 3 e

/-- A Keeper core is halted by the debug port (R498). -/
def State.coreHalted (s : State) (c : Nat) : Bool := s.objBit 0x5050 2 c

/-- Whether a context could issue, were its engine not halted. -/
def State.ctxReady (s : State) (g : Nat) : Bool :=
  let e := g / 64
  let v := s.engine e
  let c := s.ctxAt g
  s.serves e && s.lead e = e &&
  (s.level e = 0 || (s.level e = 4 && v.dike.any fun d => d.step = 2)) && !v.testing &&
  (match s.jobOf g with
    | some j => !s.suspended j && !j.cancelling && !s.guestStopped j.part
    | none => false) &&
  c.ended.isNone && !c.stopped && c.barrier.isNone

/-- Whether a Keeper core could issue, were it not halted: the shadow of a pair runs with its leader (R356). -/
def State.coreReady (s : State) (c : Nat) : Bool :=
  s.pw.mode.awake && s.pw.mode != .safe && !s.saf.keepersHeld && (c % 2 == 0 || s.keepersSplit) &&
  !(s.ctxAt (3072 + c)).waiting

/-- Whether a hart could issue an instruction, were it not halted. -/
def State.ready (s : State) (h : Hart) : Bool :=
  match h with
  | .ctx g => s.ctxReady g.val
  | .keeper c => s.coreReady c.val

/-- Whether a hart is halted. -/
def State.hartHalted (s : State) (h : Hart) : Bool :=
  match h with
  | .ctx g => s.engineHalted (g.val / 64)
  | .keeper c => s.coreHalted c.val

/-- Whether a hart issues its next instruction. -/
def State.runs (s : State) (h : Hart) : Bool := s.ready h && !s.hartHalted h

/-- Where an instruction issues; the code is that of a sample record (R414). -/
inductive Pipe where
  | scalar
  | vector
  | tensor
  | memory
  | queue
  deriving DecidableEq, Repr

/-- The counter event of an issue (R409), 0 for none. -/
def Pipe.event : Pipe → Nat
  | .scalar => 2
  | .vector => 3
  | .memory => 4
  | .tensor => 5
  | .queue => 0

/-- An engine counts an issued instruction for precise sampling (R413). -/
def State.sampleCount (s : State) (e : Nat) : State :=
  if !s.objBit 0x7040 1 e then s
  else
    let n := Amap.get 0 s.smp.counts e + 1
    if n < s.obj 0x7040 2 then { s with smp := { s.smp with counts := Amap.set 0 s.smp.counts e n } }
    else
      let s : State := { s with smp := { s.smp with counts := Amap.set 0 s.smp.counts e 0 } }
      if !s.objBit 0x7040 0x0A (s.enginePart e) then s
      else if bit s.smp.inFlight e then s.bump 0x7040 5
      else { s with smp := { s.smp with inFlight := setBit s.smp.inFlight e } }

/-- A pipeline's number on its engine. -/
def Pipe.code : Pipe → Nat
  | .scalar => 0
  | .vector => 1
  | .tensor => 2
  | .memory => 3
  | .queue => 4

/-- The pipeline of an instruction, by the class of its first word (R257). -/
def wordPipe (w : Nat) : Pipe :=
  let c := w / 2 ^ 28 % 16
  if c = 5 || c = 6 || c = 9 then .memory
  else if c = 8 || c = 0xA then .vector
  else if c = 0xB then .tensor
  else if c = 7 || c = 0xC then .queue
  else .scalar

/-- The context that a pipeline issues next among ready ones, ascending: round-robin, from after the one it issued last
(R233). -/
def State.nextCtx (s : State) (e : Nat) (p : Pipe) (l : List Nat) : Option Nat :=
  let from_ := Amap.get 0 s.smp.last (e * 8 + p.code)
  (l.find? (from_ ≤ ·)).orElse fun _ => l.head?

/-- An instruction issues: its pipeline has issued its context last (R233), and it counts. -/
def State.issued (s : State) (h : Hart) (pipe : Pipe) : State :=
  match h with
  | .keeper _ => s
  | .ctx g =>
    let e := g.val / 64
    let s := { s with smp := { s.smp with last := Amap.set 0 s.smp.last (e * 8 + pipe.code) (g.val % 64 + 1) } }
    (if pipe.event = 0 then s else s.perf e pipe.event).sampleCount e

/-- An instruction retires with the hart's new registers and PC. -/
def State.retired (s : State) (h : Hart) (c : Ctx) : State :=
  match h with
  | .keeper _ => s.setCtx h c
  | .ctx g => (s.perf (g.val / 64) 1).setCtx h c

/-! ## Exceptions (R277 to R280) -/

/-- The record of an exception on a context: that of its first deferred tensor fault among the tokens of a mask, where there
is one (R273). -/
def Ctx.excRecord (c : Ctx) (code eaddr mask : Nat) : Nat × Nat × Word :=
  match c.ops.findSome? fun o =>
      if mask.testBit o.token then o.fault.map fun f => (0x80 + f.1, f.2, BitVec.ofNat 64 o.pc) else none with
  | some r => r
  | none => (code, eaddr, c.pc)

/-- What an engine counts of an exception: memory exceptions (R279) and refused descriptors (R271). -/
def State.excCount (s : State) (e code eaddr : Nat) : State :=
  let k := code % 128
  let s := s.perf e 0x11
  if 0x11 ≤ k && k ≤ 0x17 then
    (s.unitOf e).foldl (fun s e => ((s.bump 0x4000 9 e).setObj 0x4000 0x0A eaddr e).setObj 0x4000 0x0B (k - 0x10) e) s
  else if k = 8 then (s.unitOf e).foldl (fun s e => s.bump 0x4010 5 e) s
  else s

/-- TAKING AN EXCEPTION. On an engine the context stops with the record in its slot, and the job faults (R279). On a Keeper
core the record is set, FLAGS [8] is set and the core continues at TVEC; with FLAGS [8] set already, it is a double
exception, which is class S with code 0x03 (R280). -/
def State.exc (s : State) (h : Hart) (code eaddr : Nat) (mask : Nat := 0xFF) : State :=
  let c := s.ctx h
  match h with
  | .keeper _ =>
    if c.inException then s.classSOpen 0x03
    else s.setCtx h { c.enterExc with
      epc := c.pc, ecode := BitVec.ofNat 64 code, eaddr := BitVec.ofNat 64 eaddr, pc := c.tvec &&& ~~~3 }
  | .ctx g =>
    let r := c.excRecord code eaddr mask
    let s := s.setCtx h { c with
      stopped := true, epc := r.2.2, ecode := BitVec.ofNat 64 r.1, eaddr := BitVec.ofNat 64 r.2.1 }
    let s := s.excCount (g.val / 64) r.1 r.2.1
    match s.jobOf g.val with
    | some j => s.jobFault j.id r.1
    | none => s

/-! ## An instruction -/

/-- What an instruction that has issued does. -/
inductive Ran where
  /-- It retires, and the PC moves past it. -/
  | next (s : State) (c : Ctx)
  /-- It retires with the PC that the registers hold. -/
  | jump (s : State) (c : Ctx)
  /-- It raises an exception: code and EADDR. -/
  | raise (s : State) (code eaddr : Nat)
  /-- It reports the deferred tensor fault of a token of a mask (R273). -/
  | report (s : State) (mask : Nat)
  /-- It retires, and the state says all it did. -/
  | leave (s : State)
  /-- It cannot issue yet; the engine named wakes for it (R62). -/
  | stall (wake : Option Nat)

/-- Execute one instruction of `len` bytes of a hart that may issue. -/
def State.execute (s : State) (h : Hart) (pipe : Pipe) (len : Nat) (k : State → Ctx → Ran) : State :=
  match k (s.issued h pipe) (s.ctx h) with
  | .next t c => t.retired h { c with pc := c.pc + BitVec.ofNat 64 len }
  | .jump t c => t.retired h c
  | .raise t code a => t.exc h code a
  | .report t mask => t.exc h 0 0 mask
  | .leave t => t
  | .stall none => s
  | .stall (some e) => s.wakeEngine e

/-- An instruction of every profile: nothing happens where its hart does not issue. -/
def State.instr (s : State) (h : Hart) (pipe : Pipe) (k : State → Ctx → Ran) (len : Nat := 4) : State :=
  if s.runs h then s.execute h pipe len k else s

/-- Whether a hart is an engine context. -/
def isCtx : Hart → Bool
  | .ctx _ => true
  | .keeper _ => false

/-- An instruction of the engine profile: illegal on a Keeper core (R258, R281). -/
def State.engineInstr (s : State) (h : Hart) (i : Instr) (pipe : Pipe) (k : State → Ctx → Ran) : State :=
  s.instr h pipe fun s c => if isCtx h then k s c else .raise s 0x01 (firstWord i)

/-- An instruction of the Keepers alone: illegal on an engine (R258, R275). -/
def State.keeperInstr (s : State) (h : Hart) (i : Instr) (k : State → Ctx → Ran) : State :=
  s.instr h .scalar fun s c => if isCtx h then .raise s 0x01 (firstWord i) else k s c

/-- An instruction that writes one scalar register. -/
def State.writeReg (s : State) (h : Hart) (rd : Fin 32) (f : Ctx → Word) (len : Nat := 4) : State :=
  s.instr h .scalar (fun s c => .next s (c.put rd (f c))) len

/-! ## Context slots (R232, R256) -/

/-- The 8-byte word at an offset of a context slot (R256). -/
def Ctx.slotWord (c : Ctx) (o : Nat) : Nat :=
  let lane (k : Nat) : Nat := (((c.v.toList.getD (k / 64) (Vector.replicate 64 0)).toList.getD (k % 64) 0) : Half).toNat
  if o < 0x100 then (c.x.toList.getD (o / 8) 0).toNat
  else if o < 0x900 then lane ((o - 0x100) / 4) + lane ((o - 0x100) / 4 + 1) * 2 ^ 32
  else if o < 0x920 then (c.p.toList.getD ((o - 0x900) / 8) 0).toNat
  else if o = 0x920 then c.pc.toNat
  else if o = 0x928 then c.flags.toNat
  else if o = 0x930 then c.epc.toNat
  else if o = 0x938 then c.ecode.toNat
  else if o = 0x940 then c.eaddr.toNat
  else if o = 0x948 then c.tag.toNat
  else if o = 0x950 then (List.range 8).foldl (fun n t => if c.ops.any fun q => q.token = t then setBit n t else n) 0
  else if o = 0x958 then (match c.barrier with | some b => b + 256 | none => 0)
  else 0

/-- Write a word of a context slot; reserved bits stay zero, and what tokens and barriers are in use does not change
(log entry 37). -/
def Ctx.setSlotWord (c : Ctx) (g : Fin 3072) (o : Nat) (d : Word) : Ctx :=
  if o < 0x100 then c.put (fld (o / 8) 0 32 (by decide)) d
  else if o < 0x900 then
    let r : Fin 8 := fld ((o - 0x100) / 256) 0 8 (by decide)
    let i := o % 256 / 4
    { c with v := c.v.set r (Vector.ofFn fun (k : Fin 64) =>
        if k.val = i then lo32 d else if k.val = i + 1 then lo32 (d >>> 32) else c.lane r k) }
  else if o < 0x920 then { c with p := c.p.set (fld ((o - 0x900) / 8) 0 4 (by decide)) d }
  else if o = 0x920 then { c with pc := d &&& ~~~3 }
  else if o = 0x928 then { c with flags := d &&& flagsMask (.ctx g) }
  else if o = 0x930 then { c with epc := d }
  else if o = 0x938 then { c with ecode := d &&& 0xFF }
  else if o = 0x940 then { c with eaddr := d }
  else if o = 0x948 then { c with tag := d }
  else c

/-- Bytes of a context slot, within one word of it. -/
def State.slotRead (s : State) (g o n : Nat) : List Byte := slice (leBytes 8 ((s.ctxAt g).slotWord (o / 8 * 8))) (o % 8) n

/-- Store bytes into one word of a context slot. -/
def State.slotWrite (s : State) (g o : Nat) (bs : List Byte) : State :=
  if h : g < 3072 then
    let old := leBytes 8 ((s.ctxAt g).slotWord (o / 8 * 8))
    let new := old.take (o % 8) ++ bs ++ old.drop (o % 8 + bs.length)
    s.setCtxAt g ((s.ctxAt g).setSlotWord ⟨g, h⟩ (o / 8 * 8) (BitVec.ofNat 64 (leVal new)))
  else s

/-! ## Memory accesses (R236, R243) -/

/-- Whether an access may be made. -/
inductive Access where
  | ok (p : Place)
  | fault (kind : Nat)
  /-- The access wakes an engine and is made once it runs. -/
  | wake (e : Nat)

/-- Check an access of `n` bytes as far as its place goes; a state slot's content is `slotOk`'s. DESIGN CHOICE (log entry
12): alignment comes first. -/
def State.reach (s : State) (h : Hart) (acc : Acs) (a n : Nat) : Access :=
  if a % n != 0 then .fault 7
  else
    match s.place (.hart h) acc a with
    | .inl k => .fault k
    | .inr (.gated e _ _) => .wake e
    | .inr (.cells pa m) => if acc = .read && s.poisoned pa n then .fault 6 else .ok (.cells pa m)
    | .inr (.unit u off) =>
      let k := s.unitKind h u off n (acc = .write)
      if k != 0 then .fault k else .ok (.unit u off)
    | .inr p => .ok p

/-- Whether a place is a state slot that does not fit (R314). -/
def State.badSlot (s : State) (p : Place) : Bool :=
  match p with
  | .unit u off => u == 1 && 0x380000 ≤ off && !s.slotOk (unitWindow 1 + off)
  | _ => false

/-- Check an access of `n` bytes; a store into the state table is checked with its bytes (R314). -/
def State.access (s : State) (h : Hart) (acc : Acs) (a n : Nat) (bs : List Byte) : Access :=
  match s.reach h acc a n with
  | .ok (.unit u off) =>
    if acc = .write && (s.memWrite (unitWindow u + off) bs).badSlot (.unit u off) then .fault 2 else .ok (.unit u off)
  | r => r

/-- The bytes that a load takes from a place, and the state, in which a unit may have counted it. -/
def State.loadFrom (s : State) (h : Hart) (p : Place) (n : Nat) : List Byte × State :=
  match p with
  | .cells pa _ =>
    match h with
    | .keeper c => s.l1Load c.val pa n
    | .ctx _ => (s.memBytes pa n, s)
  | .slot g o => (s.slotRead g o n, s)
  | .port pair off => (s.portRead pair off n, s)
  | .bell q off => (s.bellRead q (writerCode (.hart h)) off n, s)
  | .unit u off => s.unitLoad u off n
  | .gated _ a _ => (s.memBytes a n, s)

/-- Store bytes at a place. -/
def State.storeTo (s : State) (h : Hart) (p : Place) (bs : List Byte) : State :=
  match p with
  | .cells pa m =>
    let s := s.cellsWrite pa m bs
    match h with
    | .keeper c => s.l1Store c.val pa bs
    | .ctx _ => s
  | .slot g o => s.slotWrite g o bs
  | .port pair off => s.portWrite pair off bs
  | .bell q off => s.bellBy (.hart h) q off bs
  | .unit u off =>
    if (u = 1 || u = 2) && off < 0x380000 && off % 0x400 = 0 then s.trigger u h (leVal bs)
    else s.tableStore (unitWindow u + off) bs
  | .gated _ a m => s.cellsWrite a m bs

/-- 64-byte units of the cellar that [a, a+n) touches. -/
def cellarUnits (a n : Nat) : Nat := if a < cellarEnd && n != 0 then (a + n - 1) / 64 - a / 64 + 1 else 0

/-- Count an access of an engine: cellar units, and loads from other store rooms (R409). -/
def State.accessPerf (s : State) (h : Hart) (write : Bool) (a n : Nat) : State :=
  match h with
  | .keeper _ => s
  | .ctx g =>
    let e := g.val / 64
    if a < cellarEnd then s.perf e (if write then 0x0A else 0x09) (cellarUnits a n)
    else
      match storeOf a with
      | some p => if !write && s.lead p.1 != s.lead e then s.perf e 0x0B else s
      | none => s

/-- The scalar address of a memory instruction (R263). -/
def Ctx.ea (c : Ctx) (rs1 : Fin 32) (imm : BitVec 14) : Nat := (c.get rs1 + sx14 imm).toNat

/-- A scalar load of `n` bytes at an address, and what is done with its value. The code's finding applies to memory cells;
a double error leaves a poisoned word, which faults (R249, R250). -/
def State.loadThen (s : State) (h : Hart) (a n : Nat) (ecc : Ecc) (k : State → Nat → Ran) : Ran :=
  let t := if a % n = 0 then
      match s.place (.hart h) .read a with
      | .inr (.cells pa _) => s.eccEvent pa ecc
      | _ => s
    else s
  match t.access h .read a n [] with
  | .fault kd => .raise t (0x10 + kd) a
  | .wake e => .stall (some e)
  | .ok p =>
    let r := (t.accessPerf h false a n).loadFrom h p n
    k r.2 (leVal r.1)

/-- A scalar store of bytes. In a twin pair a store whose copies differ is not performed, and it is a signature mismatch
(R242, R363). -/
def State.storeThen (s : State) (h : Hart) (c : Ctx) (a : Nat) (bs : List Byte) (agree : Bool) : Ran :=
  match s.access h .write a bs.length bs with
  | .fault kd => .raise s (0x10 + kd) a
  | .wake e => .stall (some e)
  | .ok p =>
    if !agree && isCtx h && s.twinned then .leave (s.twinMismatch (hartKey h / 64) (s.jobOf (hartKey h)))
    else .next ((s.accessPerf h true a bs.length).storeTo h p bs) c

/-! ## Tokens (R271 to R273) -/

/-- Free the tokens of a context whose operations have finished, in issue order. -/
def Ctx.freeTokens (c : Ctx) : Ctx := { c with ops := c.ops.dropWhile fun o => o.finished && o.fault.isNone }

/-- The lowest free token. -/
def Ctx.freeToken (c : Ctx) : Option Nat := (List.range 8).find? fun t => !c.ops.any fun o => o.token = t

/-- Whether a deferred fault waits among the tokens of a mask. -/
def Ctx.deferredIn (c : Ctx) (mask : Nat) : Bool := c.ops.any fun o => o.fault.isSome && mask.testBit o.token

/-- Whether a token of a mask is outstanding. -/
def Ctx.outstandingIn (c : Ctx) (mask : Nat) : Bool := c.ops.any fun o => mask.testBit o.token

end Sys2Proof.Machine
end

