-- ==== Sys2Proof/Machine/SafetyCmds.lean ====
section
/-! DEFINITION. The safety mechanisms' own steps: lockstep, alive checks, the SAFE_ERR toggle, the SAFE commit, splits,
twin compares, rotating LBIST, scrubs, clock and supply monitors (chapter 15). -/

namespace Sys2Proof.Machine

open Sys2Proof

/-! ## Keepers (R349, R350, R352, R356, R359, R360) -/

/-- KEEPER_LOCKSTEP_MISMATCH (R349, R356). -/
def execKeeperLockstepMismatch (pair : Fin 2) (s : State) : Out :=
  .next (
    if !s.lockstep then s
    else (s.bump 0x5010 3).classS (1 + pair.val) pair.val (some (0x5020, 0xFF, pair.val)))

/-- ALIVE_RESPONSE (R352): the pair's leading core writes its port. -/
def execAliveResponse (pair : Fin 2) (v : BitVec 16) (s : State) : Out :=
  .next (if s.coreReady (2 * pair.val) && !s.coreHalted (2 * pair.val) then s.alive pair.val v else s)

/-- Whether a pair has a halted core: its alive check is suspended (R502). -/
def State.pairHalted (s : State) (pair : Nat) : Bool := s.coreHalted (2 * pair) || s.coreHalted (2 * pair + 1)

/-- ALIVE_CHECK (R352): each port must have had a valid response since the previous check; the challenge takes a new value.
The checks are suspended for a halted pair, and from a rejoin's start on (R360, R502). -/
def execAliveCheck (s : State) : Out :=
  .next (
    if !s.saf.started || s.saf.rejoinAt.isSome || s.saf.keepersHeld || !s.pw.mode.awake || s.pw.mode = .safe then s
    else
      let missing := (!s.saf.aliveA && !s.pairHalted 0) || (!s.saf.aliveB && !s.pairHalted 1)
      let f := s.takeFree
      let s := { f.2 with saf := { f.2.saf with
        challenge := Config.challenge f.1, aliveA := false, aliveB := false, checkAt := s.clk.ticks } }
      if missing then s.classSOpen 0x04 else s)

/-- SAFE_ERR_TOGGLE (R350, R351): both pins change. -/
def execSafeErrToggle (s : State) : Out := .next (if s.clk.tbRun then s.drivePins else s)

/-- HANDOVER_ACK (R359, R360). -/
def execHandoverAck (pair : Fin 2) (s : State) : Out :=
  .next (if s.coreReady (2 * pair.val) && !s.coreHalted (2 * pair.val) then s.handoverAcked pair.val else s)

/-- KEEPER_SPLIT_COMMIT (R359 step 3). -/
def execKeeperSplitCommit (s : State) : Out :=
  .next (if s.saf.splitAt.isSome && s.saf.ackA && s.saf.ackB then s.splitNow else s)

/-- KEEPER_SPLIT_TIMEOUT (R359): the split is abandoned. -/
def execKeeperSplitTimeout (s : State) : Out :=
  .next (
    if s.saf.splitAt.isNone || (s.saf.ackA && s.saf.ackB) then s
    else { s with saf := { s.saf with splitAt := none, ackA := false, ackB := false } }.setObj 0x5010 2 0x11)

/-- KEEPER_REJOIN_ACK_TIMEOUT (R360): the rejoin proceeds without the acknowledgement. -/
def execKeeperRejoinAckTimeout (s : State) : Out :=
  .next (if s.saf.rejoinAt.isSome && !s.saf.rejoining then s.rejoinHold else s)

/-! ## The SAFE commit (R52, R217, R347, R353, R354, R375, R526) -/

/-- Every mailbox and segmented transfer fails with a code (R353). -/
def State.failTransfers (s : State) (code : Nat) : State :=
  (s.paths.map (·.1)).foldl (fun s c => (s.modPath c fun p => p.failMailbox code).failSession c code) s

/-- SAFE commits: what waits for its launch time is discarded (R212), halts end (R526); what ends with DEPOT ends (R37, R41). -/
def State.safeCommit (s : State) : State :=
  match s.pw.pendSafe with
  | none => s
  | some (c, _) =>
    if !s.pw.mode.awake || s.pw.mode = .safe then s
    else
      let s :=
        if s.pw.mode = .bench || s.pw.mode = .drive then s.seqExit
        else if s.pw.mode = .depot then s.depotSafe.depotLeft.avsRelock
        else if s.pw.mode = .handover then s.depotSafe
        else s
      let s := (((s.setMode .safe).setPhase 0).bump 0x5000 5).dutyEval
      let s := { s with
        pw := { s.pw with pendSafe := none, safeLatch := true, safeCode := c, teardown := none, driveOff := none,
                          readyHold := none, deferred := none, benchWake := false }
        su := { s.su with window := none, checking := none, placing := false, freshRun := false,
                          benchRestricted := false, loaded := false }
        recov := { s.recov with watchdog := none } }
      let s := { s.errPinsLow with timed := [] }
      let s := if c = 0 then s else s.raise 0xFF01 0xFF c
      let s := ((s.failTransfers 0x08000022).closeWindows.endHalts.keepersReset.engineLevels 2).refreshReg
      s.hazardRecheck

/-! ## Twins (R362, R363) -/

/-- TWIN_PERIODIC_COMPARE (R362): the signatures of a running context of a pair are compared. -/
def execTwinPeriodicCompare (pair : Fin 24) (ctx : Fin 64) (agree : Bool) (s : State) : Out :=
  .next (
    let e := 2 * pair.val
    match s.jobOf (e * 64 + ctx.val) with
    | none => s
    | some j => if !s.twinned || agree then s else s.twinMismatch e (some j))

/-- POST_MISMATCH_LBIST_DONE (R363 steps 4 and 5). -/
def execPostMismatchLbistDone (pair : Fin 24) (passEven passOdd : Bool) (s : State) : Out :=
  .next (
    let e := 2 * pair.val
    match (s.engine e).dike with
    | none => s
    | some d =>
      if d.step != 7 || d.cause != 2 then s
      else if passEven && passOdd then s.modEngine e fun v => { v with dike := some { d with step := 6 } }
      else
        let s := s.dikeGone e d
        let s := if passEven then s else s.engineFail e 4 2
        if passOdd then s else s.engineFail (e + 1) 4 2)

/-! ## Rotating LBIST (R365, R366) -/

/-- The rotating tests run in DRIVE and BENCH. -/
def State.lbistRuns (s : State) (e : Nat) : Bool :=
  (s.pw.mode = .drive || s.pw.mode = .bench) && !s.outOfService e && s.obj 0x4000 1 e != 3

/-- LBIST_WITHDRAW (R365 step 1): withdrawn from placement, or fenced after a skip. -/
def execLbistWithdraw (e : Fin 48) (s : State) : Out :=
  .next (
    if !s.lbistRuns e.val || (List.range 48).any (fun k => (s.engine k).withdrawn) then s
    else if (s.engine e.val).skipped then
      (s.modEngine e.val fun v => { v with skipped := false }).closeDike e.val 4 0xFFFF false false
    else (s.unitOf e.val).foldl (fun s k => s.modEngine k fun v => { v with withdrawn := true }) s)

/-- An engine's slot ends: its contexts resume and it returns to placement. -/
def State.slotEnd (s : State) (e : Nat) : State :=
  (s.unitOf e).foldl (fun s k => s.modEngine k fun v => { v with withdrawn := false, testing := false }) s

/-- An engine's slot ends with its test skipped and counted (R365, R375). -/
def State.slotSkip (s : State) (e : Nat) : State :=
  ((s.slotEnd e).bump 0x5030 4).modEngine e fun v => { v with skipped := true }

/-- LBIST_SLOT_START (R365 step 2, R375, R501): a fenced engine's test is skipped and counted, a halted one's is skipped. -/
def execLbistSlotStart (e : Fin 48) (s : State) : Out :=
  .next (
    if !s.lbistRuns e.val || !(s.engine e.val).withdrawn then s
    else if (s.engine (s.lead e.val)).dike.isSome then s.slotSkip e.val
    else if (s.unitOf e.val).any fun k => s.objBit 0x5050 3 k then s.slotEnd e.val
    else (s.unitOf e.val).foldl (fun s k => s.modEngine k fun v => { v with testing := true }) s)

/-- LBIST_SKIP (R365): issued TOPs still run 100 ticks after the slot began. -/
def execLbistSkip (e : Fin 48) (s : State) : Out :=
  .next (
    if !(s.engine e.val).testing then s
    else s.slotSkip e.val)

/-- The outcome of an engine's rotating test (R366). -/
def State.lbistOutcome (s : State) (e : Nat) (pass : Bool) (cause : Nat := 0) : State :=
  let s := (s.setObj 0x5030 3 e).modEngine e fun v => { v with skipped := false }
  if pass then s.bump 0x5030 1 else s.engineFail e 3 cause

/-- LBIST_TEST_DONE (R365, R366, R385): the test of a slot, or that of a dike sequence of cause 0x04. -/
def execLbistTestDone (e : Fin 48) (pass : Bool) (s : State) : Out :=
  .next (
    if (s.engine e.val).testing then (s.slotEnd e.val).lbistOutcome e.val pass
    else
      match (s.engine (s.lead e.val)).dike with
      | none => s
      | some d =>
        if d.step != 7 || d.cause != 4 then s
        else if pass then (s.modEngine (s.lead e.val) fun v => { v with dike := some { d with step := 6 } }).lbistOutcome e.val true
        else (s.dikeGone (s.lead e.val) d).lbistOutcome e.val false 4)

/-! ## Scrubs (R249, R367) -/

/-- STORE_ROOM_SCRUB (R367): one store room has been read in full; a pass is complete when every room that is not
power-gated, off or fenced has been read. -/
def execStoreRoomScrub (e : Fin 48) (errs : List ScrubError) (s : State) : Out :=
  .next (
    let reads (s : State) (k : Nat) : Bool := !s.outOfService k && s.obj 0x4000 1 k ≤ 1
    if !s.pw.mode.awake || s.pw.mode = .safe || !s.su.enginesTested || !reads s e.val then s
    else
      let s := errs.foldl (fun s x => s.eccEvent (storeRoom e.val + x.addr % 0x200000) x.ecc) s
      let m := setBit s.saf.scrubbed e.val
      if (List.range 48).all fun k => !reads s k || bit m k then
        { s with saf := { s.saf with scrubbed := 0 } }.bump 0x5030 5
      else { s with saf := { s.saf with scrubbed := m } })

/-- CELLAR_SCRUB (R367): the host region has been read in full. -/
def execCellarScrub (errs : List ScrubError) (s : State) : Out :=
  .next (
    if !(s.pw.mode = .bench || s.pw.mode = .drive || s.pw.mode = .depot || s.pw.mode = .handover) then s
    else
      let s := errs.foldl (fun s x =>
        if s.hostRegion ≤ x.addr && x.addr < cellarEnd then s.eccEvent x.addr x.ecc else s) s
      s.bump 0x5030 6)

/-! ## Clock and supply monitors (R40, R140, R349, R368, R369) -/

/-- Whether a clock is monitored now: REFCLK wherever it is required (R31), the PLLs' clocks once they have locked. -/
def State.clockWatched (s : State) (clk : MonClock) : Bool := s.pw.mode.awake && (s.su.pllOn || clk = .refclk)

/-- CLOCK_MONITOR_FAULT (R31, R349, R368): class S with code 0x08 and EMCY 0x5030; in SAFE it counts as a detection alone (R347). -/
def execClockMonitorFault (clk : MonClock) (lockLost : Bool) (s : State) : Out :=
  .next (
    if !s.clockWatched clk then s
    else if s.pw.mode = .safe then s.classS 0x08 0
    else
      let info := clk.code + (if lockLost then 256 else 0)
      let s := (s.bump 0x5040 1).setObj 0x5040 2 info
      let s := if lockLost then { s with saf := { s.saf with unlocked := setBit s.saf.unlocked clk.code } } else s
      s.classS 0x08 info (some (0x5030, 0xFF, info)))

/-- PLL_LOCK_REGAINED (R40). -/
def execPllLockRegained (clk : MonClock) (s : State) : Out :=
  .next { s with saf := { s.saf with unlocked := clearBit s.saf.unlocked clk.code } }

/-- Mark a rail as outside or inside its thresholds, with its reading. -/
def State.railMark (s : State) (r : Nat) (out : Bool) (mv : Nat) : State :=
  let s := s.setObj 0x5040 (5 + r) mv
  { s with pw := { s.pw with railsOut := if out then setBit s.pw.railsOut r else clearBit s.pw.railsOut r } }

/-- RAIL_FAULT (R349, R369, R515): VAON puts the block in OFF; in PARKED the others are only marked, and detected at the
wake. -/
def execRailFault (rail : Fin 8) (high : Bool) (mv : BitVec 16) (s : State) : Out :=
  .next (
    if s.pw.mode = .off then s
    else if rail.val = 2 then s.vaonLost mv.toNat true
    else
      let s := s.railMark rail.val true mv.toNat
      if s.pw.mode = .parked then s else (s.railDetect rail.val high mv.toNat).refreshReg)

/-- RAIL_RETURN_TO_RANGE (R140). -/
def execRailReturnToRange (rail : Fin 8) (mv : BitVec 16) (s : State) : Out :=
  .next (if s.pw.mode = .off then s else (s.railMark rail.val false mv.toNat).refreshReg)

end Sys2Proof.Machine
end

