-- ==== Sys2Proof/Machine/Held.lean ====
section
/-! DEFINITION. The accesses that a halt of Keeper B has held, served once it runs again; and the SAFE commit, which ends every
halt (R52, R353, R502, R526). -/

namespace Sys2Proof.Machine

open Sys2Proof

/-- The state that a command leaves. -/
def State.after (s : State) (o : Out) : State :=
  match o with
  | .next t => t
  | _ => s

/-- Serve one held access, judged by the rules in force now (R502). -/
def State.runHeld (s : State) (i : Held) : State :=
  match i with
  | .value p idx sub data => s.dictAccess p.code idx sub data
  | .write p idx sub data enables => if s.live p.code then s.objectWriteOn p idx sub data enables else s
  | .read p idx sub dwords enables => if s.live p.code then s.readOn p idx sub dwords enables else s
  | .record p data => if s.live p.code then s.sealedRow p.code data else s
  | .download p idx sub data => if s.live p.code then s.downloadOn p.code idx sub data else s
  | .calSet p data verified => if s.live p.code then s.calSetOn p.code data verified else s
  | .usdo port fmt req => s.after (execUsdoRequest port fmt req s)
  | .udp op addr port m => s.udpDict op addr port m

/-- Once Keeper B runs, what waits on the CAN paths, then the held accesses in delivery order, then what waits on path 0x30 is
served (R502). -/
def State.settleHeld (s : State) : State :=
  if s.haltedB || s.held.isEmpty then s
  else
    let l := s.held
    (l.foldl (fun (t : State) i => t.runHeld i) { s with held := [] }.serveWaiting).serveLink

/-- SAFE_COMMIT (R52, R353): SAFE commits after a class-S detection; the halts end, and what they held is judged in SAFE. -/
def execSafeCommit (s : State) : Out := .next s.safeCommit.settleHeld

end Sys2Proof.Machine
end

