-- ==== Sys2Proof/Machine/Scalar.lean ====
section
/-! DEFINITION. The scalar instructions: register, immediate, long immediate, branches and jumps (R259 to R262). -/

namespace Sys2Proof.Machine

open Sys2Proof

/-! ## Operations -/

/-- Shift amount of a register shift (R260). -/
def shamt64 (b : Word) : Nat := b.toNat % 64
/-- Shift amount with W = 1. -/
def shamt32 (b : Half) : Nat := b.toNat % 32

/-- 1 or 0 in a register of `n` bits. -/
def ofCond (n : Nat) (b : Bool) : BitVec n := if b then 1 else 0

/-- Signed division: by zero all ones, and the most negative value by −1 gives that value (R260). -/
def divS {n : Nat} (a b : BitVec n) : BitVec n := if b = 0 then BitVec.allOnes n else a.sdiv b

/-- Unsigned division: by zero all ones (R260). -/
def divU {n : Nat} (a b : BitVec n) : BitVec n := if b = 0 then BitVec.allOnes n else a.udiv b

/-- Signed remainder: by zero the dividend (R260). -/
def remS {n : Nat} (a b : BitVec n) : BitVec n := if b = 0 then a else a.srem b

/-- Unsigned remainder: by zero the dividend (R260). -/
def remU {n : Nat} (a b : BitVec n) : BitVec n := if b = 0 then a else a.umod b

/-- Count leading zeros; the width for 0 (R260). -/
def clzN (n v : Nat) : Nat := if v = 0 then n else n - 1 - Nat.log2 v

/-- Count trailing zeros; the width for 0 (R260). -/
def ctzN (n v : Nat) : Nat := ((List.range n).takeWhile fun k => !v.testBit k).length

/-- Count the bits that are 1. -/
def popN (n v : Nat) : Nat := ((List.range n).filter fun k => v.testBit k).length

/-- An RRR operation (R259). -/
def State.rrr (s : State) (h : Hart) (rd rs1 rs2 : Fin 32) (w : Bool) (f64 : Word → Word → Word)
    (f32 : Half → Half → Half) : State :=
  s.writeReg h rd fun c => rrrResult w f64 f32 (c.get rs1) (c.get rs2)

/-- A one-operand count of an RRR operation: CLZ, CTZ, POPC. -/
def State.countOp (s : State) (h : Hart) (rd rs1 : Fin 32) (w : Bool) (f : Nat → Nat → Nat) : State :=
  s.writeReg h rd fun c =>
    BitVec.ofNat 64 (if w then f 32 (lo32 (c.get rs1)).toNat else f 64 (c.get rs1).toNat)

/-- An RRI operation (R259). -/
def State.rri (s : State) (h : Hart) (rd rs1 : Fin 32) (f : Word → Word) : State :=
  s.writeReg h rd fun c => f (c.get rs1)

/-- A branch (R262). -/
def State.branch (s : State) (h : Hart) (rs1 rs2 : Fin 32) (off : BitVec 15) (p : Word → Word → Bool) : State :=
  s.instr h .scalar fun s c =>
    if p (c.get rs1) (c.get rs2) then .jump s { c with pc := branchTo c.pc off } else .next s c

/-! ## Register operations (R259, R260) -/

/-- ADD (R259); its word with every operand 0 is 0x0000_0000, which is illegal (R258). -/
def execAdd (h : Hart) (rd rs1 rs2 : Fin 32) (w : Bool) (s : State) : Out :=
  .next (s.instr h .scalar fun s c =>
    if firstWord (.add h rd rs1 rs2 w) = 0 then .raise s 0x01 0
    else .next s (c.put rd (rrrResult w (· + ·) (· + ·) (c.get rs1) (c.get rs2))))

/-- SUB (R259). -/
def execSub (h : Hart) (rd rs1 rs2 : Fin 32) (w : Bool) (s : State) : Out :=
  .next (s.rrr h rd rs1 rs2 w (· - ·) (· - ·))

/-- AND (R259). -/
def execAndR (h : Hart) (rd rs1 rs2 : Fin 32) (w : Bool) (s : State) : Out :=
  .next (s.rrr h rd rs1 rs2 w (· &&& ·) (· &&& ·))

/-- OR (R259). -/
def execOrR (h : Hart) (rd rs1 rs2 : Fin 32) (w : Bool) (s : State) : Out :=
  .next (s.rrr h rd rs1 rs2 w (· ||| ·) (· ||| ·))

/-- XOR (R259). -/
def execXor (h : Hart) (rd rs1 rs2 : Fin 32) (w : Bool) (s : State) : Out :=
  .next (s.rrr h rd rs1 rs2 w (· ^^^ ·) (· ^^^ ·))

/-- SLL (R260). -/
def execSll (h : Hart) (rd rs1 rs2 : Fin 32) (w : Bool) (s : State) : Out :=
  .next (s.rrr h rd rs1 rs2 w (fun a b => a <<< shamt64 b) (fun a b => a <<< shamt32 b))

/-- SRL (R260). -/
def execSrl (h : Hart) (rd rs1 rs2 : Fin 32) (w : Bool) (s : State) : Out :=
  .next (s.rrr h rd rs1 rs2 w (fun a b => a >>> shamt64 b) (fun a b => a >>> shamt32 b))

/-- SRA (R260). -/
def execSra (h : Hart) (rd rs1 rs2 : Fin 32) (w : Bool) (s : State) : Out :=
  .next (s.rrr h rd rs1 rs2 w (fun a b => a.sshiftRight (shamt64 b)) (fun a b => a.sshiftRight (shamt32 b)))

/-- SLT (R259). -/
def execSlt (h : Hart) (rd rs1 rs2 : Fin 32) (w : Bool) (s : State) : Out :=
  .next (s.rrr h rd rs1 rs2 w (fun a b => ofCond 64 (a.slt b)) (fun a b => ofCond 32 (a.slt b)))

/-- SLTU (R259). -/
def execSltu (h : Hart) (rd rs1 rs2 : Fin 32) (w : Bool) (s : State) : Out :=
  .next (s.rrr h rd rs1 rs2 w (fun a b => ofCond 64 (a.ult b)) (fun a b => ofCond 32 (a.ult b)))

/-- MIN (R259). -/
def execMinR (h : Hart) (rd rs1 rs2 : Fin 32) (w : Bool) (s : State) : Out :=
  .next (s.rrr h rd rs1 rs2 w (fun a b => if a.slt b then a else b) (fun a b => if a.slt b then a else b))

/-- MAX (R259). -/
def execMaxR (h : Hart) (rd rs1 rs2 : Fin 32) (w : Bool) (s : State) : Out :=
  .next (s.rrr h rd rs1 rs2 w (fun a b => if a.slt b then b else a) (fun a b => if a.slt b then b else a))

/-- MINU (R259). -/
def execMinu (h : Hart) (rd rs1 rs2 : Fin 32) (w : Bool) (s : State) : Out :=
  .next (s.rrr h rd rs1 rs2 w (fun a b => if a.ult b then a else b) (fun a b => if a.ult b then a else b))

/-- MAXU (R259). -/
def execMaxu (h : Hart) (rd rs1 rs2 : Fin 32) (w : Bool) (s : State) : Out :=
  .next (s.rrr h rd rs1 rs2 w (fun a b => if a.ult b then b else a) (fun a b => if a.ult b then b else a))

/-- MUL: the low half of the product (R259). -/
def execMul (h : Hart) (rd rs1 rs2 : Fin 32) (w : Bool) (s : State) : Out :=
  .next (s.rrr h rd rs1 rs2 w (· * ·) (· * ·))

/-- MULH: the high 64 bits of the signed product (R259). -/
def execMulh (h : Hart) (rd rs1 rs2 : Fin 32) (s : State) : Out :=
  .next (s.writeReg h rd fun c => BitVec.ofInt 64 ((c.get rs1).toInt * (c.get rs2).toInt / (2 : Int) ^ 64))

/-- MULHU: the high 64 bits of the unsigned product (R259). -/
def execMulhu (h : Hart) (rd rs1 rs2 : Fin 32) (s : State) : Out :=
  .next (s.writeReg h rd fun c => BitVec.ofNat 64 ((c.get rs1).toNat * (c.get rs2).toNat / 2 ^ 64))

/-- DIV (R260). -/
def execDiv (h : Hart) (rd rs1 rs2 : Fin 32) (w : Bool) (s : State) : Out := .next (s.rrr h rd rs1 rs2 w divS divS)

/-- DIVU (R260). -/
def execDivu (h : Hart) (rd rs1 rs2 : Fin 32) (w : Bool) (s : State) : Out := .next (s.rrr h rd rs1 rs2 w divU divU)

/-- REM (R260). -/
def execRem (h : Hart) (rd rs1 rs2 : Fin 32) (w : Bool) (s : State) : Out := .next (s.rrr h rd rs1 rs2 w remS remS)

/-- REMU (R260). -/
def execRemu (h : Hart) (rd rs1 rs2 : Fin 32) (w : Bool) (s : State) : Out := .next (s.rrr h rd rs1 rs2 w remU remU)

/-- CLZ (R260). -/
def execClz (h : Hart) (rd rs1 : Fin 32) (w : Bool) (s : State) : Out := .next (s.countOp h rd rs1 w clzN)

/-- CTZ (R260). -/
def execCtz (h : Hart) (rd rs1 : Fin 32) (w : Bool) (s : State) : Out := .next (s.countOp h rd rs1 w ctzN)

/-- POPC (R259). -/
def execPopc (h : Hart) (rd rs1 : Fin 32) (w : Bool) (s : State) : Out := .next (s.countOp h rd rs1 w popN)

/-! ## Immediate operations (R259 to R261) -/

/-- ADDI (R259). -/
def execAddi (h : Hart) (rd rs1 : Fin 32) (imm : BitVec 14) (s : State) : Out := .next (s.rri h rd rs1 (· + sx14 imm))

/-- ANDI (R259). -/
def execAndi (h : Hart) (rd rs1 : Fin 32) (imm : BitVec 14) (s : State) : Out := .next (s.rri h rd rs1 (· &&& sx14 imm))

/-- ORI (R259). -/
def execOri (h : Hart) (rd rs1 : Fin 32) (imm : BitVec 14) (s : State) : Out := .next (s.rri h rd rs1 (· ||| sx14 imm))

/-- XORI (R259). -/
def execXori (h : Hart) (rd rs1 : Fin 32) (imm : BitVec 14) (s : State) : Out := .next (s.rri h rd rs1 (· ^^^ sx14 imm))

/-- SLLI (R260). -/
def execSlli (h : Hart) (rd rs1 : Fin 32) (sh : BitVec 6) (s : State) : Out := .next (s.rri h rd rs1 (· <<< sh.toNat))

/-- SRLI (R260). -/
def execSrli (h : Hart) (rd rs1 : Fin 32) (sh : BitVec 6) (s : State) : Out := .next (s.rri h rd rs1 (· >>> sh.toNat))

/-- SRAI (R260). -/
def execSrai (h : Hart) (rd rs1 : Fin 32) (sh : BitVec 6) (s : State) : Out :=
  .next (s.rri h rd rs1 (·.sshiftRight sh.toNat))

/-- SLTI (R259). -/
def execSlti (h : Hart) (rd rs1 : Fin 32) (imm : BitVec 14) (s : State) : Out :=
  .next (s.rri h rd rs1 fun a => ofCond 64 (a.slt (sx14 imm)))

/-- SLTIU (R259). -/
def execSltiu (h : Hart) (rd rs1 : Fin 32) (imm : BitVec 14) (s : State) : Out :=
  .next (s.rri h rd rs1 fun a => ofCond 64 (a.ult (sx14 imm)))

/-- ADDIW: the sum on 32 bits, sign-extended (R259). -/
def execAddiw (h : Hart) (rd rs1 : Fin 32) (imm : BitVec 14) (s : State) : Out :=
  .next (s.rri h rd rs1 fun a => sx32 (lo32 (a + sx14 imm)))

/-- LI (R261). -/
def execLi (h : Hart) (rd : Fin 32) (imm : BitVec 32) (s : State) : Out := .next (s.writeReg h rd (fun _ => sx32 imm) 8)

/-- LIH: the high half; the low half stays (R261). -/
def execLih (h : Hart) (rd : Fin 32) (imm : BitVec 32) (s : State) : Out :=
  .next (s.writeReg h rd (fun c => imm ++ lo32 (c.get rd)) 8)

/-- LPC (R261). -/
def execLpc (h : Hart) (rd : Fin 32) (imm : BitVec 32) (s : State) : Out :=
  .next (s.writeReg h rd (fun c => c.pc + sx32 imm) 8)

/-! ## Branches and jumps (R262) -/

/-- BEQ (R262). -/
def execBeq (h : Hart) (rs1 rs2 : Fin 32) (off : BitVec 15) (s : State) : Out :=
  .next (s.branch h rs1 rs2 off fun a b => a == b)

/-- BNE (R262). -/
def execBne (h : Hart) (rs1 rs2 : Fin 32) (off : BitVec 15) (s : State) : Out :=
  .next (s.branch h rs1 rs2 off fun a b => a != b)

/-- BLT (R262). -/
def execBlt (h : Hart) (rs1 rs2 : Fin 32) (off : BitVec 15) (s : State) : Out :=
  .next (s.branch h rs1 rs2 off fun a b => a.slt b)

/-- BGE (R262). -/
def execBge (h : Hart) (rs1 rs2 : Fin 32) (off : BitVec 15) (s : State) : Out :=
  .next (s.branch h rs1 rs2 off fun a b => !a.slt b)

/-- BLTU (R262). -/
def execBltu (h : Hart) (rs1 rs2 : Fin 32) (off : BitVec 15) (s : State) : Out :=
  .next (s.branch h rs1 rs2 off fun a b => a.ult b)

/-- BGEU (R262). -/
def execBgeu (h : Hart) (rs1 rs2 : Fin 32) (off : BitVec 15) (s : State) : Out :=
  .next (s.branch h rs1 rs2 off fun a b => !a.ult b)

/-- J (R262). -/
def execJ (h : Hart) (off : BitVec 26) (s : State) : Out :=
  .next (s.instr h .scalar fun s c => .jump s { c with pc := jumpTo c.pc off })

/-- JAL: x1 takes the return address (R262). -/
def execJal (h : Hart) (off : BitVec 26) (s : State) : Out :=
  .next (s.instr h .scalar fun s c => .jump s { c.put 1 (c.pc + 4) with pc := jumpTo c.pc off })

/-- JR: the target is read before rd is written; a misaligned target is exception 0x17 (R262, R282). -/
def execJr (h : Hart) (rd rs1 : Fin 32) (s : State) : Out :=
  .next (s.instr h .scalar fun s c =>
    let t := c.get rs1
    if t.toNat % 4 != 0 then .raise s 0x17 t.toNat else .jump s { c.put rd (c.pc + 4) with pc := t })

end Sys2Proof.Machine
end

