-- ==== Sys2Proof/Machine/ScalarMem.lean ====
section
/-! DEFINITION. Scalar loads and stores, atomics, and the synchronisation instructions (R263 to R265). -/

namespace Sys2Proof.Machine

open Sys2Proof

/-! ## Loads and stores (R263) -/

/-- The value of a load in its register: sign-extended where the instruction says so. -/
def loadValue (n : Nat) (sext : Bool) (v : Nat) : Word :=
  if sext then BitVec.ofInt 64 (toSigned (8 * n) v) else BitVec.ofNat 64 v

/-- LOAD; of 8 bytes with the sign bit set, it is illegal (R258, R263). -/
def execLoad (h : Hart) (size : Fin 4) (sext : Bool) (rd rs1 : Fin 32) (imm : BitVec 14) (ecc : Ecc) (s : State) : Out :=
  .next (s.instr h .memory fun s c =>
    let n := 2 ^ size.val
    if size = 3 && sext then .raise s 0x01 (firstWord (.load h size sext rd rs1 imm ecc))
    else s.loadThen h (c.ea rs1 imm) n ecc fun s v => .next s (c.put rd (loadValue n sext v)))

/-- STORE (R263). -/
def execStore (h : Hart) (size : Fin 4) (rs2 rs1 : Fin 32) (imm : BitVec 14) (agree : Bool) (s : State) : Out :=
  .next (s.instr h .memory fun s c =>
    s.storeThen h c (c.ea rs1 imm) (leBytes (2 ^ size.val) (c.get rs2).toNat) agree)

/-! ## Atomics (R244, R264) -/

/-- Whether atomics are allowed at an address: not on a Keeper memory, a doorbell, a window or the ingress pool (R244). -/
def atomicArea (a : Nat) : Bool := a < keeperBase || !mapped a

/-- The bytes of an atomic. -/
def amoBytes (dbl : Bool) : Nat := if dbl then 8 else 4

/-- The old value in rd: sign-extended for size 4. -/
def amoOld (dbl : Bool) (v : Nat) : Word := loadValue (amoBytes dbl) (!dbl) v

/-- Whether an atomic meets a poisoned word (R250). -/
def State.badWord (s : State) (p : Place) (n : Nat) : Bool :=
  match p with
  | .cells pa _ => s.poisoned pa n
  | _ => false

/-- The word that an atomic finds at its point of coherence (R244): cells, or a word of a context slot. -/
def State.wordAt (s : State) (p : Place) (n : Nat) : Nat :=
  match p with
  | .cells pa _ => s.memNat pa n
  | .slot g o => leVal (s.slotRead g o n)
  | _ => 0

/-- An atomic on the word at x[rs1]: the new value from the old one, none for no write, and what happens to the registers. -/
def State.atomic (s : State) (h : Hart) (dbl : Bool) (rs1 : Fin 32) (reads writes : Bool)
    (f : Ctx → Nat → Option Nat) (g : Ctx → Nat → Ctx) : State :=
  s.instr h .memory fun s c =>
    let n := amoBytes dbl
    let a := (c.get rs1).toNat
    if a % n != 0 then .raise s 0x17 a
    else if !atomicArea a then .raise s 0x13 a
    else
      match s.place (.hart h) (if writes then .write else .read) a with
      | .inl k => .raise s (0x10 + k) a
      | .inr (.gated e _ _) => .stall (some e)
      | .inr p =>
        if s.badWord p n then .raise s 0x16 a
        else
          let old := s.wordAt p n
          let s := if reads then s.accessPerf h false a n else s
          match f c old with
          | none => .next s (g c old)
          | some v => .next ((s.accessPerf h true a n).storeTo h p (leBytes n v)) (g c old)

/-- A read-modify-write on words or low halves. -/
def State.amo (s : State) (h : Hart) (dbl : Bool) (rd rs1 rs2 : Fin 32) (f64 : Word → Word → Word)
    (f32 : Half → Half → Half) : State :=
  s.atomic h dbl rs1 true true
    (fun c old => some (if dbl then (f64 (BitVec.ofNat 64 old) (c.get rs2)).toNat
      else (f32 (BitVec.ofNat 32 old) (lo32 (c.get rs2))).toNat))
    (fun c old => c.put rd (amoOld dbl old))

/-- SWAP (R264). -/
def execSwap (h : Hart) (dbl : Bool) (_ : Order) (_ : Scope) (rd rs1 rs2 : Fin 32) (s : State) : Out :=
  .next (s.amo h dbl rd rs1 rs2 (fun _ b => b) (fun _ b => b))

/-- AMO_ADD (R264). -/
def execAmoAdd (h : Hart) (dbl : Bool) (_ : Order) (_ : Scope) (rd rs1 rs2 : Fin 32) (s : State) : Out :=
  .next (s.amo h dbl rd rs1 rs2 (· + ·) (· + ·))

/-- AMO_AND (R264). -/
def execAmoAnd (h : Hart) (dbl : Bool) (_ : Order) (_ : Scope) (rd rs1 rs2 : Fin 32) (s : State) : Out :=
  .next (s.amo h dbl rd rs1 rs2 (· &&& ·) (· &&& ·))

/-- AMO_OR (R264). -/
def execAmoOr (h : Hart) (dbl : Bool) (_ : Order) (_ : Scope) (rd rs1 rs2 : Fin 32) (s : State) : Out :=
  .next (s.amo h dbl rd rs1 rs2 (· ||| ·) (· ||| ·))

/-- AMO_XOR (R264). -/
def execAmoXor (h : Hart) (dbl : Bool) (_ : Order) (_ : Scope) (rd rs1 rs2 : Fin 32) (s : State) : Out :=
  .next (s.amo h dbl rd rs1 rs2 (· ^^^ ·) (· ^^^ ·))

/-- AMO_MIN, signed (R264). -/
def execAmoMin (h : Hart) (dbl : Bool) (_ : Order) (_ : Scope) (rd rs1 rs2 : Fin 32) (s : State) : Out :=
  .next (s.amo h dbl rd rs1 rs2 (fun a b => if a.slt b then a else b) (fun a b => if a.slt b then a else b))

/-- AMO_MAX, signed (R264). -/
def execAmoMax (h : Hart) (dbl : Bool) (_ : Order) (_ : Scope) (rd rs1 rs2 : Fin 32) (s : State) : Out :=
  .next (s.amo h dbl rd rs1 rs2 (fun a b => if a.slt b then b else a) (fun a b => if a.slt b then b else a))

/-- AMO_MINU (R264). -/
def execAmoMinu (h : Hart) (dbl : Bool) (_ : Order) (_ : Scope) (rd rs1 rs2 : Fin 32) (s : State) : Out :=
  .next (s.amo h dbl rd rs1 rs2 (fun a b => if a.ult b then a else b) (fun a b => if a.ult b then a else b))

/-- AMO_MAXU (R264). -/
def execAmoMaxu (h : Hart) (dbl : Bool) (_ : Order) (_ : Scope) (rd rs1 rs2 : Fin 32) (s : State) : Out :=
  .next (s.amo h dbl rd rs1 rs2 (fun a b => if a.ult b then b else a) (fun a b => if a.ult b then b else a))

/-- CAS: x[rs2] where the old value equals x[rd], its low half for size 4 (R264). -/
def execCas (h : Hart) (dbl : Bool) (_ : Order) (_ : Scope) (rd rs1 rs2 : Fin 32) (s : State) : Out :=
  .next (s.atomic h dbl rs1 true true
    (fun c old => if old = (c.get rd).toNat % 2 ^ (8 * amoBytes dbl) then some (c.get rs2).toNat else none)
    (fun c old => c.put rd (amoOld dbl old)))

/-- LDA: the word is unchanged (R264). -/
def execLda (h : Hart) (dbl : Bool) (_ : Order) (_ : Scope) (rd rs1 : Fin 32) (s : State) : Out :=
  .next (s.atomic h dbl rs1 true false (fun _ _ => none) (fun c old => c.put rd (amoOld dbl old)))

/-- STA (R264). -/
def execSta (h : Hart) (dbl : Bool) (_ : Order) (_ : Scope) (rs1 rs2 : Fin 32) (s : State) : Out :=
  .next (s.atomic h dbl rs1 false true (fun c _ => some (c.get rs2).toNat) (fun c _ => c))

/-! ## Synchronisation (R265) -/

/-- FENCE: every access of the model is performed in order (R244; log entry 13); of device or system scope on a Keeper, it
invalidates its L1 data lines (R246). -/
def execFence (h : Hart) (sc : Scope) (s : State) : Out :=
  .next (s.instr h .queue fun s c =>
    match h with
    | .keeper k => .next (if sc = .engine then s else s.l1Clear k.val) c
    | .ctx _ => .next s c)

/-- FENCE.I: a fetch of the model observes every store before it, so it only retires (R265). -/
def execFenceI (h : Hart) (s : State) : Out := .next (s.instr h .queue fun s c => .next s c)

/-- WAITT: it waits for the masked tokens, and reports a deferred fault among them (R265, R273). -/
def execWaitt (h : Hart) (mask : Byte) (s : State) : Out :=
  .next (s.engineInstr h (.waitt h mask) .queue fun s c =>
    if c.deferredIn mask.toNat then .report s mask.toNat
    else if c.outstandingIn mask.toNat then .stall none
    else .next s c)

/-- The barrier of an engine with a number; its arrivals since its last completion. -/
def Engine.barrier (v : Engine) (id : Nat) : Option Barrier := v.barriers.find? fun b => b.id = id && !b.arrived.isEmpty

/-- A context resumes behind its BAR. -/
def Ctx.resume (c : Ctx) : Ctx := { c with barrier := none, pc := c.pc + 4 }

/-- A context arrives at a barrier; on the count-th arrival every waiting context resumes (R265). -/
def State.arrive (s : State) (g id count : Nat) (c : Ctx) : State :=
  let e := g / 64
  let before := match (s.engine e).barrier id with
    | some b => b.arrived
    | none => []
  let rest := (s.engine e).barriers.filter fun b => b.id != id
  let s := s.perf e 1
  if before.length + 1 = count then
    let s := s.modEngine e fun v => { v with barriers := rest }
    (before.foldl (fun s k => s.setCtxAt k (s.ctxAt k).resume) s).setCtxAt g { c with pc := c.pc + 4 }
  else
    (s.modEngine e fun v => { v with barriers := rest ++ [{ id := id, count := count, arrived := before ++ [g] }] }).setCtxAt
      g { c with barrier := some id }

/-- BAR: a deferred fault is reported and the context does not arrive (R282); the first arrival fixes the count, and another
count is exception 0x09 (R265). -/
def execBar (h : Hart) (id : Fin 16) (count1 : BitVec 7) (s : State) : Out :=
  .next (s.engineInstr h (.bar h id count1) .queue fun s c =>
    let g := hartKey h
    let count := count1.toNat + 1
    if c.deferredIn 0xFF then .report s 0xFF
    else
      match (s.engine (g / 64)).barrier id.val with
      | some b => if b.count != count then .raise s 0x09 id.val else .leave (s.arrive g id.val count c)
      | none => .leave (s.arrive g id.val count c))

/-- YIELD: the context is not chosen on the next cycle, which no state shows (R265). -/
def execYield (h : Hart) (s : State) : Out := .next (s.instr h .queue fun s c => .next s c)

end Sys2Proof.Machine
end

