-- ==== Sys2Proof/Machine/System.lean ====
section
/-! DEFINITION. The system instructions, thread state words, exceptions that a fetch or a word raises, halts, and the
fixed-function units as threads use them (R275 to R282, R308 to R327, R498 to R499). -/

namespace Sys2Proof.Machine

open Sys2Proof

/-! ## Halts (R498, R502) -/

/-- Halt an engine, and its twin with it. -/
def State.haltEngine (s : State) (e : Nat) : State := (s.unitOf e).foldl (fun s e => s.setObjBit 0x5050 3 e true) s

/-- The cores that halt together: a pair, or one split core. -/
def State.coreUnit (s : State) (c : Nat) : List Nat := if s.keepersSplit then [c] else [c / 2 * 2, c / 2 * 2 + 1]

/-- Halt a Keeper core: the SAFE_ERR pins go low until an alive response after the resume (R502). -/
def State.haltCore (s : State) (c : Nat) : State :=
  let s := (s.coreUnit c).foldl (fun s c => s.setObjBit 0x5050 2 c true) s
  { s with saf := { s.saf with toggle := false } }.drivePins

/-! ## Thread state words (R276) -/

/-- The events pending on a Keeper core: bit 0, a hand-over request on its pair (R352). -/
def State.events (s : State) (c : Nat) : Word := if s.handoverPending (c / 2) then 1 else 0

/-- What a read of a thread state word answers. -/
inductive Tsr where
  | value (v : Word)
  | denied
  | none

/-- A gated word: readable while 0x7010:01 allows the partition (R411). -/
def State.gatedWord (s : State) (e : Nat) (v : Nat) : Tsr :=
  if s.objBit 0x7010 1 (s.enginePart e) then .value (BitVec.ofNat 64 v) else .denied

/-- The value of a thread state word (R276). -/
def State.stateWord (s : State) (h : Hart) (n : Nat) : Tsr :=
  let c := s.ctx h
  if n = 0x004 then .value c.flags
  else if n = 0x010 then .value (BitVec.ofNat 64 s.nowNs)
  else if n = 0x011 then .value (BitVec.ofNat 64 s.clk.ticks)
  else
    match h with
    | .ctx g =>
      let e := g.val / 64
      let b := Amap.get Bank.zero s.banks (s.bankNo e)
      if n = 0x000 then .value (BitVec.ofNat 64 g.val)
      else if n = 0x001 then .value (BitVec.ofNat 64 e)
      else if n = 0x002 then .value (BitVec.ofNat 64 (s.enginePart e))
      else if n = 0x003 then .value c.tag
      else if n = 0x008 then s.gatedWord e b.cycle
      else if 0x009 ≤ n && n ≤ 0x00E then s.gatedWord e (b.counts.getD (n - 9) 0)
      else .none
    | .keeper k =>
      if n = 0x000 then .value (BitVec.ofNat 64 (0xFFFF0000 + k.val))
      else if n = 0x008 then .value (BitVec.ofNat 64 c.cycle)
      else if n = 0x020 then .value c.epc
      else if n = 0x021 then .value c.ecode
      else if n = 0x022 then .value c.eaddr
      else if n = 0x030 then .value c.tvec
      else if n = 0x031 then .value c.scratch
      else if n = 0x032 then .value (s.events k.val)
      else .none

/-- A write of a thread state word, none where it is not writable (R276). -/
def Ctx.setWord (c : Ctx) (h : Hart) (n : Nat) (v : Word) : Option Ctx :=
  if n = 0x004 then some { c with flags := v &&& flagsMask h }
  else
    match h with
    | .ctx _ => none
    | .keeper _ =>
      if n = 0x020 then some { c with epc := v }
      else if n = 0x021 then some { c with ecode := v &&& 0xFF }
      else if n = 0x022 then some { c with eaddr := v }
      else if n = 0x030 then some { c with tvec := v }
      else if n = 0x031 then some { c with scratch := v }
      else none

/-! ## System instructions (R275) -/

/-- TSR (R275, R276). -/
def execTsr (h : Hart) (rd : Fin 32) (n : BitVec 14) (s : State) : Out :=
  .next (s.instr h .scalar fun s c =>
    match s.stateWord h n.toNat with
    | .value v => .next s (c.put rd v)
    | .denied => .raise s 0x06 n.toNat
    | .none => .raise s 0x01 (firstWord (.tsr h rd n)))

/-- TSW (R275, R276). -/
def execTsw (h : Hart) (rs1 : Fin 32) (n : BitVec 14) (s : State) : Out :=
  .next (s.instr h .scalar fun s c =>
    match c.setWord h n.toNat (c.get rs1) with
    | some c => .next s c
    | none => .raise s 0x01 (firstWord (.tsw h rs1 n)))

/-- TRAP: exception 0x04 with EADDR the immediate (R275). -/
def execTrap (h : Hart) (imm : BitVec 14) (s : State) : Out :=
  .next (s.instr h .scalar fun s _ => .raise s 0x04 imm.toNat)

/-- BREAK: a halt under break catch in BENCH, else exception 0x05 (R275, R499). -/
def execBrk (h : Hart) (s : State) : Out :=
  .next (s.instr h .scalar fun s _ =>
    let caught : Bool := s.pw.mode = .bench && s.objBit 0x5050 4 (if isCtx h then 0 else 1)
    if !caught then .raise s 0x05 0
    else
      match h with
      | .ctx g => .leave (s.haltEngine (g.val / 64))
      | .keeper c => .leave (s.haltCore c.val))

/-- WFE: a Keeper core waits until EVENTS is non-zero (R275). -/
def execWfe (h : Hart) (s : State) : Out :=
  .next (s.keeperInstr h (.wfe h) fun s c =>
    if s.events (hartKey h - 3072) != 0 then .next s c else .jump s { c with waiting := true })

/-- WFE_WAKE: EVENTS has become non-zero (R275). -/
def execWfeWake (c : Fin 4) (s : State) : Out :=
  let h : Hart := .keeper c
  .next (
    if (s.ctx h).waiting && s.events c.val != 0 && !s.coreHalted c.val then
      s.setCtx h { s.ctx h with waiting := false, pc := (s.ctx h).pc + 4 }
    else s)

/-- ERET: the return from an exception; illegal while FLAGS [8] is 0 (R275, R280). -/
def execEret (h : Hart) (s : State) : Out :=
  .next (s.keeperInstr h (.eret h) fun s c =>
    if c.inException then .jump s { c.leaveExc with pc := c.epc &&& ~~~3 } else .raise s 0x01 (firstWord (.eret h)))

/-- An exception that a twin pair raises: where its engines differ in it, or one alone raises it, it is a signature mismatch
and no job fault (R279, R363). -/
def State.pairExc (s : State) (h : Hart) (code eaddr : Nat) (agree : Bool) : Ran :=
  if !agree && isCtx h && s.twinned then .leave (s.twinMismatch (hartKey h / 64) (s.jobOf (hartKey h)))
  else .raise s code eaddr

/-- ILLEGAL_INSTRUCTION: a word that the decoder refuses (R258). -/
def execIllegalInstruction (h : Hart) (met : MetWord) (s : State) : Out :=
  .next (if (decodeThread h met.word.toNat 0).isSome then s
    else s.instr h .scalar fun s _ => s.pairExc h 0x01 met.word.toNat met.agree)

/-- The kind of the fault of a fetch at an address, 0 for none (R236, R281). -/
def State.fetchKind (s : State) (h : Hart) (a : Nat) : Nat :=
  match s.place (.hart h) .fetch a with
  | .inl k => k
  | .inr (.cells pa _) => if s.poisoned pa 4 then 6 else 0
  | .inr _ => 2

/-- INSTRUCTION_FETCH_FAULT: EPC is the PC, and EADDR the address of the word that faults (R281, R282). -/
def execInstructionFetchFault (h : Hart) (kind : Fin 8) (met : MetFault) (s : State) : Out :=
  let a := ((s.ctx h).pc + (if met.second then 4 else 0)).toNat
  .next (if kind.val != 0 && s.fetchKind h a = kind.val && s.runs h then
      match s.pairExc h (0x10 + kind.val) a met.agree with
      | .leave t => t
      | _ => s.exc h (0x10 + kind.val) a
    else s)

/-! ## The fixed-function units as threads use them (R309, R314, R320) -/

/-- A trigger: an 8-byte store to a port's offset 0 (R309). -/
def State.triggerStore (s : State) (h : Hart) (u : Nat) (desc : Word) : State :=
  s.instr h .memory fun s c => s.storeThen h c (unitWindow u + hartKey h * 0x400) (leBytes 8 desc.toNat) true

/-- RECURRENCE_SLOT_STEP: a trigger of the Recurrence Unit; the descriptor says slot mode (R313, R315). -/
def execRecurrenceSlotStep (h : Hart) (desc : Word) (s : State) : Out := .next (s.triggerStore h 1 desc)

/-- RECURRENCE_BATCH_STEP: a trigger of the Recurrence Unit; the descriptor says batch mode (R313, R315). -/
def execRecurrenceBatchStep (h : Hart) (desc : Word) (s : State) : Out := .next (s.triggerStore h 1 desc)

/-- RECURRENCE_STEP_DONE (R310, R315, R317). -/
def execRecurrenceStepDone (s : State) : Out := .next s.stepDone.settle

/-- SAMPLING_FILTER: a trigger of the Sampling Unit; the descriptor says filter mode (R322, R324). -/
def execSamplingFilter (h : Hart) (desc : Word) (s : State) : Out := .next (s.triggerStore h 2 desc)

/-- SAMPLING_GUMBEL_MAX: a trigger of the Sampling Unit; the descriptor says Gumbel-max (R322, R325). -/
def execSamplingGumbelMax (h : Hart) (desc : Word) (s : State) : Out := .next (s.triggerStore h 2 desc)

/-- SAMPLING_DONE (R310, R323 to R325). -/
def execSamplingDone (s : State) : Out := .next s.sampleDone.settle

/-- MIX4_LOAD: a load from the Random Unit port's words (R320). -/
def execMix4Load (h : Hart) (rd : Fin 32) (size : Fin 4) (off : Fin 16) (s : State) : Out :=
  .next (s.instr h .memory fun s c =>
    s.loadThen h (unitWindow 3 + hartKey h * 0x400 + 0x20 + off.val) (2 ^ size.val) .clean
      fun s v => .next s (c.put rd (BitVec.ofNat 64 v)))

/-- STATE_SLOT_STORE: an 8-byte store into the state table (R314). -/
def execStateSlotStore (h : Hart) (slot : Fin 4096) (word : Fin 2) (v : Word) (s : State) : Out :=
  .next (s.instr h .memory fun s c => s.storeThen h c (slotAddr slot.val + 8 * word.val) (leBytes 8 v.toNat) true)

end Sys2Proof.Machine
end

