-- ==== Sys2Proof/Machine/TensorInstr.lean ====
section
/-! DEFINITION. The tensor and the queue instructions (R271 to R274, R295). -/

namespace Sys2Proof.Machine

open Sys2Proof

/-! ## Issue (R271, R287) -/

/-- The physical address of a descriptor that lies in the data area of the issuing polder's own store room, 64-byte
aligned (R271). -/
def State.ownDesc (s : State) (g a : Nat) : Option Nat :=
  match storeOf a with
  | some (e, off) =>
    if a % 64 = 0 && off + 64 ≤ 0x1C0000 && s.lead e == s.lead (g / 64) then some (storeRoom (s.lead e) + off) else none
  | none => none

/-- Issue a tensor operation from the descriptor at x[rs1]: the checks, then the lowest free token. -/
def State.issueTensor (s : State) (g : Nat) (c : Ctx) (rd rs1 : Fin 32) (copy : Bool) (mode : Nat)
    (valid : List Byte → Bool) : Ran :=
  let a := (c.get rs1).toNat
  match s.ownDesc g a with
  | none => .raise s 0x08 a
  | some pa =>
    if s.poisoned pa 64 then .raise s 0x16 a
    else
      let d := s.memBytes pa 64
      if !valid d then .raise s 0x08 a
      else
        match c.freeToken with
        | none => .stall none
        | some t =>
          let o : TensorOp :=
            { token := t, copy := copy, desc := d, mode := mode, addr := a, pc := c.pc.toNat, finished := false, fault := none,
              job := ((s.jobOf g).map (·.id)).getD 0 }
          let s := if copy then s else s.modEngine (g / 64) fun v => { v with tops := v.tops ++ [(g % 64, t)] }
          .next s ({ c with ops := c.ops ++ [o] }.put rd (BitVec.ofNat 64 t))

/-- TOP (R271, R287). -/
def execTop (h : Hart) (rd rs1 : Fin 32) (prec : Precision) (acc deq : Bool) (s : State) : Out :=
  .next (s.engineInstr h (.top h rd rs1 prec acc deq) .tensor fun s c =>
    s.issueTensor (hartKey h) c rd rs1 false (precCode prec * 4 + b2n acc * 2 + b2n deq)
      fun d => TopOp.valid { d := d, prec := precCode prec, acc := acc, deq := deq })

/-- TMOVE (R272). -/
def execTmove (h : Hart) (rd rs1 : Fin 32) (s : State) : Out :=
  .next (s.engineInstr h (.tmove h rd rs1) .tensor fun s c => s.issueTensor (hartKey h) c rd rs1 true 0 moveValid)

/-! ## Completion (R273, R295) -/

/-- Whether an operation of a context waits behind an earlier faulted one: it never starts (R273). -/
def Ctx.behindFault (c : Ctx) (token : Nat) : Bool := (c.ops.takeWhile fun o => o.token != token).any (·.fault.isSome)

/-- Whether an operation may be running: it has not finished, nothing before it of its context has faulted, and a TOP is the
first of its engine's that may run (R295). -/
def State.mayFinish (s : State) (g : Nat) (o : TensorOp) : Bool :=
  let c := s.ctxAt g
  let v := s.engine (g / 64)
  (s.level (g / 64) = 0 || (s.level (g / 64) = 4 && v.dike.any fun d => d.step = 2)) &&
  !o.finished && o.fault.isNone && !c.behindFault o.token &&
  (o.copy || (v.tops.find? fun p => !(s.ctxAt (g / 64 * 64 + p.1)).behindFault p.2) == some (g % 64, o.token))

/-- Cellar traffic of an operation, read and write regions as address and length (R409). -/
def TensorOp.traffic (o : TensorOp) : List (Nat × Nat) × List (Nat × Nat) :=
  if o.copy then
    let at_ (b st k : Nat) : Nat := (((field o.desc b 8 : Int) + k * toSigned 32 (field o.desc st 4)) % (2 : Int) ^ 64).toNat
    let rows := List.range (field o.desc 20 4)
    (rows.map fun k => (at_ 0 24 k, field o.desc 16 4), rows.map fun k => (at_ 8 28 k, field o.desc 16 4))
  else
    let t := o.top
    ([(t.wts, t.packLen), (t.inp, t.inLen)] ++ (if t.n = 0 then [] else [(t.outl, t.olLen)]) ++
      (if t.acc then [(t.accA, t.accLen)] else []),
     [if t.deq then (t.out, t.outLen) else (t.accA, t.accLen)])

/-- 64-byte units of the cellar in a list of regions. -/
def unitsOf (l : List (Nat × Nat)) : Nat := l.foldl (fun n r => n + cellarUnits r.1 r.2) 0

/-- The place of one word of a copy, checked as the thread's own access would be (R236, R272), or the kind of its fault; a
power-gated polder wakes for it and serves it. -/
def State.movePlace (s : State) (h : Hart) (acc : Acs) (a : Nat) (bs : List Byte) : Nat ⊕ (Place × State) :=
  match s.access h acc a 8 bs with
  | .fault k => .inl k
  | .ok p => .inr (p, s)
  | .wake e =>
    match s.place (.hart h) acc a with
    | .inr (.gated _ pa m) => if acc = .read && s.poisoned pa 8 then .inl 6 else .inr (.cells pa m, s.wakeEngine e)
    | _ => .inl 5

/-- Copy one 8-byte word: its fault, if any, and the state (R272). -/
def State.copyWord (s : State) (h : Hart) (src dst : Nat) : Option (Nat × Nat) × State :=
  match s.movePlace h .read src [] with
  | .inl k => (some (k, src), s)
  | .inr (p, s) =>
    let r := s.loadFrom h p 8
    match r.2.movePlace h .write dst r.1 with
    | .inl k => (some (k, dst), r.2)
    | .inr (q, s) => (none, s.storeTo h q r.1)

/-- Copy 8-byte words in ascending order, each read before it is written, up to the first fault. -/
def State.copyWords (s : State) (h : Hart) (src dst n : Nat) : Option (Nat × Nat) × State :=
  (List.range n).foldl (fun r k =>
    if r.1.isSome then r else r.2.copyWord h ((src + 8 * k) % 2 ^ 64) ((dst + 8 * k) % 2 ^ 64)) (none, s)

/-- Run a TMOVE: rows in ascending order. -/
def State.runMove (s : State) (h : Hart) (d : List Byte) : Option (Nat × Nat) × State :=
  let at_ (base : Nat) (st : Nat) (k : Nat) : Nat := (((base : Int) + k * toSigned 32 st) % (2 : Int) ^ 64).toNat
  let r := (List.range (field d 20 4)).foldl (fun r k =>
    if r.1.isSome then r else
      r.2.copyWords h (at_ (field d 0 8) (field d 24 4) k) (at_ (field d 8 8) (field d 28 4) k) (field d 16 4 / 8))
    ((none, s) : Option (Nat × Nat) × State)
  (r.1.map fun f => (0x10 + f.1, f.2), r.2)

/-- TENSOR_OP_DONE: the operation performs its accesses and its token is freed in issue order, or its fault is deferred
(R273, R295). -/
def execTensorOpDone (g : Fin 3072) (token : Fin 8) (s : State) : Out :=
  .next (
    match (s.ctxAt g.val).ops.find? fun o => o.token = token.val with
    | none => s
    | some o =>
      if !s.mayFinish g.val o then s
      else
        let e := g.val / 64
        let r := if o.copy then s.runMove (.ctx g) o.desc else s.runTop (.hart (.ctx g)) e o
        let s := if o.copy then r.2 else r.2.modEngine e fun v => { v with tops := v.tops.erase (g.val % 64, token.val) }
        let t := o.traffic
        let s := if r.1.isSome then s else (s.perf e 0x09 (unitsOf t.1)).perf e 0x0A (unitsOf t.2)
        let c := s.ctxAt g.val
        let c := { c with ops := c.ops.map fun (x : TensorOp) =>
          if x.token = token.val then { x with finished := r.1.isNone, fault := r.1 } else x }
        (s.setCtxAt g.val c.freeTokens).settle)

/-! ## Queue instructions (R274) -/

/-- Whether a thread may name a queue: 0 to 511, and of its partition. -/
def State.mayQueue (s : State) (g q : Nat) : Bool := q < 512 && s.queuePart q == s.enginePart (g / 64)

/-- Exception 0x13 of a queue instruction: EADDR is "the faulting address" (R278), and there is none, so it takes a free
value (log entry 2). -/
def State.badQueue (s : State) : Ran :=
  let f := s.takeFree
  .raise f.2 0x13 (Config.freeWord f.1).toNat

/-- SUBMIT: the descriptor is read at execution, and rd takes the status (R274, R333). -/
def execSubmit (h : Hart) (rd rs1 rs2 : Fin 32) (s : State) : Out :=
  .next (s.engineInstr h (.submit h rd rs1 rs2) .queue fun s c =>
    let q := (c.get rs2).toNat
    let a := (c.get rs1).toNat
    if !s.mayQueue (hartKey h) q then s.badQueue
    else if a % 64 != 0 then .raise s 0x17 a
    else
      let s := s.wakeReach (.hart h) a 64
      match s.fetchBy (.hart h) a 64 with
      | .inl f => .raise s (0x10 + f.1) f.2
      | .inr d =>
        let r := s.submit q d false
        .next r.2 (c.put rd (BitVec.ofNat 64 r.1)))

/-- CANCEL (R274, R340). -/
def execCancel (h : Hart) (rd rs1 rs2 : Fin 32) (s : State) : Out :=
  .next (s.engineInstr h (.cancel h rd rs1 rs2) .queue fun s c =>
    let q := (c.get rs2).toNat
    if !s.mayQueue (hartKey h) q then s.badQueue
    else
      let r := s.cancelTag q (c.get rs1).toNat
      .next r.2.settle (c.put rd (BitVec.ofNat 64 r.1)))

/-- A context has ended its part; the job is done when every context has (R274, R339), which may end its guest's fleet job
(R436 step 4). -/
def State.ctxEnded (s : State) (g : Nat) : State :=
  match s.jobOf g with
  | none => s
  | some j =>
    if j.harts.all fun k => (s.ctxAt k).ended.isSome then
      let user := ((j.harts.map fun k => (s.ctxAt k).ended.getD 0).find? (· != 0)).getD 0
      let s := match (s.engine j.engine).dike with
        | some d => if d.step = 2 && s.now = d.at_ + 50 then s.nearMissIn 0x4020 7 j.engine else s
        | none => s
      let s := (s.endJob j.id 0 0).settle
      if j.part = 0 then s else s.guestFinish (j.part - 1) user
    else s

/-- JOBEND: it waits for the context's tokens, and reports a deferred fault (R273, R274). -/
def execJobend (h : Hart) (rs1 : Fin 32) (s : State) : Out :=
  .next (s.engineInstr h (.jobend h rs1) .queue fun s c =>
    if c.deferredIn 0xFF then .report s 0xFF
    else if c.outstandingIn 0xFF then .stall none
    else
      let c := { c with ended := some ((c.get rs1).toNat % 256), pc := c.pc + 4 }
      .leave ((s.retired h c).ctxEnded (hartKey h)))

end Sys2Proof.Machine
end

