-- ==== Sys2Proof/Machine/Vector.lean ====
section
/-! DEFINITION. The vector operate instructions (R266 to R268). -/

namespace Sys2Proof.Machine

open Sys2Proof

/-! ## Forms -/

/-- A lane-wise operation that sets no flag. -/
def State.vecOp (s : State) (h : Hart) (i : Instr) (vd vs1 : Fin 8) (src : VSrc) (pr : Option (Fin 4))
    (f : Half → Half → Half) : State :=
  s.engineInstr h i .vector fun s c => .next s (c.putLanes vd pr fun k => f (c.lane vs1 k) (c.src src k))

/-- A lane-wise operation with the sticky flags of its enabled lanes: vd, vs1 and the second operand of a lane. -/
def State.vecFlagOp (s : State) (h : Hart) (i : Instr) (vd vs1 : Fin 8) (src : VSrc) (pr : Option (Fin 4))
    (f : Half → Half → Half → Half × Nat) : State :=
  s.engineInstr h i .vector fun s c =>
    let r (k : Fin 64) : Half × Nat := f (c.lane vd k) (c.lane vs1 k) (c.src src k)
    .next s ((c.putLanes vd pr fun k => (r k).1).orFlags (c.laneFlags pr fun k => (r k).2))

/-- An FP32 operation on two operands. -/
def fpLane (f : Nat → Nat → Nat × Nat) (a b : Half) : Half × Nat :=
  let r := f a.toNat b.toNat
  (BitVec.ofNat 32 r.1, r.2)

/-- A conversion of one operand. -/
def cvtLane (f : Nat → Nat × Nat) (a : Half) : Half × Nat :=
  let r := f a.toNat
  (BitVec.ofNat 32 r.1, r.2)

/-- A compare into a predicate register, with the sticky flags of its enabled lanes. -/
def State.vecCmp (s : State) (h : Hart) (i : Instr) (pd : Fin 4) (vs1 : Fin 8) (src : VSrc) (pr : Option (Fin 4))
    (f : Half → Half → Bool × Nat) : State :=
  s.engineInstr h i .vector fun s c =>
    let r (k : Fin 64) : Bool × Nat := f (c.lane vs1 k) (c.src src k)
    .next s ((c.putPred pd pr fun k => (r k).1).orFlags (c.laneFlags pr fun k => (r k).2))

/-- A compare of either type: 0 equal, 1 less than, 2 less than or equal (R267). -/
def cmpLane (fp : Bool) (kind : Nat) (a b : Half) : Bool × Nat :=
  if fp then f32Cmp kind a.toNat b.toNat
  else (if kind = 0 then a == b else if kind = 1 then a.slt b else a.sle b, 0)

/-- A signed result saturated to 32 bits; a saturation sets FLAGS [0] (R267). -/
def satLane (v : Int) : Half × Nat :=
  if v < -(2 : Int) ^ 31 then (0x80000000, flagSat)
  else if (2 : Int) ^ 31 ≤ v then (0x7FFFFFFF, flagSat)
  else (BitVec.ofInt 32 v, 0)

/-- The rounding shift of VRSHR (R267). -/
def rshrLane (sh : Nat) (a : Half) : Half :=
  if sh = 0 then a else BitVec.ofInt 32 ((a.toInt + (2 : Int) ^ (sh - 1)) / (2 : Int) ^ sh)

/-- FP32 to INT32: saturating, NaN gives 0 (R267); a value outside the range is invalid (log entry 7). -/
def toIntLane (a : Half) : Half × Nat :=
  let r := f32ToInt (-(2 : Int) ^ 31) ((2 : Int) ^ 31 - 1) a.toNat
  (BitVec.ofInt 32 r.1, if r.2 || f32IsNan a.toNat then flagInvalid else 0)

/-! ## Integer operations (R267) -/

/-- VADD (R267). -/
def execVadd (h : Hart) (vd vs1 : Fin 8) (src : VSrc) (pr : Option (Fin 4)) (s : State) : Out :=
  .next (s.vecOp h (.vadd h vd vs1 src pr) vd vs1 src pr (· + ·))

/-- VSUB (R267). -/
def execVsub (h : Hart) (vd vs1 : Fin 8) (src : VSrc) (pr : Option (Fin 4)) (s : State) : Out :=
  .next (s.vecOp h (.vsub h vd vs1 src pr) vd vs1 src pr (· - ·))

/-- VMUL: the low 32 bits (R267). -/
def execVmul (h : Hart) (vd vs1 : Fin 8) (src : VSrc) (pr : Option (Fin 4)) (s : State) : Out :=
  .next (s.vecOp h (.vmul h vd vs1 src pr) vd vs1 src pr (· * ·))

/-- VMULH: the signed high 32 bits (R267). -/
def execVmulh (h : Hart) (vd vs1 : Fin 8) (src : VSrc) (pr : Option (Fin 4)) (s : State) : Out :=
  .next (s.vecOp h (.vmulh h vd vs1 src pr) vd vs1 src pr (fun a b => BitVec.ofInt 32 (a.toInt * b.toInt / (2 : Int) ^ 32)))

/-- VAND (R267). -/
def execVand (h : Hart) (vd vs1 : Fin 8) (src : VSrc) (pr : Option (Fin 4)) (s : State) : Out :=
  .next (s.vecOp h (.vand h vd vs1 src pr) vd vs1 src pr (· &&& ·))

/-- VOR (R267). -/
def execVor (h : Hart) (vd vs1 : Fin 8) (src : VSrc) (pr : Option (Fin 4)) (s : State) : Out :=
  .next (s.vecOp h (.vor h vd vs1 src pr) vd vs1 src pr (· ||| ·))

/-- VXOR (R267). -/
def execVxor (h : Hart) (vd vs1 : Fin 8) (src : VSrc) (pr : Option (Fin 4)) (s : State) : Out :=
  .next (s.vecOp h (.vxor h vd vs1 src pr) vd vs1 src pr (· ^^^ ·))

/-- VSLL (R267). -/
def execVsll (h : Hart) (vd vs1 : Fin 8) (src : VSrc) (pr : Option (Fin 4)) (s : State) : Out :=
  .next (s.vecOp h (.vsll h vd vs1 src pr) vd vs1 src pr (fun a b => a <<< (b.toNat % 32)))

/-- VSRL (R267). -/
def execVsrl (h : Hart) (vd vs1 : Fin 8) (src : VSrc) (pr : Option (Fin 4)) (s : State) : Out :=
  .next (s.vecOp h (.vsrl h vd vs1 src pr) vd vs1 src pr (fun a b => a >>> (b.toNat % 32)))

/-- VSRA (R267). -/
def execVsra (h : Hart) (vd vs1 : Fin 8) (src : VSrc) (pr : Option (Fin 4)) (s : State) : Out :=
  .next (s.vecOp h (.vsra h vd vs1 src pr) vd vs1 src pr (fun a b => a.sshiftRight (b.toNat % 32)))

/-- VMIN, signed (R267). -/
def execVmin (h : Hart) (vd vs1 : Fin 8) (src : VSrc) (pr : Option (Fin 4)) (s : State) : Out :=
  .next (s.vecOp h (.vmin h vd vs1 src pr) vd vs1 src pr (fun a b => if a.slt b then a else b))

/-- VMAX, signed (R267). -/
def execVmax (h : Hart) (vd vs1 : Fin 8) (src : VSrc) (pr : Option (Fin 4)) (s : State) : Out :=
  .next (s.vecOp h (.vmax h vd vs1 src pr) vd vs1 src pr (fun a b => if a.slt b then b else a))

/-- VABS: the most negative value gives the most positive and sets FLAGS [0] (R267). -/
def execVabs (h : Hart) (vd vs1 : Fin 8) (pr : Option (Fin 4)) (s : State) : Out :=
  .next (s.vecFlagOp h (.vabs h vd vs1 pr) vd vs1 (.vv 0) pr (fun _ a _ => satLane |a.toInt|))

/-- VADDS, saturating (R267). -/
def execVadds (h : Hart) (vd vs1 : Fin 8) (src : VSrc) (pr : Option (Fin 4)) (s : State) : Out :=
  .next (s.vecFlagOp h (.vadds h vd vs1 src pr) vd vs1 src pr (fun _ a b => satLane (a.toInt + b.toInt)))

/-- VSUBS, saturating (R267). -/
def execVsubs (h : Hart) (vd vs1 : Fin 8) (src : VSrc) (pr : Option (Fin 4)) (s : State) : Out :=
  .next (s.vecFlagOp h (.vsubs h vd vs1 src pr) vd vs1 src pr (fun _ a b => satLane (a.toInt - b.toInt)))

/-- VRSHR: the shift is x[rs] [4:0] (R267). -/
def execVrshr (h : Hart) (vd vs1 : Fin 8) (rs : Fin 32) (pr : Option (Fin 4)) (s : State) : Out :=
  .next (s.vecOp h (.vrshr h vd vs1 rs pr) vd vs1 (.vs rs) pr (fun a b => rshrLane (b.toNat % 32) a))

/-! ## FP32 operations (R268) -/

/-- VFADD (R268). -/
def execVfadd (h : Hart) (vd vs1 : Fin 8) (src : VSrc) (pr : Option (Fin 4)) (s : State) : Out :=
  .next (s.vecFlagOp h (.vfadd h vd vs1 src pr) vd vs1 src pr (fun _ a b => fpLane f32Add a b))

/-- VFSUB (R268). -/
def execVfsub (h : Hart) (vd vs1 : Fin 8) (src : VSrc) (pr : Option (Fin 4)) (s : State) : Out :=
  .next (s.vecFlagOp h (.vfsub h vd vs1 src pr) vd vs1 src pr (fun _ a b => fpLane f32Sub a b))

/-- VFMUL (R268). -/
def execVfmul (h : Hart) (vd vs1 : Fin 8) (src : VSrc) (pr : Option (Fin 4)) (s : State) : Out :=
  .next (s.vecFlagOp h (.vfmul h vd vs1 src pr) vd vs1 src pr (fun _ a b => fpLane f32Mul a b))

/-- VFMIN: the non-NaN operand, −0 below +0 (R268). -/
def execVfmin (h : Hart) (vd vs1 : Fin 8) (src : VSrc) (pr : Option (Fin 4)) (s : State) : Out :=
  .next (s.vecFlagOp h (.vfmin h vd vs1 src pr) vd vs1 src pr (fun _ a b => fpLane (f32Ext true) a b))

/-- VFMAX: the non-NaN operand, −0 below +0 (R268). -/
def execVfmax (h : Hart) (vd vs1 : Fin 8) (src : VSrc) (pr : Option (Fin 4)) (s : State) : Out :=
  .next (s.vecFlagOp h (.vfmax h vd vs1 src pr) vd vs1 src pr (fun _ a b => fpLane (f32Ext false) a b))

/-- VFMA: vd + vs1 × vs2 with one rounding (R267, R268). -/
def execVfma (h : Hart) (vd vs1 : Fin 8) (src : VSrc) (pr : Option (Fin 4)) (s : State) : Out :=
  .next (s.vecFlagOp h (.vfma h vd vs1 src pr) vd vs1 src pr (fun d a b => fpLane (f32Fma d.toNat) a b))

/-! ## Compares, select, broadcast (R267) -/

/-- VCEQ (R267). -/
def execVceq (h : Hart) (fp : Bool) (pd : Fin 4) (vs1 : Fin 8) (src : VSrc) (pr : Option (Fin 4)) (s : State) : Out :=
  .next (s.vecCmp h (.vceq h fp pd vs1 src pr) pd vs1 src pr (cmpLane fp 0))

/-- VCLT (R267). -/
def execVclt (h : Hart) (fp : Bool) (pd : Fin 4) (vs1 : Fin 8) (src : VSrc) (pr : Option (Fin 4)) (s : State) : Out :=
  .next (s.vecCmp h (.vclt h fp pd vs1 src pr) pd vs1 src pr (cmpLane fp 1))

/-- VCLE (R267). -/
def execVcle (h : Hart) (fp : Bool) (pd : Fin 4) (vs1 : Fin 8) (src : VSrc) (pr : Option (Fin 4)) (s : State) : Out :=
  .next (s.vecCmp h (.vcle h fp pd vs1 src pr) pd vs1 src pr (cmpLane fp 2))

/-- VCLTU (R267). -/
def execVcltu (h : Hart) (pd : Fin 4) (vs1 : Fin 8) (src : VSrc) (pr : Option (Fin 4)) (s : State) : Out :=
  .next (s.vecCmp h (.vcltu h pd vs1 src pr) pd vs1 src pr (fun a b => (a.ult b, 0)))

/-- VSEL: the predicate chooses in every lane (R267). -/
def execVsel (h : Hart) (vd vs1 : Fin 8) (src : VSrc) (pr : Fin 4) (s : State) : Out :=
  .next (s.engineInstr h (.vsel h vd vs1 src pr) .vector fun s c =>
    .next s (c.putLanes vd none fun k => if c.enabled (some pr) k then c.lane vs1 k else c.src src k))

/-- VBCAST (R267). -/
def execVbcast (h : Hart) (vd : Fin 8) (rs : Fin 32) (pr : Option (Fin 4)) (s : State) : Out :=
  .next (s.vecOp h (.vbcast h vd rs pr) vd vd (.vs rs) pr (fun _ b => b))

/-! ## Conversions (R267, R268) -/

/-- VCVTIF: INT32 to FP32 (R267). -/
def execVcvtif (h : Hart) (vd vs1 : Fin 8) (pr : Option (Fin 4)) (s : State) : Out :=
  .next (s.vecFlagOp h (.vcvtif h vd vs1 pr) vd vs1 (.vv 0) pr (fun _ a _ => cvtLane (fun a => fp32.ofInt (toSigned 32 a)) a))

/-- VCVTFH: FP32 to FP16 (R267). -/
def execVcvtfh (h : Hart) (vd vs1 : Fin 8) (pr : Option (Fin 4)) (s : State) : Out :=
  .next (s.vecFlagOp h (.vcvtfh h vd vs1 pr) vd vs1 (.vv 0) pr (fun _ a _ => cvtLane fp16.narrow a))

/-- VCVTFB: FP32 to BF16 (R267). -/
def execVcvtfb (h : Hart) (vd vs1 : Fin 8) (pr : Option (Fin 4)) (s : State) : Out :=
  .next (s.vecFlagOp h (.vcvtfb h vd vs1 pr) vd vs1 (.vv 0) pr (fun _ a _ => cvtLane bf16.narrow a))

/-- VCVTFI: FP32 to INT32 (R267). -/
def execVcvtfi (h : Hart) (vd vs1 : Fin 8) (pr : Option (Fin 4)) (s : State) : Out :=
  .next (s.vecFlagOp h (.vcvtfi h vd vs1 pr) vd vs1 (.vv 0) pr (fun _ a _ => toIntLane a))

end Sys2Proof.Machine
end

