-- ==== Sys2Proof/Machine/VectorMem.lean ====
section
/-! DEFINITION. The vector memory and the vector reduce and permute instructions (R269, R270). -/

namespace Sys2Proof.Machine

open Sys2Proof

/-! ## Vector memory (R269) -/

/-- The address of a lane: base + lane × stride, modulo 2^64. -/
def laneAddr (base stride : Word) (k : Fin 64) : Nat := (base + BitVec.ofNat 64 k.val * stride).toNat

/-- What the checks of a vector access found: the first fault in lane order, an engine to wake, or every lane's place. -/
inductive LaneCheck where
  | fault (kind a : Nat)
  | wake (e : Nat)
  | ok (l : List (Fin 64 × Nat × Place))

/-- Check every enabled lane before any is accessed. -/
def State.checkLanes (s : State) (h : Hart) (c : Ctx) (acc : Acs) (n : Nat) (base stride : Word)
    (pr : Option (Fin 4)) : LaneCheck :=
  lanes.foldl (fun r k =>
    match r with
    | .ok l =>
      if !c.enabled pr k then .ok l
      else
        let a := laneAddr base stride k
        match s.reach h acc a n with
        | .fault kd => .fault kd a
        | .wake e => .wake e
        | .ok p => .ok (l ++ [(k, a, p)])
    | r => r) (.ok [])

/-- Count a vector access of an engine: the distinct 64-byte units of the cellar, and a load from another store room
(R409). -/
def State.lanesPerf (s : State) (h : Hart) (write : Bool) (l : List (Fin 64 × Nat × Place)) : State :=
  match h with
  | .keeper _ => s
  | .ctx g =>
    let e := g.val / 64
    let units := ((l.filter fun q => q.2.1 < cellarEnd).map fun q => q.2.1 / 64).eraseDups.length
    let far := l.any fun q => match storeOf q.2.1 with
      | some p => s.lead p.1 != s.lead e
      | none => false
    let s := if units = 0 then s else s.perf e (if write then 0x0A else 0x09) units
    if !write && far then s.perf e 0x0B else s

/-- A vector load (R269). -/
def State.vecLoad (s : State) (h : Hart) (i : Instr) (el : Elem) (vd : Fin 8) (pr : Option (Fin 4))
    (base stride : Ctx → Word) : State :=
  s.engineInstr h i .memory fun s c =>
    let n := Elem.bytes el
    match s.checkLanes h c .read n (base c) (stride c) pr with
    | .fault k a => .raise s (0x10 + k) a
    | .wake e => .stall (some e)
    | .ok l =>
      let r := l.foldl (fun (r : List (Fin 64 × Half) × State) q =>
        let v := r.2.loadFrom h q.2.2 n
        ((q.1, Elem.extend el (leVal v.1)) :: r.1, v.2)) (([], s.lanesPerf h false l) : List (Fin 64 × Half) × State)
      .next r.2 (c.putLanes vd pr fun k => ((r.1.find? fun q => q.1 = k).map (·.2)).getD 0)

/-- The pieces of memory that the lanes of an access reach, with their twins' (R242). -/
def lanePieces (n : Nat) (l : List (Fin 64 × Nat × Place)) : List (Nat × Nat) :=
  l.flatMap fun q =>
    match q.2.2 with
    | .cells pa (some m) => [(pa, n), (m, n)]
    | .cells pa none => [(pa, n)]
    | _ => []

/-- Pieces that together cover a whole word clear its poison (R243, R250). -/
def State.clearCovered (s : State) (l : List (Nat × Nat)) : State :=
  { s with poison := s.poison.filter fun w =>
      !(List.range 8).all fun k => l.any fun p => p.1 ≤ w + k && w + k < p.1 + p.2 }

/-- A vector store: the low bits of the enabled lanes, in lane order (R269). One that would leave a state slot valid and
not fitting is not performed (R314). -/
def State.vecStore (s : State) (h : Hart) (i : Instr) (el : Elem) (vs : Fin 8) (pr : Option (Fin 4))
    (base stride : Ctx → Word) : State :=
  s.engineInstr h i .memory fun s c =>
    let n := Elem.bytes el
    let bytes (k : Fin 64) : List Byte := leBytes n (c.lane vs k).toNat
    match s.checkLanes h c .write n (base c) (stride c) pr with
    | .fault k a => .raise s (0x10 + k) a
    | .wake e => .stall (some e)
    | .ok l =>
      let t := (l.foldl (fun s q => s.storeTo h q.2.2 (bytes q.1)) (s.lanesPerf h true l)).clearCovered (lanePieces n l)
      match l.find? fun q => t.badSlot q.2.2 with
      | some q => .raise s 0x12 q.2.1
      | none => .next t c

/-- VLOAD (R269). -/
def execVload (h : Hart) (el : Elem) (vd : Fin 8) (rs1 : Fin 32) (pr : Option (Fin 4)) (s : State) : Out :=
  .next (s.vecLoad h (.vload h el vd rs1 pr) el vd pr (·.get rs1) (fun _ => BitVec.ofNat 64 (Elem.bytes el)))

/-- VSTORE (R269). -/
def execVstore (h : Hart) (el : Elem) (vs : Fin 8) (rs1 : Fin 32) (pr : Option (Fin 4)) (s : State) : Out :=
  .next (s.vecStore h (.vstore h el vs rs1 pr) el vs pr (·.get rs1) (fun _ => BitVec.ofNat 64 (Elem.bytes el)))

/-- VLOAD_STRIDED (R269). -/
def execVloadStrided (h : Hart) (el : Elem) (vd : Fin 8) (rs1 rs2 : Fin 32) (pr : Option (Fin 4)) (s : State) : Out :=
  .next (s.vecLoad h (.vloadStrided h el vd rs1 rs2 pr) el vd pr (·.get rs1) (·.get rs2))

/-- VSTORE_STRIDED (R269). -/
def execVstoreStrided (h : Hart) (el : Elem) (vs : Fin 8) (rs1 rs2 : Fin 32) (pr : Option (Fin 4)) (s : State) : Out :=
  .next (s.vecStore h (.vstoreStrided h el vs rs1 rs2 pr) el vs pr (·.get rs1) (·.get rs2))

/-! ## Reductions (R270) -/

/-- One level of the pairwise sum over adjacent lanes; a lane that takes no part leaves its partner as it is, with the
flags of the sums (R270; log entry 14). -/
def sumLevel (l : List (Option Nat)) : List (Option Nat) × Nat :=
  match l with
  | some a :: some b :: t =>
    let r := f32Add a b
    let u := sumLevel t
    (some r.1 :: u.1, r.2 ||| u.2)
  | a :: b :: t =>
    let u := sumLevel t
    ((a.or b) :: u.1, u.2)
  | l => (l, 0)

/-- The FP32 sum in six levels, and its flags: a NaN is the canonical one, and a signalling one sets invalid (R268), also
where it is alone; no active lane gives 0. -/
def fpSum (l : List (Option Nat)) : Nat × Nat :=
  let r := (List.range 6).foldl (fun r _ => let u := sumLevel r.1; (u.1, r.2 ||| u.2)) (l, 0)
  let v := (r.1.head?.bind id).getD 0
  (if f32IsNan v then fp32.nan else v,
   r.2 ||| (if l.any fun x => x.any fun v => (fp32.read v).signals then flagInvalid else 0))

/-- The enabled lanes of a register, with their numbers. -/
def Ctx.active (c : Ctx) (v : Fin 8) (pr : Option (Fin 4)) : List (Fin 64 × Half) :=
  (lanes.filter (c.enabled pr)).map fun k => (k, c.lane v k)

/-- The lane with the extreme value, ties to the lower lane; NaN lanes are left out (R270). -/
def extreme (fp high : Bool) (l : List (Fin 64 × Half)) : Option (Fin 64 × Half) :=
  let beats (a b : Half) : Bool :=
    let (x, y) := if high then (b, a) else (a, b)
    if fp then fpBelow (fp32.read x.toNat) (fp32.read y.toNat) else x.slt y
  l.foldl (fun best q =>
    if fp && f32IsNan q.2.toNat then best
    else
      match best with
      | none => some q
      | some b => if beats q.2 b.2 then some q else best) none

/-- The invalid flag of a reduction that meets a signalling NaN (log entry 7). -/
def nanFlags (fp : Bool) (l : List (Fin 64 × Half)) : Nat :=
  if fp && l.any (fun q => (fp32.read q.2.toNat).signals) then flagInvalid else 0

/-- VRSUM (R270). -/
def execVrsum (h : Hart) (fp : Bool) (rd : Fin 32) (vs1 : Fin 8) (pr : Option (Fin 4)) (s : State) : Out :=
  .next (s.engineInstr h (.vrsum h fp rd vs1 pr) .vector fun s c =>
    if fp then
      let r := fpSum (lanes.map fun k => if c.enabled pr k then some (c.lane vs1 k).toNat else none)
      .next s ((c.put rd (BitVec.ofNat 64 r.1)).orFlags r.2)
    else .next s (c.put rd (sx32 ((c.active vs1 pr).foldl (fun a q => a + q.2) 0))))

/-- The identity of a maximum or minimum (R270). -/
def redIdentity (fp high : Bool) : Half :=
  if fp then (if high then 0xFF800000 else 0x7F800000) else if high then 0x80000000 else 0x7FFFFFFF

/-- A maximum or minimum in its register: INT32 sign-extended, FP32 in [31:0] (log entry 14). -/
def State.vecExtreme (s : State) (h : Hart) (i : Instr) (fp high : Bool) (rd : Fin 32) (vs1 : Fin 8)
    (pr : Option (Fin 4)) : State :=
  s.engineInstr h i .vector fun s c =>
    let l := c.active vs1 pr
    let v := ((extreme fp high l).map (·.2)).getD (redIdentity fp high)
    .next s ((c.put rd (if fp then v.setWidth 64 else sx32 v)).orFlags (nanFlags fp l))

/-- VRMAX (R270). -/
def execVrmax (h : Hart) (fp : Bool) (rd : Fin 32) (vs1 : Fin 8) (pr : Option (Fin 4)) (s : State) : Out :=
  .next (s.vecExtreme h (.vrmax h fp rd vs1 pr) fp true rd vs1 pr)

/-- VRMIN (R270). -/
def execVrmin (h : Hart) (fp : Bool) (rd : Fin 32) (vs1 : Fin 8) (pr : Option (Fin 4)) (s : State) : Out :=
  .next (s.vecExtreme h (.vrmin h fp rd vs1 pr) fp false rd vs1 pr)

/-- VRARGMAX: 64 with no active lane (R270). -/
def execVrargmax (h : Hart) (fp : Bool) (rd : Fin 32) (vs1 : Fin 8) (pr : Option (Fin 4)) (s : State) : Out :=
  .next (s.engineInstr h (.vrargmax h fp rd vs1 pr) .vector fun s c =>
    let l := c.active vs1 pr
    let n := ((extreme fp true l).map (·.1.val)).getD 64
    .next s ((c.put rd (BitVec.ofNat 64 n)).orFlags (nanFlags fp l)))

/-! ## Permutes (R270) -/

/-- A lane of a register by number, 0 outside 0 to 63. -/
def Ctx.laneAt (c : Ctx) (v : Fin 8) (k : Int) : Half :=
  if 0 ≤ k then (if h : k.toNat < 64 then c.lane v ⟨k.toNat, h⟩ else 0) else 0

/-- VSLIDEUP, with k the unsigned value of x[rs] (R270). -/
def execVslideup (h : Hart) (vd vs1 : Fin 8) (rs : Fin 32) (pr : Option (Fin 4)) (s : State) : Out :=
  .next (s.engineInstr h (.vslideup h vd vs1 rs pr) .vector fun s c =>
    .next s (c.putLanes vd pr fun i => c.laneAt vs1 ((i.val : Int) - (c.get rs).toNat)))

/-- VSLIDEDOWN, with k the unsigned value of x[rs] (R270). -/
def execVslidedown (h : Hart) (vd vs1 : Fin 8) (rs : Fin 32) (pr : Option (Fin 4)) (s : State) : Out :=
  .next (s.engineInstr h (.vslidedown h vd vs1 rs pr) .vector fun s c =>
    .next s (c.putLanes vd pr fun i => c.laneAt vs1 ((i.val : Int) + (c.get rs).toNat)))

/-- VPERM (R270). -/
def execVperm (h : Hart) (vd vs1 vs2 : Fin 8) (pr : Option (Fin 4)) (s : State) : Out :=
  .next (s.engineInstr h (.vperm h vd vs1 vs2 pr) .vector fun s c =>
    .next s (c.putLanes vd pr fun i => c.laneAt vs1 ((c.lane vs2 i).toNat % 64 : Nat)))

/-- VCOMPRESS: the enabled lanes in lane order, then 0; rd takes their count (R270). -/
def execVcompress (h : Hart) (vd vs1 : Fin 8) (rd : Fin 32) (pr : Fin 4) (s : State) : Out :=
  .next (s.engineInstr h (.vcompress h vd vs1 rd pr) .vector fun s c =>
    let l := (c.active vs1 (some pr)).map (·.2)
    .next s ((c.putLanes vd none fun i => l.getD i.val 0).put rd (BitVec.ofNat 64 l.length)))

/-- VFIRST (R270). -/
def execVfirst (h : Hart) (rd : Fin 32) (vs1 : Fin 8) (s : State) : Out :=
  .next (s.engineInstr h (.vfirst h rd vs1) .vector fun s c => .next s (c.put rd (sx32 (c.lane vs1 0))))

end Sys2Proof.Machine
end

