-- ==== Sys2Proof/Machine/Debug.lean ====
section
/-! DEFINITION. The debug port: the TAP's instructions and the operations of SDAP (chapter 22, R494 to R504). -/

namespace Sys2Proof.Machine

open Sys2Proof

/-! ## The TAP (R494)

A command of the TAP says that TRST_N is deasserted when it arrives (log entry 36). -/

/-- The TAP serves in every state but OFF and PARKED. -/
def State.tapOn (s : State) : Bool := s.pw.mode.awake

/-- An instruction is shifted in: its data register is selected. -/
def State.selectReg (s : State) (ir : Nat) : State := { s with pins := { s.pins with tapReg := ir } }

/-- Whether an SDAP session is open (R496). -/
def State.session (s : State) : Bool := s.live 0x38

/-- The session ends, and every halted target resumes (R496, R502a). -/
def State.endDebug (s : State) : State := ((s.dropPath 0x38).endHalts).settleHeld

/-- TRST_N_ASSERT (R496, R502a): Test-Logic-Reset, in which IEEE 1149.1 has IDCODE selected (log entry 36). -/
def execTrstNAssert (s : State) : Out := .next (if s.pw.mode = .off then s else (s.selectReg 1).endDebug)

/-- EXTEST (R494): effective in BENCH with a session open; else BYPASS, counted. -/
def execExtest (s : State) : Out :=
  .next (
    if !s.tapOn then s
    else if s.pw.mode = .bench && s.session then s.selectReg 0
    else (s.selectReg 0xFF).bump 0x5050 5)

/-- IDCODE (R494). -/
def execIdcode (s : State) : Out :=
  .next (if s.tapOn then (s.selectReg 1).emit (.jtag 0 (leBytes 4 0x1C9604B3)) else s)

/-- SAMPLE_PRELOAD (R494). -/
def execSamplePreload (s : State) : Out := .next (if s.tapOn then s.selectReg 2 else s)

/-- BYPASS (R494). -/
def execBypass (s : State) : Out := .next (if s.tapOn then s.selectReg 0xFF else s)

/-! ## Requests and responses (R495) -/

/-- A response: operation, status, refusal code, data. -/
def State.sdapReply (s : State) (op st code : Nat) (v : List Byte) : State :=
  s.emit (.jtag st (leBytes 1 op ++ leBytes 1 st ++ leBytes 4 code ++ leBytes 2 0 ++ padTo 8 v))

/-- A request that is done. -/
def State.sdapDone (s : State) (op : Nat) (v : List Byte) : State := s.sdapReply op 0 0 v

/-- A request refused for its state, its session or its target: counted. -/
def State.sdapRefused (s : State) (op code : Nat) : State := (s.bump 0x5050 5).sdapReply op 2 code []

/-- A request: dropped while the one before it has not been answered; every operation but 0x06 requires a session. -/
def State.sdap (s : State) (op : Nat) (f : State → State) : State :=
  if !s.tapOn then s
  else
    let s := s.selectReg 0x20
    if (s.path 0x38).busy.isSome then s.sdapReply op 1 0 []
    else if op != 6 && !s.session then s.sdapRefused op 0x08000022
    else f s

/-- A request that BENCH alone allows. -/
def State.sdapBench (s : State) (op : Nat) (f : State → State) : State :=
  s.sdap op fun s => if s.pw.mode = .bench then f s else s.sdapRefused op 0x08000022

/-! ## Sessions and resets (R496, R501) -/

/-- SDAP_SESSION_OPEN (R496). -/
def execSdapSessionOpen (s : State) : Out :=
  .next (s.sdap 6 fun s => if s.session then s.sdapRefused 6 0x08000022 else (s.freshPath 0x38).sdapDone 6 [])

/-- SDAP_SESSION_CLOSE (R496). -/
def execSdapSessionClose (s : State) : Out := .next (s.sdap 7 fun s => (s.sdapDone 7 []).endDebug)

/-- SDAP_DEBUG_RESET (R501): a device reset of cause 0x06, in BENCH and SAFE. -/
def execSdapDebugReset (s : State) : Out :=
  .next (s.sdap 8 fun s =>
    if s.pw.mode = .bench || s.pw.mode = .safe then (s.sdapDone 8 []).deviceReset 6 0 else s.sdapRefused 8 0x08000022)

/-- What a target field names: a Keeper core, or an engine (R495). -/
inductive DebugTarget where
  | core (c : Fin 4)
  | engine (e : Fin 48)
  deriving DecidableEq, Repr

/-- Read a target field. -/
def debugTarget (t : Nat) : Option DebugTarget :=
  if h : t < 4 then some (.core ⟨t, h⟩)
  else if h : 0x10 ≤ t ∧ t < 0x40 then some (.engine ⟨t - 0x10, by omega⟩)
  else none

/-- SDAP_ENGINE_RESET (R495, R501): the dike closes with cause 0x07; a Keeper target is refused. -/
def execSdapEngineReset (t : Byte) (s : State) : Out :=
  .next (s.sdapBench 9 fun s =>
    match debugTarget t.toNat with
    | some (.engine e) => ((s.closeDike e.val 7 0xFFFF false false).settle).sdapDone 9 []
    | _ => s.sdapRefused 9 0x06090030)

/-! ## Objects (R496, R497) -/

/-- The answer of an object operation. -/
def State.sdapObject (s : State) (op code : Nat) (v : List Byte) : State :=
  if code = 0 then s.sdapDone op v else s.sdapReply op 2 code []

/-- A value that one operation moves: DOMAIN and strings are reached through the mailbox (R496). -/
def sdapMoves (idx sub : Nat) : Bool := (rowOf idx sub).ty.size ≤ 8

/-- An object read on path 0x38; a quiet read of a clearing object has no other effect (R497). -/
def State.sdapRead (s : State) (idx sub : Nat) (active : Bool) : State :=
  let r := s.dictRead 0x38 idx sub
  if r.1 = 0 && !sdapMoves idx sub then (s.refuse 0x38 idx sub 0x06010000).sdapObject 1 0x06010000 []
  else if !active && r.1 = 0 && (rowOf idx sub).acc = .rc then s.sdapObject 1 0 r.2.1
  else r.2.2.sdapObject 1 r.1 r.2.1

/-- SDAP_OBJECT_READ (R497): an active read counts. -/
def execSdapObjectRead (idx : BitVec 16) (sub : Byte) (active : Bool) (s : State) : Out :=
  .next (s.sdap 1 fun s =>
    let s := s.sdapRead idx.toNat sub.toNat active
    if active then s.bump 0x5050 6 else s)

/-- SDAP_OBJECT_WRITE (R496): the response to a write that waits for the attic waits with it. -/
def execSdapObjectWrite (idx : BitVec 16) (sub : Byte) (data : List Byte) (s : State) : Out :=
  .next (s.sdap 2 fun s =>
    let r := s.accessOn 0x38 idx.toNat sub.toNat data
    (if r.2.1 then r.2.2.modPath 0x38 fun q => { q with busy := some [] } else r.2.2.sdapObject 2 r.1 []).settleHeld)

/-! ## Halt, resume, step (R498, R500, R502) -/

/-- SDAP_HALT (R498, R500): in BENCH the target halts; a Keeper target in DRIVE is a class-S detection with code 0x10. -/
def execSdapHalt (t : Byte) (s : State) : Out :=
  .next (s.sdap 3 fun s =>
    match debugTarget t.toNat, s.pw.mode with
    | some (.core c), .drive => ((s.bump 0x5050 7).classS 0x10 c.val).sdapReply 3 2 0x08000022 []
    | some (.core c), .bench => (s.haltCore c.val).sdapDone 3 []
    | some (.engine e), .bench => (s.haltEngine e.val).sdapDone 3 []
    | none, .bench => s.sdapRefused 3 0x06090030
    | _, _ => s.sdapRefused 3 0x08000022)

/-- Whether a target is halted. -/
def State.targetHalted (s : State) (t : DebugTarget) : Bool :=
  match t with
  | .core c => s.coreHalted c.val
  | .engine e => s.engineHalted e.val

/-- End the halt of a target: of its pair, or its unit (R498). -/
def State.resumeTarget (s : State) (t : DebugTarget) : State :=
  match t with
  | .core c => (s.coreUnit c.val).foldl (fun s k => s.setObjBit 0x5050 2 k false) s
  | .engine e => (s.unitOf e.val).foldl (fun s k => s.setObjBit 0x5050 3 k false) s

/-- A resume or a step of a halted target; any other is refused with no effect. -/
def State.sdapHalted (s : State) (op : Nat) (t : Nat) (f : State → DebugTarget → State) : State :=
  s.sdapBench op fun s =>
    match debugTarget t with
    | none => s.sdapRefused op 0x06090030
    | some g => if s.targetHalted g then (f s g).sdapDone op [] else s.sdapRefused op 0x08000022

/-- SDAP_RESUME (R498, R502): the target runs, and what Keeper B's halt has held is served. -/
def execSdapResume (t : Byte) (s : State) : Out :=
  .next (s.sdapHalted 4 t.toNat fun s g => s.resumeTarget g).settleHeld

/-- Run an instruction of the thread instruction set. -/
def State.runThread (s : State) (i : Instr) : Out :=
  match i with
  | .add h rd rs1 rs2 w => execAdd h rd rs1 rs2 w s
  | .sub h rd rs1 rs2 w => execSub h rd rs1 rs2 w s
  | .andR h rd rs1 rs2 w => execAndR h rd rs1 rs2 w s
  | .orR h rd rs1 rs2 w => execOrR h rd rs1 rs2 w s
  | .xor h rd rs1 rs2 w => execXor h rd rs1 rs2 w s
  | .sll h rd rs1 rs2 w => execSll h rd rs1 rs2 w s
  | .srl h rd rs1 rs2 w => execSrl h rd rs1 rs2 w s
  | .sra h rd rs1 rs2 w => execSra h rd rs1 rs2 w s
  | .slt h rd rs1 rs2 w => execSlt h rd rs1 rs2 w s
  | .sltu h rd rs1 rs2 w => execSltu h rd rs1 rs2 w s
  | .minR h rd rs1 rs2 w => execMinR h rd rs1 rs2 w s
  | .maxR h rd rs1 rs2 w => execMaxR h rd rs1 rs2 w s
  | .minu h rd rs1 rs2 w => execMinu h rd rs1 rs2 w s
  | .maxu h rd rs1 rs2 w => execMaxu h rd rs1 rs2 w s
  | .mul h rd rs1 rs2 w => execMul h rd rs1 rs2 w s
  | .div h rd rs1 rs2 w => execDiv h rd rs1 rs2 w s
  | .divu h rd rs1 rs2 w => execDivu h rd rs1 rs2 w s
  | .rem h rd rs1 rs2 w => execRem h rd rs1 rs2 w s
  | .remu h rd rs1 rs2 w => execRemu h rd rs1 rs2 w s
  | .mulh h rd rs1 rs2 => execMulh h rd rs1 rs2 s
  | .mulhu h rd rs1 rs2 => execMulhu h rd rs1 rs2 s
  | .clz h rd rs1 w => execClz h rd rs1 w s
  | .ctz h rd rs1 w => execCtz h rd rs1 w s
  | .popc h rd rs1 w => execPopc h rd rs1 w s
  | .addi h rd rs1 imm => execAddi h rd rs1 imm s
  | .andi h rd rs1 imm => execAndi h rd rs1 imm s
  | .ori h rd rs1 imm => execOri h rd rs1 imm s
  | .xori h rd rs1 imm => execXori h rd rs1 imm s
  | .slti h rd rs1 imm => execSlti h rd rs1 imm s
  | .sltiu h rd rs1 imm => execSltiu h rd rs1 imm s
  | .addiw h rd rs1 imm => execAddiw h rd rs1 imm s
  | .slli h rd rs1 sh => execSlli h rd rs1 sh s
  | .srli h rd rs1 sh => execSrli h rd rs1 sh s
  | .srai h rd rs1 sh => execSrai h rd rs1 sh s
  | .li h rd imm => execLi h rd imm s
  | .lih h rd imm => execLih h rd imm s
  | .lpc h rd imm => execLpc h rd imm s
  | .beq h rs1 rs2 off => execBeq h rs1 rs2 off s
  | .bne h rs1 rs2 off => execBne h rs1 rs2 off s
  | .blt h rs1 rs2 off => execBlt h rs1 rs2 off s
  | .bge h rs1 rs2 off => execBge h rs1 rs2 off s
  | .bltu h rs1 rs2 off => execBltu h rs1 rs2 off s
  | .bgeu h rs1 rs2 off => execBgeu h rs1 rs2 off s
  | .j h off => execJ h off s
  | .jal h off => execJal h off s
  | .jr h rd rs1 => execJr h rd rs1 s
  | .load h size sext rd rs1 imm ecc => execLoad h size sext rd rs1 imm ecc s
  | .store h size rs2 rs1 imm agree => execStore h size rs2 rs1 imm agree s
  | .swap h dbl ord sc rd rs1 rs2 => execSwap h dbl ord sc rd rs1 rs2 s
  | .amoAdd h dbl ord sc rd rs1 rs2 => execAmoAdd h dbl ord sc rd rs1 rs2 s
  | .amoAnd h dbl ord sc rd rs1 rs2 => execAmoAnd h dbl ord sc rd rs1 rs2 s
  | .amoOr h dbl ord sc rd rs1 rs2 => execAmoOr h dbl ord sc rd rs1 rs2 s
  | .amoXor h dbl ord sc rd rs1 rs2 => execAmoXor h dbl ord sc rd rs1 rs2 s
  | .amoMin h dbl ord sc rd rs1 rs2 => execAmoMin h dbl ord sc rd rs1 rs2 s
  | .amoMax h dbl ord sc rd rs1 rs2 => execAmoMax h dbl ord sc rd rs1 rs2 s
  | .amoMinu h dbl ord sc rd rs1 rs2 => execAmoMinu h dbl ord sc rd rs1 rs2 s
  | .amoMaxu h dbl ord sc rd rs1 rs2 => execAmoMaxu h dbl ord sc rd rs1 rs2 s
  | .cas h dbl ord sc rd rs1 rs2 => execCas h dbl ord sc rd rs1 rs2 s
  | .lda h dbl ord sc rd rs1 => execLda h dbl ord sc rd rs1 s
  | .sta h dbl ord sc rs1 rs2 => execSta h dbl ord sc rs1 rs2 s
  | .fence h sc => execFence h sc s
  | .fenceI h => execFenceI h s
  | .waitt h mask => execWaitt h mask s
  | .bar h id count1 => execBar h id count1 s
  | .yield h => execYield h s
  | .vadd h vd vs1 src pr => execVadd h vd vs1 src pr s
  | .vsub h vd vs1 src pr => execVsub h vd vs1 src pr s
  | .vmul h vd vs1 src pr => execVmul h vd vs1 src pr s
  | .vmulh h vd vs1 src pr => execVmulh h vd vs1 src pr s
  | .vand h vd vs1 src pr => execVand h vd vs1 src pr s
  | .vor h vd vs1 src pr => execVor h vd vs1 src pr s
  | .vxor h vd vs1 src pr => execVxor h vd vs1 src pr s
  | .vsll h vd vs1 src pr => execVsll h vd vs1 src pr s
  | .vsrl h vd vs1 src pr => execVsrl h vd vs1 src pr s
  | .vsra h vd vs1 src pr => execVsra h vd vs1 src pr s
  | .vmin h vd vs1 src pr => execVmin h vd vs1 src pr s
  | .vmax h vd vs1 src pr => execVmax h vd vs1 src pr s
  | .vadds h vd vs1 src pr => execVadds h vd vs1 src pr s
  | .vsubs h vd vs1 src pr => execVsubs h vd vs1 src pr s
  | .vfadd h vd vs1 src pr => execVfadd h vd vs1 src pr s
  | .vfsub h vd vs1 src pr => execVfsub h vd vs1 src pr s
  | .vfmul h vd vs1 src pr => execVfmul h vd vs1 src pr s
  | .vfma h vd vs1 src pr => execVfma h vd vs1 src pr s
  | .vfmin h vd vs1 src pr => execVfmin h vd vs1 src pr s
  | .vfmax h vd vs1 src pr => execVfmax h vd vs1 src pr s
  | .vceq h fp pd vs1 src pr => execVceq h fp pd vs1 src pr s
  | .vclt h fp pd vs1 src pr => execVclt h fp pd vs1 src pr s
  | .vcle h fp pd vs1 src pr => execVcle h fp pd vs1 src pr s
  | .vabs h vd vs1 pr => execVabs h vd vs1 pr s
  | .vrshr h vd vs1 rs pr => execVrshr h vd vs1 rs pr s
  | .vcltu h pd vs1 src pr => execVcltu h pd vs1 src pr s
  | .vsel h vd vs1 src pr => execVsel h vd vs1 src pr s
  | .vbcast h vd rs pr => execVbcast h vd rs pr s
  | .vcvtif h vd vs1 pr => execVcvtif h vd vs1 pr s
  | .vcvtfi h vd vs1 pr => execVcvtfi h vd vs1 pr s
  | .vcvtfh h vd vs1 pr => execVcvtfh h vd vs1 pr s
  | .vcvtfb h vd vs1 pr => execVcvtfb h vd vs1 pr s
  | .vload h el vd rs1 pr => execVload h el vd rs1 pr s
  | .vstore h el vs rs1 pr => execVstore h el vs rs1 pr s
  | .vloadStrided h el vd rs1 rs2 pr => execVloadStrided h el vd rs1 rs2 pr s
  | .vstoreStrided h el vs rs1 rs2 pr => execVstoreStrided h el vs rs1 rs2 pr s
  | .vrsum h fp rd vs1 pr => execVrsum h fp rd vs1 pr s
  | .vrmax h fp rd vs1 pr => execVrmax h fp rd vs1 pr s
  | .vrmin h fp rd vs1 pr => execVrmin h fp rd vs1 pr s
  | .vrargmax h fp rd vs1 pr => execVrargmax h fp rd vs1 pr s
  | .vslideup h vd vs1 rs pr => execVslideup h vd vs1 rs pr s
  | .vslidedown h vd vs1 rs pr => execVslidedown h vd vs1 rs pr s
  | .vperm h vd vs1 vs2 pr => execVperm h vd vs1 vs2 pr s
  | .vcompress h vd vs1 rd pr => execVcompress h vd vs1 rd pr s
  | .vfirst h rd vs1 => execVfirst h rd vs1 s
  | .top h rd rs1 prec acc deq => execTop h rd rs1 prec acc deq s
  | .tmove h rd rs1 => execTmove h rd rs1 s
  | .submit h rd rs1 rs2 => execSubmit h rd rs1 rs2 s
  | .cancel h rd rs1 rs2 => execCancel h rd rs1 rs2 s
  | .jobend h rs1 => execJobend h rs1 s
  | .tsr h rd n => execTsr h rd n s
  | .tsw h rs1 n => execTsw h rs1 n s
  | .trap h imm => execTrap h imm s
  | .brk h => execBrk h s
  | .wfe h => execWfe h s
  | .eret h => execEret h s
  | _ => .next s

/-- The first word of the instruction at a context's PC, 0 where the fetch faults. -/
def State.nextWord (s : State) (g : Nat) : Nat :=
  match s.place (.hart (portHart g)) .fetch (s.ctxAt g).pc.toNat with
  | .inr (.cells pa _) => s.memNat pa 4
  | _ => 0

/-- Fetch, decode and run the instruction at a hart's PC (R257, R258, R281). -/
def State.fetchRun (s : State) (h : Hart) : State :=
  let a := (s.ctx h).pc.toNat
  let word (a : Nat) : Nat :=
    match s.place (.hart h) .fetch a with
    | .inr (.cells pa _) => s.memNat pa 4
    | _ => 0
  if s.fetchKind h a != 0 then s.exc h (0x10 + s.fetchKind h a) a
  else if isLong (word a) && s.fetchKind h (a + 4) != 0 then s.exc h (0x10 + s.fetchKind h (a + 4)) (a + 4)
  else
    match decodeThread h (word a) (word (a + 4)) with
    | some i => s.after (s.runThread i)
    | none => s.after (execIllegalInstruction h ⟨BitVec.ofNat 32 (word a), true⟩ s)

/-- The hart of a target that steps: the core, which a pair's leader stands for; on an engine, the context whose turn it is on
one of the pipelines that a ready context waits for (R233), which of them a free value chooses (log entry 37). -/
def State.stepHart (s : State) (t : DebugTarget) : Option Hart × State :=
  match t with
  | .core c =>
    let k : Fin 4 := if s.keepersSplit then c else ⟨c.val / 2 * 2, by omega⟩
    (if s.ready (.keeper k) then some (.keeper k) else none, s)
  | .engine e =>
    let n := s.lead e.val
    let l := (List.range 64).filter fun k => s.ctxReady (n * 64 + k)
    let waits (p : Pipe) : List Nat := l.filter fun k => wordPipe (s.nextWord (n * 64 + k)) = p
    let ps := [Pipe.scalar, .vector, .tensor, .memory, .queue].filter fun p => !(waits p).isEmpty
    let f := s.takeFree
    match (ps[(Config.freeWord f.1).toNat % ps.length]?).bind fun p => s.nextCtx n p (waits p) with
    | none => (none, s)
    | some k => if h : n * 64 + k < 3072 then (some (.ctx ⟨_, h⟩), f.2) else (none, s)

/-- One instruction of a halted target, which is halted again (R498). -/
def State.stepTarget (s : State) (t : DebugTarget) : State :=
  let cores := s.obj 0x5050 2
  let engines := s.obj 0x5050 3
  let r := (s.resumeTarget t).stepHart t
  match r.1 with
  | none => s
  | some h =>
    let s := r.2.fetchRun h
    (s.setObj 0x5050 2 (s.obj 0x5050 2 ||| cores)).setObj 0x5050 3 (s.obj 0x5050 3 ||| engines)

/-- SDAP_STEP (R498). -/
def execSdapStep (t : Byte) (s : State) : Out := .next (s.sdapHalted 5 t.toNat fun s g => s.stepTarget g)

/-! ## Memory operations (R496)

They reach any address of the map with the host partition's translation, context areas and Keeper memories among them. -/

/-- Where a memory operation leads. -/
inductive DebugPlace where
  | cells (a : Nat) (mirror : Option Nat)
  | slot (g o : Nat)
  | port (pair off : Nat)
  | bell (q off : Nat)
  | unit (u off : Nat)
  | pool (a : Nat)
  | none
  deriving DecidableEq, Repr

/-- The place of an aligned address (R232, R235, R242, R352). -/
def State.debugPlace (s : State) (a : Nat) : DebugPlace :=
  let off := a - keeperBase
  if a % 8 != 0 then .none
  else if a < cellarEnd then
    match s.translate 0 .read a with
    | .inr pa => .cells pa none
    | .inl _ => .none
  else
    match storeOf a with
    | some (e, o) =>
      let e := s.lead e
      if 0x1C0000 ≤ o then .slot (e * 64 + (o - 0x1C0000) / 0x1000) (o % 0x1000)
      else .cells (storeRoom e + o) (if s.twinned then some (storeRoom (e + 1) + o) else Option.none)
    | Option.none =>
      if keeperBase ≤ a && a < keeperBase + 0x400000 then
        if off / 0x1000 = 0xFF then .port 0 (off % 0x1000)
        else if off / 0x1000 = 0x2FF then .port 1 (off % 0x1000)
        else .cells a Option.none
      else if bellBase ≤ a && a < bellBase + 0x200000 then .bell ((a - bellBase) / 0x1000) (a % 0x1000)
      else if unitBase ≤ a && a < unitBase + 0x1000000 then
        .unit ((a - unitBase) / 0x400000) ((a - unitBase) % 0x400000)
      else if poolBase ≤ a && a < poolBase + 0x2000000 then .pool a
      else .none

/-- The doorbell view of the debug port. -/
def debugWriter : Nat := 8191

/-- The 8 bytes of a cell place: a word the ECC finds uncorrectable is returned refused, its data a free value (R496, log entry 2). -/
def State.debugCells (s : State) (a : Nat) : State :=
  if s.poisoned a 8 then
    let f := s.takeFree
    f.2.sdapReply 0x0A 2 0x08000020 (leBytes 8 (Config.freeWord f.1).toNat)
  else s.sdapDone 0x0A (s.memBytes a 8)

/-- Read 8 bytes; what no read can be made of is refused with 0x0609_0030 (log entry 37). -/
def State.debugRead (s : State) (a : Nat) : State :=
  match s.debugPlace a with
  | .cells pa _ => s.debugCells pa
  | .pool pa => s.debugCells pa
  | .slot g o => s.sdapDone 0x0A (leBytes 8 ((s.ctxAt g).slotWord o))
  | .port pair off => s.sdapDone 0x0A (s.portRead pair off 8)
  | .bell q off => s.sdapDone 0x0A (s.bellRead q debugWriter off 8)
  | .unit u off =>
    if s.unitKind (portHart (off / 0x400)) u off 8 false != 0 then s.sdapReply 0x0A 2 0x06090030 []
    else
      let r := s.unitLoad u off 8
      r.2.sdapDone 0x0A r.1
  | .none => s.sdapReply 0x0A 2 0x06090030 []

/-- A power-gated polder wakes for an access of the debug port (R62, R253). -/
def State.debugWake (s : State) (a : Nat) : State :=
  match storeOf a with
  | some (e, _) => if s.level e = 2 then s.wakeEngine e else s
  | none => s

/-- SDAP_MEMORY_READ (R496). -/
def execSdapMemoryRead (a : BitVec 48) (s : State) : Out :=
  .next (s.sdapBench 0x0A fun s => (s.debugWake a.toNat).debugRead a.toNat)

/-- Write 8 bytes; what no write can be made to is refused (log entry 37). -/
def State.debugWrite (s : State) (a : Nat) (d : Word) : State :=
  let bs := leBytes 8 d.toNat
  match s.debugPlace a with
  | .cells pa m => (s.cellsWrite pa m bs).sdapDone 0x0B []
  | .pool _ => s.sdapReply 0x0B 2 0x06010002 []
  | .slot g o =>
    if h : g < 3072 then (s.setCtxAt g ((s.ctxAt g).setSlotWord ⟨g, h⟩ o d)).sdapDone 0x0B []
    else s.sdapReply 0x0B 2 0x06090030 []
  | .port pair off => (s.portWrite pair off bs).sdapDone 0x0B []
  | .bell q off => (s.endDoze.bellWrite q debugWriter off bs).sdapDone 0x0B []
  | .unit u off =>
    let h := portHart (off / 0x400)
    if s.unitKind h u off 8 true != 0 then s.sdapReply 0x0B 2 0x06090030 []
    else if (s.memWrite (unitWindow u + off) bs).badSlot (.unit u off) then s.sdapReply 0x0B 2 0x06090030 []
    else if (u = 1 || u = 2) && off < 0x380000 && off % 0x400 = 0 then (s.trigger u h d.toNat).sdapDone 0x0B []
    else (s.tableStore (unitWindow u + off) bs).sdapDone 0x0B []
  | .none => s.sdapReply 0x0B 2 0x06090030 []

/-- SDAP_MEMORY_WRITE (R496). -/
def execSdapMemoryWrite (a : BitVec 48) (d : Word) (s : State) : Out := .next (s.sdapBench 0x0B fun s => (s.debugWake a.toNat).debugWrite a.toNat d)

end Sys2Proof.Machine
end

