-- ==== Sys2Proof/Machine/RecoveryCmds.lean ====
section
/-! DEFINITION. The steps of recovery: the watchdog, the deadlock scan, the dike sequence, partition resets and moves
(chapters 14 and 16). -/

namespace Sys2Proof.Machine

open Sys2Proof

/-- WATCHDOG_EXPIRY (R380). -/
def execWatchdogExpiry (s : State) : Out := .next s.watchdogExpire

/-- DEADLOCK_SCAN (R382, R383): in BENCH, DRIVE, DEPOT and HANDOVER. -/
def execDeadlockScan (s : State) : Out :=
  .next (if s.pw.mode = .bench || s.pw.mode = .drive || s.pw.mode = .depot || s.pw.mode = .handover then s.deadlockScan
    else s)

/-- A polder's dike sequence at a step, by its leading engine. -/
def State.dikeAt (s : State) (e step : Nat) : Option Dike :=
  match (s.engine (s.lead e)).dike with
  | some d => if d.step = step then some d else none
  | none => none

/-- DIKE_DRAIN_EXPIRY (R385 step 3). -/
def execDikeDrainExpiry (e : Fin 48) (s : State) : Out := .next (s.drainEnd (s.lead e.val)).settle

/-- DIKE_RESET_DONE (R385 step 4): contexts, tokens, barriers and directory are reset; the scrub starts. -/
def execDikeResetDone (e : Fin 48) (s : State) : Out :=
  .next (
    match s.dikeAt e.val 4 with
    | none => s
    | some d =>
      ((s.unitOf e.val).foldl (fun s k => s.resetEngine k) s).modEngine (s.lead e.val) fun v =>
        { v with dike := some { d with step := 5 } })

/-- DIKE_SCRUB_DONE (R385 step 5, R363, R365, R389). -/
def execDikeScrubDone (e : Fin 48) (s : State) : Out :=
  .next (
    match s.dikeAt e.val 5 with
    | none => s
    | some d => s.dikeScrubbed (s.lead e.val) d)

/-- DIKE_OPEN (R385 step 6). -/
def execDikeOpen (e : Fin 48) (s : State) : Out :=
  .next (
    match s.dikeAt e.val 6 with
    | none => s
    | some d => s.dikeOpened (s.lead e.val) d)

/-- The cellar pages of a guest's map: base and bytes (R239). -/
def State.guestPages (s : State) (p : Nat) : List (Nat × Nat) :=
  let base := s.obj 0x6021 5 (p - 1)
  let page (a n : Nat) : List (Nat × Nat) := if a + n ≤ s.hostRegion then [(a, n)] else []
  if base = 0 then []
  else
    (List.range 24576).flatMap fun k =>
      let e := s.memNat (base + 8 * k) 8
      if !e.testBit 0 then []
      else if !e.testBit 1 then page (e / 2 ^ 21 % 2 ^ 15 * 2 ^ 21) (2 ^ 21)
      else (List.range 32).flatMap fun j =>
        let t := s.memNat (e / 2 ^ 8 % 2 ^ 28 * 2 ^ 8 + 8 * j) 8
        if t.testBit 0 then page (t / 2 ^ 16 % 2 ^ 20 * 2 ^ 16) (2 ^ 16) else []

/-- A partition reset ends: a guest's cellar pages are scrubbed, submissions are accepted again (R341 steps 3 and 4, R388). -/
def State.partitionResetEnd (s : State) (part : Nat) : State :=
  let s := if part = 0 then s else (s.guestPages part).foldl (fun s r => s.memZero r.1 r.2) s
  let aborted := (s.sched.resets.find? fun r => r.part = part).elim 0 (·.aborted)
  let s := { s with sched := { s.sched with resets := s.sched.resets.filter fun r => r.part != part } }
  s.recLog s.nowNs 0x05 0xFF part 0 0xFFFF aborted 0

/-- Whether the last polder of a partition's reset has been reset. -/
def State.resetReady (s : State) (part : Nat) : Bool := s.sched.resets.any fun r => r.part = part && r.left.isEmpty

/-- PARTITION_MOVE_SCRUB_DONE (R330): the store room is zero, the directory clear, and the engine changes partition. -/
def execPartitionMoveScrubDone (e : Fin 48) (s : State) : Out :=
  .next (
    if (s.engine e.val).moving.isNone then s
    else (s.scrubStore e.val).modEngine e.val fun v => { v with moving := none, dir := [] })

end Sys2Proof.Machine
end

