-- ==== Sys2Proof/Machine/Depot.lean ====
section
/-! DEFINITION. DEPOT: its wipes, its guests, and the phases of HANDOVER (chapter 18, R419 to R441; R51, R341). -/

namespace Sys2Proof.Machine

open Sys2Proof

/-- ENTRY_WIPE_DONE (R421). -/
def execEntryWipeDone (s : State) : Out :=
  .next (if s.pw.mode = .depot && s.obj 0x6100 0x0A = 1 then s.entryWiped else s)

/-- GUEST_START_DONE (R424, R436 steps 1 and 2). -/
def execGuestStartDone (g : Fin 8) (s : State) : Out :=
  .next (
    if s.pw.mode != .depot || !s.guestStartReady g.val then s
    else
      let s := s.guestStarted g.val
      if (s.guest g.val).fleet then s.restoreStart g.val else s)

/-- GUEST_WIPE_DONE (R428). -/
def execGuestWipeDone (g : Fin 8) (s : State) : Out := .next (s.wipeDone g.val)

/-- PARTITION_RESET_DONE (R341 steps 3 and 4, R388, R436 step 5). -/
def execPartitionResetDone (part : Fin 9) (s : State) : Out :=
  .next (
    if !s.resetReady part.val then s
    else
      let s := s.partitionResetEnd part.val
      if part.val = 0 then s else s.guestFaulted (part.val - 1))

/-- QUIESCE_DONE (R439): every guest has stopped, and the checkpoint phase begins; what a guest was being checkpointed for gives
way to HANDOVER. -/
def execQuiesceDone (s : State) : Out :=
  .next (
    if s.pw.mode != .handover || s.obj 0x6100 0x0A != 3 || !((List.range 8).all fun g => s.guestQuiet g) then s
    else
      let s := s.setObj 0x6100 0x0A 4
      let s := (List.range 8).foldl (fun s g =>
        match (s.guest g).ckpt with
        | some c =>
          (match c.purpose with
           | .periodic => s.modGuest g fun v => { v with ckpt := some { c with purpose := .handover } }
           | .requested => s.modGuest g fun v => { v with ckpt := some { c with purpose := .handover } }
           | _ => s)
        | none => s) s
      s.handoverNext)

/-- CHECKPOINT_LIMIT_EXPIRY (R439). -/
def execCheckpointLimitExpiry (s : State) : Out :=
  .next (
    if s.pw.mode = .handover && (s.obj 0x6100 0x0A = 3 || s.obj 0x6100 0x0A = 4) then s.abandonAll else s)

/-- The exit wipe finishes (R429, R439), and the target is decided from IGN: the self-test, or teardown (R51, R91). -/
def State.exitWiped (s : State) : State :=
  if s.pw.mode != .handover || s.obj 0x6100 0x0A != 5 then s
  else
    let s := (List.range 8).foldl (fun s g => s.wipeDone g) s
    let s := (s.zeroOutside.setObj 0x6100 0x0B (s.now - s.depot.t0)).setObj 0x6100 0x0A 0
    let s := { s with depot := { s.depot with outbox := [], pulls := [] } }.setObj 0x6100 0x0D 0
    if s.pw.ign then
      { s with su := { s.su with toDrive := true, freshRun := true, freshOk := false, enginesTested := false } }.setPhase 2
    else s.startTeardown

/-- EXIT_WIPE_DONE (R429). -/
def execExitWipeDone (s : State) : Out := .next s.exitWiped

/-- HANDOVER_WIPE_DONE (R51): the row of chapter 2 for the same event. -/
def execHandoverWipeDone (s : State) : Out := .next s.exitWiped

/-- CHECKPOINT_INTERVAL (R436 step 3); none while the manager is lost, for the guest runs on (R434). -/
def execCheckpointInterval (g : Fin 8) (s : State) : Out :=
  .next (
    let v := s.guest g.val
    if s.pw.mode = .depot && s.holdsJob g.val && s.guestState g.val = 2 && v.ckpt.isNone && v.restore.isNone &&
        field v.offer 16 4 != 0 && s.objB 0x6100 0x0D
    then s.ckptStart g.val .periodic else s)

/-- HASH_BATCH_READY (R449 steps 1 and 2). -/
def execHashBatchReady (g : Fin 8) (s : State) : Out := .next (s.hashBatch g.val)

/-- RESULT_REOFFER (R449). -/
def execResultReoffer (g : Fin 8) (s : State) : Out :=
  .next (
    match (s.guest g.val).reoffer, (s.guest g.val).ckpt with
    | true, some c =>
      (s.modGuest g.val fun v => { v with reoffer := false }).workerSend 0x21 6 0 (s.obj 0x6021 6 g.val)
        (leBytes 32 c.name ++ leBytes 4 c.manifest.length) [7]
    | _, _ => s)

end Sys2Proof.Machine
end

