-- ==== Sys2Proof/Machine/Fleet.lean ====
section
/-! DEFINITION. Fleet and checkpoint messages as they arrive, and the timers of both ends (R430 to R438, R447 to R452). -/

namespace Sys2Proof.Machine

open Sys2Proof

/-- A message of a worker, at the manager: heard, and acted on once. -/
def State.managerIn (s : State) (layer op : Nat) (src : BitVec 32) (m : List Byte) (act : State → State) : State :=
  s.fleetIn layer op src.toNat m fun s =>
    if !s.isManager then s else (s.workerHeard src.toNat (field (msgBody m) 4 8)).once src.toNat m act

/-- A message of the manager, at a worker: acted on once. -/
def State.workerIn (s : State) (layer op : Nat) (src : BitVec 32) (m : List Byte) (act : State → State) : State :=
  s.fleetIn layer op src.toNat m fun s => if !s.isWorker then s else s.once src.toNat m act

/-- Serial, job, sequence and status of a message's head (R430). -/
def msgSerial (m : List Byte) : Nat := field (msgBody m) 4 8
/-- The job. -/
def msgJob (m : List Byte) : Nat := field (msgBody m) 12 8
/-- The sequence number. -/
def msgSeq (m : List Byte) : Nat := field (msgBody m) 20 4
/-- The reason or status. -/
def msgStatus (m : List Byte) : Nat := field (msgBody m) 1 1

/-! ## The manager's side (R435, R438) -/

/-- JOIN (R431). -/
def execFleetJoin (src : BitVec 32) (m : List Byte) (s : State) : Out :=
  .next (s.managerIn 0x20 0x10 src m fun s =>
    (s.workerBeat src.toNat (msgSerial m) (slice (msgBody m) 24 16)).fleetAnswer src.toNat (msgSeq m) 0x20 0x11 0 (msgSerial m) 0 [])

/-- HEARTBEAT (R432). -/
def execFleetHeartbeat (src : BitVec 32) (m : List Byte) (s : State) : Out :=
  .next (s.managerIn 0x20 0x12 src m fun s =>
    (s.workerBeat src.toNat (msgSerial m) (slice (msgBody m) 24 16)).fleetAnswer src.toNat (msgSeq m) 0x20 0x13 0 (msgSerial m) 0 [])

/-- LEAVE (R431): the worker takes no more offers. -/
def execFleetLeave (src : BitVec 32) (m : List Byte) (s : State) : Out :=
  .next (s.managerIn 0x20 0x14 src m fun s =>
    let s := match s.worker (msgSerial m) with
      | some w => s.setWorker (msgSerial m)
          { w with beat := w.beat.set 1 (BitVec.ofNat 8 (if bit (field w.beat 1 1) 2 then field w.beat 1 1 else field w.beat 1 1 + 4)) }
      | none => s
    s.fleetAnswer src.toNat (msgSeq m) 0x20 0x11 0 (msgSerial m) 0 [])

/-- JOB_ACCEPT (R438): the offer is answered; a worker to which the job is no longer given is told to discard it (R435). -/
def execJobAccept (src : BitVec 32) (m : List Byte) (s : State) : Out :=
  .next (s.fleetIn 0x20 0x21 src.toNat m fun s =>
    if !s.isManager then s
    else
      let s := s.workerHeard src.toNat (msgSerial m)
      match s.fleetJob (msgJob m) with
      | none => s
      | some j =>
        if j.worker = msgSerial m then (s.offerEdge j).answeredBy 0x20 0x21 j.id
        else if j.state != 1 then s.sendEvict src.toNat (msgSerial m) j.id 1 else s)

/-- JOB_REFUSE (R438). -/
def execJobRefuse (src : BitVec 32) (m : List Byte) (s : State) : Out :=
  .next (s.fleetIn 0x20 0x22 src.toNat m fun s =>
    if !s.isManager then s
    else
      let s := s.workerHeard src.toNat (msgSerial m)
      match s.fleetJob (msgJob m), s.answered? 0x20 0x22 (msgJob m) with
      | some j, some f => if j.worker = msgSerial m && j.state = 2 then ((s.offerEdge j).clearOutbox f.seq).nextOffer j.id else s
      | _, _ => s)

/-- JOB_STARTED (R436). -/
def execJobStarted (src : BitVec 32) (m : List Byte) (s : State) : Out :=
  .next (s.managerIn 0x20 0x23 src m fun s =>
    s.workerReport src.toNat m fun s j => s.modFleetJob j.id fun j => { j with state := 3, worker := msgSerial m })

/-- CHECKPOINT_DONE (R436, R451); it answers a CHECKPOINT_REQ. -/
def execCheckpointDone (src : BitVec 32) (m : List Byte) (s : State) : Out :=
  .next (s.managerIn 0x20 0x25 src m fun s =>
    (s.answeredBy 0x20 0x25 (msgJob m)).workerReport src.toNat m fun s j =>
      s.jobKeeps j fun j => { j.take (field (msgBody m) 24 32) with state := 3, worker := msgSerial m })

/-- JOB_DONE (R435, R436): a job with a partition fault is not dispatched again. -/
def execJobDone (src : BitVec 32) (m : List Byte) (s : State) : Out :=
  .next (s.managerIn 0x20 0x26 src m fun s =>
    s.workerReport src.toNat m fun s j =>
      s.jobKeeps j fun j =>
        { j with state := if msgStatus m = 0 then 4 else 5, worker := 0, result := field (msgBody m) 24 32 })

/-- JOB_EVICTED (R435): it answers an EVICT; the job of its holder is queued again; of a job that is queued, the manifest is held. -/
def execJobEvicted (src : BitVec 32) (m : List Byte) (s : State) : Out :=
  .next (s.managerIn 0x20 0x28 src m fun s =>
    let s := s.answeredBy 0x20 0x28 (msgJob m)
    let ack (s : State) : State := s.fleetAnswer src.toNat (msgSeq m) 0x20 0x13 0 (msgSerial m) (msgJob m) []
    match s.fleetJob (msgJob m) with
    | none => ack s
    | some j =>
      if j.worker = msgSerial m || j.state = 1 then
        ack (s.jobKeeps j fun j => { j.take (field (msgBody m) 24 32) with state := 1, worker := 0, tried := [] })
      else ack s)

/-- FLEET_JOB_OFFER (R438): the oldest queued job for which a worker qualifies. -/
def execFleetJobOffer (s : State) : Out :=
  .next (
    if !s.isManager then s
    else
      match s.depot.jobs.find? fun j => j.state = 1 && (s.bestWorker j).isSome with
      | some j => s.offerJob j
      | none => s)

/-- OFFER_TIMEOUT (R438). -/
def execOfferTimeout (job : BitVec 64) (s : State) : Out :=
  .next (
    match s.fleetJob job.toNat, s.answered? 0x20 0x22 job.toNat with
    | some j, some f => if s.isManager && j.state = 2 then (s.clearOutbox f.seq).nextOffer j.id else s
    | _, _ => s)

/-- WORKER_LOSS (R435). -/
def execWorkerLoss (serial : BitVec 64) (s : State) : Out :=
  .next (if s.isManager then s.loseWorker serial.toNat else s)

/-! ## The worker's side (R434, R436, R437) -/

/-- JOIN_ACK (R434): it answers JOIN or LEAVE; the heartbeat schedule starts from it. -/
def execJoinAck (src : BitVec 32) (m : List Byte) (s : State) : Out :=
  .next (s.fleetIn 0x20 0x11 src.toNat m fun s =>
    if !s.isWorker then s
    else
      let s := s.answeredBy 0x20 0x11 0
      if s.objB 0x6100 0x0D then s
      else { s with depot := { s.depot with joinTick := some s.clk.ticks } }.setObj 0x6100 0x0D 1)

/-- HEARTBEAT_ACK (R431): it answers a message of the worker; a guest whose JOB_DONE it answers is wiped (R436 step 4). -/
def execFleetHeartbeatAck (src : BitVec 32) (m : List Byte) (s : State) : Out :=
  .next (s.fleetIn 0x20 0x13 src.toNat m fun s =>
    if !s.isWorker then s
    else
      match s.answered? 0x20 0x13 (msgJob m) with
      | none => s
      | some f =>
        let s := s.clearOutbox f.seq
        match (List.range 8).find? fun g => (s.guest g).closing = some f.seq && s.pw.mode = .depot && field f.body 16 1 = 0x26 with
        | some g => s.wipeStart g
        | none => s)

/-- JOB_OFFER (R425, R433, R436 step 1). -/
def execJobOffer (src : BitVec 32) (m : List Byte) (s : State) : Out :=
  .next (s.workerIn 0x20 0x20 src m fun s =>
    let o := slice (msgBody m) 24 64
    let r := s.offerReason (msgJob m) o
    let s := s.fleetAnswer src.toNat (msgSeq m) 0x20 (if r = 0 then 0x21 else 0x22) r (s.obj 0x2000 6) (msgJob m) []
    if r = 0 then s.acceptOffer (msgJob m) o else s)

/-- CHECKPOINT_REQ (R436 step 3, R437). -/
def execCheckpointReq (src : BitVec 32) (m : List Byte) (s : State) : Out :=
  .next (s.workerIn 0x20 0x24 src m fun s =>
    match s.guestOfJob (msgJob m) with
    | none => s
    | some g =>
      if s.pw.mode = .depot && s.holdsJob g && s.guestState g = 2 && (s.guest g).ckpt.isNone && (s.guest g).restore.isNone
      then s.ckptStart g .requested else s)

/-- EVICT (R436 step 6): with a checkpoint, or discarded; a job that has not started, or is not held, has none. -/
def execJobEvict (src : BitVec 32) (m : List Byte) (s : State) : Out :=
  .next (s.workerIn 0x20 0x27 src m fun s =>
    match s.guestOfJob (msgJob m) with
    | none => s.sendEvicted (msgJob m) 0
    | some g =>
      if msgStatus m != 0 || s.guestState g = 1 || (s.guest g).restore.isSome then
        ((s.sendEvicted (msgJob m) 0).wipeStart g).handoverNext
      else
        match (s.guest g).ckpt with
        | some c =>
          (match c.purpose with
           | .result _ => s
           | .handover => s
           | _ => s.modGuest g fun v => { v with ckpt := some { c with purpose := .evict } })
        | none => if s.holdsJob g && s.pw.mode = .depot then s.ckptStart g .evict else s)

/-- WORKER_HEARTBEAT_TIMER (R434): HEARTBEAT, or JOIN while the manager is lost; it takes the place of an unanswered one. -/
def execWorkerHeartbeatTimer (s : State) : Out :=
  .next (
    if !s.isWorker || s.depot.joinTick.isNone then s
    else
      let s := { s with depot := { s.depot with outbox := s.depot.outbox.filter fun f =>
        !(f.layer = 0x20 && (field f.body 16 1 = 0x12 || field f.body 16 1 = 0x10)) } }
      if s.objB 0x6100 0x0D then s.workerSend 0x20 0x12 0 0 s.beatBody [0x13] else s.sendJoin)

/-- MANAGER_LOSS (R434): restores fail (R452), and in HANDOVER every fleet guest is abandoned (R439). -/
def execManagerLoss (s : State) : Out :=
  .next (
    if !s.isWorker || !s.objB 0x6100 0x0D then s
    else
      let s := s.setObj 0x6100 0x0D 0
      let s := (List.range 8).foldl (fun s g =>
        if (s.guest g).restore.isSome then s.restoreFail g 0x25 0xFFFFFFFF (s.offerManifest g) else s) s
      s.handoverNext)

/-- FLEET_RESEND_TIMER (R431, R447): every unanswered message is sent again. -/
def execFleetResendTimer (s : State) : Out :=
  .next (
    if s.obj 0x6100 0x0A = 0 || !s.pw.mode.awake then s
    else s.depot.outbox.foldl (fun s f => s.emit (.udp f.dst 41720 f.body)) s)

/-! ## Checkpoint messages (R447 to R452) -/

/-- HAVE_QUERY (R450): a hash is held, or being transferred; the others are pulled. -/
def execHaveQuery (src : BitVec 32) (m : List Byte) (s : State) : Out :=
  .next (s.managerIn 0x21 1 src m fun s =>
    let b := msgBody m
    let n := field b 24 2
    let hs := (List.range n).map fun k => field b (28 + 32 * k) 32
    let held (h : Nat) : Bool := (s.storedChunk h).isSome || s.depot.pulls.any fun p => p.hash = h
    let bits := (hs.zip (List.range n)).foldl (fun v p => if held p.1 then setBit v p.2 else v) 0
    let lack := (hs.filter fun h => !held h).eraseDups
    let s := s.bump 0x6120 9 0 (hs.filter held).length
    let s := s.fleetAnswer src.toNat (msgSeq m) 0x21 2 0 (msgSerial m) (msgJob m) (leBytes 2 n ++ zeros 2 ++ leBytes 16 bits)
    lack.foldl (fun s h => s.managerPull src.toNat (msgSerial m) (msgJob m) h 0 false false) s)

/-- HAVE_REPLY (R449). -/
def execHaveReply (src : BitVec 32) (m : List Byte) (s : State) : Out :=
  .next (s.fleetIn 0x21 2 src.toNat m fun s =>
    match s.isWorker, s.guestOfJob (msgJob m) with
    | true, some g => s.haveReply g (msgBody m)
    | _, _ => s)

/-- PULL (R447, R449 step 3, R452): the holder sends the wanted segments, or NOT_HELD; what a worker sends is counted. -/
def execFleetPull (src : BitVec 32) (m : List Byte) (s : State) : Out :=
  .next (s.fleetIn 0x21 3 src.toNat m fun s =>
    let b := msgBody m
    let h := field b 24 32
    let manifest : Bool := field b 60 1 = 1
    if s.isManager then
      let s := s.workerHeard src.toNat (msgSerial m)
      match (if manifest then s.storedManifest h else s.storedChunk h) with
      | some d => s.serveObject src.toNat m d
      | none => s.notHeld src.toNat m
    else
      match s.guestOfJob (msgJob m) with
      | none => s.notHeld src.toNat m
      | some g =>
        match s.guestObject g h manifest with
        | none => s.notHeld src.toNat m
        | some d =>
          let all := (List.range (segments d.length)).all fun k => bit (field b 64 512) k
          let sent := ((List.range (segments d.length)).filter fun k => bit (field b 64 512) k).foldl
            (fun n k => n + (slice d (1024 * k) 1024).length) 0
          let s := if all && !manifest then s.bump 0x6022 4 g else s
          (s.bump 0x6022 6 g sent).serveObject src.toNat m d)

/-- SEGMENT (R447, R448). -/
def execFleetSegment (src : BitVec 32) (m : List Byte) (s : State) : Out :=
  .next (s.fleetIn 0x21 4 src.toNat m fun s => s.segmentIn src.toNat (msgBody m))

/-- NOT_HELD (R452): a restore fails with 0x24; an offer that needs the object fails. -/
def execNotHeld (src : BitVec 32) (m : List Byte) (s : State) : Out :=
  .next (s.fleetIn 0x21 5 src.toNat m fun s =>
    let h := field (msgBody m) 24 32
    match s.depot.pulls.find? fun p => p.hash = h && p.src = src.toNat with
    | none => s
    | some p =>
      let s := s.dropPull h
      match p.guest with
      | some g =>
        let chunk := match p.manifest, (s.guest g).restore with
          | false, some r => chunkOf r.manifest h
          | _, _ => 0xFFFFFFFF
        s.restoreFail g 0x24 chunk (s.offerManifest g)
      | none =>
        if p.manifest then
          (match s.depot.offers.find? fun o => o.hash = h && o.manifest.isEmpty with
           | some o => s.offerResult o 1 0xFFFFFFFF
           | none => s)
        else s.chunkLost h p.src)

/-- MANIFEST_OFFER (R450): the manifest is pulled, unless it is kept already. -/
def execManifestOffer (src : BitVec 32) (m : List Byte) (s : State) : Out :=
  .next (s.managerIn 0x21 6 src m fun s =>
    let h := field (msgBody m) 24 32
    let len := field (msgBody m) 56 4
    let o : OfferIn :=
      { src := src.toNat, worker := msgSerial m, job := msgJob m, hash := h, manifest := [], wanted := [], seq := msgSeq m }
    let s := { s with depot := { s.depot with offers := s.depot.offers ++ [o] } }
    if len < 132 || 0x400000 < len then s.offerResult o 1 0xFFFFFFFF
    else
      match s.storedManifest h with
      | some d => s.offerManifestIn o d
      | none => s.managerPull src.toNat (msgSerial m) (msgJob m) h len true false)

/-- MANIFEST_RESULT (R449). -/
def execManifestResult (src : BitVec 32) (m : List Byte) (s : State) : Out :=
  .next (s.fleetIn 0x21 7 src.toNat m fun s =>
    match s.isWorker, s.guestOfJob (msgJob m) with
    | true, some g => s.manifestResult g (msgBody m)
    | _, _ => s)

/-- RESTORE_FAILED (R451): a chunk that failed its hash twice leaves the index. -/
def execRestoreFailed (src : BitVec 32) (m : List Byte) (s : State) : Out :=
  .next (s.managerIn 0x21 8 src m fun s =>
    let b := msgBody m
    match s.storedManifest (field b 24 32) with
    | none => s
    | some d =>
      let h := chunkHash d (field b 56 4)
      if msgStatus m != 0x23 || chunksIn d ≤ field b 56 4 || (s.storedChunk h).isNone then s
      else { s with depot := { s.depot with chunks := s.depot.chunks.filter fun c => c.1 != h } }.bump 0x6120 0x0A)

/-- SEGMENT_IDLE_TIMEOUT (R447). -/
def execSegmentIdleTimeout (hash : BitVec 256) (s : State) : Out :=
  .next (
    match s.depot.pulls.find? fun p => p.hash = hash.toNat with
    | some p => s.sendPull p
    | none => s)

end Sys2Proof.Machine
end

