-- ==== Sys2Proof/Machine/Image.lean ====
section
/-! DEFINITION. Model load: the checks of an image, the placement of its sections and its configuration items, the check of the
resident image, the way from HANDOVER to DRIVE, and the end of a Keeper rejoin (R84 to R92, R355, R360, R471). -/

namespace Sys2Proof.Machine

open Sys2Proof

/-! ## The image (R84 to R86) -/

/-- The staging window (R89). -/
def stagingBase : Nat := 0xBF0000000

/-- A section of an image: type, offset, length, load address, and whether its reserved bytes are zero (R85). -/
structure Section where
  type : Nat
  off : Nat
  len : Nat
  load : Nat
  clean : Bool
  deriving DecidableEq, Repr

/-- The section table of an image. -/
def imageSections (b : List Byte) : List Section :=
  (List.range (field b 22 2)).map fun k =>
    let e := slice b (128 + 32 * k) 32
    { type := field e 0 1, off := field e 8 8, len := field e 16 8, load := field e 24 8, clean := allZero (slice e 1 7) }

/-- The bytes of a section. -/
def Section.bytes (b : List Byte) (x : Section) : List Byte := slice b x.off x.len

/-- The configuration items of an image: index, subindex, length, value bytes, and whether the item is well formed. -/
def imageItems (b : List Byte) : List (Nat × Nat × List Byte × Bool) :=
  match (imageSections b).find? fun x => x.type = 5 with
  | none => []
  | some x =>
    (List.range (x.len / 16)).map fun k =>
      let e := slice (x.bytes b) (16 * k) 16
      let n := field e 3 1
      (field e 0 2, field e 2 1, slice e 8 (min n 8), 1 ≤ n && n ≤ 8 && allZero (slice e 4 4))

/-! ## The checks (R87) -/

/-- Check 1, on the first 128 bytes of the window. -/
def headerOk (h : List Byte) : Bool :=
  field h 0 4 = 0x494D5953 && field h 4 2 = 1 && field h 6 2 = 128 && 3 ≤ field h 22 2 && field h 22 2 ≤ 16 &&
  field h 24 4 = 1 && allZero (slice h 28 36)

/-- Check 2: the length. -/
def lengthFits (h : List Byte) (len : Nat) : Bool :=
  let n := field h 8 8
  n ≤ 2 ^ 28 && 128 + 32 * field h 22 2 + 160 ≤ n && n = len

/-- The trailer. -/
def imageTrailer (b : List Byte) : List Byte := b.drop (b.length - 160)

/-- Check 4: the key slot, the reserved bytes, and the owner key hash that the wake has read (R80, R86). -/
def BootOpts.keyOk (o : BootOpts) (b : List Byte) : Bool :=
  let t := imageTrailer b
  let want := if field t 0 1 = 0 then o.key0 else o.key1
  field t 0 1 ≤ 1 && allZero (slice t 1 31) && want != 0 && hashOf (slice t 32 64) = want

/-- Check 5: the signature over every byte before the trailer (R86). -/
def signatureOk (b : List Byte) : Bool :=
  let t := imageTrailer b
  ecdsaValid (beVal (slice t 32 32), beVal (slice t 64 32)) (beVal (sha256 (b.take (b.length - 160))))
    (beVal (slice t 96 32)) (beVal (slice t 128 32))

/-- Check 7: the section table, and the form of the configuration section. DESIGN CHOICE (log entry 35): a section's offset,
and its place between the table and the trailer, are checked here. -/
def tableOk (b : List Byte) : Bool :=
  let l := imageSections b
  let n (k : Nat) : Nat := (l.filter fun x => x.type = k).length
  (l.all fun x =>
    1 ≤ x.type && x.type ≤ 5 && x.clean && x.off % 64 = 0 && 128 + 32 * l.length ≤ x.off && x.off + x.len + 160 ≤ b.length &&
    (x.type != 5 || x.len % 16 = 0)) &&
  n 1 = 1 && n 2 = 1 && n 3 = 1 && n 5 ≤ 1 && (imageItems b).all (·.2.2.2)

/-- Whether two ranges meet. -/
def meets (a n b m : Nat) : Bool := 0 < n && 0 < m && a < b + m && b < a + n

/-- Check 8: every load address lies in the cellar or a Keeper memory; no section meets the staging window, the page of the
calibration copy (R183), a port page (R352) or another section. -/
def addressesOk (b : List Byte) : Bool :=
  let l := imageSections b
  (l.all fun x =>
    ((x.load < cellarEnd && x.load + x.len ≤ cellarEnd) || (keeperBase ≤ x.load && x.load < keeperBase + 0x400000 && x.load + x.len ≤ keeperBase + 0x400000)) &&
    !meets x.load x.len stagingBase 0x10000000 && !meets x.load x.len 0xBEFFF0000 0x10000 &&
    !meets x.load x.len 0xF1000FF000 0x1000 && !meets x.load x.len 0xF1002FF000 0x1000) &&
  l.Pairwise fun x y => !meets x.load x.len y.load y.len

/-- One configuration item on path 0x00: the refusal, and the state (R87 check 9, R88). -/
def State.applyItem (s : State) (i : Nat × Nat × List Byte × Bool) : Nat × State :=
  if (rowOf i.1 i.2.1).sObj || i.1 = 0x2010 then (0x08000022, s)
  else
    let r := s.accessOn 0x00 i.1 i.2.1 i.2.2.1
    (r.1, r.2.2)

/-- The items in image order, each judged against what the earlier ones leave; none where one is refused (R88). -/
def State.applyItems (s : State) (l : List (Nat × Nat × List Byte × Bool)) : Option State :=
  match l with
  | [] => some s
  | i :: rest => if (s.applyItem i).1 = 0 then (s.applyItem i).2.applyItems rest else none

/-- The configuration of an image as one turn on path 0x00, which comes into being for it (R88, R104); the paths that R355 leaves
unserved do not bar it. -/
def State.configure (s : State) (b : List Byte) : Option State :=
  (({ s with su := { s.su with benchRestricted := false } }.freshPath 0x00).applyItems (imageItems b)).map fun (t : State) => t.dropPath 0x00

/-- The bytes of the staging window. -/
def State.staged (s : State) (len : Nat) : List Byte := s.memBytes stagingBase len

/-- The bytes of the staging window as they stood when delivery ended (R87). -/
def State.delivered (s : State) (len : Nat) : List Byte := { s with mem := s.su.image }.staged len

/-- The first check that an image of a delivered length fails; 0 where it passes all (R87). -/
def State.imageCode (s : State) (len : Nat) : Nat :=
  let h := s.delivered 128
  if !headerOk h then 0x10
  else if !lengthFits h len then 0x15
  else
    let b := s.delivered len
    if field b 20 1 != 0x42 || field b 21 1 != 0x31 then 0x14
    else if !s.su.boot.keyOk b then 0x12
    else if !signatureOk b then 0x11
    else if field b 16 4 < s.su.boot.minGen then 0x13
    else if !tableOk b then 0x10
    else if !addressesOk b then 0x15
    else if (s.configure b).isNone then 0x15
    else 0

/-! ## Delivery to members (R471) -/

/-- The master sends its image to each present member, in ascending ID: messages of 4,096 bytes, the last with the length. -/
def State.sendImages (s : State) (len : Nat) : State :=
  if !s.casc.master then s
  else
    let b := s.delivered len
    let n := (len + 4095) / 4096
    ([1, 2, 3].filter s.present).foldl (fun s j =>
      (List.range n).foldl (fun s k =>
        let part := slice b (4096 * k) (min 4096 (len - 4096 * k))
        (s.linkSend 0x05 j (leBytes 8 (4096 * k) ++ leBytes 4 (if k + 1 = n then len else 0) ++ zeros 4 ++ part)).2) s) s

/-- IMAGE_CHECK_DONE (R87, R90, R471). -/
def execImageCheckDone (s : State) : Out :=
  .next (
    match s.su.checking with
    | none => s
    | some len =>
      let c := s.imageCode len
      if c != 0 then s.attemptFailed c
      else
        let s := { s with su := { s.su with checking := none, placing := true, imageLen := len } }.setObj 0x2050 2 3
        s.sendImages len)

/-! ## Placement (R88, R91, R183) -/

/-- Copy the sections of some types into place. -/
def State.placeSections (s : State) (b : List Byte) (p : Nat → Bool) : State :=
  ((imageSections b).filter fun x => p x.type).foldl (fun s x => s.memWrite x.load (x.bytes b)) s

/-- The Keepers run the firmware that has been placed: they start, unless they run already or a rejoin is to start them. -/
def State.keepersBoot (s : State) : State :=
  if s.saf.keepersHeld && s.saf.rejoinAt.isNone then s.keepersStart else s

/-- The image in the staging window is resident: its generation and digest are shown, and the calibration copy is written. -/
def State.imageLoaded (s : State) (b : List Byte) : State :=
  let s := { s with su := { s.su with placing := false, loaded := true, freshOk := true, freshRun := false, benchRestricted := false } }
  let s := (s.setObj 0x2050 2 4).setObj 0x2050 3 (field b 16 4)
  (s.setObj 0x2050 4 (hashOf (b.take (b.length - 160)))).calCopy

/-- SECTIONS_PLACED (R82 step 8, R88, R355): into the zeroed cellar in WAKING. The items are judged before anything is placed; in
HANDOVER the configuration waits for HANDOVER_COMPLETE (R91). -/
def execSectionsPlaced (s : State) : Out :=
  .next (
    if !s.su.placing || (s.pw.mode = .waking && !s.su.zeroed) then s
    else
      let b := s.delivered s.su.imageLen
      match s.configure b with
      | none => s.attemptFailed 0x15
      | some _ =>
        let s := (s.placeSections b fun t => t != 5).imageLoaded b
        let s := if s.pw.mode = .handover then s else (s.configure b).getD s
        s.keepersBoot)

/-! ## The resident image (R91, R92, R355, R360) -/

/-- Whether the resident image passes the fresh check: its SHA-256 against its signature (R91). -/
def State.residentOk (s : State) : Bool :=
  let b := s.staged s.su.imageLen
  288 ≤ s.su.imageLen && s.su.boot.keyOk b && signatureOk b

/-- The fresh check fails: status 0x17. In HANDOVER a delivery follows with all its attempts (R92); elsewhere the Keepers stay in
reset (R355). -/
def State.residentFailed (s : State) : State :=
  let s := { s with su := { s.su with freshRun := false, freshOk := false, loaded := false } }
  let s := (s.setObj 0x2050 2 0x17).raise 0x6030 0xFF 0x17
  if s.pw.mode = .handover then (s.setObj 0x2050 5 0).openWindow (s.now + 875000)
  else { s with su := { s.su with benchRestricted := true } }.keepersReset

/-- RESIDENT_IMAGE_CHECK_DONE (R91, R92, R355, R360). -/
def execResidentImageCheckDone (s : State) : Out :=
  .next (
    if !s.su.freshRun then s
    else if !s.residentOk then s.residentFailed
    else
      let s := { s with su := { s.su with freshRun := false, freshOk := true, loaded := true } }
      if s.su.benchRestricted then { s with su := { s.su with benchRestricted := false } }.keepersBoot else s)

/-- The state table is cleared, with every slot invalid (R314). -/
def State.clearSlots (s : State) : State := s.memZero (unitBase + 0x400000 + 0x380000) 0x10000

/-- HANDOVER_COMPLETE (R91): with the engines tested, the image fresh or placed, and the Keepers running, the configuration is
applied and DRIVE commits. -/
def execHandoverComplete (s : State) : Out :=
  .next (
    if s.pw.mode != .handover || !s.su.toDrive || !s.su.enginesTested || !s.su.freshOk || !s.su.loaded || s.su.placing ||
       s.saf.rejoinAt.isSome || s.saf.keepersHeld || !s.mayMove then s
    else
      match s.configure (s.staged s.su.imageLen) with
      | none => s.attemptFailed 0x15
      | some t => { t.clearSlots with su := { t.su with toDrive := false } }.enterDrive)

/-- KEEPER_REJOIN_DONE (R360 steps 2 to 4): the self-test's outcome; outside HANDOVER the resident image has been checked beside
it. -/
def execKeeperRejoinDone (pass : Bool) (s : State) : Out :=
  .next (
    if !s.saf.rejoining then s
    else if !pass then
      ((s.bump 0x5030 2).setObj 0x5010 2 0x12).classS 0x0E 5 (some (0x5050, 0xFF, 5))
    else if s.pw.mode != .handover && !s.su.freshOk && !s.residentOk then s.residentFailed
    else
      let s := if s.pw.mode = .handover then s else { s with su := { s.su with freshRun := false, freshOk := true } }
      let s := s.placeSections (s.staged s.su.imageLen) fun t => t = 1 || t = 2
      (s.keepersStart.setObj 0x5010 1 0).setObj 0x5010 2 2)

end Sys2Proof.Machine
end

