-- ==== Sys2Proof/Machine/Fuind.lean ====
section
/-! DEFINITION. The commands of the Fuind ports: training, flits, messages and their delivery, presence and roles (chapter 20). -/

namespace Sys2Proof.Machine

open Sys2Proof

/-! ## Delivery of a message (R466 to R476) -/

/-- A forwarded record on one record path of the master (R472): the launch time counts from the record's opening time; a path that
cannot take it loses it (R223). -/
def State.relayRecord (s : State) (rec : List Byte) (k : Nat) : State :=
  if !s.objBit 0x3110 1 k || k = 3 then s
  else if (k < 2 && bit s.ethDown k) || (k = 2 && !s.su.pcieUp) then s.bump 0x3110 8
  else if k < 2 then
    let at_ : Int := (s.nsNow : Int) + field rec 16 8 - s.nowNs
    s.sendTimed k 0 (s.obj 0x9003 1) at_.toNat rec
  else
    let base := s.obj 0x3110 4
    let n := s.obj 0x3110 5
    (s.emit (.hostWrite (base + 256 * (field rec 8 8 % n)) rec)).emit
      (.hostWrite (base + 256 * n - 8) (leBytes 8 (field rec 8 8)))

/-- A RECORD: the master forwards it on its own record paths, but not in SAFE, nor once a class-S detection has been made
(R472, R353). -/
def State.recordIn (s : State) (m : List Byte) : State :=
  if s.cascRole != 1 || s.pw.mode = .safe || s.pw.pendSafe.isSome then s
  else (List.range 4).foldl (fun s k => s.relayRecord (msgBody m) k) s

/-- A COMPARE meets one's own strip of the partner stream (R473). -/
def State.compareIn (s : State) (m : List Byte) : State :=
  let b := msgBody m
  s.cmpTheirs { stream := field b 1 1, strip := 0, code := field b 2 1, index := field b 4 2, corrected := field b 8 8,
                digest := field b 16 4, tick := s.clk.ticks }

/-- Whether an IMAGE message is in order: from the master, an offset that is a multiple of 4,096, bytes within the window; its
reserved bytes are ignored (R13). -/
def imageMsgOk (m : List Byte) : Bool :=
  let b := msgBody m
  field m 1 1 = 0 && field b 0 8 % 4096 = 0 && field b 0 8 + (b.length - 16) ≤ 2 ^ 28

/-- An IMAGE: its bytes go into the staging window while a delivery over Fuind Link can be taken; the message with the total
length ends the delivery (R471, R355). -/
def State.imageIn (s : State) (p : Nat) (m : List Byte) : State :=
  let b := msgBody m
  if !imageMsgOk m then s.flCount p 5
  else if s.su.boot.source != 2 || !s.su.cellarOn || !s.lengthOk then s
  else
    let s := s.memWrite (stagingBase + field b 0 8) (b.drop 16)
    if field b 8 4 = 0 then s
    else s.deliveryEnds (field b 8 4)

/-- A message for this device. Every message makes its source present (R470). -/
def State.deliverMsg (s : State) (p : Nat) (m : List Byte) : State :=
  let src := field m 1 1
  let s := if 3 ≤ field m 0 1 && src < s.cascSize && src != s.deviceId then s.hear src else s
  match field m 0 1 with
  | 0x01 => s.helloIn p m
  | 0x02 => s.heartbeatIn m
  | 0x03 => s.recordIn m
  | 0x04 => s.compareIn m
  | 0x05 => s.imageIn p m
  | _ => s.linkDict m

/-- A complete message on a port: dropped and counted where it is malformed, where the hello has not passed, or where it is a HELLO to
another device (R467); forwarded where it is for another device; else delivered (R462, R466, R468). -/
def State.linkMsg (s : State) (p : Nat) (m : List Byte) : State :=
  if !msgOk linkBody m || (field m 0 1 != 1 && !(s.fl p).open_) then s.flCount p 5
  else
    let dst := field m 2 1
    if field m 0 1 = 1 && dst != 0xFF && dst != s.deviceId then s.flCount p 5
    else
    let s := s.flCount p 6
    if dst != 0xFF && dst != s.deviceId then (s.linkOut (1 - p) true m).2 else s.deliverMsg p m

/-- A whole message of one type on a port, as a row of its own; a message of another type is another row's. -/
def State.linkRow (s : State) (p type : Nat) (m : List Byte) : State :=
  if (s.fl p).phase != .active || field m 0 1 != type then s else s.linkMsg p m

/-! ## Training (R459, R460, R464) -/

/-- LINK_TRAINING_STEP_DONE (R459): step 5 fixes the width, 2^`lanes`; step 6 makes the port Active. -/
def execLinkTrainingStepDone (port : Fin 2) (lanes : Fin 3) (s : State) : Out :=
  .next (
    let p := port.val
    if !s.fuindOn || (s.fl p).phase != .training then s
    else
      let n := (s.fl p).step + 1
      let s := s.modFl p fun f => { f with step := n, lanes := if n = 5 then 2 ^ lanes.val else f.lanes }
      if n = 6 then s.linkActive p else s)

/-- LINK_TRAINING_FAILURE (R460): the third in a row holds the port down, and counts. -/
def execLinkTrainingFailure (port : Fin 2) (s : State) : Out :=
  .next (
    let p := port.val
    if (s.fl p).phase != .training then s
    else
      let n := (s.fl p).fails + 1
      let s := s.modFl p fun f => { f with fails := n, step := 0 }
      if 3 ≤ n then (s.holdPort p).flCount p 4 else s)

/-- FLIT_TIMEOUT (R460). -/
def execFlitTimeout (port : Fin 2) (s : State) : Out :=
  .next (if (s.fl port.val).phase = .active then s.retrain port.val else s)

/-- REPLAY_TIMEOUT (R463, R464). -/
def execReplayTimeout (port : Fin 2) (s : State) : Out :=
  .next (
    if (s.fl port.val).phase != .active || (s.fl port.val).replay.isEmpty then s else s.resendOldest port.val)

/-! ## Flits (R461, R463, R465) -/

/-- A flit of one kind on a port, as a row of its own; a good flit of another kind is another row's. -/
def State.flitRow (s : State) (p kind : Nat) (f : List Byte) (act : State → State) : State :=
  if flitOk f && field f 0 1 % 16 != kind then s else s.flitIn p f act

/-- DATA_FLIT (R463): a message that it completes on another channel than its type's is dropped and counted (R466, R467). -/
def execDataFlit (port : Fin 2) (flit : List Byte) (s : State) : Out :=
  .next (s.flitRow port.val 1 flit fun s =>
    let r := s.dataIn port.val flit
    match r.1 with
    | some m => if linkVc (field m 0 1) = field flit 0 1 / 64 then r.2.linkMsg port.val m else r.2.flCount port.val 5
    | none => r.2)

/-- NAK_FLIT (R463): resend from the named flit; where that is the oldest, the resend counts toward the replay limit (R464). -/
def execNakFlit (port : Fin 2) (flit : List Byte) (s : State) : Out :=
  .next (s.flitRow port.val 2 flit fun s =>
    let l := (s.fl port.val).replay
    let n := field flit 8 2 % 4096
    if (l.head?.any fun e => e.1 = n) then s.resendOldest port.val
    else s.resendFrom port.val (l.dropWhile fun e => e.1 != n))

/-- CREDIT_INIT_FLIT (R465). -/
def execCreditInitFlit (port : Fin 2) (flit : List Byte) (s : State) : Out :=
  .next (s.flitRow port.val 3 flit fun s =>
    (s.modFl port.val fun q => { q with credits := (List.range 4).map fun v => field flit (8 + 2 * v) 2 }).pump port.val)

/-- IDLE_FLIT (R461): the acknowledge and the credit return alone. -/
def execIdleFlit (port : Fin 2) (flit : List Byte) (s : State) : Out := .next (s.flitRow port.val 0 flit fun s => s)

/-! ## Messages as rows -/

/-- HELLO (R462). -/
def execFuindHello (port : Fin 2) (m : List Byte) (s : State) : Out := .next (s.linkRow port.val 1 m)

/-- HELLO_RETRY (R462). -/
def execHelloRetry (port : Fin 2) (s : State) : Out :=
  .next (if (s.fl port.val).phase = .active && (s.fl port.val).wiring then s.sendHello port.val else s)

/-- FUIND_HEARTBEAT (R470). -/
def execFuindHeartbeat (port : Fin 2) (m : List Byte) (s : State) : Out := .next (s.linkRow port.val 2 m)

/-- FUIND_HEARTBEAT_TIMER (R470): a HEARTBEAT to every other device. -/
def execFuindHeartbeatTimer (s : State) : Out :=
  .next (
    if !s.fuindOn || s.casc.sameId || !s.clk.tbRun then s
    else
      ((List.range s.cascSize).filter (· != s.deviceId)).foldl (fun s j => (s.linkSend 0x02 j s.heartbeatBody).2) s)

/-- DEVICE_LOSS (R470): the device is present no longer; without the master a member is single. -/
def execDeviceLoss (id : Fin 4) (s : State) : Out :=
  .next (
    if id.val = s.deviceId || Amap.get 0 s.casc.heard id.val = 0 then s
    else { s with casc := { s.casc with
      heard := Amap.del s.casc.heard id.val
      masterFlag := s.casc.masterFlag && id.val != 0 } })

/-- FORMATION_LIMIT (R470). -/
def execFormationLimit (s : State) : Out :=
  .next (if s.fuindOn && !s.casc.formed then { s with casc := { s.casc with expired := true } } else s)

/-- RECORD (R472). -/
def execFuindRecord (port : Fin 2) (m : List Byte) (s : State) : Out := .next (s.linkRow port.val 3 m)

/-- COMPARE (R473). -/
def execFuindCompare (port : Fin 2) (m : List Byte) (s : State) : Out := .next (s.linkRow port.val 4 m)

/-- COMPARE_UNMATCHED (R473): a strip of one's own, or one of the partner's on the stream, has found no counterpart. -/
def execCompareUnmatched (strm : Fin 96) (strip : Nat) (s : State) : Out :=
  .next (
    match s.casc.own.find? fun c => c.stream = strm.val && c.strip = strip with
    | some c => { s with casc := { s.casc with own := s.casc.own.erase c } }.bump 0xA023 3
    | none =>
      match s.casc.theirs.find? fun c => c.stream = strm.val with
      | some c => { s with casc := { s.casc with theirs := s.casc.theirs.erase c } }.bump 0xA023 3
      | none => s)

/-- IMAGE (R471). -/
def execFuindImage (port : Fin 2) (m : List Byte) (s : State) : Out := .next (s.linkRow port.val 5 m)

/-- DICTIONARY (R474). -/
def execFuindDictionary (port : Fin 2) (m : List Byte) (s : State) : Out := .next (s.linkRow port.val 0x10 m)

end Sys2Proof.Machine
end

