-- ==== Sys2Proof/Machine/Ingress.lean ====
section
/-! DEFINITION. What arrives at the sensor ports, what a sluice does on its own, and the hazard path's own steps (R145 to
R175, R225 to R227, R371). -/

namespace Sys2Proof.Machine

open Sys2Proof

/-! ## Camera ports (R147 to R150) -/

/-- Whether a long packet's data type is discarded without a trace: embedded data, null, blanking (R147). -/
def discardedType (dt : Nat) : Bool := dt = 0x10 || dt = 0x11 || dt = 0x12

/-- Bits per pixel of a data type (R147). -/
def bitsPerPixel (dt : Nat) : Nat :=
  if dt = 0x2B then 10 else if dt = 0x2C then 12 else if dt = 0x2D then 14
  else if dt = 0x2E || dt = 0x1E then 16 else if dt = 0x24 then 24 else 8

/-- The header check of a camera packet counts for a stream (R149). -/
def State.headerCheck (s : State) (strm : Nat) (hdr : HeaderCheck) : State :=
  match hdr with
  | .clean => s
  | .corrected => s.bump 0x3003 7 strm
  | .uncorrectable => s.bump 0x3003 8 strm

/-- A camera line of a bound stream (R149, R150): its checks count in every state, and it is kept in an open frame alone. A line
whose header is lost is missing, and is replaced in its place (log entry 22). -/
def State.cameraLine (s : State) (q : Sluice) (dt wc : Nat) (payload : List Byte) (hdr : HeaderCheck) (crcOk : Bool) : State :=
  let strm := q.stream
  let s := s.headerCheck strm hdr
  let open_ : Bool := s.sluicing && s.streamState strm = 2
  if hdr = .uncorrectable then (if open_ then s.writeLine strm none false else s)
  else
    let good : Bool := crcOk && wc = s.obj 0x3000 6 strm * bitsPerPixel dt / 8 && payload.length = wc
    let s := if good then s else s.bump 0x3003 6 strm
    if !open_ then s.discardLine strm
    else (s.livenessArrival q).writeLine strm (if good then some (unpackLine dt payload) else none) true

/-- CSI2_LINE_PACKET (R147 to R150). -/
def execCsi2LinePacket (port : Fin 24) (vc : Fin 4) (vcx : Bool) (dt : BitVec 6) (wc : BitVec 16) (payload : List Byte)
    (hdr : HeaderCheck) (crcOk : Bool) (s : State) : Out :=
  .next (
    if !s.portsRun || !bit (s.obj 0x3100 (port.val + 1)) 0 then s
    else if vcx then s.unattributed (port.val + 1)
    else if discardedType dt.toNat then s
    else
      match s.bound 1 port.val vc.val dt.toNat with
      | none => if hdr = .uncorrectable then s else s.unattributed (port.val + 1)
      | some q => s.cameraLine q dt.toNat wc.toNat payload hdr crcOk)

/-- The enabled camera streams of a port and virtual channel, ascending. -/
def State.camerasOn (s : State) (port vc : Nat) : List Nat :=
  (List.range 96).filter fun k =>
    (s.sluice? k).isSome && s.obj 0x3000 2 k = 1 && s.obj 0x3000 3 k = port && s.obj 0x3000 4 k = vc

/-- A short packet of a camera port (R147 to R149): with VCX it is unattributed; its header check counts for every stream of its
port and virtual channel, and one whose header is lost is discarded. -/
def State.shortPacket (s : State) (port : Fin 24) (head : ShortHead) (act : State → Nat → State) : State :=
  if !s.portsRun || !bit (s.obj 0x3100 (port.val + 1)) 0 then s
  else if head.vcx then s.unattributed (port.val + 1)
  else
    let l := s.camerasOn port.val head.vc.val
    let s := l.foldl (fun s k => s.headerCheck k head.hdr) s
    if head.hdr = .uncorrectable || !s.sluicing then s else l.foldl act s

/-- A Frame Start of a stream (R150, R172, R174). -/
def State.startFrame (s : State) (strm : Nat) : State :=
  match s.sluice? strm with
  | some q => ((s.livenessArrival q).cutShort strm).openFrame strm
  | none => s

/-- FRAME_START (R150). -/
def execFrameStart (port : Fin 24) (head : ShortHead) (s : State) : Out := .next (s.shortPacket port head State.startFrame)

/-- FRAME_END (R150). -/
def execFrameEnd (port : Fin 24) (head : ShortHead) (s : State) : Out := .next (s.shortPacket port head State.endShort)

/-! ## Range ports (R151 to R155) -/

/-- The samples of a packet that reach the hazard feed (R157); the comparators disagree on those whose numbers are listed (R226). -/
def State.rangeHazard (s : State) (port sensor : Nat) (samples : List (List Byte)) (disagree : List Nat) : State :=
  samples.zipIdx.foldl (fun s b =>
    if crc8 (b.1.take 7) = field b.1 7 1 && field b.1 0 2 != 0xFFFF then
      s.hazardSample (9 + port) sensor (field b.1 0 2) (!disagree.contains b.2)
    else s) s

/-- The line of a bound range packet (R155): out of order, skipped lines, the line itself, the frame's end. Where line number
and sequence disagree, the larger count of skipped lines is taken (log entry 22). The line record carries the sensor's own time
(R152). -/
def State.rangeLine (s : State) (q : Sluice) (m : List Byte) (samples : List (List Byte)) (ok : Bool) : State :=
  let strm := q.stream
  let flags := field m 6 2
  let line := field m 8 2
  let seqNo := field m 12 4
  if !s.sluicing then s.discardLine strm
  else
    let starts := bit flags 0
    let s := if starts then s.startFrame strm else s
    let was := q.seq
    match s.sluice? strm with
    | none => s
    | some q =>
      if s.streamState strm != 2 || line < q.line then s.discardLine strm
      else
        let gap := match was with
          | some e => if starts then 0 else (seqNo + 2 ^ 32 - e) % 2 ^ 32
          | none => 0
        let gap := if 2 ^ 31 ≤ gap then 0 else gap
        let s := (if starts then s else s.livenessArrival q).modSluice strm fun q =>
          { q with seq := some ((seqNo + 1) % 2 ^ 32), sensorTime := if bit flags 2 then some (field m 16 8) else none }
        let s := s.fillLines strm (min (max (line - q.line) gap) (s.obj 0x3000 7 strm))
        if s.streamState strm != 2 then s.discardLine strm
        else
          let good := ok && field m 10 2 = s.obj 0x3000 6 strm && samples.length = field m 10 2 &&
            samples.all fun b => crc8 (b.take 7) = field b 7 1
          let s := if good then s.writeLine strm (some (slice m 32 (8 * samples.length))) true
            else (s.bump 0x3003 6 strm).writeLine strm none true
          if bit flags 1 then s.endShort strm else s

/-- Whether a range port accepts a frame (R151): of a legal length, to its own MAC and IPv4 address and UDP port, with a good IPv4
header, and neither a fragment nor with options. -/
def State.rangeAccepts (s : State) (port : Nat) (f : RangeFrame) : Bool :=
  f.mac.toNat = s.obj 0x3103 (port + 1) && f.ip.toNat = s.obj 0x3102 (port + 1) &&
  f.udpPort.toNat = s.obj 0x3101 (port + 1) / 2 ^ 16 && f.plain && f.headerOk && f.length ≤ (if f.tagged then 1522 else 1518)

/-- RANGE_PACKET (R151, R152, R155, R157): with what the checks of the FCS and of a non-zero UDP checksum find. -/
def execRangePacket (port : Fin 4) (f : RangeFrame) (disagree : List Nat) (fcsOk udpOk : Bool) (s : State) : Out :=
  let payload := f.payload
  .next (
    if !s.portsRun || !bit (s.obj 0x3101 (port.val + 1)) 0 then s
    else if !s.rangeAccepts port.val f || payload.length < 32 || field payload 0 4 != 0x50525953 || field payload 4 1 != 1 ||
        crc32c (payload.take 28) != field payload 28 4 then s.unattributed (0x19 + port.val)
    else
      let sensor := field payload 5 1
      let samples := (groups 8 (payload.drop 32)).take (field payload 10 2)
      let s := s.rangeHazard port.val sensor samples disagree
      match s.bound 2 port.val sensor 0 with
      | none => s.unattributed (0x19 + port.val)
      | some q => s.rangeLine q payload samples (fcsOk && udpOk))

/-- ARP_REQUEST (R151, R474): answered for the port's own address; a range port by 0x3102, a 25GBASE-T1 port by the port's
address of R474. -/
def execArpRequest (port : ArpPort) (target sender : BitVec 32) (s : State) : Out :=
  .next (
    if !s.portsRun then s
    else
      match port with
      | .range n =>
        if bit (s.obj 0x3101 (n.val + 1)) 0 && s.obj 0x3102 (n.val + 1) = target.toNat && target != 0 then
          s.emit (.arp n.val target.toNat sender.toNat)
        else s
      | .eth n =>
        if s.ownAddr n.val = target.toNat && target != 0 then s.emit (.arp (4 + n.val) target.toNat sender.toNat) else s)

/-! ## Near-field ports (R156) -/

/-- A frame of a near-field stream opens with its first word (R156). -/
def State.nearOpen (s : State) (strm : Nat) : State := if s.streamState strm = 2 then s else s.openFrame strm

/-- Missing words of a near-field stream, each opening a frame where none is open (R156, R159). -/
def State.nearMissing (s : State) (strm : Nat) (k : Nat) : State :=
  match k with
  | 0 => s
  | k + 1 => ((s.nearOpen strm).writeLine strm none false).nearMissing strm k

/-- NEAR_FIELD_WORD (R156, R157): bits [31:8] as three bytes, most significant first, carry the CRC-8 (R154). A word whose
CRC-8 fails is taken at its expected sequence (log entry 22). -/
def execNearFieldWord (port : Fin 2) (w : Half) (checks : FieldChecks) (s : State) : Out :=
  let v := w.toNat
  let ch := bits v 30 2
  let ok := crc8 [BitVec.ofNat 8 (v / 2 ^ 24), BitVec.ofNat 8 (v / 2 ^ 16), BitVec.ofNat 8 (v / 2 ^ 8)] = v % 256
  .next (
    if !s.portsRun || !s.objB 0x3104 (port.val + 1) then s
    else if checks.framing then s.unattributed (0x1D + port.val)
    else
      let s := if ok && bit v 11 then s.hazardSample (1 + 4 * port.val + ch) 0 (bits v 16 13) checks.agree else s
      match s.bound 3 port.val ch 0 with
      | none => s.unattributed (0x1D + port.val)
      | some q =>
        let strm := q.stream
        if !s.sluicing then s.discardLine strm
        else
          let no := bits v 12 4
          let gap := match q.seq with
            | some e => if ok then (no + 16 - e) % 16 else 0
            | none => 0
          let s := (s.livenessArrival q).modSluice strm fun q =>
            { q with seq := if ok then some ((no + 1) % 16) else q.seq.map fun e => (e + 1) % 16 }
          let s := ((s.nearOpen strm).nearMissing strm gap).nearOpen strm
          if ok then s.writeLine strm (some (leBytes 4 v)) true
          else (s.bump 0x3003 6 strm).writeLine strm none true)

/-! ## A sluice's own steps -/

/-- DIVERT_COPY_DONE (R168): the slot of the strip whose copy completes is freed. -/
def execDivertCopyDone (strm : Fin 96) (s : State) : Out :=
  .next (
    match s.seq.sluices.find? fun q => q.stream = strm.val && q.strips.any fun t => t.diverted && t.slot.isSome with
    | none => s
    | some q =>
      (s.mapSluices (fun r => r.stream = strm.val && r.base = q.base) fun r =>
        { r with strips := r.strips.map fun t => if t.diverted then { t with slot := none } else t }).sluiceMoved strm.val)

/-- SLUICE_SLOT_RELEASE (R165, R168): the job has read the whole strip. -/
def execSluiceSlotRelease (strm : Fin 96) (strip : Nat) (s : State) : Out :=
  .next (
    match s.seq.sluices.find? fun q => q.stream = strm.val && q.strips.any fun t => t.n = strip && t.job != .toSubmit with
    | none => s
    | some q => s.releaseStrip q.same strm.val strip)

/-- LIVENESS_EXPIRY (R172): the stream is lost; the strip being filled is dropped by liveness. -/
def execLivenessExpiry (strm : Fin 96) (s : State) : Out :=
  .next (
    match s.sluice? strm.val with
    | none => s
    | some q =>
      if !s.sluicing || s.streamState strm.val = 4 then s
      else
        let k := strm.val
        let inFrame : Bool := s.streamState k = 2
        let s := ((s.setObj 0x3002 1 4 k).bump 0x3003 0x0B k).raise 0xFF02 k (s.clk.ticks - q.lineTick)
        let s := match q.filling with
          | none => s
          | some f =>
            let t : Strip :=
              { n := f.n, frame := s.obj 0x3002 5 k - 1, index := f.index, last := false, lines := f.lines,
                width := s.obj 0x3000 6 k, replaced := f.replaced, decimated := false, diverted := false, slot := none,
                ring := none, src := 0, doneTick := s.clk.ticks, deadline := 0, job := .ended, tried := false, bounded := true,
                single := false, stamp := f.stamp, corrected := f.corrected }
            ((s.modSluice k fun q => { q with filling := none }).dropStrip k t 5).sluiceChanged k
        let s := if inFrame then { s with seq := { s.seq with
            frames := s.seq.frames.filter fun p => !(p.stream = k && p.ended.isNone) } } else s
        (s.flagStream k).streamFault k)

/-! ## The hazard path's own steps (R227, R371) -/

/-- HAZARD_HOLD_EXPIRY (R227). -/
def execHazardHoldExpiry (s : State) : Out :=
  .next (
    if !s.seq.hz.latch then s
    else { s with seq := { s.seq with hz := { s.seq.hz with latch := false } } }.hazardRecheck)

/-- Whether a hazard feed is enabled. -/
def State.anyFeed (s : State) : Bool := (List.range 12).any fun k => bit (s.obj 0x3112 (k + 1)) 0

/-- HAZARD_INJECTION_TEST (R371, R349): a pass counts; a failure is class S with code 0x0C. -/
def execHazardInjectionTest (passed : Bool) (s : State) : Out :=
  .next (
    if !s.portsRun || !s.seq.hz.loaded || !s.anyFeed then s
    else if passed then s.bump 0x5030 7 else s.classSOpen 0x0C)

/-- HAZARD_READBACK_FAULT (R371, R349). -/
def execHazardReadbackFault (s : State) : Out := .next (if !s.portsRun || !s.anyFeed then s else s.classSOpen 0x0C)

end Sys2Proof.Machine
end

