-- ==== Sys2Proof/Machine/Loops.lean ====
section
/-! DEFINITION. The evaluations of the adaptive loops, the temperature monitor and the power samples (R248, R370, R400,
R478 to R489, R516). -/

namespace Sys2Proof.Machine

open Sys2Proof

/-- AVS_EVALUATION (R482): every 10 ticks; while the regulator does not respond the set point is held and sent again (R516). -/
def execAvsEvaluation (pathMin : BitVec 16) (margin warning acked : Bool) (s : State) : Out :=
  .next (
    if !s.loopsRun then s
    else
      let lo := min 850 (max 650 (pathMin.toNat + 10))
      let s := s.setObj 0xB021 4 lo
      let since := if margin && !warning then some (s.loops.marginSince.getD s.clk.ticks) else none
      let s := { s with loops := { s.loops with marginSince := since } }
      let v := s.obj 0xB021 3
      let calm : Bool := match since with
        | some t => t + 1000 ≤ s.clk.ticks
        | none => false
      let want := if warning then v + 5 else if calm then v - 5 else v
      let held := s.objB 0xB030 5
      let new := if held then v else loopPick (s.obj 0xB021 1) (s.obj 0xB021 2) lo 850 want
      let s := if held || new != v then s.avsWrite new else s
      let s := if acked then (s.setObj 0xB030 2 new).setObj 0xB030 5 0 else s
      s.loopJudge 0 (s.obj 0xB021 1) (s.obj 0xB021 2) new)

/-- AVS_NO_RESPONSE (R516). -/
def execAvsNoResponse (regulatorFault : Bool) (s : State) : Out :=
  .next (if s.pw.mode = .off then s else (s.bump 0xB030 (if regulatorFault then 4 else 3)).setObj 0xB030 5 1)

/-- DROOP_TRIP (R483): a trip while stretched restarts the release and is not counted again (R492). -/
def execDroopTrip (s : State) : Out :=
  .next (
    if !s.loopsRun || s.loops.stretch then s
    else { s with loops := { s.loops with stretch := true, stretches := s.now :: s.loops.stretches } }.bump 0xB022 4)

/-- DROOP_RELEASE (R483): the stretch ends after the cycles it lasted. -/
def execDroopRelease (cycles : BitVec 32) (s : State) : Out :=
  .next (
    if !s.loops.stretch then s
    else ({ s with loops := { s.loops with stretch := false } }.bump 0xB022 5 0 cycles.toNat).raiseMax 0xB022 6 cycles.toNat)

/-- Whether two of a list of falling times lie within 1 µs of each other. -/
def closePair (l : List Nat) : Bool := (l.zip l.tail).any fun p => p.1 ≤ p.2 + 1

/-- DROOP_MARGIN_EVALUATION (R484): every 1,000 ticks. -/
def execDroopMarginEvaluation (s : State) : Out :=
  .next (
    if !s.loopsRun then s
    else
      let recent := s.loops.stretches.filter fun t => s.now ≤ t + 1000
      let calm := if recent.isEmpty && !s.loops.stretch then s.loops.calmDroop + 1 else 0
      let m := s.obj 0xB022 3
      let want := if closePair recent then m + 5 else if calm = 100 then m - 5 else m
      let new := loopPick (s.obj 0xB022 1) (s.obj 0xB022 2) 15 45 want
      let s := { s with loops := { s.loops with stretches := recent, calmDroop := if calm = 100 then 0 else calm } }
      (s.setObj 0xB022 3 new).loopJudge 1 (s.obj 0xB022 1) (s.obj 0xB022 2) new)

/-! ## Temperature (R60, R248, R370, R486, R489) -/

/-- The trimmed readings of the eight sensors (R179). -/
def State.trimTemps (s : State) (raw : List Int) : List Int :=
  (List.range 8).map fun k => raw.getD k 0 + toSigned 16 (field s.trims (2 * k) 2)

/-- Insert into a rising list of integers. -/
def insertInt (v : Int) (l : List Int) : List Int :=
  match l with
  | [] => [v]
  | h :: t => if v ≤ h then v :: h :: t else h :: insertInt v t

/-- The sum of the two middle values of eight: twice their median. DEDUCED (log entry 24). -/
def twiceMedian (l : List Int) : Int :=
  let r := l.foldl (fun a v => insertInt v a) []
  r.getD 3 0 + r.getD 4 0

/-- Consecutive samples in which each sensor has differed from the median by more than 15.0 °C. -/
def State.apartNow (s : State) (l : List Int) : List Nat :=
  (List.range 8).map fun k =>
    let d := 2 * l.getD k 0 - twiceMedian l
    if 300 < d || d < -300 then s.loops.apart.getD k 0 + 1 else 0

/-- Cellar derating (R248, R489). -/
def State.derate (s : State) (t : Int) : State :=
  let cool := if t ≤ 930 then s.loops.cool + 1 else 0
  let s := { s with loops := { s.loops with cool := cool } }
  if !s.objB 0x4800 1 then
    if 950 < t then
      (((s.setObj 0x4800 1 1).setObj 0x4800 2 1950).bump 0x4800 3).raise 0x4210 0xFF (ofSigned 32 t)
    else s
  else if 100 ≤ cool then ((s.setObj 0x4800 1 0).setObj 0x4800 2 3900).refreshReg
  else s

/-- The thermal limit and the duty at a sample (R486): H rises by no more than 2 in 10 samples. -/
def State.dutySample (s : State) (t : Int) : State :=
  let throttles := s.pw.mode = .depot || s.pw.mode = .bench
  let h := if throttles then s.loops.recentH.foldl (fun h p => min h (p + 2)) (thermalLimit t) else 16
  let s := { s with loops := { s.loops with recentH := if throttles then (h :: s.loops.recentH).take 10 else [] } }
  let s := s.setObj 0xB023 4 h
  let on := s.pw.mode = .depot && h < 16
  let s :=
    if on && !s.throttling then { s with throttling := true }.raise 0x4220 0xFF (ofSigned 32 t)
    else { s with throttling := on }.refreshReg
  let s := s.setObj 0xB023 3 s.duty
  s.loopJudge 2 (s.obj 0xB023 1) (s.obj 0xB023 2) (s.obj 0xB023 3)

/-- The temperature monitor (R370): outside the operating range, or a sensor apart in 3 consecutive samples. -/
def State.tempMonitor (s : State) (l : List Int) (t : Int) : State :=
  let apart := s.apartNow l
  let out := decide (1250 < t) || l.any fun v => decide (v < -400)
  let s := { s with tempOut := out, loops := { s.loops with apart := apart } }
  if out || apart.any (3 ≤ ·) then s.classS 0x0A (ofSigned 32 t) (some (0x4230, 0xFF, ofSigned 32 t)) else s.refreshReg

/-- TEMPERATURE_SAMPLE (R370): the readings are shown in every state but OFF; the monitor, the cellar and the duty loop act
where the core runs. -/
def execTemperatureSample (sensors : List Int) (stack0 stack1 : Int) (s : State) : Out :=
  .next (
    if s.pw.mode = .off then s
    else
      let l := s.trimTemps sensors
      let t := l.foldl max (l.getD 0 0)
      let s := s.setObj 0xB003 1 (ofSigned 16 t)
      if !s.loopsRun then s
      else
        let s := (List.range 8).foldl (fun s k => s.setObj 0x5040 (0x0D + k) (ofSigned 16 (l.getD k 0))) s
        let s := if s.objI 16 0x5040 0x15 < t then s.setObj 0x5040 0x15 (ofSigned 16 t) else s
        let s := (s.setObj 0x4800 5 (ofSigned 16 stack0)).setObj 0x4800 6 (ofSigned 16 stack1)
        let s := (List.range 8).foldl (fun s k => s.monSample 0x0F k (l.getD k 0)) s
        let s := s.monSample 0x0F 0xFFFF t
        ((s.tempMonitor l t).derate t).dutySample t)

/-! ## Power (R400, R487) -/

/-- The cap in force, mW. -/
def State.powerCap (s : State) : Nat :=
  1000 * min (s.obj 0xB024 1) (if s.pw.mode = .depot || (s.pw.mode = .bench && s.pw.shore) then 80 else 55)

/-- The power limit on d at a tick. -/
def State.powerLoop (s : State) (avg : Nat) : State :=
  let cap := s.powerCap
  let l := s.obj 0xB024 3
  let s :=
    if cap < avg then { s with loops := { s.loops with lowPower := none } }.setObj 0xB024 3 (max 1 (l - 1))
    else if 100 * avg ≤ 95 * cap then
      let t := s.loops.lowPower.getD s.now
      if t + 10000 ≤ s.now then
        { s with loops := { s.loops with lowPower := some s.now } }.setObj 0xB024 3 (min 16 (l + 1))
      else { s with loops := { s.loops with lowPower := some t } }
    else { s with loops := { s.loops with lowPower := none } }
  s.loopJudge 3 0 (s.obj 0xB024 1) (cap / 1000)

/-- A rail's trimmed reading (R179, R183). DESIGN CHOICE (log entry 23): rounded to nearest. -/
def State.trimRail (s : State) (r mv : Nat) : Nat :=
  (roundAway (mv * field s.trims (16 + 2 * r) 2) 32768 + toSigned 16 (field s.trims (32 + 2 * r) 2)).toNat

/-- POWER_SAMPLE (R487): each tick; the readings feed monitor sources 0x09 and 0x10 (R400). -/
def execPowerSample (avg : BitVec 32) (rails : List (BitVec 16)) (traffic : Nat) (s : State) : Out :=
  .next (
    if !s.loopsRun then s
    else
      let s := (s.setObj 0xB024 2 avg.toNat).raiseMax 0xB024 4 avg.toNat
      let s := s.monSample 0x09 0 traffic
      let s := (List.range (min 8 rails.length)).foldl (fun s r =>
        let mv := s.trimRail r (rails.getD r 0).toNat
        (s.setObj 0x5040 (5 + r) (mv % 65536)).monSample 0x10 r mv) s
      if s.pw.mode = .depot || s.pw.mode = .bench || s.pw.mode = .handover then s.powerLoop avg.toNat else s)

/-! ## The spill level (R488) -/

/-- SPILL_LEVEL_EVALUATION (R488): every 1,000 ticks. -/
def execSpillLevelEvaluation (s : State) : Out :=
  .next (
    if !s.loopsRun then s
    else
      let p := s.loops
      let calm := if p.forced then 0 else p.calmSpill + 1
      let since := if p.forcedSafe then 0 else min 100 (p.sinceSafe + 1)
      let hi := if s.pw.mode = .drive && since < 100 then 3 else 4
      let l := s.obj 0x3106 3
      let want := if p.forced then l - 1 else if calm = 100 then l + 1 else l
      let new := loopPick (s.obj 0x3106 1) (s.obj 0x3106 2) 2 hi want
      let s := { s with loops := { p with
        forced := false, forcedSafe := false, calmSpill := if calm = 100 then 0 else calm, sinceSafe := since } }
      let s := (s.setObj 0xB025 1 hi).setObj 0x3106 3 new
      let s := if new = l then s else s.bump 0xB025 2
      s.loopJudge 4 (s.obj 0x3106 1) (s.obj 0x3106 2) new)

/-- DISAGREEMENT_HOLDOFF_END (R480). -/
def execDisagreementHoldoffEnd (s : State) : Out := .next (if s.loops.pendJournal then s.loopJournal else s)

end Sys2Proof.Machine
end

