-- ==== Sys2Proof/Machine/Polders.lean ====
section
/-! DEFINITION. Polder gating, DOZE, and the BAR4 window (R61 to R63, R241, R250, R353, R355). -/

namespace Sys2Proof.Machine

open Sys2Proof

/-! ## Gating (R62, R63) -/

/-- Whether a queue is assigned to an engine or pair: it is of its partition, and its engine set names it (R62, R331). -/
def State.assigned (s : State) (q e : Nat) : Bool :=
  s.queuePart q == s.enginePart e && (s.obj 0x6000 5 q).testBit (s.lead e)

/-- Whether a unit's contexts are idle and its queues empty: no context in use, nothing pending in a queue assigned to it, no
dike, no test. -/
def State.unitIdle (s : State) (e : Nat) : Bool :=
  ((s.unitOf e).all fun k =>
    (s.inUse k).isEmpty && !(s.engine k).withdrawn && !(s.engine k).testing && !(s.engine k).waking && !s.outOfService k) &&
  (s.engine (s.lead e)).dike.isNone &&
  !(s.sched.jobs.any fun j => j.phase = .pending && s.assigned j.queue e)

/-- Whether no enabled queue is assigned to an engine (R62, R330). -/
def State.noQueue (s : State) (e : Nat) : Bool :=
  !(List.range 512).any fun q => s.objB 0x6000 1 q && s.assigned q e

/-- The states in which polders move between levels. -/
def State.gates (s : State) : Bool := s.pw.mode = .bench || s.pw.mode = .drive || s.pw.mode = .depot

/-- A unit takes a level. -/
def State.unitLevel (s : State) (e lvl : Nat) : State :=
  (s.unitOf e).foldl (fun s k => s.setObj 0x4000 1 lvl k) s

/-- POLDER_CLOCK_GATE (R62, R63): a unit that has become busy stays at its level. -/
def execPolderClockGate (e : Fin 48) (s : State) : Out :=
  .next (if s.gates && s.unitIdle e.val && s.obj 0x4000 1 e.val = 0 then s.unitLevel e.val 1 else s)

/-- The effective power-gate policy (R62). -/
def State.gatePolicy (s : State) : Nat := if s.pw.mode = .drive then 1 else s.obj 0xB010 2

/-- POLDER_POWER_GATE (R62, R63). -/
def execPolderPowerGate (e : Fin 48) (s : State) : Out :=
  .next (
    let allowed := s.gatePolicy = 2 || (s.gatePolicy = 1 && s.noQueue e.val)
    if s.gates && allowed && s.unitIdle e.val && s.obj 0x4000 1 e.val ≤ 1 then s.unitLevel e.val 2 else s)

/-- POLDER_WAKE_DONE (R62): the unit runs; a dispatch that waited is made, and an access that waited is issued again by its
thread. -/
def execPolderWakeDone (e : Fin 48) (s : State) : Out :=
  .next (
    if !(s.unitOf e.val).any fun k => (s.engine k).waking then s
    else
      let s := (s.unitOf e.val).foldl (fun s k => s.modEngine k fun v => { v with waking := false }) s
      if s.outOfService e.val then s else (s.unitLevel e.val 0).dispatch)

/-- DOZE_ENTRY (R61): no guest descriptor, no running job, no checkpoint transfer. -/
def execDozeEntry (s : State) : Out :=
  .next (
    let guests := s.sched.jobs.any fun j => j.part != 0 && j.phase = .pending
    let runs := s.sched.jobs.any fun j => j.phase = .running
    let transfer := !s.depot.pulls.isEmpty || s.depot.guests.any fun g => g.2.ckpt.isSome || g.2.restore.isSome
    if s.pw.mode != .depot || s.objB 0x2001 3 || guests || runs || transfer || !s.mayMove then s
    else ((s.engineLevels 2).setObj 0x2001 3 1).bump 0xB011 2)

/-! ## BAR4 (R241, R250, R353, R355) -/

/-- What answers a BAR4 access in the present state: 0 the map, 1 nothing (SAFE, and before the cellar is trained), 2 the staging
window for writes of the physical function alone. -/
def State.bar4State (s : State) : Nat :=
  if s.pw.mode = .safe || !s.su.cellarOn then 1 else if s.su.benchRestricted then 2 else 0

/-- The physical addresses of the bytes of a BAR4 access, or none where it would fault (R236, R241). -/
def State.bar4Cells (s : State) (part : Nat) (acc : Acs) (x n : Nat) : Option (List Nat) :=
  (List.range n).mapM fun k =>
    if cellarEnd ≤ x + k then none
    else
      match s.translate part acc (x + k) with
      | .inl _ => none
      | .inr a => some a

/-- The range lies in the staging window (R89). -/
def inWindow (x n : Nat) : Bool := 0xBF0000000 ≤ x && x + n ≤ 0xC00000000

/-- The bytes of cells; poison makes an error completion (R250). -/
def State.bar4Read (s : State) (fn : Nat) (l : List Nat) : State :=
  s.emit (if l.any fun a => s.poisoned a 1 then .pcie fn false [] else .pcie fn true (l.map s.memByte))

/-- Consecutive addresses as ranges, so that a write of whole words clears their poison (R250). -/
def State.bar4Store (s : State) (l : List (Nat × Byte)) : State :=
  let whole (w : Nat) : Bool := (List.range 8).all fun k => l.any fun e => e.1 = w + k
  let s := { s with poison := s.poison.filter fun w => !whole w }
  l.foldl (fun s e => { s with mem := Amap.set 0 s.mem e.1 e.2 }) s

/-- BAR4_ACCESS (R241): `data` is what a write carries; of a read, its length is the read's. A function whose path does not exist has
no window. -/
def execBar4Access (fn : Fin 9) (x : BitVec 36) (write : Bool) (data : List Byte) (s : State) : Out :=
  .next (
    let p := fn.val
    let a := x.toNat
    let ones : Output := .pcie p true (List.replicate data.length 0xFF)
    if !s.live (0x10 + p) || !s.su.pcieUp then s
    else if s.bar4State = 1 || (s.bar4State = 2 && !(write && p = 0 && inWindow a data.length)) then
      if write then s else s.emit ones
    else
      match s.bar4Cells p (if write then .write else .read) a data.length with
      | none =>
        let s := (s.bump 0x4803 1).setObj 0x4803 2 a
        if write then s else s.emit ones
      | some l => if write then s.bar4Store (l.zip data) else s.bar4Read p l)

end Sys2Proof.Machine
end

