-- ==== Sys2Proof/Machine/Power.lean ====
section
/-! DEFINITION. The commands of the Pumping Station: power, wake, reset and start-up (chapters 2, 3 and 23). -/

namespace Sys2Proof.Machine

/-- PORST_N_ASSERT (R68): OFF at once; the next history entry takes cause 0x01 (R93, R524). -/
def execPorstNAssert (s : State) : Out :=
  .next ({ s with pw := { s.pw with porst := true, offCause := 1 } }.turnOff)

/-- PORST_N_RELEASE (R68, R38, R59, R69): accepted with VAON in range; the straps are sampled, the real-time counter
starts from zero, the attic is read, the entry of cause 0x01 is written. -/
def execPorstNRelease (strap : Fin 4) (s : State) : Out :=
  .next <|
    if !s.pw.porst || !s.pw.vaonOk then s
    else
      let s := { s with
        pw := { s.pw with porst := false, offCause := 1 }
        clk := { s.clk with rtc := 0, rtcFrac := 0 } }
      (s.setObj 0x2000 5 strap.val).bootStart

/-- SCLK_CONFIRMED (R69): PARKED commits on the crystal. -/
def execSclkConfirmed (s : State) : Out :=
  .next (if s.pw.booting then (s.setObj 0x2030 6 0).bootParked else s)

/-- SCLK_SUBSTITUTE (R69): PARKED commits with ACLK divided by 122. -/
def execSclkSubstitute (s : State) : Out :=
  .next (if s.pw.booting then (s.setObj 0x2030 6 1).bootParked else s)

/-- ACLK_RETRIM (R44): the measured error is shown in 0xB003:04, in 0.01 %; the trim that it leads to is a free value (log entry 2). -/
def execAclkRetrim (err : BitVec 16) (s : State) : Out :=
  .next (
    if s.pw.mode = .off then s
    else
      let f := s.takeFree
      { f.2 with pw := { f.2.pw with aclkTrim := (Config.freeWord f.1).toNat % 1024 } }.setObj 0xB003 4 err.toNat)

/-- VAON_OUT_OF_RANGE (R515). -/
def execVaonOutOfRange (mv : BitVec 16) (flagSurvives : Bool) (s : State) : Out :=
  .next (s.vaonLost mv.toNat flagSurvives)

/-- VAON_RETURN_TO_RANGE (R46, R77): with PORST_N released, start toward PARKED with an entry of cause 0x02 or 0x01; the
counter restarts only where VAON was lost entirely (R59). -/
def execVaonReturnToRange (s : State) : Out :=
  .next <|
    if s.pw.vaonOk then s
    else
      let s := { s with pw := { s.pw with vaonOk := true } }
      if s.pw.porst then s
      else
        let s := if s.pw.offCause = 1 then { s with clk := { s.clk with rtc := 0, rtcFrac := 0 } } else s
        s.bootStart

/-- The effect of a filtered IGN level in each state (R46, R49, R50, R51, R56, R66). -/
def State.ignLevel (s : State) (level : Bool) : State :=
  let s := { s with pw := { s.pw with ign := level, wakeReqWake := s.pw.wakeReqWake && !level } }
  match s.pw.mode with
  | .parked => if level then s.fireWake 0 else s
  | .waking =>
    let s := if level then s.fireWake 0 else s
    if level && s.pw.readyHold.isSome && s.mayMove then s.enterDrive else s
  | .drive =>
    if s.pw.teardown.isSome then (if level then s.fireWake 0 else s)
    else if level then
      let near : Bool := match s.pw.driveOff with
        | some t => t ≤ s.now
        | none => false
      let s := if near then s.nearMissIn 0x7011 1 else s
      { s with pw := { s.pw with driveOff := none } }.setPhase 0
    else s.startDriveOff
  | .depot => if level && s.mayMove then s.enterHandover else s
  | .handover => if level && s.pw.teardown.isSome then s.fireWake 0 else s
  | .bench => if level && s.pw.teardown.isSome then s.fireWake 0 else s
  | _ => s

/-- IGN_WAKE_CHANGE (R48). -/
def execIgnWakeChange (level : Bool) (s : State) : Out :=
  .next (if s.pw.mode = .off || s.pw.ign = level then s else s.ignLevel level)

/-- The effect of a filtered SHORE level (R46, R55, R56, R66). DESIGN CHOICE (log entry 63): DEPOT entered from ready-hold, in which
the pairs stay paired (R81), is an entry from WAKING, and the boot option splits them there. -/
def State.shoreLevel (s : State) (level : Bool) : State :=
  let s := { s with pw := { s.pw with shore := level, wakeReqWake := s.pw.wakeReqWake && !level } }
  let fires := level && s.depotOn
  match s.pw.mode with
  | .parked => if fires then s.fireWake 1 else s
  | .waking =>
    let s := if fires then s.fireWake 1 else s
    if fires && s.pw.readyHold.isSome && s.mayMove && !s.pw.ign then s.enterDepot.splitAtBoot else s
  | .depot => if !level && s.mayMove then s.enterHandover else s
  | _ =>
    if fires && s.pw.teardown.isSome then s.fireWake 1 else s

/-- SHORE_PWR_CHANGE (R48). -/
def execShorePwrChange (level : Bool) (s : State) : Out :=
  .next (if s.pw.mode = .off || s.pw.shore = level then s else s.shoreLevel level)

/-- RESET_N_ASSERT (R71, R73, R93). -/
def execResetNAssert (s : State) : Out :=
  .next <|
    if s.pw.mode = .off || s.pw.resetHeld then s
    else
      let m := s.pw.mode
      let s := s.resetCore
      let s := { s with pw := { s.pw with
        resetHeld := true, resetAt := s.now, resetRtc := s.clk.rtc, resetMode := m,
        resetStuckTime := s.obj 0x2030 3, resetStuck := false, resetLong := false } }
      (s.setObj 0x2030 1 3).setObj 0x2030 2 0

/-- RESET_N_RELEASE (R74 to R76, R78, R391). -/
def execResetNRelease (s : State) : Out :=
  .next <|
    if !s.pw.resetHeld then s
    else
      let hold := s.holdMs
      let counted := countsReset s.pw.resetMode
      let s := if counted then s.deviceResetCount else s
      let cause := if s.pw.resetLong || 5000 < hold then 4 else 3
      let flags := (if counted then 1 else 0) + (if s.pw.safeLatch then 2 else 0) + (if s.pw.resetStuck then 8 else 0)
      let s := s.addHistory s.pw.resetRtc cause s.pw.resetMode.code flags hold 0
      let s := (s.setObj 0x2030 2 (min hold (2 ^ 32 - 1))).setObj 0x2030 1
        (if s.pw.resetStuck then 7 else cause)
      { s with pw := { s.pw with resetHeld := false } }.afterReset

/-- RESET_HELD (R74). -/
def execResetHeld (s : State) : Out :=
  .next <|
    if s.pw.resetHeld && !s.pw.resetLong then
      let s := { s with pw := { s.pw with resetLong := true } }
      if s.pw.resetStuck then s else s.setObj 0x2030 1 4
    else s

/-- RESET_LINE_STUCK (R74): one entry of cause 0x07, which never counts (R75). -/
def execResetLineStuck (s : State) : Out :=
  .next <|
    if s.pw.resetHeld && !s.pw.resetStuck then
      let s := s.addHistory s.pw.resetRtc 7 s.pw.resetMode.code 8 (1000 * s.pw.resetStuckTime) 0
      { s with pw := { s.pw with resetStuck := true } }.setObj 0x2030 1 7
    else s

/-- Whether a frame matches the wake filter 0xB002 (R57). -/
def State.wakeMatch (s : State) (f : CanFrame) : Bool :=
  let m := s.obj 0xB002 2
  let id := s.obj 0xB002 1
  let dm := s.obj 0xB002 4
  f.id.toNat &&& m == id % 2 ^ 29 &&& m && f.ide == bit id 31 &&
  (s.obj 0xB002 5 == 0xFF || f.dlc.toNat == s.obj 0xB002 5) &&
  leVal (padTo 8 f.data) &&& dm == s.obj 0xB002 3 &&& dm

/-- Whether the Pumping Station runs port 0 (R127). -/
def State.port0Parked (s : State) : Bool :=
  s.pw.mode = .parked || (s.pw.mode = .waking && !(s.port 0).core)

/-- CAN_PARKED_FRAME (R57, R56, R58): skipped with BRS or as CAN XL, counted with an error, else put to the filter; every
match counts, and an enabled source 2 fires. -/
def execCanParkedFrame (f : CanFrame) (s : State) : Out :=
  .next <|
    if !s.port0Parked then s
    else if f.brs || f.xl then s.bump 0xB002 8
    else if f.error then s.bump 0xB002 9
    else if s.wakeMatch f then
      let s := s.bump 0xB002 7
      let s := if s.objBit 0xB001 1 2 && s.objB 0xB001 5
        then { s with pw := { s.pw with wakeReqWake := true } } else s
      s.fireWake 2
    else s

/-- REAL_TIME_ALARM (R56, R58). -/
def execRealTimeAlarm (s : State) : Out :=
  .next <|
    if s.pw.mode = .off || s.obj 0xB001 7 = 0 || !(s.pw.mode = .parked || s.pw.mode = .waking || s.pw.teardown.isSome)
    then s
    else
      let s := if s.objBit 0xB001 1 3 && s.objB 0xB001 5
        then { s with pw := { s.pw with wakeReqWake := true } } else s
      s.fireWake 3

/-- DEFERRED_WAKE_COMMIT (R60). -/
def execDeferredWakeCommit (s : State) : Out :=
  .next <|
    match s.pw.deferred with
    | some src =>
      if s.pw.mode = .parked && !s.pw.resetHeld && s.objI 16 0xB003 1 ≤ 1200 then s.commitWaking src else s
    | none => s

/-- CORE_DOMAINS_POWERED (R45, R82 step 2), once the regulator has confirmed the set point (R516); where it is silent, the domains are
powered all the same (R524). -/
def execCoreDomainsPowered (s : State) : Out :=
  .next (
    if s.pw.mode = .waking && !s.su.coreOn then
      let s := { s with su := { s.su with coreOn := true } }
      if s.objB 0xB030 5 then s else s.setObj 0xB030 2 s.pw.avsSet
    else s)

/-- The Time Base's starting value: the real-time counter in whole ns (R193). -/
def tbStart (rtc : Nat) : Nat := rtc * 30517578125 / 1000000

/-- Whether a calibration set is in force (R187). -/
def State.hasCalibration (s : State) : Bool := s.obj 0x8001 2 != 0xFF

/-- PLL_LOCK (R193, R82 step 3, R187): the Time Base starts; without a calibration set the wake is a class-S detection
with code 0x0E; otherwise the parallel start-up steps and the Fuind ports begin. -/
def execPllLock (s : State) : Out :=
  .next <|
    if s.pw.mode != .waking || !s.su.coreOn || s.su.pllOn then s
    else
      let s := { s with
        su := { s.su with pllOn := true }
        clk := { s.clk with tb := tbStart s.clk.rtc * 2 ^ 40, tbRun := true, ticks := 0 } }
      let s := (((s.setObj 0x9000 4 0).setObj 0x9000 3 1).setObj 0x2001 8 1000).setPhase 2
      let s := { s with seq := { s.seq with hz := { s.seq.hz with loaded := true } } }.hazardRecheck
      if s.hasCalibration then s.fuindStart
      else (s.raise 0xFF0A 0xFF 0).classS 0x0E 0

/-- Whether the start-up steps of R82 may run: PLLs locked in WAKING, a calibration set, no class-S detection. -/
def State.startupRuns (s : State) : Bool :=
  s.pw.mode = .waking && s.su.pllOn && s.hasCalibration && s.pw.pendSafe.isNone

/-- KEEPER_LBIST_DONE (R83). -/
def execKeeperLbistDone (passA passB : Bool) (s : State) : Out :=
  .next <|
    if !s.startupRuns || s.su.keepersTested then s
    else if passA && passB then { s with su := { s.su with keepersTested := true } }.latchCheck
    else (s.bump 0x5030 2).classS 0x0E 5 (some (0x5050, 0xFF, 5))

/-- CELLAR_TRAINING_DONE (R83): a first failure trains again, a second demands SAFE; a trained cellar opens the staging
window, whose deadline is 875 ms after the wake reference (R82, R90). -/
def execCellarTrainingDone (pass : Bool) (s : State) : Out :=
  .next <|
    if !s.startupRuns || s.su.cellarOn then s
    else if pass then
      let s := { s with su := { s.su with cellarOn := true } }
      if s.pw.safeLatch then s.latchCheck
      else (s.openWindow (s.su.wakeAt + 875000)).setObj 0x2050 2 1
    else if s.su.trainFails = 0 then { s with su := { s.su with trainFails := 1 } }
    else { s with su := { s.su with trainFails := 2 } }.classSOpen 0x0E

/-- ENGINE_LBIST_DONE (R83, R91): each failing engine goes out of service for the wake. -/
def execEngineLbistDone (lbistFail mbistFail : BitVec 48) (s : State) : Out :=
  .next <|
    let runs := (s.startupRuns && !s.su.enginesTested) || (s.pw.mode = .handover && s.su.toDrive && !s.su.enginesTested)
    if !runs then s
    else
      let s := (List.range 48).foldl (fun s e =>
        if bit lbistFail.toNat e then s.engineFail e 1
        else if bit mbistFail.toNat e then s.engineFail e 2
        else s) s
      { s with su := { s.su with enginesTested := true } }.latchCheck

/-- PCIE_LINK_TRAINED (R82 step 4d, R104): the physical function's path comes into being; step 4d runs with a calibration set
alone (R187). -/
def execPcieLinkTrained (s : State) : Out :=
  .next <|
    if s.pw.mode.awake && s.su.pllOn && s.hasCalibration && (s.pw.mode != .waking || s.startupRuns) && !s.su.pcieUp then
      { s with su := { s.su with pcieUp := true } }.freshPath 0x10
    else s

/-- Whether an address lies in the staging window (R89). -/
def inStaging (a : Nat) : Bool := 0xBF0000000 ≤ a && a < 0xC00000000

/-- CELLAR_ZEROED (R82 step 5): the cellar outside the staging window is zero, with valid ECC. -/
def execCellarZeroed (s : State) : Out :=
  .next <|
    if !s.startupRuns || !s.su.cellarOn || s.su.zeroed || s.pw.safeLatch then s
    else { s with
      su := { s.su with zeroed := true }
      mem := s.mem.filter fun e => !inCellar e.1 || inStaging e.1
      poison := s.poison.filter fun a => !inCellar a || inStaging a }

/-- DELIVERY_DEADLINE (R90): status 0x16, an attempt used up. -/
def execDeliveryDeadline (s : State) : Out :=
  .next <|
    match s.su.window with
    | some _ => if s.pw.pendSafe.isSome then s else s.attemptFailed 0x16
    | none => s

/-- STARTUP_COMPLETE (R46, R50, R81, R82 step 9): the WAKING rows select BENCH, DRIVE, DEPOT or ready-hold. -/
def execStartupComplete (s : State) : Out :=
  .next <|
    let bench := s.su.boot.bench || s.pw.benchWake
    let noModel := bench && s.su.boot.attempts ≤ s.obj 0x2050 5 && s.su.window.isNone && s.su.checking.isNone
    if !s.startupRuns || s.pw.safeLatch || s.su.complete || !s.selfTested || !s.su.zeroed || s.su.placing ||
       !(s.su.loaded || noModel) || !s.mayMove then s
    else
      let s := { s with su := { s.su with complete := true } }
      if bench then (s.enterBench).splitAtBoot
      else if s.pw.ign then s.enterDrive
      else if s.depotReady then s.enterDepot.splitAtBoot
      else { s with pw := { s.pw with readyHold := some (s.now + 1000 * s.obj 0xB001 4) } }.engineLevels 2 |>.setPhase 3

/-- READY_HOLD_EXPIRY (R50): teardown toward PARKED. -/
def execReadyHoldExpiry (s : State) : Out :=
  .next (if s.pw.mode = .waking && s.pw.readyHold.isSome && s.mayMove then s.startTeardown else s)

/-- DRIVE_OFF_DELAY_EXPIRY (R46, R49): DEPOT, or teardown toward PARKED. -/
def execDriveOffDelayExpiry (s : State) : Out :=
  .next <|
    if s.pw.mode = .drive && s.pw.driveOff.isSome && s.mayMove then
      if s.depotReady then s.seqExit.enterDepot else s.startTeardown
    else s

/-- TEARDOWN_DONE (R53, R66): with the attic's writes complete, the steps that are left run in order, PARKED commits, and the latched
causes are evaluated. -/
def execTeardownDone (s : State) : Out :=
  .next <|
    if s.pw.teardown.isSome && s.attic.queue.isEmpty && s.attic.pendSet.isNone && s.pw.pendSafe.isNone then
      (s.teardownStep.teardownStep.teardownStep.commitParked false).evalCauses
    else s

end Sys2Proof.Machine
end

