-- ==== Sys2Proof/Machine/QueueCmds.lean ====
section
/-! DEFINITION. The commands of the queue manager: doorbells, completion records and dispatch (chapter 14). -/

namespace Sys2Proof.Machine

open Sys2Proof

/-- A writer's write to a queue's page: a thread's page outside its partition is a memory exception of kind 0x03 (R236,
R334). -/
def State.bellStore (s : State) (wr : Writer) (q off : Nat) (data : List Byte) : State :=
  match wr with
  | .fn _ => (s.bellBy wr q off data).settle
  | .hart h =>
    if !s.runs h then s
    else if isCtx h && s.queuePart q != s.whoPart (.hart h) then s.exc h 0x13 (bellBase + q * 0x1000 + off)
    else (s.bellBy wr q off data).settle

/-- A PCIe function's read of a queue's page: of a page outside its partition every byte is 0xFF (R334). A thread reads by
its loads. -/
def State.bellFetch (s : State) (wr : Writer) (q off n : Nat) : State :=
  match wr with
  | .hart _ => s
  | .fn f =>
    if !s.pw.mode.awake || !(s.path (0x10 + f.val)).live then s
    else if s.queuePart q != f.val then s.emit (.pcie f.val true (List.replicate n 0xFF))
    else s.emit (.pcie f.val true (s.bellRead q (writerCode wr) off n))

/-- DOORBELL_SUBMIT (R334): an access to a queue's page. A write that covers 0x038 to 0x03F submits the staged descriptor. -/
def execDoorbellSubmit (wr : Writer) (q : Fin 512) (access : BellAccess) (s : State) : Out :=
  .next (if access.write then s.bellStore wr q.val access.off.toNat access.data
    else s.bellFetch wr q.val access.off.toNat access.data.length)

/-- DOORBELL_CANCEL (R334, R340). -/
def execDoorbellCancel (wr : Writer) (q : Fin 512) (tag : Word) (s : State) : Out :=
  .next (s.bellStore wr q.val 0x40 (leBytes 8 tag.toNat))

/-- COMPLETIONS_CONSUMED (R334). -/
def execCompletionsConsumed (wr : Writer) (q : Fin 512) (n : BitVec 32) (s : State) : Out :=
  .next (s.bellStore wr q.val 0x48 (leBytes 4 n.toNat))

/-- COMPLETION_RECORD_WRITE (R339). -/
def execCompletionRecordWrite (q : Fin 512) (s : State) : Out := .next (s.writeRecord q.val)

/-- JOB_DISPATCH (R335 to R338). -/
def execJobDispatch (s : State) : Out := .next s.dispatch

end Sys2Proof.Machine
end

