-- ==== Sys2Proof/Machine/Dispatch.lean ====
section
/-! DEFINITION. One arm per command: the meaning it calls, by the rows of spec/opcode_table.json. -/

namespace Sys2Proof.Machine

open Sys2Proof

/-- The effect of a command on everything but the queue. -/
def exec (i : Instr) (s : State) : Host.Outcome State Fault Refusal :=
  match i with
  | .porstNAssert => Sys2Proof.Machine.execPorstNAssert s
  | .porstNRelease strap => Sys2Proof.Machine.execPorstNRelease strap s
  | .sclkConfirmed => Sys2Proof.Machine.execSclkConfirmed s
  | .sclkSubstitute => Sys2Proof.Machine.execSclkSubstitute s
  | .aclkRetrim err => Sys2Proof.Machine.execAclkRetrim err s
  | .vaonOutOfRange mv flagSurvives => Sys2Proof.Machine.execVaonOutOfRange mv flagSurvives s
  | .ignWakeChange level => Sys2Proof.Machine.execIgnWakeChange level s
  | .shorePwrChange level => Sys2Proof.Machine.execShorePwrChange level s
  | .resetNAssert => Sys2Proof.Machine.execResetNAssert s
  | .resetNRelease => Sys2Proof.Machine.execResetNRelease s
  | .resetHeld => Sys2Proof.Machine.execResetHeld s
  | .resetLineStuck => Sys2Proof.Machine.execResetLineStuck s
  | .canParkedFrame f => Sys2Proof.Machine.execCanParkedFrame f s
  | .realTimeAlarm => Sys2Proof.Machine.execRealTimeAlarm s
  | .deferredWakeCommit => Sys2Proof.Machine.execDeferredWakeCommit s
  | .requestParked p => Sys2Proof.Machine.execRequestParked p s
  | .requestWake p => Sys2Proof.Machine.execRequestWake p s
  | .requestBench p => Sys2Proof.Machine.execRequestBench p s
  | .requestDrive p => Sys2Proof.Machine.execRequestDrive p s
  | .coreDomainsPowered => Sys2Proof.Machine.execCoreDomainsPowered s
  | .pllLock => Sys2Proof.Machine.execPllLock s
  | .keeperLbistDone passA passB => Sys2Proof.Machine.execKeeperLbistDone passA passB s
  | .cellarTrainingDone pass => Sys2Proof.Machine.execCellarTrainingDone pass s
  | .engineLbistDone lbistFail mbistFail => Sys2Proof.Machine.execEngineLbistDone lbistFail mbistFail s
  | .pcieLinkTrained => Sys2Proof.Machine.execPcieLinkTrained s
  | .cellarZeroed => Sys2Proof.Machine.execCellarZeroed s
  | .deliveredLength p len => Sys2Proof.Machine.execDeliveredLength p len s
  | .deliveryDeadline => Sys2Proof.Machine.execDeliveryDeadline s
  | .imageCheckDone => Sys2Proof.Machine.execImageCheckDone s
  | .sectionsPlaced => Sys2Proof.Machine.execSectionsPlaced s
  | .startupComplete => Sys2Proof.Machine.execStartupComplete s
  | .readyHoldExpiry => Sys2Proof.Machine.execReadyHoldExpiry s
  | .driveOffDelayExpiry => Sys2Proof.Machine.execDriveOffDelayExpiry s
  | .teardownDone => Sys2Proof.Machine.execTeardownDone s
  | .atticWriteDone verified => Sys2Proof.Machine.execAtticWriteDone verified s
  | .dozeEntry => Sys2Proof.Machine.execDozeEntry s
  | .polderClockGate e => Sys2Proof.Machine.execPolderClockGate e s
  | .polderPowerGate e => Sys2Proof.Machine.execPolderPowerGate e s
  | .polderWakeDone e => Sys2Proof.Machine.execPolderWakeDone e s
  | .temperatureSample sensors stack0 stack1 => Sys2Proof.Machine.execTemperatureSample sensors stack0 stack1 s
  | .handoverWipeDone => Sys2Proof.Machine.execHandoverWipeDone s
  | .residentImageCheckDone => Sys2Proof.Machine.execResidentImageCheckDone s
  | .handoverComplete => Sys2Proof.Machine.execHandoverComplete s
  | .objectWrite p idx sub data => Sys2Proof.Machine.execObjectWrite p idx sub data s
  | .clearingRead p idx form => Sys2Proof.Machine.execClearingRead p idx form s
  | .timeBaseRead p => Sys2Proof.Machine.execTimeBaseRead p s
  | .unlockFirstKey p => Sys2Proof.Machine.execUnlockFirstKey p s
  | .unlockSecondKey p => Sys2Proof.Machine.execUnlockSecondKey p s
  | .unlockWindowClose p => Sys2Proof.Machine.execUnlockWindowClose p s
  | .sealedWrite p rec => Sys2Proof.Machine.execSealedWrite p rec s
  | .stagedDownloadTimeout p => Sys2Proof.Machine.execStagedDownloadTimeout p s
  | .mailboxUploadStart p => Sys2Proof.Machine.execMailboxUploadStart p s
  | .mailboxNextSegment p => Sys2Proof.Machine.execMailboxNextSegment p s
  | .mailboxDownloadStart p => Sys2Proof.Machine.execMailboxDownloadStart p s
  | .mailboxSegmentWrite p len => Sys2Proof.Machine.execMailboxSegmentWrite p len s
  | .mailboxCommit p => Sys2Proof.Machine.execMailboxCommit p s
  | .mailboxAbort p => Sys2Proof.Machine.execMailboxAbort p s
  | .mailboxTimeout p => Sys2Proof.Machine.execMailboxTimeout p s
  | .journalLatch p k => Sys2Proof.Machine.execJournalLatch p k s
  | .peerSlotRelease slot => Sys2Proof.Machine.execPeerSlotRelease slot s
  | .functionLevelReset fn => Sys2Proof.Machine.execFunctionLevelReset fn s
  | .perstNAssert => Sys2Proof.Machine.execPerstNAssert s
  | .canPortTakeover => Sys2Proof.Machine.execCanPortTakeover s
  | .nmtStart port node => Sys2Proof.Machine.execNmtStart port node s
  | .nmtStop port node => Sys2Proof.Machine.execNmtStop port node s
  | .nmtEnterPreoperational port node => Sys2Proof.Machine.execNmtEnterPreoperational port node s
  | .nmtResetNode port node => Sys2Proof.Machine.execNmtResetNode port node s
  | .nmtResetCommunication port node => Sys2Proof.Machine.execNmtResetCommunication port node s
  | .nmtAutostart port => Sys2Proof.Machine.execNmtAutostart port s
  | .usdoRequest port fmt req => Sys2Proof.Machine.execUsdoRequest port fmt req s
  | .tpdoEventTimer n => Sys2Proof.Machine.execTpdoEventTimer n s
  | .tpdoChange n => Sys2Proof.Machine.execTpdoChange n s
  | .heartbeatTimer port => Sys2Proof.Machine.execHeartbeatTimer port s
  | .emcyTransmit port => Sys2Proof.Machine.execEmcyTransmit port s
  | .canCollision port id ide => Sys2Proof.Machine.execCanCollision port id ide s
  | .releaseBlocks p port => Sys2Proof.Machine.execReleaseBlocks p port s
  | .busOffRecovery port => Sys2Proof.Machine.execBusOffRecovery port s
  | .udpDictRead addr port m => Sys2Proof.Machine.execUdpDictRead addr port m s
  | .udpDictWrite addr port m => Sys2Proof.Machine.execUdpDictWrite addr port m s
  | .udpUploadStart addr port m => Sys2Proof.Machine.execUdpUploadStart addr port m s
  | .udpUploadNext addr port m => Sys2Proof.Machine.execUdpUploadNext addr port m s
  | .udpDownloadStart addr port m => Sys2Proof.Machine.execUdpDownloadStart addr port m s
  | .udpDownloadSegment addr port m => Sys2Proof.Machine.execUdpDownloadSegment addr port m s
  | .udpDownloadCommit addr port m => Sys2Proof.Machine.execUdpDownloadCommit addr port m s
  | .udpDictAbort addr port m => Sys2Proof.Machine.execUdpDictAbort addr port m s
  | .csi2LinePacket port vc vcx dt wc payload hdr crcOk => Sys2Proof.Machine.execCsi2LinePacket port vc vcx dt wc payload hdr crcOk s
  | .frameStart port head => Sys2Proof.Machine.execFrameStart port head s
  | .frameEnd port head => Sys2Proof.Machine.execFrameEnd port head s
  | .rangePacket port frame disagree fcsOk udpOk => Sys2Proof.Machine.execRangePacket port frame disagree fcsOk udpOk s
  | .arpRequest port target sender => Sys2Proof.Machine.execArpRequest port target sender s
  | .nearFieldWord port w checks => Sys2Proof.Machine.execNearFieldWord port w checks s
  | .divertCopyDone x => Sys2Proof.Machine.execDivertCopyDone x s
  | .sluiceSlotRelease x strip => Sys2Proof.Machine.execSluiceSlotRelease x strip s
  | .livenessExpiry x => Sys2Proof.Machine.execLivenessExpiry x s
  | .streamEnable p => Sys2Proof.Machine.execStreamEnable p s
  | .streamDisable p => Sys2Proof.Machine.execStreamDisable p s
  | .calibrationSetWrite p set verified => Sys2Proof.Machine.execCalibrationSetWrite p set verified s
  | .calibrationAreaCommit => Sys2Proof.Machine.execCalibrationAreaCommit s
  | .syncReceived m => Sys2Proof.Machine.execSyncReceived m s
  | .announceReceived arrival domain source gm => Sys2Proof.Machine.execAnnounceReceived arrival domain source gm s
  | .pdelayReqTimer => Sys2Proof.Machine.execPdelayReqTimer s
  | .pdelayRespReceived delay ratio => Sys2Proof.Machine.execPdelayRespReceived delay ratio s
  | .pdelayReqReceived arrival seq => Sys2Proof.Machine.execPdelayReqReceived arrival seq s
  | .syncReceiptTimeout => Sys2Proof.Machine.execSyncReceiptTimeout s
  | .announceReceiptTimeout => Sys2Proof.Machine.execAnnounceReceiptTimeout s
  | .timeBaseStep => Sys2Proof.Machine.execTimeBaseStep s
  | .timedLaunch port busFree => Sys2Proof.Machine.execTimedLaunch port busFree s
  | .fusedStripRecord pathReady => Sys2Proof.Machine.execFusedStripRecord pathReady s
  | .stripJobResubmit x => Sys2Proof.Machine.execStripJobResubmit x s
  | .stripDeadline x strip => Sys2Proof.Machine.execStripDeadline x strip s
  | .stripWithdraw x strip => Sys2Proof.Machine.execStripWithdraw x strip s
  | .candidateCopy x strip => Sys2Proof.Machine.execCandidateCopy x strip s
  | .suppressionStart => Sys2Proof.Machine.execSuppressionStart s
  | .suppressionDone => Sys2Proof.Machine.execSuppressionDone s
  | .objectListDeadline x => Sys2Proof.Machine.execObjectListDeadline x s
  | .hazardHoldExpiry => Sys2Proof.Machine.execHazardHoldExpiry s
  | .hazardInjectionTest passed => Sys2Proof.Machine.execHazardInjectionTest passed s
  | .hazardReadbackFault => Sys2Proof.Machine.execHazardReadbackFault s
  | .translationInvalidate p v => Sys2Proof.Machine.execTranslationInvalidate p v s
  | .bar4Access fn x write data => Sys2Proof.Machine.execBar4Access fn x write data s
  | .add h rd rs1 rs2 w => Sys2Proof.Machine.execAdd h rd rs1 rs2 w s
  | .sub h rd rs1 rs2 w => Sys2Proof.Machine.execSub h rd rs1 rs2 w s
  | .andR h rd rs1 rs2 w => Sys2Proof.Machine.execAndR h rd rs1 rs2 w s
  | .orR h rd rs1 rs2 w => Sys2Proof.Machine.execOrR h rd rs1 rs2 w s
  | .xor h rd rs1 rs2 w => Sys2Proof.Machine.execXor h rd rs1 rs2 w s
  | .sll h rd rs1 rs2 w => Sys2Proof.Machine.execSll h rd rs1 rs2 w s
  | .srl h rd rs1 rs2 w => Sys2Proof.Machine.execSrl h rd rs1 rs2 w s
  | .sra h rd rs1 rs2 w => Sys2Proof.Machine.execSra h rd rs1 rs2 w s
  | .slt h rd rs1 rs2 w => Sys2Proof.Machine.execSlt h rd rs1 rs2 w s
  | .sltu h rd rs1 rs2 w => Sys2Proof.Machine.execSltu h rd rs1 rs2 w s
  | .minR h rd rs1 rs2 w => Sys2Proof.Machine.execMinR h rd rs1 rs2 w s
  | .maxR h rd rs1 rs2 w => Sys2Proof.Machine.execMaxR h rd rs1 rs2 w s
  | .minu h rd rs1 rs2 w => Sys2Proof.Machine.execMinu h rd rs1 rs2 w s
  | .maxu h rd rs1 rs2 w => Sys2Proof.Machine.execMaxu h rd rs1 rs2 w s
  | .mul h rd rs1 rs2 w => Sys2Proof.Machine.execMul h rd rs1 rs2 w s
  | .mulh h rd rs1 rs2 => Sys2Proof.Machine.execMulh h rd rs1 rs2 s
  | .mulhu h rd rs1 rs2 => Sys2Proof.Machine.execMulhu h rd rs1 rs2 s
  | .div h rd rs1 rs2 w => Sys2Proof.Machine.execDiv h rd rs1 rs2 w s
  | .divu h rd rs1 rs2 w => Sys2Proof.Machine.execDivu h rd rs1 rs2 w s
  | .rem h rd rs1 rs2 w => Sys2Proof.Machine.execRem h rd rs1 rs2 w s
  | .remu h rd rs1 rs2 w => Sys2Proof.Machine.execRemu h rd rs1 rs2 w s
  | .clz h rd rs1 w => Sys2Proof.Machine.execClz h rd rs1 w s
  | .ctz h rd rs1 w => Sys2Proof.Machine.execCtz h rd rs1 w s
  | .popc h rd rs1 w => Sys2Proof.Machine.execPopc h rd rs1 w s
  | .addi h rd rs1 imm => Sys2Proof.Machine.execAddi h rd rs1 imm s
  | .andi h rd rs1 imm => Sys2Proof.Machine.execAndi h rd rs1 imm s
  | .ori h rd rs1 imm => Sys2Proof.Machine.execOri h rd rs1 imm s
  | .xori h rd rs1 imm => Sys2Proof.Machine.execXori h rd rs1 imm s
  | .slli h rd rs1 sh => Sys2Proof.Machine.execSlli h rd rs1 sh s
  | .srli h rd rs1 sh => Sys2Proof.Machine.execSrli h rd rs1 sh s
  | .srai h rd rs1 sh => Sys2Proof.Machine.execSrai h rd rs1 sh s
  | .slti h rd rs1 imm => Sys2Proof.Machine.execSlti h rd rs1 imm s
  | .sltiu h rd rs1 imm => Sys2Proof.Machine.execSltiu h rd rs1 imm s
  | .addiw h rd rs1 imm => Sys2Proof.Machine.execAddiw h rd rs1 imm s
  | .li h rd imm => Sys2Proof.Machine.execLi h rd imm s
  | .lih h rd imm => Sys2Proof.Machine.execLih h rd imm s
  | .lpc h rd imm => Sys2Proof.Machine.execLpc h rd imm s
  | .beq h rs1 rs2 off => Sys2Proof.Machine.execBeq h rs1 rs2 off s
  | .bne h rs1 rs2 off => Sys2Proof.Machine.execBne h rs1 rs2 off s
  | .blt h rs1 rs2 off => Sys2Proof.Machine.execBlt h rs1 rs2 off s
  | .bge h rs1 rs2 off => Sys2Proof.Machine.execBge h rs1 rs2 off s
  | .bltu h rs1 rs2 off => Sys2Proof.Machine.execBltu h rs1 rs2 off s
  | .bgeu h rs1 rs2 off => Sys2Proof.Machine.execBgeu h rs1 rs2 off s
  | .j h off => Sys2Proof.Machine.execJ h off s
  | .jal h off => Sys2Proof.Machine.execJal h off s
  | .jr h rd rs1 => Sys2Proof.Machine.execJr h rd rs1 s
  | .load h size sext rd rs1 imm ecc => Sys2Proof.Machine.execLoad h size sext rd rs1 imm ecc s
  | .store h size rs2 rs1 imm agree => Sys2Proof.Machine.execStore h size rs2 rs1 imm agree s
  | .swap h dbl ord sc rd rs1 rs2 => Sys2Proof.Machine.execSwap h dbl ord sc rd rs1 rs2 s
  | .amoAdd h dbl ord sc rd rs1 rs2 => Sys2Proof.Machine.execAmoAdd h dbl ord sc rd rs1 rs2 s
  | .amoAnd h dbl ord sc rd rs1 rs2 => Sys2Proof.Machine.execAmoAnd h dbl ord sc rd rs1 rs2 s
  | .amoOr h dbl ord sc rd rs1 rs2 => Sys2Proof.Machine.execAmoOr h dbl ord sc rd rs1 rs2 s
  | .amoXor h dbl ord sc rd rs1 rs2 => Sys2Proof.Machine.execAmoXor h dbl ord sc rd rs1 rs2 s
  | .amoMin h dbl ord sc rd rs1 rs2 => Sys2Proof.Machine.execAmoMin h dbl ord sc rd rs1 rs2 s
  | .amoMax h dbl ord sc rd rs1 rs2 => Sys2Proof.Machine.execAmoMax h dbl ord sc rd rs1 rs2 s
  | .amoMinu h dbl ord sc rd rs1 rs2 => Sys2Proof.Machine.execAmoMinu h dbl ord sc rd rs1 rs2 s
  | .amoMaxu h dbl ord sc rd rs1 rs2 => Sys2Proof.Machine.execAmoMaxu h dbl ord sc rd rs1 rs2 s
  | .cas h dbl ord sc rd rs1 rs2 => Sys2Proof.Machine.execCas h dbl ord sc rd rs1 rs2 s
  | .lda h dbl ord sc rd rs1 => Sys2Proof.Machine.execLda h dbl ord sc rd rs1 s
  | .sta h dbl ord sc rs1 rs2 => Sys2Proof.Machine.execSta h dbl ord sc rs1 rs2 s
  | .fence h sc => Sys2Proof.Machine.execFence h sc s
  | .fenceI h => Sys2Proof.Machine.execFenceI h s
  | .waitt h mask => Sys2Proof.Machine.execWaitt h mask s
  | .bar h id count1 => Sys2Proof.Machine.execBar h id count1 s
  | .yield h => Sys2Proof.Machine.execYield h s
  | .vadd h vd vs1 src pr => Sys2Proof.Machine.execVadd h vd vs1 src pr s
  | .vsub h vd vs1 src pr => Sys2Proof.Machine.execVsub h vd vs1 src pr s
  | .vmul h vd vs1 src pr => Sys2Proof.Machine.execVmul h vd vs1 src pr s
  | .vmulh h vd vs1 src pr => Sys2Proof.Machine.execVmulh h vd vs1 src pr s
  | .vand h vd vs1 src pr => Sys2Proof.Machine.execVand h vd vs1 src pr s
  | .vor h vd vs1 src pr => Sys2Proof.Machine.execVor h vd vs1 src pr s
  | .vxor h vd vs1 src pr => Sys2Proof.Machine.execVxor h vd vs1 src pr s
  | .vsll h vd vs1 src pr => Sys2Proof.Machine.execVsll h vd vs1 src pr s
  | .vsrl h vd vs1 src pr => Sys2Proof.Machine.execVsrl h vd vs1 src pr s
  | .vsra h vd vs1 src pr => Sys2Proof.Machine.execVsra h vd vs1 src pr s
  | .vmin h vd vs1 src pr => Sys2Proof.Machine.execVmin h vd vs1 src pr s
  | .vmax h vd vs1 src pr => Sys2Proof.Machine.execVmax h vd vs1 src pr s
  | .vabs h vd vs1 pr => Sys2Proof.Machine.execVabs h vd vs1 pr s
  | .vadds h vd vs1 src pr => Sys2Proof.Machine.execVadds h vd vs1 src pr s
  | .vsubs h vd vs1 src pr => Sys2Proof.Machine.execVsubs h vd vs1 src pr s
  | .vrshr h vd vs1 rs pr => Sys2Proof.Machine.execVrshr h vd vs1 rs pr s
  | .vfadd h vd vs1 src pr => Sys2Proof.Machine.execVfadd h vd vs1 src pr s
  | .vfsub h vd vs1 src pr => Sys2Proof.Machine.execVfsub h vd vs1 src pr s
  | .vfmul h vd vs1 src pr => Sys2Proof.Machine.execVfmul h vd vs1 src pr s
  | .vfma h vd vs1 src pr => Sys2Proof.Machine.execVfma h vd vs1 src pr s
  | .vfmin h vd vs1 src pr => Sys2Proof.Machine.execVfmin h vd vs1 src pr s
  | .vfmax h vd vs1 src pr => Sys2Proof.Machine.execVfmax h vd vs1 src pr s
  | .vceq h fp pd vs1 src pr => Sys2Proof.Machine.execVceq h fp pd vs1 src pr s
  | .vclt h fp pd vs1 src pr => Sys2Proof.Machine.execVclt h fp pd vs1 src pr s
  | .vcle h fp pd vs1 src pr => Sys2Proof.Machine.execVcle h fp pd vs1 src pr s
  | .vcltu h pd vs1 src pr => Sys2Proof.Machine.execVcltu h pd vs1 src pr s
  | .vsel h vd vs1 src pr => Sys2Proof.Machine.execVsel h vd vs1 src pr s
  | .vbcast h vd rs pr => Sys2Proof.Machine.execVbcast h vd rs pr s
  | .vcvtif h vd vs1 pr => Sys2Proof.Machine.execVcvtif h vd vs1 pr s
  | .vcvtfi h vd vs1 pr => Sys2Proof.Machine.execVcvtfi h vd vs1 pr s
  | .vcvtfh h vd vs1 pr => Sys2Proof.Machine.execVcvtfh h vd vs1 pr s
  | .vcvtfb h vd vs1 pr => Sys2Proof.Machine.execVcvtfb h vd vs1 pr s
  | .vload h el vd rs1 pr => Sys2Proof.Machine.execVload h el vd rs1 pr s
  | .vstore h el vs rs1 pr => Sys2Proof.Machine.execVstore h el vs rs1 pr s
  | .vloadStrided h el vd rs1 rs2 pr => Sys2Proof.Machine.execVloadStrided h el vd rs1 rs2 pr s
  | .vstoreStrided h el vs rs1 rs2 pr => Sys2Proof.Machine.execVstoreStrided h el vs rs1 rs2 pr s
  | .vrsum h fp rd vs1 pr => Sys2Proof.Machine.execVrsum h fp rd vs1 pr s
  | .vrmax h fp rd vs1 pr => Sys2Proof.Machine.execVrmax h fp rd vs1 pr s
  | .vrmin h fp rd vs1 pr => Sys2Proof.Machine.execVrmin h fp rd vs1 pr s
  | .vrargmax h fp rd vs1 pr => Sys2Proof.Machine.execVrargmax h fp rd vs1 pr s
  | .vslideup h vd vs1 rs pr => Sys2Proof.Machine.execVslideup h vd vs1 rs pr s
  | .vslidedown h vd vs1 rs pr => Sys2Proof.Machine.execVslidedown h vd vs1 rs pr s
  | .vperm h vd vs1 vs2 pr => Sys2Proof.Machine.execVperm h vd vs1 vs2 pr s
  | .vcompress h vd vs1 rd pr => Sys2Proof.Machine.execVcompress h vd vs1 rd pr s
  | .vfirst h rd vs1 => Sys2Proof.Machine.execVfirst h rd vs1 s
  | .top h rd rs1 prec acc deq => Sys2Proof.Machine.execTop h rd rs1 prec acc deq s
  | .tmove h rd rs1 => Sys2Proof.Machine.execTmove h rd rs1 s
  | .tensorOpDone g token => Sys2Proof.Machine.execTensorOpDone g token s
  | .submit h rd rs1 rs2 => Sys2Proof.Machine.execSubmit h rd rs1 rs2 s
  | .cancel h rd rs1 rs2 => Sys2Proof.Machine.execCancel h rd rs1 rs2 s
  | .jobend h rs1 => Sys2Proof.Machine.execJobend h rs1 s
  | .tsr h rd n => Sys2Proof.Machine.execTsr h rd n s
  | .tsw h rs1 n => Sys2Proof.Machine.execTsw h rs1 n s
  | .trap h imm => Sys2Proof.Machine.execTrap h imm s
  | .brk h => Sys2Proof.Machine.execBrk h s
  | .wfe h => Sys2Proof.Machine.execWfe h s
  | .wfeWake c => Sys2Proof.Machine.execWfeWake c s
  | .eret h => Sys2Proof.Machine.execEret h s
  | .doorbellSubmit wr q access => Sys2Proof.Machine.execDoorbellSubmit wr q access s
  | .doorbellCancel wr q tag => Sys2Proof.Machine.execDoorbellCancel wr q tag s
  | .completionsConsumed wr q n => Sys2Proof.Machine.execCompletionsConsumed wr q n s
  | .completionRecordWrite q => Sys2Proof.Machine.execCompletionRecordWrite q s
  | .jobDispatch => Sys2Proof.Machine.execJobDispatch s
  | .queueEnable p => Sys2Proof.Machine.execQueueEnable p s
  | .enginePartitionMove p e part => Sys2Proof.Machine.execEnginePartitionMove p e part s
  | .partitionMoveScrubDone e => Sys2Proof.Machine.execPartitionMoveScrubDone e s
  | .partitionResetDone part => Sys2Proof.Machine.execPartitionResetDone part s
  | .recurrenceSlotStep h desc => Sys2Proof.Machine.execRecurrenceSlotStep h desc s
  | .recurrenceBatchStep h desc => Sys2Proof.Machine.execRecurrenceBatchStep h desc s
  | .recurrenceStepDone => Sys2Proof.Machine.execRecurrenceStepDone s
  | .samplingFilter h desc => Sys2Proof.Machine.execSamplingFilter h desc s
  | .samplingGumbelMax h desc => Sys2Proof.Machine.execSamplingGumbelMax h desc s
  | .samplingDone => Sys2Proof.Machine.execSamplingDone s
  | .mix4Load h rd size off => Sys2Proof.Machine.execMix4Load h rd size off s
  | .stateSlotStore h slot word v => Sys2Proof.Machine.execStateSlotStore h slot word v s
  | .resetAllSlots p => Sys2Proof.Machine.execResetAllSlots p s
  | .keeperLockstepMismatch pair => Sys2Proof.Machine.execKeeperLockstepMismatch pair s
  | .aliveResponse pair v => Sys2Proof.Machine.execAliveResponse pair v s
  | .aliveCheck => Sys2Proof.Machine.execAliveCheck s
  | .safeErrToggle => Sys2Proof.Machine.execSafeErrToggle s
  | .safeCommit => Sys2Proof.Machine.execSafeCommit s
  | .keeperSplitRequest p => Sys2Proof.Machine.execKeeperSplitRequest p s
  | .handoverAck pair => Sys2Proof.Machine.execHandoverAck pair s
  | .keeperSplitCommit => Sys2Proof.Machine.execKeeperSplitCommit s
  | .keeperSplitTimeout => Sys2Proof.Machine.execKeeperSplitTimeout s
  | .keeperRejoinRequest p => Sys2Proof.Machine.execKeeperRejoinRequest p s
  | .keeperRejoinAckTimeout => Sys2Proof.Machine.execKeeperRejoinAckTimeout s
  | .keeperRejoinDone pass => Sys2Proof.Machine.execKeeperRejoinDone pass s
  | .twinPeriodicCompare pair ctx agree => Sys2Proof.Machine.execTwinPeriodicCompare pair ctx agree s
  | .postMismatchLbistDone pair passEven passOdd => Sys2Proof.Machine.execPostMismatchLbistDone pair passEven passOdd s
  | .lbistWithdraw e => Sys2Proof.Machine.execLbistWithdraw e s
  | .lbistSlotStart e => Sys2Proof.Machine.execLbistSlotStart e s
  | .lbistSkip e => Sys2Proof.Machine.execLbistSkip e s
  | .lbistTestDone e pass => Sys2Proof.Machine.execLbistTestDone e pass s
  | .storeRoomScrub e errs => Sys2Proof.Machine.execStoreRoomScrub e errs s
  | .cellarScrub errs => Sys2Proof.Machine.execCellarScrub errs s
  | .clockMonitorFault clk lockLost => Sys2Proof.Machine.execClockMonitorFault clk lockLost s
  | .railFault rail high mv => Sys2Proof.Machine.execRailFault rail high mv s
  | .watchdogKick p => Sys2Proof.Machine.execWatchdogKick p s
  | .watchdogExpiry => Sys2Proof.Machine.execWatchdogExpiry s
  | .deadlockScan => Sys2Proof.Machine.execDeadlockScan s
  | .dikeDrainExpiry e => Sys2Proof.Machine.execDikeDrainExpiry e s
  | .dikeResetDone e => Sys2Proof.Machine.execDikeResetDone e s
  | .dikeScrubDone e => Sys2Proof.Machine.execDikeScrubDone e s
  | .dikeOpen e => Sys2Proof.Machine.execDikeOpen e s
  | .polderResetRequest p => Sys2Proof.Machine.execPolderResetRequest p s
  | .countSourceSample => Sys2Proof.Machine.execCountSourceSample s
  | .weirHoldoffEnd m => Sys2Proof.Machine.execWeirHoldoffEnd m s
  | .monitorClear p => Sys2Proof.Machine.execMonitorClear p s
  | .counterBankClear p => Sys2Proof.Machine.execCounterBankClear p s
  | .sampledInstructionDone e info => Sys2Proof.Machine.execSampledInstructionDone e info s
  | .sampleBufferClear p => Sys2Proof.Machine.execSampleBufferClear p s
  | .sampleRecordLatch p k => Sys2Proof.Machine.execSampleRecordLatch p k s
  | .entryWipeDone => Sys2Proof.Machine.execEntryWipeDone s
  | .depotSuspend p => Sys2Proof.Machine.execDepotSuspend p s
  | .guestEnable p => Sys2Proof.Machine.execGuestEnable p s
  | .guestStartDone g => Sys2Proof.Machine.execGuestStartDone g s
  | .guestDisable p => Sys2Proof.Machine.execGuestDisable p s
  | .guestWipeDone g => Sys2Proof.Machine.execGuestWipeDone g s
  | .fleetJoin src m => Sys2Proof.Machine.execFleetJoin src m s
  | .joinAck src m => Sys2Proof.Machine.execJoinAck src m s
  | .fleetHeartbeat src m => Sys2Proof.Machine.execFleetHeartbeat src m s
  | .fleetHeartbeatAck src m => Sys2Proof.Machine.execFleetHeartbeatAck src m s
  | .fleetLeave src m => Sys2Proof.Machine.execFleetLeave src m s
  | .jobOffer src m => Sys2Proof.Machine.execJobOffer src m s
  | .jobAccept src m => Sys2Proof.Machine.execJobAccept src m s
  | .jobRefuse src m => Sys2Proof.Machine.execJobRefuse src m s
  | .jobStarted src m => Sys2Proof.Machine.execJobStarted src m s
  | .checkpointReq src m => Sys2Proof.Machine.execCheckpointReq src m s
  | .checkpointDone src m => Sys2Proof.Machine.execCheckpointDone src m s
  | .jobDone src m => Sys2Proof.Machine.execJobDone src m s
  | .jobEvict src m => Sys2Proof.Machine.execJobEvict src m s
  | .jobEvicted src m => Sys2Proof.Machine.execJobEvicted src m s
  | .fleetResendTimer => Sys2Proof.Machine.execFleetResendTimer s
  | .workerHeartbeatTimer => Sys2Proof.Machine.execWorkerHeartbeatTimer s
  | .managerLoss => Sys2Proof.Machine.execManagerLoss s
  | .workerLoss serial => Sys2Proof.Machine.execWorkerLoss serial s
  | .checkpointInterval g => Sys2Proof.Machine.execCheckpointInterval g s
  | .managerJobSubmit p offer => Sys2Proof.Machine.execManagerJobSubmit p offer s
  | .fleetJobOffer => Sys2Proof.Machine.execFleetJobOffer s
  | .offerTimeout job => Sys2Proof.Machine.execOfferTimeout job s
  | .quiesceDone => Sys2Proof.Machine.execQuiesceDone s
  | .checkpointLimitExpiry => Sys2Proof.Machine.execCheckpointLimitExpiry s
  | .exitWipeDone => Sys2Proof.Machine.execExitWipeDone s
  | .hashBatchReady g => Sys2Proof.Machine.execHashBatchReady g s
  | .haveQuery src m => Sys2Proof.Machine.execHaveQuery src m s
  | .haveReply src m => Sys2Proof.Machine.execHaveReply src m s
  | .fleetPull src m => Sys2Proof.Machine.execFleetPull src m s
  | .fleetSegment src m => Sys2Proof.Machine.execFleetSegment src m s
  | .notHeld src m => Sys2Proof.Machine.execNotHeld src m s
  | .manifestOffer src m => Sys2Proof.Machine.execManifestOffer src m s
  | .manifestResult src m => Sys2Proof.Machine.execManifestResult src m s
  | .restoreFailed src m => Sys2Proof.Machine.execRestoreFailed src m s
  | .segmentIdleTimeout hash => Sys2Proof.Machine.execSegmentIdleTimeout hash s
  | .resultReoffer g => Sys2Proof.Machine.execResultReoffer g s
  | .putChunk p data => Sys2Proof.Machine.execPutChunk p data s
  | .putManifest p data => Sys2Proof.Machine.execPutManifest p data s
  | .linkTrainingStepDone port lanes => Sys2Proof.Machine.execLinkTrainingStepDone port lanes s
  | .linkTrainingFailure port => Sys2Proof.Machine.execLinkTrainingFailure port s
  | .flitTimeout port => Sys2Proof.Machine.execFlitTimeout port s
  | .dataFlit port flit => Sys2Proof.Machine.execDataFlit port flit s
  | .nakFlit port flit => Sys2Proof.Machine.execNakFlit port flit s
  | .creditInitFlit port flit => Sys2Proof.Machine.execCreditInitFlit port flit s
  | .idleFlit port flit => Sys2Proof.Machine.execIdleFlit port flit s
  | .replayTimeout port => Sys2Proof.Machine.execReplayTimeout port s
  | .fuindHello port m => Sys2Proof.Machine.execFuindHello port m s
  | .helloRetry port => Sys2Proof.Machine.execHelloRetry port s
  | .fuindHeartbeat port m => Sys2Proof.Machine.execFuindHeartbeat port m s
  | .fuindHeartbeatTimer => Sys2Proof.Machine.execFuindHeartbeatTimer s
  | .deviceLoss id => Sys2Proof.Machine.execDeviceLoss id s
  | .formationLimit => Sys2Proof.Machine.execFormationLimit s
  | .fuindRecord port m => Sys2Proof.Machine.execFuindRecord port m s
  | .fuindCompare port m => Sys2Proof.Machine.execFuindCompare port m s
  | .compareUnmatched x strip => Sys2Proof.Machine.execCompareUnmatched x strip s
  | .fuindImage port m => Sys2Proof.Machine.execFuindImage port m s
  | .fuindDictionary port m => Sys2Proof.Machine.execFuindDictionary port m s
  | .avsEvaluation pathMin margin warning acked => Sys2Proof.Machine.execAvsEvaluation pathMin margin warning acked s
  | .avsNoResponse regulatorFault => Sys2Proof.Machine.execAvsNoResponse regulatorFault s
  | .droopTrip => Sys2Proof.Machine.execDroopTrip s
  | .droopRelease cycles => Sys2Proof.Machine.execDroopRelease cycles s
  | .droopMarginEvaluation => Sys2Proof.Machine.execDroopMarginEvaluation s
  | .powerSample avg rails traffic => Sys2Proof.Machine.execPowerSample avg rails traffic s
  | .spillLevelEvaluation => Sys2Proof.Machine.execSpillLevelEvaluation s
  | .disagreementHoldoffEnd => Sys2Proof.Machine.execDisagreementHoldoffEnd s
  | .trstNAssert => Sys2Proof.Machine.execTrstNAssert s
  | .extest => Sys2Proof.Machine.execExtest s
  | .idcode => Sys2Proof.Machine.execIdcode s
  | .samplePreload => Sys2Proof.Machine.execSamplePreload s
  | .bypass => Sys2Proof.Machine.execBypass s
  | .sdapObjectRead idx sub active => Sys2Proof.Machine.execSdapObjectRead idx sub active s
  | .sdapObjectWrite idx sub data => Sys2Proof.Machine.execSdapObjectWrite idx sub data s
  | .sdapHalt target => Sys2Proof.Machine.execSdapHalt target s
  | .sdapResume target => Sys2Proof.Machine.execSdapResume target s
  | .sdapStep target => Sys2Proof.Machine.execSdapStep target s
  | .sdapSessionOpen => Sys2Proof.Machine.execSdapSessionOpen s
  | .sdapSessionClose => Sys2Proof.Machine.execSdapSessionClose s
  | .sdapDebugReset => Sys2Proof.Machine.execSdapDebugReset s
  | .sdapEngineReset target => Sys2Proof.Machine.execSdapEngineReset target s
  | .sdapMemoryRead a => Sys2Proof.Machine.execSdapMemoryRead a s
  | .sdapMemoryWrite a d => Sys2Proof.Machine.execSdapMemoryWrite a d s
  | .vaonReturnToRange => Sys2Proof.Machine.execVaonReturnToRange s
  | .railReturnToRange rail mv => Sys2Proof.Machine.execRailReturnToRange rail mv s
  | .pllLockRegained clk => Sys2Proof.Machine.execPllLockRegained clk s
  | .ethernetLinkChange port up => Sys2Proof.Machine.execEthernetLinkChange port up s
  | .pcieHotReset => Sys2Proof.Machine.execPcieHotReset s
  | .canBusError port overrun tec rec => Sys2Proof.Machine.execCanBusError port overrun tec rec s
  | .canSuccessfulTransmission port id ide => Sys2Proof.Machine.execCanSuccessfulTransmission port id ide s
  | .illegalInstruction h met => Sys2Proof.Machine.execIllegalInstruction h met s
  | .instructionFetchFault h kind met => Sys2Proof.Machine.execInstructionFetchFault h kind met s

end Sys2Proof.Machine
end

