-- ==== Sys2Proof/Machine/Tick.lean ====
section
/-! DEFINITION. What one microsecond with no command does (R24, R30, R53, R59, R192, R408, R502). DESIGN CHOICE (log entry 6): the
table has no row for the clocks, so a step on an empty queue is one microsecond. -/

namespace Sys2Proof.Machine

/-- The Time Base advances by 100 REFCLK edges (R192); TICK edges are the whole microseconds it passes (R30), and the bounds that the
model holds pending are counted in them (R24). -/
def Clock.advanceTb (c : Clock) (a : Int) : Clock :=
  let d : Int := 100 * (10 * 2 ^ 40 + 10 * a)
  let tb := c.tb + d.toNat
  let t := tb / (1000 * 2 ^ 40) - c.tb / (1000 * 2 ^ 40)
  { c with tb := tb % 2 ^ 104, ticks := c.ticks + t, elapsed := c.elapsed + t }

/-- SCLK advances the real-time counter: by 32,768 per second (R29, R59), or by 4,000,000 / 122 where ACLK divided by 122 stands in
for the crystal (R69). -/
def Clock.advanceRtc (c : Clock) (substitute : Bool) : Clock :=
  let f := c.rtcFrac + if substitute then 2000000 else 32768 * 61
  { c with elapsed := if c.tbRun then c.elapsed else c.elapsed + 1, us := c.us + 1, rtc := (c.rtc + f / 61000000) % 2 ^ 64, rtcFrac := f % 61000000 }

/-- The clocks move on by one microsecond. -/
def State.clockTick (s : State) : State :=
  let c := s.clk.advanceRtc (s.objB 0x2030 6)
  { s with clk := if s.clk.tbRun then c.advanceTb (s.objI 32 0x9000 4) else c }

/-- FCLK cycles of a microsecond: half as many while stretched (R23, R408, R483). -/
def State.fclkCycles (s : State) : Nat := if s.loops.stretch then s.obj 0x2001 8 / 2 else s.obj 0x2001 8

/-- The cycle counter of each engine that runs (R408, R410). -/
def State.engineCycles (s : State) : State :=
  let n := s.fclkCycles
  if n = 0 then s
  else
    (List.range 48).foldl (fun s e =>
      if s.level e != 0 then s
      else
        let b := Amap.get Bank.zero s.banks (s.bankNo e)
        { s with banks := Amap.set Bank.zero s.banks (s.bankNo e) { b with cycle := (b.cycle + n) % 2 ^ 64 } }) s

/-- The KCLK count of each Keeper core, 800 in a microsecond (R276). -/
def State.keeperCycles (s : State) : State :=
  if s.saf.keepersHeld || s.pw.mode = .safe then s
  else
    (List.range 4).foldl (fun s k =>
      if k % 2 = 0 || s.keepersSplit then
        let c := s.ctxAt (3072 + k)
        s.setCtxAt (3072 + k) { c with cycle := (c.cycle + 800) % 2 ^ 64 }
      else s) s

/-- The counters of time spent: derated (0x4800:04), throttled (0xB023:05), in DOZE (0xB011:03), by the TICK edges passed. -/
def State.spentTicks (s : State) (n : Nat) : State :=
  let s := if s.objB 0x4800 1 then s.bump 0x4800 4 0 n else s
  let s := if s.obj 0xB023 4 < 16 then s.bump 0xB023 5 0 n else s
  if s.objB 0x2001 3 then s.bump 0xB011 3 0 n else s

/-- A TICK edge: writes to 0x9001 that the locked Time Base has held back take effect (R212). -/
def State.gptpEdge (s : State) (n : Nat) : State :=
  if n = 0 then s
  else s.gptp.writes.foldl (fun s w => s.gptpTakes w.1 w.2) (s.modGptp fun g => { g with writes := [] })

/-- What the core's clocks count in one microsecond, and what its TICK edges do. -/
def State.coreTick (s : State) (n : Nat) : State :=
  if s.clk.tbRun then ((s.engineCycles.keeperCycles).spentTicks n).gptpEdge n else s

/-- What one microsecond with no command does. In OFF nothing runs (R46), but that SCLK counts from the release of PORST_N on
(R59). -/
def State.tick (s : State) : State :=
  if s.pw.mode = .off && !s.pw.booting then s
  else
    let t := s.clockTick
    (t.coreTick (t.clk.ticks - s.clk.ticks)).teardownStep.settleHeld

end Sys2Proof.Machine
end

