-- ==== Sys2Proof/Safety.lean ====
section
/-! DEFINITION. What a safe step is, and the terms the claims use: a command answers a next state, and what a thread instruction
leaves as it is. -/

namespace Sys2Proof

open Sys2Proof.Machine

/-- A step is safe at a state: it answers a next state. -/
def Safe (s : Machine.State) : Prop := ∃ t, Machine.step s = .next t

/-- A command answers a next state, of which `p` holds. -/
def Answers (i : Instr) (s : Machine.State) (p : Machine.State → Prop) : Prop := ∃ t, Machine.exec i s = .next t ∧ p t

/-- The state beside a hart's registers, its L1 data lines, device memory and what an engine counts (its counter banks, precise
sampling and the dropped count 0x7040:05) is the same; so are the registers and the lines of every other hart. -/
def SameOthers (h : Hart) (s t : Machine.State) : Prop :=
  (∀ k, k ≠ h → t.ctx k = s.ctx k) ∧
  (∀ i j c, okey i j c ≠ okey 0x7040 5 0 → t.obj i j c = s.obj i j c) ∧
  t.clk = s.clk ∧ t.pw = s.pw ∧ t.su = s.su ∧ t.pins = s.pins ∧ t.attic = s.attic ∧ t.journal = s.journal ∧
  t.paths = s.paths ∧ t.can = s.can ∧ t.tpdos = s.tpdos ∧ t.timed = s.timed ∧ t.mons = s.mons ∧ t.held = s.held ∧
  t.engines = s.engines ∧ t.sched = s.sched ∧ t.recReqs = s.recReqs ∧ t.smpReqs = s.smpReqs ∧ t.seq = s.seq ∧
  t.loops = s.loops ∧ t.gptp = s.gptp ∧ t.casc = s.casc ∧ t.depot = s.depot ∧ t.recov = s.recov ∧ t.saf = s.saf ∧
  t.out = s.out ∧ t.freeCtr = s.freeCtr ∧ t.pending = s.pending ∧
  ∀ k, (∀ c : Fin 4, h = .keeper c → k ≠ s.l1Key c.val) → Amap.get [] t.l1 k = Amap.get [] s.l1 k

/-- The same, with the hart's L1 data lines. -/
def SameBeside (h : Hart) (s t : Machine.State) : Prop := SameOthers h s t ∧ t.l1 = s.l1

/-- No L1 data line of a hart holds other bytes at an address than memory does (R246); a context has no such line. -/
def Fresh (h : Hart) (pa n : Nat) (s : Machine.State) : Prop :=
  ∀ c : Fin 4, h = .keeper c → ∀ l ∈ Amap.get [] s.l1 (s.l1Key c.val), l.1 = pa / 64 * 64 →
    slice l.2 (pa % 64) n = s.memBytes pa n

/-- Every byte of device memory and every poisoned word is the same. -/
def SameMemory (s t : Machine.State) : Prop := (∀ a, t.memByte a = s.memByte a) ∧ t.poison = s.poison

/-- Where an access of an instruction that issues leads. -/
def Reaches (s : Machine.State) (h : Hart) (acc : Acs) (a : Nat) (p : Place) : Prop :=
  (s.issued h .memory).place (.hart h) acc a = .inr p

/-- Only the bytes of a store change: from `a` on, and from the twin's address on where there is one, they read as `bs`; every
other byte reads as before. The words that the store covers whole are poisoned no longer, the others as before (R250). -/
def Stores (a : Nat) (twin : Option Nat) (bs : List Byte) (s t : Machine.State) : Prop :=
  (∀ x, t.memByte x =
    match twin with
    | none => if a ≤ x ∧ x < a + bs.length then bs.getD (x - a) 0 else s.memByte x
    | some b =>
      if b ≤ x ∧ x < b + bs.length then bs.getD (x - b) 0
      else if a ≤ x ∧ x < a + bs.length then bs.getD (x - a) 0 else s.memByte x) ∧
  (∀ w, w ∈ t.poison ↔ w ∈ s.poison ∧ ¬(a ≤ w ∧ w + 8 ≤ a + bs.length) ∧
    ∀ b ∈ twin, ¬(b ≤ w ∧ w + 8 ≤ b + bs.length))

/-- A hart holds new registers, and nothing else has changed. -/
def Becomes (h : Hart) (c : Ctx) (s t : Machine.State) : Prop := t.ctx h = c ∧ SameBeside h s t ∧ SameMemory s t

/-- The scalar registers after a write: x0 takes none and reads 0, every other register stays (R255). -/
def RegWritten (c d : Ctx) (rd : Fin 32) (v : Word) : Prop :=
  (∀ r, d.get r = if r = rd ∧ rd ≠ 0 then v else c.get r) ∧ d.get 0 = 0

/-- Everything of a hart beside its scalar registers and its PC is the same: vectors, predicates, FLAGS, the exception words,
tokens, barrier, and the Keeper words. -/
def SameWords (c d : Ctx) : Prop :=
  d.v = c.v ∧ d.p = c.p ∧ d.flags = c.flags ∧ d.epc = c.epc ∧ d.ecode = c.ecode ∧ d.eaddr = c.eaddr ∧ d.tag = c.tag ∧
  d.barrier = c.barrier ∧ d.ops = c.ops ∧ d.index = c.index ∧ d.ended = c.ended ∧ d.stopped = c.stopped ∧
  d.tvec = c.tvec ∧ d.scratch = c.scratch ∧ d.waiting = c.waiting ∧ d.cycle = c.cycle

/-- An instruction of `len` bytes has written one scalar register and moved the PC past itself, and changed nothing else. -/
def WritesReg (h : Hart) (rd : Fin 32) (v : Word) (len : Nat) (s t : Machine.State) : Prop :=
  RegWritten (s.ctx h) (t.ctx h) rd v ∧ (t.ctx h).pc = (s.ctx h).pc + BitVec.ofNat 64 len ∧ SameWords (s.ctx h) (t.ctx h) ∧
  SameBeside h s t ∧ SameMemory s t

/-- An instruction has moved the PC alone. -/
def MovesPc (h : Hart) (pc : Word) (s t : Machine.State) : Prop :=
  (∀ r, (t.ctx h).get r = (s.ctx h).get r) ∧ (t.ctx h).pc = pc ∧ SameWords (s.ctx h) (t.ctx h) ∧ SameBeside h s t ∧
  SameMemory s t

/-- A load has written one scalar register, moved the PC past itself, and changed nothing else but its hart's L1 data lines. -/
def LoadsReg (h : Hart) (rd : Fin 32) (v : Word) (s t : Machine.State) : Prop :=
  RegWritten (s.ctx h) (t.ctx h) rd v ∧ (t.ctx h).pc = (s.ctx h).pc + 4 ∧ SameWords (s.ctx h) (t.ctx h) ∧ SameOthers h s t ∧
  SameMemory s t

/-- An instruction has written one scalar register, stored bytes, moved the PC past itself, and changed nothing else but its hart's
L1 data lines. -/
def WritesRegStores (h : Hart) (rd : Fin 32) (v : Word) (a : Nat) (twin : Option Nat) (bs : List Byte)
    (s t : Machine.State) : Prop :=
  RegWritten (s.ctx h) (t.ctx h) rd v ∧ (t.ctx h).pc = (s.ctx h).pc + 4 ∧ SameWords (s.ctx h) (t.ctx h) ∧
  SameOthers h s t ∧ Stores a twin bs s t

/-- An instruction has stored bytes and moved the PC past itself, and changed nothing else but its hart's L1 data lines. -/
def StoresOnly (h : Hart) (a : Nat) (twin : Option Nat) (bs : List Byte) (s t : Machine.State) : Prop :=
  (∀ r, (t.ctx h).get r = (s.ctx h).get r) ∧ (t.ctx h).pc = (s.ctx h).pc + 4 ∧ SameWords (s.ctx h) (t.ctx h) ∧
  SameOthers h s t ∧ Stores a twin bs s t

/-- Every word of a hart beside its registers, FLAGS and PC is the same. -/
def SameRest (c d : Ctx) : Prop :=
  d.epc = c.epc ∧ d.ecode = c.ecode ∧ d.eaddr = c.eaddr ∧ d.tag = c.tag ∧ d.barrier = c.barrier ∧ d.ops = c.ops ∧
  d.index = c.index ∧ d.ended = c.ended ∧ d.stopped = c.stopped ∧ d.tvec = c.tvec ∧ d.scratch = c.scratch ∧
  d.waiting = c.waiting ∧ d.cycle = c.cycle

/-- An instruction has moved the PC past itself and set sticky flags, and its hart is otherwise the same beside the registers. -/
def Passes (h : Hart) (flags : Nat) (s t : Machine.State) : Prop :=
  (t.ctx h).flags = (s.ctx h).flags ||| BitVec.ofNat 64 flags ∧ (t.ctx h).pc = (s.ctx h).pc + 4 ∧
  SameRest (s.ctx h) (t.ctx h) ∧ SameBeside h s t

/-- An instruction has written the enabled lanes of one vector register; every other lane keeps its value (R266). -/
def WritesLanes (h : Hart) (vd : Fin 8) (pr : Option (Fin 4)) (f : Fin 64 → Half) (flags : Nat) (s t : Machine.State) : Prop :=
  (∀ r k, (t.ctx h).lane r k = if r = vd ∧ (s.ctx h).enabled pr k = true then f k else (s.ctx h).lane r k) ∧
  (t.ctx h).x = (s.ctx h).x ∧ (t.ctx h).p = (s.ctx h).p ∧ Passes h flags s t ∧ SameMemory s t

/-- An instruction has written the enabled bits of one predicate register; every other bit keeps its value (R266). -/
def WritesPred (h : Hart) (pd : Fin 4) (pr : Option (Fin 4)) (f : Fin 64 → Bool) (flags : Nat) (s t : Machine.State) : Prop :=
  (∀ (r : Fin 4) (k : Fin 64), ((t.ctx h).p[r]).getLsbD k.val =
    if r = pd ∧ (s.ctx h).enabled pr k = true then f k else ((s.ctx h).p[r]).getLsbD k.val) ∧
  (t.ctx h).x = (s.ctx h).x ∧ (t.ctx h).v = (s.ctx h).v ∧ Passes h flags s t ∧ SameMemory s t

/-- An instruction of the vector unit has written one scalar register. -/
def Reduces (h : Hart) (rd : Fin 32) (v : Word) (flags : Nat) (s t : Machine.State) : Prop :=
  RegWritten (s.ctx h) (t.ctx h) rd v ∧ (t.ctx h).v = (s.ctx h).v ∧ (t.ctx h).p = (s.ctx h).p ∧ Passes h flags s t ∧
  SameMemory s t

/-- A hart has taken an exception on a Keeper core: EPC, ECODE and EADDR hold the record, FLAGS [8] is set, the PC is at TVEC, and
nothing else has changed (R277, R278, R280). -/
def TakesException (c : Fin 4) (code eaddr : Nat) (s t : Machine.State) : Prop :=
  Becomes (.keeper c) { s.ctx (.keeper c) with
    epc := (s.ctx (.keeper c)).pc, ecode := BitVec.ofNat 64 code, eaddr := BitVec.ofNat 64 eaddr,
    flags := (s.ctx (.keeper c)).flags ||| 0x100, pc := (s.ctx (.keeper c)).tvec &&& ~~~3 } s t

/-- An exception stops a context: its record holds the code, EADDR and the PC, the engine counts it, and the job that holds the
context faults with the code (R278, R279, R341). -/
def StopsContext (g : Fin 3072) (p : Pipe) (code eaddr : Nat) (s t : Machine.State) : Prop :=
  ∃ j, s.jobOf g.val = some j ∧
    t = (((s.issued (.ctx g) p).setCtx (.ctx g) { s.ctx (.ctx g) with
      stopped := true, epc := (s.ctx (.ctx g)).pc, ecode := BitVec.ofNat 64 code,
      eaddr := BitVec.ofNat 64 eaddr }).excCount (g.val / 64) code eaddr).jobFault j.id code

/-- An instruction takes an exception: on a Keeper core that is in none (R280), or on a context without a deferred fault. -/
def Excepts (h : Hart) (p : Pipe) (code eaddr : Nat) (s t : Machine.State) : Prop :=
  match h with
  | .keeper c => TakesException c code eaddr s t
  | .ctx g => StopsContext g p code eaddr s t

/-- A hart on which an exception is a single one with a record of its own: a Keeper core with FLAGS [8] clear, or a context
none of whose operations has faulted. -/
def Single (h : Hart) (s : Machine.State) : Prop :=
  match h with
  | .keeper _ => (s.ctx h).flags.getLsbD 8 = false
  | .ctx _ => ∀ o ∈ (s.ctx h).ops, o.fault = none

/-- Class-S detections are recorded as they happen: the state detects them, none waits, and no teardown has stopped the PLLs
(R347, R53). -/
def Detecting (s : Machine.State) : Prop :=
  s.pw.mode ≠ .off ∧ s.pw.mode ≠ .parked ∧ s.pw.mode ≠ .safe ∧ s.pw.teardown ≠ some 3 ∧ s.pw.pendSafe = none

/-- A class-S detection with a code: both SAFE_ERR pins are low, 0x5000:02 holds the code, 0x5000:04 the Time Base, 0x5000:08
has counted it, and SAFE waits to commit (R347, R350, R351). -/
def Detects (code : Nat) (s t : Machine.State) : Prop :=
  t.pins.err0 = false ∧ t.pins.err1 = false ∧ (∃ d, t.pw.pendSafe = some (code, d)) ∧ t.obj 0x5000 2 = code ∧
  t.obj 0x5000 4 = s.nowNs ∧ t.obj 0x5000 8 = (s.obj 0x5000 8 + 1) % 2 ^ 32 ∧ t.pw.mode = s.pw.mode ∧
  SameMemory s t ∧ t.ctxs = s.ctxs

/-- A wake source that is enabled may fire: PARKED with RESET_N released, no deferred wake, and no junction above 125 °C (R56,
R60, R73). -/
def Wakeable (src : Nat) (s : Machine.State) : Prop :=
  s.pw.mode = .parked ∧ s.pw.resetHeld = false ∧ s.pw.deferred = none ∧ s.objI 16 0xB003 1 ≤ 1250 ∧
  s.objBit 0xB001 1 src = true

/-- PARKED has become WAKING for a source: the source is shown, the boot options are read, REFCLK_REQ_N asserts, both CAN paths
exist, and memory, the history and the journal stay (R56, R80, R104, R517). -/
def Wakes (src : Nat) (s t : Machine.State) : Prop :=
  t.pw.mode = .waking ∧ t.pw.prev = .parked ∧ t.obj 0xB001 3 = src ∧ t.su.boot = s.readBoot ∧ t.pw.refclkReq = true ∧
  (t.path 1).live = true ∧ (t.path 2).live = true ∧ SameMemory s t ∧ t.attic = s.attic ∧ t.journal = s.journal

/-- Teardown toward PARKED has begun: every halt has ended, and the phase is shown (R53, R67, R526). -/
def TearsDown (s t : Machine.State) : Prop :=
  t.pw.teardown = some 0 ∧ t.pw.driveOff = none ∧ t.pw.readyHold = none ∧ t.pw.mode = s.pw.mode ∧ t.obj 0xB000 3 = 4 ∧
  t.obj 0x5050 2 = 0 ∧ t.obj 0x5050 3 = 0 ∧ SameMemory s t ∧ t.ctxs = s.ctxs ∧ t.attic = s.attic

/-- An access of a path is delivered now: the block is out of OFF, the path exists, and no halt holds the access (R104, R502). -/
def Delivered (p : Path) (s : Machine.State) : Prop :=
  s.pw.mode ≠ .off ∧ s.live p.code = true ∧ s.holds p.code = false

/-- An access of a path is delivered, the whole dictionary is served (R64, R353, R355), the Pumping Station no longer serves the
path as in PARKED (R127), and no unlock sequence is armed on the path. -/
def Serving (p : Path) (s : Machine.State) : Prop :=
  Delivered p s ∧ (s.pw.mode = .bench ∨ s.pw.mode = .drive ∨ s.pw.mode = .depot ∨ s.pw.mode = .handover) ∧
  s.su.benchRestricted = false ∧ s.haltedB = false ∧ s.asParked p.code = false ∧ (s.path p.code).armed = none

/-- The last thing sent is the answer of a path; a CAN port sends none on a blocked identifier, while it is Stopped and in bus-off
(R128, R130, R142, R143). -/
def Acked (p : Path) (code : Nat) (data : List Byte) (t : Machine.State) : Prop :=
  t.out.head? = some (.answer p.code code data) ∨
  ∃ n, p = .can n ∧ (t.usdoSilent n.val = true ∨ t.blocked n.val (0x580 + t.nodeId n.val) = true)

/-- A write has been refused with a code: the path shows it in 0x2021 and answers it, and beside a withheld answer's counter
nothing else has changed (R12, R108, R111). -/
def Refuses (p : Path) (idx sub code : Nat) (s t : Machine.State) : Prop :=
  Acked p code [] t ∧ t.path p.code = (s.path p.code).noteRefusal idx sub code ∧ (∀ q, q ≠ p.code → t.path q = s.path q) ∧
  t.journal = s.journal ∧ t.attic = s.attic ∧ t.pw = s.pw ∧ t.ctxs = s.ctxs ∧ SameMemory s t ∧
  ∀ i j c, okey i j c ≠ okey 0x1F90 0x1A 0 → okey i j c ≠ okey 0x1F91 0x1A 0 → t.obj i j c = s.obj i j c

/-- The journal has taken an entry for a write: its number, the entry it names, the path, the state of its commit, and both
values (R119, R120, R122). -/
def Journaled (p idx sub ch old new : Nat) (s t : Machine.State) : Prop :=
  ∃ e ∈ t.journal.entries, e.num = (s.journal.written + 1) % 2 ^ 32 ∧ e.idx = idx ∧ e.sub = sub ∧ e.path = p ∧ e.chan = ch ∧
    e.state = s.pw.mode.code ∧ e.old = old % 2 ^ 64 ∧ e.new = new % 2 ^ 64

/-- Every dictionary entry is the same beside some, the withheld answers' counters (R142) and the near-misses (R211). -/
def SameObjs (keys : List Nat) (s t : Machine.State) : Prop :=
  ∀ i j c, okey i j c ∉ keys ++ [okey 0x1F90 0x1A 0, okey 0x1F91 0x1A 0, okey 0x9005 1 0, okey 0x9005 2 0] →
    t.obj i j c = s.obj i j c

/-- What the cores and the Pumping Station hold is the same: memory, contexts, engines, jobs, the attic, the power state, the
safety controller and the watchdog. -/
def Calm (s t : Machine.State) : Prop :=
  SameMemory s t ∧ t.ctxs = s.ctxs ∧ t.engines = s.engines ∧ t.sched = s.sched ∧ t.attic = s.attic ∧ t.pw = s.pw ∧
  t.saf = s.saf ∧ t.recov = s.recov

/-- A dictionary message of an operation comes from a peer that holds a slot, in form, in turn and new to the slot, while the
block serves it (R104, R136, R137, R466, R474). -/
def Asked (op addr port : Nat) (m : List Byte) (p : Nat) (s : Machine.State) : Prop :=
  (s.pw.mode.awake = true ∧ s.clk.tbRun = true ∧ s.holds 0x20 = false) ∧
  (msgOk udpBody m = true ∧ field m 0 1 = 0x10 ∧ (field m 2 1 = 0xFF ∨ field m 2 1 = s.deviceId)) ∧
  (dictForm (msgBody m) = true ∧ field (msgBody m) 0 1 = op) ∧ s.peerSlot (addr, port) = some p ∧ s.live p = true ∧
  (s.path p).busy = none ∧ (∀ r ∈ (s.path p).lastResp, r.1 ≠ field (msgBody m) 2 2) ∧ (s.path p).inTurn (msgBody m) = true

/-- The state as a peer's request has reached it: counted in 0xA010:03, and the slot's time of use noted (R104). -/
def heard (p : Nat) (s : Machine.State) : Machine.State :=
  (s.bump 0xA010 3).modPath p fun q => { q with peerAt := s.now }

/-- A peer has been sent a response, which its slot keeps (R136, R137). -/
def Replied (addr port p : Nat) (r : List Byte) (s t : Machine.State) : Prop :=
  t.out.head? = some (.udp addr port (fuindMsg 0x10 s.deviceId 0xFF r)) ∧ (t.path p).busy = none ∧
  (t.path p).lastResp = some (field r 2 2, fuindMsg 0x10 s.deviceId 0xFF r)

/-- A fleet or checkpoint message of an operation reaches the fleet port whole, in form and of its operation's length, while the
port has an address (R430, R431, R447, R466). -/
def Spelled (layer op : Nat) (m : List Byte) (s : Machine.State) : Prop :=
  (s.pw.mode.awake = true ∧ s.ownAddr (s.obj 0x6100 5) ≠ 0) ∧
  (msgOk udpBody m = true ∧ 24 ≤ (msgBody m).length ∧ field m 0 1 = layer) ∧
  field (msgBody m) 0 1 = op ∧
  (layer = 0x20 → fleetLen op ≠ 0 ∧ (msgBody m).length = fleetLen op) ∧ (layer ≠ 0x20 → ckptFits (msgBody m) = true)

/-- A message that reaches a worker from its manager (R434). -/
def FromManager (layer op src : Nat) (m : List Byte) (s : Machine.State) : Prop :=
  Spelled layer op m s ∧ s.isWorker = true ∧ src = s.obj 0x6100 6

/-- A message that reaches a manager. -/
def FromWorker (layer op : Nat) (m : List Byte) (s : Machine.State) : Prop := Spelled layer op m s ∧ s.isManager = true

/-- A sequence number of a sender on which nothing has been done yet (R431). -/
def NotActed (src seq : Nat) (s : Machine.State) : Prop := ∀ a ∈ s.depot.acted, ¬(a.1 = src ∧ a.2.1 = seq)

/-- The last thing sent is a fleet or checkpoint message, under this device's next sequence number (R430). -/
def SentFleet (layer dst type status serial job : Nat) (body : List Byte) (s t : Machine.State) : Prop :=
  t.out.head? = some (.udp dst 41720 (fuindMsg layer s.deviceId 0xFF (fleetHead type status serial job s.depot.seq ++ body))) ∧
  t.depot.seq = (s.depot.seq + 1) % 2 ^ 32

/-- An offer has not been accepted: with the workers of `u`, the job goes to the next that qualifies, from its last manifest, or is
queued again where none is left (R435, R438). -/
def NextOffer (u : Machine.State) (j : FleetJob) (s t : Machine.State) : Prop :=
  let j' : FleetJob := { j with tried := j.worker :: j.tried }
  match u.bestWorker j' with
  | none => t.fleetJob j.id = some { j' with state := 1, worker := 0, tried := [] }
  | some (k, w) => t.fleetJob j.id = some { j' with state := 2, worker := k } ∧
      SentFleet 0x20 w.addr 0x20 0 k j.id (j.offer.take 32 ++ leBytes 32 j.last) s t

/-- A port takes a flit of a kind: it is Active, the flit's CRC holds, and nothing waits to be sent on the port (R461, R463). -/
def TakesFlit (p kind : Nat) (f : List Byte) (s : Machine.State) : Prop :=
  (s.fl p).phase = .active ∧ flitOk f = true ∧ field f 0 1 % 16 = kind ∧ (s.fl p).txq = [] ∧ (s.fl p).initDue = false

/-- A whole message of a type reaches this device on a port: the port is Active and, but for a HELLO, has passed its hello; the
message is in form and addressed here (R462, R466, R468). -/
def Linked (p type : Nat) (m : List Byte) (s : Machine.State) : Prop :=
  (s.fl p).phase = .active ∧ field m 0 1 = type ∧ msgOk linkBody m = true ∧ (type = 1 ∨ (s.fl p).open_ = true) ∧
  (field m 2 1 = 0xFF ∨ field m 2 1 = s.deviceId)

/-- Only the cascade's state and some dictionary entries may differ, beside what has been sent. -/
def LinkOnly (s t : Machine.State) : Prop := Calm s t ∧ t.journal = s.journal ∧ t.seq = s.seq ∧ t.su = s.su

/-- An SDAP session is open, no request of it waits for its answer, and no access is held by a halt (R495, R496, R502). -/
def Debugging (s : Machine.State) : Prop :=
  s.pw.mode.awake = true ∧ s.live 0x38 = true ∧ (s.path 0x38).busy = none ∧ s.held = []

/-- The last thing sent is SDAP's answer to an operation: its status, its refusal code and the data read (R495). -/
def Says (op st code : Nat) (v : List Byte) (t : Machine.State) : Prop :=
  t.pins.tapReg = 0x20 ∧
  t.out.head? = some (.jtag st (leBytes 1 op ++ leBytes 1 st ++ leBytes 4 code ++ leBytes 2 0 ++ padTo 8 v))

/-- A debug operation has been refused with a code and counted in 0x5050:05, and beside that nothing has changed (R495). -/
def DebugRefused (op code : Nat) (s t : Machine.State) : Prop :=
  Says op 2 code [] t ∧ t.obj 0x5050 5 = (s.obj 0x5050 5 + 1) % 2 ^ 32 ∧ SameObjs [okey 0x5050 5 0] s t ∧ Calm s t ∧
  t.paths = s.paths ∧ t.journal = s.journal

/-- A stream is in a frame and fills a strip which one more line does not complete (R158, R165). -/
def MidStrip (k : Nat) (q : Sluice) (f : Filling) (s : Machine.State) : Prop :=
  s.sluicing = true ∧ s.sluice? k = some q ∧ s.streamState k = 2 ∧ q.filling = some f ∧ f.lines + 1 < s.obj 0x3000 8 k ∧
  q.line + 1 < s.obj 0x3000 7 k

/-- A line has entered a stream's sluice behind the strip's last line, and no other byte of memory has changed (R158, R164). -/
def TakesLine (k : Nat) (q : Sluice) (f : Filling) (bs : List Byte) (s t : Machine.State) : Prop :=
  Stores (poolBase + q.base + f.slot * s.stripBytes k + f.lines * (s.obj 0x3000 6 k * s.pixelBytes k)) none bs s t ∧
  (t.sluice? k).map (fun r => (r.line, r.filling.map (·.lines))) = some (q.line + 1, some (f.lines + 1)) ∧
  t.streamState k = 2 ∧ t.journal = s.journal ∧ t.ctxs = s.ctxs ∧ t.pw = s.pw

/-- Every output is as OFF holds it (R523). -/
def OutputsOff (t : Machine.State) : Prop :=
  t.pins.err0 = false ∧ t.pins.err1 = false ∧ t.pins.hazardN = true

/-- The operand values that an instruction's words carry (R257 to R276): the word of zeros spells nothing, an 8-byte load has no
sign extension, and what the memory answers (the code's finding, a twin's agreement) is no part of a word. -/
def threadForm : Instr → Bool
  | .add _ rd rs1 rs2 w => !(rd = 0 && rs1 = 0 && rs2 = 0 && !w)
  | .load _ size sext _ _ _ ecc => !(sext && size = 3) && ecc = .clean
  | .store _ _ _ _ _ agree => agree
  | _ => true

end Sys2Proof
end

