-- ==== Sys2Proof/Certificates/Slice0/Obligations.lean ====
section
/-! DEFINITION. The statements for the provers. -/

open Sys2Proof Sys2Proof.Machine

/-- A step runs the command at the front of the queue: chapter 02, chapter 04. -/
def Obligations.StepRunsFrontCommand : Prop :=
  (∀ (c : Instr) (rest : List Instr) (s : State),
    s.pending = c :: rest → Machine.step s = Machine.exec c { s with pending := rest }) ∧
  (∀ s : State, s.pending = [] → Machine.step s = .next s.tick)

/-- Right after power the block is in OFF with its outputs as OFF holds them: R523, R30, R104, R121. -/
def Obligations.ResetLeavesOff : Prop :=
  State.reset.pw.mode = .off ∧ State.reset.pins.err0 = false ∧ State.reset.pins.err1 = false ∧ State.reset.pins.hazardN = true ∧
  State.reset.clk.tbRun = false ∧ State.reset.paths = [] ∧ State.reset.pending = [] ∧ State.reset.journal.entries = [] ∧
  Memory.wf State.reset.mem = true ∧
  State.reset.obj 0xB000 4 = 2000

/-- One microsecond moves the clocks and no byte of memory; nothing runs in OFF: R192, R29, R30, R59, R69. -/
def Obligations.MicrosecondMovesClocks : Prop :=
  (∀ s : State, s.pw.mode = .off → s.pw.booting = false → s.pending = [] → Machine.step s = .next s) ∧
  (∀ s : State, s.pw.mode ≠ .off ∨ s.pw.booting = true → s.pending = [] → s.held = [] → s.pw.teardown = none →
    s.gptp.writes = [] →
    ∃ t, Machine.step s = .next t ∧ t.clk.us = s.clk.us + 1 ∧ SameMemory s t ∧ t.paths = s.paths ∧ t.pw = s.pw ∧ t.pending = [] ∧
      (s.clk.rtcFrac < 61000000 → s.clk.rtc + 1 < 2 ^ 64 →
        61000000 * t.clk.rtc + t.clk.rtcFrac =
          61000000 * s.clk.rtc + s.clk.rtcFrac + if s.objB 0x2030 6 then 2000000 else 61 * 32768) ∧
      (s.clk.tbRun = false → t.clk.tb = s.clk.tb ∧ t.clk.ticks = s.clk.ticks ∧ t.clk.elapsed = s.clk.elapsed + 1) ∧
      (s.clk.tbRun = true → s.obj 0x9000 4 = 0 → t.clk.tb = (s.clk.tb + 1000 * 2 ^ 40) % 2 ^ 104 ∧
        t.clk.ticks = s.clk.ticks + 1 ∧ t.clk.elapsed = s.clk.elapsed + 1))

/-- Memory has its canonical form at reset, and a store or a clear keeps it: R235. -/
def Obligations.MemoryCanonicalAtReset : Prop :=
  Memory.wf State.reset.mem = true ∧
  (∀ (s : State) (a : Nat) (bs : List Byte), Memory.wf s.mem = true → Memory.wf (s.memWrite a bs).mem = true) ∧
  (∀ (s : State) (a n : Nat), Memory.wf s.mem = true → Memory.wf (s.memZero a n).mem = true)

/-- Every command answers a next state in every state, and every step keeps the canonical form of memory: R235. -/
def Obligations.EveryStepKeepsMemoryCanonical : Prop :=
  (∀ (c : Instr) (s : State), ∃ t, Machine.exec c s = .next t) ∧
  (∀ s : State, Memory.wf s.mem = true → ∃ t, Machine.step s = .next t ∧ Memory.wf t.mem = true)

/-- A store reads back, leaves every other byte, and clears the poison of the words it covers: R250. -/
def Obligations.MemoryReadsBackWhatWasStored : Prop :=
  (∀ (s : State) (a : Nat) (bs : List Byte) (x : Nat),
    (s.memWrite a bs).memByte x = if a ≤ x ∧ x < a + bs.length then bs.getD (x - a) 0 else s.memByte x) ∧
  (∀ (s : State) (lo n x : Nat), (s.memZero lo n).memByte x = if lo ≤ x ∧ x < lo + n then 0 else s.memByte x) ∧
  (∀ (s : State) (a : Nat) (bs : List Byte), (s.memWrite a bs).memBytes a bs.length = bs) ∧
  (∀ (s : State) (a w : Nat) (bs : List Byte), a ≤ w → w + 8 ≤ a + bs.length → w ∉ (s.memWrite a bs).poison)

/-- Decoding the words of a thread instruction gives the instruction back: R257, R259, R261, R262, R263, R264, R265, R266, R269, R270, R271, R275. -/
def Obligations.ThreadWordsRoundTrip : Prop :=
  ∀ (i : Instr) (h : Hart) (w : Nat) (w2 : Option Nat),
    threadHart i = some h → threadForm i = true → encodeThread i = some (w, w2) →
    decodeThread h w (w2.getD 0) = some i ∧ isLong w = w2.isSome ∧ w < 2 ^ 32

/-- Reserved classes, function codes and fields spell no instruction: R258, R259, R261, R262, R263, R264, R265, R269, R270, R271, R274, R275. -/
def Obligations.IllegalWordsDecodeToNothing : Prop :=
  ∀ (h : Hart) (w w2 : Nat), w < 2 ^ 32 →
    (w = 0 ∨ 0xE ≤ w / 2 ^ 28 ∨ (w / 2 ^ 28 = 0 ∧ w % 2 ^ 6 ≠ 0) ∨ (w / 2 ^ 28 = 0 ∧ 0x1B ≤ w / 2 ^ 22 % 64) ∨
     (w / 2 ^ 28 = 1 ∧ 0xA ≤ w / 2 ^ 24 % 16) ∨ (w / 2 ^ 28 = 2 ∧ w % 2 ^ 21 ≠ 0) ∨ (w / 2 ^ 28 = 3 ∧ 6 ≤ w / 2 ^ 25 % 8) ∨
     (w / 2 ^ 28 = 4 ∧ w / 2 ^ 26 % 4 = 3) ∨ (w / 2 ^ 28 = 5 ∧ 0xA ≤ w / 2 ^ 24 % 16 ∧ w / 2 ^ 24 % 2 = 1) ∨
     (w / 2 ^ 28 = 6 ∧ (w % 8 ≠ 0 ∨ 0xC ≤ w / 2 ^ 24 % 16)) ∨ (w / 2 ^ 28 = 7 ∧ 5 ≤ w / 2 ^ 24 % 16) ∨
     (w / 2 ^ 28 = 8 ∧ w % 4 ≠ 0) ∨ (w / 2 ^ 28 = 9 ∧ w % 2 ^ 8 ≠ 0) ∨
     (w / 2 ^ 28 = 0xA ∧ (w % 2 ^ 5 ≠ 0 ∨ 9 ≤ w / 2 ^ 24 % 16)) ∨ (w / 2 ^ 28 = 0xB ∧ (w % 2 ^ 9 ≠ 0 ∨ 2 ≤ w / 2 ^ 24 % 16)) ∨
     (w / 2 ^ 28 = 0xC ∧ (w % 2 ^ 9 ≠ 0 ∨ 3 ≤ w / 2 ^ 24 % 16)) ∨ (w / 2 ^ 28 = 0xD ∧ 6 ≤ w / 2 ^ 24 % 16)) →
    decodeThread h w w2 = none

/-- Scalar arithmetic writes rd and moves the PC by 4, and nothing else: R259. -/
def Obligations.ScalarArithmeticWritesRd : Prop :=
  ∀ (h : Hart) (rd rs1 rs2 : Fin 32) (w : Bool) (s : State), s.runs h = true →
    let a := (s.ctx h).get rs1
    let b := (s.ctx h).get rs2
    Answers (.sub h rd rs1 rs2 w) s (WritesReg h rd (rrrResult w (fun a b => a - b) (fun a b => a - b) a b) 4 s) ∧
    Answers (.andR h rd rs1 rs2 w) s (WritesReg h rd (rrrResult w (fun a b => a &&& b) (fun a b => a &&& b) a b) 4 s) ∧
    Answers (.orR h rd rs1 rs2 w) s (WritesReg h rd (rrrResult w (fun a b => a ||| b) (fun a b => a ||| b) a b) 4 s) ∧
    Answers (.xor h rd rs1 rs2 w) s (WritesReg h rd (rrrResult w (fun a b => a ^^^ b) (fun a b => a ^^^ b) a b) 4 s) ∧
    Answers (.mul h rd rs1 rs2 w) s (WritesReg h rd (rrrResult w (fun a b => a * b) (fun a b => a * b) a b) 4 s) ∧
    Answers (.slt h rd rs1 rs2 w) s (WritesReg h rd (rrrResult w (fun a b => if a.slt b then 1 else 0) (fun a b => if a.slt b then 1 else 0) a b) 4 s) ∧
    Answers (.sltu h rd rs1 rs2 w) s (WritesReg h rd (rrrResult w (fun a b => if a.ult b then 1 else 0) (fun a b => if a.ult b then 1 else 0) a b) 4 s) ∧
    Answers (.minR h rd rs1 rs2 w) s (WritesReg h rd (rrrResult w (fun a b => if a.slt b then a else b) (fun a b => if a.slt b then a else b) a b) 4 s) ∧
    Answers (.maxR h rd rs1 rs2 w) s (WritesReg h rd (rrrResult w (fun a b => if a.slt b then b else a) (fun a b => if a.slt b then b else a) a b) 4 s) ∧
    Answers (.minu h rd rs1 rs2 w) s (WritesReg h rd (rrrResult w (fun a b => if a.ult b then a else b) (fun a b => if a.ult b then a else b) a b) 4 s) ∧
    Answers (.maxu h rd rs1 rs2 w) s (WritesReg h rd (rrrResult w (fun a b => if a.ult b then b else a) (fun a b => if a.ult b then b else a) a b) 4 s) ∧
    (rd ≠ 0 ∨ rs1 ≠ 0 ∨ rs2 ≠ 0 ∨ w = true →
      Answers (.add h rd rs1 rs2 w) s (WritesReg h rd (rrrResult w (fun a b => a + b) (fun a b => a + b) a b) 4 s)) ∧
    Answers (.mulh h rd rs1 rs2) s (WritesReg h rd (BitVec.ofInt 64 (a.toInt * b.toInt / 2 ^ 64)) 4 s) ∧
    Answers (.mulhu h rd rs1 rs2) s (WritesReg h rd (BitVec.ofNat 64 (a.toNat * b.toNat / 2 ^ 64)) 4 s)

/-- Shifts take rs2 modulo the width, a division by zero has its fixed results, CLZ and CTZ of 0 give the width: R260. -/
def Obligations.ScalarShiftsDivisionsAndCounts : Prop :=
  ∀ (h : Hart) (rd rs1 rs2 : Fin 32) (w : Bool) (s : State), s.runs h = true →
    let a := (s.ctx h).get rs1
    let b := (s.ctx h).get rs2
    Answers (.sll h rd rs1 rs2 w) s (WritesReg h rd (rrrResult w (fun a b => a <<< (b.toNat % 64)) (fun a b => a <<< (b.toNat % 32)) a b) 4 s) ∧
    Answers (.srl h rd rs1 rs2 w) s (WritesReg h rd (rrrResult w (fun a b => a >>> (b.toNat % 64)) (fun a b => a >>> (b.toNat % 32)) a b) 4 s) ∧
    Answers (.sra h rd rs1 rs2 w) s (WritesReg h rd (rrrResult w (fun a b => a.sshiftRight (b.toNat % 64)) (fun a b => a.sshiftRight (b.toNat % 32)) a b) 4 s) ∧
    Answers (.div h rd rs1 rs2 w) s (WritesReg h rd (rrrResult w (fun a b => if b = 0 then BitVec.allOnes _ else a.sdiv b) (fun a b => if b = 0 then BitVec.allOnes _ else a.sdiv b) a b) 4 s) ∧
    Answers (.divu h rd rs1 rs2 w) s (WritesReg h rd (rrrResult w (fun a b => if b = 0 then BitVec.allOnes _ else a.udiv b) (fun a b => if b = 0 then BitVec.allOnes _ else a.udiv b) a b) 4 s) ∧
    Answers (.rem h rd rs1 rs2 w) s (WritesReg h rd (rrrResult w (fun a b => if b = 0 then a else a.srem b) (fun a b => if b = 0 then a else a.srem b) a b) 4 s) ∧
    Answers (.remu h rd rs1 rs2 w) s (WritesReg h rd (rrrResult w (fun a b => if b = 0 then a else a.umod b) (fun a b => if b = 0 then a else a.umod b) a b) 4 s) ∧
    (a = 0 → w = false → Answers (.clz h rd rs1 w) s (WritesReg h rd 64 4 s)) ∧
    (a = 0 → w = true → Answers (.clz h rd rs1 w) s (WritesReg h rd 32 4 s)) ∧
    (a = 0 → w = false → Answers (.ctz h rd rs1 w) s (WritesReg h rd 64 4 s)) ∧
    (a = 0 → w = true → Answers (.ctz h rd rs1 w) s (WritesReg h rd 32 4 s)) ∧
    Answers (.clz h rd rs1 w) s (WritesReg h rd (BitVec.ofNat 64 (if w then clzN 32 (lo32 a).toNat else clzN 64 a.toNat)) 4 s) ∧
    Answers (.ctz h rd rs1 w) s (WritesReg h rd (BitVec.ofNat 64 (if w then ctzN 32 (lo32 a).toNat else ctzN 64 a.toNat)) 4 s) ∧
    Answers (.popc h rd rs1 w) s (WritesReg h rd (BitVec.ofNat 64 (if w then popN 32 (lo32 a).toNat else popN 64 a.toNat)) 4 s)

/-- Immediate operations write rd; long immediates move the PC by 8: R257, R259, R261. -/
def Obligations.ScalarImmediatesWriteRd : Prop :=
  ∀ (h : Hart) (rd rs1 : Fin 32) (imm : BitVec 14) (sh : BitVec 6) (imm32 : BitVec 32) (s : State), s.runs h = true →
    let a := (s.ctx h).get rs1
    Answers (.addi h rd rs1 imm) s (WritesReg h rd (a + imm.signExtend 64) 4 s) ∧
    Answers (.andi h rd rs1 imm) s (WritesReg h rd (a &&& imm.signExtend 64) 4 s) ∧
    Answers (.ori h rd rs1 imm) s (WritesReg h rd (a ||| imm.signExtend 64) 4 s) ∧
    Answers (.xori h rd rs1 imm) s (WritesReg h rd (a ^^^ imm.signExtend 64) 4 s) ∧
    Answers (.slti h rd rs1 imm) s (WritesReg h rd (if a.slt (imm.signExtend 64) then 1 else 0) 4 s) ∧
    Answers (.sltiu h rd rs1 imm) s (WritesReg h rd (if a.ult (imm.signExtend 64) then 1 else 0) 4 s) ∧
    Answers (.addiw h rd rs1 imm) s (WritesReg h rd (((a + imm.signExtend 64).truncate 32).signExtend 64) 4 s) ∧
    Answers (.slli h rd rs1 sh) s (WritesReg h rd (a <<< sh.toNat) 4 s) ∧
    Answers (.srli h rd rs1 sh) s (WritesReg h rd (a >>> sh.toNat) 4 s) ∧
    Answers (.srai h rd rs1 sh) s (WritesReg h rd (a.sshiftRight sh.toNat) 4 s) ∧
    Answers (.li h rd imm32) s (WritesReg h rd (imm32.signExtend 64) 8 s) ∧
    Answers (.lih h rd imm32) s (WritesReg h rd (imm32 ++ ((s.ctx h).get rd).truncate 32) 8 s) ∧
    Answers (.lpc h rd imm32) s (WritesReg h rd ((s.ctx h).pc + imm32.signExtend 64) 8 s)

/-- A branch whose condition holds moves the PC by its word offset; jumps link as named: R262. -/
def Obligations.BranchesAndJumpsMoveThePc : Prop :=
  (∀ (h : Hart) (rs1 rs2 : Fin 32) (off : BitVec 15) (s : State), s.runs h = true →
    let a := (s.ctx h).get rs1
    let b := (s.ctx h).get rs2
    let pc := (s.ctx h).pc
    let to_ := pc + 4 * off.signExtend 64
    Answers (.beq h rs1 rs2 off) s (MovesPc h (if a = b then to_ else pc + 4) s) ∧
    Answers (.bne h rs1 rs2 off) s (MovesPc h (if a ≠ b then to_ else pc + 4) s) ∧
    Answers (.blt h rs1 rs2 off) s (MovesPc h (if a.slt b = true then to_ else pc + 4) s) ∧
    Answers (.bge h rs1 rs2 off) s (MovesPc h (if a.slt b = false then to_ else pc + 4) s) ∧
    Answers (.bltu h rs1 rs2 off) s (MovesPc h (if a.ult b = true then to_ else pc + 4) s) ∧
    Answers (.bgeu h rs1 rs2 off) s (MovesPc h (if a.ult b = false then to_ else pc + 4) s)) ∧
  (∀ (h : Hart) (off : BitVec 26) (rd rs1 : Fin 32) (s : State), s.runs h = true →
    let pc := (s.ctx h).pc
    Answers (.j h off) s (MovesPc h (pc + 4 * off.signExtend 64) s) ∧
    Answers (.jal h off) s (fun t => RegWritten (s.ctx h) (t.ctx h) 1 (pc + 4) ∧ (t.ctx h).pc = pc + 4 * off.signExtend 64 ∧
      SameWords (s.ctx h) (t.ctx h) ∧ SameBeside h s t ∧ SameMemory s t) ∧
    (((s.ctx h).get rs1).toNat % 4 = 0 →
      Answers (.jr h rd rs1) s (fun t => RegWritten (s.ctx h) (t.ctx h) rd (pc + 4) ∧ (t.ctx h).pc = (s.ctx h).get rs1 ∧
        SameWords (s.ctx h) (t.ctx h) ∧ SameBeside h s t ∧ SameMemory s t)))

/-- A load reads its bytes least significant first, a store writes them and nothing else: R242, R246, R250, R263. -/
def Obligations.LoadsAndStoresMoveBytes : Prop :=
  ∀ (h : Hart) (size : Fin 4) (sext : Bool) (rd rs1 : Fin 32) (imm : BitVec 14) (s : State) (pa : Nat) (m : Option Nat),
    s.runs h = true →
    let n := 2 ^ size.val
    let a := ((s.ctx h).get rs1 + imm.signExtend 64).toNat
    a % n = 0 →
    let extended (v : Nat) : Word := if sext then BitVec.ofInt 64 (toSigned (8 * n) v) else BitVec.ofNat 64 v
    (Reaches s h .read a (.cells pa m) → s.poisoned pa n = false → Fresh h pa n s → size ≠ 3 ∨ sext = false →
      Answers (.load h size sext rd rs1 imm .clean) s (LoadsReg h rd (extended (s.memNat pa n)) s)) ∧
    (∀ (k : Fin 4) (l : List Byte), h = .keeper k → Reaches s h .read a (.cells pa m) → s.poisoned pa n = false →
      s.l1Holds pa = true → (Amap.get [] s.l1 (s.l1Key k.val)).find? (fun e => e.1 = pa / 64 * 64) = some (pa / 64 * 64, l) →
      size ≠ 3 ∨ sext = false →
      Answers (.load h size sext rd rs1 imm .clean) s fun t =>
        RegWritten (s.ctx h) (t.ctx h) rd (extended (s.memNat pa n)) ∨
        RegWritten (s.ctx h) (t.ctx h) rd (extended (leVal (slice l (pa % 64) n)))) ∧
    (∀ rs2 : Fin 32, Reaches s h .write a (.cells pa m) →
      Answers (.store h size rs2 rs1 imm true) s (StoresOnly h pa m (leBytes n ((s.ctx h).get rs2).toNat) s))

/-- An atomic returns the old word and writes the new one; CAS writes only on a match: R244, R264. -/
def Obligations.AtomicsReadThenWriteOneWord : Prop :=
  ∀ (h : Hart) (dbl : Bool) (ord : Order) (sc : Scope) (rd rs1 rs2 : Fin 32) (s : State) (pa : Nat) (m : Option Nat),
    s.runs h = true →
    let a := ((s.ctx h).get rs1).toNat
    let n := if dbl then 8 else 4
    let old := s.memNat pa n
    let oldReg := if dbl then BitVec.ofNat 64 old else (BitVec.ofNat 32 old).signExtend 64
    let new (f : Word → Word → Word) (g : Half → Half → Half) : List Byte :=
      if dbl then leBytes 8 (f (BitVec.ofNat 64 old) ((s.ctx h).get rs2)).toNat
      else leBytes 4 (g (BitVec.ofNat 32 old) (((s.ctx h).get rs2).truncate 32)).toNat
    a % n = 0 → (a < keeperBase ∨ mapped a = false) → s.poisoned pa n = false → Reaches s h .write a (.cells pa m) →
    Answers (.swap h dbl ord sc rd rs1 rs2) s (WritesRegStores h rd oldReg pa m (new (fun _ b => b) (fun _ b => b)) s) ∧
    Answers (.amoAdd h dbl ord sc rd rs1 rs2) s (WritesRegStores h rd oldReg pa m (new (fun o b => o + b) (fun o b => o + b)) s) ∧
    Answers (.amoAnd h dbl ord sc rd rs1 rs2) s (WritesRegStores h rd oldReg pa m (new (fun o b => o &&& b) (fun o b => o &&& b)) s) ∧
    Answers (.amoOr h dbl ord sc rd rs1 rs2) s (WritesRegStores h rd oldReg pa m (new (fun o b => o ||| b) (fun o b => o ||| b)) s) ∧
    Answers (.amoXor h dbl ord sc rd rs1 rs2) s (WritesRegStores h rd oldReg pa m (new (fun o b => o ^^^ b) (fun o b => o ^^^ b)) s) ∧
    Answers (.amoMin h dbl ord sc rd rs1 rs2) s (WritesRegStores h rd oldReg pa m (new (fun o b => if o.slt b then o else b) (fun o b => if o.slt b then o else b)) s) ∧
    Answers (.amoMax h dbl ord sc rd rs1 rs2) s (WritesRegStores h rd oldReg pa m (new (fun o b => if o.slt b then b else o) (fun o b => if o.slt b then b else o)) s) ∧
    Answers (.amoMinu h dbl ord sc rd rs1 rs2) s (WritesRegStores h rd oldReg pa m (new (fun o b => if o.ult b then o else b) (fun o b => if o.ult b then o else b)) s) ∧
    Answers (.amoMaxu h dbl ord sc rd rs1 rs2) s (WritesRegStores h rd oldReg pa m (new (fun o b => if o.ult b then b else o) (fun o b => if o.ult b then b else o)) s) ∧
    (old = ((s.ctx h).get rd).toNat % 2 ^ (8 * n) →
      Answers (.cas h dbl ord sc rd rs1 rs2) s (WritesRegStores h rd oldReg pa m (leBytes n ((s.ctx h).get rs2).toNat) s)) ∧
    (old ≠ ((s.ctx h).get rd).toNat % 2 ^ (8 * n) → Answers (.cas h dbl ord sc rd rs1 rs2) s (WritesReg h rd oldReg 4 s)) ∧
    Answers (.sta h dbl ord sc rs1 rs2) s (StoresOnly h pa m (leBytes n ((s.ctx h).get rs2).toNat) s)

/-- LDA reads a word; FENCE, FENCE.I, YIELD and a WAITT with nothing outstanding move the PC alone: R246, R264, R265. -/
def Obligations.FencesAndAcquireLoads : Prop :=
  (∀ (h : Hart) (dbl : Bool) (ord : Order) (sc : Scope) (rd rs1 : Fin 32) (s : State) (pa : Nat) (m : Option Nat),
    s.runs h = true →
    let a := ((s.ctx h).get rs1).toNat
    let n := if dbl then 8 else 4
    let old := s.memNat pa n
    a % n = 0 → (a < keeperBase ∨ mapped a = false) → s.poisoned pa n = false → Reaches s h .read a (.cells pa m) →
    Answers (.lda h dbl ord sc rd rs1) s
      (WritesReg h rd (if dbl then BitVec.ofNat 64 old else (BitVec.ofNat 32 old).signExtend 64) 4 s)) ∧
  (∀ (h : Hart) (sc : Scope) (s : State), s.runs h = true →
    ((∀ k : Fin 4, h ≠ .keeper k) ∨ sc = .engine → Answers (.fence h sc) s (MovesPc h ((s.ctx h).pc + 4) s)) ∧
    (∀ k : Fin 4, h = .keeper k → sc ≠ .engine → Answers (.fence h sc) s fun t =>
      (∀ r, (t.ctx h).get r = (s.ctx h).get r) ∧ (t.ctx h).pc = (s.ctx h).pc + 4 ∧ SameWords (s.ctx h) (t.ctx h) ∧
      SameOthers h s t ∧ SameMemory s t ∧ ∀ pa n, Fresh h pa n t) ∧
    Answers (.fenceI h) s (MovesPc h ((s.ctx h).pc + 4) s) ∧
    Answers (.yield h) s (MovesPc h ((s.ctx h).pc + 4) s)) ∧
  (∀ (g : Fin 3072) (mask : Byte) (s : State), s.runs (.ctx g) = true →
    (∀ o ∈ (s.ctx (.ctx g)).ops, mask.toNat.testBit o.token = false) →
    Answers (.waitt (.ctx g) mask) s (MovesPc (.ctx g) ((s.ctx (.ctx g)).pc + 4) s))

/-- The count-th arrival at a barrier releases every waiting context; an earlier one waits: R265, R282. -/
def Obligations.BarrierReleasesOnTheLastArrival : Prop :=
  ∀ (g : Fin 3072) (id : Fin 16) (count1 : BitVec 7) (s : State), s.runs (.ctx g) = true →
    (∀ o ∈ (s.ctx (.ctx g)).ops, o.fault = none) →
    let v := s.engine (g.val / 64)
    let c := s.ctx (.ctx g)
    (v.barrier id.val = none → count1 = 0 →
      Answers (.bar (.ctx g) id count1) s (fun t => (t.ctx (.ctx g)) = { c with pc := c.pc + 4 } ∧
        (∀ k, k ≠ .ctx g → t.ctx k = s.ctx k) ∧ SameMemory s t)) ∧
    (v.barrier id.val = none → count1 ≠ 0 →
      Answers (.bar (.ctx g) id count1) s (fun t => (t.ctx (.ctx g)) = { c with barrier := some id.val } ∧
        (t.engine (g.val / 64)).barrier id.val =
          some { id := id.val, count := count1.toNat + 1, arrived := [g.val] } ∧
        (∀ k, k ≠ .ctx g → t.ctx k = s.ctx k) ∧ t.runs (.ctx g) = false ∧ SameMemory s t)) ∧
    (∀ b, v.barrier id.val = some b → b.count = count1.toNat + 1 → b.arrived.length = count1.toNat →
      b.arrived.Nodup → g.val ∉ b.arrived → (∀ k ∈ b.arrived, k < 3072) →
      Answers (.bar (.ctx g) id count1) s (fun t => (t.ctx (.ctx g)) = { c with pc := c.pc + 4 } ∧
        (t.engine (g.val / 64)).barrier id.val = none ∧
        (∀ k : Fin 3072, k.val ∈ b.arrived →
          t.ctx (.ctx k) = { s.ctx (.ctx k) with barrier := none, pc := (s.ctx (.ctx k)).pc + 4 }) ∧
        (∀ k : Fin 3072, k ≠ g → k.val ∉ b.arrived → t.ctx (.ctx k) = s.ctx (.ctx k)) ∧ SameMemory s t))

/-- A vector integer operation writes the enabled lanes of vd alone; saturation sets FLAGS [0]: R266, R267. -/
def Obligations.VectorIntegersWriteEnabledLanes : Prop :=
  ∀ (g : Fin 3072) (vd vs1 : Fin 8) (src : VSrc) (rs : Fin 32) (pr : Option (Fin 4)) (s : State), s.runs (.ctx g) = true →
    let c := s.ctx (.ctx g)
    let a (k : Fin 64) : Half := c.lane vs1 k
    let b (k : Fin 64) : Half := c.src src k
    let sat (v : Int) : Half := BitVec.ofInt 32 (max (-2 ^ 31) (min v (2 ^ 31 - 1)))
    let out (v : Int) : Prop := v < -2 ^ 31 ∨ 2 ^ 31 ≤ v
    Answers (.vadd (.ctx g) vd vs1 src pr) s (WritesLanes (.ctx g) vd pr (fun k => a k + b k) 0 s) ∧
    Answers (.vsub (.ctx g) vd vs1 src pr) s (WritesLanes (.ctx g) vd pr (fun k => a k - b k) 0 s) ∧
    Answers (.vmul (.ctx g) vd vs1 src pr) s (WritesLanes (.ctx g) vd pr (fun k => a k * b k) 0 s) ∧
    Answers (.vmulh (.ctx g) vd vs1 src pr) s (WritesLanes (.ctx g) vd pr (fun k => BitVec.ofInt 32 ((a k).toInt * (b k).toInt / 2 ^ 32)) 0 s) ∧
    Answers (.vand (.ctx g) vd vs1 src pr) s (WritesLanes (.ctx g) vd pr (fun k => a k &&& b k) 0 s) ∧
    Answers (.vor (.ctx g) vd vs1 src pr) s (WritesLanes (.ctx g) vd pr (fun k => a k ||| b k) 0 s) ∧
    Answers (.vxor (.ctx g) vd vs1 src pr) s (WritesLanes (.ctx g) vd pr (fun k => a k ^^^ b k) 0 s) ∧
    Answers (.vsll (.ctx g) vd vs1 src pr) s (WritesLanes (.ctx g) vd pr (fun k => a k <<< ((b k).toNat % 32)) 0 s) ∧
    Answers (.vsrl (.ctx g) vd vs1 src pr) s (WritesLanes (.ctx g) vd pr (fun k => a k >>> ((b k).toNat % 32)) 0 s) ∧
    Answers (.vsra (.ctx g) vd vs1 src pr) s (WritesLanes (.ctx g) vd pr (fun k => (a k).sshiftRight ((b k).toNat % 32)) 0 s) ∧
    Answers (.vmin (.ctx g) vd vs1 src pr) s (WritesLanes (.ctx g) vd pr (fun k => if (a k).slt (b k) then a k else b k) 0 s) ∧
    Answers (.vmax (.ctx g) vd vs1 src pr) s (WritesLanes (.ctx g) vd pr (fun k => if (a k).slt (b k) then b k else a k) 0 s) ∧
    Answers (.vrshr (.ctx g) vd vs1 rs pr) s (WritesLanes (.ctx g) vd pr (fun k =>
      let n := (c.get rs).toNat % 32
      if n = 0 then a k else BitVec.ofInt 32 (((a k).toInt + 2 ^ (n - 1)) / 2 ^ n)) 0 s) ∧
    Answers (.vbcast (.ctx g) vd rs pr) s (WritesLanes (.ctx g) vd pr (fun _ => (c.get rs).truncate 32) 0 s) ∧
    (∀ q : Fin 4, Answers (.vsel (.ctx g) vd vs1 src q) s
      (WritesLanes (.ctx g) vd none (fun k => if c.enabled (some q) k = true then a k else b k) 0 s)) ∧
    Answers (.vabs (.ctx g) vd vs1 pr) s (fun t => ∃ n, (n = 0 ∨ n = 1) ∧
      (n = 1 ↔ ∃ k, c.enabled pr k = true ∧ out |(a k).toInt|) ∧ WritesLanes (.ctx g) vd pr (fun k => sat |(a k).toInt|) n s t) ∧
    Answers (.vadds (.ctx g) vd vs1 src pr) s (fun t => ∃ n, (n = 0 ∨ n = 1) ∧
      (n = 1 ↔ ∃ k, c.enabled pr k = true ∧ out ((a k).toInt + (b k).toInt)) ∧
      WritesLanes (.ctx g) vd pr (fun k => sat ((a k).toInt + (b k).toInt)) n s t) ∧
    Answers (.vsubs (.ctx g) vd vs1 src pr) s (fun t => ∃ n, (n = 0 ∨ n = 1) ∧
      (n = 1 ↔ ∃ k, c.enabled pr k = true ∧ out ((a k).toInt - (b k).toInt)) ∧
      WritesLanes (.ctx g) vd pr (fun k => sat ((a k).toInt - (b k).toInt)) n s t)

/-- VFADD to VFMAX and the conversions write enabled lanes and sticky flags; a NaN operand gives the one NaN: R266, R267, R268. -/
def Obligations.VectorFloatsWriteEnabledLanes : Prop :=
  (∀ (g : Fin 3072) (vd vs1 : Fin 8) (src : VSrc) (pr : Option (Fin 4)) (s : State), s.runs (.ctx g) = true →
    let c := s.ctx (.ctx g)
    let a (k : Fin 64) : Nat := (c.lane vs1 k).toNat
    let b (k : Fin 64) : Nat := (c.src src k).toNat
    let d (k : Fin 64) : Nat := (c.lane vd k).toNat
    let gives (f : Fin 64 → Nat × Nat) (t : State) : Prop :=
      WritesLanes (.ctx g) vd pr (fun k => BitVec.ofNat 32 (f k).1) (c.laneFlags pr fun k => (f k).2) s t
    Answers (.vfadd (.ctx g) vd vs1 src pr) s (gives fun k => f32Add (a k) (b k)) ∧
    Answers (.vfsub (.ctx g) vd vs1 src pr) s (gives fun k => f32Sub (a k) (b k)) ∧
    Answers (.vfmul (.ctx g) vd vs1 src pr) s (gives fun k => f32Mul (a k) (b k)) ∧
    Answers (.vfmin (.ctx g) vd vs1 src pr) s (gives fun k => f32Ext true (a k) (b k)) ∧
    Answers (.vfmax (.ctx g) vd vs1 src pr) s (gives fun k => f32Ext false (a k) (b k)) ∧
    Answers (.vfma (.ctx g) vd vs1 src pr) s (gives fun k => f32Fma (d k) (a k) (b k)) ∧
    Answers (.vcvtif (.ctx g) vd vs1 pr) s (gives fun k => fp32.ofInt (toSigned 32 (a k))) ∧
    Answers (.vcvtfh (.ctx g) vd vs1 pr) s (gives fun k => fp16.narrow (a k)) ∧
    Answers (.vcvtfb (.ctx g) vd vs1 pr) s (gives fun k => bf16.narrow (a k)) ∧
    Answers (.vcvtfi (.ctx g) vd vs1 pr) s (WritesLanes (.ctx g) vd pr (fun k => (toIntLane (c.lane vs1 k)).1)
      (c.laneFlags pr fun k => (toIntLane (c.lane vs1 k)).2) s)) ∧
  (∀ a b : Nat, (f32IsNan a = true ∨ f32IsNan b = true) →
    (f32Add a b).1 = 0x7FC00000 ∧ (f32Sub a b).1 = 0x7FC00000 ∧ (f32Mul a b).1 = 0x7FC00000 ∧
    ∀ k, (f32Cmp k a b).1 = false) ∧
  (∀ d a b : Nat, f32IsNan d = true ∨ f32IsNan a = true ∨ f32IsNan b = true → (f32Fma d a b).1 = 0x7FC00000)

/-- A vector compare writes the enabled bits of its predicate register alone: R266, R267, R268. -/
def Obligations.VectorComparesWriteEnabledPredicateBits : Prop :=
  ∀ (g : Fin 3072) (fp : Bool) (pd : Fin 4) (vs1 : Fin 8) (src : VSrc) (pr : Option (Fin 4)) (s : State),
    s.runs (.ctx g) = true →
    let c := s.ctx (.ctx g)
    let a (k : Fin 64) : Half := c.lane vs1 k
    let b (k : Fin 64) : Half := c.src src k
    let flags (n : Nat) : Nat := if fp then c.laneFlags pr fun k => (f32Cmp n (a k).toNat (b k).toNat).2 else 0
    let gives (n : Nat) (f : Half → Half → Bool) (t : State) : Prop := WritesPred (.ctx g) pd pr
      (fun k => if fp then (f32Cmp n (a k).toNat (b k).toNat).1 else f (a k) (b k)) (flags n) s t
    Answers (.vceq (.ctx g) fp pd vs1 src pr) s (gives 0 fun x y => x = y) ∧
    Answers (.vclt (.ctx g) fp pd vs1 src pr) s (gives 1 fun x y => x.slt y) ∧
    Answers (.vcle (.ctx g) fp pd vs1 src pr) s (gives 2 fun x y => x.sle y) ∧
    Answers (.vcltu (.ctx g) pd vs1 src pr) s (WritesPred (.ctx g) pd pr (fun k => (a k).ult (b k)) 0 s)

/-- A vector load or store moves the elements of the enabled lanes and nothing else: R242, R266, R269. -/
def Obligations.VectorMemoryMovesEnabledLanes : Prop :=
  ∀ (g : Fin 3072) (el : Elem) (vd : Fin 8) (rs1 rs2 : Fin 32) (pr : Option (Fin 4)) (s : State) (pa : Fin 64 → Nat)
      (twin : Fin 64 → Option Nat), s.runs (.ctx g) = true →
    let c := s.ctx (.ctx g)
    let n := Elem.bytes el
    let at_ (stride : Word) (k : Fin 64) : Nat := (c.get rs1 + BitVec.ofNat 64 k.val * stride).toNat
    let open_ (acc : Acs) (stride : Word) : Prop := ∀ k, c.enabled pr k = true →
      at_ stride k % n = 0 ∧ Reaches s (.ctx g) acc (at_ stride k) (.cells (pa k) (twin k)) ∧ (acc = .read → s.poisoned (pa k) n = false)
    let loads (t : State) : Prop := WritesLanes (.ctx g) vd pr (fun k => Elem.extend el (s.memNat (pa k) n)) 0 s t
    let covers (k : Fin 64) (x : Nat) : Prop := (pa k ≤ x ∧ x < pa k + n) ∨ ∃ b ∈ twin k, b ≤ x ∧ x < b + n
    let stores (t : State) : Prop :=
      (∀ x, (∀ k, c.enabled pr k = true → ¬covers k x) → t.memByte x = s.memByte x) ∧
      (∀ k x, c.enabled pr k = true → pa k ≤ x → x < pa k + n → twin k = none →
        (∀ j, k < j → c.enabled pr j = true → ¬covers j x) →
        t.memByte x = (leBytes n (c.lane vd k).toNat).getD (x - pa k) 0) ∧
      (∀ k x b, c.enabled pr k = true → twin k = some b → b ≤ x → x < b + n →
        (∀ j, k < j → c.enabled pr j = true → ¬covers j x) →
        t.memByte x = (leBytes n (c.lane vd k).toNat).getD (x - b) 0) ∧
      t.ctx (.ctx g) = { c with pc := c.pc + 4 } ∧ SameBeside (.ctx g) s t
    (open_ .read (BitVec.ofNat 64 n) → Answers (.vload (.ctx g) el vd rs1 pr) s loads) ∧
    (open_ .read (c.get rs2) → Answers (.vloadStrided (.ctx g) el vd rs1 rs2 pr) s loads) ∧
    (open_ .write (BitVec.ofNat 64 n) → Answers (.vstore (.ctx g) el vd rs1 pr) s stores) ∧
    (open_ .write (c.get rs2) → Answers (.vstoreStrided (.ctx g) el vd rs1 rs2 pr) s stores)

/-- A vector reduction combines the enabled lanes into rd; with none it gives the identity: R266, R270. -/
def Obligations.VectorReductionsWriteRd : Prop :=
  ∀ (g : Fin 3072) (fp : Bool) (rd : Fin 32) (vs1 : Fin 8) (pr : Option (Fin 4)) (s : State), s.runs (.ctx g) = true →
    let c := s.ctx (.ctx g)
    let a (k : Fin 64) : Half := c.lane vs1 k
    let on (k : Fin 64) : Prop := c.enabled pr k = true
    let h : Hart := .ctx g
    (fp = false →
      Answers (.vrsum h fp rd vs1 pr) s (Reduces h rd ((∑ k : Fin 64, if c.enabled pr k then a k else 0).signExtend 64) 0 s)) ∧
    (fp = true → Answers (.vrsum h fp rd vs1 pr) s (fun t =>
      let r := fpSum (lanes.map fun k => if c.enabled pr k then some (a k).toNat else none)
      Reduces h rd (BitVec.ofNat 64 r.1) r.2 s t)) ∧
    ((∀ k, ¬on k) →
      Answers (.vrmax h fp rd vs1 pr) s (Reduces h rd (if fp then 0xFF800000 else 0xFFFFFFFF80000000) 0 s) ∧
      Answers (.vrmin h fp rd vs1 pr) s (Reduces h rd (if fp then 0x7F800000 else 0x7FFFFFFF) 0 s) ∧
      Answers (.vrargmax h fp rd vs1 pr) s (Reduces h rd 64 0 s)) ∧
    (fp = false → ∀ m : Fin 64, on m →
      ((∀ k, on k → (a k).toInt ≤ (a m).toInt) → Answers (.vrmax h fp rd vs1 pr) s (Reduces h rd ((a m).signExtend 64) 0 s)) ∧
      ((∀ k, on k → (a m).toInt ≤ (a k).toInt) → Answers (.vrmin h fp rd vs1 pr) s (Reduces h rd ((a m).signExtend 64) 0 s)) ∧
      ((∀ k, on k → (a k).toInt ≤ (a m).toInt) → (∀ k, on k → k < m → (a k).toInt < (a m).toInt) →
        Answers (.vrargmax h fp rd vs1 pr) s (Reduces h rd (BitVec.ofNat 64 m.val) 0 s))) ∧
    (fp = true → ∃ n,
      Answers (.vrmax h fp rd vs1 pr) s (fun t => ∃ v, Reduces h rd v n s t) ∧
      Answers (.vrmin h fp rd vs1 pr) s (fun t => ∃ v, Reduces h rd v n s t) ∧
      Answers (.vrargmax h fp rd vs1 pr) s (fun t => ∃ v, Reduces h rd v n s t)) ∧
    Answers (.vfirst h rd vs1) s (Reduces h rd ((a 0).signExtend 64) 0 s)

/-- Slides, VPERM and VCOMPRESS move lanes; a lane from outside 0 to 63 is 0: R266, R270. -/
def Obligations.VectorPermutesMoveLanes : Prop :=
  ∀ (g : Fin 3072) (rd rs : Fin 32) (vd vs1 vs2 : Fin 8) (pr : Option (Fin 4)) (q : Fin 4) (s : State), s.runs (.ctx g) = true →
    let c := s.ctx (.ctx g)
    let h : Hart := .ctx g
    let lane (v : Fin 8) (k : Nat) : Half := if hk : k < 64 then c.lane v ⟨k, hk⟩ else 0
    let n := (c.get rs).toNat
    let on := (List.finRange 64).filter fun k => c.enabled (some q) k
    Answers (.vslideup h vd vs1 rs pr) s (WritesLanes h vd pr (fun k => if n ≤ k.val then lane vs1 (k.val - n) else 0) 0 s) ∧
    Answers (.vslidedown h vd vs1 rs pr) s (WritesLanes h vd pr (fun k => lane vs1 (k.val + n)) 0 s) ∧
    Answers (.vperm h vd vs1 vs2 pr) s (WritesLanes h vd pr (fun k => lane vs1 ((c.lane vs2 k).toNat % 64)) 0 s) ∧
    Answers (.vcompress h vd vs1 rd q) s (fun t =>
      (∀ r k, (t.ctx h).lane r k = if r = vd then ((on.map (c.lane vs1)).getD k.val 0) else c.lane r k) ∧
      RegWritten c (t.ctx h) rd (BitVec.ofNat 64 on.length) ∧ (t.ctx h).p = c.p ∧ Passes h 0 s t ∧ SameMemory s t)

/-- Traps, breaks, illegal words, misaligned targets, faulting accesses and fetches take their exception: R236, R258, R262, R263, R275, R277, R278, R279, R280, R281. -/
def Obligations.ExceptionsSaveTheRecord : Prop :=
  (∀ (h : Hart) (imm : BitVec 14) (word : Half) (s : State), s.runs h = true → Single h s →
    Answers (.trap h imm) s (Excepts h .scalar 0x04 imm.toNat s) ∧
    (s.pw.mode ≠ .bench ∨ s.objBit 0x5050 4 (if isCtx h then 0 else 1) = false →
      Answers (.brk h) s (Excepts h .scalar 0x05 0 s)) ∧
    (decodeThread h word.toNat 0 = none → Answers (.illegalInstruction h ⟨word, true⟩) s (Excepts h .scalar 0x01 word.toNat s)) ∧
    Answers (.add h 0 0 0 false) s (Excepts h .scalar 0x01 0 s) ∧
    (∀ (rd rs1 : Fin 32) (ecc : Ecc),
      Answers (.load h 3 true rd rs1 imm ecc) s (Excepts h .memory 0x01 (firstWord (.load h 3 true rd rs1 imm ecc)) s)) ∧
    (∀ (rd rs1 : Fin 32), ((s.ctx h).get rs1).toNat % 4 ≠ 0 →
      Answers (.jr h rd rs1) s (Excepts h .scalar 0x17 ((s.ctx h).get rs1).toNat s)) ∧
    (∀ (size : Fin 4) (sext : Bool) (rd rs1 : Fin 32),
      let a := (s.ctx h).ea rs1 imm
      (a % 2 ^ size.val ≠ 0 → size ≠ 3 ∨ sext = false → Answers (.load h size sext rd rs1 imm .clean) s (Excepts h .memory 0x17 a s) ∧
        Answers (.store h size rd rs1 imm true) s (Excepts h .memory 0x17 a s)) ∧
      (∀ pa m, a % 2 ^ size.val = 0 → Reaches s h .read a (.cells pa m) → s.poisoned pa (2 ^ size.val) = true →
        size ≠ 3 ∨ sext = false → Answers (.load h size sext rd rs1 imm .clean) s (Excepts h .memory 0x16 a s)))) ∧
  (∀ (c : Fin 4) (kind : Fin 8) (second : Bool) (s : State), s.runs (.keeper c) = true → Single (.keeper c) s →
    let a := ((s.ctx (.keeper c)).pc + if second then 4 else 0).toNat
    kind.val ≠ 0 → s.fetchKind (.keeper c) a = kind.val →
    Answers (.instructionFetchFault (.keeper c) kind ⟨second, true⟩) s (TakesException c (0x10 + kind.val) a s)) ∧
  (∀ (g : Fin 3072) (kind : Fin 8) (second : Bool) (s : State), s.runs (.ctx g) = true → Single (.ctx g) s →
    let a := ((s.ctx (.ctx g)).pc + if second then 4 else 0).toNat
    kind.val ≠ 0 → s.fetchKind (.ctx g) a = kind.val →
    ∃ j, s.jobOf g.val = some j ∧ Answers (.instructionFetchFault (.ctx g) kind ⟨second, true⟩) s fun t =>
      t = ((s.setCtx (.ctx g) { s.ctx (.ctx g) with
        stopped := true, epc := (s.ctx (.ctx g)).pc, ecode := BitVec.ofNat 64 (0x10 + kind.val),
        eaddr := BitVec.ofNat 64 a }).excCount (g.val / 64) (0x10 + kind.val) a).jobFault j.id (0x10 + kind.val))

/-- An exception inside an exception on a Keeper core is a class-S detection with code 0x03: R280, R347, R350. -/
def Obligations.DoubleExceptionIsClassS : Prop :=
  ∀ (c : Fin 4) (imm : BitVec 14) (word : Half) (s : State), s.runs (.keeper c) = true → Detecting s →
    (s.ctx (.keeper c)).flags.getLsbD 8 = true →
    Answers (.trap (.keeper c) imm) s (Detects 0x03 s) ∧
    (decodeThread (.keeper c) word.toNat 0 = none → Answers (.illegalInstruction (.keeper c) ⟨word, true⟩) s (Detects 0x03 s)) ∧
    (s.pw.mode ≠ .bench ∨ s.objBit 0x5050 4 1 = false → Answers (.brk (.keeper c)) s (Detects 0x03 s))

/-- TSR and TSW read and write the thread state words of R276, each profile its own: R275, R276. -/
def Obligations.ThreadStateWordsReadAndWrite : Prop :=
  (∀ (g : Fin 3072) (rd : Fin 32) (s : State), s.runs (.ctx g) = true →
    let h : Hart := .ctx g
    let c := s.ctx h
    Answers (.tsr h rd 0x000) s (WritesReg h rd (BitVec.ofNat 64 g.val) 4 s) ∧
    Answers (.tsr h rd 0x001) s (WritesReg h rd (BitVec.ofNat 64 (g.val / 64)) 4 s) ∧
    Answers (.tsr h rd 0x003) s (WritesReg h rd c.tag 4 s) ∧
    Answers (.tsr h rd 0x004) s (WritesReg h rd c.flags 4 s) ∧
    Answers (.tsr h rd 0x010) s (WritesReg h rd (BitVec.ofNat 64 (s.clk.tb / 2 ^ 40 % 2 ^ 64)) 4 s) ∧
    Answers (.tsr h rd 0x011) s (WritesReg h rd (BitVec.ofNat 64 s.clk.ticks) 4 s) ∧
    Answers (.tsw h rd 0x004) s (Becomes h { c with flags := c.get rd &&& 0x00F, pc := c.pc + 4 } s) ∧
    (Single h s → Answers (.tsw h rd 0x000) s (Excepts h .scalar 0x01 (firstWord (.tsw h rd 0x000)) s) ∧
      Answers (.tsr h rd 0x020) s (Excepts h .scalar 0x01 (firstWord (.tsr h rd 0x020)) s))) ∧
  (∀ (k : Fin 4) (rd : Fin 32) (s : State), s.runs (.keeper k) = true →
    let h : Hart := .keeper k
    let c := s.ctx h
    let v := c.get rd
    Answers (.tsr h rd 0x000) s (WritesReg h rd (BitVec.ofNat 64 (0xFFFF0000 + k.val)) 4 s) ∧
    Answers (.tsr h rd 0x004) s (WritesReg h rd c.flags 4 s) ∧
    Answers (.tsr h rd 0x008) s (WritesReg h rd (BitVec.ofNat 64 c.cycle) 4 s) ∧
    Answers (.tsr h rd 0x020) s (WritesReg h rd c.epc 4 s) ∧
    Answers (.tsr h rd 0x021) s (WritesReg h rd c.ecode 4 s) ∧
    Answers (.tsr h rd 0x022) s (WritesReg h rd c.eaddr 4 s) ∧
    Answers (.tsr h rd 0x030) s (WritesReg h rd c.tvec 4 s) ∧
    Answers (.tsr h rd 0x031) s (WritesReg h rd c.scratch 4 s) ∧
    Answers (.tsr h rd 0x032) s (WritesReg h rd (if s.handoverPending (k.val / 2) then 1 else 0) 4 s) ∧
    Answers (.tsw h rd 0x004) s (Becomes h { c with flags := v &&& 0x10F, pc := c.pc + 4 } s) ∧
    Answers (.tsw h rd 0x020) s (Becomes h { c with epc := v, pc := c.pc + 4 } s) ∧
    Answers (.tsw h rd 0x021) s (Becomes h { c with ecode := v &&& 0xFF, pc := c.pc + 4 } s) ∧
    Answers (.tsw h rd 0x022) s (Becomes h { c with eaddr := v, pc := c.pc + 4 } s) ∧
    Answers (.tsw h rd 0x030) s (Becomes h { c with tvec := v, pc := c.pc + 4 } s) ∧
    Answers (.tsw h rd 0x031) s (Becomes h { c with scratch := v, pc := c.pc + 4 } s) ∧
    (Single h s → Answers (.tsw h rd 0x032) s (Excepts h .scalar 0x01 (firstWord (.tsw h rd 0x032)) s)))

/-- WFE waits for EVENTS, ERET returns from an exception, BREAK under break catch halts: R258, R275, R280, R499, R502. -/
def Obligations.KeepersWaitReturnAndHalt : Prop :=
  (∀ (k : Fin 4) (s : State), s.runs (.keeper k) = true →
    let h : Hart := .keeper k
    let c := s.ctx h
    (s.handoverPending (k.val / 2) = true → Answers (.wfe h) s (Becomes h { c with pc := c.pc + 4 } s)) ∧
    (s.handoverPending (k.val / 2) = false → Answers (.wfe h) s (fun t =>
      Becomes h { c with waiting := true } s t ∧ t.runs h = false)) ∧
    (c.flags.getLsbD 8 = true → Answers (.eret h) s (Becomes h { c with
      flags := c.flags &&& ~~~0x100, pc := c.epc &&& ~~~3 } s)) ∧
    (c.flags.getLsbD 8 = false → Answers (.eret h) s (TakesException k 0x01 (firstWord (.eret h)) s)) ∧
    (s.pw.mode = .bench → s.objBit 0x5050 4 1 = true →
      Answers (.brk h) s (fun t => t.runs h = false ∧ t.coreHalted k.val = true ∧ t.pins.err0 = false ∧ t.pins.err1 = false ∧
        t.ctxs = s.ctxs ∧ SameMemory s t))) ∧
  (∀ (k : Fin 4) (s : State), let c := s.ctx (.keeper k)
    c.waiting = true → s.handoverPending (k.val / 2) = true → s.coreHalted k.val = false →
    Answers (.wfeWake k) s (Becomes (.keeper k) { c with waiting := false, pc := c.pc + 4 } s)) ∧
  (∀ (g : Fin 3072) (s : State), s.runs (.ctx g) = true →
    (Single (.ctx g) s → Answers (.wfe (.ctx g)) s (Excepts (.ctx g) .scalar 0x01 (firstWord (.wfe (.ctx g))) s) ∧
      Answers (.eret (.ctx g)) s (Excepts (.ctx g) .scalar 0x01 (firstWord (.eret (.ctx g))) s)) ∧
    (s.pw.mode = .bench → s.objBit 0x5050 4 0 = true →
      Answers (.brk (.ctx g)) s (fun t => t.engineHalted (g.val / 64) = true ∧ t.runs (.ctx g) = false ∧ t.ctxs = s.ctxs ∧
        SameMemory s t)))

/-- TOP and TMOVE issue with the lowest free token; a finished operation frees it in order or defers its fault: R271, R272, R273, R287, R295. -/
def Obligations.TensorOperationsTakeAToken : Prop :=
  (∀ (g : Fin 3072) (rd rs1 : Fin 32) (s : State) (pa tk : Nat), s.runs (.ctx g) = true →
    let h : Hart := .ctx g
    let c := s.ctx h
    let a := (c.get rs1).toNat
    let issue (copy : Bool) (mode : Nat) : TensorOp :=
      { token := tk, copy := copy, desc := s.memBytes pa 64, mode := mode, addr := a, pc := c.pc.toNat, finished := false,
        fault := none, job := ((s.jobOf g.val).map (·.id)).getD 0 }
    s.ownDesc g a = some pa → s.poisoned pa 64 = false → c.freeToken = some tk →
    (∀ (prec : Precision) (acc deq : Bool),
      TopOp.valid { d := s.memBytes pa 64, prec := precCode prec, acc := acc, deq := deq } = true →
      Answers (.top h rd rs1 prec acc deq) s (fun t =>
        t.ctx h = { ({ c with ops := c.ops ++ [issue false (precCode prec * 4 + b2n acc * 2 + b2n deq)] } : Ctx).put rd
          (BitVec.ofNat 64 tk) with pc := c.pc + 4 } ∧
        (t.engine (g.val / 64)).tops = (s.engine (g.val / 64)).tops ++ [(g.val % 64, tk)] ∧
        (∀ k, k ≠ h → t.ctx k = s.ctx k) ∧ SameMemory s t)) ∧
    (moveValid (s.memBytes pa 64) = true → Answers (.tmove h rd rs1) s (Becomes h
      { ({ c with ops := c.ops ++ [issue true 0] } : Ctx).put rd (BitVec.ofNat 64 tk) with pc := c.pc + 4 } s))) ∧
  (∀ (g : Fin 3072) (token : Fin 8) (s : State) (o : TensorOp),
    let c := s.ctxAt g.val
    c.ops.find? (fun o => o.token = token.val) = some o → s.mayFinish g.val o = true →
    let r := if o.copy then s.runMove (.ctx g) o.desc else s.runTop (.hart (.ctx g)) (g.val / 64) o
    Answers (.tensorOpDone g token) s (fun t => ∃ u : State, t = u.settle ∧ u.mem = r.2.mem ∧ u.poison = r.2.poison ∧
      (r.1 = none → (u.ctxAt g.val).ops = (c.ops.map fun x => if x.token = token.val then { x with finished := true, fault := none }
        else x).dropWhile fun x => x.finished && x.fault.isNone) ∧
      (∀ f, r.1 = some f → ∃ x ∈ (u.ctxAt g.val).ops, x.token = token.val ∧ x.fault = some f)))

/-- SUBMIT appends a job or answers its refusal, CANCEL and JOBEND end what they name: R273, R274, R333, R339, R340. -/
def Obligations.QueueInstructionsSubmitCancelAndEnd : Prop :=
  ∀ (g : Fin 3072) (rd rs1 rs2 : Fin 32) (s : State), s.runs (.ctx g) = true →
    let h : Hart := .ctx g
    let c := s.ctx h
    let q := (c.get rs2).toNat
    let a := (c.get rs1).toNat
    let u := (s.issued h .queue).wakeReach (.hart h) a 64
    (s.mayQueue g q = true →
      (∀ d, a % 64 = 0 → u.fetchBy (.hart h) a 64 = .inr d →
        (u.submitCode q d false = 0 → Answers (.submit h rd rs1 rs2) s (fun t => t.ctx h = { c.put rd 0 with pc := c.pc + 4 } ∧
          ∃ j : Job, t.sched.jobs = s.sched.jobs ++ [j] ∧ j.queue = q ∧ j.desc = d ∧ j.phase = .pending ∧
            j.seq = (s.queue q).next ∧ SameMemory s t)) ∧
        (u.submitCode q d false ≠ 0 → Answers (.submit h rd rs1 rs2) s (fun t =>
          t.ctx h = { c.put rd (BitVec.ofNat 64 (u.submitCode q d false)) with pc := c.pc + 4 } ∧
          t.sched = s.sched ∧ t.obj 0x6001 5 q = (s.obj 0x6001 5 q + 1) % 2 ^ 32 ∧ SameMemory s t))) ∧
      (Single h s → a % 64 ≠ 0 → Answers (.submit h rd rs1 rs2) s (Excepts h .queue 0x17 a s)) ∧
      ((∀ j ∈ s.queueJobs q, j.phase ≠ .ended → j.tag ≠ a) → Answers (.cancel h rd rs1 rs2) s (fun t => ∃ v : State,
        t = (v.settle).retired h { c.put rd 0x0A with pc := c.pc + 4 } ∧ v.sched = s.sched ∧ SameMemory s v)) ∧
      (∀ j, (s.queueJobs q).find? (fun j => j.phase != .ended && j.tag = a) = some j → s.job j.id = some j → j.phase = .pending → j.type ≠ 2 →
        Answers (.cancel h rd rs1 rs2) s (fun t => ∃ v : State,
          t = (v.settle).retired h { c.put rd 0 with pc := c.pc + 4 } ∧
          (∃ k ∈ v.sched.jobs, k.id = j.id ∧ k.phase = .ended ∧ k.status = 3) ∧ SameMemory s v))) ∧
    (c.ops = [] → ∀ j, s.jobOf g.val = some j →
      let e := { c with ended := some ((c.get rs1).toNat % 256), pc := c.pc + 4 }
      ((∃ k ∈ j.harts, k ≠ g.val ∧ (s.ctxAt k).ended = none) → Answers (.jobend h rs1) s (Becomes h e s)) ∧
      ((∀ k ∈ j.harts, k ≠ g.val → (s.ctxAt k).ended ≠ none) → j.part = 0 → j.type ≠ 2 → s.job j.id = some j →
        Answers (.jobend h rs1) s (fun t => ∃ v : State, t = v.settle ∧
          (∃ k ∈ v.sched.jobs, k.id = j.id ∧ k.phase = .ended ∧ k.status = 0 ∧
            (k.user = 0 → (c.get rs1).toNat % 256 = 0)) ∧
          SameMemory s v)))

/-- A doorbell write submits, cancels or consumes; a record is written once its job has ended and a slot is free: R236, R245, R333, R334, R339, R340. -/
def Obligations.DoorbellsAndCompletionRecords : Prop :=
  (∀ (n : Fin 9) (q : Fin 512) (s : State),
    let u := s.endDoze
    s.pw.mode.awake = true → (s.path (0x10 + n.val)).live = true → s.queuePart q.val = n.val →
    (∀ d : List Byte, d.length = 64 →
      (u.submitCode q.val d false = 0 → Answers (.doorbellSubmit (.fn n) q ⟨0, true, d⟩) s (fun t => ∃ (j : Job) (v : State),
        t = v.settle ∧ v.sched.jobs = s.sched.jobs ++ [j] ∧ j.queue = q.val ∧ j.desc = d ∧ j.phase = .pending ∧
        j.seq = (s.queue q.val).next ∧ (v.bell q.val n.val).status = 0 ∧ (v.bell q.val n.val).lastSeq = j.seq ∧ SameMemory s v)) ∧
      (u.submitCode q.val d false ≠ 0 → Answers (.doorbellSubmit (.fn n) q ⟨0, true, d⟩) s (fun t => ∃ v : State, t = v.settle ∧
        v.sched.jobs = s.sched.jobs ∧ (v.bell q.val n.val).status = u.submitCode q.val d false ∧
        v.obj 0x6001 5 q.val = (s.obj 0x6001 5 q.val + 1) % 2 ^ 32 ∧ SameMemory s v))) ∧
    (∀ (off : BitVec 12) (d : List Byte), off.toNat + d.length ≤ 0x38 →
      Answers (.doorbellSubmit (.fn n) q ⟨off, true, d⟩) s (fun t => ∃ v : State, t = v.settle ∧ v.sched.jobs = s.sched.jobs ∧
        (v.bell q.val n.val).staging = (((s.bell q.val n.val).staging.take off.toNat ++ d ++
          (s.bell q.val n.val).staging.drop (off.toNat + d.length)).take 64) ∧ SameMemory s v)) ∧
    (∀ (off : BitVec 12) (d : List Byte), Answers (.doorbellSubmit (.fn n) q ⟨off, false, d⟩) s (fun t =>
      t = { s with out := .pcie n.val true (s.bellRead q.val n.val off.toNat d.length) :: s.out })) ∧
    (∀ tag : Word, (∀ j ∈ s.queueJobs q.val, j.phase ≠ .ended → j.tag ≠ tag.toNat) →
      Answers (.doorbellCancel (.fn n) q tag) s (fun t => ∃ v : State, t = v.settle ∧ v.sched.jobs = s.sched.jobs ∧
        (v.bell q.val n.val).status = 0x0A ∧ SameMemory s v)) ∧
    (∀ (tag : Word) (j : Job), (s.queueJobs q.val).find? (fun j => j.phase != .ended && j.tag = tag.toNat) = some j →
      s.job j.id = some j → j.phase = .pending → j.type ≠ 2 →
      Answers (.doorbellCancel (.fn n) q tag) s (fun t => ∃ v : State, t = v.settle ∧ (v.bell q.val n.val).status = 0 ∧
        (∃ k ∈ v.sched.jobs, k.id = j.id ∧ k.phase = .ended ∧ k.status = 3) ∧ SameMemory s v)) ∧
    (∀ m : BitVec 32, Answers (.completionsConsumed (.fn n) q m) s (fun t => ∃ v : State, t = v.settle ∧
      (v.queue q.val).consumed = m.toNat ∧ (v.queue q.val).next = (s.queue q.val).next ∧ v.sched.jobs = s.sched.jobs ∧
      SameMemory s v))) ∧
  (∀ (n : Fin 9) (q : Fin 512) (s : State) (off : BitVec 12) (d : List Byte) (tag : Word) (m : BitVec 32),
    s.pw.mode.awake = true → (s.path (0x10 + n.val)).live = true → s.queuePart q.val ≠ n.val →
    let dropped (t : State) : Prop := ∃ v : State, t = v.settle ∧ v.obj 0x4803 1 = (s.obj 0x4803 1 + 1) % 2 ^ 32 ∧
      v.sched = s.sched ∧ SameMemory s v
    Answers (.doorbellSubmit (.fn n) q ⟨off, true, d⟩) s dropped ∧ Answers (.doorbellCancel (.fn n) q tag) s dropped ∧
    Answers (.completionsConsumed (.fn n) q m) s dropped ∧
    Answers (.doorbellSubmit (.fn n) q ⟨off, false, d⟩) s (fun t =>
      t = { s with out := .pcie n.val true (List.replicate d.length 0xFF) :: s.out })) ∧
  (∀ (g : Fin 3072) (q : Fin 512) (s : State) (off : BitVec 12) (d : List Byte), s.runs (.ctx g) = true →
    (s.queuePart q.val = s.enginePart (g.val / 64) → ∀ m : BitVec 32,
      Answers (.completionsConsumed (.hart (.ctx g)) q m) s (fun t => ∃ v : State, t = v.settle ∧
        (v.queue q.val).consumed = m.toNat ∧ v.sched.jobs = s.sched.jobs ∧ v.ctxs = s.ctxs ∧ SameMemory s v)) ∧
    (Single (.ctx g) s → s.queuePart q.val ≠ s.enginePart (g.val / 64) → ∃ j, s.jobOf g.val = some j ∧
      let a := bellBase + q.val * 0x1000 + off.toNat
      Answers (.doorbellSubmit (.hart (.ctx g)) q ⟨off, true, d⟩) s fun t =>
        t = ((s.setCtx (.ctx g) { s.ctx (.ctx g) with
          stopped := true, epc := (s.ctx (.ctx g)).pc, ecode := BitVec.ofNat 64 0x13,
          eaddr := BitVec.ofNat 64 a }).excCount (g.val / 64) 0x13 a).jobFault j.id 0x13)) ∧
  (∀ (q : Fin 512) (s : State) (j : Job) (rest : List Job) (pa : Nat) (m : Option Nat),
    let base := s.obj 0x6000 7 q.val
    let size := s.obj 0x6000 8 q.val
    s.queueJobs q.val = j :: rest → j.phase = .ended → s.jobQuiet j = true →
    (base = 0 → Answers (.completionRecordWrite q) s (fun t => t.sched.jobs = s.sched.jobs.filter (fun k => k.id != j.id) ∧
      t.obj 0x6001 4 q.val = s.obj 0x6001 4 q.val ∧ t.ctxs = s.ctxs ∧ SameMemory s t)) ∧
    (base ≠ 0 → (j.seq + 2 ^ 32 - (s.queue q.val).consumed) % 2 ^ 32 < size →
    s.place (.part j.part) .write (base + 32 * (j.seq % size)) = .inr (.cells pa m) →
    Answers (.completionRecordWrite q) s (fun t => t.sched.jobs = s.sched.jobs.filter (fun k => k.id != j.id) ∧
      Stores pa m j.record s t ∧ t.obj 0x6001 4 q.val = (s.obj 0x6001 4 q.val + 1) % 2 ^ 32 ∧ t.ctxs = s.ctxs)))

/-- A dispatch gives the job the lowest free contexts and their start state; scrubs and resets end as stated: R62, R330, R335, R337, R341. -/
def Obligations.DispatchStartsContexts : Prop :=
  (∀ (s : State) (j : Job) (e : Nat),
    s.starts.find? (fun p => s.obj 0x4000 1 p.2 = 0) = some (j, e) → s.job j.id = some j →
    let slots := (s.freeSlots e).take j.contexts
    Answers (.jobDispatch) s (fun t =>
      (∃ k ∈ t.sched.jobs, k.id = j.id ∧ k.phase = .running ∧ k.engine = e ∧ k.slots = slots ∧ k.desc = j.desc) ∧
      (∀ n, (hn : n < slots.length) → t.ctxAt (e * 64 + slots[n]) = startCtx j n) ∧
      (∀ g, (∀ c ∈ slots, g ≠ e * 64 + c) → t.ctxAt g = s.ctxAt g) ∧ SameMemory s t)) ∧
  (∀ s : State, (∀ p ∈ s.starts, s.obj 0x4000 1 p.2 ≠ 0 ∧ p.2 < 48) →
    Answers (.jobDispatch) s (fun t => (∀ p ∈ s.starts, (t.engine p.2).waking = true) ∧ t.sched = s.sched ∧ t.ctxs = s.ctxs ∧
      SameMemory s t)) ∧
  (∀ (s : State) (j : Job) (e : Nat), (j, e) ∈ s.starts → j.phase = .pending ∧ e ∈ s.effSet j.queue ∧ s.serves e = true ∧
    (s.engine e).dike = none ∧ j.contexts ≤ (s.freeSlots e).length) ∧
  (∀ (j : Job) (n : Nat), let c := startCtx j n
    c.pc = BitVec.ofNat 64 (field j.desc 16 8) ∧ c.get 10 = BitVec.ofNat 64 (field j.desc 24 8) ∧
    c.get 11 = BitVec.ofNat 64 (field j.desc 48 8) ∧ c.get 12 = BitVec.ofNat 64 n ∧
    c.get 13 = BitVec.ofNat 64 (field j.desc 2 1 % 64 + 1) ∧ c.flags = 0 ∧ c.tag = BitVec.ofNat 64 (field j.desc 8 8) ∧
    (∀ r : Fin 32, r ≠ 10 → r ≠ 11 → r ≠ 12 → r ≠ 13 → c.get r = 0)) ∧
  (∀ (e : Fin 48) (s : State), (s.engine e.val).moving.isSome = true →
    Answers (.partitionMoveScrubDone e) s (fun t => (t.engine e.val).moving = none ∧ (t.engine e.val).dir = [] ∧
      (∀ x, t.memByte x = if storeRoom e.val ≤ x ∧ x < storeRoom e.val + 0x200000 then 0 else s.memByte x) ∧
      (∀ g : Fin 3072, t.ctx (.ctx g) = if g.val / 64 = e.val then Ctx.zero else s.ctx (.ctx g)))) ∧
  (∀ s : State, s.resetReady 0 = true →
    Answers (.partitionResetDone 0) s (fun t => t.resetting 0 = false ∧
      t.sched.resets = s.sched.resets.filter (fun r => r.part != 0) ∧ t.ctxs = s.ctxs ∧ SameMemory s t))

/-- A trigger queues a request on its port, at most four; a finished step or sample leaves its record; Mix-4 is read: R309, R310, R311, R313, R314, R315, R319, R320, R322, R327. -/
def Obligations.UnitsTakeRequestsAndComplete : Prop :=
  (∀ (h : Hart) (desc : Word) (s : State), s.runs h = true →
    let port := hartKey h
    let ctx (t : State) : Prop := t.ctx h = { s.ctx h with pc := (s.ctx h).pc + 4 } ∧ (∀ k, k ≠ h → t.ctx k = s.ctx k)
    let queued (u : Nat) (t : State) : Prop := t.outstanding u port = s.outstanding u port + 1 ∧
      (∀ p, p ≠ port → t.outstanding u p = s.outstanding u p) ∧
      (∃ r ∈ (if u = 1 then t.recReqs else t.smpReqs), r.port = port ∧ r.tag = s.memNat (unitWindow u + port * 0x400 + 8) 8) ∧
      ctx t ∧ SameMemory s t
    let rec_ (t : State) : Prop := queued 1 t ∧ t.smpReqs = s.smpReqs
    let smp (t : State) : Prop := queued 2 t ∧ t.recReqs = s.recReqs
    (s.outstanding 1 port < 4 → Answers (.recurrenceSlotStep h desc) s rec_ ∧ Answers (.recurrenceBatchStep h desc) s rec_) ∧
    (s.outstanding 2 port < 4 → Answers (.samplingFilter h desc) s smp ∧ Answers (.samplingGumbelMax h desc) s smp) ∧
    let fifth (u : Nat) (t : State) : Prop := t.recReqs = s.recReqs ∧ t.smpReqs = s.smpReqs ∧ ctx t ∧
      t.obj (0x480F + u) 5 = (s.obj (0x480F + u) 5 + 1) % 2 ^ 32
    (4 ≤ s.outstanding 1 port → Answers (.recurrenceSlotStep h desc) s (fifth 1) ∧
      Answers (.recurrenceBatchStep h desc) s (fifth 1)) ∧
    (4 ≤ s.outstanding 2 port → Answers (.samplingFilter h desc) s (fifth 2) ∧ Answers (.samplingGumbelMax h desc) s (fifth 2)) ∧
    (∀ (rd : Fin 32) (size : Fin 4) (off : Fin 16), off.val % 2 ^ size.val = 0 →
      Answers (.mix4Load h rd size off) s (fun t =>
        RegWritten (s.ctx h) (t.ctx h) rd (BitVec.ofNat 64 (leVal (slice ((s.portMix port).flatMap (leBytes 4)) off.val (2 ^ size.val)))) ∧
        (t.ctx h).pc = (s.ctx h).pc + 4 ∧ SameWords (s.ctx h) (t.ctx h) ∧ (∀ k, k ≠ h → t.ctx k = s.ctx k) ∧
        t.obj 0x4812 1 = (s.obj 0x4812 1 + 1) % 2 ^ objBits 0x4812 1 ∧ SameMemory s t)) ∧
    (∀ (slot : Fin 4096) (word : Fin 2) (v : Word), s.whoPart (.hart h) = 0 →
      let a := slotAddr slot.val + 8 * word.val
      ((s.memWrite a (leBytes 8 v.toNat)).slotOk a = true → Answers (.stateSlotStore h slot word v) s (fun t =>
        StoresOnly h a none (leBytes 8 v.toNat) s { t with recReqs := s.recReqs } ∧
        t.recReqs = s.recReqs.map fun r =>
          if r.run.isSome && r.onSlot && r.slot = slot.val && word = 0 then { r with kept := true } else r)) ∧
      ((s.memWrite a (leBytes 8 v.toNat)).slotOk a = false → Single h s →
        Answers (.stateSlotStore h slot word v) s (Excepts h .memory 0x12 a s)))) ∧
  (∀ (s : State) (r : UnitReq) (rest : List UnitReq), nextReq s.recReqs = some (r, rest) → r.run ≠ none →
    let s' : State := { s with recReqs := rest }
    Answers (.recurrenceStepDone) s (fun t => ∃ u : State, t = u.recStart.settle ∧
      (u.recReqs.map fun q => { q with kept := false }) = (rest.map fun q => { q with kept := false }) ∧
      (r.early ≠ 0 → u = (s'.bump 0x4810 6).complete 1 r (unitRecord r.tag r.early 2 0 0 0 0)) ∧
      (r.early = 0 → (s'.runStep r).1 = 0 → u = (s'.runStep r).2.complete 1 r (unitRecord r.tag 0 2 0 0 0 0)) ∧
      (r.early = 0 → (s'.runStep r).1 ≠ 0 →
        u = ((s'.runStep r).2.bump 0x4810 6).complete 1 r (unitRecord r.tag (s'.runStep r).1 2 0 0 0 0)))) ∧
  (∀ (s : State) (r : UnitReq) (rest : List UnitReq), nextReq s.smpReqs = some (r, rest) → r.run ≠ none →
    let s' : State := { s with smpReqs := rest }
    let x := s'.runSample r
    Answers (.samplingDone) s (fun t => ∃ u : State, t = u.smpStart.settle ∧ u.smpReqs = rest ∧
      (r.early ≠ 0 → u = (s'.bump 0x4811 6).complete 2 r (unitRecord r.tag r.early 3 0 0 0 0)) ∧
      (r.early = 0 → samplingValid r.desc = false → u = (s'.bump 0x4811 6).complete 2 r (unitRecord r.tag 1 3 0 0 0 0)) ∧
      (r.early = 0 → samplingValid r.desc = true → x.1 = 0 →
        u = x.2.2.complete 2 r (unitRecord r.tag 0 3 x.2.1.m x.2.1.token x.2.1.z x.2.1.u)) ∧
      (r.early = 0 → samplingValid r.desc = true → x.1 ≠ 0 →
        u = (x.2.2.bump 0x4811 6).complete 2 r (unitRecord r.tag x.1 3 x.2.1.m x.2.1.token x.2.1.z x.2.1.u))))

/-- PORST_N and VAON put the block in OFF with its outputs off; the release leads to PARKED by the confirmed clock: R44, R46, R68, R69, R77, R104, R121, R515, R523. -/
def Obligations.PowerOnAndOff : Prop :=
  (∀ s : State, Answers (.porstNAssert) s (fun t => t.pw.mode = .off ∧ t.pw.porst = true ∧ OutputsOff t ∧ t.paths = [] ∧
    t.clk.tbRun = false ∧ t.mem = [] ∧ t.ctxs = [] ∧ t.attic.history = s.attic.history ∧ t.journal = s.journal)) ∧
  (∀ (mv : BitVec 16) (flag : Bool) (s : State), Answers (.vaonOutOfRange mv flag) s (fun t => t.pw.mode = .off ∧
    t.pw.vaonOk = false ∧ t.pw.offCause = (if s.pw.porst = true ∨ flag = false then 1 else 2) ∧ OutputsOff t ∧ t.paths = [] ∧
    t.mem = [] ∧ t.journal = Journal.reset ∧ t.attic.history = s.attic.history)) ∧
  (∀ (strap : Fin 4) (s : State), s.pw.porst = true → s.pw.vaonOk = true → Answers (.porstNRelease strap) s (fun t =>
    t.pw.porst = false ∧ t.pw.booting = true ∧ t.obj 0x2000 5 = strap.val ∧ t.clk.rtc = 0 ∧ t.mem = s.mem ∧
    ∃ e, t.attic.history.head? = some e ∧ historyValid e = true ∧ field e 0 8 = 0 ∧ field e 8 1 = 1)) ∧
  (∀ s : State, s.pw.vaonOk = false →
    (s.pw.porst = true → Answers (.vaonReturnToRange) s (fun t => t = { s with pw := { s.pw with vaonOk := true } })) ∧
    (s.pw.porst = false → Answers (.vaonReturnToRange) s (fun t => t.pw.vaonOk = true ∧ t.pw.booting = true ∧
      t.pw.mode = s.pw.mode ∧ t.clk.rtc = (if s.pw.offCause = 1 then 0 else s.clk.rtc) ∧ t.mem = s.mem ∧
      ∃ e, t.attic.history.head? = some e ∧ field e 8 1 = s.pw.offCause % 256))) ∧
  (∀ s : State, s.pw.booting = true →
    let parked (t : State) : Prop := t.pw.mode = .parked ∧ t.pw.booting = false ∧ t.pw.ign = false ∧ t.pw.shore = false ∧
      t.paths = [(0x01, PathState.fresh)] ∧ t.obj 0x2030 1 = s.pw.offCause ∧ t.mem = s.mem ∧ t.attic = s.attic
    Answers (.sclkConfirmed) s (fun t => parked t ∧ t.obj 0x2030 6 = 0) ∧
    Answers (.sclkSubstitute) s (fun t => parked t ∧ t.obj 0x2030 6 = 1)) ∧
  (∀ (e : BitVec 16) (s : State), s.pw.mode ≠ .off → Answers (.aclkRetrim e) s (fun t => t.obj 0xB003 4 = e.toNat ∧
    (∀ i j c, okey i j c ≠ okey 0xB003 4 0 → t.obj i j c = s.obj i j c) ∧
    t = { s with objs := t.objs, freeCtr := t.freeCtr, pw := { s.pw with aclkTrim := t.pw.aclkTrim } }))

/-- An enabled wake source takes PARKED to WAKING; IGN in DRIVE starts and ends the drive-off count: R46, R49, R56, R57, R58, R60, R67, R73, R80. -/
def Obligations.WakeSourcesLeavePark : Prop :=
  (∀ s : State, Wakeable 0 s → s.pw.ign = false → Answers (.ignWakeChange true) s (Wakes 0 s)) ∧
  (∀ s : State, Wakeable 1 s → s.pw.shore = false → s.objB 0x6100 1 = true → Answers (.shorePwrChange true) s (Wakes 1 s)) ∧
  (∀ (f : CanFrame) (s : State), s.port0Parked = true →
    let counts (sub : Nat) (t : State) : Prop := t.obj 0xB002 sub = (s.obj 0xB002 sub + 1) % 2 ^ objBits 0xB002 sub ∧
      t = { s with objs := t.objs }
    (f.brs = true ∨ f.xl = true → Answers (.canParkedFrame f) s (counts 8)) ∧
    (f.brs = false → f.xl = false → f.error = true → Answers (.canParkedFrame f) s (counts 9)) ∧
    (f.brs = false → f.xl = false → f.error = false → s.wakeMatch f = true →
      (s.objBit 0xB001 1 2 = false → Answers (.canParkedFrame f) s (counts 7)) ∧
      (Wakeable 2 s → Answers (.canParkedFrame f) s (Wakes 2 s)))) ∧
  (∀ s : State, Wakeable 3 s → s.obj 0xB001 7 ≠ 0 → Answers (.realTimeAlarm) s (Wakes 3 s)) ∧
  (∀ (s : State) (src : Nat), s.pw.deferred = some src → s.pw.mode = .parked → s.pw.resetHeld = false →
    s.objI 16 0xB003 1 ≤ 1200 → Answers (.deferredWakeCommit) s (Wakes src s)) ∧
  (∀ s : State, s.pw.mode = .drive → s.pw.teardown = none →
    (s.pw.ign = true → Answers (.ignWakeChange false) s (fun t => t.pw.mode = .drive ∧ t.pw.ign = false ∧
      t.pw.driveOff = some (s.now + 1000 * s.obj 0xB000 4) ∧ t.obj 0xB000 3 = 5 ∧ SameMemory s t ∧ t.ctxs = s.ctxs)) ∧
    (s.pw.ign = false → Answers (.ignWakeChange true) s (fun t => t.pw.mode = .drive ∧ t.pw.ign = true ∧
      t.pw.driveOff = none ∧ t.obj 0xB000 3 = 0 ∧ SameMemory s t ∧ t.ctxs = s.ctxs)))

/-- RESET_N holds the block in PARKED and leaves its history entry; teardown ends in PARKED with outputs off: R46, R49, R50, R53, R71, R73, R74, R75, R78, R79, R104, R526. -/
def Obligations.ResetsAndTeardownReachPark : Prop :=
  (∀ s : State, s.pw.mode ≠ .off → s.pw.resetHeld = false → Answers (.resetNAssert) s (fun t => t.pw.mode = .parked ∧
    t.pw.prev = s.pw.mode ∧ t.pw.resetHeld = true ∧ t.pw.resetAt = s.now ∧ t.obj 0x2030 1 = 3 ∧ t.obj 0x2030 2 = 0 ∧
    t.journal = s.journal ∧ t.attic.history = s.attic.history ∧
    (s.pw.mode ≠ .parked → t.ctxs = [] ∧ t.engines = [] ∧ t.sched = Sched.idle ∧ t.clk.tbRun = false ∧ OutputsOff t ∧
      t.paths = [(0x01, PathState.fresh)] ∧ (∀ a, 0xC00000000 ≤ a → t.memByte a = 0) ∧
      (s.pw.safeLatch = false → t.mem = []) ∧
      (s.pw.safeLatch = true → s.depot.keys = 0 → ∀ a, a < 0xC00000000 → t.memByte a = s.memByte a)))) ∧
  (∀ s : State, s.pw.resetHeld = true →
    let hold := (s.now - s.pw.resetAt) / 1000
    let ring (e : List Byte) : List (List Byte) := (e :: ringBefore s.attic.written s.attic.history).take 256
    Answers (.resetNRelease) s (fun t => t.pw.resetHeld = false ∧ t.mem = s.mem ∧
      t.obj 0x2030 2 = min hold (2 ^ 32 - 1) ∧
      ∃ e, t.attic.history = ring e ∧ historyValid e = true ∧ field e 0 8 = s.pw.resetRtc % 2 ^ 64 ∧
        field e 8 1 = (if s.pw.resetLong = true ∨ 5000 < hold then 4 else 3) ∧ field e 9 1 = s.pw.resetMode.code ∧
        field e 12 4 = min hold (2 ^ 32 - 1) ∧ field e 20 4 = nextSequence s.attic.history) ∧
    (s.pw.resetLong = false → Answers (.resetHeld) s (fun t => t.pw.resetLong = true ∧
      t.obj 0x2030 1 = (if s.pw.resetStuck then s.obj 0x2030 1 else 4) ∧ t.pw.mode = s.pw.mode ∧ t.attic = s.attic ∧
      SameMemory s t)) ∧
    (s.pw.resetStuck = false → Answers (.resetLineStuck) s (fun t => t.pw.resetStuck = true ∧ t.obj 0x2030 1 = 7 ∧
      t.pw.mode = s.pw.mode ∧ SameMemory s t ∧
      ∃ e, t.attic.history = ring e ∧ historyValid e = true ∧ field e 8 1 = 7 ∧ bit (field e 10 1) 3 = true ∧
        bit (field e 10 1) 0 = false))) ∧
  (∀ s : State, s.pw.mode = .waking → s.pw.readyHold.isSome = true → s.mayMove = true →
    Answers (.readyHoldExpiry) s (TearsDown s)) ∧
  (∀ s : State, s.pw.mode = .drive → s.pw.driveOff.isSome = true → s.mayMove = true → s.depotReady = false →
    Answers (.driveOffDelayExpiry) s (TearsDown s)) ∧
  (∀ s : State, s.pending = [] → s.held = [] → s.pw.mode ≠ .off →
    (s.pw.teardown = some 0 → (s.attic.queue ≠ [] ∨ s.attic.pendSet ≠ none) →
      ∃ t, Machine.step s = .next t ∧ t.pw = s.pw ∧ SameMemory s t) ∧
    (s.pw.teardown = some 0 → s.attic.queue = [] → s.attic.pendSet = none →
      ∃ t, Machine.step s = .next t ∧ t.pw = { s.pw with teardown := some 1 } ∧ SameMemory s t) ∧
    (s.pw.teardown = some 1 → ∃ t, Machine.step s = .next t ∧ t.pw = { s.pw with teardown := some 2 } ∧
      (∀ a, t.memByte a = if a < 0xC00000000 then 0 else s.memByte a)) ∧
    (s.pw.teardown = some 2 → ∃ t, Machine.step s = .next t ∧ t.pw = { s.pw with teardown := some 3 } ∧ t.mem = [] ∧
      t.ctxs = [] ∧ t.engines = [] ∧ t.clk.tbRun = false ∧ t.paths = [])) ∧
  (∀ s : State, s.pw.teardown.isSome = true → s.attic.queue = [] → s.attic.pendSet = none → s.pw.pendSafe = none →
    s.obj 0xB001 2 &&& s.obj 0xB001 1 = 0 → Answers (.teardownDone) s (fun t => t.pw.mode = .parked ∧ t.pw.prev = s.pw.mode ∧
      t.pw.teardown = none ∧ OutputsOff t ∧ t.mem = [] ∧ t.ctxs = [] ∧ t.paths = [(0x01, PathState.fresh)] ∧
      t.clk.tbRun = false ∧ t.journal = s.journal ∧ t.attic.history = s.attic.history))

/-- The start-up steps of WAKING: power, clocks, self-tests, the cellar trained and zeroed outside the staging window: R41, R45, R82, R83, R89, R90, R91, R104, R187, R193, R516. -/
def Obligations.StartUpStepsRunInOrder : Prop :=
  (∀ s : State, s.pw.mode = .waking → s.su.coreOn = false →
    Answers (.coreDomainsPowered) s (fun t => t.obj 0xB030 2 = (if s.objB 0xB030 5 then s.obj 0xB030 2 else s.pw.avsSet) ∧
      (∀ i j c, okey i j c ≠ okey 0xB030 2 0 → t.obj i j c = s.obj i j c) ∧
      t = { s with objs := t.objs, su := { s.su with coreOn := true } })) ∧
  (∀ s : State, s.pw.mode = .waking → s.su.coreOn = true → s.su.pllOn = false → Answers (.pllLock) s (fun t =>
    t.su.pllOn = true ∧ t.clk.tbRun = true ∧ t.clk.tb = s.clk.rtc * 30517578125 / 1000000 * 2 ^ 40 ∧ t.clk.ticks = 0 ∧
    t.obj 0x2001 8 = 1000 ∧ t.pw.mode = .waking ∧ SameMemory s t ∧
    (s.obj 0x8001 2 = 0xFF → s.pw.pendSafe = none → s.pw.teardown = none → t.pw.pendSafe = some (0x0E, 0)))) ∧
  (∀ s : State, s.pw.mode.awake = true → s.su.pllOn = true → s.obj 0x8001 2 ≠ 0xFF →
    (s.pw.mode = .waking → s.pw.pendSafe = none) → s.su.pcieUp = false →
    Answers (.pcieLinkTrained) s (fun t => t.su.pcieUp = true ∧ t.path 0x10 = PathState.fresh ∧
      (∀ p, p ≠ 0x10 → t.path p = s.path p) ∧ t.objs = s.objs ∧ SameMemory s t)) ∧
  (∀ s : State, s.startupRuns = true →
    (s.su.keepersTested = false → Answers (.keeperLbistDone true true) s (fun t => t.su.keepersTested = true ∧ SameMemory s t)) ∧
    (s.su.keepersTested = false → s.pw.teardown = none → ∀ a b : Bool, a = false ∨ b = false →
      Answers (.keeperLbistDone a b) s (Detects 0x0E s)) ∧
    (s.su.cellarOn = false → s.pw.safeLatch = false → Answers (.cellarTrainingDone true) s (fun t => t.su.cellarOn = true ∧
      t.su.window = some (s.su.wakeAt + 875000) ∧ t.obj 0x2050 2 = 1 ∧ SameMemory s t)) ∧
    (s.su.cellarOn = false → s.su.trainFails = 0 → Answers (.cellarTrainingDone false) s (fun t =>
      t = { s with su := { s.su with trainFails := 1 } })) ∧
    (s.su.cellarOn = false → s.su.trainFails = 1 → s.pw.teardown = none →
      Answers (.cellarTrainingDone false) s (Detects 0x0E s)) ∧
    (s.su.enginesTested = false → s.sched.jobs = [] → ∀ l m : BitVec 48, Answers (.engineLbistDone l m) s (fun t =>
      t.su.enginesTested = true ∧ SameMemory s t ∧
      ∀ e : Fin 48, t.outOfService e.val = (s.outOfService e.val || l.getLsbD e.val || m.getLsbD e.val))) ∧
    (s.su.cellarOn = true → s.su.zeroed = false → s.pw.safeLatch = false → Answers (.cellarZeroed) s (fun t =>
      t.su.zeroed = true ∧ t.objs = s.objs ∧
      ∀ a, t.memByte a = if a < 0xBF0000000 then 0 else s.memByte a))) ∧
  (∀ s : State, s.pw.mode = .handover → s.su.toDrive = true → s.su.enginesTested = false → s.sched.jobs = [] →
    ∀ l m : BitVec 48, Answers (.engineLbistDone l m) s (fun t => t.su.enginesTested = true ∧ t.pw.mode = .handover ∧
      ∀ e : Fin 48, t.outOfService e.val = (s.outOfService e.val || l.getLsbD e.val || m.getLsbD e.val)))

/-- A delivery is checked, placed and shown; the start-up and the hand-over end in their states: R50, R82, R87, R88, R89, R90, R91, R92, R314, R355, R429. -/
def Obligations.ImagesAreCheckedAndPlaced : Prop :=
  (∀ (s : State) (d : Nat), s.su.window = some d → s.pw.pendSafe = none → s.obj 0x2050 5 + 1 < s.su.boot.attempts →
    s.su.boot.attempts < 256 → Answers (.deliveryDeadline) s (fun t => t.obj 0x2050 2 = 0x16 ∧
      t.obj 0x2050 5 = s.obj 0x2050 5 + 1 ∧ t.su.window = some (s.now + 875000) ∧ SameMemory s t)) ∧
  (∀ (s : State) (len : Nat), s.su.checking = some len →
    (s.imageCode len = 0 → Answers (.imageCheckDone) s (fun t => t.su.placing = true ∧
      t.su.checking = none ∧ t.su.imageLen = len ∧ t.obj 0x2050 2 = 3 ∧ SameMemory s t)) ∧
    (s.imageCode len ≠ 0 → s.obj 0x2050 5 + 1 < s.su.boot.attempts → s.su.boot.attempts < 256 →
      Answers (.imageCheckDone) s (fun t => t.obj 0x2050 2 = s.imageCode len ∧ t.su.placing = false ∧
        t.su.window = some (s.now + 875000) ∧ SameMemory s t))) ∧
  (∀ (s : State), s.su.placing = true → (s.pw.mode = .waking → s.su.zeroed = true) →
    let b := s.delivered s.su.imageLen
    (s.configure b ≠ none → Answers (.sectionsPlaced) s (fun t => ∃ v : State,
      v = ((s.placeSections b fun k => k != 5).imageLoaded b) ∧
      t = (if s.pw.mode = .handover then v else (v.configure b).getD v).keepersBoot ∧ v.su.loaded = true ∧ v.su.placing = false ∧
      v.obj 0x2050 2 = 4 ∧ v.obj 0x2050 3 = field b 16 4)) ∧
    (s.configure b = none → s.obj 0x2050 5 + 1 < s.su.boot.attempts → s.su.boot.attempts < 256 →
      Answers (.sectionsPlaced) s (fun t => t.obj 0x2050 2 = 0x15 ∧ t.su.placing = false ∧
        t.su.window = some (s.now + 875000) ∧ SameMemory s t))) ∧
  (∀ s : State, s.startupRuns = true → s.pw.safeLatch = false → s.su.complete = false → s.selfTested = true →
    s.su.zeroed = true → s.su.placing = false → s.su.loaded = true → s.mayMove = true →
    (s.su.boot.bench = true → Answers (.startupComplete) s (fun t => t.pw.mode = .bench ∧ t.pw.prev = .waking)) ∧
    (s.su.boot.bench = false → s.pw.benchWake = false → s.pw.ign = true → Answers (.startupComplete) s (fun t =>
      t.pw.mode = .drive ∧ t.pw.prev = .waking)) ∧
    (s.su.boot.bench = false → s.pw.benchWake = false → s.pw.ign = false → s.depotReady = true →
      Answers (.startupComplete) s (fun t => t.pw.mode = .depot ∧ t.pw.prev = .waking)) ∧
    (s.su.boot.bench = false → s.pw.benchWake = false → s.pw.ign = false → s.depotReady = false →
      Answers (.startupComplete) s (fun t => t.pw.mode = .waking ∧
        t.pw.readyHold = some (s.now + 1000 * s.obj 0xB001 4) ∧ t.obj 0xB000 3 = 3 ∧ SameMemory s t))) ∧
  (∀ s : State, s.su.freshRun = true →
    (s.residentOk = true → s.su.benchRestricted = false → Answers (.residentImageCheckDone) s (fun t =>
      t = { s with su := { s.su with freshRun := false, freshOk := true, loaded := true } })) ∧
    (s.residentOk = false → s.pw.mode = .handover → Answers (.residentImageCheckDone) s (fun t => t.su.freshRun = false ∧
      t.su.loaded = false ∧ t.obj 0x2050 2 = 0x17 ∧ t.obj 0x2050 5 = 0 ∧ t.su.window = some (s.now + 875000) ∧
      SameMemory s t)) ∧
    (s.residentOk = false → s.pw.mode ≠ .handover → Answers (.residentImageCheckDone) s (fun t => t.su.freshRun = false ∧
      t.su.loaded = false ∧ t.obj 0x2050 2 = 0x17 ∧ t.su.benchRestricted = true ∧ t.saf.keepersHeld = true ∧ SameMemory s t))) ∧
  (∀ s : State, s.pw.mode = .handover → s.obj 0x6100 0x0A = 5 →
    let wiped (t : State) : Prop := t.pw.mode = .handover ∧ t.obj 0x6100 0x0A = 0 ∧ t.depot.outbox = [] ∧ t.depot.pulls = [] ∧
      (if s.pw.ign = true then t.su.toDrive = true ∧ t.su.enginesTested = false ∧ t.su.freshRun = true ∧ t.obj 0xB000 3 = 2
       else t.pw.teardown = some 0 ∧ t.obj 0xB000 3 = 4)
    Answers (.handoverWipeDone) s wiped ∧ Answers (.exitWipeDone) s wiped) ∧
  (∀ (s u : State), s.pw.mode = .handover → s.su.toDrive = true → s.su.enginesTested = true → s.su.freshOk = true →
    s.su.loaded = true → s.su.placing = false → s.saf.rejoinAt = none → s.saf.keepersHeld = false → s.mayMove = true →
    s.configure (s.staged s.su.imageLen) = some u →
    Answers (.handoverComplete) s (fun t => ∃ v : State, v = { u.clearSlots with su := { u.su with toDrive := false } } ∧
      t = v.enterDrive ∧ ∀ n : Fin 4096, v.memNat (slotAddr n.val) 8 = 0))

/-- An object write is refused with the first code that applies, waits for the attic, or takes effect and is journaled: R12, R13, R95, R98, R101, R106, R107, R108, R111, R114, R119, R120. -/
def Obligations.ObjectWritesAreJudgedInOrder : Prop :=
  (∀ (p : Path) (idx : BitVec 16) (sub : Byte) (data : List Byte) (enables : Bool) (s : State),
    let i := idx.toNat
    let j := sub.toNat
    let r := rowOf i j
    let ch := (s.path p.code).channel r.sel
    Serving p s → p.isPcie = false → i ≠ 0x2020 →
    (let code : Nat :=
      if indexExists i = false then 0x06020000
      else if (objRow? i j).isNone = true ∧ j ≠ 0 then 0x06090011
      else if r.acc ≠ .wo ∧ r.acc ≠ .rw then 0x06010002
      else if r.ty.isDomain = true then 0x06010000
      else if data.length ≠ r.ty.size then 0x06070010
      else if r.sObj = true ∧ s.pw.mode ≠ .bench then 0x08000022
      else if r.sObj = true ∧ s.windowOpen p.code = false then 0x08000021
      else if r.admits (leVal data) = false then 0x06090030
      else s.chapterCheck p.code i j (chanKey ch) (leVal data)
    code ≠ 0 → Answers (.objectWrite p idx sub ⟨data, enables⟩) s (Refuses p i j code s)) ∧
    (s.judge p.code i j ch data false false = 0 → r.cls ≠ .path → ¬(i = 0x2010 ∧ j = 1) → ¬(i = 0xB000 ∧ j = 1) →
      (r.cls = .attic → Answers (.objectWrite p idx sub ⟨data, enables⟩) s (fun t =>
        t.attic.queue = s.attic.queue ++ [AtticWrite.mk p.code i j ch data s.pw.mode.code false true] ∧
        t.out = s.out ∧ t.journal = s.journal ∧ SameObjs [] s t ∧ SameMemory s t)) ∧
      (r.cls ≠ .attic → r.acc = .rw → i ≠ 0x4030 → ¬(i = 0x1014 ∧ j = 1) → ¬(0x1800 ≤ i ∧ i ≤ 0x1807 ∧ j = 1) →
        ¬(i = 0x9001 ∧ s.gptpHolds = true) →
        (∀ (u : State) (old : Nat), u.chapterEffect p.code i j (chanKey ch) old (leVal data) = u) →
        Answers (.objectWrite p idx sub ⟨data, enables⟩) s (fun t => Acked p 0 [] t ∧ t.obj i j (chanKey ch) = leVal data ∧
          Journaled p.code i j ch (s.oldValue p.code i j ch) (leVal data) s t ∧
          SameObjs [okey i j (chanKey ch)] s t ∧ SameMemory s t)))) ∧
  (∀ (p : Path) (idx : BitVec 16) (sub : Byte) (data : List Byte) (enables : Bool) (s : State),
    let i := idx.toNat
    let j := sub.toNat
    let r := rowOf i j
    let n := r.ty.size
    let extends_ : Prop := ∀ b ∈ data.drop n, b = match r.ty with
      | .i _ => if bit (leVal (data.take n)) (8 * n - 1) then 0xFF else 0
      | _ => 0
    Serving p s → p.isPcie = true → existsCode i j = 0 →
    (r.ty.isDomain = true → Answers (.objectWrite p idx sub ⟨data, enables⟩) s (Refuses p i j 0x06010000 s)) ∧
    (r.ty.isDomain = false → enables = false ∨ data.length ≠ roundUp n 4 →
      Answers (.objectWrite p idx sub ⟨data, enables⟩) s (Refuses p i j 0x06070010 s)) ∧
    (r.ty.isDomain = false → enables = true → data.length = roundUp n 4 → ¬extends_ →
      Answers (.objectWrite p idx sub ⟨data, enables⟩) s (Refuses p i j 0x06090030 s)) ∧
    (r.ty.isDomain = false → enables = true → data.length = roundUp n 4 → extends_ →
      Answers (.objectWrite p idx sub ⟨data, enables⟩) s (fun t => t = s.dictAccess p.code i j (data.take n))))

/-- A read answers the value; a clearing read sets the default in the same step; the latches and the kick: R98, R99, R106, R107, R108, R122, R195, R378, R415. -/
def Obligations.ReadsAnswerAndClear : Prop :=
  (∀ (p : Path) (idx : BitVec 16) (sub : Byte) (dwords : Nat) (enables : Bool) (s : State),
    let i := idx.toNat
    let j := sub.toNat
    let r := rowOf i j
    Serving p s → p.isPcie = true → existsCode i j = 0 → r.ty.isDomain = false →
    enables = false ∨ 4 * dwords ≠ roundUp r.ty.size 4 →
    Answers (.clearingRead p idx ⟨sub, dwords, enables⟩) s (fun t => Acked p 0x06070010 (List.replicate (4 * dwords) 0xFF) t ∧
      t.path p.code = (s.path p.code).noteRefusal i j 0x06070010 ∧ SameObjs [] s t ∧ t.journal = s.journal ∧ SameMemory s t)) ∧
  (∀ (p : Path) (idx : BitVec 16) (sub : Byte) (dwords : Nat) (enables : Bool) (v : List Byte) (s : State),
    let i := idx.toNat
    let j := sub.toNat
    let r := rowOf i j
    let ch := (s.path p.code).channel r.sel
    let extension : Byte := match r.ty with
      | .i _ => if bit (leVal (v.take r.ty.size)) (8 * r.ty.size - 1) then 0xFF else 0
      | _ => 0
    let b := if p.isPcie then v ++ List.replicate (roundUp r.ty.size 4 - v.length) extension else v
    Serving p s → i ≠ 0x2020 → s.peek p.code i j ch false = .inr v →
    (p.isPcie = true → enables = true ∧ 4 * dwords = roundUp r.ty.size 4) →
    (r.acc ≠ .rc → Answers (.clearingRead p idx ⟨sub, dwords, enables⟩) s (fun t => Acked p 0 b t ∧ SameObjs [] s t ∧ t.journal = s.journal ∧
      SameMemory s t)) ∧
    (r.acc = .rc → i = 0x2021 → Answers (.clearingRead p idx ⟨sub, dwords, enables⟩) s (fun t => Acked p 0 b t ∧
      t.path p.code = { s.path p.code with refusals := 0 } ∧ SameObjs [] s t ∧ SameMemory s t)) ∧
    (r.acc = .rc → i ≠ 0x2021 → i ≠ 0x4030 → i ≠ 0x5100 → Answers (.clearingRead p idx ⟨sub, dwords, enables⟩) s (fun t => Acked p 0 b t ∧
      t.obj i j (chanKey ch) = objDefault i j (chanKey ch) ∧ SameObjs [okey i j (chanKey ch)] s t ∧ t.journal = s.journal ∧
      SameMemory s t))) ∧
  (∀ (p : Path) (s : State), Serving p s →
    Answers (.timeBaseRead p) s (fun t => Acked p 0 (leBytes 8 s.nowNs) t ∧
      t.path p.code = { s.path p.code with tbFrac := s.clk.tb / 2 ^ 24 % 2 ^ 16 } ∧ SameObjs [] s t ∧ SameMemory s t)) ∧
  (∀ (p : Path) (s : State), Serving p s →
    Answers (.watchdogKick p) s (fun t => Acked p 0 (leBytes 4 ((s.now - s.recov.kickAt) / 1000 % 2 ^ 32)) t ∧
      t.recov.kickAt = s.now ∧ t.recov.watchdog = s.recov.watchdog.map (fun _ => s.now + 1000 * s.obj 0x5100 2) ∧
      SameObjs [okey 0x5100 7 0, okey 0x5100 8 0] s t ∧ SameMemory s t)) ∧
  (∀ (p : Path) (k : Byte) (s : State), Serving p s →
    (k.toNat < s.journal.entries.length → Answers (.journalLatch p k) s (fun t => Acked p 0 [] t ∧
      t.path p.code = { s.path p.code with jIndex := k.toNat, jLatch := s.journal.entries[k.toNat]? } ∧
      t.journal = s.journal ∧ SameObjs [] s t ∧ SameMemory s t)) ∧
    (s.journal.entries.length ≤ k.toNat →
      Answers (.journalLatch p k) s (Refuses p 0x2600 3 0x08000024 s))) ∧
  (∀ (p : Path) (k : BitVec 16) (s : State), Serving p s →
    (511 < k.toNat → Answers (.sampleRecordLatch p k) s (Refuses p 0x7040 7 0x06090030 s)) ∧
    (k.toNat ≤ 511 → Answers (.sampleRecordLatch p k) s (fun t => Acked p 0 [] t ∧
      t.path p.code = { s.path p.code with smpIndex := k.toNat, smpLatch := s.smp.records.getD k.toNat [] } ∧
      t.smp = s.smp ∧ SameObjs [] s t ∧ SameMemory s t)))

/-- Two keys within 64 ticks open a window; any other key ends the sequence; a sealed record opens it by itself: R112, R113, R114, R115, R117, R118, R120. -/
def Obligations.UnlockNeedsBothKeysInTime : Prop :=
  (∀ (p : Path) (s : State), Delivered p s → s.serveCode p.code 0x2010 = 0 →
    let key1 (q : State → Prop) : Prop := Answers (.unlockFirstKey p) s q
    let key2 (q : State → Prop) : Prop := Answers (.unlockSecondKey p) s q
    let failed (code : Nat) (t : State) : Prop := Acked p code [] t ∧
      t.path p.code = { (s.path p.code).noteRefusal 0x2010 1 code with armed := none } ∧
      t.obj 0x2010 6 = (s.obj 0x2010 6 + 1) % 2 ^ 32 ∧ t.journal = s.journal ∧ SameObjs [okey 0x2010 6 0] s t ∧ SameMemory s t
    let none_ : State → Prop := failed 0x06090030
    (s.pw.mode = .parked ∨ s.pw.mode = .bench ∨ s.pw.mode = .safe →
      ((s.path p.code).armed = none → key1 (fun t => Acked p 0 [] t ∧ t.path p.code = { s.path p.code with armed := some s.now } ∧
          Journaled p.code 0x2010 1 0xFFFF 0 0x5A1D s t ∧ SameObjs [] s t ∧ SameMemory s t) ∧ key2 none_) ∧
      (∀ a, (s.path p.code).armed = some a → key1 none_ ∧
        (s.now ≤ a + 64 → key2 (fun t => Acked p 0 [] t ∧
          t.path p.code = { s.path p.code with armed := none, opened := some s.now } ∧
          t.obj 0x2010 5 = (s.obj 0x2010 5 + 1) % 2 ^ 32 ∧ Journaled p.code 0x2010 1 0xFFFF 0 0xE2C7 s t ∧
          SameObjs [okey 0x2010 5 0] s t ∧ SameMemory s t)) ∧
        (a + 64 < s.now → key2 none_))) ∧
    (s.pw.mode ≠ .parked → s.pw.mode ≠ .bench → s.pw.mode ≠ .safe →
      key1 (failed 0x08000022) ∧ key2 (failed 0x08000022))) ∧
  (∀ (p : Path) (s : State), s.live p.code = true → Answers (.unlockWindowClose p) s (fun t =>
    t = s.modPath p.code fun q => { q with opened := none })) ∧
  (∀ (p : Path) (g : Staged) (s : State), (s.path p.code).staged = some g →
    Answers (.stagedDownloadTimeout p) s (fun t => t.objs = s.objs ∧ t.journal = s.journal ∧ t.attic = s.attic ∧ t.out = s.out ∧
      t.path p.code = { (s.path p.code).noteRefusal g.idx g.sub 0x05040000 with staged := none })) ∧
  (∀ (p : Path) (rec : List Byte) (s : State), Delivered p s → s.serveCode p.code 0x2010 = 0 →
    (s.pw.mode = .parked ∨ s.pw.mode = .bench) → rec.length = 24 →
    let idx := field rec 4 2
    let sub := field rec 6 1
    let len := field rec 7 1
    let ch := field rec 8 2
    let value := slice rec 16 len
    (field rec 0 2 ≠ 0x5A1D ∨ field rec 2 2 ≠ 0xE2C7 → Answers (.sealedWrite p rec) s (fun t => Acked p 0x06090030 [] t ∧
      t.path p.code = { (s.path p.code).noteRefusal 0x2010 2 0x06090030 with armed := none } ∧ t.obj 0x2010 6 = (s.obj 0x2010 6 + 1) % 2 ^ 32 ∧
      t.journal = s.journal ∧ t.attic = s.attic ∧ SameMemory s t)) ∧
    (field rec 0 2 = 0x5A1D → field rec 2 2 = 0xE2C7 → field rec 10 6 = 0 → 1 ≤ len → len ≤ 8 →
      s.judge p.code idx sub ch value false true = 0 → channelFits (rowOf idx sub).sel ch = true →
      (rowOf idx sub).cls = .attic → idx ≠ 0x2010 → idx ≠ 0xB000 → idx ≠ 0x8000 →
      Answers (.sealedWrite p rec) s (fun t =>
        t.attic.queue = s.attic.queue ++ [AtticWrite.mk p.code idx sub ch value s.pw.mode.code true true] ∧
        t.path p.code = { s.path p.code with armed := none, opened := some s.now } ∧ t.out = s.out ∧
        t.obj 0x2010 5 = (s.obj 0x2010 5 + 1) % 2 ^ 32 ∧ SameMemory s t)))

/-- The mailbox presents an upload segment by segment, collects a download, and reports how a transfer ends: R101, R109, R110, R111, R502. -/
def Obligations.MailboxMovesSegments : Prop :=
  (∀ (p : Path) (s : State), Delivered p s → s.serveCode p.code 0x2020 = 0 → (s.path p.code).armed = none →
    let q := s.path p.code
    let i := q.mbTarget / 256 % 2 ^ 16
    let j := q.mbTarget % 256
    let ch := q.channel (rowOf i j).sel
    let m (t : State) : PathState := t.path p.code
    let calm (t : State) : Prop := t.ctxs = s.ctxs ∧ SameMemory s t
    let bad (code : Nat) (t : State) : Prop := Acked p code [] t ∧ (m t).refusal = code ∧ t.journal = s.journal ∧
      SameObjs [] s t ∧ calm t
    let fails (code : Nat) (t : State) : Prop := Acked p 0 [] t ∧ (m t).mailbox = none ∧ (m t).mbStatus = 0x0F ∧
      (m t).mbFail = code ∧ (m t).refusal = code ∧ t.journal = s.journal ∧ calm t
    let shows (v : List Byte) (off : Nat) (t : State) : Prop := Acked p 0 [] t ∧ (m t).mailbox.isSome = true ∧
      (m t).mbStatus = 1 ∧ (m t).mbTotal = v.length ∧ (m t).mbOffset = off ∧ (m t).mbSeg = min 256 (v.length - off) ∧
      (m t).mbData = padTo 256 (slice v off (min 256 (v.length - off))) ∧
      (m t).mbCrc = crc32c (v.take (off + min 256 (v.length - off))) ∧ t.journal = s.journal ∧ calm t
    (q.busyMailbox = true → Answers (.mailboxUploadStart p) s (bad 0x08000022) ∧
      Answers (.mailboxDownloadStart p) s (bad 0x08000022)) ∧
    (q.busyMailbox = false →
      (∀ c, s.peek p.code i j ch true = .inl c → Answers (.mailboxUploadStart p) s (fails c)) ∧
      (∀ v, s.peek p.code i j ch true = .inr v → (rowOf i j).acc ≠ .rc → Answers (.mailboxUploadStart p) s (shows v 0)) ∧
      (s.downloadCode p.code i j q.mbTotal = 0 → Answers (.mailboxDownloadStart p) s (fun t => Acked p 0 [] t ∧
        (m t).mbStatus = 2 ∧ (m t).mbOffset = 0 ∧ (m t).mbCrc = 0 ∧
        (m t).mailbox.map (fun x => (x.upload, x.idx, x.sub, x.total, x.data)) = some (false, i, j, q.mbTotal, []) ∧
        SameObjs [] s t ∧ t.journal = s.journal ∧ calm t)) ∧
      (s.downloadCode p.code i j q.mbTotal ≠ 0 →
        Answers (.mailboxDownloadStart p) s (fails (s.downloadCode p.code i j q.mbTotal)))) ∧
    (q.mailbox = none → Answers (.mailboxNextSegment p) s (bad 0x08000022) ∧ Answers (.mailboxCommit p) s (bad 0x08000022) ∧
      (∀ len, Answers (.mailboxSegmentWrite p len) s (bad 0x08000022)) ∧
      Answers (.mailboxAbort p) s (fun t => Acked p 0 [] t ∧ m t = q ∧ SameObjs [] s t ∧ calm t)) ∧
    (∀ x, q.mailbox = some x →
      Answers (.mailboxAbort p) s (fun t => Acked p 0 [] t ∧ (m t).mailbox = none ∧ (m t).mbStatus = 0x0F ∧
        (m t).mbFail = 0x05040000 ∧ t.journal = s.journal ∧ calm t)) ∧
    (∀ x, q.mailbox = some x → x.upload = true → s.xferCode p.code x = 0 → x.total = x.data.length →
      (x.total ≤ x.offset + x.seg → Answers (.mailboxNextSegment p) s (fun t => Acked p 0 [] t ∧ (m t).mailbox = none ∧
        (m t).mbStatus = 3 ∧ SameObjs [] s t ∧ calm t)) ∧
      (x.offset + x.seg < x.total → Answers (.mailboxNextSegment p) s (shows x.data (x.offset + x.seg)))) ∧
    (∀ x, q.mailbox = some x → x.upload = false → Answers (.mailboxNextSegment p) s (bad 0x08000022)) ∧
    (∀ x, q.mailbox = some x → x.upload = true → Answers (.mailboxCommit p) s (bad 0x08000022) ∧
      (∀ len, Answers (.mailboxSegmentWrite p len) s (bad 0x08000022))) ∧
    (∀ x, q.mailbox = some x → s.xferCode p.code x ≠ 0 →
      (x.upload = true → Answers (.mailboxNextSegment p) s (fails (s.xferCode p.code x))) ∧
      (x.upload = false → ∀ len, Answers (.mailboxSegmentWrite p len) s (fails (s.xferCode p.code x)))) ∧
    (∀ (x : Xfer) (len : BitVec 16), q.mailbox = some x → x.upload = false → s.xferCode p.code x = 0 →
      (len.toNat = 0 ∨ 256 < len.toNat → Answers (.mailboxSegmentWrite p len) s (bad 0x06090030)) ∧
      (1 ≤ len.toNat → len.toNat ≤ 256 → x.total < x.data.length + len.toNat →
        Answers (.mailboxSegmentWrite p len) s (bad 0x06070010)) ∧
      (1 ≤ len.toNat → len.toNat ≤ 256 → x.data.length + len.toNat ≤ x.total →
        Answers (.mailboxSegmentWrite p len) s (fun t =>
          let d := x.data ++ (padTo 256 q.mbData).take len.toNat
          Acked p 0 [] t ∧ (m t).mailbox.map (fun y => y.data) = some d ∧ (m t).mbOffset = d.length ∧
          (m t).mbSeg = len.toNat ∧ (m t).mbCrc = crc32c d ∧ SameObjs [] s t ∧ calm t))) ∧
    (∀ x, q.mailbox = some x → x.upload = false → x.data.length ≠ x.total → Answers (.mailboxCommit p) s (bad 0x08000022)) ∧
    (∀ x, q.mailbox = some x → x.upload = false → x.data.length = x.total →
      let u := (s.mbTouch p.code).modPath p.code fun y => { y with mailbox := none }
      let r := u.commitXfer p.code x false
      (r.1 ≠ 0 → Answers (.mailboxCommit p) s (fun t => Acked p 0 [] t ∧ (m t).mbStatus = 0x0F ∧ (m t).mbFail = r.1 ∧
        (m t).refusal = r.1 ∧ t.journal = r.2.2.journal ∧ t.mem = r.2.2.mem)) ∧
      (r.1 = 0 → Answers (.mailboxCommit p) s (fun t => Acked p 0 [] t ∧ t.journal = r.2.2.journal ∧ t.mem = r.2.2.mem ∧
        (m t).mbStatus = if r.2.1 then (r.2.2.path p.code).mbStatus else 3)))) ∧
  (∀ (p : Path) (x : Xfer) (s : State), s.holds p.code = false → (s.path p.code).mailbox = some x →
    Answers (.mailboxTimeout p) s (fun t => t.path p.code = (s.path p.code).failXfer x.idx x.sub 0x05040000 ∧
      (∀ k, k ≠ p.code → t.path k = s.path k) ∧ t.objs = s.objs ∧ t.out = s.out ∧ t.journal = s.journal ∧ SameMemory s t))

/-- A state request that R54 accepts moves the block and is journaled; another shows its status and is refused: R46, R52, R54, R56, R66, R67, R120, R355. -/
def Obligations.StateRequestsMoveTheBlock : Prop :=
  (∀ (p : Path) (s : State), Delivered p s → s.serveCode p.code 0xB000 = 0 → (s.path p.code).armed = none →
    let refused (st : Nat) (t : State) : Prop := Acked p 0x08000022 [] t ∧ t.obj 0xB000 2 = st ∧ t.pw = s.pw ∧
      t.journal = s.journal ∧ t.ctxs = s.ctxs ∧ SameObjs [okey 0xB000 2 0] s t ∧ SameMemory s t
    (s.requestStatus p.code 1 false ≠ 1 → Answers (.requestParked p) s (refused (s.requestStatus p.code 1 false))) ∧
    (s.requestStatus p.code 2 false ≠ 1 → Answers (.requestWake p) s (refused (s.requestStatus p.code 2 false))) ∧
    (s.requestStatus p.code 3 false ≠ 1 → Answers (.requestBench p) s (refused (s.requestStatus p.code 3 false))) ∧
    (s.requestStatus p.code 4 false ≠ 1 → Answers (.requestDrive p) s (refused (s.requestStatus p.code 4 false))) ∧
    (s.pw.mode = .bench → s.transitionBusy = false → Answers (.requestParked p) s (fun t => Acked p 0 [] t ∧
      t.obj 0xB000 2 = 1 ∧ Journaled p.code 0xB000 1 0xFFFF 0 1 s t ∧ TearsDown s t)) ∧
    (s.pw.mode = .parked → s.transitionBusy = false → Wakeable 4 s →
      let up (bench : Bool) (t : State) : Prop := Acked p 0 [] t ∧ Journaled p.code 0xB000 1 0xFFFF 0 (if bench then 3 else 2) s t ∧
        t.pw.mode = .waking ∧ t.pw.prev = .parked ∧ t.obj 0xB001 3 = 4 ∧ t.pw.benchWake = (bench || s.pw.benchWake) ∧
        t.su.boot = s.readBoot ∧ t.pw.refclkReq = true ∧ SameMemory s t ∧ t.attic = s.attic
      Answers (.requestWake p) s (up false) ∧
      (s.windowOpen p.code = true → Answers (.requestBench p) s (up true))) ∧
    (s.pw.mode = .safe → s.transitionBusy = false → s.windowOpen p.code = true →
      Answers (.requestBench p) s (fun t => Acked p 0 [] t ∧ Journaled p.code 0xB000 1 0xFFFF 0 3 s t ∧ t.pw.mode = .bench ∧
        t.pw.safeLatch = false ∧ t.su.benchRestricted = true ∧ t.su.freshRun = true ∧ t.saf.keepersHeld = true)) ∧
    (s.pw.mode = .bench → s.transitionBusy = false → s.pw.ign = true → s.obj 0x2001 5 ≠ 2 → s.obj 0x5010 2 ≠ 1 →
      s.obj 0x5020 1 ≠ 0 → s.su.loaded = true → s.obj 0x5050 2 = 0 → s.obj 0x5050 3 = 0 →
      Answers (.requestDrive p) s (fun t => Acked p 0 [] t ∧ t.obj 0xB000 2 = 1 ∧ Journaled p.code 0xB000 1 0xFFFF 0 4 s t ∧
        t.pw.mode = .drive ∧ t.pw.prev = .bench ∧ t.obj 0x2001 8 = 1000 ∧ t.obj 0xB000 3 = 0 ∧ SameMemory s t))) ∧
  (∀ (p : Path) (s : State), s.pw.mode = .safe → s.windowOpen p.code = false → s.requestStatus p.code 3 false = 0x11) ∧
  (∀ (p : Path) (s : State), s.pw.mode = .bench → s.pw.ign = false → s.requestStatus p.code 4 false = 0x12) ∧
  (∀ (p : Path) (s : State), s.pw.mode = .drive →
    ∀ v, s.requestStatus p.code v false = 0x10)

/-- The writes that load, release, enable, disable, invalidate, move, flag, split and rejoin do so and are journaled: R89, R120, R142, R161, R163, R240, R316, R329, R330, R358, R359, R360. -/
def Obligations.ControlWritesActOnTheirUnits : Prop :=
  (∀ (p : Path) (s : State), Serving p s →
    let q := s.path p.code
    let ok (i j old v : Nat) (sel : Nat) (t : State) : Prop := Acked p 0 [] t ∧ Journaled p.code i j sel old v s t
    let none_ : Nat := 0xFFFF
    (∀ len : BitVec 32,
      (s.lengthOk = true → Answers (.deliveredLength p len) s (fun t => ok 0x2050 1 0 len.toNat none_ t ∧
        t.su.checking = some len.toNat ∧ t.su.window = none ∧ t.obj 0x2050 2 = 2 ∧
        (∀ n, n ≤ 0x10000000 → t.delivered n = s.staged n) ∧ SameMemory s t)) ∧
      (s.lengthOk = false → Answers (.deliveredLength p len) s (Refuses p 0x2050 1 0x08000022 s))) ∧
    (∀ port : Fin 2, Answers (.releaseBlocks p port) s (fun t => ok (0x1F90 + port.val) 0x19 0 1 none_ t ∧
      (∀ k ∈ blockSlots, t.obj (0x1F90 + port.val) k = 0xFFFFFFFF) ∧ t.obj (0x1F90 + port.val) 0x0D = 0 ∧
      (t.port port.val).collisions = [] ∧ SameMemory s t)) ∧
    (s.objB 0x3000 1 q.selStream = false → s.enableOk q.selStream = false →
      Answers (.streamEnable p) s (Refuses p 0x3000 1 0x06090030 s)) ∧
    (s.obj 0x3000 1 q.selStream = 0 → s.enableOk q.selStream = true → Answers (.streamEnable p) s (fun t =>
      ok 0x3000 1 0 1 q.selStream t ∧ t.obj 0x3000 1 q.selStream = 1 ∧ t.obj 0x3002 1 q.selStream = 1 ∧
      ∃ x, t.seq.sluices = s.seq.sluices ++ [x] ∧ (x.stream = q.selStream ∧ x.on = true ∧ x.strips = [] ∧ x.filling = none))) ∧
    (s.pw.mode = .drive → s.objB 0x3001 1 q.selStream = true →
      Answers (.streamDisable p) s (Refuses p 0x3000 1 0x08000022 s)) ∧
    (¬(s.pw.mode = .drive ∧ s.objB 0x3001 1 q.selStream = true) → s.obj 0x3000 1 q.selStream = 1 →
      (s.sluice? q.selStream).isSome = true → q.selStream < 96 → Answers (.streamDisable p) s (fun t =>
        ok 0x3000 1 1 0 q.selStream t ∧ t.obj 0x3000 1 q.selStream = 0 ∧ t.sluice? q.selStream = none ∧
        (t.obj 0x3002 1 q.selStream = 0 ∨ t.obj 0x3002 1 q.selStream = 5) ∧
        (∀ o ∈ t.seq.waiting, o.stream ≠ q.selStream) ∧ (∀ f ∈ t.seq.frames, f.stream ≠ q.selStream))) ∧
    (∀ v : Byte,
      (v.toNat ≤ 8 ∨ v.toNat = 0xFF → Answers (.translationInvalidate p v) s (fun t => ok 0x4802 1 0 v.toNat none_ t ∧
        t.obj 0x4802 2 = (s.obj 0x4802 2 + 1) % 2 ^ 32 ∧ SameObjs [okey 0x4802 2 0] s t ∧ SameMemory s t)) ∧
      (8 < v.toNat → v.toNat ≠ 0xFF → Answers (.translationInvalidate p v) s (Refuses p 0x4802 1 0x06090030 s))) ∧
    (s.obj 0x6000 1 q.selQueue = 0 →
      (s.descFree < s.obj 0x6000 6 q.selQueue ∨ (s.obj 0x6000 2 q.selQueue ≠ 0 ∧ s.obj 0x6000 3 q.selQueue < 2) ∨
        s.complRingOk q.selQueue = false → Answers (.queueEnable p) s (Refuses p 0x6000 1 0x06090030 s)) ∧
      (s.obj 0x6000 6 q.selQueue ≤ s.descFree → (s.obj 0x6000 2 q.selQueue = 0 ∨ 2 ≤ s.obj 0x6000 3 q.selQueue) →
        s.complRingOk q.selQueue = true → Answers (.queueEnable p) s (fun t => ok 0x6000 1 0 1 q.selQueue t ∧
          t.obj 0x6000 1 q.selQueue = 1 ∧ t.queue q.selQueue = QueueState.fresh ∧
          SameObjs [okey 0x6000 1 q.selQueue] s t ∧ SameMemory s t))) ∧
    (∀ (e : Fin 48) (part : Byte), part.toNat ≤ 8 →
      ((s.pw.mode ≠ .bench ∧ s.pw.mode ≠ .depot) ∨ s.inUse e.val ≠ [] →
        Answers (.enginePartitionMove p e part) s (Refuses p 0x6010 (e.val + 1) 0x08000022 s)) ∧
      ((s.pw.mode = .bench ∨ s.pw.mode = .depot) → s.inUse e.val = [] →
        Answers (.enginePartitionMove p e part) s (fun t =>
          ok 0x6010 (e.val + 1) (s.obj 0x6010 (e.val + 1)) part.toNat none_ t ∧ t.obj 0x6010 (e.val + 1) = part.toNat ∧
          (t.engine e.val).moving = (if s.pw.mode = .depot ∧ s.obj 0x6010 (e.val + 1) ≠ part.toNat
            then some ((s.engine e.val).moving.getD (s.obj 0x6010 (e.val + 1))) else (s.engine e.val).moving) ∧
          SameObjs [okey 0x6010 (e.val + 1) 0] s t ∧ SameMemory s t))) ∧
    Answers (.resetAllSlots p) s (fun t => ok 0x4810 8 0 1 none_ t ∧
      ∀ n : Fin 4096, bit (t.memNat (slotAddr n.val) 8) 49 =
        (bit (s.memNat (slotAddr n.val) 8) 49 || bit (s.memNat (slotAddr n.val) 8) 48)) ∧
    ((s.pw.mode = .bench ∨ s.pw.mode = .depot) → s.saf.splitAt = none → s.saf.rejoinAt = none → s.keepersSplit = false →
      Answers (.keeperSplitRequest p) s (fun t => ok 0x5010 1 (s.obj 0x5010 1) 1 none_ t ∧ t.obj 0x5010 1 = 1 ∧
        t.obj 0x5010 2 = 1 ∧ t.saf.splitAt = some s.now ∧ t.saf.ackA = false ∧ t.saf.ackB = false ∧ SameMemory s t)) ∧
    ((s.pw.mode = .bench ∨ s.pw.mode = .depot) → s.saf.rejoinAt = none →
      Answers (.keeperRejoinRequest p) s (fun t => ok 0x5010 1 (s.obj 0x5010 1) 0 none_ t ∧ t.obj 0x5010 1 = 0 ∧
        t.saf.rejoinAt.isSome = true ∧ t.su.freshRun = true ∧ t.su.freshOk = false)) ∧
    (s.pw.mode = .drive ∨ s.pw.mode = .handover →
      Answers (.keeperSplitRequest p) s (Refuses p 0x5010 1 0x08000022 s) ∧
      Answers (.keeperRejoinRequest p) s (Refuses p 0x5010 1 0x08000022 s) ∧
      Answers (.polderResetRequest p) s (Refuses p 0x4020 1 0x08000022 s)))

/-- Clears empty what they name; guests, the store and polder resets answer their writes; path resets touch paths alone: R72, R104, R123, R387, R404, R410, R415, R419, R424, R428, R438, R456. -/
def Obligations.ClearsGuestsStoresAndPathResets : Prop :=
  (∀ (p : Path) (s : State), Serving p s →
    let q := s.path p.code
    let ok (i j old v : Nat) (sel : Nat) (t : State) : Prop := Acked p 0 [] t ∧ Journaled p.code i j sel old v s t
    (q.selMonitor < 24 → Answers (.monitorClear p) s (fun t => ok 0x7000 0x0B 0 1 q.selMonitor t ∧
      (∀ k : Fin 5, t.obj 0x7001 (k.val + 1) q.selMonitor = objDefault 0x7001 (k.val + 1) q.selMonitor) ∧
      (∀ k : Fin 16, t.obj 0x7002 (k.val + 1) q.selMonitor = 0) ∧ t.mons = s.mons ∧ SameMemory s t ∧
      t.obj 0x7001 6 q.selMonitor = s.obj 0x7001 6 q.selMonitor ∧ t.obj 0x7001 8 q.selMonitor = s.obj 0x7001 8 q.selMonitor)) ∧
    Answers (.counterBankClear p) s (fun t => ok 0x4030 0x10 0 1 q.selEngine t ∧
      t.bank q.selEngine q.bank = { s.bank q.selEngine q.bank with cycle := 0, counts := List.replicate 6 0, overflow := 0 } ∧
      SameObjs [] s t ∧ SameMemory s t) ∧
    Answers (.sampleBufferClear p) s (fun t => ok 0x7040 6 0 1 0xFFFF t ∧ t.smp = { s.smp with records := [] } ∧
      SameObjs [] s t ∧ SameMemory s t) ∧
    (s.pw.mode = .bench ∨ s.pw.mode = .drive → Answers (.depotSuspend p) s (fun t =>
      ok 0x6100 3 (s.obj 0x6100 3) 1 0xFFFF t ∧ t.obj 0x6100 3 = 1 ∧ t.pw = s.pw ∧ SameMemory s t)) ∧
    (s.pw.mode = .depot → s.mayMove = true → Answers (.depotSuspend p) s (fun t => Acked p 0 [] t ∧
      t.obj 0x6100 3 = 1 ∧ t.pw.mode = .handover ∧ t.pw.prev = .depot ∧ t.obj 0x2001 8 = 1000 ∧ t.obj 0x2001 3 = 0)) ∧
    ((s.pw.mode ≠ .depot ∧ s.pw.mode ≠ .bench) ∨ s.obj 0x2001 6 ≠ 0 →
      Answers (.guestEnable p) s (Refuses p 0x6021 1 0x08000022 s) ∧
      Answers (.guestDisable p) s (Refuses p 0x6021 1 0x08000022 s)) ∧
    (s.pw.mode = .bench → s.obj 0x2001 6 = 0 →
      Answers (.guestEnable p) s (fun t => ok 0x6021 1 (s.obj 0x6021 1 q.selGuest) 1 q.selGuest t ∧
        t.obj 0x6021 1 q.selGuest = 1 ∧ SameObjs [okey 0x6021 1 q.selGuest] s t ∧ SameMemory s t)) ∧
    (s.pw.mode = .depot → s.obj 0x2001 6 = 0 → s.obj 0x6100 0x0A = 2 → s.guestState q.selGuest = 0 →
      s.windowFits q.selGuest (s.obj 0x6021 2 q.selGuest) (s.obj 0x6021 3 q.selGuest) = true →
      Answers (.guestEnable p) s (fun t => ok 0x6021 1 (s.obj 0x6021 1 q.selGuest) 1 q.selGuest t ∧
        t.obj 0x6021 1 q.selGuest = 1 ∧ t.obj 0x6021 4 q.selGuest = 1 ∧
        (∀ a, t.memByte a = if s.obj 0x6021 2 q.selGuest ≤ a ∧ a < s.obj 0x6021 2 q.selGuest + s.windowBytes q.selGuest
          then 0 else s.memByte a))) ∧
    (s.pw.mode = .depot → s.obj 0x2001 6 = 0 → s.obj 0x6100 0x0A = 2 → s.guestState q.selGuest = 2 → q.selGuest < 8 →
      p.code ≠ 0x11 + q.selGuest →
      Answers (.guestDisable p) s (fun t => Acked p 0 [] t ∧ t.obj 0x6021 1 q.selGuest = 0 ∧
        t.obj 0x6021 4 q.selGuest = 5 ∧ (t.path (0x11 + q.selGuest)).live = false ∧ bit t.depot.keys q.selGuest = false ∧
        (∀ a, a < s.obj 0x6021 2 q.selGuest ∨ s.obj 0x6021 2 q.selGuest + s.windowBytes q.selGuest ≤ a →
          t.memByte a = s.memByte a) ∧
        (∀ j ∈ t.sched.jobs, j.part ≠ q.selGuest + 1))) ∧
    ((s.pw.mode = .bench ∨ s.pw.mode = .depot) → s.outOfService q.selEngine = false → s.obj 0x4000 1 q.selEngine ≠ 3 →
      q.selEngine < 48 → (s.engine (s.lead q.selEngine)).dike = none → s.jobsOn (s.lead q.selEngine) ≠ [] →
      s.outOfService (s.lead q.selEngine) = false →
      Answers (.polderResetRequest p) s (fun t => ok 0x4020 1 0 1 q.selEngine t ∧
        (t.engine (s.lead q.selEngine)).dike.map (fun d => (d.cause, d.step)) = some (5, 2) ∧
        t.obj 0x4020 6 q.selEngine = 5 ∧ SameMemory s t))) ∧
  (∀ (p : Path) (d : List Byte) (s : State), Serving p s → s.pw.mode = .depot → s.storeServed = true →
    (d.length = 64 → (d.getD 11 0 ≠ 0 ∨ ∃ k : Fin 12, d.getD (20 + k.val) 0 ≠ 0) → s.depot.jobs.length < 4096 →
      Answers (.managerJobSubmit p d) s (Refuses p 0x6110 3 0x06090030 s)) ∧
    (4096 ≤ s.depot.jobs.length → d.length = 64 → Answers (.managerJobSubmit p d) s (Refuses p 0x6110 3 0x08000022 s)) ∧
    (d.length = 64 → d.getD 11 0 = 0 → (∀ k : Fin 12, d.getD (20 + k.val) 0 = 0) → s.depot.jobs.length < 4096 → Answers (.managerJobSubmit p d) s (fun t => Acked p 0 [] t ∧
      t.depot.jobs = s.depot.jobs ++ [FleetJob.mk (s.obj 0x6110 4 + 1) d 1 0 [] (field d 32 32) [] 0 0] ∧
      t.obj 0x6110 4 = s.obj 0x6110 4 + 1 ∧ Journaled p.code 0x6110 3 0xFFFF 0 (leVal (d.take 8)) s t ∧ SameMemory s t)) ∧
    (d.length ≠ 64 → Answers (.managerJobSubmit p d) s (Refuses p 0x6110 3 0x06070010 s)) ∧
    ((d.length = 2 ^ 21 ∨ d.length = 2 ^ 22) → s.storeFits d.length = true → Answers (.putChunk p d) s (fun t =>
      Acked p 0 [] t ∧ t.depot.chunks = (s.keepChunk (hashOf d) d).depot.chunks ∧ t.depot.manifests = s.depot.manifests ∧
      SameMemory s t)) ∧
    (d.length ≠ 2 ^ 21 → d.length ≠ 2 ^ 22 → Answers (.putChunk p d) s (Refuses p 0x6120 7 0x06070010 s)) ∧
    (manifestOk d = true → ((dataHashes d).all fun h => (s.storedChunk h).isSome) = true →
      Answers (.putManifest p d) s (fun t => Acked p 0 [] t ∧
        t.depot.manifests = (s.keepManifest (hashOf d) d).depot.manifests ∧ t.depot.chunks = s.depot.chunks ∧ SameMemory s t)) ∧
    (manifestOk d = false → Answers (.putManifest p d) s (Refuses p 0x6120 8 0x06090030 s))) ∧
  (∀ (n : Fin 16) (s : State), s.live (0x20 + n.val) = true → Answers (.peerSlotRelease n) s (fun t =>
    t.live (0x20 + n.val) = false ∧ t.obj 0x1F98 4 = s.obj 0x1F98 4 - 1 ∧ (∀ q, q ≠ 0x20 + n.val → t.path q = s.path q) ∧
    SameObjs [okey 0x1F98 4 0] s t ∧ SameMemory s t)) ∧
  (∀ (f : Fin 9) (s : State), s.live (0x10 + f.val) = true → Answers (.functionLevelReset f) s (fun t =>
    t.path (0x10 + f.val) = PathState.fresh ∧ (∀ q, q ≠ 0x10 + f.val → t.path q = s.path q) ∧ t.objs = s.objs ∧
    (∀ b ∈ t.sched.bells, b.1 % 8192 ≠ f.val) ∧ t.sched.jobs = s.sched.jobs ∧ SameMemory s t)) ∧
  (∀ s : State,
    let gone (t : State) : Prop := t.su.pcieUp = false ∧ (∀ f : Fin 9, t.live (0x10 + f.val) = false) ∧ t.objs = s.objs ∧
      t.pw = s.pw ∧ t.attic = s.attic ∧ t.sched.jobs = s.sched.jobs ∧
      (∀ q, q < 0x10 ∨ 0x18 < q → t.path q = s.path q) ∧ SameMemory s t
    Answers (.perstNAssert) s gone ∧ Answers (.pcieHotReset) s gone)

/-- The CAN ports start in Pre-operational, follow NMT, and serve USDO sessions: R71, R78, R111, R126, R127, R130, R131, R132, R142. -/
def Obligations.CanTakesNmtAndUsdo : Prop :=
  (∀ s : State, s.pw.mode.awake = true → s.su.pllOn = true → (s.port 0).core = false →
    Answers (.canPortTakeover) s (fun t => (∀ k : Fin 2, (t.port k.val).core = true ∧ t.nmt k.val = 0x7F ∧
      (t.port k.val).bootAt = some s.now) ∧ t.journal = s.journal ∧ t.paths = s.paths ∧ Calm s t)) ∧
  (∀ (port : Fin 2) (node : Byte) (s : State),
    let k := port.val
    let takes (v : Nat) (t : State) : Prop := t.nmt k = v ∧ (t.port k).bootAt = none ∧ (t.port k).core = true ∧
      (∀ q, q ≠ k → t.port q = s.port q) ∧ t.out = s.out ∧ t.journal = s.journal ∧ t.paths = s.paths ∧
      SameObjs [okey (0x1F90 + k) 7 0] s t ∧ Calm s t
    let clears (t : State) : Prop := t.nmt k = 0x7F ∧ (t.port k).bootAt = some s.now ∧ (t.port k).collisions = [] ∧
      (∀ j ∈ blockSlots, t.obj (0x1F90 + k) j = 0xFFFFFFFF) ∧ t.obj (0x1F90 + k) 0x0D = 0 ∧ (t.path (1 + k)).session = none ∧
      (t.path (1 + k)).next = [] ∧ (∀ f ∈ t.timed, f.port ≠ 2 + k) ∧ t.journal = s.journal ∧ Calm s t
    (s.nmtReaches k node.toNat = true →
      Answers (.nmtStart port node) s (takes 5) ∧ Answers (.nmtStop port node) s (takes 4) ∧
      Answers (.nmtEnterPreoperational port node) s (takes 0x7F) ∧
      Answers (.nmtResetCommunication port node) s clears) ∧
    (s.nmtReaches k node.toNat = false → ∀ i ∈ [Instr.nmtStart port node, .nmtStop port node,
      .nmtEnterPreoperational port node, .nmtResetCommunication port node, .nmtResetNode port node], exec i s = .next s) ∧
    (s.nmtReaches k node.toNat = true → s.objB 0x1F92 2 = true → s.pw.mode = .bench ∨ s.pw.mode = .depot ∨ s.pw.mode = .safe →
      Answers (.nmtResetNode port node) s (fun t => t.obj 0x2030 1 = 5 ∧ t.journal = s.journal ∧ t.ctxs = [] ∧
        ∃ e, t.attic.history = (e :: s.attic.history).take 256 ∧ field e 8 1 = 5 ∧ field e 9 1 = s.pw.mode.code ∧
          field e 16 4 = 1 + k)) ∧
    (s.nmtReaches k node.toNat = true → s.objB 0x1F92 2 = false ∨ (s.pw.mode ≠ .bench ∧ s.pw.mode ≠ .depot ∧ s.pw.mode ≠ .safe) →
      Answers (.nmtResetNode port node) s (fun t => clears t ∧ t.obj 0x1F92 3 = (s.obj 0x1F92 3 + 1) % 2 ^ 32)) ∧
    ((s.port k).bootAt.isSome = true → s.nmt k = 0x7F →
      (s.objB 0x1F92 1 = true → (s.port k).core = true → Answers (.nmtAutostart port) s (takes 5)) ∧
      (s.objB 0x1F92 1 = false → Answers (.nmtAutostart port) s (fun t => (t.port k).bootAt = none ∧ t.objs = s.objs ∧
        t.out = s.out ∧ Calm s t)))) ∧
  (∀ (port : Fin 2) (fmt : FrameFormat) (s : State),
    let k := port.val
    let p := Path.can port
    let segs : Nat := if fmt = .classical then 7 else if fmt = .fd then 63 else 2047
    s.usdoServed k fmt = true → Delivered p s → s.atticWaits p.code = false → (s.path p.code).armed = none →
    (∀ (idx : BitVec 16) (sub : Byte) (v : List Byte), (s.path p.code).session = none →
      s.peek p.code idx.toNat sub.toNat ((s.path p.code).channel (rowOf idx.toNat sub.toNat).sel) true = .inr v →
      (rowOf idx.toNat sub.toNat).acc ≠ .rc → idx.toNat ≠ 0x2020 →
      ((rowOf idx.toNat sub.toNat).ty.isDomain = false → fmt ≠ .classical ∨ v.length ≤ 4 →
        Answers (.usdoRequest port fmt (.uploadInit idx sub)) s (fun t => Acked p 0 v t ∧ t.journal = s.journal ∧
          SameObjs [] s t ∧ Calm s t)) ∧
      ((rowOf idx.toNat sub.toNat).ty.isDomain = true →
        Answers (.usdoRequest port fmt (.uploadInit idx sub)) s (fun t => Acked p 0 (leBytes 4 v.length) t ∧
          (t.path p.code).session.map (fun x => (x.upload, x.data, x.offset, x.maxSeg)) = some (true, v, 0, segs) ∧
          t.journal = s.journal ∧ SameObjs [] s t ∧ Calm s t))) ∧
    (∀ (idx : BitVec 16) (sub : Byte) (total : BitVec 32), (s.path p.code).session = none →
      s.downloadCode p.code idx.toNat sub.toNat total.toNat = 0 →
      Answers (.usdoRequest port fmt (.downloadInit idx sub total)) s (fun t => Acked p 0 [] t ∧
        (t.path p.code).session.map (fun x => (x.upload, x.total, x.data, x.maxSeg)) = some (false, total.toNat, [], segs) ∧
        t.journal = s.journal ∧ SameObjs [] s t ∧ Calm s t)) ∧
    (∀ (idx : BitVec 16) (sub : Byte) (data : List Byte), (s.path p.code).session = none →
      s.judge p.code idx.toNat sub.toNat ((s.path p.code).channel (rowOf idx.toNat sub.toNat).sel) data false false ≠ 0 →
      idx.toNat ≠ 0x2020 → idx.toNat ≠ 0x2010 → Answers (.usdoRequest port fmt (.downloadExpedited idx sub data)) s
        (Refuses p idx.toNat sub.toNat (s.judge p.code idx.toNat sub.toNat
          ((s.path p.code).channel (rowOf idx.toNat sub.toNat).sel) data false false) s)) ∧
    (∀ x : Xfer, (s.path p.code).session = some x → x.upload = true → s.xferCode p.code x = 0 →
      let n := min x.maxSeg (x.total - x.offset)
      Answers (.usdoRequest port fmt .uploadSegment) s (fun t => Acked p 0 (slice x.data x.offset n) t ∧
        (t.path p.code).session.map (fun y => y.offset) = (if x.total ≤ x.offset + (slice x.data x.offset n).length then none
          else some (x.offset + (slice x.data x.offset n).length)) ∧ t.journal = s.journal ∧ SameObjs [] s t ∧ Calm s t)) ∧
    (∀ (x : Xfer) (data : List Byte), (s.path p.code).session = some x → x.upload = false → s.xferCode p.code x = 0 →
      (x.total < x.data.length + data.length → Answers (.usdoRequest port fmt (.downloadSegment data false)) s (fun t =>
        Acked p 0x06070010 [] t ∧ (t.path p.code).session = none ∧ t.journal = s.journal ∧ SameObjs [] s t ∧ Calm s t)) ∧
      (data.length ≤ x.maxSeg → x.data.length + data.length ≤ x.total →
        Answers (.usdoRequest port fmt (.downloadSegment data false)) s (fun t => Acked p 0 [] t ∧
          (t.path p.code).session.map (fun y => y.data) = some (x.data ++ data) ∧ t.journal = s.journal ∧ SameObjs [] s t ∧
          Calm s t))) ∧
    (∀ (x : Xfer) (data : List Byte) (last : Bool), (s.path p.code).session = some x → s.xferCode p.code x ≠ 0 →
      ∀ r ∈ [UsdoReq.uploadSegment, .downloadSegment data last], Answers (.usdoRequest port fmt r) s (fun t =>
        Acked p (s.xferCode p.code x) [] t ∧ (t.path p.code).session = none ∧ (t.path p.code).refusal = s.xferCode p.code x ∧
        t.journal = s.journal ∧ SameObjs [] s t ∧ Calm s t)) ∧
    Answers (.usdoRequest port fmt .abort) s (fun t =>
      t = s.setPath p.code { s.path p.code with session := none }))

/-- TPDOs, heartbeats and EMCYs leave under their rules; errors, collisions and bus-off change the port: R133, R134, R135, R140, R141, R142, R143. -/
def Obligations.CanSendsAndHandlesErrors : Prop :=
  (∀ (n : Fin 8) (s : State), s.tpdoPorts n.val ≠ [] →
    let d := (s.tpdoData n.val).1
    let sends (t : State) : Prop := Amap.get Tpdo.idle t.tpdos n.val = { last := d, sentAt := some s.now } ∧
      t.journal = s.journal ∧ (∀ m, m ≠ n.val → Amap.get Tpdo.idle t.tpdos m = Amap.get Tpdo.idle s.tpdos m) ∧ Calm s t
    let quiet (t : State) : Prop := t = s
    let old := Amap.get Tpdo.idle s.tpdos n.val
    (s.obj (0x1800 + n.val) 2 = 0xFE → Answers (.tpdoEventTimer n) s sends ∧ Answers (.tpdoChange n) s quiet) ∧
    (s.obj (0x1800 + n.val) 2 = 0xFF → Answers (.tpdoEventTimer n) s quiet ∧
      (∀ a, old.sentAt = some a → s.now < a + 100 * s.obj (0x1800 + n.val) 3 → Answers (.tpdoChange n) s quiet) ∧
      ((∀ a ∈ old.sentAt, a + 100 * s.obj (0x1800 + n.val) 3 ≤ s.now) → d ≠ old.last → Answers (.tpdoChange n) s sends) ∧
      (d = old.last → Answers (.tpdoChange n) s quiet))) ∧
  (∀ (n : Fin 8) (s : State), s.pw.mode = .safe → Answers (.tpdoEventTimer n) s (fun t => t = s) ∧
    Answers (.tpdoChange n) s (fun t => t = s)) ∧
  (∀ (port : Fin 2) (s : State), (s.port port.val).core = true → s.obj (0x1F90 + port.val) 8 ≠ 2 →
    let k := port.val
    let o := 0x1F90 + k
    let frame (id : Nat) (data : List Byte) (t : State) : Prop :=
      (s.blocked k id = false → t.out = .can k id 0 data :: s.out ∧ t.objs = s.objs) ∧
      (s.blocked k id = true → t.out = s.out ∧ t.obj o 0x1A = (s.obj o 0x1A + 1) % 2 ^ 32)
    (s.obj 0x1017 0 ≠ 0 → Answers (.heartbeatTimer port) s (fun t => frame (0x700 + s.nodeId k) (leBytes 1 (s.nmt k)) t ∧
      t.can = s.can ∧ Calm s t)) ∧
    (s.obj 0x1017 0 = 0 → Answers (.heartbeatTimer port) s (fun t => t = s)) ∧
    (∀ (e : Emcy) (rest : List Emcy), (s.port k).emcys = e :: rest → (s.port k).dropped = 0 →
      (s.nmt k = 5 ∨ s.nmt k = 0x7F → bit (s.cobId 0x1014 k) 31 = false →
        (∀ a ∈ (s.port k).emcyAt, a + 100 * s.obj 0x1015 0 ≤ s.now) →
        Answers (.emcyTransmit port) s (fun t => frame (s.cobId 0x1014 k % 2 ^ 30)
          (leBytes 2 e.code ++ leBytes 1 e.reg ++ leBytes 1 e.source ++ leBytes 4 e.info ++
            (if s.obj o 2 = 0 then [] else leBytes 8 e.stamp)) t ∧
          (t.port k).emcys = rest ∧ (t.port k).emcyAt = some s.now ∧ Calm s t)) ∧
      (∀ a, (s.port k).emcyAt = some a → s.now < a + 100 * s.obj 0x1015 0 → Answers (.emcyTransmit port) s (fun t => t = s)) ∧
      (s.nmt k = 4 → Answers (.emcyTransmit port) s (fun t => t = s))) ∧
    (∀ tec rec : Nat, tec < 256 → Answers (.canBusError port false tec rec) s (fun t =>
      t.obj o 8 = (if 128 ≤ tec ∨ 128 ≤ rec then 1 else 0) ∧ t.obj o 9 = tec ∧ t.obj o 0x0A = min rec 255 ∧
      t.obj o 0x0B = s.obj o 0x0B ∧ t.journal = s.journal ∧ t.out = s.out ∧ Calm s t)) ∧
    (∀ tec rec : Nat, 256 ≤ tec → Answers (.canBusError port false tec rec) s (fun t => t.obj o 8 = 2 ∧
      t.obj o 0x0B = (s.obj o 0x0B + 1) % 2 ^ 32 ∧ (∀ f ∈ t.timed, f.port ≠ 2 + k) ∧ t.journal = s.journal ∧ t.out = s.out ∧
      Calm s t)) ∧
    (∀ (id : BitVec 29) (ide : Bool),
      let key := id.toNat + (if ide then 2 ^ 29 else 0)
      let n := Amap.get 0 (s.port k).collisions key
      (s.blocked k key = false → n < 2 → Answers (.canCollision port id ide) s (fun t =>
        Amap.get 0 (t.port k).collisions key = n + 1 ∧ t.obj o 0x0C = (s.obj o 0x0C + 1) % 2 ^ 32 ∧
        t.obj o 9 = min (s.obj o 9 + 8) 255 ∧ t.journal = s.journal ∧ (∀ j ∈ blockSlots, t.obj o j = s.obj o j) ∧ Calm s t)) ∧
      (s.blocked k key = false → 2 ≤ n → ∀ j, blockSlots.find? (fun i => s.obj o i = 0xFFFFFFFF) = some j →
        Answers (.canCollision port id ide) s (fun t => t.blocked k key = true ∧ t.obj o j = key ∧
          t.obj o 0x0D = s.obj o 0x0D + 1 ∧ Journaled 0x3F o j 0xFFFF 0xFFFFFFFF key s t ∧ Calm s t)) ∧
      Answers (.canSuccessfulTransmission port id ide) s (fun t => Amap.get 0 (t.port k).collisions key = 0 ∧
        (∀ i, i ≠ key → Amap.get 0 (t.port k).collisions i = Amap.get 0 (s.port k).collisions i) ∧
        (s.obj o 9 ≤ 256 → t.obj o 9 = s.obj o 9 - 1) ∧ t.journal = s.journal ∧ Calm s t))) ∧
  (∀ (port : Fin 2) (s : State), s.obj (0x1F90 + port.val) 8 = 2 →
    Answers (.busOffRecovery port) s (fun t => t.obj (0x1F90 + port.val) 8 = 0 ∧ t.obj (0x1F90 + port.val) 9 = 0 ∧
      t.obj (0x1F90 + port.val) 0x0A = 0 ∧ t.journal = s.journal ∧ t.out = s.out ∧ t.paths = s.paths ∧ Calm s t ∧
      (s.pw.mode.awake = true → s.nmt port.val ≠ 4 → (s.port port.val).emcys = [] →
        ∃ e ∈ (t.port port.val).emcys, e.code = 0x8140 ∧ e.source = 0xFF ∧ e.info = port.val)))

/-- Each dictionary message of a UDP peer is served, answered with its result, kept for a replay, or dropped and counted: R104, R110, R111, R136, R137, R139, R466, R474. -/
def Obligations.UdpPeersAreServed : Prop :=
  (∀ (addr : BitVec 32) (port : BitVec 16) (m : List Byte) (p : Nat) (s : State),
    let a := addr.toNat
    let o := port.toNat
    let b := msgBody m
    let i := field b 4 2
    let j := field b 6 1
    let u := heard p s
    let ch := (s.path p).channel (rowOf i j).sel
    let keys := [okey 0x1F98 1 0, okey 0xA010 3 0]
    let tells (w c : Nat) (v seg : List Byte) (t : State) : Prop := Replied a o p (dictReply b w c v seg) s t
    let still (t : State) : Prop := t.journal = s.journal ∧ SameObjs keys s t ∧ Calm s t
    let sess (t : State) : Option Xfer := (t.path p).session
    (Asked 1 a o m p s → i ≠ 0x2020 → (rowOf i j).ty.size ≤ 8 →
      (∀ v, u.peek p i j ch false = .inr v → (rowOf i j).acc ≠ .rc →
        Answers (.udpDictRead addr port m) s (fun t => tells 0 0 v [] t ∧ still t)) ∧
      (∀ c, u.peek p i j ch false = .inl c →
        Answers (.udpDictRead addr port m) s (fun t => tells 0 c [] [] t ∧ (t.path p).refusal = c ∧ still t))) ∧
    (Asked 1 a o m p s → s.serveCode p i = 0 → existsCode i j = 0 → 8 < (rowOf i j).ty.size →
      Answers (.udpDictRead addr port m) s (fun t => tells 0 0x06010000 [] [] t ∧ still t)) ∧
    (Asked 2 a o m p s → i ≠ 0x2020 →
      let r := u.dictWrite p i j (slice b 16 (field b 7 1)) false true
      (r.1 ≠ 0 → Answers (.udpDictWrite addr port m) s (fun t => tells 0 r.1 [] [] t ∧ (t.path p).refusal = r.1)) ∧
      (r.1 = 0 → (rowOf i j).cls ≠ .attic → r.2.deviceId = s.deviceId →
        Answers (.udpDictWrite addr port m) s (fun t => t = r.2.dictRespond p (dictReply b 0 0 [] []))) ∧
      (r.1 = 0 → (rowOf i j).cls = .attic → Answers (.udpDictWrite addr port m) s (fun t =>
        (t.path p).busy = some (dictReply b 0 0 [] []) ∧ t.out = r.2.out ∧ t.attic = r.2.attic))) ∧
    (Asked 3 a o m p s →
      (∀ v, u.peek p i j ch true = .inr v → (rowOf i j).acc ≠ .rc → i ≠ 0x2020 →
        Answers (.udpUploadStart addr port m) s (fun t => tells v.length 0 [] [] t ∧
          (sess t).map (fun x => (x.upload, x.idx, x.sub, x.data, x.offset, x.maxSeg)) = some (true, i, j, v, 0, 1024) ∧ still t)) ∧
      (∀ c, u.peek p i j ch true = .inl c →
        Answers (.udpUploadStart addr port m) s (fun t => tells 0 c [] [] t ∧ (t.path p).refusal = c ∧ still t))) ∧
    (∀ x, Asked 4 a o m p s → (s.path p).session = some x → s.xferCode p x = 0 →
      let v := slice x.data x.offset (min 1024 (x.total - x.offset))
      Answers (.udpUploadNext addr port m) s (fun t => tells x.offset 0 [] v t ∧
        (sess t).map (fun y => y.offset) = (if x.total ≤ x.offset + v.length then none else some (x.offset + v.length)) ∧
        still t)) ∧
    (Asked 5 a o m p s →
      (u.downloadCode p i j (field b 8 4) = 0 → Answers (.udpDownloadStart addr port m) s (fun t => tells 0 0 [] [] t ∧
        (sess t).map (fun x => (x.upload, x.idx, x.sub, x.total, x.data)) = some (false, i, j, field b 8 4, []) ∧ still t)) ∧
      (u.downloadCode p i j (field b 8 4) ≠ 0 → Answers (.udpDownloadStart addr port m) s (fun t =>
        tells 0 (u.downloadCode p i j (field b 8 4)) [] [] t ∧ sess t = none ∧ still t))) ∧
    (∀ x, Asked 6 a o m p s → (s.path p).session = some x → s.xferCode p x = 0 →
      Answers (.udpDownloadSegment addr port m) s (fun t => tells x.offset 0 [] [] t ∧
        (sess t).map (fun y => y.data) = some (x.data ++ b.drop 24) ∧ still t)) ∧
    (∀ x, Asked 7 a o m p s → (s.path p).session = some x → s.xferCode p x = 0 → s.now ≠ x.at_ + 1000000 →
      let r := (u.endSession p).commitXfer p x true
      (r.2.1 = true → Answers (.udpDownloadCommit addr port m) s (fun t =>
        (t.path p).busy = some (dictReply b 0 0 [] []) ∧ t.attic = r.2.2.attic ∧ t.out = r.2.2.out)) ∧
      (r.2.1 = false → r.2.2.deviceId = s.deviceId → (r.2.2.path p).peer = (a, o) →
        Answers (.udpDownloadCommit addr port m) s (fun t => tells 0 r.1 [] [] t ∧ t.journal = r.2.2.journal))) ∧
    (∀ x, (s.path p).session = some x → s.xferCode p x ≠ 0 →
      let closes (t : State) : Prop := tells 0 (s.xferCode p x) [] [] t ∧ sess t = none ∧ (t.path p).refusal = s.xferCode p x ∧ still t
      (Asked 4 a o m p s → Answers (.udpUploadNext addr port m) s closes) ∧
      (Asked 6 a o m p s → Answers (.udpDownloadSegment addr port m) s closes) ∧
      (Asked 7 a o m p s → Answers (.udpDownloadCommit addr port m) s closes)) ∧
    (Asked 8 a o m p s → (s.path p).session.isSome = true ∨ (s.path p).sessionFail = none →
      Answers (.udpDictAbort addr port m) s (fun t => tells 0 0 [] [] t ∧ sess t = none ∧ still t)) ∧
    (∀ c, (s.path p).session = none → (s.path p).sessionFail = some c →
      let closed (t : State) : Prop := tells 0 c [] [] t ∧ (t.path p).sessionFail = none ∧ still t
      (Asked 4 a o m p s → Answers (.udpUploadNext addr port m) s closed) ∧
      (Asked 6 a o m p s → Answers (.udpDownloadSegment addr port m) s closed) ∧
      (Asked 7 a o m p s → Answers (.udpDownloadCommit addr port m) s closed) ∧
      (Asked 8 a o m p s → Answers (.udpDictAbort addr port m) s closed))) ∧
  (∀ (addr : BitVec 32) (port : BitVec 16) (m : List Byte) (p : Nat) (s : State), s.pw.mode.awake = true → s.clk.tbRun = true →
    s.holds 0x20 = false → msgOk udpBody m = true → field m 0 1 = 0x10 → field m 2 1 = 0xFF →
    let drops (t : State) : Prop := t.obj 0x1F98 3 = (s.obj 0x1F98 3 + 1) % 2 ^ 32 ∧ t.out = s.out ∧ t.journal = s.journal ∧
      SameObjs [okey 0x1F98 3 0, okey 0xA010 3 0] s t ∧ Calm s t
    (dictForm (msgBody m) = false → field (msgBody m) 0 1 = 0 → ∀ i ∈ [Instr.udpDictRead addr port m, .udpDictWrite addr port m],
      Answers i s drops) ∧
    (dictForm (msgBody m) = true → field (msgBody m) 0 1 = 2 → s.peerSlot (addr.toNat, port.toNat) = some p → s.live p = true →
      ((s.path p).busy.isSome = true → Answers (.udpDictWrite addr port m) s drops) ∧
      (∀ r ∈ (s.path p).lastResp, (s.path p).busy = none → r.1 = field (msgBody m) 2 2 →
        Answers (.udpDictWrite addr port m) s (fun t => t.out = .udp addr.toNat port.toNat r.2 :: s.out ∧
          t.obj 0x1F98 2 = (s.obj 0x1F98 2 + 1) % 2 ^ 32 ∧ t.journal = s.journal ∧
          SameObjs [okey 0x1F98 2 0, okey 0xA010 3 0] s t ∧ Calm s t))) ∧
    (dictForm (msgBody m) = true → field (msgBody m) 0 1 = 1 → field (msgBody m) 4 2 = 0x1017 → field (msgBody m) 6 1 = 0 →
      s.serveCode p 0x1017 = 0 → s.peerSlot (addr.toNat, port.toNat) = some p → s.live p = false →
      Answers (.udpDictRead addr port m) s (fun t => t.live p = true ∧ (t.path p).peer = (addr.toNat, port.toNat) ∧
        t.obj 0x1F98 4 = s.obj 0x1F98 4 + 1 ∧ Replied addr.toNat port.toNat p
          (dictReply (msgBody m) 0 0 (leBytes 2 (s.obj 0x1017 0)) []) s t ∧ t.journal = s.journal ∧ Calm s t)))

/-- Each sensor port's lines enter the bound stream's strip; bad ones are replaced, unbound ones counted; frames open and close: R147, R149, R150, R151, R155, R156, R157, R159, R165, R172, R227, R474. -/
def Obligations.SensorLinesEnterTheirSluices : Prop :=
  (∀ (port : Fin 24) (vc : Fin 4) (dt : BitVec 6) (wc : BitVec 16) (payload : List Byte) (hdr : HeaderCheck) (ok : Bool)
      (s : State), s.portsRun = true → bit (s.obj 0x3100 (port.val + 1)) 0 = true →
    let line (vcx : Bool) (p : State → Prop) : Prop := Answers (.csi2LinePacket port vc vcx dt wc payload hdr ok) s p
    let lost (t : State) : Prop := t.obj 0x3105 (port.val + 1) = (s.obj 0x3105 (port.val + 1) + 1) % 2 ^ 32 ∧
      SameObjs [okey 0x3105 (port.val + 1) 0] s t ∧ t.seq = s.seq ∧ Calm s t
    (hdr ≠ .uncorrectable → line true lost) ∧
    (dt.toNat = 0x10 ∨ dt.toNat = 0x11 ∨ dt.toNat = 0x12 → line false (fun t => t = s)) ∧
    (discardedType dt.toNat = false → hdr ≠ .uncorrectable → s.bound 1 port.val vc.val dt.toNat = none → line false lost) ∧
    (∀ (q : Sluice) (f : Filling), discardedType dt.toNat = false → s.bound 1 port.val vc.val dt.toNat = some q →
      MidStrip q.stream q f s →
      let want := s.obj 0x3000 6 q.stream * bitsPerPixel dt.toNat / 8
      let whole : Prop := ok = true ∧ wc.toNat = want ∧ payload.length = want
      (hdr = .clean → whole → line false (TakesLine q.stream q f (s.lineOut q (unpackLine dt.toNat payload)) s)) ∧
      (hdr = .corrected → whole → line false (fun t => TakesLine q.stream q f (s.lineOut q (unpackLine dt.toNat payload)) s t ∧
        t.obj 0x3003 7 q.stream = (s.obj 0x3003 7 q.stream + 1) % 2 ^ 32)) ∧
      (hdr = .clean → ¬whole → line false (fun t =>
        TakesLine q.stream q f (s.lineOut q (padTo (s.obj 0x3000 6 q.stream * s.pixelBytes q.stream) q.good)) s t ∧
        t.obj 0x3003 5 q.stream = (s.obj 0x3003 5 q.stream + 1) % 2 ^ 32 ∧
        t.obj 0x3003 6 q.stream = (s.obj 0x3003 6 q.stream + 1) % 2 ^ 32)))) ∧
  (∀ (port : Fin 24) (vc : Fin 4) (s : State), s.portsRun = true → bit (s.obj 0x3100 (port.val + 1)) 0 = true →
    s.sluicing = true →
    (∀ hdr : HeaderCheck, ∀ i ∈ [Instr.frameStart port ⟨vc, true, hdr⟩, .frameEnd port ⟨vc, true, hdr⟩], Answers i s (fun t =>
      t.obj 0x3105 (port.val + 1) = (s.obj 0x3105 (port.val + 1) + 1) % 2 ^ 32 ∧ t.seq = s.seq ∧ Calm s t)) ∧
    (s.camerasOn port.val vc.val = [] → ∀ hdr : HeaderCheck, Answers (.frameStart port ⟨vc, false, hdr⟩) s (fun t => t = s) ∧
      Answers (.frameEnd port ⟨vc, false, hdr⟩) s (fun t => t = s)) ∧
    (∀ (k : Nat) (q : Sluice), s.camerasOn port.val vc.val = [k] → s.sluice? k = some q →
      (∀ i ∈ [Instr.frameStart port ⟨vc, false, .uncorrectable⟩, .frameEnd port ⟨vc, false, .uncorrectable⟩], Answers i s (fun t =>
        t.obj 0x3003 8 k = (s.obj 0x3003 8 k + 1) % 2 ^ 32 ∧ t.seq = s.seq ∧ SameObjs [okey 0x3003 8 k] s t ∧ Calm s t)) ∧
      (s.streamState k ≠ 2 → Answers (.frameStart port ⟨vc, false, .clean⟩) s (fun t => t.streamState k = 2 ∧
          t.obj 0x3002 5 k = (s.obj 0x3002 5 k + 1) % 2 ^ 32 ∧ t.journal = s.journal ∧ Calm s t ∧
          (t.sluice? k).map (fun r => (r.line, r.index, r.frameAt)) = some (0, 0, s.now)) ∧
        Answers (.frameEnd port ⟨vc, false, .clean⟩) s (fun t => t = s)) ∧
      (s.streamState k = 2 → q.line < s.obj 0x3000 7 k → Answers (.frameEnd port ⟨vc, false, .clean⟩) s (fun t => t.streamState k = 3 ∧
        t.obj 0x3003 9 k = (s.obj 0x3003 9 k + 1) % 2 ^ 32 ∧ t.journal = s.journal)))) ∧
  (∀ (port : Fin 4) (e : RangeFrame) (s : State), s.portsRun = true → bit (s.obj 0x3101 (port.val + 1)) 0 = true →
    let payload := e.payload
    let mine : Prop := e.mac.toNat = s.obj 0x3103 (port.val + 1) ∧ e.ip.toNat = s.obj 0x3102 (port.val + 1) ∧
      e.udpPort.toNat = s.obj 0x3101 (port.val + 1) / 2 ^ 16 ∧ e.plain = true ∧ e.headerOk = true ∧
      e.length ≤ (if e.tagged then 1522 else 1518)
    (¬mine ∨ payload.length < 32 ∨ field payload 0 4 ≠ 0x50525953 ∨ field payload 4 1 ≠ 1 ∨
      crc32c (payload.take 28) ≠ field payload 28 4 → ∀ (l : List Nat) (fcs udp : Bool), Answers (.rangePacket port e l fcs udp) s (fun t =>
        t.obj 0x3105 (0x19 + port.val) = (s.obj 0x3105 (0x19 + port.val) + 1) % 2 ^ 32 ∧ t.pins = s.pins ∧ t.seq = s.seq ∧
        SameObjs [okey 0x3105 (0x19 + port.val) 0] s t ∧ Calm s t)) ∧
    (∀ (q : Sluice) (f : Filling), mine → 32 ≤ payload.length → field payload 0 4 = 0x50525953 →
      field payload 4 1 = 1 → crc32c (payload.take 28) = field payload 28 4 →
      s.bound 2 port.val (field payload 5 1) 0 = some q → MidStrip q.stream q f s → field payload 6 2 % 4 = 0 →
      field payload 8 2 = q.line → (q.seq = none ∨ q.seq = some (field payload 12 4)) →
      let n := field payload 10 2
      n = s.obj 0x3000 6 q.stream → payload.length = 32 + 8 * n →
      ((groups 8 (payload.drop 32)).all fun b => crc8 (b.take 7) = field b 7 1) = true →
      Answers (.rangePacket port e [] true true) s (fun t => TakesLine q.stream q f (s.lineOut q (slice payload 32 (8 * n))) s t ∧
        (t.sluice? q.stream).map (·.sensorTime) =
          some (if bit (field payload 6 2) 2 then some (field payload 16 8) else none)))) ∧
  (∀ (n : Fin 4) (m : Fin 2) (a b : BitVec 32) (s : State), s.portsRun = true → a ≠ 0 →
    (bit (s.obj 0x3101 (n.val + 1)) 0 = true → s.obj 0x3102 (n.val + 1) = a.toNat →
      Answers (.arpRequest (.range n) a b) s (fun t => t = s.emit (.arp n.val a.toNat b.toNat))) ∧
    (s.obj 0x3102 (n.val + 1) ≠ a.toNat → Answers (.arpRequest (.range n) a b) s (fun t => t = s)) ∧
    (s.ownAddr m.val = a.toNat →
      Answers (.arpRequest (.eth m) a b) s (fun t => t = s.emit (.arp (4 + m.val) a.toNat b.toNat)))) ∧
  (∀ (port : Fin 2) (w : Half) (s : State), s.portsRun = true → s.objB 0x3104 (port.val + 1) = true →
    let v := w.toNat
    let ch := bits v 30 2
    let feed := 1 + 4 * port.val + ch
    Answers (.nearFieldWord port w ⟨true, true⟩) s (fun t =>
      t.obj 0x3105 (0x1D + port.val) = (s.obj 0x3105 (0x1D + port.val) + 1) % 2 ^ 32 ∧ t.pins = s.pins ∧ t.seq = s.seq ∧
      SameObjs [okey 0x3105 (0x1D + port.val) 0] s t ∧ Calm s t) ∧
    (crc8 [BitVec.ofNat 8 (v / 2 ^ 24), BitVec.ofNat 8 (v / 2 ^ 16), BitVec.ofNat 8 (v / 2 ^ 8)] = v % 256 →
      (∀ (q : Sluice) (f : Filling), s.bound 3 port.val ch 0 = some q → MidStrip q.stream q f s →
        (q.seq = none ∨ q.seq = some (bits v 12 4)) →
        Answers (.nearFieldWord port w ⟨false, true⟩) s (TakesLine q.stream q f (s.lineOut q (leBytes 4 v)) s)) ∧
      (bit v 11 = true → bit (s.obj 0x3112 feed) 0 = true → s.seq.hz.loaded = true → s.pw.mode ≠ .safe →
        bits v 16 13 < bits (s.obj 0x3112 feed) 16 16 → s.bound 3 port.val ch 0 = none →
        Answers (.nearFieldWord port w ⟨false, true⟩) s (fun t => t.pins.hazardN = false ∧ t.seq.hz.latch = true ∧
          t.seq.hz.holdEnd = s.clk.us * 1000 + s.obj 0x3111 1 ∧ t.obj 0x3111 4 = feed ∧ t.obj 0x3111 5 = bits v 16 13 ∧ Calm s t)) ∧
      (bit v 11 = true → bit (s.obj 0x3112 feed) 0 = true → s.seq.hz.loaded = true → s.bound 3 port.val ch 0 = none →
        Answers (.nearFieldWord port w ⟨false, false⟩) s (fun t => t.obj 0x3111 6 = (s.obj 0x3111 6 + 1) % 2 ^ 32 ∧
          t.seq.hz.latch = true)))) ∧
  (∀ (strm : Fin 96) (q : Sluice) (s : State),
    (s.seq.sluices.find? (fun q => q.stream = strm.val && q.strips.any fun t => t.diverted && t.slot.isSome) = some q →
      Answers (.divertCopyDone strm) s (fun t => (∀ r ∈ t.seq.sluices, r.stream = strm.val → r.base = q.base →
        ∀ x ∈ r.strips, x.diverted = true → x.slot = none) ∧ t.journal = s.journal ∧ Calm s t)) ∧
    (∀ n, s.seq.sluices.find? (fun q => q.stream = strm.val && q.strips.any fun t => t.n = n && t.job != .toSubmit) = some q →
      Answers (.sluiceSlotRelease strm n) s (fun t => (∀ r ∈ t.seq.sluices, r.stream = strm.val → r.base = q.base → r.on = q.on →
        ∀ x ∈ r.strips, x.n = n → x.ring = none ∧ (x.diverted = false → x.slot = none)) ∧ t.journal = s.journal ∧ Calm s t))) ∧
  (∀ (strm : Fin 96) (q : Sluice) (s : State), s.sluice? strm.val = some q → s.sluicing = true → s.streamState strm.val ≠ 4 →
    (s.objB 0x3001 1 strm.val = false ∨ s.obj 0x5001 2 ≠ 1) →
    Answers (.livenessExpiry strm) s (fun t => t.streamState strm.val = 4 ∧
      t.obj 0x3003 0x0B strm.val = (s.obj 0x3003 0x0B strm.val + 1) % 2 ^ 32 ∧ (t.sluice? strm.val).isSome = true ∧
      (∀ r ∈ t.sluice? strm.val, r.filling = none) ∧ t.journal = s.journal ∧ Calm s t)) ∧
  (∀ (n : Fin 2) (s : State), s.portsRun = true →
    (Answers (.ethernetLinkChange n false) s (fun t => bit t.ethDown n.val = true ∧ SameMemory s t ∧ t.ctxs = s.ctxs)) ∧
    (Answers (.ethernetLinkChange n true) s (fun t => bit t.ethDown n.val = false ∧ SameMemory s t ∧ t.ctxs = s.ctxs)))

/-- Strips meet their deadlines, records publish the outcomes, the Post-Processing Unit lists objects, the hazard path is tested: R214, R217, R219, R221, R222, R223, R224, R227, R297, R302, R349, R371. -/
def Obligations.StripsRecordsAndListsFollow : Prop :=
  (∀ (ready : BitVec 4) (s : State), s.sluicing = true → s.pw.pendSafe = none →
    let rec_ := s.fusedRecord s.laneOutcomes
      (s.seq.waiting.filter fun o => !(s.laneOutcomes.filterMap id).contains o).length
    Answers (.fusedStripRecord ready) s (fun t => t.obj 0x3110 6 = (s.obj 0x3110 6 + 1) % 2 ^ 64 ∧
      t.seq.waiting = (s.seq.waiting.filter fun o => !(s.laneOutcomes.filterMap id).contains o) ∧ rec_.length = 256 ∧
      (∀ k : Fin 96, field rec_ (48 + k.val) 1 =
        ((lanePick s.seq.waiting k.val).map (fun o => (o.code + o.flags) % 256)).getD 0) ∧
      field rec_ 8 8 = s.clk.ticks % 2 ^ 64 ∧ field rec_ 16 8 = s.nowNs ∧ field rec_ 6 1 = s.pw.mode.code ∧
      field rec_ 252 4 = crc32c (rec_.take 252) ∧
      (s.objBit 0x3110 1 2 = true → ready.getLsbD 2 = true →
        .hostWrite (s.obj 0x3110 4 + 256 * (s.clk.ticks % s.obj 0x3110 5)) rec_ ∈ t.out) ∧
      t.journal = s.journal ∧ t.ctxs = s.ctxs ∧ t.pw = s.pw)) ∧
  (∀ (ready : BitVec 4) (s : State), s.sluicing = false ∨ s.pw.pendSafe.isSome = true →
    Answers (.fusedStripRecord ready) s (fun t => t = s)) ∧
  (∀ (strm : Fin 96) (q : Sluice) (s : State), s.sluicing = true → s.sluice? strm.val = some q →
    let k := strm.val
    (∀ x, s.seq.sluices.filter (fun r => r.stream = k) = [q] → q.strips.filter (fun x => x.job = .toSubmit) = [x] →
      s.strip? k x.n = some x →
      let r := (if x.tried then s.bump 0x3011 7 k else s).submit (s.obj 0x3010 1 k) (s.stripDesc k x) true
      Answers (.stripJobResubmit strm) s (fun t => t.sched = r.2.sched ∧ t.journal = s.journal ∧ t.pw = s.pw ∧
        (t.strip? k x.n).map (fun u => (u.job, u.tried)) =
          ((r.2.strip? k x.n).map fun u => (if r.1 = 0 then StripJob.accepted s.sched.nextId else u.job, true)))) ∧
    (∀ (n : Nat) (x : Strip), s.strip? k n = some x →
      (x.bounded = true → Answers (.stripDeadline strm n) s (fun t => t = s)) ∧
      (x.bounded = false → Answers (.stripDeadline strm n) s (fun t => t.obj 0x3011 2 k = (s.obj 0x3011 2 k + 1) % 2 ^ 32 ∧
        t.seq.waiting = s.seq.waiting ++ [x.outcome k 2 true] ∧ (∀ u ∈ t.strip? k x.n, u.bounded = true) ∧
        t.journal = s.journal ∧ Calm s t)))) ∧
  (∀ (strm : Fin 96) (n : Nat) (s : State), s.sluicing = true →
    let k := strm.val
    (∀ (q : Sluice) (x : Strip), q.on = false → s.seq.sluices.filter (fun r => r.stream = k) = [q] →
      q.strips.filter (fun x => x.job = .toSubmit) = [x] → q.strips.find? (fun u => u.n = x.n) = some x →
      let r := (if x.tried then s.bump 0x3011 7 k else s).submit (s.obj 0x3010 1 k) (s.stripDesc k x) true
      Answers (.stripJobResubmit strm) s (fun t => t.sched = r.2.sched ∧ t.journal = s.journal ∧ t.pw = s.pw)) ∧
    ((∀ r ∈ s.seq.sluices, r.stream = k → ∀ x ∈ r.strips, x.job ≠ .toSubmit) →
      Answers (.stripJobResubmit strm) s (fun t => t = s)) ∧
    (s.outstandingStrip k n = none → Answers (.stripWithdraw strm n) s (fun t => t = s)) ∧
    (∀ (q : Sluice) (x : Strip), s.outstandingStrip k n = some (q, x) → Answers (.stripWithdraw strm n) s (fun t =>
      t.obj 0x3011 4 k = (s.obj 0x3011 4 k + 1) % 2 ^ 32 ∧
      (q.on = true → x.outcome k 0xA false ∈ t.seq.waiting) ∧ (q.on = false → t.seq.waiting = s.seq.waiting) ∧
      (∀ r ∈ t.seq.sluices, q.same r = true → ∀ u ∈ r.strips, u.n = n → u.job = .ended) ∧
      t.journal = s.journal ∧ t.pw = s.pw))) ∧
  (∀ (strm : Fin 96) (n : Nat) (c : CandCopy) (s : State), s.ppRuns = true →
    s.seq.copies.find? (fun c => c.stream = strm.val && c.strip = n) = some c →
    let a := s.resultSlot c.stream c.strip
    let had := if s.poisoned (a + 64) 4 then 0 else s.memNat (a + 64) 4
    let room := (s.obj 0x3010 5 c.stream - 128) / 16
    (s.seq.frames.find? (fun p => p.stream = c.stream && p.frame = c.frame) = none →
      Answers (.candidateCopy strm n) s (fun t => t.seq.copies = s.seq.copies.filter (fun d => d != c) ∧
        t.obj 0x3014 5 c.stream = (s.obj 0x3014 5 c.stream + had) % 2 ^ 32 ∧ t.seq.frames = s.seq.frames ∧
        t.journal = s.journal ∧ Calm s t)) ∧
    (∀ p, s.seq.frames.find? (fun p => p.stream = c.stream && p.frame = c.frame) = some p → p.started = none →
      let most := min (min had room) (65536 - p.cands.length)
      let fit := ((List.range most).find? fun i => s.poisoned (a + 128 + 16 * i) 16).getD most
      Answers (.candidateCopy strm n) s (fun t => t.seq.copies = s.seq.copies.filter (fun d => d != c) ∧
        t.obj 0x3014 3 c.stream = (s.obj 0x3014 3 c.stream + fit) % 2 ^ 32 ∧
        t.obj 0x3014 4 c.stream = (s.obj 0x3014 4 c.stream + (had - fit)) % 2 ^ 32 ∧
        ((t.seq.frames.find? (fun p => p.stream = c.stream && p.frame = c.frame)).map fun g => g.cands.map (·.data)) =
          some (p.cands.map (·.data) ++ (List.range fit).map fun i => s.memBytes (a + 128 + 16 * i) 16) ∧
        t.journal = s.journal ∧ Calm s t))) ∧
  (∀ s : State, s.ppRuns = true →
    (∀ (p : PpFrame) (rest : List PpFrame), s.seq.frames.any (·.started.isSome) = false →
      s.seq.frames.filter PpFrame.ready = p :: rest → Answers (.suppressionStart) s (fun t =>
        t = s.modFrame (rest.foldl PpFrame.first p).stream (rest.foldl PpFrame.first p).frame
          fun p => { p with started := some s.clk.ticks })) ∧
    (s.seq.frames.any (·.started.isSome) = true → Answers (.suppressionStart) s (fun t => t = s)) ∧
    (∀ p, s.seq.frames.find? (·.started.isSome) = some p →
      let b := s.frameBoxes p
      let r := suppress (s.obj 0x3013 2 p.stream) (s.obj 0x3013 3 p.stream) [] b.1
      let flags := (if p.partialIn then 2 else 0) + (if p.discarded || 0 < b.2 then 4 else 0) + (if r.2 then 8 else 0)
      Answers (.suppressionDone) s (fun t => t.obj 0x3014 1 p.stream = (s.obj 0x3014 1 p.stream + 1) % 2 ^ 32 ∧
        t.obj 0x3120 6 = (if (s.objBit 0x3120 1 0 = true ∧ bit s.ethDown 0 = false) ∨
          (s.objBit 0x3120 1 1 = true ∧ bit s.ethDown 1 = false) ∨ (s.objBit 0x3120 1 2 = true ∧ s.su.pcieUp = true)
          then (s.obj 0x3120 6 + 1) % 2 ^ 64 else s.obj 0x3120 6) ∧
        Stores (unitBase + p.stream * 0x8000) none (padTo 0x8000 (s.listFragment p flags 0 1 0 r.1.length r.1)) s t ∧
        t.seq.frames = s.seq.frames.filter (fun f => !(f.stream = p.stream && f.frame = p.frame)) ∧
        t.journal = s.journal ∧ t.ctxs = s.ctxs ∧ t.pw = s.pw)) ∧
    (∀ (strm : Fin 96) (p : PpFrame), s.seq.frames.find? (fun p => p.stream = strm.val && p.ended.isSome) = some p →
      Answers (.objectListDeadline strm) s (fun t => t.obj 0x3011 8 p.stream = (s.obj 0x3011 8 p.stream + 1) % 2 ^ 32 ∧
        t.obj 0x3014 1 p.stream = (s.obj 0x3014 1 p.stream + 1) % 2 ^ 32 ∧
        (p.started = none → Stores (unitBase + p.stream * 0x8000) none (padTo 0x8000 (s.listFragment p
          (1 + (if p.partialIn then 2 else 0) + (if p.discarded then 4 else 0)) 0 1 0 0 [])) s t) ∧
        t.seq.frames = s.seq.frames.filter (fun f => !(f.stream = p.stream && f.frame = p.frame)) ∧
        t.journal = s.journal ∧ t.ctxs = s.ctxs ∧ t.pw = s.pw))) ∧
  (∀ s : State, (s.seq.hz.latch = true → s.pw.mode ≠ .safe → Answers (.hazardHoldExpiry) s (fun t => t.seq.hz.latch = false ∧
      t.pins.hazardN = true ∧ t.obj 0x3111 2 = 0 ∧ t.obj 0x3111 3 = s.obj 0x3111 3 ∧ Calm s t)) ∧
    (s.seq.hz.latch = false → Answers (.hazardHoldExpiry) s (fun t => t = s)) ∧
    (s.portsRun = true → s.seq.hz.loaded = true → s.anyFeed = true →
      Answers (.hazardInjectionTest true) s (fun t => t.obj 0x5030 7 = (s.obj 0x5030 7 + 1) % 2 ^ objBits 0x5030 7 ∧
        t = { s with objs := t.objs }) ∧
      (Detecting s → Answers (.hazardInjectionTest false) s (Detects 0x0C s) ∧
        Answers (.hazardReadbackFault) s (Detects 0x0C s))))

/-- Syncs discipline the Time Base: acquisition, lock, jumps, holdover; the step and the timed frames: R192, R196, R197, R198, R199, R200, R201, R202, R203, R207, R212, R353. -/
def Obligations.TheTimeBaseFollowsGptp : Prop :=
  (∀ (m : GptpSync) (s : State), s.gptpOn = true → s.obj 0x9001 2 = m.port.val → s.obj 0x9001 3 = m.domain.toNat →
    s.objB 0x9002 2 = true → m.kind = .listed → s.gptp.changeAt ≠ some s.now →
    let o : Int := (s.nowNs : Int) - (m.origin + m.correction + s.obj 0x9002 3)
    let st := s.obj 0x9000 3
    let run := s.gptp.run + 1
    let within := if absNat o ≤ s.obj 0x9001 8 then s.gptp.within + 1 else 0
    let rejected (t : State) : Prop := t.obj 0x9002 7 = (s.obj 0x9002 7 + 1) % 2 ^ 32 ∧ t.obj 0x9000 4 = s.obj 0x9000 4 ∧
      t.clk = s.clk ∧ t.journal = s.journal ∧ Calm s t
    let accepted (t : State) : Prop := t.obj 0x9002 5 = (s.obj 0x9002 5 + 1) % 2 ^ 32 ∧ t.obj 0x9000 8 = ofSigned 64 o ∧
      t.gptp.seq = some m.seq.toNat ∧ t.gptp.run = run ∧ t.gptp.syncAt = some s.now ∧ t.gptp.jumps = 0 ∧ t.clk = s.clk ∧
      t.journal = s.journal ∧ Calm s t
    let steers (t : State) : Prop := ∃ a : Int, -ppm250 ≤ a ∧ a ≤ ppm250 ∧ t.obj 0x9000 4 = ofSigned 32 a
    (s.syncFits m = false → Answers (.syncReceived m) s (fun t => rejected t ∧ t.obj 0x9000 3 = st)) ∧
    (s.syncFits m = true → st = 3 → s.obj 0x9001 0x0A < absNat o →
      Answers (.syncReceived m) s (fun t => rejected t ∧ t.obj 0x9000 3 = (if s.gptp.jumps = 3 then 2 else 3))) ∧
    (s.syncFits m = true → st = 3 → absNat o ≤ s.obj 0x9001 0x0A →
      Answers (.syncReceived m) s (fun t => accepted t ∧ steers t ∧ t.obj 0x9000 3 = 3)) ∧
    (s.syncFits m = true → st ≠ 3 → run = 2 → Answers (.syncReceived m) s (fun t => accepted t ∧ t.obj 0x9000 3 = 2 ∧
      (s.obj 0x9001 9 < absNat o → t.gptp.step = some (stepOf o) ∧ t.obj 0x9000 4 = ofSigned 32 m.rate) ∧
      (absNat o ≤ s.obj 0x9001 9 → t.gptp.step = s.gptp.step ∧ steers t))) ∧
    (s.syncFits m = true → st = 2 → 2 < run → Answers (.syncReceived m) s (fun t => accepted t ∧ steers t ∧
      t.obj 0x9000 3 = (if 4 ≤ within then 3 else 2))) ∧
    (s.syncFits m = true → st ≠ 3 → run = 1 → Answers (.syncReceived m) s (fun t => accepted t ∧
      t.obj 0x9000 3 = st ∧ t.obj 0x9000 4 = s.obj 0x9000 4))) ∧
  (∀ (m : GptpSync) (s : State), s.gptpOn = true → s.obj 0x9001 2 = m.port.val →
    (m.kind = .listed → s.gptp.changeAt = some s.now → Answers (.syncReceived m) s (fun t => t = s)) ∧
    (m.kind ≠ .listed → ∀ i ∈ [Instr.syncReceived m, .announceReceived ⟨m.port, m.kind⟩ m.domain m.source 0,
      .pdelayReqReceived ⟨m.port, m.kind⟩ m.seq], Answers i s (fun t => t = s.setObj 0x9002 0x0A ((s.obj 0x9002 0x0A + 1) % 2 ^ 32)))) ∧
  (∀ s : State, s.gptpOn = true →
    let calm (t : State) : Prop := t.clk = s.clk ∧ t.journal = s.journal ∧ Calm s t
    let holds (t : State) : Prop := t.obj 0x9000 3 = 4 ∧ t.obj 0x9000 4 = ofSigned 32 s.gptp.rate ∧
      t.obj 0x9002 8 = (s.obj 0x9002 8 + 1) % 2 ^ 32 ∧ t.gptp.run = 0 ∧ calm t
    (∀ (port : Fin 2) (domain : Byte) (source : BitVec 80) (gm : BitVec 64), s.obj 0x9001 2 = port.val →
      s.obj 0x9001 3 = domain.toNat →
      let said (t : State) : Prop := t.obj 0x9002 1 = gm.toNat ∧ t.gptp.source = some source.toNat
      (s.gptp.source = none ∨ s.obj 0x9002 1 = gm.toNat → Answers (.announceReceived ⟨port, .listed⟩ domain source gm) s (fun t =>
        said t ∧ t.obj 0x9000 3 = s.obj 0x9000 3 ∧ t.obj 0x9002 9 = s.obj 0x9002 9 ∧ calm t)) ∧
      (s.gptp.source.isSome = true → s.obj 0x9002 1 ≠ gm.toNat → s.obj 0x9000 3 = 3 →
        Answers (.announceReceived ⟨port, .listed⟩ domain source gm) s (fun t => said t ∧
          t.obj 0x9002 9 = (s.obj 0x9002 9 + 1) % 2 ^ 32 ∧ holds t))) ∧
    (s.obj 0x9000 3 = 3 → Answers (.syncReceiptTimeout) s holds ∧ Answers (.announceReceiptTimeout) s holds) ∧
    (s.obj 0x9000 3 ≠ 3 → Answers (.syncReceiptTimeout) s (fun t => t = s) ∧
      Answers (.announceReceiptTimeout) s (fun t => t = s)) ∧
    (bit s.ethDown (s.obj 0x9001 2) = false → Answers (.pdelayReqTimer) s (fun t => t.gptp.asked = true ∧
      t.gptp.unanswered = s.gptp.unanswered + (if s.gptp.asked then 1 else 0) ∧
      t.gptp.pdelaySeq = (s.gptp.pdelaySeq + 1) % 65536 ∧
      (s.gptp.pdelaySeq < 65536 → t.out = .gptp 0 (s.obj 0x9001 2) s.gptp.pdelaySeq :: s.out) ∧
      t.objB 0x9002 2 = t.capable ∧ calm t)) ∧
    (∀ delay ratio : BitVec 32, s.gptp.asked = true → Answers (.pdelayRespReceived delay ratio) s (fun t =>
      t.obj 0x9002 3 = delay.toNat ∧ t.obj 0x9002 4 = ratio.toNat ∧ t.gptp.asked = false ∧ t.gptp.unanswered = 0 ∧
      t.gptp.measured = true ∧ t.objB 0x9002 2 = t.capable ∧ t.obj 0x9002 6 = (s.obj 0x9002 6 + 1) % 2 ^ 32 ∧ calm t)) ∧
    (∀ (port : Fin 2) (n : BitVec 16), s.obj 0x9001 2 = port.val → bit s.ethDown port.val = false →
      Answers (.pdelayReqReceived ⟨port, .listed⟩ n) s (fun t =>
        t = (s.emit (.gptp 1 port.val n.toNat)).emit (.gptp 2 port.val n.toNat)))) ∧
  (∀ (d : Int) (s : State), s.gptp.step = some d → s.clk.tbRun = true → Answers (.timeBaseStep) s (fun t =>
    t.clk = { s.clk with tb := (((s.clk.tb : Int) + d * 2 ^ 40) % 2 ^ 104).toNat } ∧ t.gptp = { s.gptp with step := none } ∧
    t.obj 0x9000 6 = ofSigned 64 d ∧ t.obj 0x9000 5 = (s.obj 0x9000 5 + 1) % 2 ^ objBits 0x9000 5 ∧
    (∃ a : Int, -ppm250 ≤ a ∧ a ≤ ppm250 ∧ t.obj 0x9000 4 = ofSigned 32 a) ∧
    SameObjs [okey 0x9000 4 0, okey 0x9000 5 0, okey 0x9000 6 0] s t ∧ t.timed = s.timed ∧ t.journal = s.journal ∧ Calm s t)) ∧
  (∀ (port : LaunchPort) (f : Timed) (s : State), s.clk.tbRun = true → s.pw.mode ≠ .safe →
    (s.timed.filter fun g => g.port = launchCode port) = [f] →
    let leaves : Prop := f.port < 2 ∨ (s.nmt (f.port - 2) = 5 ∧ f.data.length ≤ s.tpdoRoom (2 ^ (f.port - 2)))
    (s.pw.pendSafe = none → ¬leaves → ∀ busFree : Bool, Answers (.timedLaunch port busFree) s (fun t =>
      t = { s with timed := s.timed.erase f })) ∧
    (s.pw.pendSafe = none → leaves → Answers (.timedLaunch port true) s (fun t => t.timed = s.timed.erase f ∧
      (f.port < 2 → t.out = (if f.kind = 0 then .record f.port (s.obj 0x3110 2) (s.obj 0x3110 3) f.data
        else .objectList f.port (s.obj 0x3120 2) (s.obj 0x3120 3) f.data) :: s.out) ∧
      t.obj 0x9003 4 = (s.obj 0x9003 4 + 1) % 2 ^ objBits 0x9003 4 ∧ t.obj 0x9003 5 = s.obj 0x9003 5 ∧
      t.journal = s.journal ∧ Calm s t)) ∧
    (s.pw.pendSafe.isSome = true → Answers (.timedLaunch port true) s (fun t => t = s)))

/-- Lockstep, alive checks, the SAFE_ERR pins, the SAFE commit, and the Keepers' split and rejoin: R52, R281, R349, R350, R351, R352, R353, R356, R359, R360, R375, R502. -/
def Obligations.KeepersAndSafeFollowTheirRules : Prop :=
  (∀ (pair : Fin 2) (s : State),
    let lead : Nat := 2 * pair.val
    let calm (t : State) : Prop := t.journal = s.journal ∧ Calm { s with saf := t.saf } t
    (s.lockstep = false → Answers (.keeperLockstepMismatch pair) s (fun t => t = s)) ∧
    (s.lockstep = true → Detecting s → Answers (.keeperLockstepMismatch pair) s (fun t => Detects (1 + pair.val) s t ∧
      t.obj 0x5010 3 = (s.obj 0x5010 3 + 1) % 2 ^ 32)) ∧
    (s.coreReady lead = true → s.coreHalted lead = false →
      (∀ v, v ≠ s.saf.challenge ^^^ 0xA5A5 → Answers (.aliveResponse pair v) s (fun t =>
        t.obj 0x5010 4 = (s.obj 0x5010 4 + 1) % 2 ^ 32 ∧ t.saf = s.saf ∧ t.pins = s.pins ∧ SameObjs [okey 0x5010 4 0] s t ∧
        calm t)) ∧
      (s.saf.started = true → Answers (.aliveResponse pair (s.saf.challenge ^^^ 0xA5A5)) s (fun t =>
        t.saf = { s.saf with
          aliveA := s.saf.aliveA || pair.val = 0, aliveB := s.saf.aliveB || pair.val = 1
          toggle := s.saf.toggle || s.obj 0x5050 2 = 0 } ∧ t.pins = s.pins ∧ calm t)) ∧
      (pair.val = 0 → s.saf.started = false → s.pw.mode = .bench ∨ s.pw.mode = .drive ∨ s.pw.mode = .depot →
        s.pw.pendSafe = none → s.saf.rejoinAt = none → s.obj 0x5050 2 = 0 →
        Answers (.aliveResponse pair (s.saf.challenge ^^^ 0xA5A5)) s (fun t => t.saf.started = true ∧ t.saf.toggle = true ∧
          t.saf.checkAt = s.clk.ticks ∧ t.pins.toggling = true ∧ t.pins.err0 = (s.clk.ticks / 500 % 2 == 0) ∧
          t.pins.err1 = !(s.clk.ticks / 500 % 2 == 0) ∧ calm t)) ∧
      (s.handoverPending pair.val = true → s.saf.rejoinAt = none → Answers (.handoverAck pair) s (fun t =>
        SameObjs [] s t ∧
        t = { s with objs := t.objs
                     saf := { s.saf with ackA := s.saf.ackA || pair.val = 0, ackB := s.saf.ackB || pair.val = 1 } })) ∧
      (s.handoverPending pair.val = true → s.saf.rejoinAt.isSome = true → (if pair.val = 0 then s.saf.ackB else s.saf.ackA) →
        Answers (.handoverAck pair) s (fun t => t.saf.rejoining = true ∧ t.saf.keepersHeld = true ∧
          t.ctxs = s.ctxs.filter (fun c => c.1 < 3072) ∧ SameObjs [] s t ∧ SameMemory s t)) ∧
      (s.handoverPending pair.val = false → Answers (.handoverAck pair) s (fun t => t = s)))) ∧
  (∀ s : State,
    (s.saf.started = true → s.saf.rejoinAt = none → s.saf.keepersHeld = false → s.pw.mode.awake = true → s.pw.mode ≠ .safe →
      (s.saf.aliveA = true ∨ s.pairHalted 0 = true → s.saf.aliveB = true ∨ s.pairHalted 1 = true →
        Answers (.aliveCheck) s (fun t => ∃ ch, t = { s with
          saf := { s.saf with challenge := ch, aliveA := false, aliveB := false, checkAt := s.clk.ticks }
          freeCtr := s.freeCtr + 1 })) ∧
      ((s.saf.aliveA = false ∧ s.pairHalted 0 = false) ∨ (s.saf.aliveB = false ∧ s.pairHalted 1 = false) → Detecting s →
        Answers (.aliveCheck) s (Detects 0x04 s))) ∧
    (s.saf.started = false ∨ s.saf.rejoinAt.isSome = true → Answers (.aliveCheck) s (fun t => t = s)) ∧
    (s.clk.tbRun = true → Answers (.safeErrToggle) s (fun t => t = { s with pins := t.pins } ∧ t.pins.hazardN = s.pins.hazardN ∧
      t.pins.toggling = s.mayToggle ∧ t.pins.err0 = (s.mayToggle && s.clk.ticks / 500 % 2 == 0) ∧
      t.pins.err1 = (s.mayToggle && !(s.clk.ticks / 500 % 2 == 0)))) ∧
    (∀ (c d : Nat), s.pw.pendSafe = some (c, d) → s.pw.mode.awake = true → s.pw.mode ≠ .safe → s.held = [] →
      Answers (.safeCommit) s (fun t => t.pw.mode = .safe ∧ t.pw.prev = s.pw.mode ∧ t.pw.safeLatch = true ∧
        t.pw.safeCode = c ∧ t.pw.pendSafe = none ∧ t.pins.err0 = false ∧ t.pins.err1 = false ∧ t.saf.keepersHeld = true ∧
        t.obj 0x5000 5 = (s.obj 0x5000 5 + 1) % 2 ^ 32 ∧ t.obj 0x5050 2 = 0 ∧ t.obj 0x5050 3 = 0 ∧ t.timed = [] ∧
        t.su.loaded = false ∧ t.recov.watchdog = none ∧ (∀ p, (t.path p).armed = none ∧ (t.path p).opened = none) ∧
        t.journal = s.journal)) ∧
    (s.pw.pendSafe = none → s.held = [] → Answers (.safeCommit) s (fun t => t = s)) ∧
    (s.saf.splitAt.isSome = true → s.saf.ackA = true → s.saf.ackB = true →
      Answers (.keeperSplitCommit) s (fun t => t.obj 0x2001 5 = 2 ∧ t.obj 0x5010 2 = 2 ∧
        t.obj 0x5010 5 = (s.obj 0x5010 5 + 1) % 2 ^ 32 ∧ t.ctx (.keeper 1) = { Ctx.zero with pc := 0xF100100000 } ∧
        t.ctx (.keeper 3) = { Ctx.zero with pc := 0xF100300000 } ∧
        (∀ h, h ≠ .keeper 1 → h ≠ .keeper 3 → t.ctx h = s.ctx h) ∧
        SameObjs [okey 0x2001 5 0, okey 0x5010 2 0, okey 0x5010 5 0] s t ∧ SameMemory s t) ∧
      Answers (.keeperSplitTimeout) s (fun t => t = s)) ∧
    (s.saf.splitAt.isSome = true → s.saf.ackA = false ∨ s.saf.ackB = false →
      Answers (.keeperSplitCommit) s (fun t => t = s) ∧
      Answers (.keeperSplitTimeout) s (fun t => t.obj 0x5010 2 = 0x11 ∧ SameObjs [okey 0x5010 2 0] s t ∧
        t = { s with objs := t.objs, saf := { s.saf with splitAt := none, ackA := false, ackB := false } })) ∧
    (s.saf.rejoinAt.isSome = true → s.saf.rejoining = false → Answers (.keeperRejoinAckTimeout) s (fun t =>
      t = { s with saf := { s.saf with rejoining := true, keepersHeld := true }
                   ctxs := s.ctxs.filter fun c => c.1 < 3072 })) ∧
    (s.saf.rejoining = true →
      (Detecting s → Answers (.keeperRejoinDone false) s (fun t => Detects 0x0E s t ∧ t.obj 0x5010 2 = 0x12 ∧
        t.obj 0x5030 2 = (s.obj 0x5030 2 + 1) % 2 ^ objBits 0x5030 2)) ∧
      (s.pw.mode = .handover ∨ s.su.freshOk = true ∨ s.residentOk = true → Answers (.keeperRejoinDone true) s (fun t =>
        t.saf.rejoinAt = none ∧ t.saf.rejoining = false ∧ t.saf.keepersHeld = false ∧ t.obj 0x5010 1 = 0 ∧
        t.obj 0x5010 2 = 2 ∧ t.obj 0x2001 5 = (if s.su.boot.lean then 1 else 0) ∧ t.mem = (s.placeSections (s.staged s.su.imageLen)
          fun k => k = 1 || k = 2).mem ∧ (t.ctx (.keeper 0)).pc = 0xF100000000 ∧ (t.ctx (.keeper 2)).pc = 0xF100200000))))

/-- Twin compares, the rotating LBIST, the scrubs, and the clock and supply monitors: R40, R140, R249, R347, R349, R362, R363, R365, R366, R367, R368, R369. -/
def Obligations.TestsScrubsAndMonitorsFollowTheirRules : Prop :=
  (∀ (pair : Fin 24) (ctx : Fin 64) (s : State),
    let e : Nat := 2 * pair.val
    (s.twinned = true → Answers (.twinPeriodicCompare pair ctx true) s (fun t => t = s)) ∧
    (s.jobOf (e * 64 + ctx.val) = none → ∀ agree, Answers (.twinPeriodicCompare pair ctx agree) s (fun t => t = s)) ∧
    (∀ j, s.twinned = true → s.jobOf (e * 64 + ctx.val) = some j → s.job j.id = some j → j.cancelling = false →
      s.outOfService e = false → (s.engine e).dike = none → Answers (.twinPeriodicCompare pair ctx false) s (fun t =>
        t.obj 0x5020 3 = (s.obj 0x5020 3 + 1) % 2 ^ objBits 0x5020 3 ∧ t.obj 0x5020 4 = e ∧
        t.obj 0x4020 4 e = (s.obj 0x4020 4 e + 1) % 2 ^ objBits 0x4020 4 ∧ (t.engine e).dike.isSome = true ∧
        (t.job j.id).map (fun k => (k.phase, k.status)) = some (.ended, 5) ∧ t.journal = s.journal)) ∧
    (∀ d, (s.engine e).dike = some d → d.step = 7 → d.cause = 2 →
      Answers (.postMismatchLbistDone pair true true) s (fun t =>
        t.engine e = { s.engine e with dike := some { d with step := 6 } } ∧ t = { s with engines := t.engines }) ∧
      (∀ a b, (a && b) = false → Answers (.postMismatchLbistDone pair a b) s (fun t =>
        (a = false → t.outOfService e = true) ∧ (b = false → t.outOfService (e + 1) = true) ∧ SameMemory s t)))) ∧
  (∀ (e : Fin 48) (s : State),
    (s.lbistRuns e.val = true → (∀ k : Fin 48, (s.engine k.val).withdrawn = false) →
      ((s.engine e.val).skipped = false → Answers (.lbistWithdraw e) s (fun t => t = { s with engines := t.engines } ∧
        ∀ k, t.engine k = { s.engine k with withdrawn := (s.engine k).withdrawn || (s.unitOf e.val).contains k })) ∧
      ((s.engine e.val).skipped = true → s.outOfService (s.lead e.val) = false → (s.engine (s.lead e.val)).dike = none →
        Answers (.lbistWithdraw e) s (fun t => (t.engine (s.lead e.val)).dike.map (·.cause) = some 4 ∧
          (t.engine e.val).skipped = false ∧
          t.obj 0x4020 4 (s.lead e.val) = (s.obj 0x4020 4 (s.lead e.val) + 1) % 2 ^ objBits 0x4020 4))) ∧
    (s.lbistRuns e.val = true → (s.engine e.val).withdrawn = true →
      ((s.engine (s.lead e.val)).dike = none → (∀ k ∈ s.unitOf e.val, s.objBit 0x5050 3 k = false) →
        Answers (.lbistSlotStart e) s (fun t => t = { s with engines := t.engines } ∧
          ∀ k, t.engine k = { s.engine k with testing := (s.engine k).testing || (s.unitOf e.val).contains k })) ∧
      ((s.engine (s.lead e.val)).dike.isSome = true → Answers (.lbistSlotStart e) s (fun t =>
        t.obj 0x5030 4 = (s.obj 0x5030 4 + 1) % 2 ^ objBits 0x5030 4 ∧ (t.engine e.val).withdrawn = false ∧
        (t.engine e.val).testing = false ∧ SameObjs [okey 0x5030 4 0] s t ∧ t = { s with objs := t.objs, engines := t.engines })) ∧
      ((s.engine (s.lead e.val)).dike = none → s.objBit 0x5050 3 e.val = true → Answers (.lbistSlotStart e) s (fun t =>
        (t.engine e.val).withdrawn = false ∧ (t.engine e.val).testing = false ∧ t = { s with engines := t.engines }))) ∧
    ((s.engine e.val).withdrawn = false → Answers (.lbistSlotStart e) s (fun t => t = s)) ∧
    ((s.engine e.val).testing = true →
      Answers (.lbistSkip e) s (fun t => t.obj 0x5030 4 = (s.obj 0x5030 4 + 1) % 2 ^ objBits 0x5030 4 ∧
        (t.engine e.val).withdrawn = false ∧ (t.engine e.val).testing = false ∧ (t.engine e.val).skipped = true ∧
        SameObjs [okey 0x5030 4 0] s t ∧ t = { s with objs := t.objs, engines := t.engines }) ∧
      Answers (.lbistTestDone e true) s (fun t => t.obj 0x5030 1 = (s.obj 0x5030 1 + 1) % 2 ^ objBits 0x5030 1 ∧
        t.obj 0x5030 3 = e.val ∧ (t.engine e.val).withdrawn = false ∧ (t.engine e.val).testing = false ∧
        (t.engine e.val).skipped = false ∧ SameObjs [okey 0x5030 1 0, okey 0x5030 3 0] s t ∧
        t = { s with objs := t.objs, engines := t.engines }) ∧
      Answers (.lbistTestDone e false) s (fun t => t.outOfService e.val = true ∧ t.obj 0x5030 3 = e.val ∧
        (s.outOfService e.val = false → t.obj 0x5030 2 = (s.obj 0x5030 2 + 1) % 2 ^ objBits 0x5030 2) ∧ SameMemory s t)) ∧
    (∀ d, (s.engine (s.lead e.val)).dike = some d → (s.engine e.val).testing = false → d.step = 7 → d.cause = 4 →
      Answers (.lbistTestDone e true) s (fun t => (t.engine (s.lead e.val)).dike = some { d with step := 6 } ∧
        t.obj 0x5030 1 = (s.obj 0x5030 1 + 1) % 2 ^ objBits 0x5030 1 ∧ t.obj 0x5030 3 = e.val) ∧
      Answers (.lbistTestDone e false) s (fun t => t.outOfService e.val = true ∧ SameMemory s t)) ∧
    (∀ errs : List ScrubError, (∀ x ∈ errs, x.ecc = .singleData) →
      let last : Bool := (List.range 48).all fun k =>
        s.outOfService k || 1 < s.obj 0x4000 1 k || k = e.val || s.saf.scrubbed.testBit k
      (s.pw.mode.awake = true → s.pw.mode ≠ .safe → s.su.enginesTested = true → s.outOfService e.val = false →
        s.obj 0x4000 1 e.val ≤ 1 → Answers (.storeRoomScrub e errs) s (fun t =>
          t.obj 0x4000 6 e.val = (s.obj 0x4000 6 e.val + errs.length) % 2 ^ 32 ∧
          t.obj 0x5030 5 = (if last then (s.obj 0x5030 5 + 1) % 2 ^ 32 else s.obj 0x5030 5) ∧
          (last = true → t.saf = { s.saf with scrubbed := 0 }) ∧ (last = false → t.saf.scrubbed.testBit e.val = true) ∧
          SameObjs [okey 0x4000 6 e.val, okey 0x5030 5 0] s t ∧ Calm { s with saf := t.saf } t)) ∧
      (s.pw.mode = .bench ∨ s.pw.mode = .drive → (∀ x ∈ errs, s.hostRegion ≤ x.addr ∧ x.addr < cellarEnd ∧ storeOf x.addr = none) →
        Answers (.cellarScrub errs) s (fun t => t.obj 0x4800 7 = (s.obj 0x4800 7 + errs.length) % 2 ^ 32 ∧
          t.obj 0x5030 6 = (s.obj 0x5030 6 + 1) % 2 ^ 32 ∧ SameObjs [okey 0x4800 7 0, okey 0x5030 6 0] s t ∧ Calm s t)))) ∧
  (∀ (k : MonClock) (r : Fin 8) (high : Bool) (mv : BitVec 16) (s : State),
    (∀ lost, Detecting s → s.pw.mode.awake = true → s.su.pllOn = true ∨ k = .refclk → Answers (.clockMonitorFault k lost) s (fun t =>
      Detects 0x08 s t ∧ t.obj 0x5040 1 = (s.obj 0x5040 1 + 1) % 2 ^ 32 ∧
      t.obj 0x5040 2 = k.code + (if lost then 256 else 0) ∧ (lost = true → t.saf.unlocked.testBit k.code = true))) ∧
    (∀ lost, s.pw.mode = .safe → s.su.pllOn = true ∨ k = .refclk → Answers (.clockMonitorFault k lost) s (fun t =>
      t.obj 0x5000 8 = (s.obj 0x5000 8 + 1) % 2 ^ 32 ∧ SameObjs [okey 0x5000 8 0] s t ∧ t.pw = s.pw ∧ t.saf = s.saf ∧ t.journal = s.journal ∧
      SameMemory s t)) ∧
    Answers (.pllLockRegained k) s (fun t => t.saf.unlocked.testBit k.code = false ∧ t = { s with saf := { s.saf with unlocked := t.saf.unlocked } }) ∧
    (s.pw.mode = .off → Answers (.railFault r high mv) s (fun t => t = s) ∧ Answers (.railReturnToRange r mv) s (fun t => t = s)) ∧
    (s.pw.mode ≠ .off → Answers (.railFault 2 high mv) s (fun t => t.pw.mode = .off ∧ t.pw.vaonOk = false ∧ OutputsOff t ∧
      t.attic = s.attic)) ∧
    (s.pw.mode = .parked → r.val ≠ 2 → Answers (.railFault r high mv) s (fun t => t.obj 0x5040 (5 + r.val) = mv.toNat ∧
      t.pw.railsOut.testBit r.val = true ∧ SameObjs [okey 0x5040 (5 + r.val) 0] s t ∧
      t = { s with objs := t.objs, pw := { s.pw with railsOut := t.pw.railsOut } })) ∧
    (Detecting s → r.val ≠ 2 → Answers (.railFault r high mv) s (fun t => Detects 9 s t ∧ t.obj 0x5040 (5 + r.val) = mv.toNat ∧
      t.obj 0x5040 4 = r.val ∧ t.obj 0x5040 3 = (s.obj 0x5040 3 + 1) % 2 ^ objBits 0x5040 3 ∧ t.pw.railsOut.testBit r.val = true)) ∧
    (s.pw.mode ≠ .off → Answers (.railReturnToRange r mv) s (fun t => t.obj 0x5040 (5 + r.val) = mv.toNat ∧
      t.pw.railsOut.testBit r.val = false ∧ t.ctxs = s.ctxs ∧ SameMemory s t ∧ t.pins = s.pins)))

/-- The dike sequence, the watchdog, the deadlock scan, count sources, weirs and samples: R341, R363, R380, R382, R383, R385, R389, R394, R401, R406, R414, R415. -/
def Obligations.DikesRunTheirSequences : Prop :=
  (∀ (e : Fin 48) (s : State),
    let l : Nat := s.lead e.val
    let u : List Nat := s.unitOf e.val
    (∀ d, (s.engine l).dike = some d → d.step = 2 → Answers (.dikeDrainExpiry e) s (fun t =>
      (t.engine l).dike = some { d with step := 4 } ∧ (∀ j ∈ t.sched.jobs, ¬(j.phase = .running ∧ j.engine = l)) ∧
      (∀ j ∈ s.jobsOn l, s.job j.id = some j → j.cancelling = false → (t.job j.id).map (fun k => (k.phase, k.status)) = some (.ended, 5)) ∧
      t.journal = s.journal ∧ t.pw = s.pw)) ∧
    (s.dikeAt e.val 4 = none → Answers (.dikeResetDone e) s (fun t => t = s)) ∧
    (∀ d, s.dikeAt e.val 4 = some d → Answers (.dikeResetDone e) s (fun t =>
      (t.engine l).dike = some { d with step := 5 } ∧
      (∀ k ∈ u, (t.engine k).tops = [] ∧ (t.engine k).barriers = [] ∧ (t.engine k).dir = [] ∧ t.smp.inFlight.testBit k = false) ∧
      (∀ g : Fin 3072, t.ctx (.ctx g) = if u.contains (g.val / 64) then Ctx.zero else s.ctx (.ctx g)) ∧
      (∀ c : Fin 4, t.ctx (.keeper c) = s.ctx (.keeper c)) ∧ (∀ r ∈ t.recReqs, ¬u.contains (portEngine r.port)) ∧
      (s.recReqs = [] → SameMemory s t) ∧ t.journal = s.journal ∧ t.pw = s.pw ∧ t.sched = s.sched)) ∧
    (s.dikeAt e.val 5 = none → Answers (.dikeScrubDone e) s (fun t => t = s)) ∧
    (∀ d, s.dikeAt e.val 5 = some d →
      (d.final = false → Answers (.dikeScrubDone e) s (fun t =>
        (t.engine l).dike = some { d with step := if d.cause = 2 ∨ d.cause = 4 then 7 else 6 } ∧ t.objs = s.objs ∧
        ∀ a, t.memByte a = if u.any (fun k => storeRoom k ≤ a ∧ a < storeRoom k + 0x200000) then 0 else s.memByte a)) ∧
      (d.final = true → Answers (.dikeScrubDone e) s (fun t => t.outOfService l = true ∧
        ∀ a, t.memByte a = if u.any (fun k => storeRoom k ≤ a ∧ a < storeRoom k + 0x200000) then 0 else s.memByte a))) ∧
    (s.dikeAt e.val 6 = none → Answers (.dikeOpen e) s (fun t => t = s)) ∧
    (∀ d, s.dikeAt e.val 6 = some d → d.inReset = false → (∀ r ∈ s.sched.resets, r.left.head? ≠ some l) →
      Answers (.dikeOpen e) s (fun t => t.engine l = { s.engine l with dike := none } ∧
        t.recov.log.head?.map (fun b => (field b 8 1, field b 9 1, field b 11 1)) = some (2, l, d.cause % 256) ∧
        SameObjs [okey 0x5120 1 0] s t ∧ SameMemory s t ∧ t.ctxs = s.ctxs ∧ t.sched = s.sched)) ∧
    (∀ d r k rest, s.dikeAt e.val 6 = some d → s.sched.resets = [r] → r.left = l :: k :: rest → k ≠ l → s.lead k = k →
      s.outOfService k = false → (s.engine k).dike = none → Answers (.dikeOpen e) s (fun t =>
        (t.engine l).dike = none ∧ (t.engine k).dike.map (·.cause) = some 1 ∧ t.sched.resets = [{ r with left := k :: rest }])) ∧
    (∀ info, (s.smp.inFlight.testBit e.val = false → Answers (.sampledInstructionDone e info) s (fun t => t = s)) ∧
      (s.smp.inFlight.testBit e.val = true → Answers (.sampledInstructionDone e info) s (fun t =>
        t.smp.inFlight.testBit e.val = false ∧ (∀ k, k ≠ e.val → t.smp.inFlight.testBit k = s.smp.inFlight.testBit k) ∧
        (if s.obj 0x7040 3 = 0 ∧ 512 ≤ s.smp.records.length then
          t.smp.records = s.smp.records ∧ t.obj 0x7040 5 = (s.obj 0x7040 5 + 1) % 2 ^ 32 ∧ SameObjs [okey 0x7040 5 0] s t
        else t.smp.records = (s.sampleRecord e.val info :: s.smp.records).take 512 ∧ t.objs = s.objs) ∧ Calm s t)))) ∧
  (∀ s : State,
    let seen (c : List Nat) : Bool :=
      s.recov.lastScan.contains (c.filter (· < 3072), (c.filter (3072 ≤ ·)).map (· - 3072))
    (s.pw.mode.awake = true → s.clk.tbRun = true → Answers (.countSourceSample) s (fun t =>
      (∀ c ∈ countSources, Amap.get 0 t.edge (c.1 * 65536 + c.2) = s.countOf c.1 c.2) ∧
      ((∀ m : Fin 24, s.obj 0x7000 1 m.val = 0) → t = { s with edge := t.edge }) ∧
      (∀ m : Fin 24, s.obj 0x7000 1 m.val = 0x0A → s.obj 0x7000 2 m.val = 0 →
        t.obj 0x7001 1 m.val = (s.obj 0x7001 1 m.val + 1) % 2 ^ 64 ∧
        t.obj 0x7001 5 m.val = ofSigned 64 (s.countSince 0x0A 0)) ∧ Calm s t)) ∧
    (s.pw.mode.awake = false → Answers (.countSourceSample) s (fun t => t = s)) ∧
    (∀ m : Fin 24,
      (s.pw.mode.awake = true → (s.mon m.val).pendingNote = true → Answers (.weirHoldoffEnd m) s (fun t =>
        t.mon m.val = { holdoff := s.now + 1000, pendingNote := false } ∧
        t.obj 0x7001 9 m.val = (s.obj 0x7001 9 m.val + 1) % 2 ^ objBits 0x7001 9 ∧ Calm s t)) ∧
      ((s.mon m.val).pendingNote = false → Answers (.weirHoldoffEnd m) s (fun t => t = s))) ∧
    (s.recov.watchdog = none → Answers (.watchdogExpiry) s (fun t => t = s)) ∧
    (s.recov.watchdog.isSome = true → s.pw.mode = .drive → s.obj 0x5100 5 = 1 → Detecting s →
      Answers (.watchdogExpiry) s (fun t => Detects 0x11 s t ∧ t.recov.watchdog = none ∧
        t.obj 0x5100 6 = (s.obj 0x5100 6 + 1) % 2 ^ objBits 0x5100 6)) ∧
    (s.recov.watchdog.isSome = true → s.pw.mode ≠ .drive ∨ s.obj 0x5100 5 ≠ 1 → Answers (.watchdogExpiry) s (fun t =>
      t.recov.watchdog = some (s.now + 1000 * s.obj 0x5100 2) ∧ t.recov.kickAt = s.now ∧
      t.obj 0x5100 6 = (s.obj 0x5100 6 + 1) % 2 ^ objBits 0x5100 6 ∧
      t.recov.log.head?.map (fun b => field b 8 1) = some 7 ∧ Calm { s with recov := t.recov } t)) ∧
    (s.pw.mode = .bench ∨ s.pw.mode = .drive ∨ s.pw.mode = .depot ∨ s.pw.mode = .handover →
      ((∀ c ∈ s.waitCycles, seen c = false) → Answers (.deadlockScan) s (fun t => t = { s with recov := { s.recov with
        lastScan := s.waitCycles.map fun c => (c.filter (· < 3072), (c.filter (3072 ≤ ·)).map (· - 3072)) } })) ∧
      (∀ c, s.waitCycles = [c] → seen c = true → Answers (.deadlockScan) s (fun t =>
        t.obj 0x5120 5 = (s.obj 0x5120 5 + 1) % 2 ^ objBits 0x5120 5 ∧
        ∀ g ∈ c, g < 3072 → s.outOfService (s.lead (g / 64)) = false → (t.engine (s.lead (g / 64))).dike.isSome = true))) ∧
    (s.pw.mode = .safe → Answers (.deadlockScan) s (fun t => t = s)))

/-- The adaptive loops, the disagreement journal, the power limit, the temperature monitor and the derating: R60, R248, R370, R478, R479, R480, R482, R483, R484, R486, R487, R488. -/
def Obligations.LoopsStayInTheirRanges : Prop :=
  (∀ f c lo hi v, f ≤ c → lo ≤ hi → lo ≤ loopPick f c lo hi v ∧ loopPick f c lo hi v ≤ hi ∧
    (lo ≤ c → f ≤ hi → f ≤ loopPick f c lo hi v ∧ loopPick f c lo hi v ≤ c ∧
      (f ≤ v → v ≤ c → lo ≤ v → v ≤ hi → loopPick f c lo hi v = v))) ∧
  (∀ s : State, s.loopsRun = true →
    let judged (n f c v : Nat) (t : State) : Prop :=
      let outside : Bool := v < f || c < v
      t.loops.outside.testBit n = outside ∧
      (if outside = true ∧ s.loops.outside.testBit n = false then
        t.obj 0xB020 1 = (s.obj 0xB020 1 + 1) % 2 ^ objBits 0xB020 1 ∧ t.obj 0xB020 (2 + n) = (s.obj 0xB020 (2 + n) + 1) % 2 ^ objBits 0xB020 (2 + n) ∧
        t.obj 0xB020 7 = n + 1 ∧ t.obj 0xB020 8 = (if v < f then f else c) ∧ t.obj 0xB020 9 = v
      else t.obj 0xB020 1 = s.obj 0xB020 1 ∧ t.journal = s.journal)
    (∀ (path : BitVec 16) (margin warning acked : Bool),
      let v := s.obj 0xB021 3
      let lo := min 850 (max 650 (path.toNat + 10))
      let since := if margin && !warning then some (s.loops.marginSince.getD s.clk.ticks) else none
      let want := if warning then v + 5 else if since.any (fun t => t + 1000 ≤ s.clk.ticks) then v - 5 else v
      let new := if s.objB 0xB030 5 then v else loopPick (s.obj 0xB021 1) (s.obj 0xB021 2) lo 850 want
      Answers (.avsEvaluation path margin warning acked) s (fun t =>
        t.obj 0xB021 4 = lo ∧ t.obj 0xB021 3 = new ∧ t.loops.marginSince = since ∧ judged 0 (s.obj 0xB021 1) (s.obj 0xB021 2) new t ∧
        (if s.objB 0xB030 5 = true ∨ new ≠ v then
          t.obj 0xB030 1 = (s.obj 0xB030 1 + 1) % 2 ^ objBits 0xB030 1 ∧ t.pw = { s.pw with avsSet := new } ∧ Output.avs new ∈ t.out ∧
          (acked = true → t.obj 0xB030 2 = new ∧ t.obj 0xB030 5 = 0)
        else t.obj 0xB030 1 = s.obj 0xB030 1 ∧ t.pw = s.pw) ∧ t.ctxs = s.ctxs ∧ SameMemory s t)) ∧
    (s.loops.stretch = false → Answers (.droopTrip) s (fun t =>
      t.obj 0xB022 4 = (s.obj 0xB022 4 + 1) % 2 ^ objBits 0xB022 4 ∧ SameObjs [okey 0xB022 4 0] s t ∧
      t = { s with objs := t.objs, loops := { s.loops with stretch := true, stretches := s.now :: s.loops.stretches } })) ∧
    (s.loops.stretch = true → Answers (.droopTrip) s (fun t => t = s)) ∧
    (let recent := s.loops.stretches.filter fun t => s.now ≤ t + 1000
     let m := s.obj 0xB022 3
     let calm := if recent.isEmpty && !s.loops.stretch then s.loops.calmDroop + 1 else 0
     let new := loopPick (s.obj 0xB022 1) (s.obj 0xB022 2) 15 45 (if closePair recent then m + 5 else if calm = 100 then m - 5 else m)
     Answers (.droopMarginEvaluation) s (fun t => t.obj 0xB022 3 = new ∧ judged 1 (s.obj 0xB022 1) (s.obj 0xB022 2) new t ∧
       t.loops.calmDroop = (if calm = 100 then 0 else calm) ∧ t.loops.stretches = recent ∧ Calm s t)) ∧
    (∀ (avg : BitVec 32) (rails : List (BitVec 16)) (traffic : Nat),
      let cap := s.powerCap
      let l := s.obj 0xB024 3
      let since := s.loops.lowPower.getD s.now
      Answers (.powerSample avg rails traffic) s (fun t => t.obj 0xB024 2 = avg.toNat ∧
        t.obj 0xB024 4 = max (s.obj 0xB024 4) avg.toNat ∧
        (∀ r : Fin 8, r.val < rails.length → t.obj 0x5040 (5 + r.val) = s.trimRail r.val (rails.getD r.val 0).toNat % 65536) ∧
        (if s.pw.mode = .depot ∨ s.pw.mode = .bench ∨ s.pw.mode = .handover then
          (if cap < avg.toNat then t.obj 0xB024 3 = max 1 (l - 1) ∧ t.loops.lowPower = none
          else if 95 * cap < 100 * avg.toNat then t.obj 0xB024 3 = l ∧ t.loops.lowPower = none
          else if s.now < since + 10000 then t.obj 0xB024 3 = l ∧ t.loops.lowPower = some since
          else t.obj 0xB024 3 = min 16 (l + 1) ∧ t.loops.lowPower = some s.now)
        else t.obj 0xB024 3 = l ∧ t.loops = s.loops) ∧ Calm s t)) ∧
    (let calm := if s.loops.forced then 0 else s.loops.calmSpill + 1
     let since := if s.loops.forcedSafe then 0 else min 100 (s.loops.sinceSafe + 1)
     let hi := if s.pw.mode = .drive && since < 100 then 3 else 4
     let l := s.obj 0x3106 3
     let new := loopPick (s.obj 0x3106 1) (s.obj 0x3106 2) 2 hi (if s.loops.forced then l - 1 else if calm = 100 then l + 1 else l)
     Answers (.spillLevelEvaluation) s (fun t => t.obj 0x3106 3 = new ∧ t.obj 0xB025 1 = hi ∧
       t.obj 0xB025 2 = (if new = l then s.obj 0xB025 2 else (s.obj 0xB025 2 + 1) % 2 ^ objBits 0xB025 2) ∧
       t.loops.forced = false ∧ t.loops.forcedSafe = false ∧ t.loops.sinceSafe = since ∧
       t.loops.calmSpill = (if calm = 100 then 0 else calm) ∧ judged 4 (s.obj 0x3106 1) (s.obj 0x3106 2) new t ∧ Calm s t)) ∧
    (∀ (sensors : List Int) (a b : Int),
      let l := s.trimTemps sensors
      let top := l.foldl max (l.getD 0 0)
      let fit : Bool := top ≤ 1250 && l.all (fun v => -400 ≤ v) && (s.apartNow l).all (· < 3)
      (Answers (.temperatureSample sensors a b) s (fun t =>
        t.obj 0xB003 1 = ofSigned 16 top ∧ (∀ k : Fin 8, t.obj 0x5040 (0x0D + k.val) = ofSigned 16 (l.getD k.val 0)) ∧
        t.obj 0x4800 5 = ofSigned 16 a ∧ t.obj 0x4800 6 = ofSigned 16 b ∧ t.loops.apart = s.apartNow l ∧
        t.loops.cool = (if top ≤ 930 then s.loops.cool + 1 else 0) ∧
        (s.obj 0x4800 1 = 0 → if 950 < top then t.obj 0x4800 1 = 1 ∧ t.obj 0x4800 2 = 1950 ∧
            t.obj 0x4800 3 = (s.obj 0x4800 3 + 1) % 2 ^ objBits 0x4800 3
          else t.obj 0x4800 1 = 0 ∧ t.obj 0x4800 2 = s.obj 0x4800 2 ∧ t.obj 0x4800 3 = s.obj 0x4800 3) ∧
        (s.obj 0x4800 1 = 1 → if top ≤ 930 ∧ 99 ≤ s.loops.cool then t.obj 0x4800 1 = 0 ∧ t.obj 0x4800 2 = 3900
          else t.obj 0x4800 1 = 1 ∧ t.obj 0x4800 2 = s.obj 0x4800 2) ∧
        t.obj 0xB023 4 = (if s.pw.mode = .depot ∨ s.pw.mode = .bench then
          s.loops.recentH.foldl (fun h p => min h (p + 2)) (thermalLimit top) else 16) ∧ t.obj 0xB023 3 = t.duty ∧
        t.throttling = (s.pw.mode = .depot && t.obj 0xB023 4 < 16) ∧ t.ctxs = s.ctxs ∧ SameMemory s t ∧
        (fit = true → t.pw = s.pw ∧ t.pins = s.pins ∧ t.tempOut = false))) ∧
      (fit = false → Detecting s → Answers (.temperatureSample sensors a b) s (Detects 0x0A s)))) ∧
  (∀ s : State,
    (∀ fault, s.pw.mode ≠ .off → Answers (.avsNoResponse fault) s (fun t => t.obj 0xB030 5 = 1 ∧
      t.obj 0xB030 (if fault then 4 else 3) = (s.obj 0xB030 (if fault then 4 else 3) + 1) % 2 ^ objBits 0xB030 (if fault then 4 else 3) ∧
      SameObjs [okey 0xB030 5 0, okey 0xB030 (if fault then 4 else 3) 0] s t ∧ t = { s with objs := t.objs })) ∧
    (∀ cycles : BitVec 32,
      (s.loops.stretch = true → Answers (.droopRelease cycles) s (fun t =>
        t.obj 0xB022 5 = (s.obj 0xB022 5 + cycles.toNat) % 2 ^ objBits 0xB022 5 ∧
        t.obj 0xB022 6 = max (s.obj 0xB022 6) cycles.toNat ∧ SameObjs [okey 0xB022 5 0, okey 0xB022 6 0] s t ∧
        t = { s with objs := t.objs, loops := { s.loops with stretch := false } })) ∧
      (s.loops.stretch = false → Answers (.droopRelease cycles) s (fun t => t = s))) ∧
    (s.loops.pendJournal = true → Answers (.disagreementHoldoffEnd) s (fun t =>
      Journaled 0x3F 0xB020 1 0xFFFF s.loops.journalCount (s.obj 0xB020 1) s t ∧
      t.obj 0xB020 0x0A = (s.obj 0xB020 0x0A + 1) % 2 ^ objBits 0xB020 0x0A ∧
      t.loops = { s.loops with journalAt := some s.clk.ticks, journalCount := s.obj 0xB020 1, pendJournal := false } ∧ Calm s t)) ∧
    (s.loops.pendJournal = false → Answers (.disagreementHoldoffEnd) s (fun t => t = s)) ∧
    (∀ sensors a b, s.pw.mode = .parked → Answers (.temperatureSample sensors a b) s (fun t =>
      t.obj 0xB003 1 = ofSigned 16 ((s.trimTemps sensors).foldl max ((s.trimTemps sensors).getD 0 0)) ∧
      SameObjs [okey 0xB003 1 0] s t ∧ t = { s with objs := t.objs })))

/-- Attic writes, calibration sets, gating, DOZE, and the BAR4 window: R61, R62, R63, R101, R185, R186, R188, R191, R241, R330, R353, R355. -/
def Obligations.AtticPoldersAndBar4FollowTheirRules : Prop :=
  (∀ s : State, (s.path 1).next = [] → (s.path 2).next = [] → s.casc.dict = [] →
    (s.attic.queue = [] → ∀ v, Answers (.atticWriteDone v) s (fun t => t = s)) ∧
    (∀ w rest, s.attic.queue = w :: rest → w.idx = 0x2040 → 1 ≤ w.sub → w.sub ≤ 5 → w.chan = 0xFFFF → s.obj 0x8002 12 < 9999 →
      Answers (.atticWriteDone true) s (fun t => t.attic.queue = rest ∧ t.obj 0x2040 w.sub = leVal w.data ∧
        t.obj 0x8002 12 = s.obj 0x8002 12 + 1 ∧
        (∃ e ∈ t.journal.entries, e.idx = 0x2040 ∧ e.sub = w.sub ∧ e.path = w.path ∧ e.state = w.state ∧
          e.old = s.obj 0x2040 w.sub % 2 ^ 64 ∧ e.new = leVal (w.data.take 8) % 2 ^ 64) ∧
        SameObjs [okey 0x2040 w.sub 0, okey 0x8002 12 0] s t ∧ Calm { s with attic := t.attic } t) ∧
      Answers (.atticWriteDone false) s (fun t => t.attic.queue = rest ∧ t.obj 0x8002 12 = s.obj 0x8002 12 + 1 ∧
        (t.path w.path).refusal = 0x08000020 ∧ (t.path w.path).refused = w.idx * 256 + w.sub ∧ t.journal = s.journal ∧
        SameObjs [okey 0x8002 12 0] s t ∧ Calm { s with attic := t.attic } t)) ∧
    (s.attic.pendSet = none → Answers (.calibrationAreaCommit) s (fun t => t = s)) ∧
    (∀ w, s.attic.pendSet = some w → s.obj 0x8001 3 = 0 → Answers (.calibrationAreaCommit) s (fun t =>
      t.attic.pendSet = none ∧ t.obj 0x8001 3 = 1 ∧ t.attic.commitB = true ∧ t.attic.areaB = s.attic.areaB ∧ t.attic.areaA = [] ∧
      t.attic.commitA = false ∧ t.obj 0x8001 1 = field s.attic.areaB 12 4 ∧ t.obj 0x8001 2 = field s.attic.areaB 16 1 ∧
      t.obj 0x8001 6 = (s.obj 0x8001 6 + 1) % 2 ^ objBits 0x8001 6 ∧
      (∃ e ∈ t.journal.entries, e.idx = 0x8000 ∧ e.sub = 0 ∧ e.path = w.path ∧ e.state = w.state) ∧
      (s.pw.mode ≠ .bench → SameMemory s t) ∧ t.ctxs = s.ctxs ∧ t.pw = s.pw))) ∧
  (∀ (p : Path) (set : List Byte) (s : State), Serving p s → s.pw.mode = .bench → s.windowOpen p.code = true →
    (∀ k : Fin 96, s.streamOn k.val = false) → s.attic.pendSet = none →
    ((s.calJudge set).1 ≠ 0 → ∀ v, Answers (.calibrationSetWrite p set v) s (fun t =>
      Acked p (s.calJudge set).2 [] t ∧ t.obj 0x8001 7 = (s.calJudge set).1 ∧ t.obj 0x8001 8 = field (padTo 16 set) 12 4 ∧
      t.obj 0x8001 9 = (s.obj 0x8001 9 + 1) % 2 ^ objBits 0x8001 9 ∧ t.attic = s.attic ∧ t.obj 0x8001 3 = s.obj 0x8001 3 ∧
      t.journal = s.journal ∧ SameMemory s t)) ∧
    ((s.calJudge set).1 = 0 →
      Answers (.calibrationSetWrite p set true) s (fun t =>
        (t.attic.pendSet.map fun w => (w.path, w.idx, w.data, w.state)) = some (p.code, 0x8000, set, s.pw.mode.code) ∧
        (s.obj 0x8001 3 = 0 → t.attic.areaB = set ∧ t.attic.commitB = false ∧ t.attic.areaA = s.attic.areaA ∧
          t.attic.commitA = s.attic.commitA) ∧
        (s.obj 0x8001 3 ≠ 0 → t.attic.areaA = set ∧ t.attic.commitA = false ∧ t.attic.areaB = s.attic.areaB ∧
          t.attic.commitB = s.attic.commitB) ∧ t.objs = s.objs ∧ t.journal = s.journal ∧ t.out = s.out ∧ SameMemory s t) ∧
      Answers (.calibrationSetWrite p set false) s (fun t => Acked p 0x08000020 [] t ∧ t.obj 0x8001 7 = 7 ∧
        t.obj 0x8001 9 = (s.obj 0x8001 9 + 1) % 2 ^ objBits 0x8001 9 ∧ t.attic = s.attic ∧ t.journal = s.journal ∧ SameMemory s t))) ∧
  (∀ (e : Fin 48) (s : State),
    let gated (lvl : Nat) (t : State) : Prop :=
      (∀ k, t.obj 0x4000 1 k = if k ∈ s.unitOf e.val then lvl else s.obj 0x4000 1 k) ∧
      SameObjs ((s.unitOf e.val).map fun k => okey 0x4000 1 k) s t ∧ t = { s with objs := t.objs }
    (s.gates = true → s.unitIdle e.val = true →
      (s.obj 0x4000 1 e.val = 0 → Answers (.polderClockGate e) s (gated 1)) ∧
      (s.obj 0x4000 1 e.val ≤ 1 → s.gatePolicy = 2 ∨ (s.gatePolicy = 1 ∧ s.noQueue e.val = true) →
        Answers (.polderPowerGate e) s (gated 2))) ∧
    (s.unitIdle e.val = false → Answers (.polderClockGate e) s (fun t => t = s) ∧ Answers (.polderPowerGate e) s (fun t => t = s)) ∧
    (s.gatePolicy = 0 → Answers (.polderPowerGate e) s (fun t => t = s)) ∧
    ((s.unitOf e.val).any (fun k => (s.engine k).waking) = true → s.outOfService e.val = false →
      Answers (.polderWakeDone e) s (fun t => (∀ k ∈ s.unitOf e.val, t.obj 0x4000 1 k = 0 ∧ (t.engine k).waking = false) ∧
        t.journal = s.journal ∧ t.pw = s.pw)) ∧
    ((s.unitOf e.val).any (fun k => (s.engine k).waking) = false → Answers (.polderWakeDone e) s (fun t => t = s)) ∧
    (s.pw.mode = .depot → s.objB 0x2001 3 = false → s.sched.jobs = [] → s.depot.pulls = [] → s.depot.guests = [] →
      s.pw.pendSafe = none → s.pw.teardown = none → Answers (.dozeEntry) s (fun t => t.obj 0x2001 3 = 1 ∧
        t.obj 0xB011 2 = (s.obj 0xB011 2 + 1) % 2 ^ objBits 0xB011 2 ∧
        (∀ k : Fin 48, t.obj 0x4000 1 k.val = if s.outOfService k.val then s.obj 0x4000 1 k.val else 2) ∧
        t = { s with objs := t.objs })) ∧
    (s.sched.jobs.any (fun j => j.phase = .running) = true → Answers (.dozeEntry) s (fun t => t = s))) ∧
  (∀ (fn : Fin 9) (x : BitVec 36) (data : List Byte) (s : State), s.live (0x10 + fn.val) = true → s.su.pcieUp = true →
    let a := x.toNat
    let n := data.length
    let ones : Output := .pcie fn.val true (List.replicate n 0xFF)
    (s.pw.mode = .safe → Answers (.bar4Access fn x true data) s (fun t => t = s) ∧
      Answers (.bar4Access fn x false data) s (fun t => t = { s with out := ones :: s.out })) ∧
    (s.bar4State = 0 →
      (s.pw.mode ≠ .depot → a + n ≤ cellarEnd → Answers (.bar4Access 0 x true data) s (fun t => Stores a none data s t ∧
        t = { s with mem := t.mem, poison := t.poison })) ∧
      (∀ l, s.bar4Cells fn.val .write a n = some l → Answers (.bar4Access fn x true data) s (fun t =>
        (∀ b, b ∉ l → t.memByte b = s.memByte b) ∧ (l.Nodup → ∀ k, k < l.length → t.memByte (l.getD k 0) = data.getD k 0) ∧
        t = { s with mem := t.mem, poison := t.poison })) ∧
      (∀ l, s.bar4Cells fn.val .read a n = some l → (∀ b ∈ l, s.poisoned b 1 = false) →
        Answers (.bar4Access fn x false data) s (fun t => t = { s with out := .pcie fn.val true (l.map s.memByte) :: s.out })) ∧
      (s.bar4Cells fn.val .write a n = none → Answers (.bar4Access fn x true data) s (fun t =>
        t.obj 0x4803 1 = (s.obj 0x4803 1 + 1) % 2 ^ objBits 0x4803 1 ∧ t.obj 0x4803 2 = a ∧
        SameObjs [okey 0x4803 1 0, okey 0x4803 2 0] s t ∧ t = { s with objs := t.objs })) ∧
      (s.bar4Cells fn.val .read a n = none → Answers (.bar4Access fn x false data) s (fun t =>
        t.obj 0x4803 1 = (s.obj 0x4803 1 + 1) % 2 ^ objBits 0x4803 1 ∧ t.obj 0x4803 2 = a ∧ t.out = ones :: s.out ∧ SameMemory s t))))

/-- The fleet messages at the manager and at the worker, their repeats, the offers, the losses and the timers: R425, R430, R431, R432, R433, R434, R435, R436, R437, R438, R441. -/
def Obligations.FleetMessagesFollowTheirRules : Prop :=
  (∀ (src : BitVec 32) (m : List Byte) (s : State),
    let b := msgBody m
    let serial := field b 4 8
    let job := field b 12 8
    let seq := field b 20 4
    let v : State := s.workerHeard src.toNat serial
    let calm (t : State) : Prop := t.ctxs = s.ctxs ∧ SameMemory s t ∧ t.journal = s.journal ∧ t.pw = s.pw ∧ t.sched = s.sched
    let kept (t : State) : Prop := t.depot.jobs = s.depot.jobs ∧ t.depot.guests = s.depot.guests ∧ calm t
    let beat (t : State) : Prop :=
      (s.worker serial ≠ none ∨ s.depot.workers.length < 1024 →
        t.worker serial = some { addr := src.toNat, beat := slice b 24 16, lost := false, heard := s.now }) ∧
      (∀ k, k ≠ serial → t.worker k = s.worker k) ∧ kept t
    (FromWorker 0x20 0x10 m s → NotActed src.toNat seq s →
      Answers (.fleetJoin src m) s (fun t => beat t ∧ SentFleet 0x20 src.toNat 0x11 0 serial 0 [] s t)) ∧
    (FromWorker 0x20 0x12 m s → NotActed src.toNat seq s →
      Answers (.fleetHeartbeat src m) s (fun t => beat t ∧ SentFleet 0x20 src.toNat 0x13 0 serial 0 [] s t)) ∧
    (∀ ans, FromWorker 0x20 0x10 m s → ans ≠ [] →
      s.depot.acted.find? (fun a => a.1 = src.toNat && a.2.1 = seq) = some (src.toNat, seq, ans) →
      Answers (.fleetJoin src m) s (fun t => t.out.head? = some (.udp src.toNat 41720 ans) ∧ t.depot.seq = s.depot.seq ∧ kept t)) ∧
    (∀ w, FromWorker 0x20 0x14 m s → NotActed src.toNat seq s → s.worker serial = some w → 2 ≤ w.beat.length →
      Answers (.fleetLeave src m) s (fun t => (t.worker serial).map (fun x => (field x.beat 1 1).testBit 2) = some true ∧
        SentFleet 0x20 src.toNat 0x11 0 serial 0 [] s t ∧ kept t)) ∧
    (FromWorker 0x20 0x21 m s → ∀ j, s.fleetJob job = some j →
      (j.worker = serial → Answers (.jobAccept src m) s (fun t => kept t ∧ t.out = s.out ∧
        ∀ f, s.answered? 0x20 0x21 job = some f → t.depot.outbox = s.depot.outbox.filter (fun g => g.seq != f.seq))) ∧
      (j.worker ≠ serial → j.state = 2 ∨ j.state = 3 → Answers (.jobAccept src m) s (fun t =>
        SentFleet 0x20 src.toNat 0x27 1 serial job [] s t ∧ kept t))) ∧
    (FromWorker 0x20 0x22 m s → ∀ j f, s.fleetJob job = some j → s.answered? 0x20 0x22 job = some f → j.worker = serial →
      j.state = 2 → j.id = job → Answers (.jobRefuse src m) s (fun t => NextOffer v j s t ∧ calm t)) ∧
    (∀ j, s.fleetJob job = some j → NotActed src.toNat seq s →
      (¬(j.worker ≠ serial ∧ (j.state = 2 ∨ j.state = 3)) →
        let acked (t : State) : Prop := SentFleet 0x20 src.toNat 0x13 0 serial job [] s t ∧ calm t
        (FromWorker 0x20 0x23 m s → Answers (.jobStarted src m) s (fun t =>
          t.fleetJob job = some { j with state := 3, worker := serial } ∧ acked t)) ∧
        (FromWorker 0x20 0x25 m s → Answers (.checkpointDone src m) s (fun t =>
          t.fleetJob job = some { j with
            state := 3, worker := serial
            taken := if field b 24 32 = 0 then j.taken else (field b 24 32 :: j.taken.filter (· != field b 24 32)).take 2 } ∧ acked t)) ∧
        (FromWorker 0x20 0x26 m s → Answers (.jobDone src m) s (fun t =>
          t.fleetJob job = some { j with
            state := if field b 1 1 = 0 then 4 else 5, worker := 0, result := field b 24 32 } ∧ acked t))) ∧
      (j.worker ≠ serial → j.state = 2 ∨ j.state = 3 → FromWorker 0x20 0x23 m s → Answers (.jobStarted src m) s (fun t =>
        t.fleetJob job = some j ∧ calm t ∧ t.out.head? = some (.udp src.toNat 41720
          (fuindMsg 0x20 s.deviceId 0xFF (fleetHead 0x27 1 serial job ((s.depot.seq + 1) % 2 ^ 32)))))) ∧
      (j.worker = serial → FromWorker 0x20 0x28 m s → Answers (.jobEvicted src m) s (fun t =>
        (t.fleetJob job).map (fun k => (k.state, k.worker, k.tried)) = some (1, 0, []) ∧
        SentFleet 0x20 src.toNat 0x13 0 serial job [] s t ∧ calm t))) ∧
    (FromManager 0x20 0x11 src.toNat m s →
      let heard (t : State) : Prop := kept t ∧ ∀ f, s.answered? 0x20 0x11 0 = some f →
        t.depot.outbox = s.depot.outbox.filter (fun g => g.seq != f.seq)
      (s.objB 0x6100 0x0D = false → Answers (.joinAck src m) s (fun t => t.obj 0x6100 0x0D = 1 ∧
        t.depot.joinTick = some s.clk.ticks ∧ SameObjs [okey 0xA010 3 0, okey 0x6100 0x0D 0] s t ∧ heard t)) ∧
      (s.objB 0x6100 0x0D = true → Answers (.joinAck src m) s (fun t => t.depot.joinTick = s.depot.joinTick ∧
        SameObjs [okey 0xA010 3 0] s t ∧ heard t))) ∧
    (FromManager 0x20 0x13 src.toNat m s → ∀ f, s.answered? 0x20 0x13 job = some f →
      ((∀ g : Fin 8, (s.guest g.val).closing ≠ some f.seq) → Answers (.fleetHeartbeatAck src m) s (fun t =>
        t.depot.outbox = s.depot.outbox.filter (fun g => g.seq != f.seq) ∧ kept t)) ∧
      (∀ g : Fin 8, (s.guest g.val).closing = some f.seq → (∀ k : Fin 8, k.val < g.val → (s.guest k.val).closing ≠ some f.seq) →
        s.pw.mode = .depot → field f.body 16 1 = 0x26 → s.guestState g.val ≠ 0 →
        Answers (.fleetHeartbeatAck src m) s (fun t => t.guestState g.val = 5 ∧ t.depot.keys.testBit g.val = false))) ∧
    (FromManager 0x20 0x20 src.toNat m s → NotActed src.toNat seq s →
      let o := slice b 24 64
      let r := s.endDoze.offerReason job o
      (r ≠ 0 → Answers (.jobOffer src m) s (fun t => SentFleet 0x20 src.toNat 0x22 r (s.obj 0x2000 6) job [] s t ∧
        t.obj 0x2001 3 = 0 ∧ kept t)) ∧
      (r = 0 → Answers (.jobOffer src m) s (fun t => SentFleet 0x20 src.toNat 0x21 0 (s.obj 0x2000 6) job [] s t ∧
        t.obj 0x2001 3 = 0 ∧ ∃ g, g < 8 ∧ s.guestState g = 0 ∧ t.guestState g = 1 ∧ t.obj 0x6021 6 g = job ∧
          t.obj 0x6021 7 g = field o 0 8 ∧ t.obj 0x6021 3 g = field o 12 4 ∧
          t.guest g = { Guest.none with fleet := true, offer := o } ∧ t.depot.keys.testBit g = true))) ∧
    (FromManager 0x20 0x24 src.toNat m s → NotActed src.toNat seq s →
      (∀ g, s.guestOfJob job = some g → s.pw.mode = .depot → s.holdsJob g = true → s.guestState g = 2 →
        (s.guest g).ckpt = none → (s.guest g).restore = none → Answers (.checkpointReq src m) s (fun t =>
          t.guestState g = 4 ∧ (t.guest g).stopped = true ∧ (t.guest g).ckpt.map (·.purpose) = some .requested ∧ calm t)) ∧
      (s.guestOfJob job = none → Answers (.checkpointReq src m) s (fun t => kept t ∧ t.out = s.out))) ∧
    (FromManager 0x20 0x27 src.toNat m s → NotActed src.toNat seq s → s.guestOfJob job = none → Answers (.jobEvict src m) s (fun t =>
      SentFleet 0x20 (s.obj 0x6100 6) 0x28 0 (s.obj 0x2000 6) job (leBytes 32 0) s t ∧ kept t)) ∧
    (∀ g, s.guestOfJob job = some g → FromManager 0x20 0x27 src.toNat m s → NotActed src.toNat seq s → s.pw.mode = .depot →
      (field b 1 1 ≠ 0 → Answers (.jobEvict src m) s (fun t =>
        SentFleet 0x20 (s.obj 0x6100 6) 0x28 0 (s.obj 0x2000 6) job (leBytes 32 0) s t ∧ t.guestState g = 5)) ∧
      (field b 1 1 = 0 → s.holdsJob g = true → s.guestState g = 2 → (s.guest g).ckpt = none → (s.guest g).restore = none →
        Answers (.jobEvict src m) s (fun t => t.guestState g = 4 ∧ (t.guest g).ckpt.map (·.purpose) = some .evict ∧ calm t)))) ∧
  (∀ (serial : BitVec 64) (s : State),
    (s.isManager = true →
      ((∀ j ∈ s.depot.jobs, ¬(j.state = 1 ∧ (s.bestWorker j).isSome = true)) → Answers (.fleetJobOffer) s (fun t => t = s)) ∧
      (∀ j k w, s.depot.jobs.find? (fun j => j.state = 1 && (s.bestWorker j).isSome) = some j → s.bestWorker j = some (k, w) →
        s.fleetJob j.id = some j → Answers (.fleetJobOffer) s (fun t => t.fleetJob j.id = some { j with state := 2, worker := k } ∧
          SentFleet 0x20 w.addr 0x20 0 k j.id (j.offer.take 32 ++ leBytes 32 j.last) s t ∧ t.objs = s.objs ∧ Calm s t)) ∧
      (∀ w, s.worker serial.toNat = some w → w.lost = false → Answers (.workerLoss serial) s (fun t =>
        t.worker serial.toNat = some { w with lost := true } ∧ t.obj 0x6110 5 = (s.obj 0x6110 5 + 1) % 2 ^ objBits 0x6110 5 ∧
        (∀ j ∈ s.depot.jobs, s.fleetJob j.id = some j → t.fleetJob j.id = some (
          if j.worker = serial.toNat ∧ (j.state = 2 ∨ j.state = 3) then { j with state := 1, worker := 0, tried := [] } else j)) ∧
        Calm s t)) ∧
      (s.worker serial.toNat = none → Answers (.workerLoss serial) s (fun t => t = s)) ∧
      (∀ j f, s.fleetJob serial.toNat = some j → s.answered? 0x20 0x22 serial.toNat = some f → j.state = 2 →
        Answers (.offerTimeout serial) s (fun t => NextOffer s j s t ∧ t.objs = s.objs ∧ Calm s t))) ∧
    (s.fleetJob serial.toNat = none → Answers (.offerTimeout serial) s (fun t => t = s)) ∧
    (s.obj 0x6100 0x0A ≠ 0 → s.pw.mode.awake = true → Answers (.fleetResendTimer) s (fun t =>
      t = { s with out := (s.depot.outbox.map fun f => Output.udp f.dst 41720 f.body).reverse ++ s.out })) ∧
    (s.obj 0x6100 0x0A = 0 → Answers (.fleetResendTimer) s (fun t => t = s)) ∧
    (s.isWorker = true → s.depot.joinTick.isSome = true → Answers (.workerHeartbeatTimer) s (fun t =>
      SentFleet 0x20 (s.obj 0x6100 6) (if s.objB 0x6100 0x0D then 0x12 else 0x10) 0 (s.obj 0x2000 6) 0 s.beatBody s t ∧
      t.objs = s.objs ∧ Calm s t)) ∧
    (s.depot.joinTick = none → Answers (.workerHeartbeatTimer) s (fun t => t = s)) ∧
    (s.isWorker = true → s.objB 0x6100 0x0D = true → s.pw.mode = .depot → Answers (.managerLoss) s (fun t =>
      t.obj 0x6100 0x0D = 0 ∧ (∀ g : Fin 8, (s.guest g.val).restore.isSome = true → t.obj 0x6022 2 g.val = 0x25) ∧
      ((∀ g : Fin 8, (s.guest g.val).restore = none) → SameObjs [okey 0x6100 0x0D 0] s t ∧ t = { s with objs := t.objs }))) ∧
    (s.objB 0x6100 0x0D = false → Answers (.managerLoss) s (fun t => t = s)))

/-- The DEPOT wipes, the guests' start, wipe and checkpoints, and the phases of HANDOVER: R421, R422, R423, R424, R428, R436, R437, R439, R441, R444, R445, R449. -/
def Obligations.GuestsAndHandoverFollowTheirRules : Prop :=
  (∀ (g : Fin 8) (s : State),
    let base := s.obj 0x6021 2 g.val
    let units := s.obj 0x6021 3 g.val
    let job := s.obj 0x6021 6 g.val
    let mgr := s.obj 0x6100 6
    let me := s.obj 0x2000 6
    (s.pw.mode = .depot → s.obj 0x6100 0x0A = 1 →
      (s.depot.role = 2 → Answers (.entryWipeDone) s (fun t => t.obj 0x6100 0x0A = 2 ∧
        (∀ a, t.memByte a = if a < s.hostRegion ∨ (∃ e : Fin 48, s.obj 0x6010 (e.val + 1) ≠ 0 ∧ storeRoom e.val ≤ a ∧
          a < storeRoom e.val + 0x200000) then 0 else s.memByte a) ∧ SameObjs [okey 0x6100 0x0A 0] s t)) ∧
      (s.depot.role = 1 → Answers (.entryWipeDone) s (fun t => t.obj 0x6100 0x0A = 2 ∧ (∀ a, a < s.hostRegion → t.memByte a = 0) ∧
        t.out.head? = some (.udp mgr 41720 (fuindMsg 0x20 s.deviceId 0xFF (fleetHead 0x10 0 me 0 s.depot.seq ++ t.beatBody))))) ∧
      (s.depot.role = 0 → (∀ h : Fin 8, s.objB 0x6021 1 h.val = (h == g)) → s.windowFits g.val base units = true →
        Answers (.entryWipeDone) s (fun t => t.guestState g.val = 1 ∧ t.depot.keys.testBit g.val = true ∧
          (∀ a, a < s.hostRegion → t.memByte a = 0)))) ∧
    (s.obj 0x6100 0x0A ≠ 1 → Answers (.entryWipeDone) s (fun t => t = s)) ∧
    (s.pw.mode = .depot → s.guestStartReady g.val = true → base + units * 2 ^ 21 ≤ s.hostRegion → units ≤ 23552 → s.hostRegion ≤ 2 ^ 36 →
      Answers (.guestStartDone g) s (fun t => t.guestState g.val = 2 ∧ t.live (0x11 + g.val) = true ∧
        t.obj 0x6021 5 g.val = s.mapBase g.val ∧
        (∀ k, k < units → t.memNat (s.mapBase g.val + 8 * k) 8 = base + k * 2 ^ 21 + 0xD) ∧
        ((s.guest g.val).fleet = true → (t.guest g.val).restore.isSome = true ∧
          ∃ p ∈ t.depot.pulls, p.hash = s.offerManifest g.val ∧ p.manifest = true ∧ p.guest = some g.val ∧
            SentFleet 0x21 mgr 3 0 me job p.request s t) ∧ t.ctxs = s.ctxs)) ∧
    (s.guestStartReady g.val = false → Answers (.guestStartDone g) s (fun t => t = s)) ∧
    (s.guestState g.val = 5 → (s.guest g.val).fleet = true ∨ s.objB 0x6021 1 g.val = false → Answers (.guestWipeDone g) s (fun t =>
      t.guestState g.val = 0 ∧ t.guest g.val = Guest.none ∧ t.obj 0x6021 5 g.val = 0 ∧
      t.obj 0x6021 8 g.val = (s.obj 0x6021 8 g.val + 1) % 2 ^ objBits 0x6021 8 ∧
      ((s.guest g.val).fleet = true → t.obj 0x6021 2 g.val = 0 ∧ t.obj 0x6021 3 g.val = 0 ∧ t.obj 0x6021 6 g.val = 0 ∧
        ∀ e : Fin 48, t.obj 0x6010 (e.val + 1) ≠ g.val + 1) ∧
      (∀ a, base ≤ a → a < base + units * 2 ^ 21 → a < storeBase → t.memByte a = 0) ∧ t.pw = s.pw)) ∧
    (s.guestState g.val ≠ 5 → Answers (.guestWipeDone g) s (fun t => t = s)) ∧
    (s.pw.mode = .depot → s.holdsJob g.val = true → s.guestState g.val = 2 → (s.guest g.val).ckpt = none → (s.guest g.val).restore = none →
      field (s.guest g.val).offer 16 4 ≠ 0 → s.objB 0x6100 0x0D = true → Answers (.checkpointInterval g) s (fun t =>
        t.guestState g.val = 4 ∧ (t.guest g.val).stopped = true ∧ (t.guest g.val).ckpt.map (·.purpose) = some .periodic ∧
        t.obj 0x6022 3 g.val = 0 ∧ Calm s t)) ∧
    ((s.guest g.val).ckpt.isSome = true → Answers (.checkpointInterval g) s (fun t => t = s)) ∧
    (s.pw.mode = .handover → s.obj 0x6100 0x0A = 3 → (∀ h : Fin 8, s.guestQuiet h.val = true) →
      (s.objB 0x6100 0x0D = false → Answers (.quiesceDone) s (fun t => t.obj 0x6100 0x0A = 5)) ∧
      (s.objB 0x6100 0x0D = true → s.holdsJob g.val = true → (∀ h : Fin 8, h < g → s.holdsJob h.val = false) →
        (∀ h : Fin 8, s.guestState h.val ≠ 1 ∧ (s.guest h.val).restore = none ∧ (s.guest h.val).ckpt = none) →
        Answers (.quiesceDone) s (fun t => t.obj 0x6100 0x0A = 4 ∧ t.guestState g.val = 4 ∧
          (t.guest g.val).ckpt.map (·.purpose) = some .handover))) ∧
    (s.obj 0x6100 0x0A ≠ 3 → Answers (.quiesceDone) s (fun t => t = s)) ∧
    (s.pw.mode = .handover → s.obj 0x6100 0x0A = 3 ∨ s.obj 0x6100 0x0A = 4 → Answers (.checkpointLimitExpiry) s (fun t =>
      t.obj 0x6100 0x0A = 5 ∧ (s.holdsJob g.val = true → t.obj 0x6022 2 g.val = 0x11) ∧
      (s.guestState g.val ≠ 0 → t.guestState g.val = 5) ∧
      (s.guestState g.val ≠ 0 → s.guestState g.val ≠ 5 → t.depot.keys.testBit g.val = false))) ∧
    (s.pw.mode ≠ .handover → Answers (.checkpointLimitExpiry) s (fun t => t = s)) ∧
    (∀ c, (s.guest g.val).ckpt = some c →
      let r := s.hashScan g.val c.queried (s.chunkCount g.val - c.hashed) c.hashed []
      (s.guestQuiet g.val = true → c.hashed < s.chunkCount g.val →
        (r.2 ≠ [] → Answers (.hashBatchReady g) s (fun t => t.obj 0x6022 3 g.val = r.1 ∧
          (t.guest g.val).ckpt = some { c with hashed := r.1, queried := c.queried ++ r.2, asked := c.asked ++ [(s.depot.seq, r.2)] } ∧
          SentFleet 0x21 mgr 1 0 me job (leBytes 2 r.2.length ++ zeros 2 ++ r.2.flatMap (leBytes 32)) s t ∧ Calm s t)) ∧
        (r.2 = [] → c.asked = [] → c.offered = false → r.1 = s.chunkCount g.val → Answers (.hashBatchReady g) s (fun t =>
          t.obj 0x6022 3 g.val = r.1 ∧ (∃ k, (t.guest g.val).ckpt = some k ∧ k.offered = true ∧ k.name = hashOf k.manifest ∧
            SentFleet 0x21 mgr 6 0 me job (leBytes 32 k.name ++ leBytes 4 k.manifest.length) s t) ∧ Calm s t))) ∧
      (s.guestQuiet g.val = false → Answers (.hashBatchReady g) s (fun t => t = s)) ∧
      ((s.guest g.val).reoffer = true → Answers (.resultReoffer g) s (fun t => (t.guest g.val).reoffer = false ∧
        SentFleet 0x21 mgr 6 0 me job (leBytes 32 c.name ++ leBytes 4 c.manifest.length) s t ∧ t.objs = s.objs ∧ Calm s t))) ∧
    ((s.guest g.val).ckpt = none → Answers (.hashBatchReady g) s (fun t => t = s) ∧ Answers (.resultReoffer g) s (fun t => t = s)))

/-- Queries, pulls, segments, manifest offers and results, and failed restores: R444, R445, R447, R448, R449, R450, R451, R452. -/
def Obligations.TransfersFollowTheirRules : Prop :=
  (∀ (src : BitVec 32) (m : List Byte) (s : State),
    let b := msgBody m
    let serial := field b 4 8
    let job := field b 12 8
    let h := field b 24 32
    let me := s.obj 0x2000 6
    let sent (op : Nat) (body : List Byte) (t : State) : Prop := ∃ q, Output.udp src.toNat 41720
      (fuindMsg 0x21 s.deviceId 0xFF (fleetHead op 0 serial job q ++ body)) ∈ t.out
    let calm (t : State) : Prop := t.ctxs = s.ctxs ∧ SameMemory s t ∧ t.journal = s.journal ∧ t.pw = s.pw ∧ t.sched = s.sched
    (FromWorker 0x21 1 m s → NotActed src.toNat (field b 20 4) s →
      let n := field b 24 2
      let held (k : Nat) : Bool :=
        (s.storedChunk (field b (28 + 32 * k) 32)).isSome || s.depot.pulls.any (fun p => p.hash = field b (28 + 32 * k) 32)
      Answers (.haveQuery src m) s (fun t =>
        sent 2 (leBytes 2 n ++ zeros 2 ++ leBytes 16 ((List.range n).foldl (fun v k => if held k then setBit v k else v) 0)) t ∧
        (∀ k, k < n → held k = false → (t.depot.pulls.any fun p => p.hash = field b (28 + 32 * k) 32) = true) ∧
        t.obj 0x6120 9 = (s.obj 0x6120 9 + ((List.range n).filter held).length) % 2 ^ objBits 0x6120 9 ∧
        t.depot.chunks = s.depot.chunks ∧ calm t)) ∧
    (FromManager 0x21 2 src.toNat m s → ∀ g c a, s.guestOfJob job = some g → (s.guest g).ckpt = some c → c.hashed < s.chunkCount g →
      c.asked.find? (fun a => a.2.length = field b 24 2) = some a → Answers (.haveReply src m) s (fun t =>
        (t.guest g).ckpt = some { c with
          asked := c.asked.erase a
          lacking := c.lacking ++ ((a.2.zip (List.range 128)).filter fun p => !(field b 28 16).testBit p.2).map (·.1) } ∧
        t.depot.outbox = s.depot.outbox.filter (fun f => f.seq != a.1) ∧ t.out = s.out ∧ calm t)) ∧
    (FromWorker 0x21 3 m s →
      (∀ d, (if field b 60 1 = 1 then s.storedManifest h else s.storedChunk h) = some d → Answers (.fleetPull src m) s (fun t =>
        (∀ k, k < segments d.length → (field b 64 512).testBit k = true →
          sent 4 (leBytes 32 h ++ leBytes 2 k ++ leBytes 2 (slice d (1024 * k) 1024).length ++ zeros 4 ++ slice d (1024 * k) 1024) t) ∧
        t.depot.chunks = s.depot.chunks ∧ t.depot.manifests = s.depot.manifests ∧ calm t)) ∧
      ((if field b 60 1 = 1 then s.storedManifest h else s.storedChunk h) = none → Answers (.fleetPull src m) s (fun t =>
        SentFleet 0x21 src.toNat 5 0 serial job (leBytes 32 h) s t ∧ calm t))) ∧
    (FromManager 0x21 3 src.toNat m s →
      (∀ g d, s.guestOfJob job = some g → s.guestObject g h (field b 60 1 = 1) = some d → Answers (.fleetPull src m) s (fun t =>
        (∀ k, k < segments d.length → (field b 64 512).testBit k = true →
          sent 4 (leBytes 32 h ++ leBytes 2 k ++ leBytes 2 (slice d (1024 * k) 1024).length ++ zeros 4 ++ slice d (1024 * k) 1024) t) ∧
        calm t)) ∧
      (s.guestOfJob job = none → Answers (.fleetPull src m) s (fun t =>
        SentFleet 0x21 src.toNat 5 0 serial job (leBytes 32 h) s t ∧ calm t))) ∧
    (FromManager 0x21 4 src.toNat m s ∨ FromWorker 0x21 4 m s →
      s.depot.pulls.find? (fun p => p.hash = h && p.src = src.toNat) = none → Answers (.fleetSegment src m) s (fun t =>
        t.depot = { s.depot with heard := t.depot.heard } ∧ t.out = s.out ∧ calm t)) ∧
    (∀ p, s.depot.pulls.find? (fun p => p.hash = h && p.src = src.toNat) = some p →
      FromManager 0x21 4 src.toNat m s ∨ FromWorker 0x21 4 m s →
      let p' : Pull := { p with segs := Amap.set [] p.segs (field b 56 2) (slice b 64 (field b 58 2)), at_ := s.now }
      (p'.whole = none → Answers (.fleetSegment src m) s (fun t => p' ∈ t.depot.pulls ∧
        (∀ g, p.guest = some g → t.obj 0x6022 7 g = (s.obj 0x6022 7 g + field b 58 2) % 2 ^ objBits 0x6022 7) ∧
        t.out = s.out ∧ calm t)) ∧
      (∀ d, p'.whole = some d → p.guest = none → p.manifest = false → hashOf d = h → s.storeFits d.length = true →
        s.storedChunk h = none → Answers (.fleetSegment src m) s (fun t => t.storedChunk h = some d ∧
          (t.depot.pulls.any fun q => q.hash = h) = false ∧ calm t))) ∧
    (∀ p g r, s.depot.pulls.find? (fun p => p.hash = h && p.src = src.toNat) = some p →
      FromManager 0x21 4 src.toNat m s → p.guest = some g → p.manifest = false → (s.guest g).restore = some r →
      ∀ d, ({ p with segs := Amap.set [] p.segs (field b 56 2) (slice b 64 (field b 58 2)) } : Pull).whole = some d → hashOf d = h →
      d.length ≤ 0x400000 → Answers (.fleetSegment src m) s (fun t =>
        ∀ k, k < chunksIn r.manifest → field r.manifest (chunksAt r.manifest + 40 * k + 36) 1 = 0 → chunkHash r.manifest k = h →
          t.memBytes (s.obj 0x6021 2 g + k * 0x400000) d.length = d)) ∧
    (FromManager 0x21 5 src.toNat m s →
      (s.depot.pulls.find? (fun p => p.hash = h && p.src = src.toNat) = none → Answers (.notHeld src m) s (fun t =>
        t.depot = { s.depot with heard := t.depot.heard } ∧ t.out = s.out ∧ calm t)) ∧
      (∀ p g, s.depot.pulls.find? (fun p => p.hash = h && p.src = src.toNat) = some p → p.guest = some g → s.pw.mode = .depot →
        s.guestState g ≠ 0 → Answers (.notHeld src m) s (fun t => t.obj 0x6022 2 g = 0x24 ∧ t.guestState g = 5 ∧
          (t.depot.pulls.any fun q => q.hash = h) = false))) ∧
    (FromWorker 0x21 6 m s → NotActed src.toNat (field b 20 4) s → s.depot.offers = [] →
      (field b 56 4 < 132 ∨ 0x400000 < field b 56 4 → Answers (.manifestOffer src m) s (fun t =>
        SentFleet 0x21 src.toNat 7 1 serial job (leBytes 32 h ++ leBytes 4 0xFFFFFFFF) s t ∧ t.depot.offers = [] ∧ calm t)) ∧
      (132 ≤ field b 56 4 → field b 56 4 ≤ 0x400000 →
        (∀ d, s.storedManifest h = some d → d ≠ [] → (∀ c ∈ dataHashes d, (s.storedChunk c).isSome = true) →
          Answers (.manifestOffer src m) s (fun t =>
            SentFleet 0x21 src.toNat 7 0 serial job (leBytes 32 h ++ leBytes 4 0xFFFFFFFF) s t ∧ t.depot.offers = [] ∧
            t.depot.manifests = s.depot.manifests ∧ calm t)) ∧
        (s.storedManifest h = none → Answers (.manifestOffer src m) s (fun t =>
          ∃ p ∈ t.depot.pulls, p.hash = h ∧ p.len = field b 56 4 ∧ p.manifest = true ∧ p.src = src.toNat ∧
            SentFleet 0x21 src.toNat 3 0 serial job p.request s t ∧ calm t)))) ∧
    (FromManager 0x21 7 src.toNat m s → ∀ g c, s.guestOfJob job = some g → (s.guest g).ckpt = some c → c.offered = true → h = c.name →
      s.pw.mode = .depot → c.purpose = .periodic ∨ c.purpose = .requested →
      (field b 1 1 = 0 → Answers (.manifestResult src m) s (fun t => t.obj 0x6022 1 g = c.name ∧ t.obj 0x6022 2 g = 0x10 ∧
        t.guestState g = 2 ∧ (t.guest g).ckpt = none ∧ (t.guest g).parent = c.name ∧
        SentFleet 0x20 (s.obj 0x6100 6) 0x25 0 me (s.obj 0x6021 6 g) (leBytes 32 c.name) s t ∧ calm t)) ∧
      (field b 1 1 ≠ 0 → Answers (.manifestResult src m) s (fun t => t.obj 0x6022 2 g = 0x11 ∧ t.guestState g = 2 ∧
        (t.guest g).ckpt = none ∧ t.out = s.out ∧ calm t))) ∧
    (FromWorker 0x21 8 m s → NotActed src.toNat (field b 20 4) s →
      (s.storedManifest h = none → Answers (.restoreFailed src m) s (fun t => t.depot.chunks = s.depot.chunks ∧ t.out = s.out ∧ calm t)) ∧
      (∀ d, s.storedManifest h = some d → field b 1 1 = 0x23 → field b 56 4 < chunksIn d →
        (s.storedChunk (chunkHash d (field b 56 4))).isSome = true → Answers (.restoreFailed src m) s (fun t =>
          t.storedChunk (chunkHash d (field b 56 4)) = none ∧ t.obj 0x6120 0x0A = (s.obj 0x6120 0x0A + 1) % 2 ^ objBits 0x6120 0x0A ∧
          (∀ c, c ≠ chunkHash d (field b 56 4) → t.storedChunk c = s.storedChunk c) ∧ calm t)))) ∧
  (∀ (hash : BitVec 256) (s : State),
    (∀ p, s.depot.pulls.find? (fun p => p.hash = hash.toNat) = some p → Answers (.segmentIdleTimeout hash) s (fun t =>
      SentFleet 0x21 p.src 3 0 p.worker p.job p.request s t ∧ t.depot.pulls = s.depot.pulls.map (fun q => if q.hash = p.hash ∧ q.src = p.src then { q with at_ := s.now } else q) ∧
      t.objs = s.objs ∧ Calm s t)) ∧
    (s.depot.pulls.find? (fun p => p.hash = hash.toNat) = none → Answers (.segmentIdleTimeout hash) s (fun t => t = s)))

/-- Training of the Fuind ports, and what each flit does to its port and to nothing else: R459, R460, R461, R462, R463, R464, R465. -/
def Obligations.FuindPortsFollowTheirRules : Prop :=
  (∀ (port : Fin 2) (s : State),
    let p := port.val
    let f := s.fl p
    let other (t : State) : Prop := t.fl (1 - p) = s.fl (1 - p) ∧ LinkOnly s t
    let count (k n : Nat) (t : State) : Prop := t.obj 0xA003 (6 * p + k) = (s.obj 0xA003 (6 * p + k) + n) % 2 ^ objBits 0xA003 (6 * p + k)
    let again (l : List (Nat × TxFlit)) : List Output :=
      (l.map fun e => Output.flit p (f.flit 1 e.2.first e.2.last e.2.vc (e.2.data.length - 1) e.1 0 0 e.2.data)).reverse
    let hello : Output := .fuind p (fuindMsg 0x01 s.deviceId 0xFF (s.helloBody p))
    (∀ lanes : Fin 3, s.fuindOn = true → f.phase = .training →
      (f.step ≠ 5 → Answers (.linkTrainingStepDone port lanes) s (fun t => t = { s with casc := t.casc } ∧
        t.fl p = { f with step := f.step + 1, lanes := if f.step = 4 then 2 ^ lanes.val else f.lanes } ∧ other t)) ∧
      (f.step = 5 → f.replay = [] → Answers (.linkTrainingStepDone port lanes) s (fun t => (t.fl p).phase = .active ∧
        (t.fl p).fails = 0 ∧ (t.fl p).initDue = false ∧ hello ∈ t.out ∧
        Output.flit p ({ f with phase := .active, fails := 0, step := 6, initDue := true }.flit 3 false false 0 0 0 0 0 (vcBuffers.flatMap (leBytes 2))) ∈ t.out ∧
        t.objs = s.objs ∧ other t)) ∧
      (f.step = 5 → f.replay ≠ [] → Answers (.linkTrainingStepDone port lanes) s (fun t => (t.fl p).phase = .active ∧
        (t.fl p).initDue = true ∧ (t.fl p).replay = f.replay ∧ t.out = again f.replay ++ s.out ∧ count 2 f.replay.length t ∧ other t))) ∧
    (f.phase ≠ .training → Answers (.linkTrainingFailure port) s (fun t => t = s) ∧
      ∀ lanes, Answers (.linkTrainingStepDone port lanes) s (fun t => t = s)) ∧
    (f.phase = .training →
      (f.fails + 1 < 3 → Answers (.linkTrainingFailure port) s (fun t => t = { s with casc := t.casc } ∧
        t.fl p = { f with fails := f.fails + 1, step := 0 } ∧ other t)) ∧
      (3 ≤ f.fails + 1 → Answers (.linkTrainingFailure port) s (fun t =>
        t.fl p = { FlPort.idle with phase := .held, fails := f.fails + 1 } ∧ count 4 1 t ∧ SameObjs [okey 0xA003 (6 * p + 4) 0] s t ∧ other t))) ∧
    (f.phase = .active → Answers (.flitTimeout port) s (fun t => count 3 1 t ∧ SameObjs [okey 0xA003 (6 * p + 3) 0] s t ∧ other t ∧
      t.fl p = { f with phase := .training, step := 1, open_ := false, resends := 0, credits := [0, 0, 0, 0], initDue := false })) ∧
    (f.phase ≠ .active → Answers (.flitTimeout port) s (fun t => t = s) ∧ Answers (.replayTimeout port) s (fun t => t = s) ∧
      Answers (.helloRetry port) s (fun t => t = s)) ∧
    (f.phase = .active → f.replay ≠ [] → Answers (.replayTimeout port) s (fun t => t.out = again f.replay ++ s.out ∧
      count 2 f.replay.length t ∧ (f.resends + 1 < 8 → t.fl p = { f with resends := f.resends + 1, ackAt := s.now }) ∧
      (8 ≤ f.resends + 1 → (t.fl p).phase = .training ∧ (t.fl p).replay = f.replay ∧ count 3 1 t) ∧ other t)) ∧
    (f.replay = [] → Answers (.replayTimeout port) s (fun t => t = s)) ∧
    (f.phase = .active → f.wiring = true → Answers (.helloRetry port) s (fun t => hello ∈ t.out ∧ t.objs = s.objs ∧ other t)) ∧
    (f.wiring = false → Answers (.helloRetry port) s (fun t => t = s))) ∧
  (∀ (port : Fin 2) (x : List Byte) (s : State),
    let p := port.val
    let f := s.fl p
    let other (t : State) : Prop := t.fl (1 - p) = s.fl (1 - p) ∧ LinkOnly s t
    let count (k n : Nat) (t : State) : Prop := t.obj 0xA003 (6 * p + k) = (s.obj 0xA003 (6 * p + k) + n) % 2 ^ objBits 0xA003 (6 * p + k)
    let nak : Output := .flit p ({ f with discarding := true }.flit 2 false false 0 0 0 0 0 (leBytes 2 f.rxSeq))
    let bad (t : State) : Prop := count 1 1 t ∧ SameObjs [okey 0xA003 (6 * p + 1) 0] s t ∧
      t.fl p = { f with discarding := true } ∧ t.out = (if f.discarding then s.out else nak :: s.out) ∧ other t
    (f.phase ≠ .active → Answers (.dataFlit port x) s (fun t => t = s) ∧ Answers (.nakFlit port x) s (fun t => t = s) ∧
      Answers (.creditInitFlit port x) s (fun t => t = s) ∧ Answers (.idleFlit port x) s (fun t => t = s)) ∧
    (f.phase = .active → flitOk x = false → Answers (.dataFlit port x) s bad ∧ Answers (.nakFlit port x) s bad ∧
      Answers (.creditInitFlit port x) s bad ∧ Answers (.idleFlit port x) s bad) ∧
    (TakesFlit p 0 x s → (∀ vc : Fin 4, f.credits.getD vc.val 0 ≤ vcBuffers.getD vc.val 0) → f.credits.length = 4 →
      Answers (.idleFlit port x) s (fun t => t.out = s.out ∧ SameObjs [] s t ∧ (t.fl p).rxSeq = f.rxSeq ∧ other t ∧
        (∀ vc : Fin 4, (t.fl p).credits.getD vc.val 0 = if field x 6 1 / 64 = vc.val
          then min (f.credits.getD vc.val 0 + field x 6 1 % 64) (vcBuffers.getD vc.val 0) else f.credits.getD vc.val 0) ∧
        ((field x 4 2).testBit 15 = false → (t.fl p).replay = f.replay) ∧
        (∀ pre e post, (field x 4 2).testBit 15 = true → f.replay = pre ++ e :: post → e.1 = field x 4 2 % 4096 →
          (∀ d ∈ pre, d.1 ≠ e.1) → (t.fl p).replay = post ∧ (t.fl p).resends = 0))) ∧
    (TakesFlit p 1 x s →
      let vc := field x 0 1 / 64
      let part := slice x 8 (field x 1 1 % 64 + 1)
      (field x 2 2 % 4096 = f.rxSeq → (field x 0 1).testBit 5 = false → vc < f.rx.length → Answers (.dataFlit port x) s (fun t =>
        (t.fl p).rxSeq = (f.rxSeq + 1) % 4096 ∧ (t.fl p).rxAny = true ∧ (t.fl p).discarding = false ∧
        (t.fl p).rx.getD vc [] = (if (field x 0 1).testBit 4 then [] else f.rx.getD vc []) ++ part ∧
        t.out = .flit p ((t.fl p).flit 0 false false 0 0 0 1 vc []) :: s.out ∧ SameObjs [] s t ∧ other t)) ∧
      (field x 2 2 % 4096 = f.rxSeq → (field x 0 1).testBit 5 = true →
        msgOk linkBody ((if (field x 0 1).testBit 4 then [] else f.rx.getD vc []) ++ part) = false →
        Answers (.dataFlit port x) s (fun t => count 5 1 t ∧ (t.fl p).rxSeq = (f.rxSeq + 1) % 4096 ∧
          SameObjs [okey 0xA003 (6 * p + 5) 0] s t ∧ other t)) ∧
      (field x 2 2 % 4096 ≠ f.rxSeq → Answers (.dataFlit port x) s (fun t => (t.fl p).rxSeq = f.rxSeq ∧ (t.fl p).rx = f.rx ∧
        (t.fl p).discarding = true ∧ (f.discarding = true → t.out = s.out) ∧
        (f.discarding = false → t.out = .flit p ((t.fl p).flit 2 false false 0 0 0 0 0 (leBytes 2 f.rxSeq)) :: s.out) ∧
        SameObjs [] s t ∧ other t))) ∧
    (TakesFlit p 2 x s → (field x 4 2).testBit 15 = false → ∀ pre e post, f.replay = pre ++ e :: post →
      e.1 = field x 8 2 % 4096 → (∀ d ∈ pre, d.1 ≠ e.1) →
      (pre ≠ [] ∨ f.resends < 7 → Answers (.nakFlit port x) s (fun t => (t.fl p).replay = f.replay ∧ (t.fl p).phase = .active ∧
        (t.fl p).resends = (if pre = [] then f.resends + 1 else f.resends) ∧
        count 2 (post.length + 1) t ∧ t.out.length = s.out.length + post.length + 1 ∧ SameObjs [okey 0xA003 (6 * p + 2) 0] s t ∧ other t)) ∧
      (pre = [] → 7 ≤ f.resends → Answers (.nakFlit port x) s (fun t => (t.fl p).replay = f.replay ∧ (t.fl p).phase = .training ∧
        count 2 (post.length + 1) t ∧ other t))) ∧
    (TakesFlit p 3 x s → Answers (.creditInitFlit port x) s (fun t =>
      (t.fl p).credits = [field x 8 2, field x 10 2, field x 12 2, field x 14 2] ∧ t.out = s.out ∧ SameObjs [] s t ∧ other t)) ∧
    (∀ kind, TakesFlit p kind x s → (kind ≠ 0 → Answers (.idleFlit port x) s (fun t => t = s)) ∧
      (kind ≠ 1 → Answers (.dataFlit port x) s (fun t => t = s)) ∧ (kind ≠ 2 → Answers (.nakFlit port x) s (fun t => t = s)) ∧
      (kind ≠ 3 → Answers (.creditInitFlit port x) s (fun t => t = s))))

/-- Each Fuind message is dropped and counted, forwarded, or has its effect: hellos, presence, records, compares, images, dictionary: R458, R462, R466, R467, R468, R470, R471, R472, R473, R474, R476, R477. -/
def Obligations.FuindMessagesFollowTheirRules : Prop :=
  (∀ (port : Fin 2) (m : List Byte) (s : State),
    let p := port.val
    let f := s.fl p
    let drop (q : Nat) (t : State) : Prop := t.obj 0xA003 (6 * q + 5) = (s.obj 0xA003 (6 * q + 5) + 1) % 2 ^ objBits 0xA003 (6 * q + 5)
    let got (t : State) : Prop := t.obj 0xA003 (6 * p + 6) = (s.obj 0xA003 (6 * p + 6) + 1) % 2 ^ objBits 0xA003 (6 * p + 6)
    ∀ row ∈ [(1, Instr.fuindHello port m), (2, .fuindHeartbeat port m), (3, .fuindRecord port m), (4, .fuindCompare port m),
        (5, .fuindImage port m), (0x10, .fuindDictionary port m)],
      (f.phase ≠ .active ∨ field m 0 1 ≠ row.1 → Answers row.2 s (fun t => t = s)) ∧
      (f.phase = .active → field m 0 1 = row.1 → msgOk linkBody m = false ∨ (row.1 ≠ 1 ∧ f.open_ = false) →
        Answers row.2 s (fun t => drop p t ∧ t.casc = s.casc ∧ t.out = s.out ∧ SameObjs [okey 0xA003 (6 * p + 5) 0] s t ∧ LinkOnly s t)) ∧
      (f.phase = .active → field m 0 1 = row.1 → msgOk linkBody m = true → row.1 = 1 ∨ f.open_ = true →
        field m 2 1 ≠ 0xFF → field m 2 1 ≠ s.deviceId →
        (s.wired (1 - p) = true → (s.fl (1 - p)).up = true → Answers row.2 s (fun t => Output.fuind (1 - p) m ∈ t.out ∧ got t ∧
          t.fl p = f ∧ SameObjs [okey 0xA003 (6 * p + 6) 0] s t ∧ LinkOnly s t)) ∧
        (s.wired (1 - p) = false ∨ (s.fl (1 - p)).up = false → Answers row.2 s (fun t => drop (1 - p) t ∧ got t ∧ t.out = s.out ∧
          t.casc = s.casc ∧ LinkOnly s t))) ∧
      (Linked p row.1 m s → row.1 ∈ [3, 4, 5] → field m 1 1 < s.cascSize → field m 1 1 ≠ s.deviceId →
        Answers row.2 s (fun t => got t ∧ Amap.get 0 t.casc.heard (field m 1 1) = s.now + 1))) ∧
  (∀ (port : Fin 2) (m : List Byte) (s : State), Linked port.val 1 m s →
    let p := port.val
    let b := msgBody m
    let id := field b 0 1
    let same (t : State) : Prop := SameMemory s t ∧ t.ctxs = s.ctxs ∧ t.journal = s.journal ∧ t.attic = s.attic
    let fits : Prop := field b 2 1 = s.cascSize ∧ field b 3 1 = s.obj 0xA000 2 ∧ s.wantNeighbour p = some id ∧ field b 1 1 = 1 - p
    (id = s.deviceId → Answers (.fuindHello port m) s (fun t => t.casc.sameId = true ∧ t.casc.master = false ∧
      (t.fl 0).phase = .held ∧ (t.fl 1).phase = .held ∧ t.pw.wakeReqSameId = true ∧ t.pw.mode = s.pw.mode ∧
      t.obj 0xA001 4 = (s.obj 0xA001 4 + 1) % 2 ^ 32 ∧ t.cascRole = 0 ∧ same t)) ∧
    (id ≠ s.deviceId → ¬fits → Answers (.fuindHello port m) s (fun t =>
      t.fl p = { s.fl p with wiring := true, open_ := false, admitted := false, neighbour := id } ∧
      t.fl (1 - p) = s.fl (1 - p) ∧ t.obj 0xA001 5 = (s.obj 0xA001 5 + 1) % 2 ^ 32 ∧ t.out = s.out ∧ LinkOnly s t)) ∧
    (id ≠ s.deviceId → fits → Answers (.fuindHello port m) s (fun t => (t.fl p).open_ = true ∧ (t.fl p).admitted = true ∧
      (t.fl p).wiring = false ∧ (t.fl p).neighbour = id ∧ t.fl (1 - p) = s.fl (1 - p) ∧ t.live 0x30 = true ∧
      Amap.get 0 t.casc.heard id = s.now + 1 ∧
      (s.fuindOn = true → s.deviceId = 0 → s.casc.sameId = false → t.casc.master = true) ∧ LinkOnly s t))) ∧
  (∀ (port : Fin 2) (m : List Byte) (s : State), Linked port.val 2 m s →
    let j := field m 1 1
    let b := msgBody m
    (j = s.deviceId ∨ s.cascSize ≤ j → Answers (.fuindHeartbeat port m) s (fun t => t.casc = s.casc ∧ t.out = s.out ∧ LinkOnly s t)) ∧
    (j ≠ s.deviceId → j < s.cascSize → Answers (.fuindHeartbeat port m) s (fun t =>
      Amap.get 0 t.casc.heard j = s.now + 1 ∧ Amap.get 0 t.casc.portsUp j = field b 2 1 % 4 + 1 ∧
      (∀ k, k ≠ j → Amap.get 0 t.casc.heard k = Amap.get 0 s.casc.heard k) ∧
      (j = 0 → t.casc.masterFlag = bit (field b 1 1) 0) ∧ (j ≠ 0 → t.casc.masterFlag = s.casc.masterFlag) ∧
      (j = 0 → s.casc.master = false → t.casc.formed = bit (field b 1 1) 2) ∧
      (s.fuindOn = true → s.casc.master = true → t.presentMask = 2 ^ s.cascSize - 1 → t.casc.formed = true) ∧
      (s.now + 1 = Amap.get 0 s.casc.heard j + 1000 * s.obj 0xA000 5 → Amap.get 0 s.casc.heard j ≠ 0 →
        t.obj 0xA001 6 = (s.obj 0xA001 6 + 1) % 2 ^ 32) ∧
      t.casc.fl0 = s.casc.fl0 ∧ t.casc.fl1 = s.casc.fl1 ∧ t.out = s.out ∧ LinkOnly s t))) ∧
  (∀ s : State,
    (s.fuindOn = false → Answers .fuindHeartbeatTimer s (fun t => t = s) ∧ Answers .formationLimit s (fun t => t = s)) ∧
    (s.fuindOn = true → s.casc.sameId = false → s.clk.tbRun = true → Answers .fuindHeartbeatTimer s (fun t =>
      (∀ j, j < s.cascSize → j ≠ s.deviceId → s.wired (s.routePort j) = true → (s.fl (s.routePort j)).up = true →
        Output.fuind (s.routePort j) (fuindMsg 2 s.deviceId j s.heartbeatBody) ∈ t.out) ∧
      SameObjs [okey 0xA003 5 0, okey 0xA003 11 0] s t ∧ LinkOnly s t)) ∧
    (s.fuindOn = true → s.casc.formed = false → Answers .formationLimit s (fun t =>
      t = { s with casc := { s.casc with expired := true } })) ∧
    (s.casc.formed = true → Answers .formationLimit s (fun t => t = s))) ∧
  (∀ (id : Fin 4) (s : State),
    (id.val = s.deviceId ∨ Amap.get 0 s.casc.heard id.val = 0 → Answers (.deviceLoss id) s (fun t => t = s)) ∧
    (id.val ≠ s.deviceId → Amap.get 0 s.casc.heard id.val ≠ 0 → Answers (.deviceLoss id) s (fun t =>
      t.present id.val = false ∧ (∀ k, k ≠ id.val → Amap.get 0 t.casc.heard k = Amap.get 0 s.casc.heard k) ∧
      (id.val = 0 → t.isMember = false) ∧ (id.val ≠ 0 → t.casc.masterFlag = s.casc.masterFlag) ∧
      t.casc.master = s.casc.master ∧ t.casc.formed = s.casc.formed ∧ t.objs = s.objs ∧ t.out = s.out ∧ LinkOnly s t))) ∧
  (∀ (port : Fin 2) (m : List Byte) (s : State), Linked port.val 3 m s →
    let rec_ := msgBody m
    let host (n : Nat) (bs : List Byte) : Output := .hostWrite (s.obj 0x3110 4 + n) bs
    (s.cascRole ≠ 1 ∨ s.pw.mode = .safe ∨ s.pw.pendSafe.isSome = true → Answers (.fuindRecord port m) s (fun t =>
      t.out = s.out ∧ t.obj 0x3110 8 = s.obj 0x3110 8 ∧ LinkOnly s t)) ∧
    (s.cascRole = 1 → s.pw.mode ≠ .safe → s.pw.pendSafe = none → s.obj 0x3110 1 % 16 = 4 →
      (s.su.pcieUp = true → Answers (.fuindRecord port m) s (fun t =>
        t.out = host (256 * s.obj 0x3110 5 - 8) (leBytes 8 (field rec_ 8 8)) ::
          host (256 * (field rec_ 8 8 % s.obj 0x3110 5)) rec_ :: s.out ∧ LinkOnly s t)) ∧
      (s.su.pcieUp = false → Answers (.fuindRecord port m) s (fun t =>
        t.obj 0x3110 8 = (s.obj 0x3110 8 + 1) % 2 ^ 32 ∧ t.out = s.out ∧ LinkOnly s t)))) ∧
  (∀ (port : Fin 2) (m : List Byte) (s : State), Linked port.val 4 m s →
    let b := msgBody m
    let c : CmpStrip := { stream := field b 1 1, strip := 0, code := field b 2 1, index := field b 4 2, corrected := field b 8 8,
                          digest := field b 16 4, tick := s.clk.ticks }
    let fits (o : CmpStrip) : Bool := o.stream = c.stream && o.index = c.index &&
      o.corrected ≤ c.corrected + s.obj 0xA022 1 && c.corrected ≤ o.corrected + s.obj 0xA022 1
    (s.casc.own.find? fits = none → Answers (.fuindCompare port m) s (fun t => t.casc.theirs = s.casc.theirs ++ [c] ∧
      t.casc.own = s.casc.own ∧ (∀ k, t.obj 0xA023 k = s.obj 0xA023 k) ∧ LinkOnly s t)) ∧
    (∀ o, s.casc.own.find? fits = some o → Answers (.fuindCompare port m) s (fun t => t.casc.own = s.casc.own.erase o ∧
      t.casc.theirs = s.casc.theirs ∧
      (o.code = c.code ∧ o.digest = c.digest → t.obj 0xA023 1 = (s.obj 0xA023 1 + 1) % 2 ^ 32 ∧ t.obj 0xA023 2 = s.obj 0xA023 2) ∧
      (¬(o.code = c.code ∧ o.digest = c.digest) → t.obj 0xA023 2 = (s.obj 0xA023 2 + 1) % 2 ^ 32 ∧ t.obj 0xA023 4 = o.stream ∧
        t.obj 0xA023 1 = s.obj 0xA023 1) ∧ t.obj 0xA023 3 = s.obj 0xA023 3 ∧ LinkOnly s t))) ∧
  (∀ (strm : Fin 96) (strip : Nat) (s : State),
    let own (c : CmpStrip) : Bool := c.stream = strm.val && c.strip = strip
    let theirs (c : CmpStrip) : Bool := c.stream = strm.val
    let counts (t : State) : Prop := t.obj 0xA023 3 = (s.obj 0xA023 3 + 1) % 2 ^ 32 ∧ SameObjs [okey 0xA023 3 0] s t ∧
      t.out = s.out ∧ LinkOnly s t
    (∀ c, s.casc.own.find? own = some c → Answers (.compareUnmatched strm strip) s (fun t =>
      t.casc = { s.casc with own := s.casc.own.erase c } ∧ counts t)) ∧
    (∀ c, s.casc.own.find? own = none → s.casc.theirs.find? theirs = some c → Answers (.compareUnmatched strm strip) s (fun t =>
      t.casc = { s.casc with theirs := s.casc.theirs.erase c } ∧ counts t)) ∧
    (s.casc.own.find? own = none → s.casc.theirs.find? theirs = none →
      Answers (.compareUnmatched strm strip) s (fun t => t = s))) ∧
  (∀ (port : Fin 2) (m : List Byte) (s : State), Linked port.val 5 m s →
    let p := port.val
    let b := msgBody m
    let a := field b 0 8
    let good : Prop := field m 1 1 = 0 ∧ a % 4096 = 0 ∧ a + (b.length - 16) ≤ 2 ^ 28
    (¬good → Answers (.fuindImage port m) s (fun t => t.out = s.out ∧ LinkOnly s t ∧
      t.obj 0xA003 (6 * p + 5) = (s.obj 0xA003 (6 * p + 5) + 1) % 2 ^ objBits 0xA003 (6 * p + 5))) ∧
    (good → s.su.boot.source ≠ 2 ∨ s.su.cellarOn = false ∨ s.lengthOk = false → Answers (.fuindImage port m) s (fun t =>
      t.out = s.out ∧ LinkOnly s t)) ∧
    (good → s.su.boot.source = 2 → s.su.cellarOn = true → s.lengthOk = true → Answers (.fuindImage port m) s (fun t =>
      Stores (stagingBase + a) none (b.drop 16) s t ∧
      (field b 8 4 = 0 → t.su = s.su ∧ t.obj 0x2050 2 = s.obj 0x2050 2) ∧
      (field b 8 4 ≠ 0 → t.su = { s.su with
          checking := some (field b 8 4), window := none
          image := t.mem.filter fun e => stagingBase ≤ e.1 && e.1 < cellarEnd } ∧ t.obj 0x2050 2 = 2) ∧
      t.ctxs = s.ctxs ∧ t.pw = s.pw ∧ t.attic = s.attic ∧ t.journal = s.journal ∧ t.out = s.out))) ∧
  (∀ (port : Fin 2) (m : List Byte) (s : State), Linked port.val 0x10 m s →
    let b := msgBody m
    let src := field m 1 1
    let n := s.casc.dict.length + (if (s.path 0x30).busy.isSome then 1 else 0)
    let drops (t : State) : Prop := t.obj 0x1F98 3 = (s.obj 0x1F98 3 + 1) % 2 ^ 32 ∧ t.casc.dict = s.casc.dict ∧
      t.out = s.out ∧ LinkOnly s t
    let u := (if src < s.cascSize ∧ src ≠ s.deviceId then (s.flCount port.val 6).hear src else s.flCount port.val 6).modPath 0x30
      fun q => { q with peer := (src, 0) }
    (bit (field b 0 1) 7 = true →
      (∀ r, s.casc.relays.find? (fun r => r.1 = src && r.2.1 = field b 2 2) = some r →
        Answers (.fuindDictionary port m) s (fun t => t.out = .udp r.2.2.1 r.2.2.2 (fuindMsg 0x10 src 0xFF b) :: s.out ∧
          t.casc.relays = s.casc.relays.erase r ∧ LinkOnly s t)) ∧
      (s.casc.relays.find? (fun r => r.1 = src && r.2.1 = field b 2 2) = none →
        Answers (.fuindDictionary port m) s (fun t => t.out = s.out ∧ t.casc.relays = s.casc.relays ∧ LinkOnly s t))) ∧
    (bit (field b 0 1) 7 = false → dictForm b = false ∨ 16 ≤ n → Answers (.fuindDictionary port m) s drops) ∧
    (dictForm b = true → n < 16 → (s.path 0x30).busy.isSome = true ∨ s.holds 0x30 = true →
      Answers (.fuindDictionary port m) s (fun t => t.casc.dict = s.casc.dict ++ [m] ∧ t.out = s.out ∧ LinkOnly s t)) ∧
    (dictForm b = true → s.casc.dict = [] → (s.path 0x30).busy = none → s.holds 0x30 = false → s.fuindOn = true →
      s.casc.sameId = false → s.wired (s.routePort src) = true → (s.fl (s.routePort src)).up = true → (s.path 0x30).inTurn b = true →
      let i := field b 4 2
      let j := field b 6 1
      let answers (c : Nat) (v : List Byte) (t : State) : Prop :=
        Output.fuind (s.routePort src) (fuindMsg 0x10 s.deviceId src (dictReply b 0 c v [])) ∈ t.out ∧ t.casc.dict = []
      (∀ v, field b 0 1 = 1 → (rowOf i j).ty.size ≤ 8 → (rowOf i j).acc ≠ .rc → i ≠ 0x2020 →
        u.peek 0x30 i j ((s.path 0x30).channel (rowOf i j).sel) false = .inr v →
        Answers (.fuindDictionary port m) s (fun t => answers 0 v t ∧ LinkOnly s t)) ∧
      (∀ c, field b 0 1 = 2 → i ≠ 0x2020 → (u.dictWrite 0x30 i j (slice b 16 (field b 7 1)) false true).1 = c → c ≠ 0 →
        Answers (.fuindDictionary port m) s (fun t => answers c [] t ∧ (t.path 0x30).refusal = c)) ∧
      (field b 0 1 = 8 → (s.path 0x30).session.isSome = true → Answers (.fuindDictionary port m) s (fun t => answers 0 [] t ∧
        (t.path 0x30).session = none ∧ LinkOnly s t))))

/-- The TAP's instructions and each SDAP operation: answered, refused and counted, with its effect and no other: R494, R495, R496, R497, R498, R500, R501, R502, R502a, R504, R526. -/
def Obligations.DebugPortFollowsItsRules : Prop :=
  (∀ s : State,
    let ends (t : State) : Prop := t.live 0x38 = false ∧ t.obj 0x5050 2 = 0 ∧ t.obj 0x5050 3 = 0 ∧ t.journal = s.journal ∧ Calm s t
    (s.pw.mode.awake = false → ∀ i ∈ [Instr.extest, .idcode, .samplePreload, .bypass, .sdapSessionOpen, .sdapSessionClose,
      .sdapDebugReset], exec i s = .next s) ∧
    (s.pw.mode = .off → Answers .trstNAssert s (fun t => t = s)) ∧
    (s.pw.mode ≠ .off → s.held = [] → Answers .trstNAssert s (fun t => t.pins.tapReg = 1 ∧ t.out = s.out ∧ ends t)) ∧
    (s.pw.mode.awake = true →
      Answers .idcode s (fun t => t.pins.tapReg = 1 ∧ t.out = .jtag 0 (leBytes 4 0x1C9604B3) :: s.out ∧ t.objs = s.objs ∧
        t.paths = s.paths ∧ Calm s t) ∧
      Answers .samplePreload s (fun t => t = { s with pins := { s.pins with tapReg := 2 } }) ∧
      Answers .bypass s (fun t => t = { s with pins := { s.pins with tapReg := 0xFF } }) ∧
      (s.pw.mode = .bench → s.live 0x38 = true →
        Answers .extest s (fun t => t = { s with pins := { s.pins with tapReg := 0 } })) ∧
      (s.pw.mode ≠ .bench ∨ s.live 0x38 = false → Answers .extest s (fun t => t.pins.tapReg = 0xFF ∧
        t.obj 0x5050 5 = (s.obj 0x5050 5 + 1) % 2 ^ 32 ∧ SameObjs [okey 0x5050 5 0] s t ∧ t.out = s.out ∧ Calm s t)) ∧
      ((s.path 0x38).busy = none → s.live 0x38 = false → Answers .sdapSessionOpen s (fun t => Says 6 0 0 [] t ∧
        t.path 0x38 = PathState.fresh ∧ t.live 0x38 = true ∧ (∀ q, q ≠ 0x38 → t.path q = s.path q) ∧ t.objs = s.objs ∧
        t.journal = s.journal ∧ Calm s t))) ∧
    (Debugging s →
      Answers .sdapSessionOpen s (DebugRefused 6 0x08000022 s) ∧
      Answers .sdapSessionClose s (fun t => Says 7 0 0 [] t ∧ (∀ q, q ≠ 0x38 → t.path q = s.path q) ∧ ends t) ∧
      (s.pw.mode = .bench ∨ s.pw.mode = .safe → Answers .sdapDebugReset s (fun t => t.obj 0x2030 1 = 6 ∧ t.ctxs = [] ∧
        t.obj 0x5050 2 = 0 ∧ t.obj 0x5050 3 = 0 ∧ t.journal = s.journal ∧
        ∃ e, t.attic.history = (e :: s.attic.history).take 256 ∧ field e 8 1 = 6 ∧ field e 9 1 = s.pw.mode.code)) ∧
      (s.pw.mode ≠ .bench → s.pw.mode ≠ .safe → Answers .sdapDebugReset s (DebugRefused 8 0x08000022 s)))) ∧
  (∀ (g : Byte) (i : BitVec 16) (j : Byte) (data : List Byte) (act : Bool) (a : BitVec 48) (d : Word) (s : State), s.held = [] →
    ∀ row ∈ [(1, Instr.sdapObjectRead i j act), (2, .sdapObjectWrite i j data), (3, .sdapHalt g), (4, .sdapResume g), (5, .sdapStep g),
        (6, .sdapSessionOpen), (7, .sdapSessionClose), (8, .sdapDebugReset), (9, .sdapEngineReset g), (0x0A, .sdapMemoryRead a),
        (0x0B, .sdapMemoryWrite a d)],
      (s.pw.mode.awake = false → exec row.2 s = .next s) ∧
      (s.pw.mode.awake = true → (s.path 0x38).busy.isSome = true → Answers row.2 s (fun t => Says row.1 1 0 [] t ∧
        t.paths = s.paths ∧ Calm s t ∧ (row.1 ≠ 1 ∨ act = false → t.objs = s.objs))) ∧
      (s.pw.mode.awake = true → (s.path 0x38).busy = none → s.live 0x38 = false → row.1 ≠ 6 → row.1 ≠ 1 ∨ act = false →
        Answers row.2 s (DebugRefused row.1 0x08000022 s)) ∧
      (Debugging s → s.pw.mode ≠ .bench → row.1 ∈ [4, 5, 9, 0x0A, 0x0B] → Answers row.2 s (DebugRefused row.1 0x08000022 s))) ∧
  (∀ (i : BitVec 16) (j : Byte) (data : List Byte) (s : State), Debugging s → i.toNat ≠ 0x2020 →
    let u : State := { s with pins := { s.pins with tapReg := 0x20 } }
    let ch := (s.path 0x38).channel (rowOf i.toNat j.toNat).sel
    let r : Nat × State := u.dictWrite 0x38 i.toNat j.toNat data false true
    let code (c : Nat) (t : State) : Prop := Says 1 2 c [] t ∧ (t.path 0x38).refusal = c ∧ t.journal = s.journal ∧ Calm s t
    let quiet (t : State) : Prop := SameObjs [] s t
    let active (t : State) : Prop := t.obj 0x5050 6 = (s.obj 0x5050 6 + 1) % 2 ^ 32 ∧ SameObjs [okey 0x5050 6 0] s t
    (∀ v, u.peek 0x38 i.toNat j.toNat ch false = .inr v → (rowOf i.toNat j.toNat).ty.size ≤ 8 →
      Answers (.sdapObjectRead i j false) s (fun t => Says 1 0 0 v t ∧ quiet t ∧ t.journal = s.journal ∧ Calm s t) ∧
      ((rowOf i.toNat j.toNat).acc ≠ .rc → Answers (.sdapObjectRead i j true) s (fun t => Says 1 0 0 v t ∧ active t ∧
        t.journal = s.journal ∧ Calm s t)) ∧
      ((rowOf i.toNat j.toNat).acc = .rc → Answers (.sdapObjectRead i j true) s (fun t =>
        t = ((u.dictRead 0x38 i.toNat j.toNat).2.2.sdapDone 1 v).bump 0x5050 6))) ∧
    (∀ v, u.peek 0x38 i.toNat j.toNat ch false = .inr v → 8 < (rowOf i.toNat j.toNat).ty.size →
      Answers (.sdapObjectRead i j false) s (code 0x06010000)) ∧
    (∀ c, u.peek 0x38 i.toNat j.toNat ch false = .inl c →
      Answers (.sdapObjectRead i j false) s (fun t => code c t ∧ quiet t) ∧
      Answers (.sdapObjectRead i j true) s (fun t => code c t ∧ active t)) ∧
    ((r.1 ≠ 0 → r.2.held = [] → Answers (.sdapObjectWrite i j data) s (fun t => Says 2 2 r.1 [] t ∧ (t.path 0x38).refusal = r.1)) ∧
      (r.1 = 0 → r.2.held = [] → (rowOf i.toNat j.toNat).cls ≠ .attic →
        Answers (.sdapObjectWrite i j data) s (fun t => t = r.2.sdapDone 2 [])) ∧
      (r.1 = 0 → r.2.held = [] → (rowOf i.toNat j.toNat).cls = .attic → Answers (.sdapObjectWrite i j data) s (fun t =>
        (t.path 0x38).busy.isSome = true ∧ t.out = r.2.out ∧ t.attic = r.2.attic)))) ∧
  (∀ (g : Byte) (s : State), Debugging s →
    let n := g.toNat
    let cores (f : Nat → Bool) (t : State) : Prop := (∀ k : Fin 4, t.coreHalted k.val = f k.val) ∧ t.obj 0x5050 3 = s.obj 0x5050 3
    let engines (f : Nat → Bool) (t : State) : Prop := (∀ k : Fin 48, t.engineHalted k.val = f k.val) ∧ t.obj 0x5050 2 = s.obj 0x5050 2
    let held : Bool := decide (n < 4 ∧ s.coreHalted n = true) || decide (0x10 ≤ n ∧ n < 0x40 ∧ s.engineHalted (n - 0x10) = true)
    let l : Nat := s.lead (n - 0x10)
    let noOne : Prop := ¬(n < 4) ∧ ¬(0x10 ≤ n ∧ n < 0x40)
    (s.pw.mode = .bench →
      (n < 4 → Answers (.sdapHalt g) s (fun t => Says 3 0 0 [] t ∧ cores (fun k => s.coreHalted k || (s.coreUnit n).contains k) t ∧
        t.pins.err0 = false ∧ t.pins.err1 = false ∧ SameObjs [okey 0x5050 2 0] s t ∧ SameMemory s t ∧ t.ctxs = s.ctxs ∧
        t.engines = s.engines ∧ t.sched = s.sched ∧ t.pw = s.pw)) ∧
      (0x10 ≤ n → n < 0x40 → Answers (.sdapHalt g) s (fun t => Says 3 0 0 [] t ∧
        engines (fun k => s.engineHalted k || (s.unitOf (n - 0x10)).contains k) t ∧ SameObjs [okey 0x5050 3 0] s t ∧ Calm s t)) ∧
      (noOne → Answers (.sdapHalt g) s (DebugRefused 3 0x06090030 s) ∧ Answers (.sdapResume g) s (DebugRefused 4 0x06090030 s) ∧
        Answers (.sdapStep g) s (DebugRefused 5 0x06090030 s)) ∧
      (¬noOne → held = false → Answers (.sdapResume g) s (DebugRefused 4 0x08000022 s) ∧
        Answers (.sdapStep g) s (DebugRefused 5 0x08000022 s)) ∧
      (n < 4 → held = true → Answers (.sdapResume g) s (fun t => Says 4 0 0 [] t ∧
        cores (fun k => s.coreHalted k && !(s.coreUnit n).contains k) t ∧ SameObjs [okey 0x5050 2 0] s t ∧ Calm s t)) ∧
      (0x10 ≤ n → held = true → Answers (.sdapResume g) s (fun t => Says 4 0 0 [] t ∧
        engines (fun k => s.engineHalted k && !(s.unitOf (n - 0x10)).contains k) t ∧ SameObjs [okey 0x5050 3 0] s t ∧ Calm s t)) ∧
      (∀ e, debugTarget n = some e → held = true →
        let r := (({ s with pins := { s.pins with tapReg := 0x20 } } : State).resumeTarget e).stepHart e
        (r.1 = none → Answers (.sdapStep g) s (fun t => Says 5 0 0 [] t ∧ t.objs = s.objs ∧ Calm s t)) ∧
        (∀ (h : Hart) (pa : Nat) (m : Option Nat) (i : Instr) (v : State), r.1 = some h → r.2.fetchKind h (r.2.ctx h).pc.toNat = 0 →
          r.2.place (.hart h) .fetch (r.2.ctx h).pc.toNat = .inr (.cells pa m) → isLong (r.2.memNat pa 4) = false →
          (∀ w, decodeThread h (r.2.memNat pa 4) w = some i) → exec i r.2 = .next v →
          Answers (.sdapStep g) s (fun t => Says 5 0 0 [] t ∧ t.ctxs = v.ctxs ∧ t.mem = v.mem ∧
            (∀ k : Fin 4, s.coreHalted k.val = true → t.coreHalted k.val = true) ∧
            ∀ k : Fin 48, s.engineHalted k.val = true → t.engineHalted k.val = true))) ∧
      (n < 0x10 ∨ 0x40 ≤ n → Answers (.sdapEngineReset g) s (DebugRefused 9 0x06090030 s)) ∧
      (0x10 ≤ n → n < 0x40 → s.outOfService l = false → (s.engine l).dike = none →
        Answers (.sdapEngineReset g) s (fun t => Says 9 0 0 [] t ∧ (t.engine l).dike.map (·.cause) = some 7 ∧
          t.obj 0x5110 5 = s.obj 0x5110 5 ∧ t.obj 0x4020 6 l = 7 ∧ t.pw = s.pw))) ∧
    (s.pw.mode = .drive → n < 4 → Detecting s → Answers (.sdapHalt g) s (fun t => Detects 0x10 s t ∧ Says 3 2 0x08000022 [] t ∧
      t.obj 0x5050 7 = (s.obj 0x5050 7 + 1) % 2 ^ 32 ∧ t.obj 0x5050 5 = s.obj 0x5050 5 ∧ t.obj 0x5050 2 = s.obj 0x5050 2)) ∧
    (s.pw.mode = .drive → ¬(n < 4) → Answers (.sdapHalt g) s (DebugRefused 3 0x08000022 s)) ∧
    (s.pw.mode ≠ .bench → s.pw.mode ≠ .drive → Answers (.sdapHalt g) s (DebugRefused 3 0x08000022 s))) ∧
  (∀ (a : BitVec 48) (d : Word) (s : State), Debugging s → s.pw.mode = .bench →
    let still (t : State) : Prop := t.objs = s.objs ∧ t.journal = s.journal ∧ Calm s t
    let refused (op code : Nat) (t : State) : Prop := Says op 2 code [] t ∧ still t
    let bs := leBytes 8 d.toNat
    (a.toNat % 8 ≠ 0 → s.debugPlace a.toNat = .none) ∧
    (s.debugPlace a.toNat = .none → Answers (.sdapMemoryRead a) s (refused 0x0A 0x06090030) ∧
      Answers (.sdapMemoryWrite a d) s (refused 0x0B 0x06090030)) ∧
    (∀ pa, s.debugPlace a.toNat = .pool pa → Answers (.sdapMemoryWrite a d) s (refused 0x0B 0x06010002)) ∧
    (∀ pa m, s.debugPlace a.toNat = .cells pa m ∨ (s.debugPlace a.toNat = .pool pa ∧ m = none) →
      (s.poisoned pa 8 = false → Answers (.sdapMemoryRead a) s (fun t => Says 0x0A 0 0 (s.memBytes pa 8) t ∧ still t)) ∧
      (s.poisoned pa 8 = true → Answers (.sdapMemoryRead a) s (fun t => (∃ v, Says 0x0A 2 0x08000020 v t) ∧ still t))) ∧
    (∀ pa m, s.debugPlace a.toNat = .cells pa m → Answers (.sdapMemoryWrite a d) s (fun t => Says 0x0B 0 0 [] t ∧
      Stores pa m bs s t ∧ t.objs = s.objs ∧ t.ctxs = s.ctxs ∧ t.journal = s.journal ∧ t.pw = s.pw)) ∧
    (∀ (c : Fin 3072) (r : Fin 32), s.debugPlace a.toNat = .slot c.val (8 * r.val) →
      ((s.ctxAt c.val).x[0] = 0 → Answers (.sdapMemoryRead a) s (fun t => Says 0x0A 0 0 (leBytes 8 ((s.ctx (.ctx c)).get r).toNat) t ∧ still t)) ∧
      Answers (.sdapMemoryWrite a d) s (fun t => Says 0x0B 0 0 [] t ∧
        (∀ k, (t.ctx (.ctx c)).get k = if k = r ∧ r ≠ 0 then d else (s.ctx (.ctx c)).get k) ∧
        (∀ h, h ≠ .ctx c → t.ctx h = s.ctx h) ∧ SameMemory s t ∧ t.objs = s.objs)) ∧
    (∀ (c : Fin 3072), s.debugPlace a.toNat = .slot c.val 0x920 →
      Answers (.sdapMemoryRead a) s (fun t => Says 0x0A 0 0 (leBytes 8 (s.ctx (.ctx c)).pc.toNat) t ∧ still t) ∧
      Answers (.sdapMemoryWrite a d) s (fun t => Says 0x0B 0 0 [] t ∧ t.ctx (.ctx c) = { s.ctx (.ctx c) with pc := d &&& ~~~3 } ∧
        SameMemory s t)))
end

