-- ==== Sys2Proof/Laws/Amap.lean ====
section
/-! SUPPORT. What reading and writing a sparse table do, and that a write keeps the canonical form. -/

namespace Sys2Proof.Machine

variable {β : Type} [DecidableEq β]

omit [DecidableEq β] in
theorem Amap.get_del_self (d : β) (m : Amap β) (k : Nat) : Amap.get d (Amap.del m k) k = d := by
  induction m with
  | nil => rfl
  | cons e t ih =>
    obtain ⟨a, b⟩ := e
    by_cases h : a = k
    · simpa [Amap.del, h] using ih
    · simpa [Amap.del, h, Amap.get] using ih

omit [DecidableEq β] in
theorem Amap.get_del_other (d : β) (m : Amap β) {k j : Nat} (hj : j ≠ k) :
    Amap.get d (Amap.del m k) j = Amap.get d m j := by
  induction m with
  | nil => rfl
  | cons e t ih =>
    obtain ⟨a, b⟩ := e
    by_cases h : a = k
    · have : a ≠ j := fun hh => hj (hh ▸ h)
      simpa [Amap.del, h, Amap.get, h ▸ this] using ih
    · by_cases h2 : a = j
      · simp [Amap.del, h, Amap.get, h2, hj]
      · simpa [Amap.del, h, Amap.get, h2] using ih

omit [DecidableEq β] in
theorem Amap.get_ins_other (d : β) (m : Amap β) {k j : Nat} (v : β) (hj : j ≠ k) :
    Amap.get d (Amap.ins k v m) j = Amap.get d m j := by
  induction m with
  | nil => simp [Amap.ins, Amap.get, Ne.symm hj]
  | cons e t ih =>
    obtain ⟨a, b⟩ := e
    unfold Amap.ins
    split
    · simp [Amap.get, Ne.symm hj]
    · simp [Amap.get, ih]

omit [DecidableEq β] in
theorem Amap.get_ins_self (d : β) (m : Amap β) {k : Nat} (v : β) (h : ∀ e ∈ m, e.1 ≠ k) :
    Amap.get d (Amap.ins k v m) k = v := by
  induction m with
  | nil => simp [Amap.ins, Amap.get]
  | cons e t ih =>
    obtain ⟨a, b⟩ := e
    unfold Amap.ins
    have ha : a ≠ k := h (a, b) (by simp)
    split
    · simp [Amap.get]
    · simp only [Amap.get, ha, if_false]
      exact ih fun e he => h e (by simp [he])

omit [DecidableEq β] in
theorem Amap.del_ne (m : Amap β) (k : Nat) : ∀ e ∈ Amap.del m k, e.1 ≠ k := by
  intro e he
  simp only [Amap.del, List.mem_filter, bne_iff_ne] at he
  exact he.2

/-- Reading what was written. -/
theorem Amap.get_set_self (d : β) (m : Amap β) (k : Nat) (v : β) : Amap.get d (Amap.set d m k v) k = v := by
  unfold Amap.set
  split
  · next h => rw [Amap.get_del_self, h]
  · exact Amap.get_ins_self d _ v (Amap.del_ne m k)

/-- A write leaves every other key alone. -/
theorem Amap.get_set_other (d : β) (m : Amap β) {k j : Nat} (v : β) (hj : j ≠ k) :
    Amap.get d (Amap.set d m k v) j = Amap.get d m j := by
  unfold Amap.set
  split
  · exact Amap.get_del_other d m hj
  · rw [Amap.get_ins_other d _ v hj, Amap.get_del_other d m hj]

/-- The default at the read key does not matter where another key is written with its own default. -/
theorem Amap.get_set_other' (d d' : β) (m : Amap β) {k j : Nat} (v : β) (hj : j ≠ k) :
    Amap.get d (Amap.set d' m k v) j = Amap.get d m j := by
  unfold Amap.set
  split
  · exact Amap.get_del_other d m hj
  · rw [Amap.get_ins_other d _ v hj, Amap.get_del_other d m hj]

omit [DecidableEq β] in
theorem Amap.rising_del (m : Amap β) (k : Nat) (h : Amap.rising m = true) : Amap.rising (Amap.del m k) = true := by
  induction m with
  | nil => rfl
  | cons e t ih =>
    obtain ⟨a, b⟩ := e
    simp only [Amap.rising, Bool.and_eq_true, List.all_eq_true] at h
    by_cases hk : a = k
    · simpa [Amap.del, hk] using ih h.2
    · have : Amap.del ((a, b) :: t) k = (a, b) :: Amap.del t k := by simp [Amap.del, hk]
      rw [this]
      simp only [Amap.rising, Bool.and_eq_true, List.all_eq_true]
      exact ⟨fun x hx => h.1 x (List.mem_of_mem_filter hx), ih h.2⟩

omit [DecidableEq β] in
theorem Amap.mem_ins {m : Amap β} {k : Nat} {v : β} {e : Nat × β} (h : e ∈ Amap.ins k v m) :
    e = (k, v) ∨ e ∈ m := by
  induction m with
  | nil => simpa [Amap.ins] using h
  | cons x t ih =>
    obtain ⟨a, b⟩ := x
    unfold Amap.ins at h
    split at h
    · simpa using h
    · rcases List.mem_cons.mp h with h | h
      · exact .inr (by simp [h])
      · rcases ih h with h | h
        · exact .inl h
        · exact .inr (by simp [h])

omit [DecidableEq β] in
theorem Amap.rising_ins (m : Amap β) (k : Nat) (v : β) (h : Amap.rising m = true) (hk : ∀ e ∈ m, e.1 ≠ k) :
    Amap.rising (Amap.ins k v m) = true := by
  induction m with
  | nil => rfl
  | cons e t ih =>
    obtain ⟨a, b⟩ := e
    have h0 := h
    simp only [Amap.rising, Bool.and_eq_true, List.all_eq_true, decide_eq_true_eq] at h
    unfold Amap.ins
    split
    · next hlt =>
      simp only [Amap.rising, Bool.and_eq_true, List.all_eq_true, decide_eq_true_eq]
      refine ⟨?_, h⟩
      intro x hx
      rcases List.mem_cons.mp hx with hx | hx
      · simp [hx, hlt]
      · exact Nat.lt_trans hlt (h.1 x hx)
    · next hlt =>
      have hak : a ≠ k := hk (a, b) (by simp)
      simp only [Amap.rising, Bool.and_eq_true, List.all_eq_true, decide_eq_true_eq]
      refine ⟨?_, ih h.2 fun e he => hk e (by simp [he])⟩
      intro x hx
      rcases Amap.mem_ins hx with hx | hx
      · simp [hx]; omega
      · exact h.1 x hx

/-- A write keeps the canonical form. -/
theorem Amap.wf_set (d : Nat → β) (m : Amap β) (k : Nat) (v : β) (h : Amap.wf d m = true) :
    Amap.wf d (Amap.set (d k) m k v) = true := by
  simp only [Amap.wf, Bool.and_eq_true, List.all_eq_true] at h ⊢
  unfold Amap.set
  split
  · exact ⟨Amap.rising_del m k h.1, fun e he => h.2 e (List.mem_of_mem_filter he)⟩
  · next hv =>
    refine ⟨Amap.rising_ins _ k v (Amap.rising_del m k h.1) (Amap.del_ne m k), fun e he => ?_⟩
    rcases Amap.mem_ins he with he | he
    · simp [he, hv]
    · exact h.2 e (List.mem_of_mem_filter he)

omit [DecidableEq β] in
theorem Amap.rising_filter (m : Amap β) (p : Nat × β → Bool) (h : Amap.rising m = true) :
    Amap.rising (m.filter p) = true := by
  induction m with
  | nil => rfl
  | cons e t ih =>
    obtain ⟨a, b⟩ := e
    simp only [Amap.rising, Bool.and_eq_true, List.all_eq_true] at h
    by_cases hk : p (a, b)
    · simp only [List.filter_cons, hk, if_true, Amap.rising, Bool.and_eq_true, List.all_eq_true]
      exact ⟨fun x hx => h.1 x (List.mem_of_mem_filter hx), ih h.2⟩
    · simpa [List.filter_cons, hk] using ih h.2

/-- Dropping entries keeps the canonical form. -/
theorem Amap.wf_filter (d : Nat → β) (m : Amap β) (p : Nat × β → Bool) (h : Amap.wf d m = true) :
    Amap.wf d (m.filter p) = true := by
  simp only [Amap.wf, Bool.and_eq_true, List.all_eq_true] at h ⊢
  exact ⟨Amap.rising_filter m p h.1, fun e he => h.2 e (List.mem_of_mem_filter he)⟩

end Sys2Proof.Machine
end

