-- ==== Sys2Proof/Laws/State.lean ====
section
/-! SUPPORT. What the basic updates of the state leave unchanged: one lemma per field and update, each true by unfolding. -/

namespace Sys2Proof.Machine

open Sys2Proof

variable (s : State)

/-! `setObj` writes `objs` alone. -/

@[simp] theorem State.setObj_clk (i j v c : Nat) : (s.setObj i j v c).clk = s.clk := rfl
@[simp] theorem State.setObj_pw (i j v c : Nat) : (s.setObj i j v c).pw = s.pw := rfl
@[simp] theorem State.setObj_su (i j v c : Nat) : (s.setObj i j v c).su = s.su := rfl
@[simp] theorem State.setObj_pins (i j v c : Nat) : (s.setObj i j v c).pins = s.pins := rfl
@[simp] theorem State.setObj_attic (i j v c : Nat) : (s.setObj i j v c).attic = s.attic := rfl
@[simp] theorem State.setObj_journal (i j v c : Nat) : (s.setObj i j v c).journal = s.journal := rfl
@[simp] theorem State.setObj_paths (i j v c : Nat) : (s.setObj i j v c).paths = s.paths := rfl
@[simp] theorem State.setObj_can (i j v c : Nat) : (s.setObj i j v c).can = s.can := rfl
@[simp] theorem State.setObj_tpdos (i j v c : Nat) : (s.setObj i j v c).tpdos = s.tpdos := rfl
@[simp] theorem State.setObj_timed (i j v c : Nat) : (s.setObj i j v c).timed = s.timed := rfl
@[simp] theorem State.setObj_mons (i j v c : Nat) : (s.setObj i j v c).mons = s.mons := rfl
@[simp] theorem State.setObj_edge (i j v c : Nat) : (s.setObj i j v c).edge = s.edge := rfl
@[simp] theorem State.setObj_banks (i j v c : Nat) : (s.setObj i j v c).banks = s.banks := rfl
@[simp] theorem State.setObj_smp (i j v c : Nat) : (s.setObj i j v c).smp = s.smp := rfl
@[simp] theorem State.setObj_throttling (i j v c : Nat) : (s.setObj i j v c).throttling = s.throttling := rfl
@[simp] theorem State.setObj_tempOut (i j v c : Nat) : (s.setObj i j v c).tempOut = s.tempOut := rfl
@[simp] theorem State.setObj_held (i j v c : Nat) : (s.setObj i j v c).held = s.held := rfl
@[simp] theorem State.setObj_ctxs (i j v c : Nat) : (s.setObj i j v c).ctxs = s.ctxs := rfl
@[simp] theorem State.setObj_l1 (i j v c : Nat) : (s.setObj i j v c).l1 = s.l1 := rfl
@[simp] theorem State.setObj_engines (i j v c : Nat) : (s.setObj i j v c).engines = s.engines := rfl
@[simp] theorem State.setObj_sched (i j v c : Nat) : (s.setObj i j v c).sched = s.sched := rfl
@[simp] theorem State.setObj_recReqs (i j v c : Nat) : (s.setObj i j v c).recReqs = s.recReqs := rfl
@[simp] theorem State.setObj_smpReqs (i j v c : Nat) : (s.setObj i j v c).smpReqs = s.smpReqs := rfl
@[simp] theorem State.setObj_seq (i j v c : Nat) : (s.setObj i j v c).seq = s.seq := rfl
@[simp] theorem State.setObj_ethDown (i j v c : Nat) : (s.setObj i j v c).ethDown = s.ethDown := rfl
@[simp] theorem State.setObj_loops (i j v c : Nat) : (s.setObj i j v c).loops = s.loops := rfl
@[simp] theorem State.setObj_gptp (i j v c : Nat) : (s.setObj i j v c).gptp = s.gptp := rfl
@[simp] theorem State.setObj_casc (i j v c : Nat) : (s.setObj i j v c).casc = s.casc := rfl
@[simp] theorem State.setObj_depot (i j v c : Nat) : (s.setObj i j v c).depot = s.depot := rfl
@[simp] theorem State.setObj_recov (i j v c : Nat) : (s.setObj i j v c).recov = s.recov := rfl
@[simp] theorem State.setObj_saf (i j v c : Nat) : (s.setObj i j v c).saf = s.saf := rfl
@[simp] theorem State.setObj_mem (i j v c : Nat) : (s.setObj i j v c).mem = s.mem := rfl
@[simp] theorem State.setObj_poison (i j v c : Nat) : (s.setObj i j v c).poison = s.poison := rfl
@[simp] theorem State.setObj_out (i j v c : Nat) : (s.setObj i j v c).out = s.out := rfl
@[simp] theorem State.setObj_freeCtr (i j v c : Nat) : (s.setObj i j v c).freeCtr = s.freeCtr := rfl
@[simp] theorem State.setObj_pending (i j v c : Nat) : (s.setObj i j v c).pending = s.pending := rfl

/-! `setObjB` writes `objs` alone. -/

@[simp] theorem State.setObjB_clk (i j : Nat) (b : Bool) (c : Nat) : (s.setObjB i j b c).clk = s.clk := rfl
@[simp] theorem State.setObjB_pw (i j : Nat) (b : Bool) (c : Nat) : (s.setObjB i j b c).pw = s.pw := rfl
@[simp] theorem State.setObjB_su (i j : Nat) (b : Bool) (c : Nat) : (s.setObjB i j b c).su = s.su := rfl
@[simp] theorem State.setObjB_pins (i j : Nat) (b : Bool) (c : Nat) : (s.setObjB i j b c).pins = s.pins := rfl
@[simp] theorem State.setObjB_attic (i j : Nat) (b : Bool) (c : Nat) : (s.setObjB i j b c).attic = s.attic := rfl
@[simp] theorem State.setObjB_journal (i j : Nat) (b : Bool) (c : Nat) : (s.setObjB i j b c).journal = s.journal := rfl
@[simp] theorem State.setObjB_paths (i j : Nat) (b : Bool) (c : Nat) : (s.setObjB i j b c).paths = s.paths := rfl
@[simp] theorem State.setObjB_can (i j : Nat) (b : Bool) (c : Nat) : (s.setObjB i j b c).can = s.can := rfl
@[simp] theorem State.setObjB_tpdos (i j : Nat) (b : Bool) (c : Nat) : (s.setObjB i j b c).tpdos = s.tpdos := rfl
@[simp] theorem State.setObjB_timed (i j : Nat) (b : Bool) (c : Nat) : (s.setObjB i j b c).timed = s.timed := rfl
@[simp] theorem State.setObjB_mons (i j : Nat) (b : Bool) (c : Nat) : (s.setObjB i j b c).mons = s.mons := rfl
@[simp] theorem State.setObjB_edge (i j : Nat) (b : Bool) (c : Nat) : (s.setObjB i j b c).edge = s.edge := rfl
@[simp] theorem State.setObjB_banks (i j : Nat) (b : Bool) (c : Nat) : (s.setObjB i j b c).banks = s.banks := rfl
@[simp] theorem State.setObjB_smp (i j : Nat) (b : Bool) (c : Nat) : (s.setObjB i j b c).smp = s.smp := rfl
@[simp] theorem State.setObjB_throttling (i j : Nat) (b : Bool) (c : Nat) : (s.setObjB i j b c).throttling = s.throttling := rfl
@[simp] theorem State.setObjB_tempOut (i j : Nat) (b : Bool) (c : Nat) : (s.setObjB i j b c).tempOut = s.tempOut := rfl
@[simp] theorem State.setObjB_held (i j : Nat) (b : Bool) (c : Nat) : (s.setObjB i j b c).held = s.held := rfl
@[simp] theorem State.setObjB_ctxs (i j : Nat) (b : Bool) (c : Nat) : (s.setObjB i j b c).ctxs = s.ctxs := rfl
@[simp] theorem State.setObjB_l1 (i j : Nat) (b : Bool) (c : Nat) : (s.setObjB i j b c).l1 = s.l1 := rfl
@[simp] theorem State.setObjB_engines (i j : Nat) (b : Bool) (c : Nat) : (s.setObjB i j b c).engines = s.engines := rfl
@[simp] theorem State.setObjB_sched (i j : Nat) (b : Bool) (c : Nat) : (s.setObjB i j b c).sched = s.sched := rfl
@[simp] theorem State.setObjB_recReqs (i j : Nat) (b : Bool) (c : Nat) : (s.setObjB i j b c).recReqs = s.recReqs := rfl
@[simp] theorem State.setObjB_smpReqs (i j : Nat) (b : Bool) (c : Nat) : (s.setObjB i j b c).smpReqs = s.smpReqs := rfl
@[simp] theorem State.setObjB_seq (i j : Nat) (b : Bool) (c : Nat) : (s.setObjB i j b c).seq = s.seq := rfl
@[simp] theorem State.setObjB_ethDown (i j : Nat) (b : Bool) (c : Nat) : (s.setObjB i j b c).ethDown = s.ethDown := rfl
@[simp] theorem State.setObjB_loops (i j : Nat) (b : Bool) (c : Nat) : (s.setObjB i j b c).loops = s.loops := rfl
@[simp] theorem State.setObjB_gptp (i j : Nat) (b : Bool) (c : Nat) : (s.setObjB i j b c).gptp = s.gptp := rfl
@[simp] theorem State.setObjB_casc (i j : Nat) (b : Bool) (c : Nat) : (s.setObjB i j b c).casc = s.casc := rfl
@[simp] theorem State.setObjB_depot (i j : Nat) (b : Bool) (c : Nat) : (s.setObjB i j b c).depot = s.depot := rfl
@[simp] theorem State.setObjB_recov (i j : Nat) (b : Bool) (c : Nat) : (s.setObjB i j b c).recov = s.recov := rfl
@[simp] theorem State.setObjB_saf (i j : Nat) (b : Bool) (c : Nat) : (s.setObjB i j b c).saf = s.saf := rfl
@[simp] theorem State.setObjB_mem (i j : Nat) (b : Bool) (c : Nat) : (s.setObjB i j b c).mem = s.mem := rfl
@[simp] theorem State.setObjB_poison (i j : Nat) (b : Bool) (c : Nat) : (s.setObjB i j b c).poison = s.poison := rfl
@[simp] theorem State.setObjB_out (i j : Nat) (b : Bool) (c : Nat) : (s.setObjB i j b c).out = s.out := rfl
@[simp] theorem State.setObjB_freeCtr (i j : Nat) (b : Bool) (c : Nat) : (s.setObjB i j b c).freeCtr = s.freeCtr := rfl
@[simp] theorem State.setObjB_pending (i j : Nat) (b : Bool) (c : Nat) : (s.setObjB i j b c).pending = s.pending := rfl

/-! `bump` writes `objs` alone. -/

@[simp] theorem State.bump_clk (i j c n : Nat) : (s.bump i j c n).clk = s.clk := rfl
@[simp] theorem State.bump_pw (i j c n : Nat) : (s.bump i j c n).pw = s.pw := rfl
@[simp] theorem State.bump_su (i j c n : Nat) : (s.bump i j c n).su = s.su := rfl
@[simp] theorem State.bump_pins (i j c n : Nat) : (s.bump i j c n).pins = s.pins := rfl
@[simp] theorem State.bump_attic (i j c n : Nat) : (s.bump i j c n).attic = s.attic := rfl
@[simp] theorem State.bump_journal (i j c n : Nat) : (s.bump i j c n).journal = s.journal := rfl
@[simp] theorem State.bump_paths (i j c n : Nat) : (s.bump i j c n).paths = s.paths := rfl
@[simp] theorem State.bump_can (i j c n : Nat) : (s.bump i j c n).can = s.can := rfl
@[simp] theorem State.bump_tpdos (i j c n : Nat) : (s.bump i j c n).tpdos = s.tpdos := rfl
@[simp] theorem State.bump_timed (i j c n : Nat) : (s.bump i j c n).timed = s.timed := rfl
@[simp] theorem State.bump_mons (i j c n : Nat) : (s.bump i j c n).mons = s.mons := rfl
@[simp] theorem State.bump_edge (i j c n : Nat) : (s.bump i j c n).edge = s.edge := rfl
@[simp] theorem State.bump_banks (i j c n : Nat) : (s.bump i j c n).banks = s.banks := rfl
@[simp] theorem State.bump_smp (i j c n : Nat) : (s.bump i j c n).smp = s.smp := rfl
@[simp] theorem State.bump_throttling (i j c n : Nat) : (s.bump i j c n).throttling = s.throttling := rfl
@[simp] theorem State.bump_tempOut (i j c n : Nat) : (s.bump i j c n).tempOut = s.tempOut := rfl
@[simp] theorem State.bump_held (i j c n : Nat) : (s.bump i j c n).held = s.held := rfl
@[simp] theorem State.bump_ctxs (i j c n : Nat) : (s.bump i j c n).ctxs = s.ctxs := rfl
@[simp] theorem State.bump_l1 (i j c n : Nat) : (s.bump i j c n).l1 = s.l1 := rfl
@[simp] theorem State.bump_engines (i j c n : Nat) : (s.bump i j c n).engines = s.engines := rfl
@[simp] theorem State.bump_sched (i j c n : Nat) : (s.bump i j c n).sched = s.sched := rfl
@[simp] theorem State.bump_recReqs (i j c n : Nat) : (s.bump i j c n).recReqs = s.recReqs := rfl
@[simp] theorem State.bump_smpReqs (i j c n : Nat) : (s.bump i j c n).smpReqs = s.smpReqs := rfl
@[simp] theorem State.bump_seq (i j c n : Nat) : (s.bump i j c n).seq = s.seq := rfl
@[simp] theorem State.bump_ethDown (i j c n : Nat) : (s.bump i j c n).ethDown = s.ethDown := rfl
@[simp] theorem State.bump_loops (i j c n : Nat) : (s.bump i j c n).loops = s.loops := rfl
@[simp] theorem State.bump_gptp (i j c n : Nat) : (s.bump i j c n).gptp = s.gptp := rfl
@[simp] theorem State.bump_casc (i j c n : Nat) : (s.bump i j c n).casc = s.casc := rfl
@[simp] theorem State.bump_depot (i j c n : Nat) : (s.bump i j c n).depot = s.depot := rfl
@[simp] theorem State.bump_recov (i j c n : Nat) : (s.bump i j c n).recov = s.recov := rfl
@[simp] theorem State.bump_saf (i j c n : Nat) : (s.bump i j c n).saf = s.saf := rfl
@[simp] theorem State.bump_mem (i j c n : Nat) : (s.bump i j c n).mem = s.mem := rfl
@[simp] theorem State.bump_poison (i j c n : Nat) : (s.bump i j c n).poison = s.poison := rfl
@[simp] theorem State.bump_out (i j c n : Nat) : (s.bump i j c n).out = s.out := rfl
@[simp] theorem State.bump_freeCtr (i j c n : Nat) : (s.bump i j c n).freeCtr = s.freeCtr := rfl
@[simp] theorem State.bump_pending (i j c n : Nat) : (s.bump i j c n).pending = s.pending := rfl

/-! `bumpSat` writes `objs` alone. -/

@[simp] theorem State.bumpSat_clk (i j c n : Nat) : (s.bumpSat i j c n).clk = s.clk := rfl
@[simp] theorem State.bumpSat_pw (i j c n : Nat) : (s.bumpSat i j c n).pw = s.pw := rfl
@[simp] theorem State.bumpSat_su (i j c n : Nat) : (s.bumpSat i j c n).su = s.su := rfl
@[simp] theorem State.bumpSat_pins (i j c n : Nat) : (s.bumpSat i j c n).pins = s.pins := rfl
@[simp] theorem State.bumpSat_attic (i j c n : Nat) : (s.bumpSat i j c n).attic = s.attic := rfl
@[simp] theorem State.bumpSat_journal (i j c n : Nat) : (s.bumpSat i j c n).journal = s.journal := rfl
@[simp] theorem State.bumpSat_paths (i j c n : Nat) : (s.bumpSat i j c n).paths = s.paths := rfl
@[simp] theorem State.bumpSat_can (i j c n : Nat) : (s.bumpSat i j c n).can = s.can := rfl
@[simp] theorem State.bumpSat_tpdos (i j c n : Nat) : (s.bumpSat i j c n).tpdos = s.tpdos := rfl
@[simp] theorem State.bumpSat_timed (i j c n : Nat) : (s.bumpSat i j c n).timed = s.timed := rfl
@[simp] theorem State.bumpSat_mons (i j c n : Nat) : (s.bumpSat i j c n).mons = s.mons := rfl
@[simp] theorem State.bumpSat_edge (i j c n : Nat) : (s.bumpSat i j c n).edge = s.edge := rfl
@[simp] theorem State.bumpSat_banks (i j c n : Nat) : (s.bumpSat i j c n).banks = s.banks := rfl
@[simp] theorem State.bumpSat_smp (i j c n : Nat) : (s.bumpSat i j c n).smp = s.smp := rfl
@[simp] theorem State.bumpSat_throttling (i j c n : Nat) : (s.bumpSat i j c n).throttling = s.throttling := rfl
@[simp] theorem State.bumpSat_tempOut (i j c n : Nat) : (s.bumpSat i j c n).tempOut = s.tempOut := rfl
@[simp] theorem State.bumpSat_held (i j c n : Nat) : (s.bumpSat i j c n).held = s.held := rfl
@[simp] theorem State.bumpSat_ctxs (i j c n : Nat) : (s.bumpSat i j c n).ctxs = s.ctxs := rfl
@[simp] theorem State.bumpSat_l1 (i j c n : Nat) : (s.bumpSat i j c n).l1 = s.l1 := rfl
@[simp] theorem State.bumpSat_engines (i j c n : Nat) : (s.bumpSat i j c n).engines = s.engines := rfl
@[simp] theorem State.bumpSat_sched (i j c n : Nat) : (s.bumpSat i j c n).sched = s.sched := rfl
@[simp] theorem State.bumpSat_recReqs (i j c n : Nat) : (s.bumpSat i j c n).recReqs = s.recReqs := rfl
@[simp] theorem State.bumpSat_smpReqs (i j c n : Nat) : (s.bumpSat i j c n).smpReqs = s.smpReqs := rfl
@[simp] theorem State.bumpSat_seq (i j c n : Nat) : (s.bumpSat i j c n).seq = s.seq := rfl
@[simp] theorem State.bumpSat_ethDown (i j c n : Nat) : (s.bumpSat i j c n).ethDown = s.ethDown := rfl
@[simp] theorem State.bumpSat_loops (i j c n : Nat) : (s.bumpSat i j c n).loops = s.loops := rfl
@[simp] theorem State.bumpSat_gptp (i j c n : Nat) : (s.bumpSat i j c n).gptp = s.gptp := rfl
@[simp] theorem State.bumpSat_casc (i j c n : Nat) : (s.bumpSat i j c n).casc = s.casc := rfl
@[simp] theorem State.bumpSat_depot (i j c n : Nat) : (s.bumpSat i j c n).depot = s.depot := rfl
@[simp] theorem State.bumpSat_recov (i j c n : Nat) : (s.bumpSat i j c n).recov = s.recov := rfl
@[simp] theorem State.bumpSat_saf (i j c n : Nat) : (s.bumpSat i j c n).saf = s.saf := rfl
@[simp] theorem State.bumpSat_mem (i j c n : Nat) : (s.bumpSat i j c n).mem = s.mem := rfl
@[simp] theorem State.bumpSat_poison (i j c n : Nat) : (s.bumpSat i j c n).poison = s.poison := rfl
@[simp] theorem State.bumpSat_out (i j c n : Nat) : (s.bumpSat i j c n).out = s.out := rfl
@[simp] theorem State.bumpSat_freeCtr (i j c n : Nat) : (s.bumpSat i j c n).freeCtr = s.freeCtr := rfl
@[simp] theorem State.bumpSat_pending (i j c n : Nat) : (s.bumpSat i j c n).pending = s.pending := rfl

/-! `setObjBit` writes `objs` alone. -/

@[simp] theorem State.setObjBit_clk (i j n : Nat) (b : Bool) (c : Nat) : (s.setObjBit i j n b c).clk = s.clk := rfl
@[simp] theorem State.setObjBit_pw (i j n : Nat) (b : Bool) (c : Nat) : (s.setObjBit i j n b c).pw = s.pw := rfl
@[simp] theorem State.setObjBit_su (i j n : Nat) (b : Bool) (c : Nat) : (s.setObjBit i j n b c).su = s.su := rfl
@[simp] theorem State.setObjBit_pins (i j n : Nat) (b : Bool) (c : Nat) : (s.setObjBit i j n b c).pins = s.pins := rfl
@[simp] theorem State.setObjBit_attic (i j n : Nat) (b : Bool) (c : Nat) : (s.setObjBit i j n b c).attic = s.attic := rfl
@[simp] theorem State.setObjBit_journal (i j n : Nat) (b : Bool) (c : Nat) : (s.setObjBit i j n b c).journal = s.journal := rfl
@[simp] theorem State.setObjBit_paths (i j n : Nat) (b : Bool) (c : Nat) : (s.setObjBit i j n b c).paths = s.paths := rfl
@[simp] theorem State.setObjBit_can (i j n : Nat) (b : Bool) (c : Nat) : (s.setObjBit i j n b c).can = s.can := rfl
@[simp] theorem State.setObjBit_tpdos (i j n : Nat) (b : Bool) (c : Nat) : (s.setObjBit i j n b c).tpdos = s.tpdos := rfl
@[simp] theorem State.setObjBit_timed (i j n : Nat) (b : Bool) (c : Nat) : (s.setObjBit i j n b c).timed = s.timed := rfl
@[simp] theorem State.setObjBit_mons (i j n : Nat) (b : Bool) (c : Nat) : (s.setObjBit i j n b c).mons = s.mons := rfl
@[simp] theorem State.setObjBit_edge (i j n : Nat) (b : Bool) (c : Nat) : (s.setObjBit i j n b c).edge = s.edge := rfl
@[simp] theorem State.setObjBit_banks (i j n : Nat) (b : Bool) (c : Nat) : (s.setObjBit i j n b c).banks = s.banks := rfl
@[simp] theorem State.setObjBit_smp (i j n : Nat) (b : Bool) (c : Nat) : (s.setObjBit i j n b c).smp = s.smp := rfl
@[simp] theorem State.setObjBit_throttling (i j n : Nat) (b : Bool) (c : Nat) : (s.setObjBit i j n b c).throttling = s.throttling := rfl
@[simp] theorem State.setObjBit_tempOut (i j n : Nat) (b : Bool) (c : Nat) : (s.setObjBit i j n b c).tempOut = s.tempOut := rfl
@[simp] theorem State.setObjBit_held (i j n : Nat) (b : Bool) (c : Nat) : (s.setObjBit i j n b c).held = s.held := rfl
@[simp] theorem State.setObjBit_ctxs (i j n : Nat) (b : Bool) (c : Nat) : (s.setObjBit i j n b c).ctxs = s.ctxs := rfl
@[simp] theorem State.setObjBit_l1 (i j n : Nat) (b : Bool) (c : Nat) : (s.setObjBit i j n b c).l1 = s.l1 := rfl
@[simp] theorem State.setObjBit_engines (i j n : Nat) (b : Bool) (c : Nat) : (s.setObjBit i j n b c).engines = s.engines := rfl
@[simp] theorem State.setObjBit_sched (i j n : Nat) (b : Bool) (c : Nat) : (s.setObjBit i j n b c).sched = s.sched := rfl
@[simp] theorem State.setObjBit_recReqs (i j n : Nat) (b : Bool) (c : Nat) : (s.setObjBit i j n b c).recReqs = s.recReqs := rfl
@[simp] theorem State.setObjBit_smpReqs (i j n : Nat) (b : Bool) (c : Nat) : (s.setObjBit i j n b c).smpReqs = s.smpReqs := rfl
@[simp] theorem State.setObjBit_seq (i j n : Nat) (b : Bool) (c : Nat) : (s.setObjBit i j n b c).seq = s.seq := rfl
@[simp] theorem State.setObjBit_ethDown (i j n : Nat) (b : Bool) (c : Nat) : (s.setObjBit i j n b c).ethDown = s.ethDown := rfl
@[simp] theorem State.setObjBit_loops (i j n : Nat) (b : Bool) (c : Nat) : (s.setObjBit i j n b c).loops = s.loops := rfl
@[simp] theorem State.setObjBit_gptp (i j n : Nat) (b : Bool) (c : Nat) : (s.setObjBit i j n b c).gptp = s.gptp := rfl
@[simp] theorem State.setObjBit_casc (i j n : Nat) (b : Bool) (c : Nat) : (s.setObjBit i j n b c).casc = s.casc := rfl
@[simp] theorem State.setObjBit_depot (i j n : Nat) (b : Bool) (c : Nat) : (s.setObjBit i j n b c).depot = s.depot := rfl
@[simp] theorem State.setObjBit_recov (i j n : Nat) (b : Bool) (c : Nat) : (s.setObjBit i j n b c).recov = s.recov := rfl
@[simp] theorem State.setObjBit_saf (i j n : Nat) (b : Bool) (c : Nat) : (s.setObjBit i j n b c).saf = s.saf := rfl
@[simp] theorem State.setObjBit_mem (i j n : Nat) (b : Bool) (c : Nat) : (s.setObjBit i j n b c).mem = s.mem := rfl
@[simp] theorem State.setObjBit_poison (i j n : Nat) (b : Bool) (c : Nat) : (s.setObjBit i j n b c).poison = s.poison := rfl
@[simp] theorem State.setObjBit_out (i j n : Nat) (b : Bool) (c : Nat) : (s.setObjBit i j n b c).out = s.out := rfl
@[simp] theorem State.setObjBit_freeCtr (i j n : Nat) (b : Bool) (c : Nat) : (s.setObjBit i j n b c).freeCtr = s.freeCtr := rfl
@[simp] theorem State.setObjBit_pending (i j n : Nat) (b : Bool) (c : Nat) : (s.setObjBit i j n b c).pending = s.pending := rfl

/-! `setPhase` writes `objs` alone. -/

@[simp] theorem State.setPhase_clk (p : Nat) : (s.setPhase p).clk = s.clk := rfl
@[simp] theorem State.setPhase_pw (p : Nat) : (s.setPhase p).pw = s.pw := rfl
@[simp] theorem State.setPhase_su (p : Nat) : (s.setPhase p).su = s.su := rfl
@[simp] theorem State.setPhase_pins (p : Nat) : (s.setPhase p).pins = s.pins := rfl
@[simp] theorem State.setPhase_attic (p : Nat) : (s.setPhase p).attic = s.attic := rfl
@[simp] theorem State.setPhase_journal (p : Nat) : (s.setPhase p).journal = s.journal := rfl
@[simp] theorem State.setPhase_paths (p : Nat) : (s.setPhase p).paths = s.paths := rfl
@[simp] theorem State.setPhase_can (p : Nat) : (s.setPhase p).can = s.can := rfl
@[simp] theorem State.setPhase_tpdos (p : Nat) : (s.setPhase p).tpdos = s.tpdos := rfl
@[simp] theorem State.setPhase_timed (p : Nat) : (s.setPhase p).timed = s.timed := rfl
@[simp] theorem State.setPhase_mons (p : Nat) : (s.setPhase p).mons = s.mons := rfl
@[simp] theorem State.setPhase_edge (p : Nat) : (s.setPhase p).edge = s.edge := rfl
@[simp] theorem State.setPhase_banks (p : Nat) : (s.setPhase p).banks = s.banks := rfl
@[simp] theorem State.setPhase_smp (p : Nat) : (s.setPhase p).smp = s.smp := rfl
@[simp] theorem State.setPhase_throttling (p : Nat) : (s.setPhase p).throttling = s.throttling := rfl
@[simp] theorem State.setPhase_tempOut (p : Nat) : (s.setPhase p).tempOut = s.tempOut := rfl
@[simp] theorem State.setPhase_held (p : Nat) : (s.setPhase p).held = s.held := rfl
@[simp] theorem State.setPhase_ctxs (p : Nat) : (s.setPhase p).ctxs = s.ctxs := rfl
@[simp] theorem State.setPhase_l1 (p : Nat) : (s.setPhase p).l1 = s.l1 := rfl
@[simp] theorem State.setPhase_engines (p : Nat) : (s.setPhase p).engines = s.engines := rfl
@[simp] theorem State.setPhase_sched (p : Nat) : (s.setPhase p).sched = s.sched := rfl
@[simp] theorem State.setPhase_recReqs (p : Nat) : (s.setPhase p).recReqs = s.recReqs := rfl
@[simp] theorem State.setPhase_smpReqs (p : Nat) : (s.setPhase p).smpReqs = s.smpReqs := rfl
@[simp] theorem State.setPhase_seq (p : Nat) : (s.setPhase p).seq = s.seq := rfl
@[simp] theorem State.setPhase_ethDown (p : Nat) : (s.setPhase p).ethDown = s.ethDown := rfl
@[simp] theorem State.setPhase_loops (p : Nat) : (s.setPhase p).loops = s.loops := rfl
@[simp] theorem State.setPhase_gptp (p : Nat) : (s.setPhase p).gptp = s.gptp := rfl
@[simp] theorem State.setPhase_casc (p : Nat) : (s.setPhase p).casc = s.casc := rfl
@[simp] theorem State.setPhase_depot (p : Nat) : (s.setPhase p).depot = s.depot := rfl
@[simp] theorem State.setPhase_recov (p : Nat) : (s.setPhase p).recov = s.recov := rfl
@[simp] theorem State.setPhase_saf (p : Nat) : (s.setPhase p).saf = s.saf := rfl
@[simp] theorem State.setPhase_mem (p : Nat) : (s.setPhase p).mem = s.mem := rfl
@[simp] theorem State.setPhase_poison (p : Nat) : (s.setPhase p).poison = s.poison := rfl
@[simp] theorem State.setPhase_out (p : Nat) : (s.setPhase p).out = s.out := rfl
@[simp] theorem State.setPhase_freeCtr (p : Nat) : (s.setPhase p).freeCtr = s.freeCtr := rfl
@[simp] theorem State.setPhase_pending (p : Nat) : (s.setPhase p).pending = s.pending := rfl

/-! `emit` writes `out` alone. -/

@[simp] theorem State.emit_objs (o : Output) : (s.emit o).objs = s.objs := rfl
@[simp] theorem State.emit_clk (o : Output) : (s.emit o).clk = s.clk := rfl
@[simp] theorem State.emit_pw (o : Output) : (s.emit o).pw = s.pw := rfl
@[simp] theorem State.emit_su (o : Output) : (s.emit o).su = s.su := rfl
@[simp] theorem State.emit_pins (o : Output) : (s.emit o).pins = s.pins := rfl
@[simp] theorem State.emit_attic (o : Output) : (s.emit o).attic = s.attic := rfl
@[simp] theorem State.emit_journal (o : Output) : (s.emit o).journal = s.journal := rfl
@[simp] theorem State.emit_paths (o : Output) : (s.emit o).paths = s.paths := rfl
@[simp] theorem State.emit_can (o : Output) : (s.emit o).can = s.can := rfl
@[simp] theorem State.emit_tpdos (o : Output) : (s.emit o).tpdos = s.tpdos := rfl
@[simp] theorem State.emit_timed (o : Output) : (s.emit o).timed = s.timed := rfl
@[simp] theorem State.emit_mons (o : Output) : (s.emit o).mons = s.mons := rfl
@[simp] theorem State.emit_edge (o : Output) : (s.emit o).edge = s.edge := rfl
@[simp] theorem State.emit_banks (o : Output) : (s.emit o).banks = s.banks := rfl
@[simp] theorem State.emit_smp (o : Output) : (s.emit o).smp = s.smp := rfl
@[simp] theorem State.emit_throttling (o : Output) : (s.emit o).throttling = s.throttling := rfl
@[simp] theorem State.emit_tempOut (o : Output) : (s.emit o).tempOut = s.tempOut := rfl
@[simp] theorem State.emit_held (o : Output) : (s.emit o).held = s.held := rfl
@[simp] theorem State.emit_ctxs (o : Output) : (s.emit o).ctxs = s.ctxs := rfl
@[simp] theorem State.emit_l1 (o : Output) : (s.emit o).l1 = s.l1 := rfl
@[simp] theorem State.emit_engines (o : Output) : (s.emit o).engines = s.engines := rfl
@[simp] theorem State.emit_sched (o : Output) : (s.emit o).sched = s.sched := rfl
@[simp] theorem State.emit_recReqs (o : Output) : (s.emit o).recReqs = s.recReqs := rfl
@[simp] theorem State.emit_smpReqs (o : Output) : (s.emit o).smpReqs = s.smpReqs := rfl
@[simp] theorem State.emit_seq (o : Output) : (s.emit o).seq = s.seq := rfl
@[simp] theorem State.emit_ethDown (o : Output) : (s.emit o).ethDown = s.ethDown := rfl
@[simp] theorem State.emit_loops (o : Output) : (s.emit o).loops = s.loops := rfl
@[simp] theorem State.emit_gptp (o : Output) : (s.emit o).gptp = s.gptp := rfl
@[simp] theorem State.emit_casc (o : Output) : (s.emit o).casc = s.casc := rfl
@[simp] theorem State.emit_depot (o : Output) : (s.emit o).depot = s.depot := rfl
@[simp] theorem State.emit_recov (o : Output) : (s.emit o).recov = s.recov := rfl
@[simp] theorem State.emit_saf (o : Output) : (s.emit o).saf = s.saf := rfl
@[simp] theorem State.emit_mem (o : Output) : (s.emit o).mem = s.mem := rfl
@[simp] theorem State.emit_poison (o : Output) : (s.emit o).poison = s.poison := rfl
@[simp] theorem State.emit_freeCtr (o : Output) : (s.emit o).freeCtr = s.freeCtr := rfl
@[simp] theorem State.emit_pending (o : Output) : (s.emit o).pending = s.pending := rfl

/-! `setPath` writes `paths` alone. -/

@[simp] theorem State.setPath_objs (c : Nat) (p : PathState) : (s.setPath c p).objs = s.objs := rfl
@[simp] theorem State.setPath_clk (c : Nat) (p : PathState) : (s.setPath c p).clk = s.clk := rfl
@[simp] theorem State.setPath_pw (c : Nat) (p : PathState) : (s.setPath c p).pw = s.pw := rfl
@[simp] theorem State.setPath_su (c : Nat) (p : PathState) : (s.setPath c p).su = s.su := rfl
@[simp] theorem State.setPath_pins (c : Nat) (p : PathState) : (s.setPath c p).pins = s.pins := rfl
@[simp] theorem State.setPath_attic (c : Nat) (p : PathState) : (s.setPath c p).attic = s.attic := rfl
@[simp] theorem State.setPath_journal (c : Nat) (p : PathState) : (s.setPath c p).journal = s.journal := rfl
@[simp] theorem State.setPath_can (c : Nat) (p : PathState) : (s.setPath c p).can = s.can := rfl
@[simp] theorem State.setPath_tpdos (c : Nat) (p : PathState) : (s.setPath c p).tpdos = s.tpdos := rfl
@[simp] theorem State.setPath_timed (c : Nat) (p : PathState) : (s.setPath c p).timed = s.timed := rfl
@[simp] theorem State.setPath_mons (c : Nat) (p : PathState) : (s.setPath c p).mons = s.mons := rfl
@[simp] theorem State.setPath_edge (c : Nat) (p : PathState) : (s.setPath c p).edge = s.edge := rfl
@[simp] theorem State.setPath_banks (c : Nat) (p : PathState) : (s.setPath c p).banks = s.banks := rfl
@[simp] theorem State.setPath_smp (c : Nat) (p : PathState) : (s.setPath c p).smp = s.smp := rfl
@[simp] theorem State.setPath_throttling (c : Nat) (p : PathState) : (s.setPath c p).throttling = s.throttling := rfl
@[simp] theorem State.setPath_tempOut (c : Nat) (p : PathState) : (s.setPath c p).tempOut = s.tempOut := rfl
@[simp] theorem State.setPath_held (c : Nat) (p : PathState) : (s.setPath c p).held = s.held := rfl
@[simp] theorem State.setPath_ctxs (c : Nat) (p : PathState) : (s.setPath c p).ctxs = s.ctxs := rfl
@[simp] theorem State.setPath_l1 (c : Nat) (p : PathState) : (s.setPath c p).l1 = s.l1 := rfl
@[simp] theorem State.setPath_engines (c : Nat) (p : PathState) : (s.setPath c p).engines = s.engines := rfl
@[simp] theorem State.setPath_sched (c : Nat) (p : PathState) : (s.setPath c p).sched = s.sched := rfl
@[simp] theorem State.setPath_recReqs (c : Nat) (p : PathState) : (s.setPath c p).recReqs = s.recReqs := rfl
@[simp] theorem State.setPath_smpReqs (c : Nat) (p : PathState) : (s.setPath c p).smpReqs = s.smpReqs := rfl
@[simp] theorem State.setPath_seq (c : Nat) (p : PathState) : (s.setPath c p).seq = s.seq := rfl
@[simp] theorem State.setPath_ethDown (c : Nat) (p : PathState) : (s.setPath c p).ethDown = s.ethDown := rfl
@[simp] theorem State.setPath_loops (c : Nat) (p : PathState) : (s.setPath c p).loops = s.loops := rfl
@[simp] theorem State.setPath_gptp (c : Nat) (p : PathState) : (s.setPath c p).gptp = s.gptp := rfl
@[simp] theorem State.setPath_casc (c : Nat) (p : PathState) : (s.setPath c p).casc = s.casc := rfl
@[simp] theorem State.setPath_depot (c : Nat) (p : PathState) : (s.setPath c p).depot = s.depot := rfl
@[simp] theorem State.setPath_recov (c : Nat) (p : PathState) : (s.setPath c p).recov = s.recov := rfl
@[simp] theorem State.setPath_saf (c : Nat) (p : PathState) : (s.setPath c p).saf = s.saf := rfl
@[simp] theorem State.setPath_mem (c : Nat) (p : PathState) : (s.setPath c p).mem = s.mem := rfl
@[simp] theorem State.setPath_poison (c : Nat) (p : PathState) : (s.setPath c p).poison = s.poison := rfl
@[simp] theorem State.setPath_out (c : Nat) (p : PathState) : (s.setPath c p).out = s.out := rfl
@[simp] theorem State.setPath_freeCtr (c : Nat) (p : PathState) : (s.setPath c p).freeCtr = s.freeCtr := rfl
@[simp] theorem State.setPath_pending (c : Nat) (p : PathState) : (s.setPath c p).pending = s.pending := rfl

/-! `modPath` writes `paths` alone. -/

@[simp] theorem State.modPath_objs (c : Nat) (f : PathState → PathState) : (s.modPath c f).objs = s.objs := rfl
@[simp] theorem State.modPath_clk (c : Nat) (f : PathState → PathState) : (s.modPath c f).clk = s.clk := rfl
@[simp] theorem State.modPath_pw (c : Nat) (f : PathState → PathState) : (s.modPath c f).pw = s.pw := rfl
@[simp] theorem State.modPath_su (c : Nat) (f : PathState → PathState) : (s.modPath c f).su = s.su := rfl
@[simp] theorem State.modPath_pins (c : Nat) (f : PathState → PathState) : (s.modPath c f).pins = s.pins := rfl
@[simp] theorem State.modPath_attic (c : Nat) (f : PathState → PathState) : (s.modPath c f).attic = s.attic := rfl
@[simp] theorem State.modPath_journal (c : Nat) (f : PathState → PathState) : (s.modPath c f).journal = s.journal := rfl
@[simp] theorem State.modPath_can (c : Nat) (f : PathState → PathState) : (s.modPath c f).can = s.can := rfl
@[simp] theorem State.modPath_tpdos (c : Nat) (f : PathState → PathState) : (s.modPath c f).tpdos = s.tpdos := rfl
@[simp] theorem State.modPath_timed (c : Nat) (f : PathState → PathState) : (s.modPath c f).timed = s.timed := rfl
@[simp] theorem State.modPath_mons (c : Nat) (f : PathState → PathState) : (s.modPath c f).mons = s.mons := rfl
@[simp] theorem State.modPath_edge (c : Nat) (f : PathState → PathState) : (s.modPath c f).edge = s.edge := rfl
@[simp] theorem State.modPath_banks (c : Nat) (f : PathState → PathState) : (s.modPath c f).banks = s.banks := rfl
@[simp] theorem State.modPath_smp (c : Nat) (f : PathState → PathState) : (s.modPath c f).smp = s.smp := rfl
@[simp] theorem State.modPath_throttling (c : Nat) (f : PathState → PathState) : (s.modPath c f).throttling = s.throttling := rfl
@[simp] theorem State.modPath_tempOut (c : Nat) (f : PathState → PathState) : (s.modPath c f).tempOut = s.tempOut := rfl
@[simp] theorem State.modPath_held (c : Nat) (f : PathState → PathState) : (s.modPath c f).held = s.held := rfl
@[simp] theorem State.modPath_ctxs (c : Nat) (f : PathState → PathState) : (s.modPath c f).ctxs = s.ctxs := rfl
@[simp] theorem State.modPath_l1 (c : Nat) (f : PathState → PathState) : (s.modPath c f).l1 = s.l1 := rfl
@[simp] theorem State.modPath_engines (c : Nat) (f : PathState → PathState) : (s.modPath c f).engines = s.engines := rfl
@[simp] theorem State.modPath_sched (c : Nat) (f : PathState → PathState) : (s.modPath c f).sched = s.sched := rfl
@[simp] theorem State.modPath_recReqs (c : Nat) (f : PathState → PathState) : (s.modPath c f).recReqs = s.recReqs := rfl
@[simp] theorem State.modPath_smpReqs (c : Nat) (f : PathState → PathState) : (s.modPath c f).smpReqs = s.smpReqs := rfl
@[simp] theorem State.modPath_seq (c : Nat) (f : PathState → PathState) : (s.modPath c f).seq = s.seq := rfl
@[simp] theorem State.modPath_ethDown (c : Nat) (f : PathState → PathState) : (s.modPath c f).ethDown = s.ethDown := rfl
@[simp] theorem State.modPath_loops (c : Nat) (f : PathState → PathState) : (s.modPath c f).loops = s.loops := rfl
@[simp] theorem State.modPath_gptp (c : Nat) (f : PathState → PathState) : (s.modPath c f).gptp = s.gptp := rfl
@[simp] theorem State.modPath_casc (c : Nat) (f : PathState → PathState) : (s.modPath c f).casc = s.casc := rfl
@[simp] theorem State.modPath_depot (c : Nat) (f : PathState → PathState) : (s.modPath c f).depot = s.depot := rfl
@[simp] theorem State.modPath_recov (c : Nat) (f : PathState → PathState) : (s.modPath c f).recov = s.recov := rfl
@[simp] theorem State.modPath_saf (c : Nat) (f : PathState → PathState) : (s.modPath c f).saf = s.saf := rfl
@[simp] theorem State.modPath_mem (c : Nat) (f : PathState → PathState) : (s.modPath c f).mem = s.mem := rfl
@[simp] theorem State.modPath_poison (c : Nat) (f : PathState → PathState) : (s.modPath c f).poison = s.poison := rfl
@[simp] theorem State.modPath_out (c : Nat) (f : PathState → PathState) : (s.modPath c f).out = s.out := rfl
@[simp] theorem State.modPath_freeCtr (c : Nat) (f : PathState → PathState) : (s.modPath c f).freeCtr = s.freeCtr := rfl
@[simp] theorem State.modPath_pending (c : Nat) (f : PathState → PathState) : (s.modPath c f).pending = s.pending := rfl

/-! `freshPath` writes `paths` alone. -/

@[simp] theorem State.freshPath_objs (c : Nat) : (s.freshPath c).objs = s.objs := rfl
@[simp] theorem State.freshPath_clk (c : Nat) : (s.freshPath c).clk = s.clk := rfl
@[simp] theorem State.freshPath_pw (c : Nat) : (s.freshPath c).pw = s.pw := rfl
@[simp] theorem State.freshPath_su (c : Nat) : (s.freshPath c).su = s.su := rfl
@[simp] theorem State.freshPath_pins (c : Nat) : (s.freshPath c).pins = s.pins := rfl
@[simp] theorem State.freshPath_attic (c : Nat) : (s.freshPath c).attic = s.attic := rfl
@[simp] theorem State.freshPath_journal (c : Nat) : (s.freshPath c).journal = s.journal := rfl
@[simp] theorem State.freshPath_can (c : Nat) : (s.freshPath c).can = s.can := rfl
@[simp] theorem State.freshPath_tpdos (c : Nat) : (s.freshPath c).tpdos = s.tpdos := rfl
@[simp] theorem State.freshPath_timed (c : Nat) : (s.freshPath c).timed = s.timed := rfl
@[simp] theorem State.freshPath_mons (c : Nat) : (s.freshPath c).mons = s.mons := rfl
@[simp] theorem State.freshPath_edge (c : Nat) : (s.freshPath c).edge = s.edge := rfl
@[simp] theorem State.freshPath_banks (c : Nat) : (s.freshPath c).banks = s.banks := rfl
@[simp] theorem State.freshPath_smp (c : Nat) : (s.freshPath c).smp = s.smp := rfl
@[simp] theorem State.freshPath_throttling (c : Nat) : (s.freshPath c).throttling = s.throttling := rfl
@[simp] theorem State.freshPath_tempOut (c : Nat) : (s.freshPath c).tempOut = s.tempOut := rfl
@[simp] theorem State.freshPath_held (c : Nat) : (s.freshPath c).held = s.held := rfl
@[simp] theorem State.freshPath_ctxs (c : Nat) : (s.freshPath c).ctxs = s.ctxs := rfl
@[simp] theorem State.freshPath_l1 (c : Nat) : (s.freshPath c).l1 = s.l1 := rfl
@[simp] theorem State.freshPath_engines (c : Nat) : (s.freshPath c).engines = s.engines := rfl
@[simp] theorem State.freshPath_sched (c : Nat) : (s.freshPath c).sched = s.sched := rfl
@[simp] theorem State.freshPath_recReqs (c : Nat) : (s.freshPath c).recReqs = s.recReqs := rfl
@[simp] theorem State.freshPath_smpReqs (c : Nat) : (s.freshPath c).smpReqs = s.smpReqs := rfl
@[simp] theorem State.freshPath_seq (c : Nat) : (s.freshPath c).seq = s.seq := rfl
@[simp] theorem State.freshPath_ethDown (c : Nat) : (s.freshPath c).ethDown = s.ethDown := rfl
@[simp] theorem State.freshPath_loops (c : Nat) : (s.freshPath c).loops = s.loops := rfl
@[simp] theorem State.freshPath_gptp (c : Nat) : (s.freshPath c).gptp = s.gptp := rfl
@[simp] theorem State.freshPath_casc (c : Nat) : (s.freshPath c).casc = s.casc := rfl
@[simp] theorem State.freshPath_depot (c : Nat) : (s.freshPath c).depot = s.depot := rfl
@[simp] theorem State.freshPath_recov (c : Nat) : (s.freshPath c).recov = s.recov := rfl
@[simp] theorem State.freshPath_saf (c : Nat) : (s.freshPath c).saf = s.saf := rfl
@[simp] theorem State.freshPath_mem (c : Nat) : (s.freshPath c).mem = s.mem := rfl
@[simp] theorem State.freshPath_poison (c : Nat) : (s.freshPath c).poison = s.poison := rfl
@[simp] theorem State.freshPath_out (c : Nat) : (s.freshPath c).out = s.out := rfl
@[simp] theorem State.freshPath_freeCtr (c : Nat) : (s.freshPath c).freeCtr = s.freeCtr := rfl
@[simp] theorem State.freshPath_pending (c : Nat) : (s.freshPath c).pending = s.pending := rfl

/-! `dropPath` writes `paths` alone. -/

@[simp] theorem State.dropPath_objs (c : Nat) : (s.dropPath c).objs = s.objs := rfl
@[simp] theorem State.dropPath_clk (c : Nat) : (s.dropPath c).clk = s.clk := rfl
@[simp] theorem State.dropPath_pw (c : Nat) : (s.dropPath c).pw = s.pw := rfl
@[simp] theorem State.dropPath_su (c : Nat) : (s.dropPath c).su = s.su := rfl
@[simp] theorem State.dropPath_pins (c : Nat) : (s.dropPath c).pins = s.pins := rfl
@[simp] theorem State.dropPath_attic (c : Nat) : (s.dropPath c).attic = s.attic := rfl
@[simp] theorem State.dropPath_journal (c : Nat) : (s.dropPath c).journal = s.journal := rfl
@[simp] theorem State.dropPath_can (c : Nat) : (s.dropPath c).can = s.can := rfl
@[simp] theorem State.dropPath_tpdos (c : Nat) : (s.dropPath c).tpdos = s.tpdos := rfl
@[simp] theorem State.dropPath_timed (c : Nat) : (s.dropPath c).timed = s.timed := rfl
@[simp] theorem State.dropPath_mons (c : Nat) : (s.dropPath c).mons = s.mons := rfl
@[simp] theorem State.dropPath_edge (c : Nat) : (s.dropPath c).edge = s.edge := rfl
@[simp] theorem State.dropPath_banks (c : Nat) : (s.dropPath c).banks = s.banks := rfl
@[simp] theorem State.dropPath_smp (c : Nat) : (s.dropPath c).smp = s.smp := rfl
@[simp] theorem State.dropPath_throttling (c : Nat) : (s.dropPath c).throttling = s.throttling := rfl
@[simp] theorem State.dropPath_tempOut (c : Nat) : (s.dropPath c).tempOut = s.tempOut := rfl
@[simp] theorem State.dropPath_held (c : Nat) : (s.dropPath c).held = s.held := rfl
@[simp] theorem State.dropPath_ctxs (c : Nat) : (s.dropPath c).ctxs = s.ctxs := rfl
@[simp] theorem State.dropPath_l1 (c : Nat) : (s.dropPath c).l1 = s.l1 := rfl
@[simp] theorem State.dropPath_engines (c : Nat) : (s.dropPath c).engines = s.engines := rfl
@[simp] theorem State.dropPath_sched (c : Nat) : (s.dropPath c).sched = s.sched := rfl
@[simp] theorem State.dropPath_recReqs (c : Nat) : (s.dropPath c).recReqs = s.recReqs := rfl
@[simp] theorem State.dropPath_smpReqs (c : Nat) : (s.dropPath c).smpReqs = s.smpReqs := rfl
@[simp] theorem State.dropPath_seq (c : Nat) : (s.dropPath c).seq = s.seq := rfl
@[simp] theorem State.dropPath_ethDown (c : Nat) : (s.dropPath c).ethDown = s.ethDown := rfl
@[simp] theorem State.dropPath_loops (c : Nat) : (s.dropPath c).loops = s.loops := rfl
@[simp] theorem State.dropPath_gptp (c : Nat) : (s.dropPath c).gptp = s.gptp := rfl
@[simp] theorem State.dropPath_casc (c : Nat) : (s.dropPath c).casc = s.casc := rfl
@[simp] theorem State.dropPath_depot (c : Nat) : (s.dropPath c).depot = s.depot := rfl
@[simp] theorem State.dropPath_recov (c : Nat) : (s.dropPath c).recov = s.recov := rfl
@[simp] theorem State.dropPath_saf (c : Nat) : (s.dropPath c).saf = s.saf := rfl
@[simp] theorem State.dropPath_mem (c : Nat) : (s.dropPath c).mem = s.mem := rfl
@[simp] theorem State.dropPath_poison (c : Nat) : (s.dropPath c).poison = s.poison := rfl
@[simp] theorem State.dropPath_out (c : Nat) : (s.dropPath c).out = s.out := rfl
@[simp] theorem State.dropPath_freeCtr (c : Nat) : (s.dropPath c).freeCtr = s.freeCtr := rfl
@[simp] theorem State.dropPath_pending (c : Nat) : (s.dropPath c).pending = s.pending := rfl

/-! `closeWindows` writes `paths` alone. -/

@[simp] theorem State.closeWindows_objs : (s.closeWindows).objs = s.objs := rfl
@[simp] theorem State.closeWindows_clk : (s.closeWindows).clk = s.clk := rfl
@[simp] theorem State.closeWindows_pw : (s.closeWindows).pw = s.pw := rfl
@[simp] theorem State.closeWindows_su : (s.closeWindows).su = s.su := rfl
@[simp] theorem State.closeWindows_pins : (s.closeWindows).pins = s.pins := rfl
@[simp] theorem State.closeWindows_attic : (s.closeWindows).attic = s.attic := rfl
@[simp] theorem State.closeWindows_journal : (s.closeWindows).journal = s.journal := rfl
@[simp] theorem State.closeWindows_can : (s.closeWindows).can = s.can := rfl
@[simp] theorem State.closeWindows_tpdos : (s.closeWindows).tpdos = s.tpdos := rfl
@[simp] theorem State.closeWindows_timed : (s.closeWindows).timed = s.timed := rfl
@[simp] theorem State.closeWindows_mons : (s.closeWindows).mons = s.mons := rfl
@[simp] theorem State.closeWindows_edge : (s.closeWindows).edge = s.edge := rfl
@[simp] theorem State.closeWindows_banks : (s.closeWindows).banks = s.banks := rfl
@[simp] theorem State.closeWindows_smp : (s.closeWindows).smp = s.smp := rfl
@[simp] theorem State.closeWindows_throttling : (s.closeWindows).throttling = s.throttling := rfl
@[simp] theorem State.closeWindows_tempOut : (s.closeWindows).tempOut = s.tempOut := rfl
@[simp] theorem State.closeWindows_held : (s.closeWindows).held = s.held := rfl
@[simp] theorem State.closeWindows_ctxs : (s.closeWindows).ctxs = s.ctxs := rfl
@[simp] theorem State.closeWindows_l1 : (s.closeWindows).l1 = s.l1 := rfl
@[simp] theorem State.closeWindows_engines : (s.closeWindows).engines = s.engines := rfl
@[simp] theorem State.closeWindows_sched : (s.closeWindows).sched = s.sched := rfl
@[simp] theorem State.closeWindows_recReqs : (s.closeWindows).recReqs = s.recReqs := rfl
@[simp] theorem State.closeWindows_smpReqs : (s.closeWindows).smpReqs = s.smpReqs := rfl
@[simp] theorem State.closeWindows_seq : (s.closeWindows).seq = s.seq := rfl
@[simp] theorem State.closeWindows_ethDown : (s.closeWindows).ethDown = s.ethDown := rfl
@[simp] theorem State.closeWindows_loops : (s.closeWindows).loops = s.loops := rfl
@[simp] theorem State.closeWindows_gptp : (s.closeWindows).gptp = s.gptp := rfl
@[simp] theorem State.closeWindows_casc : (s.closeWindows).casc = s.casc := rfl
@[simp] theorem State.closeWindows_depot : (s.closeWindows).depot = s.depot := rfl
@[simp] theorem State.closeWindows_recov : (s.closeWindows).recov = s.recov := rfl
@[simp] theorem State.closeWindows_saf : (s.closeWindows).saf = s.saf := rfl
@[simp] theorem State.closeWindows_mem : (s.closeWindows).mem = s.mem := rfl
@[simp] theorem State.closeWindows_poison : (s.closeWindows).poison = s.poison := rfl
@[simp] theorem State.closeWindows_out : (s.closeWindows).out = s.out := rfl
@[simp] theorem State.closeWindows_freeCtr : (s.closeWindows).freeCtr = s.freeCtr := rfl
@[simp] theorem State.closeWindows_pending : (s.closeWindows).pending = s.pending := rfl

/-! `refuse` writes `paths` alone. -/

@[simp] theorem State.refuse_objs (c i j r : Nat) : (s.refuse c i j r).objs = s.objs := rfl
@[simp] theorem State.refuse_clk (c i j r : Nat) : (s.refuse c i j r).clk = s.clk := rfl
@[simp] theorem State.refuse_pw (c i j r : Nat) : (s.refuse c i j r).pw = s.pw := rfl
@[simp] theorem State.refuse_su (c i j r : Nat) : (s.refuse c i j r).su = s.su := rfl
@[simp] theorem State.refuse_pins (c i j r : Nat) : (s.refuse c i j r).pins = s.pins := rfl
@[simp] theorem State.refuse_attic (c i j r : Nat) : (s.refuse c i j r).attic = s.attic := rfl
@[simp] theorem State.refuse_journal (c i j r : Nat) : (s.refuse c i j r).journal = s.journal := rfl
@[simp] theorem State.refuse_can (c i j r : Nat) : (s.refuse c i j r).can = s.can := rfl
@[simp] theorem State.refuse_tpdos (c i j r : Nat) : (s.refuse c i j r).tpdos = s.tpdos := rfl
@[simp] theorem State.refuse_timed (c i j r : Nat) : (s.refuse c i j r).timed = s.timed := rfl
@[simp] theorem State.refuse_mons (c i j r : Nat) : (s.refuse c i j r).mons = s.mons := rfl
@[simp] theorem State.refuse_edge (c i j r : Nat) : (s.refuse c i j r).edge = s.edge := rfl
@[simp] theorem State.refuse_banks (c i j r : Nat) : (s.refuse c i j r).banks = s.banks := rfl
@[simp] theorem State.refuse_smp (c i j r : Nat) : (s.refuse c i j r).smp = s.smp := rfl
@[simp] theorem State.refuse_throttling (c i j r : Nat) : (s.refuse c i j r).throttling = s.throttling := rfl
@[simp] theorem State.refuse_tempOut (c i j r : Nat) : (s.refuse c i j r).tempOut = s.tempOut := rfl
@[simp] theorem State.refuse_held (c i j r : Nat) : (s.refuse c i j r).held = s.held := rfl
@[simp] theorem State.refuse_ctxs (c i j r : Nat) : (s.refuse c i j r).ctxs = s.ctxs := rfl
@[simp] theorem State.refuse_l1 (c i j r : Nat) : (s.refuse c i j r).l1 = s.l1 := rfl
@[simp] theorem State.refuse_engines (c i j r : Nat) : (s.refuse c i j r).engines = s.engines := rfl
@[simp] theorem State.refuse_sched (c i j r : Nat) : (s.refuse c i j r).sched = s.sched := rfl
@[simp] theorem State.refuse_recReqs (c i j r : Nat) : (s.refuse c i j r).recReqs = s.recReqs := rfl
@[simp] theorem State.refuse_smpReqs (c i j r : Nat) : (s.refuse c i j r).smpReqs = s.smpReqs := rfl
@[simp] theorem State.refuse_seq (c i j r : Nat) : (s.refuse c i j r).seq = s.seq := rfl
@[simp] theorem State.refuse_ethDown (c i j r : Nat) : (s.refuse c i j r).ethDown = s.ethDown := rfl
@[simp] theorem State.refuse_loops (c i j r : Nat) : (s.refuse c i j r).loops = s.loops := rfl
@[simp] theorem State.refuse_gptp (c i j r : Nat) : (s.refuse c i j r).gptp = s.gptp := rfl
@[simp] theorem State.refuse_casc (c i j r : Nat) : (s.refuse c i j r).casc = s.casc := rfl
@[simp] theorem State.refuse_depot (c i j r : Nat) : (s.refuse c i j r).depot = s.depot := rfl
@[simp] theorem State.refuse_recov (c i j r : Nat) : (s.refuse c i j r).recov = s.recov := rfl
@[simp] theorem State.refuse_saf (c i j r : Nat) : (s.refuse c i j r).saf = s.saf := rfl
@[simp] theorem State.refuse_mem (c i j r : Nat) : (s.refuse c i j r).mem = s.mem := rfl
@[simp] theorem State.refuse_poison (c i j r : Nat) : (s.refuse c i j r).poison = s.poison := rfl
@[simp] theorem State.refuse_out (c i j r : Nat) : (s.refuse c i j r).out = s.out := rfl
@[simp] theorem State.refuse_freeCtr (c i j r : Nat) : (s.refuse c i j r).freeCtr = s.freeCtr := rfl
@[simp] theorem State.refuse_pending (c i j r : Nat) : (s.refuse c i j r).pending = s.pending := rfl

/-! `journalAdd` writes `journal` alone. -/

@[simp] theorem State.journalAdd_objs (p i j c m f o n : Nat) : (s.journalAdd p i j c m f o n).objs = s.objs := rfl
@[simp] theorem State.journalAdd_clk (p i j c m f o n : Nat) : (s.journalAdd p i j c m f o n).clk = s.clk := rfl
@[simp] theorem State.journalAdd_pw (p i j c m f o n : Nat) : (s.journalAdd p i j c m f o n).pw = s.pw := rfl
@[simp] theorem State.journalAdd_su (p i j c m f o n : Nat) : (s.journalAdd p i j c m f o n).su = s.su := rfl
@[simp] theorem State.journalAdd_pins (p i j c m f o n : Nat) : (s.journalAdd p i j c m f o n).pins = s.pins := rfl
@[simp] theorem State.journalAdd_attic (p i j c m f o n : Nat) : (s.journalAdd p i j c m f o n).attic = s.attic := rfl
@[simp] theorem State.journalAdd_paths (p i j c m f o n : Nat) : (s.journalAdd p i j c m f o n).paths = s.paths := rfl
@[simp] theorem State.journalAdd_can (p i j c m f o n : Nat) : (s.journalAdd p i j c m f o n).can = s.can := rfl
@[simp] theorem State.journalAdd_tpdos (p i j c m f o n : Nat) : (s.journalAdd p i j c m f o n).tpdos = s.tpdos := rfl
@[simp] theorem State.journalAdd_timed (p i j c m f o n : Nat) : (s.journalAdd p i j c m f o n).timed = s.timed := rfl
@[simp] theorem State.journalAdd_mons (p i j c m f o n : Nat) : (s.journalAdd p i j c m f o n).mons = s.mons := rfl
@[simp] theorem State.journalAdd_edge (p i j c m f o n : Nat) : (s.journalAdd p i j c m f o n).edge = s.edge := rfl
@[simp] theorem State.journalAdd_banks (p i j c m f o n : Nat) : (s.journalAdd p i j c m f o n).banks = s.banks := rfl
@[simp] theorem State.journalAdd_smp (p i j c m f o n : Nat) : (s.journalAdd p i j c m f o n).smp = s.smp := rfl
@[simp] theorem State.journalAdd_throttling (p i j c m f o n : Nat) : (s.journalAdd p i j c m f o n).throttling = s.throttling := rfl
@[simp] theorem State.journalAdd_tempOut (p i j c m f o n : Nat) : (s.journalAdd p i j c m f o n).tempOut = s.tempOut := rfl
@[simp] theorem State.journalAdd_held (p i j c m f o n : Nat) : (s.journalAdd p i j c m f o n).held = s.held := rfl
@[simp] theorem State.journalAdd_ctxs (p i j c m f o n : Nat) : (s.journalAdd p i j c m f o n).ctxs = s.ctxs := rfl
@[simp] theorem State.journalAdd_l1 (p i j c m f o n : Nat) : (s.journalAdd p i j c m f o n).l1 = s.l1 := rfl
@[simp] theorem State.journalAdd_engines (p i j c m f o n : Nat) : (s.journalAdd p i j c m f o n).engines = s.engines := rfl
@[simp] theorem State.journalAdd_sched (p i j c m f o n : Nat) : (s.journalAdd p i j c m f o n).sched = s.sched := rfl
@[simp] theorem State.journalAdd_recReqs (p i j c m f o n : Nat) : (s.journalAdd p i j c m f o n).recReqs = s.recReqs := rfl
@[simp] theorem State.journalAdd_smpReqs (p i j c m f o n : Nat) : (s.journalAdd p i j c m f o n).smpReqs = s.smpReqs := rfl
@[simp] theorem State.journalAdd_seq (p i j c m f o n : Nat) : (s.journalAdd p i j c m f o n).seq = s.seq := rfl
@[simp] theorem State.journalAdd_ethDown (p i j c m f o n : Nat) : (s.journalAdd p i j c m f o n).ethDown = s.ethDown := rfl
@[simp] theorem State.journalAdd_loops (p i j c m f o n : Nat) : (s.journalAdd p i j c m f o n).loops = s.loops := rfl
@[simp] theorem State.journalAdd_gptp (p i j c m f o n : Nat) : (s.journalAdd p i j c m f o n).gptp = s.gptp := rfl
@[simp] theorem State.journalAdd_casc (p i j c m f o n : Nat) : (s.journalAdd p i j c m f o n).casc = s.casc := rfl
@[simp] theorem State.journalAdd_depot (p i j c m f o n : Nat) : (s.journalAdd p i j c m f o n).depot = s.depot := rfl
@[simp] theorem State.journalAdd_recov (p i j c m f o n : Nat) : (s.journalAdd p i j c m f o n).recov = s.recov := rfl
@[simp] theorem State.journalAdd_saf (p i j c m f o n : Nat) : (s.journalAdd p i j c m f o n).saf = s.saf := rfl
@[simp] theorem State.journalAdd_mem (p i j c m f o n : Nat) : (s.journalAdd p i j c m f o n).mem = s.mem := rfl
@[simp] theorem State.journalAdd_poison (p i j c m f o n : Nat) : (s.journalAdd p i j c m f o n).poison = s.poison := rfl
@[simp] theorem State.journalAdd_out (p i j c m f o n : Nat) : (s.journalAdd p i j c m f o n).out = s.out := rfl
@[simp] theorem State.journalAdd_freeCtr (p i j c m f o n : Nat) : (s.journalAdd p i j c m f o n).freeCtr = s.freeCtr := rfl
@[simp] theorem State.journalAdd_pending (p i j c m f o n : Nat) : (s.journalAdd p i j c m f o n).pending = s.pending := rfl

/-! `modPort` writes `can` alone. -/

@[simp] theorem State.modPort_objs (p : Nat) (f : CanPort → CanPort) : (s.modPort p f).objs = s.objs := rfl
@[simp] theorem State.modPort_clk (p : Nat) (f : CanPort → CanPort) : (s.modPort p f).clk = s.clk := rfl
@[simp] theorem State.modPort_pw (p : Nat) (f : CanPort → CanPort) : (s.modPort p f).pw = s.pw := rfl
@[simp] theorem State.modPort_su (p : Nat) (f : CanPort → CanPort) : (s.modPort p f).su = s.su := rfl
@[simp] theorem State.modPort_pins (p : Nat) (f : CanPort → CanPort) : (s.modPort p f).pins = s.pins := rfl
@[simp] theorem State.modPort_attic (p : Nat) (f : CanPort → CanPort) : (s.modPort p f).attic = s.attic := rfl
@[simp] theorem State.modPort_journal (p : Nat) (f : CanPort → CanPort) : (s.modPort p f).journal = s.journal := rfl
@[simp] theorem State.modPort_paths (p : Nat) (f : CanPort → CanPort) : (s.modPort p f).paths = s.paths := rfl
@[simp] theorem State.modPort_tpdos (p : Nat) (f : CanPort → CanPort) : (s.modPort p f).tpdos = s.tpdos := rfl
@[simp] theorem State.modPort_timed (p : Nat) (f : CanPort → CanPort) : (s.modPort p f).timed = s.timed := rfl
@[simp] theorem State.modPort_mons (p : Nat) (f : CanPort → CanPort) : (s.modPort p f).mons = s.mons := rfl
@[simp] theorem State.modPort_edge (p : Nat) (f : CanPort → CanPort) : (s.modPort p f).edge = s.edge := rfl
@[simp] theorem State.modPort_banks (p : Nat) (f : CanPort → CanPort) : (s.modPort p f).banks = s.banks := rfl
@[simp] theorem State.modPort_smp (p : Nat) (f : CanPort → CanPort) : (s.modPort p f).smp = s.smp := rfl
@[simp] theorem State.modPort_throttling (p : Nat) (f : CanPort → CanPort) : (s.modPort p f).throttling = s.throttling := rfl
@[simp] theorem State.modPort_tempOut (p : Nat) (f : CanPort → CanPort) : (s.modPort p f).tempOut = s.tempOut := rfl
@[simp] theorem State.modPort_held (p : Nat) (f : CanPort → CanPort) : (s.modPort p f).held = s.held := rfl
@[simp] theorem State.modPort_ctxs (p : Nat) (f : CanPort → CanPort) : (s.modPort p f).ctxs = s.ctxs := rfl
@[simp] theorem State.modPort_l1 (p : Nat) (f : CanPort → CanPort) : (s.modPort p f).l1 = s.l1 := rfl
@[simp] theorem State.modPort_engines (p : Nat) (f : CanPort → CanPort) : (s.modPort p f).engines = s.engines := rfl
@[simp] theorem State.modPort_sched (p : Nat) (f : CanPort → CanPort) : (s.modPort p f).sched = s.sched := rfl
@[simp] theorem State.modPort_recReqs (p : Nat) (f : CanPort → CanPort) : (s.modPort p f).recReqs = s.recReqs := rfl
@[simp] theorem State.modPort_smpReqs (p : Nat) (f : CanPort → CanPort) : (s.modPort p f).smpReqs = s.smpReqs := rfl
@[simp] theorem State.modPort_seq (p : Nat) (f : CanPort → CanPort) : (s.modPort p f).seq = s.seq := rfl
@[simp] theorem State.modPort_ethDown (p : Nat) (f : CanPort → CanPort) : (s.modPort p f).ethDown = s.ethDown := rfl
@[simp] theorem State.modPort_loops (p : Nat) (f : CanPort → CanPort) : (s.modPort p f).loops = s.loops := rfl
@[simp] theorem State.modPort_gptp (p : Nat) (f : CanPort → CanPort) : (s.modPort p f).gptp = s.gptp := rfl
@[simp] theorem State.modPort_casc (p : Nat) (f : CanPort → CanPort) : (s.modPort p f).casc = s.casc := rfl
@[simp] theorem State.modPort_depot (p : Nat) (f : CanPort → CanPort) : (s.modPort p f).depot = s.depot := rfl
@[simp] theorem State.modPort_recov (p : Nat) (f : CanPort → CanPort) : (s.modPort p f).recov = s.recov := rfl
@[simp] theorem State.modPort_saf (p : Nat) (f : CanPort → CanPort) : (s.modPort p f).saf = s.saf := rfl
@[simp] theorem State.modPort_mem (p : Nat) (f : CanPort → CanPort) : (s.modPort p f).mem = s.mem := rfl
@[simp] theorem State.modPort_poison (p : Nat) (f : CanPort → CanPort) : (s.modPort p f).poison = s.poison := rfl
@[simp] theorem State.modPort_out (p : Nat) (f : CanPort → CanPort) : (s.modPort p f).out = s.out := rfl
@[simp] theorem State.modPort_freeCtr (p : Nat) (f : CanPort → CanPort) : (s.modPort p f).freeCtr = s.freeCtr := rfl
@[simp] theorem State.modPort_pending (p : Nat) (f : CanPort → CanPort) : (s.modPort p f).pending = s.pending := rfl

/-! `setMon` writes `mons` alone. -/

@[simp] theorem State.setMon_objs (m : Nat) (v : MonState) : (s.setMon m v).objs = s.objs := rfl
@[simp] theorem State.setMon_clk (m : Nat) (v : MonState) : (s.setMon m v).clk = s.clk := rfl
@[simp] theorem State.setMon_pw (m : Nat) (v : MonState) : (s.setMon m v).pw = s.pw := rfl
@[simp] theorem State.setMon_su (m : Nat) (v : MonState) : (s.setMon m v).su = s.su := rfl
@[simp] theorem State.setMon_pins (m : Nat) (v : MonState) : (s.setMon m v).pins = s.pins := rfl
@[simp] theorem State.setMon_attic (m : Nat) (v : MonState) : (s.setMon m v).attic = s.attic := rfl
@[simp] theorem State.setMon_journal (m : Nat) (v : MonState) : (s.setMon m v).journal = s.journal := rfl
@[simp] theorem State.setMon_paths (m : Nat) (v : MonState) : (s.setMon m v).paths = s.paths := rfl
@[simp] theorem State.setMon_can (m : Nat) (v : MonState) : (s.setMon m v).can = s.can := rfl
@[simp] theorem State.setMon_tpdos (m : Nat) (v : MonState) : (s.setMon m v).tpdos = s.tpdos := rfl
@[simp] theorem State.setMon_timed (m : Nat) (v : MonState) : (s.setMon m v).timed = s.timed := rfl
@[simp] theorem State.setMon_edge (m : Nat) (v : MonState) : (s.setMon m v).edge = s.edge := rfl
@[simp] theorem State.setMon_banks (m : Nat) (v : MonState) : (s.setMon m v).banks = s.banks := rfl
@[simp] theorem State.setMon_smp (m : Nat) (v : MonState) : (s.setMon m v).smp = s.smp := rfl
@[simp] theorem State.setMon_throttling (m : Nat) (v : MonState) : (s.setMon m v).throttling = s.throttling := rfl
@[simp] theorem State.setMon_tempOut (m : Nat) (v : MonState) : (s.setMon m v).tempOut = s.tempOut := rfl
@[simp] theorem State.setMon_held (m : Nat) (v : MonState) : (s.setMon m v).held = s.held := rfl
@[simp] theorem State.setMon_ctxs (m : Nat) (v : MonState) : (s.setMon m v).ctxs = s.ctxs := rfl
@[simp] theorem State.setMon_l1 (m : Nat) (v : MonState) : (s.setMon m v).l1 = s.l1 := rfl
@[simp] theorem State.setMon_engines (m : Nat) (v : MonState) : (s.setMon m v).engines = s.engines := rfl
@[simp] theorem State.setMon_sched (m : Nat) (v : MonState) : (s.setMon m v).sched = s.sched := rfl
@[simp] theorem State.setMon_recReqs (m : Nat) (v : MonState) : (s.setMon m v).recReqs = s.recReqs := rfl
@[simp] theorem State.setMon_smpReqs (m : Nat) (v : MonState) : (s.setMon m v).smpReqs = s.smpReqs := rfl
@[simp] theorem State.setMon_seq (m : Nat) (v : MonState) : (s.setMon m v).seq = s.seq := rfl
@[simp] theorem State.setMon_ethDown (m : Nat) (v : MonState) : (s.setMon m v).ethDown = s.ethDown := rfl
@[simp] theorem State.setMon_loops (m : Nat) (v : MonState) : (s.setMon m v).loops = s.loops := rfl
@[simp] theorem State.setMon_gptp (m : Nat) (v : MonState) : (s.setMon m v).gptp = s.gptp := rfl
@[simp] theorem State.setMon_casc (m : Nat) (v : MonState) : (s.setMon m v).casc = s.casc := rfl
@[simp] theorem State.setMon_depot (m : Nat) (v : MonState) : (s.setMon m v).depot = s.depot := rfl
@[simp] theorem State.setMon_recov (m : Nat) (v : MonState) : (s.setMon m v).recov = s.recov := rfl
@[simp] theorem State.setMon_saf (m : Nat) (v : MonState) : (s.setMon m v).saf = s.saf := rfl
@[simp] theorem State.setMon_mem (m : Nat) (v : MonState) : (s.setMon m v).mem = s.mem := rfl
@[simp] theorem State.setMon_poison (m : Nat) (v : MonState) : (s.setMon m v).poison = s.poison := rfl
@[simp] theorem State.setMon_out (m : Nat) (v : MonState) : (s.setMon m v).out = s.out := rfl
@[simp] theorem State.setMon_freeCtr (m : Nat) (v : MonState) : (s.setMon m v).freeCtr = s.freeCtr := rfl
@[simp] theorem State.setMon_pending (m : Nat) (v : MonState) : (s.setMon m v).pending = s.pending := rfl

/-! `modEngine` writes `engines` alone. -/

@[simp] theorem State.modEngine_objs (e : Nat) (f : Engine → Engine) : (s.modEngine e f).objs = s.objs := rfl
@[simp] theorem State.modEngine_clk (e : Nat) (f : Engine → Engine) : (s.modEngine e f).clk = s.clk := rfl
@[simp] theorem State.modEngine_pw (e : Nat) (f : Engine → Engine) : (s.modEngine e f).pw = s.pw := rfl
@[simp] theorem State.modEngine_su (e : Nat) (f : Engine → Engine) : (s.modEngine e f).su = s.su := rfl
@[simp] theorem State.modEngine_pins (e : Nat) (f : Engine → Engine) : (s.modEngine e f).pins = s.pins := rfl
@[simp] theorem State.modEngine_attic (e : Nat) (f : Engine → Engine) : (s.modEngine e f).attic = s.attic := rfl
@[simp] theorem State.modEngine_journal (e : Nat) (f : Engine → Engine) : (s.modEngine e f).journal = s.journal := rfl
@[simp] theorem State.modEngine_paths (e : Nat) (f : Engine → Engine) : (s.modEngine e f).paths = s.paths := rfl
@[simp] theorem State.modEngine_can (e : Nat) (f : Engine → Engine) : (s.modEngine e f).can = s.can := rfl
@[simp] theorem State.modEngine_tpdos (e : Nat) (f : Engine → Engine) : (s.modEngine e f).tpdos = s.tpdos := rfl
@[simp] theorem State.modEngine_timed (e : Nat) (f : Engine → Engine) : (s.modEngine e f).timed = s.timed := rfl
@[simp] theorem State.modEngine_mons (e : Nat) (f : Engine → Engine) : (s.modEngine e f).mons = s.mons := rfl
@[simp] theorem State.modEngine_edge (e : Nat) (f : Engine → Engine) : (s.modEngine e f).edge = s.edge := rfl
@[simp] theorem State.modEngine_banks (e : Nat) (f : Engine → Engine) : (s.modEngine e f).banks = s.banks := rfl
@[simp] theorem State.modEngine_smp (e : Nat) (f : Engine → Engine) : (s.modEngine e f).smp = s.smp := rfl
@[simp] theorem State.modEngine_throttling (e : Nat) (f : Engine → Engine) : (s.modEngine e f).throttling = s.throttling := rfl
@[simp] theorem State.modEngine_tempOut (e : Nat) (f : Engine → Engine) : (s.modEngine e f).tempOut = s.tempOut := rfl
@[simp] theorem State.modEngine_held (e : Nat) (f : Engine → Engine) : (s.modEngine e f).held = s.held := rfl
@[simp] theorem State.modEngine_ctxs (e : Nat) (f : Engine → Engine) : (s.modEngine e f).ctxs = s.ctxs := rfl
@[simp] theorem State.modEngine_l1 (e : Nat) (f : Engine → Engine) : (s.modEngine e f).l1 = s.l1 := rfl
@[simp] theorem State.modEngine_sched (e : Nat) (f : Engine → Engine) : (s.modEngine e f).sched = s.sched := rfl
@[simp] theorem State.modEngine_recReqs (e : Nat) (f : Engine → Engine) : (s.modEngine e f).recReqs = s.recReqs := rfl
@[simp] theorem State.modEngine_smpReqs (e : Nat) (f : Engine → Engine) : (s.modEngine e f).smpReqs = s.smpReqs := rfl
@[simp] theorem State.modEngine_seq (e : Nat) (f : Engine → Engine) : (s.modEngine e f).seq = s.seq := rfl
@[simp] theorem State.modEngine_ethDown (e : Nat) (f : Engine → Engine) : (s.modEngine e f).ethDown = s.ethDown := rfl
@[simp] theorem State.modEngine_loops (e : Nat) (f : Engine → Engine) : (s.modEngine e f).loops = s.loops := rfl
@[simp] theorem State.modEngine_gptp (e : Nat) (f : Engine → Engine) : (s.modEngine e f).gptp = s.gptp := rfl
@[simp] theorem State.modEngine_casc (e : Nat) (f : Engine → Engine) : (s.modEngine e f).casc = s.casc := rfl
@[simp] theorem State.modEngine_depot (e : Nat) (f : Engine → Engine) : (s.modEngine e f).depot = s.depot := rfl
@[simp] theorem State.modEngine_recov (e : Nat) (f : Engine → Engine) : (s.modEngine e f).recov = s.recov := rfl
@[simp] theorem State.modEngine_saf (e : Nat) (f : Engine → Engine) : (s.modEngine e f).saf = s.saf := rfl
@[simp] theorem State.modEngine_mem (e : Nat) (f : Engine → Engine) : (s.modEngine e f).mem = s.mem := rfl
@[simp] theorem State.modEngine_poison (e : Nat) (f : Engine → Engine) : (s.modEngine e f).poison = s.poison := rfl
@[simp] theorem State.modEngine_out (e : Nat) (f : Engine → Engine) : (s.modEngine e f).out = s.out := rfl
@[simp] theorem State.modEngine_freeCtr (e : Nat) (f : Engine → Engine) : (s.modEngine e f).freeCtr = s.freeCtr := rfl
@[simp] theorem State.modEngine_pending (e : Nat) (f : Engine → Engine) : (s.modEngine e f).pending = s.pending := rfl

/-! `setCtx` writes `ctxs` alone. -/

@[simp] theorem State.setCtx_objs (h : Hart) (c : Ctx) : (s.setCtx h c).objs = s.objs := rfl
@[simp] theorem State.setCtx_clk (h : Hart) (c : Ctx) : (s.setCtx h c).clk = s.clk := rfl
@[simp] theorem State.setCtx_pw (h : Hart) (c : Ctx) : (s.setCtx h c).pw = s.pw := rfl
@[simp] theorem State.setCtx_su (h : Hart) (c : Ctx) : (s.setCtx h c).su = s.su := rfl
@[simp] theorem State.setCtx_pins (h : Hart) (c : Ctx) : (s.setCtx h c).pins = s.pins := rfl
@[simp] theorem State.setCtx_attic (h : Hart) (c : Ctx) : (s.setCtx h c).attic = s.attic := rfl
@[simp] theorem State.setCtx_journal (h : Hart) (c : Ctx) : (s.setCtx h c).journal = s.journal := rfl
@[simp] theorem State.setCtx_paths (h : Hart) (c : Ctx) : (s.setCtx h c).paths = s.paths := rfl
@[simp] theorem State.setCtx_can (h : Hart) (c : Ctx) : (s.setCtx h c).can = s.can := rfl
@[simp] theorem State.setCtx_tpdos (h : Hart) (c : Ctx) : (s.setCtx h c).tpdos = s.tpdos := rfl
@[simp] theorem State.setCtx_timed (h : Hart) (c : Ctx) : (s.setCtx h c).timed = s.timed := rfl
@[simp] theorem State.setCtx_mons (h : Hart) (c : Ctx) : (s.setCtx h c).mons = s.mons := rfl
@[simp] theorem State.setCtx_edge (h : Hart) (c : Ctx) : (s.setCtx h c).edge = s.edge := rfl
@[simp] theorem State.setCtx_banks (h : Hart) (c : Ctx) : (s.setCtx h c).banks = s.banks := rfl
@[simp] theorem State.setCtx_smp (h : Hart) (c : Ctx) : (s.setCtx h c).smp = s.smp := rfl
@[simp] theorem State.setCtx_throttling (h : Hart) (c : Ctx) : (s.setCtx h c).throttling = s.throttling := rfl
@[simp] theorem State.setCtx_tempOut (h : Hart) (c : Ctx) : (s.setCtx h c).tempOut = s.tempOut := rfl
@[simp] theorem State.setCtx_held (h : Hart) (c : Ctx) : (s.setCtx h c).held = s.held := rfl
@[simp] theorem State.setCtx_l1 (h : Hart) (c : Ctx) : (s.setCtx h c).l1 = s.l1 := rfl
@[simp] theorem State.setCtx_engines (h : Hart) (c : Ctx) : (s.setCtx h c).engines = s.engines := rfl
@[simp] theorem State.setCtx_sched (h : Hart) (c : Ctx) : (s.setCtx h c).sched = s.sched := rfl
@[simp] theorem State.setCtx_recReqs (h : Hart) (c : Ctx) : (s.setCtx h c).recReqs = s.recReqs := rfl
@[simp] theorem State.setCtx_smpReqs (h : Hart) (c : Ctx) : (s.setCtx h c).smpReqs = s.smpReqs := rfl
@[simp] theorem State.setCtx_seq (h : Hart) (c : Ctx) : (s.setCtx h c).seq = s.seq := rfl
@[simp] theorem State.setCtx_ethDown (h : Hart) (c : Ctx) : (s.setCtx h c).ethDown = s.ethDown := rfl
@[simp] theorem State.setCtx_loops (h : Hart) (c : Ctx) : (s.setCtx h c).loops = s.loops := rfl
@[simp] theorem State.setCtx_gptp (h : Hart) (c : Ctx) : (s.setCtx h c).gptp = s.gptp := rfl
@[simp] theorem State.setCtx_casc (h : Hart) (c : Ctx) : (s.setCtx h c).casc = s.casc := rfl
@[simp] theorem State.setCtx_depot (h : Hart) (c : Ctx) : (s.setCtx h c).depot = s.depot := rfl
@[simp] theorem State.setCtx_recov (h : Hart) (c : Ctx) : (s.setCtx h c).recov = s.recov := rfl
@[simp] theorem State.setCtx_saf (h : Hart) (c : Ctx) : (s.setCtx h c).saf = s.saf := rfl
@[simp] theorem State.setCtx_mem (h : Hart) (c : Ctx) : (s.setCtx h c).mem = s.mem := rfl
@[simp] theorem State.setCtx_poison (h : Hart) (c : Ctx) : (s.setCtx h c).poison = s.poison := rfl
@[simp] theorem State.setCtx_out (h : Hart) (c : Ctx) : (s.setCtx h c).out = s.out := rfl
@[simp] theorem State.setCtx_freeCtr (h : Hart) (c : Ctx) : (s.setCtx h c).freeCtr = s.freeCtr := rfl
@[simp] theorem State.setCtx_pending (h : Hart) (c : Ctx) : (s.setCtx h c).pending = s.pending := rfl

/-! `setCtxAt` writes `ctxs` alone. -/

@[simp] theorem State.setCtxAt_objs (g : Nat) (c : Ctx) : (s.setCtxAt g c).objs = s.objs := rfl
@[simp] theorem State.setCtxAt_clk (g : Nat) (c : Ctx) : (s.setCtxAt g c).clk = s.clk := rfl
@[simp] theorem State.setCtxAt_pw (g : Nat) (c : Ctx) : (s.setCtxAt g c).pw = s.pw := rfl
@[simp] theorem State.setCtxAt_su (g : Nat) (c : Ctx) : (s.setCtxAt g c).su = s.su := rfl
@[simp] theorem State.setCtxAt_pins (g : Nat) (c : Ctx) : (s.setCtxAt g c).pins = s.pins := rfl
@[simp] theorem State.setCtxAt_attic (g : Nat) (c : Ctx) : (s.setCtxAt g c).attic = s.attic := rfl
@[simp] theorem State.setCtxAt_journal (g : Nat) (c : Ctx) : (s.setCtxAt g c).journal = s.journal := rfl
@[simp] theorem State.setCtxAt_paths (g : Nat) (c : Ctx) : (s.setCtxAt g c).paths = s.paths := rfl
@[simp] theorem State.setCtxAt_can (g : Nat) (c : Ctx) : (s.setCtxAt g c).can = s.can := rfl
@[simp] theorem State.setCtxAt_tpdos (g : Nat) (c : Ctx) : (s.setCtxAt g c).tpdos = s.tpdos := rfl
@[simp] theorem State.setCtxAt_timed (g : Nat) (c : Ctx) : (s.setCtxAt g c).timed = s.timed := rfl
@[simp] theorem State.setCtxAt_mons (g : Nat) (c : Ctx) : (s.setCtxAt g c).mons = s.mons := rfl
@[simp] theorem State.setCtxAt_edge (g : Nat) (c : Ctx) : (s.setCtxAt g c).edge = s.edge := rfl
@[simp] theorem State.setCtxAt_banks (g : Nat) (c : Ctx) : (s.setCtxAt g c).banks = s.banks := rfl
@[simp] theorem State.setCtxAt_smp (g : Nat) (c : Ctx) : (s.setCtxAt g c).smp = s.smp := rfl
@[simp] theorem State.setCtxAt_throttling (g : Nat) (c : Ctx) : (s.setCtxAt g c).throttling = s.throttling := rfl
@[simp] theorem State.setCtxAt_tempOut (g : Nat) (c : Ctx) : (s.setCtxAt g c).tempOut = s.tempOut := rfl
@[simp] theorem State.setCtxAt_held (g : Nat) (c : Ctx) : (s.setCtxAt g c).held = s.held := rfl
@[simp] theorem State.setCtxAt_l1 (g : Nat) (c : Ctx) : (s.setCtxAt g c).l1 = s.l1 := rfl
@[simp] theorem State.setCtxAt_engines (g : Nat) (c : Ctx) : (s.setCtxAt g c).engines = s.engines := rfl
@[simp] theorem State.setCtxAt_sched (g : Nat) (c : Ctx) : (s.setCtxAt g c).sched = s.sched := rfl
@[simp] theorem State.setCtxAt_recReqs (g : Nat) (c : Ctx) : (s.setCtxAt g c).recReqs = s.recReqs := rfl
@[simp] theorem State.setCtxAt_smpReqs (g : Nat) (c : Ctx) : (s.setCtxAt g c).smpReqs = s.smpReqs := rfl
@[simp] theorem State.setCtxAt_seq (g : Nat) (c : Ctx) : (s.setCtxAt g c).seq = s.seq := rfl
@[simp] theorem State.setCtxAt_ethDown (g : Nat) (c : Ctx) : (s.setCtxAt g c).ethDown = s.ethDown := rfl
@[simp] theorem State.setCtxAt_loops (g : Nat) (c : Ctx) : (s.setCtxAt g c).loops = s.loops := rfl
@[simp] theorem State.setCtxAt_gptp (g : Nat) (c : Ctx) : (s.setCtxAt g c).gptp = s.gptp := rfl
@[simp] theorem State.setCtxAt_casc (g : Nat) (c : Ctx) : (s.setCtxAt g c).casc = s.casc := rfl
@[simp] theorem State.setCtxAt_depot (g : Nat) (c : Ctx) : (s.setCtxAt g c).depot = s.depot := rfl
@[simp] theorem State.setCtxAt_recov (g : Nat) (c : Ctx) : (s.setCtxAt g c).recov = s.recov := rfl
@[simp] theorem State.setCtxAt_saf (g : Nat) (c : Ctx) : (s.setCtxAt g c).saf = s.saf := rfl
@[simp] theorem State.setCtxAt_mem (g : Nat) (c : Ctx) : (s.setCtxAt g c).mem = s.mem := rfl
@[simp] theorem State.setCtxAt_poison (g : Nat) (c : Ctx) : (s.setCtxAt g c).poison = s.poison := rfl
@[simp] theorem State.setCtxAt_out (g : Nat) (c : Ctx) : (s.setCtxAt g c).out = s.out := rfl
@[simp] theorem State.setCtxAt_freeCtr (g : Nat) (c : Ctx) : (s.setCtxAt g c).freeCtr = s.freeCtr := rfl
@[simp] theorem State.setCtxAt_pending (g : Nat) (c : Ctx) : (s.setCtxAt g c).pending = s.pending := rfl

/-! `modJob` writes `sched` alone. -/

@[simp] theorem State.modJob_objs (i : Nat) (f : Job → Job) : (s.modJob i f).objs = s.objs := rfl
@[simp] theorem State.modJob_clk (i : Nat) (f : Job → Job) : (s.modJob i f).clk = s.clk := rfl
@[simp] theorem State.modJob_pw (i : Nat) (f : Job → Job) : (s.modJob i f).pw = s.pw := rfl
@[simp] theorem State.modJob_su (i : Nat) (f : Job → Job) : (s.modJob i f).su = s.su := rfl
@[simp] theorem State.modJob_pins (i : Nat) (f : Job → Job) : (s.modJob i f).pins = s.pins := rfl
@[simp] theorem State.modJob_attic (i : Nat) (f : Job → Job) : (s.modJob i f).attic = s.attic := rfl
@[simp] theorem State.modJob_journal (i : Nat) (f : Job → Job) : (s.modJob i f).journal = s.journal := rfl
@[simp] theorem State.modJob_paths (i : Nat) (f : Job → Job) : (s.modJob i f).paths = s.paths := rfl
@[simp] theorem State.modJob_can (i : Nat) (f : Job → Job) : (s.modJob i f).can = s.can := rfl
@[simp] theorem State.modJob_tpdos (i : Nat) (f : Job → Job) : (s.modJob i f).tpdos = s.tpdos := rfl
@[simp] theorem State.modJob_timed (i : Nat) (f : Job → Job) : (s.modJob i f).timed = s.timed := rfl
@[simp] theorem State.modJob_mons (i : Nat) (f : Job → Job) : (s.modJob i f).mons = s.mons := rfl
@[simp] theorem State.modJob_edge (i : Nat) (f : Job → Job) : (s.modJob i f).edge = s.edge := rfl
@[simp] theorem State.modJob_banks (i : Nat) (f : Job → Job) : (s.modJob i f).banks = s.banks := rfl
@[simp] theorem State.modJob_smp (i : Nat) (f : Job → Job) : (s.modJob i f).smp = s.smp := rfl
@[simp] theorem State.modJob_throttling (i : Nat) (f : Job → Job) : (s.modJob i f).throttling = s.throttling := rfl
@[simp] theorem State.modJob_tempOut (i : Nat) (f : Job → Job) : (s.modJob i f).tempOut = s.tempOut := rfl
@[simp] theorem State.modJob_held (i : Nat) (f : Job → Job) : (s.modJob i f).held = s.held := rfl
@[simp] theorem State.modJob_ctxs (i : Nat) (f : Job → Job) : (s.modJob i f).ctxs = s.ctxs := rfl
@[simp] theorem State.modJob_l1 (i : Nat) (f : Job → Job) : (s.modJob i f).l1 = s.l1 := rfl
@[simp] theorem State.modJob_engines (i : Nat) (f : Job → Job) : (s.modJob i f).engines = s.engines := rfl
@[simp] theorem State.modJob_recReqs (i : Nat) (f : Job → Job) : (s.modJob i f).recReqs = s.recReqs := rfl
@[simp] theorem State.modJob_smpReqs (i : Nat) (f : Job → Job) : (s.modJob i f).smpReqs = s.smpReqs := rfl
@[simp] theorem State.modJob_seq (i : Nat) (f : Job → Job) : (s.modJob i f).seq = s.seq := rfl
@[simp] theorem State.modJob_ethDown (i : Nat) (f : Job → Job) : (s.modJob i f).ethDown = s.ethDown := rfl
@[simp] theorem State.modJob_loops (i : Nat) (f : Job → Job) : (s.modJob i f).loops = s.loops := rfl
@[simp] theorem State.modJob_gptp (i : Nat) (f : Job → Job) : (s.modJob i f).gptp = s.gptp := rfl
@[simp] theorem State.modJob_casc (i : Nat) (f : Job → Job) : (s.modJob i f).casc = s.casc := rfl
@[simp] theorem State.modJob_depot (i : Nat) (f : Job → Job) : (s.modJob i f).depot = s.depot := rfl
@[simp] theorem State.modJob_recov (i : Nat) (f : Job → Job) : (s.modJob i f).recov = s.recov := rfl
@[simp] theorem State.modJob_saf (i : Nat) (f : Job → Job) : (s.modJob i f).saf = s.saf := rfl
@[simp] theorem State.modJob_mem (i : Nat) (f : Job → Job) : (s.modJob i f).mem = s.mem := rfl
@[simp] theorem State.modJob_poison (i : Nat) (f : Job → Job) : (s.modJob i f).poison = s.poison := rfl
@[simp] theorem State.modJob_out (i : Nat) (f : Job → Job) : (s.modJob i f).out = s.out := rfl
@[simp] theorem State.modJob_freeCtr (i : Nat) (f : Job → Job) : (s.modJob i f).freeCtr = s.freeCtr := rfl
@[simp] theorem State.modJob_pending (i : Nat) (f : Job → Job) : (s.modJob i f).pending = s.pending := rfl

/-! `setQueue` writes `sched` alone. -/

@[simp] theorem State.setQueue_objs (q : Nat) (v : QueueState) : (s.setQueue q v).objs = s.objs := rfl
@[simp] theorem State.setQueue_clk (q : Nat) (v : QueueState) : (s.setQueue q v).clk = s.clk := rfl
@[simp] theorem State.setQueue_pw (q : Nat) (v : QueueState) : (s.setQueue q v).pw = s.pw := rfl
@[simp] theorem State.setQueue_su (q : Nat) (v : QueueState) : (s.setQueue q v).su = s.su := rfl
@[simp] theorem State.setQueue_pins (q : Nat) (v : QueueState) : (s.setQueue q v).pins = s.pins := rfl
@[simp] theorem State.setQueue_attic (q : Nat) (v : QueueState) : (s.setQueue q v).attic = s.attic := rfl
@[simp] theorem State.setQueue_journal (q : Nat) (v : QueueState) : (s.setQueue q v).journal = s.journal := rfl
@[simp] theorem State.setQueue_paths (q : Nat) (v : QueueState) : (s.setQueue q v).paths = s.paths := rfl
@[simp] theorem State.setQueue_can (q : Nat) (v : QueueState) : (s.setQueue q v).can = s.can := rfl
@[simp] theorem State.setQueue_tpdos (q : Nat) (v : QueueState) : (s.setQueue q v).tpdos = s.tpdos := rfl
@[simp] theorem State.setQueue_timed (q : Nat) (v : QueueState) : (s.setQueue q v).timed = s.timed := rfl
@[simp] theorem State.setQueue_mons (q : Nat) (v : QueueState) : (s.setQueue q v).mons = s.mons := rfl
@[simp] theorem State.setQueue_edge (q : Nat) (v : QueueState) : (s.setQueue q v).edge = s.edge := rfl
@[simp] theorem State.setQueue_banks (q : Nat) (v : QueueState) : (s.setQueue q v).banks = s.banks := rfl
@[simp] theorem State.setQueue_smp (q : Nat) (v : QueueState) : (s.setQueue q v).smp = s.smp := rfl
@[simp] theorem State.setQueue_throttling (q : Nat) (v : QueueState) : (s.setQueue q v).throttling = s.throttling := rfl
@[simp] theorem State.setQueue_tempOut (q : Nat) (v : QueueState) : (s.setQueue q v).tempOut = s.tempOut := rfl
@[simp] theorem State.setQueue_held (q : Nat) (v : QueueState) : (s.setQueue q v).held = s.held := rfl
@[simp] theorem State.setQueue_ctxs (q : Nat) (v : QueueState) : (s.setQueue q v).ctxs = s.ctxs := rfl
@[simp] theorem State.setQueue_l1 (q : Nat) (v : QueueState) : (s.setQueue q v).l1 = s.l1 := rfl
@[simp] theorem State.setQueue_engines (q : Nat) (v : QueueState) : (s.setQueue q v).engines = s.engines := rfl
@[simp] theorem State.setQueue_recReqs (q : Nat) (v : QueueState) : (s.setQueue q v).recReqs = s.recReqs := rfl
@[simp] theorem State.setQueue_smpReqs (q : Nat) (v : QueueState) : (s.setQueue q v).smpReqs = s.smpReqs := rfl
@[simp] theorem State.setQueue_seq (q : Nat) (v : QueueState) : (s.setQueue q v).seq = s.seq := rfl
@[simp] theorem State.setQueue_ethDown (q : Nat) (v : QueueState) : (s.setQueue q v).ethDown = s.ethDown := rfl
@[simp] theorem State.setQueue_loops (q : Nat) (v : QueueState) : (s.setQueue q v).loops = s.loops := rfl
@[simp] theorem State.setQueue_gptp (q : Nat) (v : QueueState) : (s.setQueue q v).gptp = s.gptp := rfl
@[simp] theorem State.setQueue_casc (q : Nat) (v : QueueState) : (s.setQueue q v).casc = s.casc := rfl
@[simp] theorem State.setQueue_depot (q : Nat) (v : QueueState) : (s.setQueue q v).depot = s.depot := rfl
@[simp] theorem State.setQueue_recov (q : Nat) (v : QueueState) : (s.setQueue q v).recov = s.recov := rfl
@[simp] theorem State.setQueue_saf (q : Nat) (v : QueueState) : (s.setQueue q v).saf = s.saf := rfl
@[simp] theorem State.setQueue_mem (q : Nat) (v : QueueState) : (s.setQueue q v).mem = s.mem := rfl
@[simp] theorem State.setQueue_poison (q : Nat) (v : QueueState) : (s.setQueue q v).poison = s.poison := rfl
@[simp] theorem State.setQueue_out (q : Nat) (v : QueueState) : (s.setQueue q v).out = s.out := rfl
@[simp] theorem State.setQueue_freeCtr (q : Nat) (v : QueueState) : (s.setQueue q v).freeCtr = s.freeCtr := rfl
@[simp] theorem State.setQueue_pending (q : Nat) (v : QueueState) : (s.setQueue q v).pending = s.pending := rfl

/-! `setGuest` writes `depot` alone. -/

@[simp] theorem State.setGuest_objs (g : Nat) (v : Guest) : (s.setGuest g v).objs = s.objs := rfl
@[simp] theorem State.setGuest_clk (g : Nat) (v : Guest) : (s.setGuest g v).clk = s.clk := rfl
@[simp] theorem State.setGuest_pw (g : Nat) (v : Guest) : (s.setGuest g v).pw = s.pw := rfl
@[simp] theorem State.setGuest_su (g : Nat) (v : Guest) : (s.setGuest g v).su = s.su := rfl
@[simp] theorem State.setGuest_pins (g : Nat) (v : Guest) : (s.setGuest g v).pins = s.pins := rfl
@[simp] theorem State.setGuest_attic (g : Nat) (v : Guest) : (s.setGuest g v).attic = s.attic := rfl
@[simp] theorem State.setGuest_journal (g : Nat) (v : Guest) : (s.setGuest g v).journal = s.journal := rfl
@[simp] theorem State.setGuest_paths (g : Nat) (v : Guest) : (s.setGuest g v).paths = s.paths := rfl
@[simp] theorem State.setGuest_can (g : Nat) (v : Guest) : (s.setGuest g v).can = s.can := rfl
@[simp] theorem State.setGuest_tpdos (g : Nat) (v : Guest) : (s.setGuest g v).tpdos = s.tpdos := rfl
@[simp] theorem State.setGuest_timed (g : Nat) (v : Guest) : (s.setGuest g v).timed = s.timed := rfl
@[simp] theorem State.setGuest_mons (g : Nat) (v : Guest) : (s.setGuest g v).mons = s.mons := rfl
@[simp] theorem State.setGuest_edge (g : Nat) (v : Guest) : (s.setGuest g v).edge = s.edge := rfl
@[simp] theorem State.setGuest_banks (g : Nat) (v : Guest) : (s.setGuest g v).banks = s.banks := rfl
@[simp] theorem State.setGuest_smp (g : Nat) (v : Guest) : (s.setGuest g v).smp = s.smp := rfl
@[simp] theorem State.setGuest_throttling (g : Nat) (v : Guest) : (s.setGuest g v).throttling = s.throttling := rfl
@[simp] theorem State.setGuest_tempOut (g : Nat) (v : Guest) : (s.setGuest g v).tempOut = s.tempOut := rfl
@[simp] theorem State.setGuest_held (g : Nat) (v : Guest) : (s.setGuest g v).held = s.held := rfl
@[simp] theorem State.setGuest_ctxs (g : Nat) (v : Guest) : (s.setGuest g v).ctxs = s.ctxs := rfl
@[simp] theorem State.setGuest_l1 (g : Nat) (v : Guest) : (s.setGuest g v).l1 = s.l1 := rfl
@[simp] theorem State.setGuest_engines (g : Nat) (v : Guest) : (s.setGuest g v).engines = s.engines := rfl
@[simp] theorem State.setGuest_sched (g : Nat) (v : Guest) : (s.setGuest g v).sched = s.sched := rfl
@[simp] theorem State.setGuest_recReqs (g : Nat) (v : Guest) : (s.setGuest g v).recReqs = s.recReqs := rfl
@[simp] theorem State.setGuest_smpReqs (g : Nat) (v : Guest) : (s.setGuest g v).smpReqs = s.smpReqs := rfl
@[simp] theorem State.setGuest_seq (g : Nat) (v : Guest) : (s.setGuest g v).seq = s.seq := rfl
@[simp] theorem State.setGuest_ethDown (g : Nat) (v : Guest) : (s.setGuest g v).ethDown = s.ethDown := rfl
@[simp] theorem State.setGuest_loops (g : Nat) (v : Guest) : (s.setGuest g v).loops = s.loops := rfl
@[simp] theorem State.setGuest_gptp (g : Nat) (v : Guest) : (s.setGuest g v).gptp = s.gptp := rfl
@[simp] theorem State.setGuest_casc (g : Nat) (v : Guest) : (s.setGuest g v).casc = s.casc := rfl
@[simp] theorem State.setGuest_recov (g : Nat) (v : Guest) : (s.setGuest g v).recov = s.recov := rfl
@[simp] theorem State.setGuest_saf (g : Nat) (v : Guest) : (s.setGuest g v).saf = s.saf := rfl
@[simp] theorem State.setGuest_mem (g : Nat) (v : Guest) : (s.setGuest g v).mem = s.mem := rfl
@[simp] theorem State.setGuest_poison (g : Nat) (v : Guest) : (s.setGuest g v).poison = s.poison := rfl
@[simp] theorem State.setGuest_out (g : Nat) (v : Guest) : (s.setGuest g v).out = s.out := rfl
@[simp] theorem State.setGuest_freeCtr (g : Nat) (v : Guest) : (s.setGuest g v).freeCtr = s.freeCtr := rfl
@[simp] theorem State.setGuest_pending (g : Nat) (v : Guest) : (s.setGuest g v).pending = s.pending := rfl

/-! `modGuest` writes `depot` alone. -/

@[simp] theorem State.modGuest_objs (g : Nat) (f : Guest → Guest) : (s.modGuest g f).objs = s.objs := rfl
@[simp] theorem State.modGuest_clk (g : Nat) (f : Guest → Guest) : (s.modGuest g f).clk = s.clk := rfl
@[simp] theorem State.modGuest_pw (g : Nat) (f : Guest → Guest) : (s.modGuest g f).pw = s.pw := rfl
@[simp] theorem State.modGuest_su (g : Nat) (f : Guest → Guest) : (s.modGuest g f).su = s.su := rfl
@[simp] theorem State.modGuest_pins (g : Nat) (f : Guest → Guest) : (s.modGuest g f).pins = s.pins := rfl
@[simp] theorem State.modGuest_attic (g : Nat) (f : Guest → Guest) : (s.modGuest g f).attic = s.attic := rfl
@[simp] theorem State.modGuest_journal (g : Nat) (f : Guest → Guest) : (s.modGuest g f).journal = s.journal := rfl
@[simp] theorem State.modGuest_paths (g : Nat) (f : Guest → Guest) : (s.modGuest g f).paths = s.paths := rfl
@[simp] theorem State.modGuest_can (g : Nat) (f : Guest → Guest) : (s.modGuest g f).can = s.can := rfl
@[simp] theorem State.modGuest_tpdos (g : Nat) (f : Guest → Guest) : (s.modGuest g f).tpdos = s.tpdos := rfl
@[simp] theorem State.modGuest_timed (g : Nat) (f : Guest → Guest) : (s.modGuest g f).timed = s.timed := rfl
@[simp] theorem State.modGuest_mons (g : Nat) (f : Guest → Guest) : (s.modGuest g f).mons = s.mons := rfl
@[simp] theorem State.modGuest_edge (g : Nat) (f : Guest → Guest) : (s.modGuest g f).edge = s.edge := rfl
@[simp] theorem State.modGuest_banks (g : Nat) (f : Guest → Guest) : (s.modGuest g f).banks = s.banks := rfl
@[simp] theorem State.modGuest_smp (g : Nat) (f : Guest → Guest) : (s.modGuest g f).smp = s.smp := rfl
@[simp] theorem State.modGuest_throttling (g : Nat) (f : Guest → Guest) : (s.modGuest g f).throttling = s.throttling := rfl
@[simp] theorem State.modGuest_tempOut (g : Nat) (f : Guest → Guest) : (s.modGuest g f).tempOut = s.tempOut := rfl
@[simp] theorem State.modGuest_held (g : Nat) (f : Guest → Guest) : (s.modGuest g f).held = s.held := rfl
@[simp] theorem State.modGuest_ctxs (g : Nat) (f : Guest → Guest) : (s.modGuest g f).ctxs = s.ctxs := rfl
@[simp] theorem State.modGuest_l1 (g : Nat) (f : Guest → Guest) : (s.modGuest g f).l1 = s.l1 := rfl
@[simp] theorem State.modGuest_engines (g : Nat) (f : Guest → Guest) : (s.modGuest g f).engines = s.engines := rfl
@[simp] theorem State.modGuest_sched (g : Nat) (f : Guest → Guest) : (s.modGuest g f).sched = s.sched := rfl
@[simp] theorem State.modGuest_recReqs (g : Nat) (f : Guest → Guest) : (s.modGuest g f).recReqs = s.recReqs := rfl
@[simp] theorem State.modGuest_smpReqs (g : Nat) (f : Guest → Guest) : (s.modGuest g f).smpReqs = s.smpReqs := rfl
@[simp] theorem State.modGuest_seq (g : Nat) (f : Guest → Guest) : (s.modGuest g f).seq = s.seq := rfl
@[simp] theorem State.modGuest_ethDown (g : Nat) (f : Guest → Guest) : (s.modGuest g f).ethDown = s.ethDown := rfl
@[simp] theorem State.modGuest_loops (g : Nat) (f : Guest → Guest) : (s.modGuest g f).loops = s.loops := rfl
@[simp] theorem State.modGuest_gptp (g : Nat) (f : Guest → Guest) : (s.modGuest g f).gptp = s.gptp := rfl
@[simp] theorem State.modGuest_casc (g : Nat) (f : Guest → Guest) : (s.modGuest g f).casc = s.casc := rfl
@[simp] theorem State.modGuest_recov (g : Nat) (f : Guest → Guest) : (s.modGuest g f).recov = s.recov := rfl
@[simp] theorem State.modGuest_saf (g : Nat) (f : Guest → Guest) : (s.modGuest g f).saf = s.saf := rfl
@[simp] theorem State.modGuest_mem (g : Nat) (f : Guest → Guest) : (s.modGuest g f).mem = s.mem := rfl
@[simp] theorem State.modGuest_poison (g : Nat) (f : Guest → Guest) : (s.modGuest g f).poison = s.poison := rfl
@[simp] theorem State.modGuest_out (g : Nat) (f : Guest → Guest) : (s.modGuest g f).out = s.out := rfl
@[simp] theorem State.modGuest_freeCtr (g : Nat) (f : Guest → Guest) : (s.modGuest g f).freeCtr = s.freeCtr := rfl
@[simp] theorem State.modGuest_pending (g : Nat) (f : Guest → Guest) : (s.modGuest g f).pending = s.pending := rfl

/-! `memWrite` writes `mem` and `poison` alone. -/

@[simp] theorem State.memWrite_objs (a : Nat) (b : List Byte) : (s.memWrite a b).objs = s.objs := rfl
@[simp] theorem State.memWrite_clk (a : Nat) (b : List Byte) : (s.memWrite a b).clk = s.clk := rfl
@[simp] theorem State.memWrite_pw (a : Nat) (b : List Byte) : (s.memWrite a b).pw = s.pw := rfl
@[simp] theorem State.memWrite_su (a : Nat) (b : List Byte) : (s.memWrite a b).su = s.su := rfl
@[simp] theorem State.memWrite_pins (a : Nat) (b : List Byte) : (s.memWrite a b).pins = s.pins := rfl
@[simp] theorem State.memWrite_attic (a : Nat) (b : List Byte) : (s.memWrite a b).attic = s.attic := rfl
@[simp] theorem State.memWrite_journal (a : Nat) (b : List Byte) : (s.memWrite a b).journal = s.journal := rfl
@[simp] theorem State.memWrite_paths (a : Nat) (b : List Byte) : (s.memWrite a b).paths = s.paths := rfl
@[simp] theorem State.memWrite_can (a : Nat) (b : List Byte) : (s.memWrite a b).can = s.can := rfl
@[simp] theorem State.memWrite_tpdos (a : Nat) (b : List Byte) : (s.memWrite a b).tpdos = s.tpdos := rfl
@[simp] theorem State.memWrite_timed (a : Nat) (b : List Byte) : (s.memWrite a b).timed = s.timed := rfl
@[simp] theorem State.memWrite_mons (a : Nat) (b : List Byte) : (s.memWrite a b).mons = s.mons := rfl
@[simp] theorem State.memWrite_edge (a : Nat) (b : List Byte) : (s.memWrite a b).edge = s.edge := rfl
@[simp] theorem State.memWrite_banks (a : Nat) (b : List Byte) : (s.memWrite a b).banks = s.banks := rfl
@[simp] theorem State.memWrite_smp (a : Nat) (b : List Byte) : (s.memWrite a b).smp = s.smp := rfl
@[simp] theorem State.memWrite_throttling (a : Nat) (b : List Byte) : (s.memWrite a b).throttling = s.throttling := rfl
@[simp] theorem State.memWrite_tempOut (a : Nat) (b : List Byte) : (s.memWrite a b).tempOut = s.tempOut := rfl
@[simp] theorem State.memWrite_held (a : Nat) (b : List Byte) : (s.memWrite a b).held = s.held := rfl
@[simp] theorem State.memWrite_ctxs (a : Nat) (b : List Byte) : (s.memWrite a b).ctxs = s.ctxs := rfl
@[simp] theorem State.memWrite_l1 (a : Nat) (b : List Byte) : (s.memWrite a b).l1 = s.l1 := rfl
@[simp] theorem State.memWrite_engines (a : Nat) (b : List Byte) : (s.memWrite a b).engines = s.engines := rfl
@[simp] theorem State.memWrite_sched (a : Nat) (b : List Byte) : (s.memWrite a b).sched = s.sched := rfl
@[simp] theorem State.memWrite_recReqs (a : Nat) (b : List Byte) : (s.memWrite a b).recReqs = s.recReqs := rfl
@[simp] theorem State.memWrite_smpReqs (a : Nat) (b : List Byte) : (s.memWrite a b).smpReqs = s.smpReqs := rfl
@[simp] theorem State.memWrite_seq (a : Nat) (b : List Byte) : (s.memWrite a b).seq = s.seq := rfl
@[simp] theorem State.memWrite_ethDown (a : Nat) (b : List Byte) : (s.memWrite a b).ethDown = s.ethDown := rfl
@[simp] theorem State.memWrite_loops (a : Nat) (b : List Byte) : (s.memWrite a b).loops = s.loops := rfl
@[simp] theorem State.memWrite_gptp (a : Nat) (b : List Byte) : (s.memWrite a b).gptp = s.gptp := rfl
@[simp] theorem State.memWrite_casc (a : Nat) (b : List Byte) : (s.memWrite a b).casc = s.casc := rfl
@[simp] theorem State.memWrite_depot (a : Nat) (b : List Byte) : (s.memWrite a b).depot = s.depot := rfl
@[simp] theorem State.memWrite_recov (a : Nat) (b : List Byte) : (s.memWrite a b).recov = s.recov := rfl
@[simp] theorem State.memWrite_saf (a : Nat) (b : List Byte) : (s.memWrite a b).saf = s.saf := rfl
@[simp] theorem State.memWrite_out (a : Nat) (b : List Byte) : (s.memWrite a b).out = s.out := rfl
@[simp] theorem State.memWrite_freeCtr (a : Nat) (b : List Byte) : (s.memWrite a b).freeCtr = s.freeCtr := rfl
@[simp] theorem State.memWrite_pending (a : Nat) (b : List Byte) : (s.memWrite a b).pending = s.pending := rfl

/-! `memZero` writes `mem` and `poison` alone. -/

@[simp] theorem State.memZero_objs (a n : Nat) : (s.memZero a n).objs = s.objs := rfl
@[simp] theorem State.memZero_clk (a n : Nat) : (s.memZero a n).clk = s.clk := rfl
@[simp] theorem State.memZero_pw (a n : Nat) : (s.memZero a n).pw = s.pw := rfl
@[simp] theorem State.memZero_su (a n : Nat) : (s.memZero a n).su = s.su := rfl
@[simp] theorem State.memZero_pins (a n : Nat) : (s.memZero a n).pins = s.pins := rfl
@[simp] theorem State.memZero_attic (a n : Nat) : (s.memZero a n).attic = s.attic := rfl
@[simp] theorem State.memZero_journal (a n : Nat) : (s.memZero a n).journal = s.journal := rfl
@[simp] theorem State.memZero_paths (a n : Nat) : (s.memZero a n).paths = s.paths := rfl
@[simp] theorem State.memZero_can (a n : Nat) : (s.memZero a n).can = s.can := rfl
@[simp] theorem State.memZero_tpdos (a n : Nat) : (s.memZero a n).tpdos = s.tpdos := rfl
@[simp] theorem State.memZero_timed (a n : Nat) : (s.memZero a n).timed = s.timed := rfl
@[simp] theorem State.memZero_mons (a n : Nat) : (s.memZero a n).mons = s.mons := rfl
@[simp] theorem State.memZero_edge (a n : Nat) : (s.memZero a n).edge = s.edge := rfl
@[simp] theorem State.memZero_banks (a n : Nat) : (s.memZero a n).banks = s.banks := rfl
@[simp] theorem State.memZero_smp (a n : Nat) : (s.memZero a n).smp = s.smp := rfl
@[simp] theorem State.memZero_throttling (a n : Nat) : (s.memZero a n).throttling = s.throttling := rfl
@[simp] theorem State.memZero_tempOut (a n : Nat) : (s.memZero a n).tempOut = s.tempOut := rfl
@[simp] theorem State.memZero_held (a n : Nat) : (s.memZero a n).held = s.held := rfl
@[simp] theorem State.memZero_ctxs (a n : Nat) : (s.memZero a n).ctxs = s.ctxs := rfl
@[simp] theorem State.memZero_l1 (a n : Nat) : (s.memZero a n).l1 = s.l1 := rfl
@[simp] theorem State.memZero_engines (a n : Nat) : (s.memZero a n).engines = s.engines := rfl
@[simp] theorem State.memZero_sched (a n : Nat) : (s.memZero a n).sched = s.sched := rfl
@[simp] theorem State.memZero_recReqs (a n : Nat) : (s.memZero a n).recReqs = s.recReqs := rfl
@[simp] theorem State.memZero_smpReqs (a n : Nat) : (s.memZero a n).smpReqs = s.smpReqs := rfl
@[simp] theorem State.memZero_seq (a n : Nat) : (s.memZero a n).seq = s.seq := rfl
@[simp] theorem State.memZero_ethDown (a n : Nat) : (s.memZero a n).ethDown = s.ethDown := rfl
@[simp] theorem State.memZero_loops (a n : Nat) : (s.memZero a n).loops = s.loops := rfl
@[simp] theorem State.memZero_gptp (a n : Nat) : (s.memZero a n).gptp = s.gptp := rfl
@[simp] theorem State.memZero_casc (a n : Nat) : (s.memZero a n).casc = s.casc := rfl
@[simp] theorem State.memZero_depot (a n : Nat) : (s.memZero a n).depot = s.depot := rfl
@[simp] theorem State.memZero_recov (a n : Nat) : (s.memZero a n).recov = s.recov := rfl
@[simp] theorem State.memZero_saf (a n : Nat) : (s.memZero a n).saf = s.saf := rfl
@[simp] theorem State.memZero_out (a n : Nat) : (s.memZero a n).out = s.out := rfl
@[simp] theorem State.memZero_freeCtr (a n : Nat) : (s.memZero a n).freeCtr = s.freeCtr := rfl
@[simp] theorem State.memZero_pending (a n : Nat) : (s.memZero a n).pending = s.pending := rfl

/-! `poisonAt` writes `poison` alone. -/

@[simp] theorem State.poisonAt_objs (a : Nat) : (s.poisonAt a).objs = s.objs := rfl
@[simp] theorem State.poisonAt_clk (a : Nat) : (s.poisonAt a).clk = s.clk := rfl
@[simp] theorem State.poisonAt_pw (a : Nat) : (s.poisonAt a).pw = s.pw := rfl
@[simp] theorem State.poisonAt_su (a : Nat) : (s.poisonAt a).su = s.su := rfl
@[simp] theorem State.poisonAt_pins (a : Nat) : (s.poisonAt a).pins = s.pins := rfl
@[simp] theorem State.poisonAt_attic (a : Nat) : (s.poisonAt a).attic = s.attic := rfl
@[simp] theorem State.poisonAt_journal (a : Nat) : (s.poisonAt a).journal = s.journal := rfl
@[simp] theorem State.poisonAt_paths (a : Nat) : (s.poisonAt a).paths = s.paths := rfl
@[simp] theorem State.poisonAt_can (a : Nat) : (s.poisonAt a).can = s.can := rfl
@[simp] theorem State.poisonAt_tpdos (a : Nat) : (s.poisonAt a).tpdos = s.tpdos := rfl
@[simp] theorem State.poisonAt_timed (a : Nat) : (s.poisonAt a).timed = s.timed := rfl
@[simp] theorem State.poisonAt_mons (a : Nat) : (s.poisonAt a).mons = s.mons := rfl
@[simp] theorem State.poisonAt_edge (a : Nat) : (s.poisonAt a).edge = s.edge := rfl
@[simp] theorem State.poisonAt_banks (a : Nat) : (s.poisonAt a).banks = s.banks := rfl
@[simp] theorem State.poisonAt_smp (a : Nat) : (s.poisonAt a).smp = s.smp := rfl
@[simp] theorem State.poisonAt_throttling (a : Nat) : (s.poisonAt a).throttling = s.throttling := rfl
@[simp] theorem State.poisonAt_tempOut (a : Nat) : (s.poisonAt a).tempOut = s.tempOut := rfl
@[simp] theorem State.poisonAt_held (a : Nat) : (s.poisonAt a).held = s.held := rfl
@[simp] theorem State.poisonAt_ctxs (a : Nat) : (s.poisonAt a).ctxs = s.ctxs := rfl
@[simp] theorem State.poisonAt_l1 (a : Nat) : (s.poisonAt a).l1 = s.l1 := rfl
@[simp] theorem State.poisonAt_engines (a : Nat) : (s.poisonAt a).engines = s.engines := rfl
@[simp] theorem State.poisonAt_sched (a : Nat) : (s.poisonAt a).sched = s.sched := rfl
@[simp] theorem State.poisonAt_recReqs (a : Nat) : (s.poisonAt a).recReqs = s.recReqs := rfl
@[simp] theorem State.poisonAt_smpReqs (a : Nat) : (s.poisonAt a).smpReqs = s.smpReqs := rfl
@[simp] theorem State.poisonAt_seq (a : Nat) : (s.poisonAt a).seq = s.seq := rfl
@[simp] theorem State.poisonAt_ethDown (a : Nat) : (s.poisonAt a).ethDown = s.ethDown := rfl
@[simp] theorem State.poisonAt_loops (a : Nat) : (s.poisonAt a).loops = s.loops := rfl
@[simp] theorem State.poisonAt_gptp (a : Nat) : (s.poisonAt a).gptp = s.gptp := rfl
@[simp] theorem State.poisonAt_casc (a : Nat) : (s.poisonAt a).casc = s.casc := rfl
@[simp] theorem State.poisonAt_depot (a : Nat) : (s.poisonAt a).depot = s.depot := rfl
@[simp] theorem State.poisonAt_recov (a : Nat) : (s.poisonAt a).recov = s.recov := rfl
@[simp] theorem State.poisonAt_saf (a : Nat) : (s.poisonAt a).saf = s.saf := rfl
@[simp] theorem State.poisonAt_mem (a : Nat) : (s.poisonAt a).mem = s.mem := rfl
@[simp] theorem State.poisonAt_out (a : Nat) : (s.poisonAt a).out = s.out := rfl
@[simp] theorem State.poisonAt_freeCtr (a : Nat) : (s.poisonAt a).freeCtr = s.freeCtr := rfl
@[simp] theorem State.poisonAt_pending (a : Nat) : (s.poisonAt a).pending = s.pending := rfl

/-! `errPinsLow` writes `pins` and `saf` alone. -/

@[simp] theorem State.errPinsLow_objs : (s.errPinsLow).objs = s.objs := rfl
@[simp] theorem State.errPinsLow_clk : (s.errPinsLow).clk = s.clk := rfl
@[simp] theorem State.errPinsLow_pw : (s.errPinsLow).pw = s.pw := rfl
@[simp] theorem State.errPinsLow_su : (s.errPinsLow).su = s.su := rfl
@[simp] theorem State.errPinsLow_attic : (s.errPinsLow).attic = s.attic := rfl
@[simp] theorem State.errPinsLow_journal : (s.errPinsLow).journal = s.journal := rfl
@[simp] theorem State.errPinsLow_paths : (s.errPinsLow).paths = s.paths := rfl
@[simp] theorem State.errPinsLow_can : (s.errPinsLow).can = s.can := rfl
@[simp] theorem State.errPinsLow_tpdos : (s.errPinsLow).tpdos = s.tpdos := rfl
@[simp] theorem State.errPinsLow_timed : (s.errPinsLow).timed = s.timed := rfl
@[simp] theorem State.errPinsLow_mons : (s.errPinsLow).mons = s.mons := rfl
@[simp] theorem State.errPinsLow_edge : (s.errPinsLow).edge = s.edge := rfl
@[simp] theorem State.errPinsLow_banks : (s.errPinsLow).banks = s.banks := rfl
@[simp] theorem State.errPinsLow_smp : (s.errPinsLow).smp = s.smp := rfl
@[simp] theorem State.errPinsLow_throttling : (s.errPinsLow).throttling = s.throttling := rfl
@[simp] theorem State.errPinsLow_tempOut : (s.errPinsLow).tempOut = s.tempOut := rfl
@[simp] theorem State.errPinsLow_held : (s.errPinsLow).held = s.held := rfl
@[simp] theorem State.errPinsLow_ctxs : (s.errPinsLow).ctxs = s.ctxs := rfl
@[simp] theorem State.errPinsLow_l1 : (s.errPinsLow).l1 = s.l1 := rfl
@[simp] theorem State.errPinsLow_engines : (s.errPinsLow).engines = s.engines := rfl
@[simp] theorem State.errPinsLow_sched : (s.errPinsLow).sched = s.sched := rfl
@[simp] theorem State.errPinsLow_recReqs : (s.errPinsLow).recReqs = s.recReqs := rfl
@[simp] theorem State.errPinsLow_smpReqs : (s.errPinsLow).smpReqs = s.smpReqs := rfl
@[simp] theorem State.errPinsLow_seq : (s.errPinsLow).seq = s.seq := rfl
@[simp] theorem State.errPinsLow_ethDown : (s.errPinsLow).ethDown = s.ethDown := rfl
@[simp] theorem State.errPinsLow_loops : (s.errPinsLow).loops = s.loops := rfl
@[simp] theorem State.errPinsLow_gptp : (s.errPinsLow).gptp = s.gptp := rfl
@[simp] theorem State.errPinsLow_casc : (s.errPinsLow).casc = s.casc := rfl
@[simp] theorem State.errPinsLow_depot : (s.errPinsLow).depot = s.depot := rfl
@[simp] theorem State.errPinsLow_recov : (s.errPinsLow).recov = s.recov := rfl
@[simp] theorem State.errPinsLow_mem : (s.errPinsLow).mem = s.mem := rfl
@[simp] theorem State.errPinsLow_poison : (s.errPinsLow).poison = s.poison := rfl
@[simp] theorem State.errPinsLow_out : (s.errPinsLow).out = s.out := rfl
@[simp] theorem State.errPinsLow_freeCtr : (s.errPinsLow).freeCtr = s.freeCtr := rfl
@[simp] theorem State.errPinsLow_pending : (s.errPinsLow).pending = s.pending := rfl

/-! `openWindow` writes `su` alone. -/

@[simp] theorem State.openWindow_objs (d : Nat) : (s.openWindow d).objs = s.objs := rfl
@[simp] theorem State.openWindow_clk (d : Nat) : (s.openWindow d).clk = s.clk := rfl
@[simp] theorem State.openWindow_pw (d : Nat) : (s.openWindow d).pw = s.pw := rfl
@[simp] theorem State.openWindow_pins (d : Nat) : (s.openWindow d).pins = s.pins := rfl
@[simp] theorem State.openWindow_attic (d : Nat) : (s.openWindow d).attic = s.attic := rfl
@[simp] theorem State.openWindow_journal (d : Nat) : (s.openWindow d).journal = s.journal := rfl
@[simp] theorem State.openWindow_paths (d : Nat) : (s.openWindow d).paths = s.paths := rfl
@[simp] theorem State.openWindow_can (d : Nat) : (s.openWindow d).can = s.can := rfl
@[simp] theorem State.openWindow_tpdos (d : Nat) : (s.openWindow d).tpdos = s.tpdos := rfl
@[simp] theorem State.openWindow_timed (d : Nat) : (s.openWindow d).timed = s.timed := rfl
@[simp] theorem State.openWindow_mons (d : Nat) : (s.openWindow d).mons = s.mons := rfl
@[simp] theorem State.openWindow_edge (d : Nat) : (s.openWindow d).edge = s.edge := rfl
@[simp] theorem State.openWindow_banks (d : Nat) : (s.openWindow d).banks = s.banks := rfl
@[simp] theorem State.openWindow_smp (d : Nat) : (s.openWindow d).smp = s.smp := rfl
@[simp] theorem State.openWindow_throttling (d : Nat) : (s.openWindow d).throttling = s.throttling := rfl
@[simp] theorem State.openWindow_tempOut (d : Nat) : (s.openWindow d).tempOut = s.tempOut := rfl
@[simp] theorem State.openWindow_held (d : Nat) : (s.openWindow d).held = s.held := rfl
@[simp] theorem State.openWindow_ctxs (d : Nat) : (s.openWindow d).ctxs = s.ctxs := rfl
@[simp] theorem State.openWindow_l1 (d : Nat) : (s.openWindow d).l1 = s.l1 := rfl
@[simp] theorem State.openWindow_engines (d : Nat) : (s.openWindow d).engines = s.engines := rfl
@[simp] theorem State.openWindow_sched (d : Nat) : (s.openWindow d).sched = s.sched := rfl
@[simp] theorem State.openWindow_recReqs (d : Nat) : (s.openWindow d).recReqs = s.recReqs := rfl
@[simp] theorem State.openWindow_smpReqs (d : Nat) : (s.openWindow d).smpReqs = s.smpReqs := rfl
@[simp] theorem State.openWindow_seq (d : Nat) : (s.openWindow d).seq = s.seq := rfl
@[simp] theorem State.openWindow_ethDown (d : Nat) : (s.openWindow d).ethDown = s.ethDown := rfl
@[simp] theorem State.openWindow_loops (d : Nat) : (s.openWindow d).loops = s.loops := rfl
@[simp] theorem State.openWindow_gptp (d : Nat) : (s.openWindow d).gptp = s.gptp := rfl
@[simp] theorem State.openWindow_casc (d : Nat) : (s.openWindow d).casc = s.casc := rfl
@[simp] theorem State.openWindow_depot (d : Nat) : (s.openWindow d).depot = s.depot := rfl
@[simp] theorem State.openWindow_recov (d : Nat) : (s.openWindow d).recov = s.recov := rfl
@[simp] theorem State.openWindow_saf (d : Nat) : (s.openWindow d).saf = s.saf := rfl
@[simp] theorem State.openWindow_mem (d : Nat) : (s.openWindow d).mem = s.mem := rfl
@[simp] theorem State.openWindow_poison (d : Nat) : (s.openWindow d).poison = s.poison := rfl
@[simp] theorem State.openWindow_out (d : Nat) : (s.openWindow d).out = s.out := rfl
@[simp] theorem State.openWindow_freeCtr (d : Nat) : (s.openWindow d).freeCtr = s.freeCtr := rfl
@[simp] theorem State.openWindow_pending (d : Nat) : (s.openWindow d).pending = s.pending := rfl

end Sys2Proof.Machine
end

