-- ==== Sys2Proof/Laws/Ops.lean ====
section
/-! SUPPORT. What the named operations do: dictionary entries, paths, engines and contexts read back, memory keeps its form and
every byte outside a store, and a fold keeps what each of its steps keeps. -/

namespace Sys2Proof.Machine

open Sys2Proof

/-! ## Folds -/

/-- A fold keeps what each of its steps keeps. -/
theorem foldl_keeps {α β : Type} (P : β → Prop) (f : β → α → β) (hf : ∀ b a, P b → P (f b a)) (l : List α) (b : β)
    (hb : P b) : P (l.foldl f b) := by
  induction l generalizing b with
  | nil => exact hb
  | cons a t ih => exact ih _ (hf b a hb)

/-- A fold leaves alone what each of its steps leaves alone. -/
theorem foldl_same {α β γ : Type} (g : β → γ) (f : β → α → β) (hf : ∀ b a, g (f b a) = g b) (l : List α) (b : β) :
    g (l.foldl f b) = g b := by
  induction l generalizing b with
  | nil => rfl
  | cons a t ih => rw [List.foldl_cons, ih, hf]

/-! ## Dictionary entries -/

variable (s : State)

/-- An entry after another or the same entry took a value. -/
theorem State.obj_setObj (i j v c i' j' c' : Nat) :
    (s.setObj i j v c).obj i' j' c' = if okey i' j' c' = okey i j c then v else s.obj i' j' c' := by
  unfold State.setObj State.obj State.objK
  split
  · next h => rw [h]; exact Amap.get_set_self _ _ _ _
  · next h => exact Amap.get_set_other' _ _ _ _ h

/-- An entry takes its value. -/
@[simp] theorem State.obj_setObj_self (i j v c : Nat) : (s.setObj i j v c).obj i j c = v := by
  rw [State.obj_setObj, if_pos rfl]

/-- Another entry stays. -/
theorem State.obj_setObj_ne {i j v c i' j' c' : Nat} (h : okey i' j' c' ≠ okey i j c) :
    (s.setObj i j v c).obj i' j' c' = s.obj i' j' c' := by
  rw [State.obj_setObj, if_neg h]

/-- A counter counts modulo its width. -/
theorem State.obj_bump_self (i j c n : Nat) : (s.bump i j c n).obj i j c = (s.obj i j c + n) % 2 ^ objBits i j := by
  simp [State.bump]

/-- A counter leaves another entry alone. -/
theorem State.obj_bump_ne {i j c n i' j' c' : Nat} (h : okey i' j' c' ≠ okey i j c) :
    (s.bump i j c n).obj i' j' c' = s.obj i' j' c' := s.obj_setObj_ne h

/-- A near-miss is two counts: the total, and the owning chapter's (R211). -/
@[simp] theorem State.nearMissIn_eq (i j c : Nat) : s.nearMissIn i j c = (s.bump 0x9005 1).bump i j c := by
  unfold State.nearMissIn; exact rfl

/-- An arrival on the edge of its limit counts a near-miss, and does nothing else (R211). -/
theorem State.nearEdge_eq (t n : Nat) : s.nearEdge t n = { s with objs := (s.nearEdge t n).objs } := by
  unfold State.nearEdge
  split <;> rfl

/-- Entries depend on `objs` alone. -/
theorem State.obj_congr {s t : State} (h : t.objs = s.objs) (i j c : Nat) : t.obj i j c = s.obj i j c := by
  simp [State.obj, State.objK, h]

@[simp] theorem State.obj_emit (o : Output) (i j c : Nat) : (s.emit o).obj i j c = s.obj i j c := rfl
@[simp] theorem State.obj_setPath (n : Nat) (p : PathState) (i j c : Nat) : (s.setPath n p).obj i j c = s.obj i j c := rfl
@[simp] theorem State.obj_modPath (n : Nat) (f : PathState → PathState) (i j c : Nat) :
    (s.modPath n f).obj i j c = s.obj i j c := rfl
@[simp] theorem State.obj_freshPath (n i j c : Nat) : (s.freshPath n).obj i j c = s.obj i j c := rfl
@[simp] theorem State.obj_dropPath (n i j c : Nat) : (s.dropPath n).obj i j c = s.obj i j c := rfl
@[simp] theorem State.obj_closeWindows (i j c : Nat) : s.closeWindows.obj i j c = s.obj i j c := rfl
@[simp] theorem State.obj_refuse (p a b r i j c : Nat) : (s.refuse p a b r).obj i j c = s.obj i j c := rfl
@[simp] theorem State.obj_modPort (p : Nat) (f : CanPort → CanPort) (i j c : Nat) :
    (s.modPort p f).obj i j c = s.obj i j c := rfl
@[simp] theorem State.obj_setMon (m : Nat) (v : MonState) (i j c : Nat) : (s.setMon m v).obj i j c = s.obj i j c := rfl
@[simp] theorem State.obj_modEngine (e : Nat) (f : Engine → Engine) (i j c : Nat) :
    (s.modEngine e f).obj i j c = s.obj i j c := rfl
@[simp] theorem State.obj_setCtx (h : Hart) (x : Ctx) (i j c : Nat) : (s.setCtx h x).obj i j c = s.obj i j c := rfl
@[simp] theorem State.obj_setCtxAt (g : Nat) (x : Ctx) (i j c : Nat) : (s.setCtxAt g x).obj i j c = s.obj i j c := rfl
@[simp] theorem State.obj_modJob (n : Nat) (f : Job → Job) (i j c : Nat) : (s.modJob n f).obj i j c = s.obj i j c := rfl
@[simp] theorem State.obj_memWrite (a : Nat) (b : List Byte) (i j c : Nat) :
    (s.memWrite a b).obj i j c = s.obj i j c := rfl
@[simp] theorem State.obj_memZero (a n i j c : Nat) : (s.memZero a n).obj i j c = s.obj i j c := rfl
@[simp] theorem State.obj_errPinsLow (i j c : Nat) : s.errPinsLow.obj i j c = s.obj i j c := rfl

/-! ## Tables -/

@[simp] theorem State.path_setPath_self (c : Nat) (p : PathState) : (s.setPath c p).path c = p := Amap.get_set_self _ _ _ _

@[simp] theorem State.path_modPath_self (c : Nat) (f : PathState → PathState) : (s.modPath c f).path c = f (s.path c) :=
  Amap.get_set_self _ _ _ _

/-- A path's own state is its own: another path stays as it is (R100, R104). -/
theorem State.path_setPath_ne {c d : Nat} (p : PathState) (h : d ≠ c) : (s.setPath c p).path d = s.path d :=
  Amap.get_set_other _ _ _ h

theorem State.path_modPath_ne {c d : Nat} (f : PathState → PathState) (h : d ≠ c) : (s.modPath c f).path d = s.path d :=
  Amap.get_set_other _ _ _ h

@[simp] theorem State.engine_modEngine_self (e : Nat) (f : Engine → Engine) : (s.modEngine e f).engine e = f (s.engine e) :=
  Amap.get_set_self _ _ _ _

theorem State.engine_modEngine_ne {e k : Nat} (f : Engine → Engine) (h : k ≠ e) : (s.modEngine e f).engine k = s.engine k :=
  Amap.get_set_other _ _ _ h

@[simp] theorem State.ctx_setCtx_self (h : Hart) (c : Ctx) : (s.setCtx h c).ctx h = c := Amap.get_set_self _ _ _ _

/-- Two harts have two keys. -/
theorem hartKey_inj {h k : Hart} (e : hartKey h = hartKey k) : h = k := by
  cases h with
  | ctx a =>
    cases k with
    | ctx b => exact congrArg Hart.ctx (Fin.ext e)
    | keeper b => simp only [hartKey] at e; omega
  | keeper a =>
    cases k with
    | ctx b => simp only [hartKey] at e; omega
    | keeper b => simp only [hartKey] at e; exact congrArg Hart.keeper (Fin.ext (by omega))

/-- Another hart's registers stay. -/
theorem State.ctx_setCtx_ne {h k : Hart} (c : Ctx) (e : k ≠ h) : (s.setCtx h c).ctx k = s.ctx k :=
  Amap.get_set_other _ _ _ fun x => e (hartKey_inj x)

/-- A hart's registers depend on `ctxs` alone. -/
theorem State.ctx_congr {s t : State} (h : t.ctxs = s.ctxs) (k : Hart) : t.ctx k = s.ctx k := by simp [State.ctx, h]

/-! ## Memory -/

/-- A byte after another byte list was put. -/
theorem memPut_get (m : List Host.Cell) (a : Nat) (bs : List Byte) (x : Nat) :
    Amap.get 0 (memPut m a bs) x = if a ≤ x ∧ x < a + bs.length then bs.getD (x - a) 0 else Amap.get 0 m x := by
  induction bs generalizing m a with
  | nil => simp [memPut]
  | cons b t ih =>
    rw [memPut, ih]
    by_cases hx : x = a
    · subst hx
      rw [if_neg (by omega), if_pos (by simp), Amap.get_set_self]
      simp
    · rw [Amap.get_set_other _ _ _ hx]
      by_cases hr : a + 1 ≤ x ∧ x < a + 1 + t.length
      · rw [if_pos hr, if_pos (by simp only [List.length_cons]; omega)]
        have : x - a = (x - (a + 1)) + 1 := by omega
        rw [this, List.getD_cons_succ]
      · rw [if_neg hr, if_neg (by simp only [List.length_cons]; omega)]

/-- A store writes its bytes and no other. -/
theorem State.memByte_memWrite (a : Nat) (bs : List Byte) (x : Nat) :
    (s.memWrite a bs).memByte x = if a ≤ x ∧ x < a + bs.length then bs.getD (x - a) 0 else s.memByte x :=
  memPut_get s.mem a bs x

/-- Putting bytes keeps the canonical form. -/
theorem memPut_wf (m : List Host.Cell) (a : Nat) (bs : List Byte) (h : Memory.wf m = true) :
    Memory.wf (memPut m a bs) = true := by
  induction bs generalizing m a with
  | nil => exact h
  | cons b t ih => exact ih _ _ (Amap.wf_set (fun _ => (0 : Byte)) m a b h)

/-- A store keeps the canonical form of memory. -/
theorem State.memWrite_wf (a : Nat) (bs : List Byte) (h : Memory.wf s.mem = true) :
    Memory.wf (s.memWrite a bs).mem = true := memPut_wf _ _ _ h

/-- A clear keeps the canonical form of memory. -/
theorem State.memZero_wf (a n : Nat) (h : Memory.wf s.mem = true) : Memory.wf (s.memZero a n).mem = true :=
  Amap.wf_filter _ _ _ h

/-- Dropping cells keeps the canonical form: power lost, a cellar zeroed. -/
theorem Memory.wf_filter (m : List Host.Cell) (p : Host.Cell → Bool) (h : Memory.wf m = true) :
    Memory.wf (m.filter p) = true := Amap.wf_filter _ _ _ h

/-- A store at a place's cells and at its twin's keeps the canonical form. -/
theorem State.cellsWrite_wf (a : Nat) (mirror : Option Nat) (bs : List Byte) (h : Memory.wf s.mem = true) :
    Memory.wf (s.cellsWrite a mirror bs).mem = true := by
  cases mirror with
  | none => exact s.memWrite_wf a bs h
  | some m => exact (s.memWrite a bs).memWrite_wf m bs (s.memWrite_wf a bs h)

/-- Filtering an Amap drops what the filter drops. -/
theorem Amap.get_filter {β : Type} (d : β) (m : Amap β) (p : Nat → Bool) (k : Nat) :
    Amap.get d (m.filter fun e => p e.1) k = if p k then Amap.get d m k else d := by
  induction m with
  | nil => simp [Amap.get]
  | cons e t ih =>
    obtain ⟨a, b⟩ := e
    by_cases ha : a = k
    · by_cases hp : p k
      · simp [hp, ha, Amap.get]
      · simp only [List.filter_cons, ha, hp, if_false, Bool.false_eq_true]
        simpa [hp] using ih
    · by_cases hp : p a
      · simp only [List.filter_cons, hp, if_true, Amap.get, ha, if_false]
        exact ih
      · simp only [List.filter_cons, hp, Amap.get, ha, if_false, Bool.false_eq_true]
        exact ih

/-- A clear makes its range 0 and leaves every other byte. -/
theorem State.memByte_memZero (lo n x : Nat) :
    (s.memZero lo n).memByte x = if lo ≤ x ∧ x < lo + n then 0 else s.memByte x := by
  have := Amap.get_filter (0 : Byte) s.mem (fun a => !(lo ≤ a && a < lo + n)) x
  simp only [State.memByte, State.memZero]
  rw [this]
  by_cases h : lo ≤ x ∧ x < lo + n
  · simp [h]
  · rw [if_neg h]
    rw [if_pos]
    simp only [Bool.not_eq_true', Bool.and_eq_false_iff, decide_eq_false_iff_not]
    omega

end Sys2Proof.Machine
end

