-- ==== Sys2Proof/Laws/Thread.lean ====
section
/-! SUPPORT. What the shared operations of the thread instructions do: counting, retiring, taking an exception, and an
instruction that writes one register. -/

namespace Sys2Proof.Machine

open Sys2Proof

variable (s : State)

/-! ## Registers -/

/-- Reading a register after a write: x0 takes none and reads 0 (R255). -/
theorem Ctx.get_put (c : Ctx) (rd r : Fin 32) (v : Word) :
    (c.put rd v).get r = if r = rd ∧ rd ≠ 0 then v else c.get r := by
  unfold Ctx.put
  by_cases h0 : rd = 0
  · simp [h0]
  · by_cases hr : r = rd
    · subst hr; simp [h0, Ctx.get]
    · have hv : rd.val ≠ r.val := fun e => hr (Fin.ext e.symm)
      simp [h0, hr, Ctx.get, hv]

@[simp] theorem Ctx.put_v (c : Ctx) (r : Fin 32) (v : Word) : (c.put r v).v = c.v := by unfold Ctx.put; split <;> rfl
@[simp] theorem Ctx.put_p (c : Ctx) (r : Fin 32) (v : Word) : (c.put r v).p = c.p := by unfold Ctx.put; split <;> rfl
@[simp] theorem Ctx.put_pc (c : Ctx) (r : Fin 32) (v : Word) : (c.put r v).pc = c.pc := by unfold Ctx.put; split <;> rfl
@[simp] theorem Ctx.put_flags (c : Ctx) (r : Fin 32) (v : Word) : (c.put r v).flags = c.flags := by
  unfold Ctx.put; split <;> rfl

/-! ## Counting: `perf` writes the counter banks alone; `sampleCount` and `issued` write also precise sampling and its
dropped count 0x7040:05; `retired` writes the banks and the hart -/

@[simp] theorem State.perf_objs (e c n : Nat) : (s.perf e c n).objs = s.objs := by
  refine foldl_same State.objs _ ?_ _ _; intros; rfl
@[simp] theorem State.perf_clk (e c n : Nat) : (s.perf e c n).clk = s.clk := by
  refine foldl_same State.clk _ ?_ _ _; intros; rfl
@[simp] theorem State.perf_pw (e c n : Nat) : (s.perf e c n).pw = s.pw := by
  refine foldl_same State.pw _ ?_ _ _; intros; rfl
@[simp] theorem State.perf_su (e c n : Nat) : (s.perf e c n).su = s.su := by
  refine foldl_same State.su _ ?_ _ _; intros; rfl
@[simp] theorem State.perf_pins (e c n : Nat) : (s.perf e c n).pins = s.pins := by
  refine foldl_same State.pins _ ?_ _ _; intros; rfl
@[simp] theorem State.perf_attic (e c n : Nat) : (s.perf e c n).attic = s.attic := by
  refine foldl_same State.attic _ ?_ _ _; intros; rfl
@[simp] theorem State.perf_journal (e c n : Nat) : (s.perf e c n).journal = s.journal := by
  refine foldl_same State.journal _ ?_ _ _; intros; rfl
@[simp] theorem State.perf_paths (e c n : Nat) : (s.perf e c n).paths = s.paths := by
  refine foldl_same State.paths _ ?_ _ _; intros; rfl
@[simp] theorem State.perf_can (e c n : Nat) : (s.perf e c n).can = s.can := by
  refine foldl_same State.can _ ?_ _ _; intros; rfl
@[simp] theorem State.perf_tpdos (e c n : Nat) : (s.perf e c n).tpdos = s.tpdos := by
  refine foldl_same State.tpdos _ ?_ _ _; intros; rfl
@[simp] theorem State.perf_timed (e c n : Nat) : (s.perf e c n).timed = s.timed := by
  refine foldl_same State.timed _ ?_ _ _; intros; rfl
@[simp] theorem State.perf_mons (e c n : Nat) : (s.perf e c n).mons = s.mons := by
  refine foldl_same State.mons _ ?_ _ _; intros; rfl
@[simp] theorem State.perf_edge (e c n : Nat) : (s.perf e c n).edge = s.edge := by
  refine foldl_same State.edge _ ?_ _ _; intros; rfl
@[simp] theorem State.perf_smp (e c n : Nat) : (s.perf e c n).smp = s.smp := by
  refine foldl_same State.smp _ ?_ _ _; intros; rfl
@[simp] theorem State.perf_throttling (e c n : Nat) : (s.perf e c n).throttling = s.throttling := by
  refine foldl_same State.throttling _ ?_ _ _; intros; rfl
@[simp] theorem State.perf_tempOut (e c n : Nat) : (s.perf e c n).tempOut = s.tempOut := by
  refine foldl_same State.tempOut _ ?_ _ _; intros; rfl
@[simp] theorem State.perf_held (e c n : Nat) : (s.perf e c n).held = s.held := by
  refine foldl_same State.held _ ?_ _ _; intros; rfl
@[simp] theorem State.perf_ctxs (e c n : Nat) : (s.perf e c n).ctxs = s.ctxs := by
  refine foldl_same State.ctxs _ ?_ _ _; intros; rfl
@[simp] theorem State.perf_l1 (e c n : Nat) : (s.perf e c n).l1 = s.l1 := by
  refine foldl_same State.l1 _ ?_ _ _; intros; rfl
@[simp] theorem State.perf_engines (e c n : Nat) : (s.perf e c n).engines = s.engines := by
  refine foldl_same State.engines _ ?_ _ _; intros; rfl
@[simp] theorem State.perf_sched (e c n : Nat) : (s.perf e c n).sched = s.sched := by
  refine foldl_same State.sched _ ?_ _ _; intros; rfl
@[simp] theorem State.perf_recReqs (e c n : Nat) : (s.perf e c n).recReqs = s.recReqs := by
  refine foldl_same State.recReqs _ ?_ _ _; intros; rfl
@[simp] theorem State.perf_smpReqs (e c n : Nat) : (s.perf e c n).smpReqs = s.smpReqs := by
  refine foldl_same State.smpReqs _ ?_ _ _; intros; rfl
@[simp] theorem State.perf_seq (e c n : Nat) : (s.perf e c n).seq = s.seq := by
  refine foldl_same State.seq _ ?_ _ _; intros; rfl
@[simp] theorem State.perf_ethDown (e c n : Nat) : (s.perf e c n).ethDown = s.ethDown := by
  refine foldl_same State.ethDown _ ?_ _ _; intros; rfl
@[simp] theorem State.perf_loops (e c n : Nat) : (s.perf e c n).loops = s.loops := by
  refine foldl_same State.loops _ ?_ _ _; intros; rfl
@[simp] theorem State.perf_gptp (e c n : Nat) : (s.perf e c n).gptp = s.gptp := by
  refine foldl_same State.gptp _ ?_ _ _; intros; rfl
@[simp] theorem State.perf_casc (e c n : Nat) : (s.perf e c n).casc = s.casc := by
  refine foldl_same State.casc _ ?_ _ _; intros; rfl
@[simp] theorem State.perf_depot (e c n : Nat) : (s.perf e c n).depot = s.depot := by
  refine foldl_same State.depot _ ?_ _ _; intros; rfl
@[simp] theorem State.perf_recov (e c n : Nat) : (s.perf e c n).recov = s.recov := by
  refine foldl_same State.recov _ ?_ _ _; intros; rfl
@[simp] theorem State.perf_saf (e c n : Nat) : (s.perf e c n).saf = s.saf := by
  refine foldl_same State.saf _ ?_ _ _; intros; rfl
@[simp] theorem State.perf_mem (e c n : Nat) : (s.perf e c n).mem = s.mem := by
  refine foldl_same State.mem _ ?_ _ _; intros; rfl
@[simp] theorem State.perf_poison (e c n : Nat) : (s.perf e c n).poison = s.poison := by
  refine foldl_same State.poison _ ?_ _ _; intros; rfl
@[simp] theorem State.perf_out (e c n : Nat) : (s.perf e c n).out = s.out := by
  refine foldl_same State.out _ ?_ _ _; intros; rfl
@[simp] theorem State.perf_freeCtr (e c n : Nat) : (s.perf e c n).freeCtr = s.freeCtr := by
  refine foldl_same State.freeCtr _ ?_ _ _; intros; rfl
@[simp] theorem State.perf_pending (e c n : Nat) : (s.perf e c n).pending = s.pending := by
  refine foldl_same State.pending _ ?_ _ _; intros; rfl

@[simp] theorem State.sampleCount_clk (e : Nat) : (s.sampleCount e).clk = s.clk := by
  unfold State.sampleCount
  split
  · rfl
  · dsimp only; split
    · rfl
    · split
      · rfl
      · split
        · exact State.bump_clk _ _ _ _ _
        · rfl
@[simp] theorem State.sampleCount_pw (e : Nat) : (s.sampleCount e).pw = s.pw := by
  unfold State.sampleCount
  split
  · rfl
  · dsimp only; split
    · rfl
    · split
      · rfl
      · split
        · exact State.bump_pw _ _ _ _ _
        · rfl
@[simp] theorem State.sampleCount_su (e : Nat) : (s.sampleCount e).su = s.su := by
  unfold State.sampleCount
  split
  · rfl
  · dsimp only; split
    · rfl
    · split
      · rfl
      · split
        · exact State.bump_su _ _ _ _ _
        · rfl
@[simp] theorem State.sampleCount_pins (e : Nat) : (s.sampleCount e).pins = s.pins := by
  unfold State.sampleCount
  split
  · rfl
  · dsimp only; split
    · rfl
    · split
      · rfl
      · split
        · exact State.bump_pins _ _ _ _ _
        · rfl
@[simp] theorem State.sampleCount_attic (e : Nat) : (s.sampleCount e).attic = s.attic := by
  unfold State.sampleCount
  split
  · rfl
  · dsimp only; split
    · rfl
    · split
      · rfl
      · split
        · exact State.bump_attic _ _ _ _ _
        · rfl
@[simp] theorem State.sampleCount_journal (e : Nat) : (s.sampleCount e).journal = s.journal := by
  unfold State.sampleCount
  split
  · rfl
  · dsimp only; split
    · rfl
    · split
      · rfl
      · split
        · exact State.bump_journal _ _ _ _ _
        · rfl
@[simp] theorem State.sampleCount_paths (e : Nat) : (s.sampleCount e).paths = s.paths := by
  unfold State.sampleCount
  split
  · rfl
  · dsimp only; split
    · rfl
    · split
      · rfl
      · split
        · exact State.bump_paths _ _ _ _ _
        · rfl
@[simp] theorem State.sampleCount_can (e : Nat) : (s.sampleCount e).can = s.can := by
  unfold State.sampleCount
  split
  · rfl
  · dsimp only; split
    · rfl
    · split
      · rfl
      · split
        · exact State.bump_can _ _ _ _ _
        · rfl
@[simp] theorem State.sampleCount_tpdos (e : Nat) : (s.sampleCount e).tpdos = s.tpdos := by
  unfold State.sampleCount
  split
  · rfl
  · dsimp only; split
    · rfl
    · split
      · rfl
      · split
        · exact State.bump_tpdos _ _ _ _ _
        · rfl
@[simp] theorem State.sampleCount_timed (e : Nat) : (s.sampleCount e).timed = s.timed := by
  unfold State.sampleCount
  split
  · rfl
  · dsimp only; split
    · rfl
    · split
      · rfl
      · split
        · exact State.bump_timed _ _ _ _ _
        · rfl
@[simp] theorem State.sampleCount_mons (e : Nat) : (s.sampleCount e).mons = s.mons := by
  unfold State.sampleCount
  split
  · rfl
  · dsimp only; split
    · rfl
    · split
      · rfl
      · split
        · exact State.bump_mons _ _ _ _ _
        · rfl
@[simp] theorem State.sampleCount_edge (e : Nat) : (s.sampleCount e).edge = s.edge := by
  unfold State.sampleCount
  split
  · rfl
  · dsimp only; split
    · rfl
    · split
      · rfl
      · split
        · exact State.bump_edge _ _ _ _ _
        · rfl
@[simp] theorem State.sampleCount_banks (e : Nat) : (s.sampleCount e).banks = s.banks := by
  unfold State.sampleCount
  split
  · rfl
  · dsimp only; split
    · rfl
    · split
      · rfl
      · split
        · exact State.bump_banks _ _ _ _ _
        · rfl
@[simp] theorem State.sampleCount_throttling (e : Nat) : (s.sampleCount e).throttling = s.throttling := by
  unfold State.sampleCount
  split
  · rfl
  · dsimp only; split
    · rfl
    · split
      · rfl
      · split
        · exact State.bump_throttling _ _ _ _ _
        · rfl
@[simp] theorem State.sampleCount_tempOut (e : Nat) : (s.sampleCount e).tempOut = s.tempOut := by
  unfold State.sampleCount
  split
  · rfl
  · dsimp only; split
    · rfl
    · split
      · rfl
      · split
        · exact State.bump_tempOut _ _ _ _ _
        · rfl
@[simp] theorem State.sampleCount_held (e : Nat) : (s.sampleCount e).held = s.held := by
  unfold State.sampleCount
  split
  · rfl
  · dsimp only; split
    · rfl
    · split
      · rfl
      · split
        · exact State.bump_held _ _ _ _ _
        · rfl
@[simp] theorem State.sampleCount_ctxs (e : Nat) : (s.sampleCount e).ctxs = s.ctxs := by
  unfold State.sampleCount
  split
  · rfl
  · dsimp only; split
    · rfl
    · split
      · rfl
      · split
        · exact State.bump_ctxs _ _ _ _ _
        · rfl
@[simp] theorem State.sampleCount_l1 (e : Nat) : (s.sampleCount e).l1 = s.l1 := by
  unfold State.sampleCount
  split
  · rfl
  · dsimp only; split
    · rfl
    · split
      · rfl
      · split
        · exact State.bump_l1 _ _ _ _ _
        · rfl
@[simp] theorem State.sampleCount_engines (e : Nat) : (s.sampleCount e).engines = s.engines := by
  unfold State.sampleCount
  split
  · rfl
  · dsimp only; split
    · rfl
    · split
      · rfl
      · split
        · exact State.bump_engines _ _ _ _ _
        · rfl
@[simp] theorem State.sampleCount_sched (e : Nat) : (s.sampleCount e).sched = s.sched := by
  unfold State.sampleCount
  split
  · rfl
  · dsimp only; split
    · rfl
    · split
      · rfl
      · split
        · exact State.bump_sched _ _ _ _ _
        · rfl
@[simp] theorem State.sampleCount_recReqs (e : Nat) : (s.sampleCount e).recReqs = s.recReqs := by
  unfold State.sampleCount
  split
  · rfl
  · dsimp only; split
    · rfl
    · split
      · rfl
      · split
        · exact State.bump_recReqs _ _ _ _ _
        · rfl
@[simp] theorem State.sampleCount_smpReqs (e : Nat) : (s.sampleCount e).smpReqs = s.smpReqs := by
  unfold State.sampleCount
  split
  · rfl
  · dsimp only; split
    · rfl
    · split
      · rfl
      · split
        · exact State.bump_smpReqs _ _ _ _ _
        · rfl
@[simp] theorem State.sampleCount_seq (e : Nat) : (s.sampleCount e).seq = s.seq := by
  unfold State.sampleCount
  split
  · rfl
  · dsimp only; split
    · rfl
    · split
      · rfl
      · split
        · exact State.bump_seq _ _ _ _ _
        · rfl
@[simp] theorem State.sampleCount_ethDown (e : Nat) : (s.sampleCount e).ethDown = s.ethDown := by
  unfold State.sampleCount
  split
  · rfl
  · dsimp only; split
    · rfl
    · split
      · rfl
      · split
        · exact State.bump_ethDown _ _ _ _ _
        · rfl
@[simp] theorem State.sampleCount_loops (e : Nat) : (s.sampleCount e).loops = s.loops := by
  unfold State.sampleCount
  split
  · rfl
  · dsimp only; split
    · rfl
    · split
      · rfl
      · split
        · exact State.bump_loops _ _ _ _ _
        · rfl
@[simp] theorem State.sampleCount_gptp (e : Nat) : (s.sampleCount e).gptp = s.gptp := by
  unfold State.sampleCount
  split
  · rfl
  · dsimp only; split
    · rfl
    · split
      · rfl
      · split
        · exact State.bump_gptp _ _ _ _ _
        · rfl
@[simp] theorem State.sampleCount_casc (e : Nat) : (s.sampleCount e).casc = s.casc := by
  unfold State.sampleCount
  split
  · rfl
  · dsimp only; split
    · rfl
    · split
      · rfl
      · split
        · exact State.bump_casc _ _ _ _ _
        · rfl
@[simp] theorem State.sampleCount_depot (e : Nat) : (s.sampleCount e).depot = s.depot := by
  unfold State.sampleCount
  split
  · rfl
  · dsimp only; split
    · rfl
    · split
      · rfl
      · split
        · exact State.bump_depot _ _ _ _ _
        · rfl
@[simp] theorem State.sampleCount_recov (e : Nat) : (s.sampleCount e).recov = s.recov := by
  unfold State.sampleCount
  split
  · rfl
  · dsimp only; split
    · rfl
    · split
      · rfl
      · split
        · exact State.bump_recov _ _ _ _ _
        · rfl
@[simp] theorem State.sampleCount_saf (e : Nat) : (s.sampleCount e).saf = s.saf := by
  unfold State.sampleCount
  split
  · rfl
  · dsimp only; split
    · rfl
    · split
      · rfl
      · split
        · exact State.bump_saf _ _ _ _ _
        · rfl
@[simp] theorem State.sampleCount_mem (e : Nat) : (s.sampleCount e).mem = s.mem := by
  unfold State.sampleCount
  split
  · rfl
  · dsimp only; split
    · rfl
    · split
      · rfl
      · split
        · exact State.bump_mem _ _ _ _ _
        · rfl
@[simp] theorem State.sampleCount_poison (e : Nat) : (s.sampleCount e).poison = s.poison := by
  unfold State.sampleCount
  split
  · rfl
  · dsimp only; split
    · rfl
    · split
      · rfl
      · split
        · exact State.bump_poison _ _ _ _ _
        · rfl
@[simp] theorem State.sampleCount_out (e : Nat) : (s.sampleCount e).out = s.out := by
  unfold State.sampleCount
  split
  · rfl
  · dsimp only; split
    · rfl
    · split
      · rfl
      · split
        · exact State.bump_out _ _ _ _ _
        · rfl
@[simp] theorem State.sampleCount_freeCtr (e : Nat) : (s.sampleCount e).freeCtr = s.freeCtr := by
  unfold State.sampleCount
  split
  · rfl
  · dsimp only; split
    · rfl
    · split
      · rfl
      · split
        · exact State.bump_freeCtr _ _ _ _ _
        · rfl
@[simp] theorem State.sampleCount_pending (e : Nat) : (s.sampleCount e).pending = s.pending := by
  unfold State.sampleCount
  split
  · rfl
  · dsimp only; split
    · rfl
    · split
      · rfl
      · split
        · exact State.bump_pending _ _ _ _ _
        · rfl

@[simp] theorem State.issued_clk (h : Hart) (p : Pipe) : (s.issued h p).clk = s.clk := by
  cases h with
  | keeper _ => rfl
  | ctx g => simp only [State.issued, State.sampleCount_clk]; split
             · rfl
             · exact State.perf_clk _ _ _ _
@[simp] theorem State.issued_pw (h : Hart) (p : Pipe) : (s.issued h p).pw = s.pw := by
  cases h with
  | keeper _ => rfl
  | ctx g => simp only [State.issued, State.sampleCount_pw]; split
             · rfl
             · exact State.perf_pw _ _ _ _
@[simp] theorem State.issued_su (h : Hart) (p : Pipe) : (s.issued h p).su = s.su := by
  cases h with
  | keeper _ => rfl
  | ctx g => simp only [State.issued, State.sampleCount_su]; split
             · rfl
             · exact State.perf_su _ _ _ _
@[simp] theorem State.issued_pins (h : Hart) (p : Pipe) : (s.issued h p).pins = s.pins := by
  cases h with
  | keeper _ => rfl
  | ctx g => simp only [State.issued, State.sampleCount_pins]; split
             · rfl
             · exact State.perf_pins _ _ _ _
@[simp] theorem State.issued_attic (h : Hart) (p : Pipe) : (s.issued h p).attic = s.attic := by
  cases h with
  | keeper _ => rfl
  | ctx g => simp only [State.issued, State.sampleCount_attic]; split
             · rfl
             · exact State.perf_attic _ _ _ _
@[simp] theorem State.issued_journal (h : Hart) (p : Pipe) : (s.issued h p).journal = s.journal := by
  cases h with
  | keeper _ => rfl
  | ctx g => simp only [State.issued, State.sampleCount_journal]; split
             · rfl
             · exact State.perf_journal _ _ _ _
@[simp] theorem State.issued_paths (h : Hart) (p : Pipe) : (s.issued h p).paths = s.paths := by
  cases h with
  | keeper _ => rfl
  | ctx g => simp only [State.issued, State.sampleCount_paths]; split
             · rfl
             · exact State.perf_paths _ _ _ _
@[simp] theorem State.issued_can (h : Hart) (p : Pipe) : (s.issued h p).can = s.can := by
  cases h with
  | keeper _ => rfl
  | ctx g => simp only [State.issued, State.sampleCount_can]; split
             · rfl
             · exact State.perf_can _ _ _ _
@[simp] theorem State.issued_tpdos (h : Hart) (p : Pipe) : (s.issued h p).tpdos = s.tpdos := by
  cases h with
  | keeper _ => rfl
  | ctx g => simp only [State.issued, State.sampleCount_tpdos]; split
             · rfl
             · exact State.perf_tpdos _ _ _ _
@[simp] theorem State.issued_timed (h : Hart) (p : Pipe) : (s.issued h p).timed = s.timed := by
  cases h with
  | keeper _ => rfl
  | ctx g => simp only [State.issued, State.sampleCount_timed]; split
             · rfl
             · exact State.perf_timed _ _ _ _
@[simp] theorem State.issued_mons (h : Hart) (p : Pipe) : (s.issued h p).mons = s.mons := by
  cases h with
  | keeper _ => rfl
  | ctx g => simp only [State.issued, State.sampleCount_mons]; split
             · rfl
             · exact State.perf_mons _ _ _ _
@[simp] theorem State.issued_edge (h : Hart) (p : Pipe) : (s.issued h p).edge = s.edge := by
  cases h with
  | keeper _ => rfl
  | ctx g => simp only [State.issued, State.sampleCount_edge]; split
             · rfl
             · exact State.perf_edge _ _ _ _
@[simp] theorem State.issued_throttling (h : Hart) (p : Pipe) : (s.issued h p).throttling = s.throttling := by
  cases h with
  | keeper _ => rfl
  | ctx g => simp only [State.issued, State.sampleCount_throttling]; split
             · rfl
             · exact State.perf_throttling _ _ _ _
@[simp] theorem State.issued_tempOut (h : Hart) (p : Pipe) : (s.issued h p).tempOut = s.tempOut := by
  cases h with
  | keeper _ => rfl
  | ctx g => simp only [State.issued, State.sampleCount_tempOut]; split
             · rfl
             · exact State.perf_tempOut _ _ _ _
@[simp] theorem State.issued_held (h : Hart) (p : Pipe) : (s.issued h p).held = s.held := by
  cases h with
  | keeper _ => rfl
  | ctx g => simp only [State.issued, State.sampleCount_held]; split
             · rfl
             · exact State.perf_held _ _ _ _
@[simp] theorem State.issued_ctxs (h : Hart) (p : Pipe) : (s.issued h p).ctxs = s.ctxs := by
  cases h with
  | keeper _ => rfl
  | ctx g => simp only [State.issued, State.sampleCount_ctxs]; split
             · rfl
             · exact State.perf_ctxs _ _ _ _
@[simp] theorem State.issued_l1 (h : Hart) (p : Pipe) : (s.issued h p).l1 = s.l1 := by
  cases h with
  | keeper _ => rfl
  | ctx g => simp only [State.issued, State.sampleCount_l1]; split
             · rfl
             · exact State.perf_l1 _ _ _ _
@[simp] theorem State.issued_engines (h : Hart) (p : Pipe) : (s.issued h p).engines = s.engines := by
  cases h with
  | keeper _ => rfl
  | ctx g => simp only [State.issued, State.sampleCount_engines]; split
             · rfl
             · exact State.perf_engines _ _ _ _
@[simp] theorem State.issued_sched (h : Hart) (p : Pipe) : (s.issued h p).sched = s.sched := by
  cases h with
  | keeper _ => rfl
  | ctx g => simp only [State.issued, State.sampleCount_sched]; split
             · rfl
             · exact State.perf_sched _ _ _ _
@[simp] theorem State.issued_recReqs (h : Hart) (p : Pipe) : (s.issued h p).recReqs = s.recReqs := by
  cases h with
  | keeper _ => rfl
  | ctx g => simp only [State.issued, State.sampleCount_recReqs]; split
             · rfl
             · exact State.perf_recReqs _ _ _ _
@[simp] theorem State.issued_smpReqs (h : Hart) (p : Pipe) : (s.issued h p).smpReqs = s.smpReqs := by
  cases h with
  | keeper _ => rfl
  | ctx g => simp only [State.issued, State.sampleCount_smpReqs]; split
             · rfl
             · exact State.perf_smpReqs _ _ _ _
@[simp] theorem State.issued_seq (h : Hart) (p : Pipe) : (s.issued h p).seq = s.seq := by
  cases h with
  | keeper _ => rfl
  | ctx g => simp only [State.issued, State.sampleCount_seq]; split
             · rfl
             · exact State.perf_seq _ _ _ _
@[simp] theorem State.issued_ethDown (h : Hart) (p : Pipe) : (s.issued h p).ethDown = s.ethDown := by
  cases h with
  | keeper _ => rfl
  | ctx g => simp only [State.issued, State.sampleCount_ethDown]; split
             · rfl
             · exact State.perf_ethDown _ _ _ _
@[simp] theorem State.issued_loops (h : Hart) (p : Pipe) : (s.issued h p).loops = s.loops := by
  cases h with
  | keeper _ => rfl
  | ctx g => simp only [State.issued, State.sampleCount_loops]; split
             · rfl
             · exact State.perf_loops _ _ _ _
@[simp] theorem State.issued_gptp (h : Hart) (p : Pipe) : (s.issued h p).gptp = s.gptp := by
  cases h with
  | keeper _ => rfl
  | ctx g => simp only [State.issued, State.sampleCount_gptp]; split
             · rfl
             · exact State.perf_gptp _ _ _ _
@[simp] theorem State.issued_casc (h : Hart) (p : Pipe) : (s.issued h p).casc = s.casc := by
  cases h with
  | keeper _ => rfl
  | ctx g => simp only [State.issued, State.sampleCount_casc]; split
             · rfl
             · exact State.perf_casc _ _ _ _
@[simp] theorem State.issued_depot (h : Hart) (p : Pipe) : (s.issued h p).depot = s.depot := by
  cases h with
  | keeper _ => rfl
  | ctx g => simp only [State.issued, State.sampleCount_depot]; split
             · rfl
             · exact State.perf_depot _ _ _ _
@[simp] theorem State.issued_recov (h : Hart) (p : Pipe) : (s.issued h p).recov = s.recov := by
  cases h with
  | keeper _ => rfl
  | ctx g => simp only [State.issued, State.sampleCount_recov]; split
             · rfl
             · exact State.perf_recov _ _ _ _
@[simp] theorem State.issued_saf (h : Hart) (p : Pipe) : (s.issued h p).saf = s.saf := by
  cases h with
  | keeper _ => rfl
  | ctx g => simp only [State.issued, State.sampleCount_saf]; split
             · rfl
             · exact State.perf_saf _ _ _ _
@[simp] theorem State.issued_mem (h : Hart) (p : Pipe) : (s.issued h p).mem = s.mem := by
  cases h with
  | keeper _ => rfl
  | ctx g => simp only [State.issued, State.sampleCount_mem]; split
             · rfl
             · exact State.perf_mem _ _ _ _
@[simp] theorem State.issued_poison (h : Hart) (p : Pipe) : (s.issued h p).poison = s.poison := by
  cases h with
  | keeper _ => rfl
  | ctx g => simp only [State.issued, State.sampleCount_poison]; split
             · rfl
             · exact State.perf_poison _ _ _ _
@[simp] theorem State.issued_out (h : Hart) (p : Pipe) : (s.issued h p).out = s.out := by
  cases h with
  | keeper _ => rfl
  | ctx g => simp only [State.issued, State.sampleCount_out]; split
             · rfl
             · exact State.perf_out _ _ _ _
@[simp] theorem State.issued_freeCtr (h : Hart) (p : Pipe) : (s.issued h p).freeCtr = s.freeCtr := by
  cases h with
  | keeper _ => rfl
  | ctx g => simp only [State.issued, State.sampleCount_freeCtr]; split
             · rfl
             · exact State.perf_freeCtr _ _ _ _
@[simp] theorem State.issued_pending (h : Hart) (p : Pipe) : (s.issued h p).pending = s.pending := by
  cases h with
  | keeper _ => rfl
  | ctx g => simp only [State.issued, State.sampleCount_pending]; split
             · rfl
             · exact State.perf_pending _ _ _ _

@[simp] theorem State.retired_objs (h : Hart) (c : Ctx) : (s.retired h c).objs = s.objs := by
  cases h with
  | keeper _ => rfl
  | ctx g => exact State.perf_objs s _ _ _
@[simp] theorem State.retired_clk (h : Hart) (c : Ctx) : (s.retired h c).clk = s.clk := by
  cases h with
  | keeper _ => rfl
  | ctx g => exact State.perf_clk s _ _ _
@[simp] theorem State.retired_pw (h : Hart) (c : Ctx) : (s.retired h c).pw = s.pw := by
  cases h with
  | keeper _ => rfl
  | ctx g => exact State.perf_pw s _ _ _
@[simp] theorem State.retired_su (h : Hart) (c : Ctx) : (s.retired h c).su = s.su := by
  cases h with
  | keeper _ => rfl
  | ctx g => exact State.perf_su s _ _ _
@[simp] theorem State.retired_pins (h : Hart) (c : Ctx) : (s.retired h c).pins = s.pins := by
  cases h with
  | keeper _ => rfl
  | ctx g => exact State.perf_pins s _ _ _
@[simp] theorem State.retired_attic (h : Hart) (c : Ctx) : (s.retired h c).attic = s.attic := by
  cases h with
  | keeper _ => rfl
  | ctx g => exact State.perf_attic s _ _ _
@[simp] theorem State.retired_journal (h : Hart) (c : Ctx) : (s.retired h c).journal = s.journal := by
  cases h with
  | keeper _ => rfl
  | ctx g => exact State.perf_journal s _ _ _
@[simp] theorem State.retired_paths (h : Hart) (c : Ctx) : (s.retired h c).paths = s.paths := by
  cases h with
  | keeper _ => rfl
  | ctx g => exact State.perf_paths s _ _ _
@[simp] theorem State.retired_can (h : Hart) (c : Ctx) : (s.retired h c).can = s.can := by
  cases h with
  | keeper _ => rfl
  | ctx g => exact State.perf_can s _ _ _
@[simp] theorem State.retired_tpdos (h : Hart) (c : Ctx) : (s.retired h c).tpdos = s.tpdos := by
  cases h with
  | keeper _ => rfl
  | ctx g => exact State.perf_tpdos s _ _ _
@[simp] theorem State.retired_timed (h : Hart) (c : Ctx) : (s.retired h c).timed = s.timed := by
  cases h with
  | keeper _ => rfl
  | ctx g => exact State.perf_timed s _ _ _
@[simp] theorem State.retired_mons (h : Hart) (c : Ctx) : (s.retired h c).mons = s.mons := by
  cases h with
  | keeper _ => rfl
  | ctx g => exact State.perf_mons s _ _ _
@[simp] theorem State.retired_edge (h : Hart) (c : Ctx) : (s.retired h c).edge = s.edge := by
  cases h with
  | keeper _ => rfl
  | ctx g => exact State.perf_edge s _ _ _
@[simp] theorem State.retired_smp (h : Hart) (c : Ctx) : (s.retired h c).smp = s.smp := by
  cases h with
  | keeper _ => rfl
  | ctx g => exact State.perf_smp s _ _ _
@[simp] theorem State.retired_throttling (h : Hart) (c : Ctx) : (s.retired h c).throttling = s.throttling := by
  cases h with
  | keeper _ => rfl
  | ctx g => exact State.perf_throttling s _ _ _
@[simp] theorem State.retired_tempOut (h : Hart) (c : Ctx) : (s.retired h c).tempOut = s.tempOut := by
  cases h with
  | keeper _ => rfl
  | ctx g => exact State.perf_tempOut s _ _ _
@[simp] theorem State.retired_held (h : Hart) (c : Ctx) : (s.retired h c).held = s.held := by
  cases h with
  | keeper _ => rfl
  | ctx g => exact State.perf_held s _ _ _
@[simp] theorem State.retired_l1 (h : Hart) (c : Ctx) : (s.retired h c).l1 = s.l1 := by
  cases h with
  | keeper _ => rfl
  | ctx g => exact State.perf_l1 s _ _ _
@[simp] theorem State.retired_engines (h : Hart) (c : Ctx) : (s.retired h c).engines = s.engines := by
  cases h with
  | keeper _ => rfl
  | ctx g => exact State.perf_engines s _ _ _
@[simp] theorem State.retired_sched (h : Hart) (c : Ctx) : (s.retired h c).sched = s.sched := by
  cases h with
  | keeper _ => rfl
  | ctx g => exact State.perf_sched s _ _ _
@[simp] theorem State.retired_recReqs (h : Hart) (c : Ctx) : (s.retired h c).recReqs = s.recReqs := by
  cases h with
  | keeper _ => rfl
  | ctx g => exact State.perf_recReqs s _ _ _
@[simp] theorem State.retired_smpReqs (h : Hart) (c : Ctx) : (s.retired h c).smpReqs = s.smpReqs := by
  cases h with
  | keeper _ => rfl
  | ctx g => exact State.perf_smpReqs s _ _ _
@[simp] theorem State.retired_seq (h : Hart) (c : Ctx) : (s.retired h c).seq = s.seq := by
  cases h with
  | keeper _ => rfl
  | ctx g => exact State.perf_seq s _ _ _
@[simp] theorem State.retired_ethDown (h : Hart) (c : Ctx) : (s.retired h c).ethDown = s.ethDown := by
  cases h with
  | keeper _ => rfl
  | ctx g => exact State.perf_ethDown s _ _ _
@[simp] theorem State.retired_loops (h : Hart) (c : Ctx) : (s.retired h c).loops = s.loops := by
  cases h with
  | keeper _ => rfl
  | ctx g => exact State.perf_loops s _ _ _
@[simp] theorem State.retired_gptp (h : Hart) (c : Ctx) : (s.retired h c).gptp = s.gptp := by
  cases h with
  | keeper _ => rfl
  | ctx g => exact State.perf_gptp s _ _ _
@[simp] theorem State.retired_casc (h : Hart) (c : Ctx) : (s.retired h c).casc = s.casc := by
  cases h with
  | keeper _ => rfl
  | ctx g => exact State.perf_casc s _ _ _
@[simp] theorem State.retired_depot (h : Hart) (c : Ctx) : (s.retired h c).depot = s.depot := by
  cases h with
  | keeper _ => rfl
  | ctx g => exact State.perf_depot s _ _ _
@[simp] theorem State.retired_recov (h : Hart) (c : Ctx) : (s.retired h c).recov = s.recov := by
  cases h with
  | keeper _ => rfl
  | ctx g => exact State.perf_recov s _ _ _
@[simp] theorem State.retired_saf (h : Hart) (c : Ctx) : (s.retired h c).saf = s.saf := by
  cases h with
  | keeper _ => rfl
  | ctx g => exact State.perf_saf s _ _ _
@[simp] theorem State.retired_mem (h : Hart) (c : Ctx) : (s.retired h c).mem = s.mem := by
  cases h with
  | keeper _ => rfl
  | ctx g => exact State.perf_mem s _ _ _
@[simp] theorem State.retired_poison (h : Hart) (c : Ctx) : (s.retired h c).poison = s.poison := by
  cases h with
  | keeper _ => rfl
  | ctx g => exact State.perf_poison s _ _ _
@[simp] theorem State.retired_out (h : Hart) (c : Ctx) : (s.retired h c).out = s.out := by
  cases h with
  | keeper _ => rfl
  | ctx g => exact State.perf_out s _ _ _
@[simp] theorem State.retired_freeCtr (h : Hart) (c : Ctx) : (s.retired h c).freeCtr = s.freeCtr := by
  cases h with
  | keeper _ => rfl
  | ctx g => exact State.perf_freeCtr s _ _ _
@[simp] theorem State.retired_pending (h : Hart) (c : Ctx) : (s.retired h c).pending = s.pending := by
  cases h with
  | keeper _ => rfl
  | ctx g => exact State.perf_pending s _ _ _

/-- `sampleCount` leaves every entry but 0x7040:05. -/
theorem State.sampleCount_obj (e : Nat) {i j c : Nat} (h : okey i j c ≠ okey 0x7040 5 0) :
    (s.sampleCount e).obj i j c = s.obj i j c := by
  unfold State.sampleCount
  split
  · rfl
  · dsimp only; split
    · rfl
    · split
      · rfl
      · split
        · exact State.obj_bump_ne _ h
        · rfl

/-- Issuing leaves every entry but 0x7040:05. -/
theorem State.issued_obj (h : Hart) (p : Pipe) {i j c : Nat} (hk : okey i j c ≠ okey 0x7040 5 0) :
    (s.issued h p).obj i j c = s.obj i j c := by
  cases h with
  | keeper _ => rfl
  | ctx g =>
    simp only [State.issued]
    rw [State.sampleCount_obj _ _ hk]
    split
    · rfl
    · exact State.obj_congr (by simp) _ _ _

/-- A hart that retires holds its new registers. -/
@[simp] theorem State.retired_ctx (h : Hart) (c : Ctx) : (s.retired h c).ctx h = c := by
  cases h with
  | keeper _ => simp [State.retired]
  | ctx g => simp [State.retired]

/-- Another hart keeps its registers when one retires. -/
theorem State.retired_ctx_ne {h k : Hart} (c : Ctx) (e : k ≠ h) : (s.retired h c).ctx k = s.ctx k := by
  cases h with
  | keeper _ => exact State.ctx_setCtx_ne _ _ e
  | ctx g =>
    rw [State.retired, State.ctx_setCtx_ne _ _ e]
    exact State.ctx_congr (by simp) _

/-! ## Instructions -/

/-- An instruction of a hart that does not issue changes nothing. -/
theorem State.instr_idle {h : Hart} (hr : s.runs h = false) (p : Pipe) (k : State → Ctx → Ran) (len : Nat) :
    s.instr h p k len = s := by simp [State.instr, hr]

/-- An instruction of a hart that issues executes. -/
theorem State.instr_runs {h : Hart} (hr : s.runs h = true) (p : Pipe) (k : State → Ctx → Ran) (len : Nat) :
    s.instr h p k len = s.execute h p len k := by simp [State.instr, hr]

/-- An instruction that writes one register, on a hart that issues: the state. -/
theorem State.writeReg_runs {h : Hart} (hr : s.runs h = true) (rd : Fin 32) (f : Ctx → Word) (len : Nat) :
    s.writeReg h rd f len =
      (s.issued h .scalar).retired h
        { (s.ctx h).put rd (f (s.ctx h)) with pc := (s.ctx h).pc + BitVec.ofNat 64 len } := by
  simp [State.writeReg, State.instr, hr, State.execute]

/-- A branch, on a hart that issues: the state. -/
theorem State.branch_runs {h : Hart} (hr : s.runs h = true) (rs1 rs2 : Fin 32) (off : BitVec 15) (p : Word → Word → Bool) :
    s.branch h rs1 rs2 off p =
      (s.issued h .scalar).retired h
        { s.ctx h with pc := if p ((s.ctx h).get rs1) ((s.ctx h).get rs2) then branchTo (s.ctx h).pc off
                             else (s.ctx h).pc + 4 } := by
  simp only [State.branch, State.instr, hr, if_true, State.execute]
  split
  · next h1 => split at h1 <;> simp_all
  · next h1 => split at h1 <;> simp_all
  all_goals next h1 => split at h1 <;> simp_all

end Sys2Proof.Machine
end

