-- ==== Sys2Proof/Laws/Claims.lean ====
section
/-! SUPPORT. The terms of the claims, from the laws of the operations: what an instruction that retires leaves as it is. -/

namespace Sys2Proof.Machine

open Sys2Proof

variable (s : State)

/-- Every command answers what its meaning answers. -/
theorem answers_next {i : Instr} {s t : State} {p : State → Prop} (h : exec i s = .next t) (hp : p t) : Answers i s p :=
  ⟨t, h, hp⟩

/-- An instruction that issues and retires changes its hart and what an engine counts, nothing else. -/
theorem sameBeside_retired (h : Hart) (p : Pipe) (c : Ctx) : SameBeside h s ((s.issued h p).retired h c) := by
  refine ⟨⟨fun k hk => ?_, fun i j c' hk => ?_, ?_⟩, by simp⟩
  · rw [State.retired_ctx_ne _ _ hk]; exact State.ctx_congr (by simp) _
  · rw [State.obj_congr (State.retired_objs _ _ _), State.issued_obj _ _ _ hk]
  · simp

/-- An instruction that issues and retires leaves memory. -/
theorem sameMemory_retired (h : Hart) (p : Pipe) (c : Ctx) : SameMemory s ((s.issued h p).retired h c) :=
  ⟨fun a => by simp [State.memByte], by simp⟩

/-- The registers after a write of one. -/
theorem regWritten_put (c : Ctx) (rd : Fin 32) (v pc : Word) : RegWritten c { c.put rd v with pc := pc } rd v := by
  refine ⟨fun r => ?_, by simp [Ctx.get]⟩
  have := c.get_put rd r v
  simpa [Ctx.get] using this

/-- A write of one register leaves the words beside the registers. -/
theorem sameWords_put (c : Ctx) (rd : Fin 32) (v pc : Word) : SameWords c { c.put rd v with pc := pc } := by
  unfold Ctx.put
  split <;> exact ⟨rfl, rfl, rfl, rfl, rfl, rfl, rfl, rfl, rfl, rfl, rfl, rfl, rfl, rfl, rfl, rfl⟩

/-- An instruction that writes one register, on a hart that issues. -/
theorem writesReg_writeReg {h : Hart} (hr : s.runs h = true) (rd : Fin 32) (f : Ctx → Word) (len : Nat) :
    WritesReg h rd (f (s.ctx h)) len s (s.writeReg h rd f len) := by
  rw [State.writeReg_runs s hr]
  refine ⟨?_, ?_, ?_, sameBeside_retired s h _ _, sameMemory_retired s h _ _⟩
  · rw [State.retired_ctx]; exact regWritten_put _ _ _ _
  · rw [State.retired_ctx]
  · rw [State.retired_ctx]; exact sameWords_put _ _ _ _

/-- A branch, on a hart that issues. -/
theorem movesPc_branch {h : Hart} (hr : s.runs h = true) (rs1 rs2 : Fin 32) (off : BitVec 15) (p : Word → Word → Bool) :
    MovesPc h (if p ((s.ctx h).get rs1) ((s.ctx h).get rs2) then branchTo (s.ctx h).pc off else (s.ctx h).pc + 4) s
      (s.branch h rs1 rs2 off p) := by
  rw [State.branch_runs s hr]
  refine ⟨fun r => ?_, ?_, ?_, sameBeside_retired s h _ _, sameMemory_retired s h _ _⟩
  · rw [State.retired_ctx]; rfl
  · rw [State.retired_ctx]
  · rw [State.retired_ctx]; exact ⟨rfl, rfl, rfl, rfl, rfl, rfl, rfl, rfl, rfl, rfl, rfl, rfl, rfl, rfl, rfl, rfl⟩

/-! ## Memory instructions -/

/-- Counting an event changes the counter banks alone. -/
theorem State.perf_banks (e c n : Nat) : ∃ b, s.perf e c n = { s with banks := b } := by
  refine foldl_keeps (fun t : State => ∃ b, t = { s with banks := b }) _ ?_ _ _ ⟨_, rfl⟩
  rintro _ a ⟨b, rfl⟩
  exact ⟨_, rfl⟩

/-- Counting an access changes the counter banks alone. -/
theorem State.accessPerf_banks (h : Hart) (w : Bool) (a n : Nat) : ∃ b, s.accessPerf h w a n = { s with banks := b } := by
  unfold State.accessPerf
  split
  · exact ⟨_, rfl⟩
  · dsimp only
    split
    · exact s.perf_banks _ _ _
    · split
      · split
        · exact s.perf_banks _ _ _
        · exact ⟨_, rfl⟩
      · exact ⟨_, rfl⟩

/-- A store changes memory and poison alone, and only at its bytes. -/
theorem State.cellsWrite_stores (a : Nat) (twin : Option Nat) (bs : List Byte) :
    Stores a twin bs s (s.cellsWrite a twin bs) ∧ ∃ m p, s.cellsWrite a twin bs = { s with mem := m, poison := p } := by
  cases twin with
  | none =>
    refine ⟨⟨fun x => s.memByte_memWrite a bs x, fun w => ?_⟩, _, _, rfl⟩
    simp only [State.cellsWrite, State.memWrite, wordsWithin, List.mem_filter, Bool.not_eq_true', Bool.and_eq_false_iff,
      decide_eq_false_iff_not, Option.mem_def, reduceCtorEq, false_implies, implies_true, and_true]
    tauto
  | some b =>
    refine ⟨⟨fun x => ?_, fun w => ?_⟩, _, _, rfl⟩
    · show ((s.memWrite a bs).memWrite b bs).memByte x = _
      rw [State.memByte_memWrite, State.memByte_memWrite]
    · simp only [State.cellsWrite, State.memWrite, wordsWithin, List.mem_filter, Bool.not_eq_true', Bool.and_eq_false_iff,
        decide_eq_false_iff_not, Option.mem_def, Option.some.injEq, forall_eq']
      tauto

/-- An instruction that issues, counts, fills or writes its hart's L1 lines, stores and retires changes its hart, its lines, the
counters and memory, nothing else. -/
theorem sameOthers_stored (h : Hart) (q : Pipe) (c : Ctx) (b : Amap Bank) (m : List Host.Cell) (p : List Nat)
    (l : Amap (List (Nat × List Byte)))
    (hl : ∀ k, (∀ c : Fin 4, h = .keeper c → k ≠ s.l1Key c.val) → Amap.get [] l k = Amap.get [] s.l1 k) :
    SameOthers h s (State.retired { s.issued h q with banks := b, mem := m, poison := p, l1 := l } h c) := by
  refine ⟨fun k hk => ?_, fun i j c' hk => ?_, ?_⟩
  · rw [State.retired_ctx_ne _ _ hk]; exact State.ctx_congr (by simp) _
  · rw [State.obj_congr (State.retired_objs _ _ _)]; exact State.issued_obj _ _ _ hk
  · simpa using hl

/-- The same where the lines stay. -/
theorem sameBeside_stored (h : Hart) (q : Pipe) (c : Ctx) (b : Amap Bank) (m : List Host.Cell) (p : List Nat) :
    SameBeside h s (State.retired { s.issued h q with banks := b, mem := m, poison := p } h c) :=
  ⟨sameOthers_stored s h q c b m p _ fun _ _ => by simp, by simp⟩

end Sys2Proof.Machine
end

