-- ==== Sys2Proof/Laws/Dict.lean ====
section
/-! SUPPORT. Entries that a state does not list: the queues' enables, and the descriptor pool. -/

namespace Sys2Proof.Machine

open Sys2Proof

/-- A key that a table does not list reads as the default. -/
theorem Amap.get_absent {β : Type} (d : β) (m : Amap β) (k : Nat) (h : ∀ e ∈ m, e.1 ≠ k) : Amap.get d m k = d := by
  induction m with
  | nil => rfl
  | cons e t ih =>
    have := h e (by simp)
    simp only [Amap.get, this, if_false]
    exact ih fun x hx => h x (by simp [hx])

/-- The row of 0x6000:01 (R329). -/
theorem queueRow : objRow? 0x6000 1 = some ⟨0x6000, 0x6000, 0x1, 0x1, .bool, .rw, false, .volatile, .queue, .lit 0, .any⟩ := by decide +kernel

/-- A queue whose enable is not listed is disabled. -/
theorem State.obj_queue (s : State) (h : ∀ e ∈ s.objs, e.1 / 2 ^ 16 ≠ 0x600001) (q : Nat) (hq : q < 2 ^ 16) : s.obj 0x6000 1 q = 0 := by
  unfold State.obj State.objK
  rw [Amap.get_absent]
  · have h1 : okey 0x6000 1 q / 2 ^ 24 = 0x6000 := by unfold okey; omega
    have h2 : okey 0x6000 1 q / 2 ^ 16 % 2 ^ 8 = 1 := by unfold okey; omega
    simp only [okeyDefault, h1, h2, objDefault, queueRow]
    rfl
  · intro e he hk
    apply h e he
    rw [hk]; unfold okey; omega

/-- With no queue enabled, every pool entry is free (R329). -/
theorem State.descFree_all (s : State) (h : ∀ e ∈ s.objs, e.1 / 2 ^ 16 ≠ 0x600001) : s.descFree = 16384 := by
  have : ∀ (l : List Nat), (∀ q ∈ l, q < 512) → ∀ n, l.foldl (fun n q => if s.objB 0x6000 1 q then n + s.obj 0x6000 6 q else n) n = n := by
    intro l
    induction l with
    | nil => intro _ n; rfl
    | cons q t ih =>
      intro hl n
      have := State.obj_queue s h q (by have := hl q (by simp); omega)
      simp only [List.foldl_cons, State.objB, this, bne_self_eq_false, Bool.false_eq_true, if_false]
      exact ih (fun x hx => hl x (by simp [hx])) n
  unfold State.descFree
  rw [this _ (fun q hq => List.mem_range.1 hq)]

end Sys2Proof.Machine
end

