-- ==== Sys2Proof/Laws/Words.lean ====
section
/-! SUPPORT. Bytes, fields and check codes: the lengths of byte strings, the bounds of CRC-32C, and a calibration set that passes
the checks of R185 (used as a witness). -/

namespace Sys2Proof.Machine

open Sys2Proof

@[simp] theorem zeros_length (n : Nat) : (zeros n).length = n := List.length_replicate

theorem crc32cByte_lt (k v : Nat) (h : v < 2 ^ 32) : crc32cByte k v < 2 ^ 32 := by
  induction k generalizing v with
  | zero => exact h
  | succ k ih =>
    unfold crc32cByte
    apply ih
    split
    · exact Nat.xor_lt_two_pow (by omega) (by decide)
    · omega

theorem crc32cRun_lt (bs : List Byte) (c : Nat) (h : c < 2 ^ 32) : crc32cRun c bs < 2 ^ 32 := by
  induction bs generalizing c with
  | nil => exact h
  | cons b bs ih => exact ih _ (crc32cByte_lt _ _ (Nat.xor_lt_two_pow h (by omega)))

/-- A CRC-32C fits its 4-byte field (R6). -/
theorem crc32c_lt (bs : List Byte) : crc32c bs < 2 ^ 32 :=
  Nat.xor_lt_two_pow (crc32cRun_lt _ _ (by decide)) (by decide)

/-- A 32-bit value written as 4 bytes reads back (R5). -/
theorem leVal_leBytes_four (v : Nat) (h : v < 2 ^ 32) : leVal (leBytes 4 v) = v := by
  simp [leBytes, leVal]; omega

/-! ## A field calibration set -/

/-- The header of a field set of generation 1 and its trims, all neutral. -/
def fieldHead : List Byte :=
  leBytes 4 0x41435953 ++ leBytes 2 1 ++ leBytes 2 64 ++ leBytes 4 12480 ++ leBytes 4 1 ++ [1, 96] ++ leBytes 2 128 ++ zeros 44
def fieldTail : List Byte :=
  zeros 16 ++ (List.range 8).flatMap (fun _ => leBytes 2 0x8000) ++ zeros 16 ++ leBytes 2 512 ++ zeros 62 ++ zeros 12
def fieldCrc : List Byte := leBytes 4 (crc32c (fieldHead ++ (zeros 12288 ++ fieldTail)))

/-- A set of generation 1 with no entry present. -/
def fieldSet : List Byte := fieldHead ++ (zeros 12288 ++ (fieldTail ++ fieldCrc))

theorem fieldHead_length : fieldHead.length = 64 := by decide
theorem fieldTail_length : fieldTail.length = 124 := by decide
theorem fieldCrc_length : fieldCrc.length = 4 := rfl

theorem fieldSet_length : fieldSet.length = 12480 := by
  simp [fieldSet, fieldHead_length, fieldTail_length, fieldCrc_length]

theorem fieldSet_crc : calCrc fieldSet = true := by
  have e : fieldSet = (fieldHead ++ (zeros 12288 ++ fieldTail)) ++ fieldCrc := by simp [fieldSet]
  have n : (fieldHead ++ (zeros 12288 ++ fieldTail)).length = 12476 := by simp [fieldHead_length, fieldTail_length]
  have l : List.drop 12476 fieldSet = fieldCrc := by rw [e, ← n, List.drop_left]
  have t : List.take 12476 fieldSet = fieldHead ++ (zeros 12288 ++ fieldTail) := by rw [e, ← n, List.take_left]
  have f : List.take 4 fieldCrc = fieldCrc := by rw [← fieldCrc_length, List.take_length]
  simp only [calCrc, field, slice, l, t, f]
  rw [fieldCrc, leVal_leBytes_four _ (crc32c_lt _)]
  simp

theorem fieldSet_entry (k : Nat) (h : k < 96) : calEntryOf fieldSet k = zeros 128 := by
  simp only [calEntryOf, slice, fieldSet]
  rw [show 64 + 128 * k = fieldHead.length + 128 * k by rw [fieldHead_length], List.drop_length_add_append,
    List.drop_append_of_le_length (by simp only [zeros_length]; omega),
    List.take_append_of_le_length (by simp only [zeros_length, List.length_drop]; omega)]
  simp only [zeros, List.drop_replicate, List.take_replicate]
  congr 1
  omega

theorem fieldSet_tail (o n : Nat) (h : o + n ≤ 124) : slice fieldSet (12352 + o) n = slice fieldTail o n := by
  have e : fieldSet = (fieldHead ++ zeros 12288) ++ (fieldTail ++ fieldCrc) := by simp [fieldSet]
  have l : (fieldHead ++ zeros 12288).length = 12352 := by simp [fieldHead_length]
  simp only [slice]
  rw [e, ← l, List.drop_length_add_append, List.drop_append_of_le_length (by rw [fieldTail_length]; omega),
    List.take_append_of_le_length (by simp [fieldTail_length]; omega)]

theorem fieldSet_body : calBody fieldSet = true := by
  simp only [calBody, Bool.and_eq_true, List.all_eq_true, List.mem_range]
  refine ⟨⟨fun k h => ?_, ?_⟩, ?_⟩
  · rw [fieldSet_entry k h]; decide +kernel
  · rw [fieldSet_tail 0 112 (by decide)]; decide +kernel
  · rw [fieldSet_tail 112 12 (by decide)]; decide +kernel

end Sys2Proof.Machine
end

