-- ==== Sys2Proof/Laws/Messages.lean ====
section
/-! SUPPORT. The messages that the model forms are accepted where they arrive (R466), and when such a message is one of a fleet
operation. -/

namespace Sys2Proof.Machine

open Sys2Proof

theorem leVal_leBytes_one (v : Nat) (h : v < 256) : leVal (leBytes 1 v) = v := by
  simp [leBytes, leVal]; omega

theorem leVal_leBytes_two (v : Nat) (h : v < 2 ^ 16) : leVal (leBytes 2 v) = v := by
  simp [leBytes, leVal]; omega

@[simp] theorem msgBody_fuindMsg (type src dst : Nat) (body : List Byte) : msgBody (fuindMsg type src dst body) = body := by
  simp [msgBody, fuindMsg, leBytes]

theorem fuindMsg_length (type src dst : Nat) (body : List Byte) : (fuindMsg type src dst body).length = 16 + body.length := by
  simp [fuindMsg, leBytes]; omega

theorem fuindMsg_type (type src dst : Nat) (body : List Byte) (h : type < 256) :
    field (fuindMsg type src dst body) 0 1 = type := by
  simp [field, slice, fuindMsg, leBytes, leVal]; omega

/-- A message that the model forms passes the checks of R466. -/
theorem msgOk_fuindMsg (fits : Nat → Nat → Bool) (type src dst : Nat) (body : List Byte) (ht : type < 256)
    (hb : body.length < 2 ^ 16) (hf : fits type body.length = true) : msgOk fits (fuindMsg type src dst body) = true := by
  have l : field (fuindMsg type src dst body) 4 2 = body.length := by
    rw [← leVal_leBytes_two _ hb]
    simp [field, slice, fuindMsg, leBytes]
  have c : field (fuindMsg type src dst body) 12 4 = crc32c ((fuindMsg type src dst body).take 12 ++ body) := by
    rw [← leVal_leBytes_four _ (crc32c_lt ((fuindMsg type src dst body).take 12 ++ body))]
    simp [field, slice, fuindMsg, leBytes]
  simp only [msgOk, l, c, fuindMsg_type _ _ _ _ ht, msgBody_fuindMsg, fuindMsg_length, Nat.add_sub_cancel_left, hf]
  simp

theorem fuindMsg_dst (type src dst : Nat) (body : List Byte) (h : dst < 256) :
    field (fuindMsg type src dst body) 2 1 = dst := by
  simp [field, slice, fuindMsg, leBytes, leVal]; omega

/-- A message of the link that the model forms for this device reaches it whole. -/
theorem linked_fuindMsg (p type src dst : Nat) (b : List Byte) (s : State) (ha : (s.fl p).phase = .active)
    (hf : linkBody type b.length = true) (ho : type = 1 ∨ (s.fl p).open_ = true) (hd : dst = 0xFF ∨ dst = s.deviceId)
    (ht : type < 256) (h2 : dst < 256) (hb : b.length < 2 ^ 16) : Linked p type (fuindMsg type src dst b) s := by
  refine ⟨ha, fuindMsg_type _ _ _ _ ht, msgOk_fuindMsg _ _ _ _ _ ht hb hf, ho, ?_⟩
  rwa [fuindMsg_dst _ _ _ _ h2]

/-- A message of a fleet layer that the model forms is one of its operation, where its body has the operation's length. -/
theorem spelled_fuindMsg (layer op src dst : Nat) (b : List Byte) (s : State) (hs : s.pw.mode.awake = true)
    (ha : s.ownAddr (s.obj 0x6100 5) ≠ 0) (hl : layer = 0x20 ∨ layer = 0x21) (hn : 24 ≤ b.length) (hb : b.length ≤ 4352)
    (ho : field b 0 1 = op) (h0 : layer = 0x20 → fleetLen op ≠ 0 ∧ b.length = fleetLen op)
    (h1 : layer ≠ 0x20 → ckptFits b = true) : Spelled layer op (fuindMsg layer src dst b) s := by
  have ht : layer < 256 := by omega
  have hf : udpBody layer b.length = true := by rcases hl with rfl | rfl <;> simp [udpBody, hb]
  refine ⟨⟨hs, ha⟩, ⟨msgOk_fuindMsg _ _ _ _ _ ht (by omega) hf, ?_, fuindMsg_type _ _ _ _ ht⟩, ?_, ?_, ?_⟩ <;>
    simpa only [msgBody_fuindMsg]

end Sys2Proof.Machine
end

