-- ==== Sys2Proof/WellFormed.lean ====
section
/-! DEFINITION. Which commands are formed as the spec's formats say: the lengths of the packets, flits and records that a
command carries. The meanings are total and do not depend on it. -/

namespace Sys2Proof

/-- A CAN frame carries as many bytes as its DLC says (R57, ISO 11898-1 as R126 names it). -/
def CanFrame.wellFormed (f : CanFrame) : Bool :=
  f.data.length == (match f.dlc.toNat with
    | 9 => 12 | 10 => 16 | 11 => 20 | 12 => 24 | 13 => 32 | 14 => 48 | 15 => 64 | n => n) &&
  (f.ide || f.id.toNat < 2048)

/-- A command is formed as its format says. -/
def Instr.wellFormed : Instr → Bool
  | .canParkedFrame f => f.wellFormed
  | .csi2LinePacket _ _ _ _ wc payload _ _ => payload.length == wc.toNat
  | .rangePacket _ f _ _ _ => f.payload.length ≤ f.length
  | .dataFlit _ f => f.length == 76
  | .nakFlit _ f => f.length == 76
  | .creditInitFlit _ f => f.length == 76
  | .idleFlit _ f => f.length == 76
  | .sealedWrite _ r => r.length == 24
  | .doorbellSubmit _ _ a => a.data.length != 0 && a.off.toNat + a.data.length ≤ 4096
  | .bar4Access _ _ _ d => d.length != 0
  | .mailboxSegmentWrite _ n => n.toNat != 0 && n.toNat ≤ 256
  | .powerSample _ r _ => r.length == 8
  | .sdapObjectWrite _ _ d => d.length ≤ 8
  | .sdapMemoryRead a => a.toNat % 8 == 0
  | .sdapMemoryWrite a _ => a.toNat % 8 == 0
  | _ => true

end Sys2Proof
end

