-- ==== Sys2Proof/Tests/Slice0.lean ====
section
/-! SUPPORT. The model's own tests: the refusals of WellFormed, words of the thread instruction set written out from the spec's
encodings, and a witness for the hypotheses of every statement. -/

namespace Sys2Proof.Tests

set_option Elab.async false

open Sys2Proof.Machine

/-! ## WellFormed: an ill-formed term for each check -/

theorem test_illformed_canFrame :
    (Instr.canParkedFrame { id := 1, ide := false, brs := false, xl := false, error := false, dlc := 2, data := [0] }).wellFormed =
      false := by decide
theorem test_illformed_canId :
    (Instr.canParkedFrame { id := 2048, ide := false, brs := false, xl := false, error := false, dlc := 0, data := [] }).wellFormed =
      false := by decide
theorem test_illformed_csi2Line : (Instr.csi2LinePacket 0 0 0 0x2B 3 [0] .clean true).wellFormed = false := by decide
theorem test_illformed_dataFlit : (Instr.dataFlit 0 [1]).wellFormed = false := by decide
theorem test_illformed_nakFlit : (Instr.nakFlit 0 [2]).wellFormed = false := by decide
theorem test_illformed_creditFlit : (Instr.creditInitFlit 0 [3]).wellFormed = false := by decide
theorem test_illformed_idleFlit : (Instr.idleFlit 0 [0]).wellFormed = false := by decide
theorem test_illformed_record : (Instr.sealedWrite .jtag [0]).wellFormed = false := by decide
theorem test_illformed_doorbell : (Instr.doorbellSubmit (.fn 0) 0 ⟨0xFFF, true, [0, 0]⟩).wellFormed = false := by decide +kernel
theorem test_illformed_bar4 : (Instr.bar4Access 0 0 false []).wellFormed = false := by decide
theorem test_illformed_segment : (Instr.mailboxSegmentWrite .jtag 0).wellFormed = false := by decide
theorem test_illformed_power : (Instr.powerSample 0 [] 0).wellFormed = false := by decide
theorem test_illformed_sdapWrite : (Instr.sdapObjectWrite 0 0 [0, 0, 0, 0, 0, 0, 0, 0, 0]).wellFormed = false := by decide
theorem test_illformed_sdapRead : (Instr.sdapMemoryRead 4).wellFormed = false := by decide
theorem test_illformed_sdapStore : (Instr.sdapMemoryWrite 1 0).wellFormed = false := by decide +kernel

/-! ## Small states -/

/-- BENCH with Keeper firmware running and no engine at work. -/
def bench : State :=
  { State.reset with
    pw := { Power.reset with mode := .bench, porst := false }
    clk := { Clock.reset with tbRun := true }
    saf := { SafetyCtl.idle with keepersHeld := false } }

/-- BENCH with an L1 line of Keeper A that is older than memory. -/
def stale : State := { bench with l1 := [(0, [(0xF100000000, [5])])] }

/-- BENCH with Keeper B halted. -/
def halted : State := { bench with objs := [(okey 0x5050 2 0, 0x0C)] }



/-- A job that runs in contexts 0 and 1 of engine 0. -/
def work : Job where
  id := 1
  queue := 0
  seq := 1
  desc := []
  prio := 0
  part := 0
  phase := .running
  engine := 0
  slots := [0, 1]
  cancelling := false
  status := 0
  user := 0
  ecode := 0
  acceptNs := 0
  startNs := 0
  endNs := 0

/-- BENCH with that job at work. -/
def working : State := { bench with sched := { Sched.idle with jobs := [work] } }

/-- The same with context 1 waiting at barrier 3 for one more. -/
def met : State :=
  { working with
    engines := [(0, { Engine.idle with barriers := [{ id := 3, count := 2, arrived := [1] }] })]
    ctxs := [(1, { Ctx.zero with barrier := some 3 })] }


/-- BENCH with an odd address in x1 of Keeper core 0, a poisoned word, and an unmapped PC in context 0. -/
def odd : State :=
  { working with
    poison := [8]
    ctxs := [(0, { Ctx.zero with pc := 0xF100000000 }), (3072, { Ctx.zero with x := Ctx.zero.x.set 1 5 })] }

/-- BENCH with Keeper core 0 in an exception. -/
def double : State := { bench with ctxs := [(3072, { Ctx.zero with flags := 0x100 })] }

/-- BENCH with a split asked for, and Keeper core 2 waiting. -/
def asked : State :=
  { bench with
    saf := { SafetyCtl.idle with keepersHeld := false, splitAt := some 0 }
    ctxs := [(3074, { Ctx.zero with waiting := true })] }

/-- BENCH with a job at work and break catch on for engines and Keepers. -/
def caught : State := { working with objs := [(okey 0x5050 4 0, 3)] }


/-- A copy of 8 bytes from 0 to 4096. -/
def moveDesc : List Byte := leBytes 8 0 ++ leBytes 8 4096 ++ leBytes 4 8 ++ leBytes 4 1 ++ zeros 40

/-- Context 0 with that copy outstanding under token 0 and its descriptor at x1. -/
def tensor : State :=
  { working with
    mem := memPut [] 0xF000000000 moveDesc
    ctxs := [(0, { Ctx.zero with
      x := Ctx.zero.x.set 1 0xF000000000
      ops := [{ token := 0, copy := true, desc := moveDesc, mode := 0, addr := 0, pc := 0, finished := false, fault := none, job := 1 }] })] }

/-- A descriptor of a job of type 1. -/
def goodDesc : List Byte := leBytes 1 1 ++ zeros 63

/-- BENCH with a job at work and queue 0 enabled on engine 0. -/
def open_ : State :=
  { working with objs := [(okey 0x6000 1 0, 1), (okey 0x6000 5 0, 1), (okey 0x6000 6 0, 8), (okey 0x6000 7 0, 0x1000), (okey 0x6000 8 0, 64)] }

/-- The same queue with one pending job. -/
def waits : State :=
  { open_ with sched := { Sched.idle with jobs := [{ work with phase := .pending, desc := [] }] } }

/-- The same queue as the host sees it, with one job ended. -/
def host : State :=
  { open_ with
    paths := [(0x10, PathState.fresh)]
    sched := { Sched.idle with jobs := [{ work with phase := .ended }] } }

/-- Engine 3 moves, and partition 0 has reset its last polder. -/
def moving : State :=
  { bench with
    engines := [(3, { Engine.idle with moving := some 1 })]
    sched := { Sched.idle with resets := [{ part := 0, engine := 0, left := [], aborted := 0 }] } }

/-- Four requests of Keeper core 0 on either unit, the first of them running. -/
def busyUnit : State :=
  let r : UnitReq :=
    { port := 3072, part := 0, first := true, tag := 0, desc := [], early := 2, engine := 48, job := none, run := none, kept := false }
  let l := { r with run := some (0, 0) } :: List.replicate 3 r
  { bench with recReqs := l, smpReqs := l }

/-- OFF with VAON lost and PORST_N released, and the way out of OFF. -/
def lowVaon : State := { State.reset with pw := { Power.reset with vaonOk := false, porst := false } }
def booting : State := { State.reset with pw := { Power.reset with porst := false, booting := true } }

/-- PARKED with depot enabled, an alarm set, the wake sources 0 to 3 enabled, and a filter that every frame matches. -/
def parked : State :=
  { State.reset with
    pw := { Power.reset with mode := .parked, porst := false }
    objs := [(okey 0x6100 1 0, 1), (okey 0xB001 1 0, 15), (okey 0xB001 7 0, 1), (okey 0xB002 1 0, 0), (okey 0xB002 2 0, 0),
      (okey 0xB002 3 0, 0), (okey 0xB002 4 0, 0), (okey 0xB002 5 0, 0xFF)] }

/-- A wake deferred for heat. -/
def cooled : State := { parked with pw := { parked.pw with deferred := some 2 } }

/-- DRIVE with IGN asserted. -/
def driving : State := { bench with pw := { bench.pw with mode := .drive, ign := true } }

/-- RESET_N held in PARKED. -/
def held : State := { parked with pw := { parked.pw with resetHeld := true } }

/-- Ready-hold, DRIVE in its drive-off delay, and teardown. -/
def hold : State := { bench with pw := { bench.pw with mode := .waking, readyHold := some 5 } }
def away : State := { bench with pw := { bench.pw with mode := .drive, driveOff := some 5 } }
def tearing : State := { bench with pw := { bench.pw with teardown := some 3 } }

/-- WAKING from its commit, with power, and with the PLLs locked and a calibration set. -/
def waking : State := { bench with pw := { bench.pw with mode := .waking } }
def powered : State := { waking with su := { Startup.idle with coreOn := true }, objs := [(okey 0x8001 2 0, 0xFF)] }
def starting : State := { waking with su := { Startup.idle with coreOn := true, pllOn := true } }
def trained : State := { starting with su := { starting.su with cellarOn := true } }

/-- Self-tested, zeroed and loaded, no BENCH option. -/
def started : State :=
  { trained with su := { trained.su with keepersTested := true, enginesTested := true, zeroed := true, loaded := true } }

/-- An image of three empty sections, signed with a key of its own. -/
def imageBytes : List Byte :=
  leBytes 32 0x1000331420000000500000000000001A000800001494D5953 ++ zeros 96 ++ leBytes 32 0x1000000000000000001 ++
  leBytes 32 0x1000000000000000002 ++ leBytes 32 0x1000000000000000003 ++ zeros 64 ++
  leBytes 32 0xE160DB53066BCBBA15D664E8E97FEC9BC8294A6049B7D0A6563770F91285134 ++
  leBytes 32 0x1DDEE7F6588622A3163C4DE697169993DEE6628497E063B377A24C4B621253B2 ++
  leBytes 32 0x959C74DB33BFE73851EAFC12F3BD882E31EA832CF927A7F2F967EAEA68A28C73 ++
  leBytes 32 0x959C74DB33BFE73851EAFC12F3BD882E31EA832CF927A7F2F967EAEA68A28C73

/-- BENCH with that image delivered. -/
def checked : State :=
  { bench with
    mem := memPut [] 0xBF0000000 imageBytes
    su := { Startup.idle with
      boot := { bench.readBoot with
        attempts := 3, minGen := 0, key0 := 0xcb3c6519f0365bb7cdc7801e56c56281a2db9dc47764c09342aee0191a33dad6 }
      window := some 5, checking := some 416, placing := true, imageLen := 416, freshRun := true,
      image := memPut [] 0xBF0000000 imageBytes } }

/-- HANDOVER at its end. -/
def leaving : State :=
  { bench with
    pw := { bench.pw with mode := .handover, ign := true }
    su := { Startup.idle with toDrive := true, enginesTested := true, freshOk := true, loaded := true }
    objs := [(okey 0x6100 0x0A 0, 5)] }

/-- BENCH with five paths, a journal entry, a sample record and near-misses. -/
def desk : State :=
  { bench with
    paths := [(0x01, PathState.fresh), (0x10, PathState.fresh), (0x20, PathState.fresh), (0x30, { PathState.fresh with opened := some 0, mbTarget := 0x101700, mbTotal := 2 }),
      (0x38, PathState.fresh)]
    objs := [(okey 0xB001 2 0, 7)]
    smp := { Sampling.idle with records := [[1]] }
    journal := { Journal.reset with entries := [JEntry.mk 1 2 0x38 3 0 0xFFFF 5 0 1 1], written := 1 } }

/-- The same with a first key and a staged download on CAN port 0. -/
def armedDesk : State :=
  { desk with paths := [(0x01, { PathState.fresh with
      armed := some 0, staged := some (Staged.mk 0x2040 7 0xFFFF [] 0) }),
    (0x38, { PathState.fresh with opened := some 0 })] }

/-- A sealed record that sets the boot option of 0x2040:01. -/
def goodRecord : List Byte :=
  leBytes 2 0x5A1D ++ leBytes 2 0xE2C7 ++ leBytes 2 0x2040 ++ [1, 1] ++ leBytes 2 0xFFFF ++ zeros 6 ++ [1] ++ zeros 7

/-- Transfers of the mailbox: an upload of 300 bytes, and a download of 0x1017:00. -/
def sending : Xfer := Xfer.mk true 0x1017 0 0xFFFF 300 (zeros 300) 0 256 0 256
def receiving : Xfer := Xfer.mk false 0x1017 0 0xFFFF 2 [] 0 0 0 256

/-- Both at work on two paths each. -/
def up : State :=
  { desk with paths := [(0x10, { PathState.fresh with mailbox := some sending, mbStatus := 1 }),
    (0x38, { PathState.fresh with mailbox := some { sending with offset := 256 }, mbStatus := 1 })] }
def down : State :=
  { desk with paths := [(0x10, { PathState.fresh with mailbox := some receiving, mbStatus := 2 }),
    (0x38, { PathState.fresh with mailbox := some { receiving with data := [1, 0] }, mbStatus := 2 })] }

/-- PARKED with dictionary wake enabled and a window open; SAFE with a window open; BENCH ready for DRIVE. -/
def knocked : State :=
  { parked with paths := [(0x01, { PathState.fresh with opened := some 0 })], objs := [(okey 0xB001 1 0, 31)] }
def locked : State :=
  { bench with
    pw := { bench.pw with mode := .safe, safeLatch := true }
    paths := [(0x01, { PathState.fresh with opened := some 0 })] }
def ready : State :=
  { desk with pw := { desk.pw with ign := true }, su := { Startup.idle with loaded := true }, objs := [(okey 0x5020 1 0, 1)] }

/-- A stream of four RAW pixels a line, ready to be enabled, and enabled. -/
def camera0 : State :=
  { desk with objs := [(okey 0x3000 2 0, 1), (okey 0x3000 6 0, 4), (okey 0x3010 7 0, 0xB80000000), (okey 0x3100 1 0, 1),
      (okey 0x4801 2 0, 0xA00000000), (okey 0x6000 1 0, 1)] }
def sluice : Sluice :=
  { stream := 0, on := true, base := 0, size := 4096, line := 0, index := 0, next := 0, filling := none, good := [], recent := []
    lineStamp := 0, lineNs := 0, sensorTime := none, owners := [], seq := none, lineTick := 0, lineAt := 0, frameAt := 0, strips := [], ringNext := 0, lastDeadline := 0
    above := false, spillAt := none, lut := [], grid := 0, anchors := [] }
def camera : State :=
  { camera0 with
    objs := [(okey 0x3000 1 0, 1), (okey 0x3000 2 0, 1), (okey 0x3000 6 0, 4), (okey 0x3002 1 0, 1), (okey 0x3010 7 0, 0xB80000000),
      (okey 0x3100 1 0, 1), (okey 0x4801 2 0, 0xA00000000), (okey 0x6000 1 0, 1)]
    seq := { Seq.idle with sluices := [sluice] } }

/-- DEPOT with a window for guest 0, and with guest 0 running; a busy unit; and the manager. -/
def tenant : State :=
  { desk with
    pw := { desk.pw with mode := .depot }
    objs := [(okey 0x4801 2 0, 0xA00000000), (okey 0x6021 3 0, 1), (okey 0x6100 0x0A 0, 2)] }
def lodger : State :=
  { tenant with
    paths := [(0x11, PathState.fresh), (0x38, PathState.fresh)]
    objs := [(okey 0x4801 2 0, 0xA00000000), (okey 0x6021 1 0, 1), (okey 0x6021 3 0, 1), (okey 0x6021 4 0, 2), (okey 0x6100 0x0A 0, 2)] }
def busyDesk : State := { desk with sched := working.sched }
def manager : State :=
  { desk with pw := { desk.pw with mode := .depot }, objs := [(okey 0x2001 6 0, 2), (okey 0x4801 2 0, 0xA00000000)] }

/-- A manifest of one window unit that is all zero. -/
def wholeManifestBody : List Byte :=
  leBytes 4 0x4D435953 ++ leBytes 2 1 ++ leBytes 2 128 ++ leBytes 4 204 ++ zeros 36 ++ [1, 1, 1, 0] ++ leBytes 4 1 ++ zeros 4 ++
  leBytes 4 1 ++ zeros 64 ++ zeros 32 ++ zeros 36 ++ [1, 0, 0, 0]
def smallManifest : List Byte := wholeManifestBody ++ leBytes 4 (crc32c wholeManifestBody)


/-- CAN at work: port 0 Operational with an EMCY, a blocked identifier and a count of two collisions, four TPDOs, port 1 due to
start; and both ports as a node reset finds them, with sessions open. -/
def anEmcy : Emcy := { code := 0x8110, reg := 0, source := 0xFF, info := 0, stamp := 0 }
def online : State :=
  { bench with
    paths := [(0x01, PathState.fresh), (0x02, { PathState.fresh with session := some receiving })]
    attic := { Attic.factory with areaA := [7] }
    can := [(0, { CanPort.idle with core := true, emcys := [anEmcy], collisions := [(5, 2)] }),
      (1, { CanPort.idle with core := true, bootAt := some 0 })]
    tpdos := [(2, { last := [], sentAt := some 0 }), (3, { last := [3], sentAt := none })]
    objs := [(okey 0x1800 1 0, 2 ^ 32 + 0x181), (okey 0x1801 1 0, 2 ^ 32 + 0x182), (okey 0x1801 2 0, 0xFF),
      (okey 0x1802 1 0, 2 ^ 32 + 0x183), (okey 0x1802 2 0, 0xFF), (okey 0x1802 3 0, 1),
      (okey 0x1803 1 0, 2 ^ 32 + 0x184), (okey 0x1803 2 0, 0xFF), (okey 0x1A01 1 0, 1), (okey 0x1A01 2 0, 0x20010108),
      (okey 0x1A03 1 0, 1), (okey 0x1A03 2 0, 0x20010108), (okey 0x1F90 7 0, 5), (okey 0x1F90 0x0D 0, 1),
      (okey 0x1F90 0x0E 0, 7), (okey 0x1F91 7 0, 0x7F), (okey 0x8001 3 0, 0)] }
def nodeReset : State :=
  { bench with
    paths := [(0x01, { PathState.fresh with session := some { sending with maxSeg := 7 } }), (0x02, PathState.fresh)]
    can := [(0, { CanPort.idle with core := true, bootAt := some 0, emcys := [anEmcy], emcyAt := some 0 }),
      (1, { CanPort.idle with core := true, emcys := [anEmcy] })]
    objs := [(okey 0x1015 0 0, 1), (okey 0x1017 0 0, 0), (okey 0x1F90 7 0, 0x7F), (okey 0x1F91 7 0, 4), (okey 0x1F92 1 0, 0),
      (okey 0x1F92 2 0, 1)] }


/-- UDP peers, one slot each: idle, in an upload, in a download, at its commit, failed, busy, and answered. -/
def peers : State :=
  { desk with
    attic := { Attic.factory with areaA := [7] }
    objs := [(okey 0x8001 3 0, 0)]
    paths := [(0x20, { PathState.fresh with peer := (7, 0x20), opened := some 0 }), (0x21, { PathState.fresh with peer := (7, 0x21), session := some sending }),
      (0x22, { PathState.fresh with peer := (7, 0x22), session := some receiving }),
      (0x23, { PathState.fresh with peer := (7, 0x23), session := some { receiving with data := [1, 0], offset := 2 } }),
      (0x24, { PathState.fresh with peer := (7, 0x24), sessionFail := some 3 }),
      (0x25, { PathState.fresh with peer := (7, 0x25), busy := some [] }),
      (0x26, { PathState.fresh with peer := (7, 0x26), lastResp := some (5, [1]) })] }

/-- Dictionary messages of one peer: an operation, its number, entry, length, offset, value and segment. -/
def ask (op seq idx sub n off : Nat) (v seg : List Byte) : List Byte :=
  fuindMsg 0x10 0xFE 0xFF (leBytes 1 op ++ [0] ++ leBytes 2 seq ++ leBytes 2 idx ++ leBytes 1 sub ++ leBytes 1 n ++ leBytes 4 off ++
    zeros 4 ++ padTo 8 v ++ seg)


/-- Whether such a message meets `Asked`. -/
def sees (s : State) (op p : Nat) (m : List Byte) : Bool :=
  s.pw.mode.awake && s.clk.tbRun && !s.holds 0x20 && msgOk udpBody m && field m 0 1 == 0x10 && field m 2 1 == 0xFF &&
  dictForm (msgBody m) && field (msgBody m) 0 1 == op && s.peerSlot (7, p) == some p && s.live p && (s.path p).busy.isNone &&
  (s.path p).lastResp.all (fun r => r.1 != field (msgBody m) 2 2) && (s.path p).inTurn (msgBody m)

/-- Streams in a frame: a camera, a range sensor, a near-field sensor, and one whose strip is in its divert copy. -/
def aFilling : Filling :=
  { n := 0, index := 0, slot := 0, lines := 1, replaced := false, stamp := 0, corrected := 0 }
def aStrip : Strip :=
  { n := 0, frame := 0, index := 0, last := false, lines := 16, width := 4, replaced := false, decimated := false, diverted := true
    slot := some 0, ring := some 0, src := 0, doneTick := 0, deadline := 24, job := .accepted 1, tried := true, bounded := false
    single := false, stamp := 0, corrected := 0 }
def filmingSluice : Sluice := { sluice with line := 1, filling := some aFilling }
def rangeSluice : Sluice := { sluice with stream := 1, base := 4096, line := 1, filling := some aFilling }
def nearSluice : Sluice := { sluice with stream := 2, base := 8192, line := 1, filling := some aFilling }
def divertSluice : Sluice := { sluice with stream := 3, base := 12288, strips := [aStrip] }
def filming : State :=
  { camera with
    objs := [(okey 0x3000 1 0, 1), (okey 0x3000 2 0, 1), (okey 0x3000 2 1, 2), (okey 0x3000 2 2, 3), (okey 0x3000 2 3, 1),
      (okey 0x3000 4 3, 2), (okey 0x3000 6 0, 4), (okey 0x3002 1 0, 2), (okey 0x3002 1 1, 2), (okey 0x3002 1 2, 2),
      (okey 0x3100 1 0, 1), (okey 0x3101 1 0, 1), (okey 0x3102 1 0, 9), (okey 0x3104 1 0, 1), (okey 0x3112 2 0, 0x10001),
      (okey 0x4801 2 0, 0xA00000000), (okey 0xA010 1 0, 5)]
    seq := { Seq.idle with
      sluices := [filmingSluice, rangeSluice, nearSluice, divertSluice]
      hz := { loaded := true, latch := false, holdEnd := 0, seenAt := none, first := none } } }
def aRange : List Byte :=
  let h := leBytes 4 0x50525953 ++ [1, 0, 0, 0, 1, 0, 1, 0] ++ zeros 16
  h ++ leBytes 4 (crc32c h) ++ zeros 7 ++ [0x6A]
def aRangeFrame : RangeFrame :=
  { mac := 0, ip := 9, udpPort := 0, length := 100, tagged := false, plain := true, headerOk := true
    payload := aRange }
theorem test_illformed_rangePacket : (Instr.rangePacket 0 { aRangeFrame with length := 3 } [] true true).wellFormed = false := by decide +kernel

/-- A stream with a strip to submit, one published, an outcome that waits, and a frame that is ready; and its suppression at
work, with HAZARD_N held. -/
def retryStrip : Strip := { aStrip with n := 5, diverted := false, job := .toSubmit, ring := none }
def doneStrip : Strip := { aStrip with n := 6, diverted := false, job := .ended, ring := none, slot := some 1, bounded := true }
def lateSluice : Sluice := { sluice with strips := [retryStrip, doneStrip], next := 7 }
def readyFrame : PpFrame :=
  { stream := 0, frame := 0, ended := some (0, 0), lastStrip := some 6, lastOut := true, corrected := 0, cands := [], received := 0
    partialIn := false, discarded := false, started := none }
def publishing : State :=
  { camera with
    objs := [(okey 0x3000 1 0, 1), (okey 0x3000 2 0, 1), (okey 0x3000 6 0, 4), (okey 0x3002 1 0, 1), (okey 0x3010 4 0, 0xA10000000),
      (okey 0x3010 7 0, 0xB80000000), (okey 0x3110 1 0, 4), (okey 0x3110 4 0, 4096), (okey 0x3112 2 0, 0x10001),
      (okey 0x4801 2 0, 0xA00000000), (okey 0x6000 1 0, 1), (okey 0x6000 6 0, 8)]
    seq := { Seq.idle with
      sluices := [lateSluice]
      waiting := [aStrip.outcome 3 2 true]
      copies := [{ stream := 0, strip := 6, frame := 0, index := 0, code := 1, tick := 0 },
        { stream := 0, strip := 9, frame := 7, index := 0, code := 1, tick := 0 }]
      frames := [readyFrame]
      hz := { loaded := true, latch := false, holdEnd := 0, seenAt := none, first := none } } }
def listing : State :=
  { publishing with
    pins := { Pins.reset with hazardN := false }
    seq := { publishing.seq with
      frames := [{ readyFrame with started := some 0 }]
      hz := { loaded := true, latch := true, holdEnd := 0, seenAt := some 0, first := some (0, 2) } } }

/-- gPTP locked with a step and a frame pending, and acquiring; a Sync with a number and a time. -/
def aTimed : Timed := { port := 0, at_ := 5000, kind := 0, data := [1] }
def aSync (seq : BitVec 16) (gm : Nat) : GptpSync :=
  { kind := .listed, port := 0, domain := 0, source := 1, seq := seq, followUp := true, origin := gm, correction := 0, rate := 0 }
def timed : State :=
  { bench with
    timed := [aTimed]
    gptp := { Gptp.idle with source := some 1, seq := some 7, run := 5, within := 5, measured := true, asked := true, step := some 1000 }
    objs := [(okey 0x9000 3 0, 3), (okey 0x9001 1 0, 1), (okey 0x9002 1 0, 5), (okey 0x9002 2 0, 1)] }
def acquiring : State :=
  { timed with
    gptp := { timed.gptp with run := 1, within := 0 }
    objs := [(okey 0x9000 3 0, 2), (okey 0x9001 1 0, 1), (okey 0x9002 1 0, 5), (okey 0x9002 2 0, 1)] }

/-- The Keepers in lockstep with their alive checks on, split with one response missing, in a split, in a rejoin before and after its
acknowledgement; and BENCH on its way to SAFE. -/
def pairs : State :=
  { bench with saf := { SafetyCtl.idle with keepersHeld := false, started := true, toggle := true, aliveA := true, aliveB := true } }
def apart : State :=
  { bench with
    objs := [(okey 0x2001 5 0, 2)]
    saf := { SafetyCtl.idle with keepersHeld := false, started := true, aliveB := true } }
def splitting : State :=
  { bench with saf := { SafetyCtl.idle with keepersHeld := false, splitAt := some 0, ackA := true, ackB := true } }
def rejoin : State := { bench with saf := { SafetyCtl.idle with keepersHeld := false, rejoinAt := some 0, ackB := true } }
def restart : State :=
  { bench with
    su := { Startup.idle with freshOk := true }
    saf := { SafetyCtl.idle with rejoinAt := some 0, rejoining := true } }
def falling : State := { pairs with pw := { pairs.pw with pendSafe := some (3, 5) } }

/-- DRIVE with a job of a pair; engines of BENCH in their test slots and in dike tests, one to be fenced. -/
def twinWork : State := { driving with sched := { Sched.idle with jobs := [work] } }
def aDike (cause step : Nat) : Dike :=
  { cause := cause, step := step, at_ := 0, ns := 0, queue := 0xFFFF, counted := false, final := false, inReset := false, lost := 0 }
def fenceNext : State := { bench with engines := [(0, { Engine.idle with skipped := true })] }
def slots : State :=
  { bench with
    objs := [(okey 0x5050 3 0, 4)]
    engines := [(0, { Engine.idle with withdrawn := true }), (2, { Engine.idle with withdrawn := true }),
      (4, { Engine.idle with withdrawn := true, dike := some (aDike 2 7) }),
      (6, { Engine.idle with withdrawn := true, testing := true }), (8, { Engine.idle with dike := some (aDike 4 7) })] }

/-- Dikes of BENCH at each step, with a sample in flight and a pending crossing; DRIVE with its watchdog; and a wait cycle. -/
def sequences : State :=
  { working with
    engines := [(0, { Engine.idle with dike := some (aDike 1 2) }), (2, { Engine.idle with tops := [(128, 0)], dike := some (aDike 1 4) }),
      (4, { Engine.idle with dike := some (aDike 2 5) }), (6, { Engine.idle with dike := some { aDike 6 5 with final := true } }),
      (8, { Engine.idle with dike := some (aDike 5 6) }), (10, { Engine.idle with dike := some { aDike 1 6 with inReset := true } })]
    ctxs := [(128, { Ctx.zero with pc := 4 })]
    mem := [(0xF000800000, 7)]
    smp := { Sampling.idle with inFlight := 5 }
    mons := [(0, { MonState.idle with pendingNote := true })]
    recov := { Recovery.idle with watchdog := some 9 }
    objs := [(okey 0x7000 1 0, 0x0A)]
    sched := { Sched.idle with jobs := [work], resets := [{ part := 0, engine := 10, left := [10, 14], aborted := 0 }] } }
def late : State := { driving with recov := { Recovery.idle with watchdog := some 9 }, objs := [(okey 0x5100 5 0, 1)] }
def stuck : State :=
  { working with
    recov := { Recovery.idle with lastScan := [([0, 1], [])] }
    ctxs := [(0, { Ctx.zero with barrier := some 1 }), (1, { Ctx.zero with barrier := some 2 })] }

/-- BENCH in a droop stretch, derated, with a disagreement to journal. -/
def swinging : State :=
  { bench with
    loops := { Loops.idle with stretch := true, stretches := [0, 1], pendJournal := true, journalAt := some 0, cool := 99, recentH := [4],
                               lowPower := some 0, outside := 1, calmSpill := 99, forcedSafe := true, marginSince := some 0 }
    objs := [(okey 0x4800 1 0, 1), (okey 0xB020 1 0, 4), (okey 0xB030 5 0, 1), (okey 0xB024 3 0, 9)] }

/-- BENCH with an attic write and a calibration set to commit; with a window open for a set of generation 1; with a waking unit and no
gating; and with the cellar mapped for the host. -/
def writing : State :=
  { bench with
    attic := { Attic.factory with
      areaA := [7], queue := [AtticWrite.mk 0x38 0x2040 2 0xFFFF [1] 3 false true]
      areaB := [1, 2], pendSet := some (AtticWrite.mk 0x38 0x8000 0 0xFFFF [1, 2] 3 false true) }
    objs := [(okey 0x8001 3 0, 0)]
    paths := [(0x38, PathState.fresh)] }
def calDesk : State :=
  { desk with
    attic := { Attic.factory with areaA := [7] }
    paths := [(0x38, { PathState.fresh with opened := some 0 })]
    objs := [(okey 0x8001 1 0, 0), (okey 0x8001 3 0, 0)] }
def ungated : State :=
  { bench with engines := [(0, { Engine.idle with waking := true })], objs := [(okey 0xB010 2 0, 0), (okey 0x4000 1 0, 2)] }
def mapped4 : State := { desk with su := { Startup.idle with cellarOn := true, pcieUp := true } }
def closed4 : State := { mapped4 with pw := { mapped4.pw with mode := .safe } }

/-- A manager with two workers and three jobs, and messages of worker 5; a worker with two guests, and messages of its manager. -/
def aFleetJob (id state worker : Nat) : FleetJob :=
  { id := id, offer := zeros 64, state := state, worker := worker, tried := [], initial := 0, taken := [], result := 0, offeredAt := 0 }
def aBeat : List Byte := [5, 0, 48, 48, 8, 0, 0, 0] ++ leBytes 4 100 ++ zeros 4
def fleetMsg (layer type status serial job seq : Nat) (body : List Byte) : List Byte :=
  fuindMsg layer 0xFE 0xFF (fleetHead type status serial job seq ++ body)
def chief : State :=
  { desk with
    pw := { desk.pw with mode := .depot }
    objs := [(okey 0x4801 1 0, 0xA00000000), (okey 0x4801 2 0, 0xA00000000), (okey 0x6100 2 0, 2), (okey 0x6100 7 0, 3),
      (okey 0x6100 0x0A 0, 2), (okey 0x2001 6 0, 2)]
    depot := { Depot.idle with
      role := 2
      workers := [(5, some { addr := 7, beat := aBeat, lost := false, heard := 0 })]
      jobs := [aFleetJob 1 2 5, aFleetJob 2 3 6, aFleetJob 3 1 0]
      outbox := [{ seq := 40, dst := 7, layer := 0x20, body := fleetMsg 0x20 0x20 0 5 1 40 [], answers := [0x21, 0x22] }] } }
def chiefAgain : State := { chief with depot := { chief.depot with acted := [(7, 1, [9])] } }
def joinMsg : List Byte := fleetMsg 0x20 0x10 0 5 0 1 aBeat
def beatMsg : List Byte := fleetMsg 0x20 0x12 0 5 0 1 aBeat
def leaveMsg : List Byte := fleetMsg 0x20 0x14 0 5 0 1 []
def reportMsg (type : Nat) : List Byte := fleetMsg 0x20 type 0 5 1 2 []
def longMsg (type : Nat) : List Byte := fleetMsg 0x20 type 0 5 1 2 (leBytes 32 77)
def hand : State :=
  { desk with
    pw := { desk.pw with mode := .depot }
    objs := [(okey 0x4801 1 0, 0xA00000000), (okey 0x4801 2 0, 0xA00000000), (okey 0x6021 2 1, 0x200000), (okey 0x6021 3 0, 1), (okey 0x6021 3 1, 1),
      (okey 0x6021 4 0, 2), (okey 0x6021 4 1, 2), (okey 0x6021 6 0, 4), (okey 0x6021 6 1, 5), (okey 0x6100 2 0, 1), (okey 0x6100 6 0, 9),
      (okey 0x6100 7 0, 3), (okey 0x6100 0x0A 0, 2), (okey 0x6100 0x0D 0, 1)]
    depot := { Depot.idle with
      role := 1
      joinTick := some 0
      guests := [(0, { Guest.none with fleet := true, offer := zeros 16 ++ leBytes 4 9 ++ zeros 44 }), (1, { Guest.none with fleet := true, closing := some 22 })]
      outbox := [{ seq := 21, dst := 9, layer := 0x20, body := fleetMsg 0x20 0x12 0 0 0 21 [], answers := [0x13] },
        { seq := 22, dst := 9, layer := 0x20, body := fleetMsg 0x20 0x26 0 0 5 22 (zeros 32), answers := [0x13] }] } }
def ackMsg (type job : Nat) : List Byte := fleetMsg 0x20 type 0 0 job 3 []
def toJob (type status job : Nat) : List Byte := fleetMsg 0x20 type status 0 job 4 []
def offerMsg : List Byte := fleetMsg 0x20 0x20 0 0 7 5 (zeros 64)
def lostHand : State := { hand with objs := hand.objs.filter fun e => e.1 != okey 0x6100 0x0D 0 }
def smallHand : State := { hand with objs := Amap.set 0 (Amap.set 0 hand.objs (okey 0x4801 1 0) 0x1000000) (okey 0x4801 2 0) 0x1000000 }
def goodOffer : List Byte := leBytes 8 1 ++ [1, 2, 1, 0] ++ leBytes 4 1 ++ zeros 48

/-- DEPOT in its entry wipe, as manager, worker and local; a guest that starts, is wiped, and is checkpointed; HANDOVER in quiesce. -/
def wiping : State :=
  { chief with objs := [(okey 0x4801 1 0, 0xA00000000), (okey 0x4801 2 0, 0xA00000000), (okey 0x6010 3 0, 1), (okey 0x6100 2 0, 2), (okey 0x6100 0x0A 0, 1)]
               mem := [(5, 1), (0xF000400000, 2)] }
def joining : State :=
  { chief with objs := [(okey 0x4801 1 0, 0xA00000000), (okey 0x4801 2 0, 0xA00000000), (okey 0x6100 2 0, 1), (okey 0x6100 6 0, 9), (okey 0x6100 0x0A 0, 1)]
               depot := { chief.depot with role := 1 } }
def opening : State :=
  { chief with objs := [(okey 0x4801 1 0, 0xA00000000), (okey 0x4801 2 0, 0xA00000000), (okey 0x6021 1 0, 1), (okey 0x6021 3 0, 1), (okey 0x6100 0x0A 0, 1)]
               depot := { chief.depot with role := 0 } }
def beginning : State := { hand with objs := Amap.set 0 hand.objs (okey 0x6021 4 0) 1 }
def ending : State := { hand with objs := Amap.set 0 hand.objs (okey 0x6021 4 0) 5 }
def quiet : State :=
  { hand with pw := { hand.pw with mode := .handover }, objs := Amap.set 0 hand.objs (okey 0x6100 0x0A 0) 3 }
def quietAlone : State := { quiet with objs := quiet.objs.filter fun e => e.1 != okey 0x6100 0x0D 0 }
def aCkpt : Ckpt := { purpose := .periodic, hashed := 0, asked := [], queried := [], lacking := [], manifest := [1], name := 7, offered := false, ns := 0 }
def hashing : State :=
  { hand with depot := { hand.depot with
      guests := [(0, { Guest.none with fleet := true, ckpt := some aCkpt, reoffer := true, offer := zeros 64 })] } }

/-- A manager's store with a chunk and manifests, and a worker with a checkpoint and a pull; their messages. -/
def chunkManifest (h : Nat) : List Byte := zeros 48 ++ [1, 1, 0, 0] ++ leBytes 4 1 ++ zeros 4 ++ leBytes 4 1 ++ zeros 64 ++ leBytes 32 h ++ leBytes 4 1 ++ zeros 8
def namedManifest : List Byte := chunkManifest 77
def keeper : State :=
  { chief with depot := { chief.depot with chunks := [(77, [1, 2])], manifests := [(77, namedManifest), (79, smallManifest)] } }
def aPull : Pull := { hash := 56, len := 2048, manifest := true, src := 9, worker := 0, job := 5, segs := [], again := false, guest := some 0, at_ := 0 }
def lateCkpt : Ckpt :=
  { purpose := .periodic, hashed := 0, asked := [(3, [11])], queried := [11], lacking := [], manifest := [1], name := 66, offered := true, ns := 0 }
def puller : State :=
  { hand with
    objs := Amap.set 0 hand.objs (okey 0x6021 6 0) 5
    depot := { hand.depot with pulls := [aPull], guests := [(0, { Guest.none with fleet := true, ckpt := some lateCkpt, offer := zeros 64 })] } }
def storeBody (op status seq : Nat) (b : List Byte) : List Byte := fleetHead op status 5 5 seq ++ b
def haveBody : List Byte := storeBody 1 0 8 ([2, 0, 0, 0] ++ leBytes 32 77 ++ leBytes 32 78)
def replyBody : List Byte := storeBody 2 0 8 ([1, 0, 0, 0] ++ zeros 16)
def pullBody (h : Nat) : List Byte := storeBody 3 0 9 (leBytes 32 h ++ zeros 4 ++ [0, 0, 0, 0] ++ leBytes 512 1)
def segmentBody (h : Nat) : List Byte := storeBody 4 0 9 (leBytes 32 h ++ [0, 0, 1, 0] ++ zeros 4 ++ [1])
def notHeldBody (h : Nat) : List Byte := storeBody 5 0 9 (leBytes 32 h)
def manifestBody (h n : Nat) : List Byte := storeBody 6 0 9 (leBytes 32 h ++ leBytes 4 n)
def resultBody (status : Nat) : List Byte := storeBody 7 status 9 (leBytes 32 66 ++ leBytes 4 0)
def failBody (h : Nat) : List Byte := storeBody 8 0x23 9 (leBytes 32 h ++ leBytes 4 0)

/-- A chunk of one byte on its way to the manager's store, and to a guest's window. -/
def oneHash : Nat := 0x9A4585773CE2CCD7A585C331D60A60D1E3B7D28CBB2EDE3BC55445342F12F54B
def oneManifest : List Byte := chunkManifest oneHash
def onePull : Pull := { hash := oneHash, len := 1, manifest := false, src := 7, worker := 5, job := 5, segs := [], again := false, guest := none, at_ := 0 }
def fetching : State := { chief with depot := { chief.depot with pulls := [onePull] } }
def restoring : State :=
  { puller with depot := { puller.depot with
      pulls := [{ onePull with src := 9, guest := some 0 }]
      guests := [(0, { Guest.none with fleet := true, restore := some { manifest := oneManifest, wanted := [oneHash] }, offer := zeros 64 })] } }

/-- A chain of two: ports in training, failing, and up; flits. -/
def aTx : TxFlit := { vc := 0, data := [1], first := true, last := true, fwd := false }
def upPort : FlPort := { FlPort.idle with phase := .active, open_ := true, admitted := true, neighbour := 1, credits := [5, 5, 5, 5], replay := [(7, aTx), (8, aTx)] }
def linked : State :=
  { bench with
    objs := [(okey 0xA000 1 0, 2), (okey 0xA000 2 0, 1)]
    casc := { Cascade.idle with fl0 := upPort, fl1 := { FlPort.idle with phase := .active, open_ := true, admitted := true, neighbour := 1 } } }
def training : State :=
  { linked with casc := { Cascade.idle with fl0 := { FlPort.idle with phase := .training, step := 4 }, fl1 := { FlPort.idle with phase := .training, step := 5 } } }
def failing : State :=
  { linked with casc := { Cascade.idle with
      fl0 := { FlPort.idle with phase := .training, step := 5, fails := 2, replay := [(7, aTx)] }
      fl1 := { upPort with wiring := true, resends := 7 } } }
def aFlit (kind len seq ack credit : Nat) (payload : List Byte) : List Byte :=
  let b := leBytes 1 kind ++ leBytes 1 len ++ leBytes 2 seq ++ leBytes 2 ack ++ leBytes 1 credit ++ [0] ++ padTo 64 payload
  b ++ leBytes 4 (crc32 b)

/-- A master whose path 0x30 is busy, a member that can take an image, and messages of the link. -/
def aCmp (strm strip : Nat) : CmpStrip := { stream := strm, strip := strip, code := 0, index := 0, corrected := 0, digest := 0, tick := 0 }
def cascMaster : State :=
  { linked with
    su := { Startup.idle with pcieUp := true }
    objs := [(okey 0x3110 1 0, 4), (okey 0x3110 4 0, 4096), (okey 0x3110 5 0, 8), (okey 0xA000 1 0, 2), (okey 0xA000 2 0, 1)]
    paths := [(0x30, { PathState.fresh with busy := some [] })]
    casc := { linked.casc with
      master := true, heard := [(1, 5)], own := [aCmp 0 3, { aCmp 2 4 with code := 1 }], theirs := [aCmp 1 0], relays := [(1, 5, 7, 8)] } }
def member : State :=
  { linked with
    su := { Startup.idle with boot := { Startup.idle.boot with source := 2 }, cellarOn := true }
    objs := [(okey 0x2000 5 0, 1), (okey 0xA000 1 0, 2)] }
def linkMsgFrom (type src dst : Nat) (body : List Byte) : List Byte := fuindMsg type src dst body
def linkMsgTo (type dst : Nat) (body : List Byte) : List Byte := fuindMsg type 1 dst body
def helloMsg (id port : Nat) : List Byte := linkMsgTo 1 0xFF ([BitVec.ofNat 8 id, BitVec.ofNat 8 (1 - port), 2, 1] ++ zeros 20)
def aRecord : List Byte := zeros 8 ++ leBytes 8 9 ++ zeros 240
def dictBody (op idx sub n : Nat) (v : List Byte) : List Byte :=
  leBytes 1 op ++ [0] ++ leBytes 2 5 ++ leBytes 2 idx ++ leBytes 1 sub ++ leBytes 1 n ++ zeros 8 ++ padTo 8 v
def readBody : List Byte := dictBody 1 0x1017 0 0 []
def pcieDown : State := { cascMaster with su := Startup.idle }

/-- A debug session in BENCH with Keeper A and engine pair 2 halted, ADDI x1, x0, 1 at Keeper A's PC; in DRIVE; in SAFE; a busy one. -/
def debugged : State :=
  { bench with
    mem := memPut [] keeperBase (leBytes 4 (firstWord (.addi (.keeper 0) 1 0 1)))
    poison := [keeperBase + 8]
    ctxs := [(3072, { Ctx.zero with pc := BitVec.ofNat 64 keeperBase })]
    objs := [(okey 0x5050 2 0, 3), (okey 0x5050 3 0, 0x30)]
    paths := [(0x38, { PathState.fresh with opened := some 0 })] }
def driveDebug : State := { debugged with pw := { debugged.pw with mode := .drive }, objs := [] }
def safeDebug : State := { driveDebug with pw := { debugged.pw with mode := .safe } }
def busyDebug : State := { debugged with paths := [(0x38, { PathState.fresh with busy := some [] })] }
def waitDebug : State := { debugged with ctxs := [(3072, { Ctx.zero with waiting := true })] }

/-! ## Witnesses: states and operands that meet the hypotheses of each statement -/

theorem wit_stepRunsFrontCommand :
    ({ State.reset with pending := [.aliveCheck] } : State).pending = .aliveCheck :: [] ∧ State.reset.pending = [] := ⟨rfl, rfl⟩

theorem wit_microsecondMovesClocks :
    State.reset.pw.mode = .off ∧ State.reset.pw.booting = false ∧ bench.pw.mode ≠ .off ∧ bench.pending = [] ∧ bench.held = [] ∧
    bench.pw.teardown = none ∧ bench.gptp.writes = [] ∧ bench.clk.tbRun = true ∧ bench.obj 0x9000 4 = 0 ∧
    bench.clk.rtcFrac < 61000000 ∧ bench.clk.rtc + 1 < 2 ^ 64 := by decide

theorem wit_memoryCanonicalAtReset : Memory.wf State.reset.mem = true := rfl

theorem wit_everyStepKeepsMemoryCanonical :
    Memory.wf State.reset.mem = true ∧ Machine.step State.reset = .next State.reset := ⟨rfl, rfl⟩

theorem wit_memoryReadsBackWhatWasStored : (0 : Nat) ≤ 0 ∧ 0 + 8 ≤ 0 + (leBytes 8 5).length := by decide

theorem wit_threadWordsRoundTrip :
    threadHart (.addi (.keeper 0) 0 0 0) = some (.keeper 0) ∧ threadForm (.addi (.keeper 0) 0 0 0) = true ∧
    encodeThread (.addi (.keeper 0) 0 0 0) = some (0x10000000, none) := by decide

theorem wit_illegalWordsDecodeToNothing : (0 : Nat) < 2 ^ 32 ∧ decodeThread (.keeper 0) 0 0 = none := by decide

theorem wit_scalarArithmeticWritesRd : bench.runs (.keeper 0) = true := by decide +kernel

theorem wit_scalarShiftsDivisionsAndCounts : bench.runs (.keeper 0) = true ∧ (bench.ctx (.keeper 0)).get 1 = 0 := by decide +kernel

theorem wit_scalarImmediatesWriteRd : bench.runs (.keeper 0) = true := by decide +kernel

theorem wit_branchesAndJumpsMoveThePc :
    bench.runs (.keeper 0) = true ∧ ((bench.ctx (.keeper 0)).get 1).toNat % 4 = 0 := by decide +kernel

theorem wit_loadsAndStoresMoveBytes :
    bench.runs (.keeper 0) = true ∧ ((bench.ctx (.keeper 0)).get 1 + (8 : BitVec 14).signExtend 64).toNat % 8 = 0 ∧
    Reaches bench (.keeper 0) .read 8 (.cells 8 none) ∧ Reaches bench (.keeper 0) .write 8 (.cells 8 none) ∧
    bench.poisoned 8 8 = false ∧ Fresh (.keeper 0) 8 8 bench ∧ stale.runs (.keeper 0) = true ∧ stale.l1Holds 0xF100000000 = true ∧
    Reaches stale (.keeper 0) .read 0xF100000000 (.cells 0xF100000000 none) ∧
    (Amap.get [] stale.l1 (stale.l1Key 0)).find? (fun e => e.1 = 0xF100000000 / 64 * 64) = some (0xF100000000 / 64 * 64, [5]) := by
  refine ⟨?_, ?_, ?_, ?_, ?_, ?_, ?_, ?_, ?_, ?_⟩ <;> first | decide +kernel | rfl | exact fun _ _ l hl => by cases hl

theorem wit_atomicsReadThenWriteOneWord :
    bench.runs (.keeper 0) = true ∧ ((bench.ctx (.keeper 0)).get 1).toNat % 8 = 0 ∧
    ((bench.ctx (.keeper 0)).get 1).toNat < keeperBase ∧ bench.poisoned 0 8 = false ∧ Reaches bench (.keeper 0) .write 0 (.cells 0 none) ∧
    bench.memNat 0 8 = ((bench.ctx (.keeper 0)).get 2).toNat % 2 ^ 64 ∧
    bench.memNat 0 4 ≠ (({ bench with ctxs := [(3072, { Ctx.zero with x := Ctx.zero.x.set 2 5 })] }.ctx (.keeper 0)).get 2).toNat % 2 ^ 32 := by
  refine ⟨?_, ?_, ?_, ?_, ?_, ?_, ?_⟩ <;> first | decide +kernel | rfl

theorem wit_fencesAndAcquireLoads :
    bench.runs (.keeper 0) = true ∧ Reaches bench (.keeper 0) .read 0 (.cells 0 none) ∧
    working.runs (.ctx 0) = true ∧ (working.ctx (.ctx 0)).ops = [] := by
  refine ⟨?_, ?_, ?_, ?_⟩ <;> first | decide +kernel | rfl

theorem wit_barrierReleasesOnTheLastArrival :
    working.runs (.ctx 0) = true ∧ (working.ctx (.ctx 0)).ops = [] ∧ (working.engine 0).barrier 0 = none ∧
    (met.engine 0).barrier 3 = some { id := 3, count := 2, arrived := [1] } ∧ met.runs (.ctx 0) = true ∧
    (met.ctx (.ctx 1)).barrier = some 3 := by
  refine ⟨?_, ?_, ?_, ?_, ?_, ?_⟩ <;> decide +kernel

theorem wit_vectorIntegersWriteEnabledLanes : working.runs (.ctx 0) = true := by decide +kernel

theorem wit_vectorFloatsWriteEnabledLanes : working.runs (.ctx 0) = true ∧ f32IsNan 0x7F800001 = true := by decide +kernel

theorem wit_vectorComparesWriteEnabledPredicateBits : working.runs (.ctx 0) = true := by decide +kernel

theorem wit_vectorMemoryMovesEnabledLanes :
    working.runs (.ctx 0) = true ∧ (∀ k : Fin 64, ((working.ctx (.ctx 0)).get 1 + BitVec.ofNat 64 k.val * 4).toNat = 4 * k.val) ∧
    Reaches working (.ctx 0) .read (4 * 63) (.cells (4 * 63) none) ∧ Reaches working (.ctx 0) .write 4 (.cells 4 none) := by
  unfold Reaches
  decide +kernel

theorem wit_vectorReductionsWriteRd :
    working.runs (.ctx 0) = true ∧ (working.ctx (.ctx 0)).enabled (some 0) 5 = false ∧
    (working.ctx (.ctx 0)).enabled none 0 = true ∧
    (∀ k : Fin 64, ((working.ctx (.ctx 0)).lane 0 k).toInt ≤ ((working.ctx (.ctx 0)).lane 0 0).toInt) ∧
    (∀ k : Fin 64, ((working.ctx (.ctx 0)).lane 0 0).toInt ≤ ((working.ctx (.ctx 0)).lane 0 k).toInt) := by
  refine ⟨?_, ?_, ?_, ?_, ?_⟩ <;> decide +kernel

theorem wit_vectorPermutesMoveLanes : working.runs (.ctx 0) = true := by decide +kernel

theorem wit_exceptionsSaveTheRecord :
    bench.runs (.keeper 0) = true ∧ (bench.ctx (.keeper 0)).flags.getLsbD 8 = false ∧
    bench.objBit 0x5050 4 1 = false ∧ ((odd.ctx (.keeper 0)).get 1).toNat % 4 ≠ 0 ∧ odd.runs (.keeper 0) = true ∧
    odd.poisoned 8 8 = true ∧ Reaches odd (.keeper 0) .read 8 (.cells 8 none) ∧
    working.runs (.ctx 0) = true ∧ (∀ o ∈ (working.ctx (.ctx 0)).ops, o.fault = none) ∧
    bench.fetchKind (.keeper 0) ((bench.ctx (.keeper 0)).pc + 0).toNat = 2 ∧
    odd.fetchKind (.ctx 0) ((odd.ctx (.ctx 0)).pc + 0).toNat = 2 ∧ decodeThread (.keeper 0) 0 0 = none := by
  unfold Reaches
  decide +kernel

theorem wit_doubleExceptionIsClassS :
    double.runs (.keeper 0) = true ∧ (double.ctx (.keeper 0)).flags.getLsbD 8 = true ∧ double.pw.mode = .bench ∧
    double.pw.teardown = none ∧ double.pw.pendSafe = none ∧ double.objBit 0x5050 4 1 = false := by
  decide +kernel

theorem wit_threadStateWordsReadAndWrite :
    bench.runs (.keeper 0) = true ∧ working.runs (.ctx 0) = true ∧ Single (.keeper 0) bench := by
  refine ⟨?_, ?_, ?_⟩
  · decide +kernel
  · decide +kernel
  · show (bench.ctx (.keeper 0)).flags.getLsbD 8 = false
    decide +kernel

theorem wit_keepersWaitReturnAndHalt :
    bench.runs (.keeper 0) = true ∧ bench.handoverPending 0 = false ∧ asked.runs (.keeper 0) = true ∧
    asked.handoverPending 0 = true ∧ double.runs (.keeper 0) = true ∧ (double.ctx (.keeper 0)).flags.getLsbD 8 = true ∧
    (bench.ctx (.keeper 0)).flags.getLsbD 8 = false ∧ caught.runs (.keeper 0) = true ∧ caught.objBit 0x5050 4 1 = true ∧
    caught.runs (.ctx 0) = true ∧ caught.objBit 0x5050 4 0 = true ∧ (asked.ctx (.keeper 2)).waiting = true ∧
    asked.handoverPending 1 = true ∧ asked.coreHalted 2 = false := by
  decide +kernel

theorem wit_tensorOperationsTakeAToken :
    tensor.runs (.ctx 0) = true ∧ tensor.ownDesc 0 ((tensor.ctx (.ctx 0)).get 1).toNat = some 0xF000000000 ∧
    tensor.poisoned 0xF000000000 64 = false ∧ (tensor.ctx (.ctx 0)).freeToken = some 1 ∧
    moveValid (tensor.memBytes 0xF000000000 64) = true ∧
    ((tensor.ctxAt 0).ops.find? fun o => o.token = 0).any (tensor.mayFinish 0) = true := by
  decide +kernel

theorem wit_queueInstructionsSubmitCancelAndEnd :
    open_.runs (.ctx 0) = true ∧ open_.mayQueue 0 0 = true ∧
    (((open_.issued (.ctx 0) .queue).wakeReach (.hart (.ctx 0)) 0 64).fetchBy (.hart (.ctx 0)) 0 64).getRight?.any
      (fun d => d.length = 64) = true ∧
    ((open_.issued (.ctx 0) .queue).wakeReach (.hart (.ctx 0)) 0 64).submitCode 0 goodDesc false = 0 ∧ open_.submitCode 0 [] false ≠ 0 ∧
    (open_.queueJobs 0).all (fun j => j.phase = .running) = true ∧
    (waits.queueJobs 0).find? (fun j => j.phase != .ended && j.tag = 0) = some { work with phase := .pending, desc := [] } ∧
    (working.jobOf 0) = some work ∧ (working.ctxAt 1).ended = none := by
  decide +kernel

theorem wit_doorbellsAndCompletionRecords :
    host.pw.mode.awake = true ∧ (host.path 0x10).live = true ∧ host.queuePart 0 = 0 ∧ goodDesc.length = 64 ∧
    host.endDoze.submitCode 0 goodDesc false = 0 ∧ host.endDoze.submitCode 0 (zeros 64) false ≠ 0 ∧
    (host.queueJobs 0).all (fun j => j.phase = .ended && host.jobQuiet j) = true ∧ host.obj 0x6000 7 0 ≠ 0 ∧
    host.obj 0x6000 7 1 = 0 ∧ (host.path 0x11).live = false ∧ open_.runs (.ctx 0) = true ∧ open_.queuePart 0 = open_.enginePart 0 ∧
    host.place (.part 0) .write (0x1000 + 32 * 1) = .inr (.cells 0x1020 none) := by
  decide +kernel

theorem wit_dispatchStartsContexts :
    waits.pw.mode = .bench ∧ waits.starts.any (fun p => p.2 = 0) = true ∧ waits.obj 0x4000 1 0 = 0 ∧
    (moving.engine 3).moving.isSome = true ∧ moving.resetReady 0 = true := by
  decide +kernel

theorem wit_unitsTakeRequestsAndComplete :
    bench.runs (.keeper 0) = true ∧ bench.outstanding 1 3072 < 4 ∧ bench.outstanding 2 3072 < 4 ∧
    busyUnit.runs (.keeper 0) = true ∧ 4 ≤ busyUnit.outstanding 1 3072 ∧ bench.whoPart (.hart (.keeper 0)) = 0 ∧
    (bench.memWrite (slotAddr 5) (leBytes 8 0)).slotOk (slotAddr 5) = true ∧
    (bench.memWrite (slotAddr 5) (leBytes 8 (2 ^ 48))).slotOk (slotAddr 5) = false ∧
    (nextReq busyUnit.recReqs).any (fun r => r.1.run.isSome) = true ∧
    (nextReq busyUnit.smpReqs).any (fun r => r.1.run.isSome) = true ∧ 4 ≤ busyUnit.outstanding 2 3072 := by
  decide +kernel

theorem wit_powerOnAndOff :
    State.reset.pw.porst = true ∧ State.reset.pw.vaonOk = true ∧ lowVaon.pw.vaonOk = false ∧ lowVaon.pw.porst = false ∧
    booting.pw.booting = true ∧ bench.pw.mode ≠ .off := by
  decide +kernel

theorem wit_wakeSourcesLeavePark :
    parked.pw.mode = .parked ∧ parked.pw.resetHeld = false ∧ parked.pw.deferred = none ∧ parked.objI 16 0xB003 1 ≤ 1200 ∧
    parked.objBit 0xB001 1 0 = true ∧ parked.objBit 0xB001 1 1 = true ∧ parked.objBit 0xB001 1 2 = true ∧
    parked.objBit 0xB001 1 3 = true ∧ parked.objB 0x6100 1 = true ∧ parked.obj 0xB001 7 ≠ 0 ∧ parked.port0Parked = true ∧
    parked.wakeMatch { id := 0, ide := false, brs := false, xl := false, error := false, dlc := 0, data := [] } = true ∧
    cooled.pw.deferred = some 2 ∧ cooled.pw.mode = .parked ∧ cooled.pw.resetHeld = false ∧
    cooled.objI 16 0xB003 1 ≤ 1200 ∧ driving.pw.mode = .drive ∧ driving.pw.teardown = none ∧ driving.pw.ign = true := by
  decide +kernel

theorem wit_resetsAndTeardownReachPark :
    bench.pw.mode ≠ .off ∧ bench.pw.resetHeld = false ∧ bench.pw.safeLatch = false ∧ held.pw.resetHeld = true ∧
    held.pw.resetLong = false ∧ held.pw.resetStuck = false ∧ hold.pw.mode = .waking ∧ hold.pw.readyHold.isSome = true ∧
    hold.mayMove = true ∧ away.pw.mode = .drive ∧ away.pw.driveOff.isSome = true ∧ away.mayMove = true ∧
    away.depotReady = false ∧ tearing.pw.teardown.isSome = true ∧ tearing.attic.queue = [] ∧ tearing.attic.pendSet = none ∧
    tearing.pw.pendSafe = none ∧ tearing.obj 0xB001 2 &&& tearing.obj 0xB001 1 = 0 ∧ tearing.pending = [] ∧ tearing.held = [] ∧
    tearing.pw.mode ≠ .off ∧ ringBefore 0 [] = [] ∧ bench.depot.keys = 0 := by
  decide +kernel

theorem wit_startUpStepsRunInOrder :
    waking.pw.mode = .waking ∧ waking.su.coreOn = false ∧ powered.su.coreOn = true ∧ powered.su.pllOn = false ∧
    powered.obj 0x8001 2 = 0xFF ∧ starting.startupRuns = true ∧ starting.su.keepersTested = false ∧ starting.pw.teardown = none ∧
    starting.su.cellarOn = false ∧ starting.su.trainFails = 0 ∧ starting.su.enginesTested = false ∧ starting.su.pcieUp = false ∧
    starting.pw.mode.awake = true ∧ starting.su.pllOn = true ∧ trained.startupRuns = true ∧ trained.su.cellarOn = true ∧
    trained.su.zeroed = false ∧ trained.pw.safeLatch = false ∧ starting.obj 0x8001 2 ≠ 0xFF ∧ starting.pw.pendSafe = none ∧
    starting.sched.jobs = [] ∧
    ({ leaving with su := { leaving.su with enginesTested := false } } : State).su.enginesTested = false ∧ leaving.sched.jobs = [] ∧
    ({ starting with su := { starting.su with trainFails := 1 } } : State).startupRuns = true := by
  decide +kernel

theorem wit_imagePasses : checked.imageCode 416 = 0 := by decide +kernel

theorem resident_of_code (s : State) (h : s.imageCode s.su.imageLen = 0) (hm : s.su.image = s.mem) (hl : 288 ≤ s.su.imageLen) : s.residentOk = true := by
  have hd : s.staged s.su.imageLen = s.delivered s.su.imageLen := by
    show s.staged s.su.imageLen = ({ s with mem := s.su.image } : State).staged s.su.imageLen
    rw [hm]
  unfold State.imageCode at h
  by_cases h1 : headerOk (s.delivered 128) = true <;> simp only [h1] at h
  · by_cases h2 : lengthFits (s.delivered 128) s.su.imageLen = true <;> simp only [h2] at h
    · by_cases h3 : (field (s.delivered s.su.imageLen) 20 1 != 66 || field (s.delivered s.su.imageLen) 21 1 != 49) = true <;>
        simp only [h3] at h
      · simp at h
      · by_cases h4 : s.su.boot.keyOk (s.delivered s.su.imageLen) = true <;> simp only [h4] at h
        · by_cases h5 : signatureOk (s.delivered s.su.imageLen) = true <;> simp only [h5] at h
          · simp [State.residentOk, hl, h4, h5, hd]
          · simp at h
        · simp at h
    · simp at h
  · simp at h

theorem wit_imageResident : checked.residentOk = true := resident_of_code checked wit_imagePasses rfl (by decide +kernel)

theorem wit_imagesAreCheckedAndPlaced :
    checked.su.checking = some 416 ∧ checked.su.freshRun = true ∧ checked.su.benchRestricted = false ∧
    checked.su.window = some 5 ∧ checked.pw.pendSafe = none ∧ checked.obj 0x2050 5 + 1 < checked.su.boot.attempts ∧
    checked.su.boot.attempts < 256 ∧ checked.su.placing = true ∧ checked.pw.mode = .bench ∧
    (checked.configure (checked.delivered checked.su.imageLen)).isSome = true ∧ bench.imageCode 0 ≠ 0 ∧ bench.residentOk = false ∧
    started.startupRuns = true ∧ started.pw.safeLatch = false ∧ started.su.complete = false ∧ started.selfTested = true ∧
    started.su.zeroed = true ∧ started.su.placing = false ∧ started.su.loaded = true ∧ started.mayMove = true ∧
    started.pw.benchWake = false ∧ started.pw.ign = false ∧ started.depotReady = false ∧ started.su.boot.bench = false ∧
    leaving.pw.mode = .handover ∧ leaving.obj 0x6100 0x0A = 5 ∧ leaving.su.toDrive = true ∧ leaving.su.enginesTested = true ∧
    leaving.su.freshOk = true ∧ leaving.su.loaded = true ∧ leaving.su.placing = false ∧ leaving.saf.rejoinAt = none ∧
    leaving.saf.keepersHeld = false ∧ leaving.mayMove = true ∧
    (leaving.configure (leaving.staged leaving.su.imageLen)).isSome = true := by
  decide +kernel

theorem wit_objectWritesAreJudgedInOrder :
    desk.pw.mode = .bench ∧ desk.live 0x38 = true ∧ desk.holds 0x38 = false ∧ desk.su.benchRestricted = false ∧
    desk.haltedB = false ∧ (desk.path 0x38).armed = none ∧ desk.live 0x10 = true ∧ (desk.path 0x10).armed = none ∧
    desk.judge 0x30 0x5110 2 0xFFFF [3] false false = 0 ∧ (rowOf 0x5110 2).cls = .attic ∧
    desk.judge 0x38 0x1017 0 0xFFFF [1, 0] false false = 0 ∧ (rowOf 0x1017 0).cls = .retained ∧ (rowOf 0x1017 0).acc = .rw ∧
    indexExists 0x1234 = false ∧ (objRow? 0x1017 9).isNone = true ∧ (rowOf 0x1000 0).acc = .const ∧
    (rowOf 0x2040 7).ty.isDomain = true ∧ (rowOf 0x2040 1).sObj = true ∧ existsCode 0x1017 0 = 0 := by
  decide +kernel

theorem wit_readsAnswerAndClear :
    desk.pw.mode = .bench ∧ desk.live 0x38 = true ∧ desk.holds 0x38 = false ∧ (desk.path 0x38).armed = none ∧
    desk.haltedB = false ∧ desk.su.benchRestricted = false ∧ desk.peek 0x38 0x1017 0 0xFFFF false = .inr [100, 0] ∧
    desk.peek 0x38 0x2021 3 0xFFFF false = .inr [0, 0, 0, 0] ∧ (rowOf 0x2021 3).acc = .rc ∧
    desk.peek 0x38 0xB001 2 0xFFFF false = .inr [7] ∧ (rowOf 0xB001 2).acc = .rc ∧
    desk.journal.entries.length = 1 ∧ desk.smp.records.length = 1 := by
  decide +kernel

theorem wit_unlockNeedsBothKeysInTime :
    desk.live 0x38 = true ∧ desk.holds 0x38 = false ∧ desk.serveCode 0x38 0x2010 = 0 ∧ desk.pw.mode = .bench ∧
    (desk.path 0x38).armed = none ∧ armedDesk.live 1 = true ∧ armedDesk.serveCode 1 0x2010 = 0 ∧
    (armedDesk.path 1).armed = some 0 ∧ armedDesk.now ≤ 64 ∧ (armedDesk.path 1).staged.isSome = true ∧
    driving.pw.mode = .drive ∧ goodRecord.length = 24 ∧ field goodRecord 0 2 = 0x5A1D ∧ field goodRecord 2 2 = 0xE2C7 ∧
    field goodRecord 10 6 = 0 ∧ desk.judge 0x38 (field goodRecord 4 2) (field goodRecord 6 1) 0xFFFF
      (slice goodRecord 16 (field goodRecord 7 1)) false true = 0 ∧ field goodRecord 8 2 = 0xFFFF ∧
    (rowOf (field goodRecord 4 2) (field goodRecord 6 1)).cls = .attic ∧
    ({ driving with paths := [(0x38, PathState.fresh)] } : State).live 0x38 = true := by
  decide +kernel

theorem wit_mailboxMovesSegments :
    desk.live 0x38 = true ∧ desk.holds 0x38 = false ∧ desk.serveCode 0x38 0x2020 = 0 ∧ (desk.path 0x38).armed = none ∧
    (desk.path 0x38).busyMailbox = false ∧ (desk.path 0x38).mailbox = none ∧
    desk.peek 0x38 0 0 0xFFFF true = .inl 0x06020000 ∧ desk.downloadCode 0x38 0 0 0 ≠ 0 ∧
    (desk.path 0x30).mbTarget = 0x101700 ∧ desk.peek 0x30 0x1017 0 0xFFFF true = .inr [100, 0] ∧
    (rowOf 0x1017 0).acc ≠ .rc ∧ desk.downloadCode 0x30 0x1017 0 (desk.path 0x30).mbTotal = 0 ∧ desk.live 0x30 = true ∧
    up.live 0x10 = true ∧ up.serveCode 0x10 0x2020 = 0 ∧ (up.path 0x10).busyMailbox = true ∧
    (up.path 0x10).mailbox = some { sending with data := zeros 300 } ∧ (up.path 0x38).mailbox = some { sending with offset := 256 } ∧
    (down.path 0x10).mailbox = some receiving ∧ (down.path 0x38).mailbox = some { receiving with data := [1, 0] } ∧
    down.serveCode 0x38 0x2020 = 0 ∧
    (((down.mbTouch 0x38).modPath 0x38 fun y => { y with mailbox := none }).commitXfer 0x38
      { receiving with data := [1, 0] } false).1 = 0 ∧ (rowOf 0x1017 0).cls = .retained ∧
    up.xferCode 0x10 { sending with data := zeros 300 } = 0 ∧ down.xferCode 0x10 receiving = 0 ∧
    up.xferCode 0x10 { sending with idx := 0x6120, sub := 6 } ≠ 0 := by
  decide +kernel

theorem wit_stateRequestsMoveTheBlock :
    desk.live 0x38 = true ∧ desk.holds 0x38 = false ∧ desk.serveCode 0x38 0xB000 = 0 ∧ (desk.path 0x38).armed = none ∧
    desk.transitionBusy = false ∧ desk.requestStatus 0x38 2 false ≠ 1 ∧ desk.requestStatus 0x38 4 false ≠ 1 ∧
    desk.requestStatus 0x38 3 false ≠ 1 ∧ driving.requestStatus 0x38 1 false ≠ 1 ∧
    knocked.pw.mode = .parked ∧ knocked.transitionBusy = false ∧ knocked.live 1 = true ∧ knocked.serveCode 1 0xB000 = 0 ∧
    knocked.windowOpen 1 = true ∧ knocked.pw.deferred = none ∧ knocked.pw.resetHeld = false ∧ knocked.objI 16 0xB003 1 ≤ 1250 ∧
    knocked.objBit 0xB001 1 4 = true ∧ knocked.holds 1 = false ∧
    locked.pw.mode = .safe ∧ locked.transitionBusy = false ∧ locked.windowOpen 1 = true ∧ locked.serveCode 1 0xB000 = 0 ∧
    locked.live 1 = true ∧ ready.pw.mode = .bench ∧ ready.pw.ign = true ∧ ready.obj 0x2001 5 ≠ 2 ∧ ready.obj 0x5010 2 ≠ 1 ∧
    ready.obj 0x5020 1 ≠ 0 ∧ ready.su.loaded = true ∧ ready.obj 0x5050 2 = 0 ∧ ready.obj 0x5050 3 = 0 ∧
    ready.live 0x38 = true ∧ ready.transitionBusy = false := by
  decide +kernel

theorem wit_controlWritesActOnTheirUnits :
    desk.live 0x38 = true ∧ desk.holds 0x38 = false ∧ desk.haltedB = false ∧ (desk.path 0x38).armed = none ∧
    desk.su.benchRestricted = false ∧ desk.lengthOk = true ∧ ({ desk with pw := { desk.pw with mode := .drive } } : State).lengthOk = false ∧
    desk.objB 0x3000 1 0 = false ∧ desk.enableOk 0 = false ∧ camera0.obj 0x3000 1 0 = 0 ∧ camera0.enableOk 0 = true ∧
    camera.obj 0x3000 1 0 = 1 ∧ (camera.sluice? 0).isSome = true ∧ camera.live 0x38 = true ∧ (camera.path 0x38).armed = none ∧
    (camera.path 0x38).selStream = 0 ∧ desk.obj 0x6000 1 0 = 0 ∧ desk.complRingOk 0 = true ∧ 64 ≤ 16384 ∧ desk.obj 0x6000 6 0 = 64 ∧
    desk.obj 0x6000 2 0 = 0 ∧ desk.inUse 3 = [] ∧ desk.saf.splitAt = none ∧
    desk.saf.rejoinAt = none ∧ desk.keepersSplit = false ∧
    ({ desk with objs := [(okey 0x6000 2 0, 1)] } : State).obj 0x6000 3 0 < 2 := by
  decide +kernel

theorem wit_descFree : desk.descFree = 16384 := State.descFree_all desk (by decide +kernel)

theorem wit_clearsGuestsStoresAndPathResets :
    desk.live 0x38 = true ∧ (desk.path 0x38).selMonitor < 24 ∧ desk.obj 0x2001 6 = 0 ∧ desk.live 0x20 = true ∧
    desk.live 0x10 = true ∧ tenant.pw.mode = .depot ∧ tenant.mayMove = true ∧ tenant.live 0x38 = true ∧
    tenant.obj 0x2001 6 = 0 ∧ tenant.obj 0x6100 0x0A = 2 ∧ tenant.guestState 0 = 0 ∧
    tenant.windowFits 0 (tenant.obj 0x6021 2 0) (tenant.obj 0x6021 3 0) = true ∧ lodger.guestState 0 = 2 ∧
    lodger.pw.mode = .depot ∧ lodger.obj 0x6100 0x0A = 2 ∧ desk.outOfService 0 = false ∧ busyDesk.obj 0x4000 1 0 ≠ 3 ∧
    (busyDesk.engine (busyDesk.lead 0)).dike = none ∧ busyDesk.jobsOn (busyDesk.lead 0) ≠ [] ∧
    busyDesk.outOfService (busyDesk.lead 0) = false ∧ busyDesk.live 0x38 = true ∧ manager.pw.mode = .depot ∧
    manager.obj 0x2001 6 = 2 ∧ manager.live 0x38 = true ∧ manager.depot.jobs.length < 4096 ∧ (zeros 64).length = 64 ∧
    manager.storeFits (2 ^ 21) = true ∧ manifestOk [] = false := by
  decide +kernel

theorem wit_aChunk : ∃ d : List Byte, d.length = 2 ^ 21 := ⟨List.replicate (2 ^ 21) 0, List.length_replicate ..⟩

theorem wit_aManifest : manifestOk smallManifest = true ∧
    ((dataHashes smallManifest).all fun h => (manager.storedChunk h).isSome) = true := by
  decide +kernel

theorem wit_canTakesNmtAndUsdo :
    starting.pw.mode.awake = true ∧ starting.su.pllOn = true ∧ (starting.port 0).core = false ∧
    online.nmtReaches 0 0 = true ∧ online.nmtReaches 1 0x10 = true ∧ online.nmtReaches 0 5 = false ∧
    online.objB 0x1F92 2 = false ∧ nodeReset.nmtReaches 1 0 = true ∧ nodeReset.objB 0x1F92 2 = true ∧
    nodeReset.pw.mode = .bench ∧ (online.port 1).bootAt.isSome = true ∧ online.nmt 1 = 0x7F ∧ online.objB 0x1F92 1 = true ∧
    (online.port 1).core = true ∧ (nodeReset.port 0).bootAt.isSome = true ∧ nodeReset.nmt 0 = 0x7F ∧
    nodeReset.objB 0x1F92 1 = false ∧ online.usdoServed 0 .fd = true ∧ online.live 1 = true ∧ online.live 2 = true ∧
    online.holds 1 = false ∧ online.atticWaits 1 = false ∧ online.atticWaits 2 = false ∧ (online.path 1).armed = none ∧
    (online.path 1).session = none ∧ online.peek 1 0x1017 0 0xFFFF true = .inr [100, 0] ∧ (rowOf 0x1017 0).acc ≠ .rc ∧
    online.peek 1 0x8000 0 0xFFFF true = .inr [7] ∧
    (rowOf 0x8000 0).ty.isDomain = true ∧ (rowOf 0x8000 0).acc ≠ .rc ∧ online.downloadCode 1 0x1017 0 2 = 0 ∧
    online.judge 1 0x1234 0 0xFFFF [] false false ≠ 0 ∧ nodeReset.usdoServed 0 .classical = true ∧
    online.usdoServed 1 .fd = true ∧ (nodeReset.path 1).session = some { sending with maxSeg := 7 } ∧
    (online.path 2).session = some receiving ∧ nodeReset.xferCode 1 { sending with maxSeg := 7 } = 0 ∧ online.xferCode 2 receiving = 0 ∧
    online.xferCode 2 { receiving with idx := 0x6120, sub := 7 } ≠ 0 ∧
    nodeReset.live 1 = true ∧ nodeReset.atticWaits 1 = false := by
  decide +kernel

theorem wit_canSendsAndHandlesErrors :
    online.tpdoPorts 0 ≠ [] ∧ online.obj 0x1800 2 = 0xFE ∧ online.tpdoPorts 1 ≠ [] ∧ online.obj 0x1801 2 = 0xFF ∧
    (online.tpdoData 1).1 ≠ (Amap.get Tpdo.idle online.tpdos 1).last ∧ (Amap.get Tpdo.idle online.tpdos 1).sentAt = none ∧
    online.tpdoPorts 2 ≠ [] ∧ online.obj 0x1802 2 = 0xFF ∧ (Amap.get Tpdo.idle online.tpdos 2).sentAt = some 0 ∧
    online.now < 0 + 100 * online.obj 0x1802 3 ∧ online.tpdoPorts 3 ≠ [] ∧ online.obj 0x1803 2 = 0xFF ∧
    (online.tpdoData 3).1 = (Amap.get Tpdo.idle online.tpdos 3).last ∧ locked.pw.mode = .safe ∧
    (online.port 0).core = true ∧ online.obj 0x1F90 8 ≠ 2 ∧ online.obj 0x1017 0 ≠ 0 ∧ nodeReset.obj 0x1017 0 = 0 ∧
    (nodeReset.port 0).core = true ∧ nodeReset.obj 0x1F90 8 ≠ 2 ∧ (online.port 0).emcys = [anEmcy] ∧
    (online.port 0).dropped = 0 ∧ online.nmt 0 = 5 ∧ bit (online.cobId 0x1014 0) 31 = false ∧ (online.port 0).emcyAt = none ∧
    (nodeReset.port 0).emcys = [anEmcy] ∧ (nodeReset.port 0).emcyAt = some 0 ∧ nodeReset.now < 0 + 100 * nodeReset.obj 0x1015 0 ∧
    (nodeReset.port 1).core = true ∧ nodeReset.nmt 1 = 4 ∧ (nodeReset.port 1).emcys = [anEmcy] ∧ nodeReset.obj 0x1F91 8 ≠ 2 ∧
    online.blocked 0 5 = false ∧ Amap.get 0 (online.port 0).collisions 5 = 2 ∧ Amap.get 0 (online.port 0).collisions 6 = 0 ∧
    blockSlots.find? (fun i => online.obj 0x1F90 i = 0xFFFFFFFF) = some 0x0F ∧ online.blocked 0 7 = true ∧
    ({ online with objs := [(okey 0x1F90 8 0, 2)] } : State).obj 0x1F90 8 = 2 := by
  decide +kernel

theorem wit_udpPeersAreServed :
    sees peers 1 0x20 (ask 1 5 0x1017 0 0 0 [] []) = true ∧ (heard 0x20 peers).peek 0x20 0x1017 0 0xFFFF false = .inr [100, 0] ∧
    (heard 0x20 peers).peek 0x20 0x1234 0 0xFFFF false = .inl 0x06020000 ∧ existsCode 0x2000 2 = 0 ∧
    sees peers 2 0x20 (ask 2 5 0x1017 0 2 0 [1, 0] []) = true ∧
    ((heard 0x20 peers).dictWrite 0x20 0x1017 0 [1, 0] false true).1 = 0 ∧
    ((heard 0x20 peers).dictWrite 0x20 0x1017 0 [1] false true).1 ≠ 0 ∧ (rowOf 0x5110 2).cls = .attic ∧
    ((heard 0x20 peers).dictWrite 0x20 0x5110 2 [3] false true).1 = 0 ∧
    sees peers 3 0x20 (ask 3 5 0x8000 0 0 0 [] []) = true ∧ (heard 0x20 peers).peek 0x20 0x8000 0 0xFFFF true = .inr [7] ∧
    sees peers 5 0x20 (ask 5 5 0x1017 0 0 2 [] []) = true ∧ (heard 0x20 peers).downloadCode 0x20 0x1017 0 2 = 0 ∧
    (heard 0x20 peers).downloadCode 0x20 0 0 2 ≠ 0 ∧ sees peers 8 0x20 (ask 8 5 0 0 0 0 [] []) = true ∧
    sees peers 4 0x21 (ask 4 5 0x1017 0 0 0 [] []) = true ∧ (peers.path 0x21).session = some sending ∧
    sees peers 6 0x22 (ask 6 5 0x1017 0 0 0 [] [1]) = true ∧ (peers.path 0x22).session = some receiving ∧
    sees peers 7 0x23 (ask 7 5 0x1017 0 0 0 [] []) = true ∧
    (peers.path 0x23).session = some { receiving with data := [1, 0], offset := 2 } ∧ peers.xferCode 0x23 { receiving with data := [1, 0], offset := 2 } = 0 ∧
    peers.xferCode 0x23 { receiving with idx := 0x6120, sub := 7 } ≠ 0 ∧
    peers.now ≠ 1000000 ∧ sees peers 7 0x24 (ask 7 5 0x1017 0 0 0 [] []) = true ∧ sees peers 8 0x24 (ask 8 5 0 0 0 0 [] []) = true ∧
    sees peers 4 0x24 (ask 4 5 0 0 0 0 [] []) = true ∧ sees peers 6 0x24 (ask 6 5 0 0 0 0 [] [1]) = true ∧
    (peers.path 0x24).session = none ∧ (peers.path 0x24).sessionFail = some 3 ∧ (peers.path 0x25).busy.isSome = true ∧
    peers.peerSlot (7, 0x25) = some 0x25 ∧ (peers.path 0x26).lastResp = some (5, [1]) ∧ peers.peerSlot (7, 0x26) = some 0x26 ∧
    peers.peerSlot (7, 9) = some 0x27 ∧ peers.live 0x27 = false ∧ msgOk udpBody (ask 0 5 0 0 0 0 [] []) = true ∧
    dictForm (msgBody (ask 0 5 0 0 0 0 [] [])) = false := by
  decide +kernel

theorem wit_sensorLinesEnterTheirSluices :
    filming.portsRun = true ∧ bit (filming.obj 0x3100 1) 0 = true ∧ filming.bound 1 0 1 42 = none ∧
    filming.bound 1 0 0 42 = some filmingSluice ∧ filming.sluicing = true ∧ filming.sluice? 0 = some filmingSluice ∧
    filming.streamState 0 = 2 ∧ filmingSluice.filling = some aFilling ∧ aFilling.lines + 1 < filming.obj 0x3000 8 0 ∧
    filmingSluice.line + 1 < filming.obj 0x3000 7 0 ∧ filming.obj 0x3000 6 0 * bitsPerPixel 42 / 8 = 4 ∧
    filming.camerasOn 1 0 = [] ∧ filming.camerasOn 0 0 = [0] ∧ camera.camerasOn 0 0 = [0] ∧ camera.streamState 0 ≠ 2 ∧
    camera.sluice? 0 = some sluice ∧ filming.streamState 3 ≠ 4 ∧ filming.obj 0x5001 2 ≠ 1 := by
  decide +kernel

theorem wit_rangeAndNearEnter :
    filming.bound 2 0 0 0 = some rangeSluice ∧ filming.sluice? 1 = some rangeSluice ∧ filming.streamState 1 = 2 ∧
    rangeSluice.filling = some aFilling ∧ aFilling.lines + 1 < filming.obj 0x3000 8 1 ∧
    rangeSluice.line + 1 < filming.obj 0x3000 7 1 ∧ filming.rangeAccepts 0 aRangeFrame = true ∧
    aRangeFrame.payload = aRange ∧ field aRange 0 4 = 0x50525953 ∧ field aRange 4 1 = 1 ∧
    field aRange 5 1 = 0 ∧ crc32c (aRange.take 28) = field aRange 28 4 ∧ field aRange 6 2 = 0 ∧ field aRange 8 2 = 1 ∧
    field aRange 10 2 = filming.obj 0x3000 6 1 ∧ aRange.length = 40 ∧
    ((groups 8 (aRange.drop 32)).all fun b => crc8 (b.take 7) = field b 7 1) = true ∧
    bit (filming.obj 0x3101 1) 0 = true ∧ filming.obj 0x3102 1 = 9 ∧ filming.ownAddr 0 = 5 ∧ filming.objB 0x3104 1 = true ∧
    filming.bound 3 0 0 0 = some nearSluice ∧ filming.sluice? 2 = some nearSluice ∧ filming.streamState 2 = 2 ∧
    nearSluice.line + 1 < filming.obj 0x3000 7 2 ∧ aFilling.lines + 1 < filming.obj 0x3000 8 2 ∧ bits 0x96 30 2 = 0 ∧
    crc8 [0, 0, 0] = 0x96 ∧ crc8 [0x40, 0, 8] = 0x30 ∧ bits 0x40000830 30 2 = 1 ∧ bit 0x40000830 11 = true ∧
    bit (filming.obj 0x3112 2) 0 = true ∧ filming.seq.hz.loaded = true ∧ bits 0x40000830 16 13 < bits (filming.obj 0x3112 2) 16 16 ∧
    filming.bound 3 0 1 0 = none ∧ filming.pw.mode ≠ .safe ∧
    (filming.seq.sluices.find? fun q => q.stream = 3 && q.strips.any fun t => t.diverted && t.slot.isSome).isSome = true ∧
    (filming.seq.sluices.find? fun q => q.stream = 3 && q.strips.any fun t => t.n = 0 && t.job != .toSubmit).isSome = true := by
  decide +kernel

theorem wit_stripsRecordsAndListsFollow :
    publishing.sluicing = true ∧ publishing.pw.pendSafe = none ∧ publishing.objBit 0x3110 1 2 = true ∧
    desk.sluicing = true ∧ tenant.sluicing = false ∧ publishing.sluice? 0 = some lateSluice ∧
    lateSluice.strips.filter (fun x => x.job = .toSubmit) = [retryStrip] ∧ publishing.strip? 0 5 = some retryStrip ∧
    filming.sluice? 0 = some filmingSluice ∧ filmingSluice.strips.filter (fun x => x.job = .toSubmit) = [] ∧
    retryStrip.bounded = false ∧ retryStrip.job ≠ .ended ∧ publishing.strip? 0 6 = some doneStrip ∧ doneStrip.bounded = true ∧
    doneStrip.job = .ended ∧ publishing.ppRuns = true ∧
    (publishing.seq.copies.find? (fun c => c.stream = 0 && c.strip = 6)).map (fun c => c.frame) = some 0 ∧
    (publishing.seq.frames.find? (fun p => p.stream = 0 && p.frame = 0)).map (fun p => p.started) = some none ∧
    (publishing.seq.copies.find? (fun c => c.stream = 0 && c.strip = 9)).map (fun c => c.frame) = some 7 ∧
    publishing.seq.frames.find? (fun p => p.stream = 0 && p.frame = 7) = none ∧
    publishing.seq.frames.any (·.started.isSome) = false ∧ publishing.seq.frames.filter PpFrame.ready = [readyFrame] ∧
    listing.ppRuns = true ∧ listing.seq.frames.find? (·.started.isSome) = some { readyFrame with started := some 0 } ∧
    publishing.seq.frames.find? (fun p => p.stream = 0 && p.ended.isSome) = some readyFrame ∧ listing.seq.hz.latch = true ∧
    listing.pw.mode ≠ .safe ∧ publishing.seq.hz.latch = false ∧ listing.portsRun = true ∧ listing.seq.hz.loaded = true ∧
    listing.anyFeed = true ∧ Detecting listing := by
  unfold Detecting
  decide +kernel

theorem wit_theTimeBaseFollowsGptp :
    timed.gptpOn = true ∧ timed.obj 0x9001 2 = 0 ∧ timed.obj 0x9001 3 = 0 ∧ timed.objB 0x9002 2 = true ∧
    timed.obj 0x9000 3 = 3 ∧ timed.syncFits (aSync 8 5) = true ∧ timed.syncFits (aSync 7 5) = false ∧
    timed.obj 0x9001 0x0A < absNat ((timed.nowNs : Int) - 10 ^ 12) ∧ timed.syncFits (aSync 8 (10 ^ 12)) = true ∧
    absNat ((timed.nowNs : Int) - 5) ≤ timed.obj 0x9001 0x0A ∧ timed.gptp.source.isSome = true ∧ timed.obj 0x9002 1 ≠ 9 ∧
    bit timed.ethDown 0 = false ∧ timed.gptp.asked = true ∧ timed.gptp.step = some 1000 ∧ timed.clk.tbRun = true ∧
    timed.pw.mode ≠ .safe ∧ (timed.timed.filter fun g => g.port = launchCode (.eth 0)) = [aTimed] ∧ timed.pw.pendSafe = none ∧
    acquiring.gptpOn = true ∧ acquiring.objB 0x9002 2 = true ∧ acquiring.syncFits (aSync 8 5) = true ∧
    acquiring.obj 0x9000 3 = 2 ∧ acquiring.gptp.run + 1 = 2 ∧ acquiring.gptp.pdelaySeq < 65536 ∧
    ({ acquiring with gptp := { acquiring.gptp with run := 4, within := 3 } } : State).syncFits (aSync 8 5) = true ∧
    ({ acquiring with gptp := Gptp.idle } : State).obj 0x9000 3 ≠ 3 ∧
    ({ acquiring with gptp := Gptp.idle } : State).gptp.source = none := by
  decide +kernel

theorem wit_keepersAndSafeFollowTheirRules :
    pairs.lockstep = true ∧ Detecting pairs ∧ apart.lockstep = false ∧ pairs.coreReady 0 = true ∧ pairs.coreReady 2 = true ∧
    pairs.coreHalted 0 = false ∧ pairs.saf.started = true ∧ pairs.saf.aliveA = true ∧ pairs.saf.aliveB = true ∧
    pairs.saf.rejoinAt = none ∧ pairs.saf.keepersHeld = false ∧ pairs.pw.mode.awake = true ∧ pairs.pw.mode ≠ .safe ∧
    bench.saf.started = false ∧ bench.coreReady 0 = true ∧ bench.pw.pendSafe = none ∧ bench.obj 0x5050 2 = 0 ∧
    Detecting apart ∧ apart.saf.started = true ∧ apart.saf.aliveA = false ∧ apart.pairHalted 0 = false ∧
    apart.saf.keepersHeld = false ∧ apart.saf.rejoinAt = none := by
  unfold Detecting
  decide +kernel

theorem wit_keepersSplitAndRejoin :
    asked.handoverPending 0 = true ∧ asked.saf.rejoinAt = none ∧
    asked.coreReady 0 = true ∧ asked.saf.splitAt.isSome = true ∧ asked.saf.ackA = false ∧ rejoin.handoverPending 0 = true ∧
    rejoin.saf.ackB = true ∧ rejoin.coreReady 0 = true ∧ rejoin.saf.rejoinAt.isSome = true ∧ rejoin.saf.rejoining = false ∧
    bench.handoverPending 0 = false ∧ falling.pw.pendSafe = some (3, 5) ∧ falling.held = [] ∧ falling.pw.mode ≠ .safe ∧
    bench.held = [] ∧ splitting.saf.splitAt.isSome = true ∧ splitting.saf.ackA = true ∧ splitting.saf.ackB = true ∧
    restart.saf.rejoining = true ∧ Detecting restart ∧ restart.su.freshOk = true := by
  unfold Detecting
  decide +kernel

theorem wit_testsScrubsAndMonitorsFollowTheirRules :
    driving.twinned = true ∧ driving.jobOf 0 = none ∧ twinWork.twinned = true ∧ twinWork.jobOf 0 = some work ∧
    twinWork.job 1 = some work ∧ twinWork.outOfService 0 = false ∧ (twinWork.engine 0).dike = none ∧
    (slots.engine 4).dike.map (fun d => (d.step, d.cause)) = some (7, 2) ∧
    bench.lbistRuns 0 = true ∧ (∀ k : Fin 48, (bench.engine k.val).withdrawn = false) ∧ (bench.engine 0).skipped = false ∧
    fenceNext.lbistRuns 0 = true ∧ (∀ k : Fin 48, (fenceNext.engine k.val).withdrawn = false) ∧ (fenceNext.engine 0).skipped = true ∧
    fenceNext.outOfService 0 = false ∧ (fenceNext.engine (fenceNext.lead 0)).dike = none ∧
    slots.lbistRuns 0 = true ∧ (slots.engine 0).withdrawn = true ∧ (slots.engine (slots.lead 0)).dike = none ∧
    (∀ k ∈ slots.unitOf 0, slots.objBit 0x5050 3 k = false) ∧ (slots.engine 2).withdrawn = true ∧
    (slots.engine (slots.lead 2)).dike = none ∧ slots.objBit 0x5050 3 2 = true ∧ (slots.engine 4).withdrawn = true ∧
    (slots.engine 6).testing = true ∧ (slots.engine 8).testing = false ∧
    (slots.engine (slots.lead 8)).dike.map (fun d => (d.step, d.cause)) = some (7, 4) := by
  decide +kernel

theorem wit_scrubsAndMonitors :
    started.su.enginesTested = true ∧ started.pw.mode.awake = true ∧ started.pw.mode ≠ .safe ∧ started.outOfService 0 = false ∧
    started.obj 0x4000 1 0 ≤ 1 ∧ Detecting started ∧ started.su.pllOn = true ∧ camera.pw.mode = .bench ∧ camera.hostRegion ≤ 0xB00000000 ∧
    storeOf 0xB00000000 = none ∧ State.reset.pw.mode = .off ∧ parked.pw.mode = .parked := by
  unfold Detecting
  decide +kernel

theorem wit_dikesRunTheirSequences :
    ((sequences.engine 0).dike.map (·.step)) = some 2 ∧ sequences.jobsOn 0 = [work] ∧ sequences.job 1 = some work ∧
    sequences.dikeAt 0 4 = none ∧ (sequences.dikeAt 2 4).isSome = true ∧ sequences.recReqs = [] ∧ sequences.dikeAt 0 5 = none ∧
    (sequences.dikeAt 4 5).map (·.final) = some false ∧ (sequences.dikeAt 6 5).map (·.final) = some true ∧
    sequences.dikeAt 0 6 = none ∧ (sequences.dikeAt 8 6).map (·.inReset) = some false ∧
    (∀ r ∈ sequences.sched.resets, r.left.head? ≠ some 8) ∧ (sequences.dikeAt 10 6).isSome = true ∧
    sequences.sched.resets = [{ part := 0, engine := 10, left := [10, 14], aborted := 0 }] ∧ sequences.lead 10 = 10 ∧ sequences.lead 14 = 14 ∧
    sequences.outOfService 14 = false ∧ (sequences.engine 14).dike = none ∧ bench.smp.inFlight.testBit 0 = false ∧
    sequences.smp.inFlight.testBit 0 = true ∧ sequences.pw.mode.awake = true ∧ sequences.clk.tbRun = true ∧
    (∀ m : Fin 24, bench.obj 0x7000 1 m.val = 0) ∧ sequences.obj 0x7000 1 0 = 0x0A ∧ sequences.obj 0x7000 2 0 = 0 ∧
    State.reset.pw.mode.awake = false ∧ (sequences.mon 0).pendingNote = true ∧ (bench.mon 0).pendingNote = false := by
  decide +kernel

theorem wit_watchdogAndDeadlock :
    bench.recov.watchdog = none ∧ sequences.recov.watchdog.isSome = true ∧ sequences.pw.mode = .bench ∧
    late.recov.watchdog.isSome = true ∧ late.pw.mode = .drive ∧ late.obj 0x5100 5 = 1 ∧ Detecting late ∧
    bench.waitCycles = [] ∧ stuck.waitCycles = [[0, 1]] ∧ stuck.recov.lastScan = [([0, 1], [])] ∧
    stuck.outOfService (stuck.lead 0) = false ∧ locked.pw.mode = .safe := by
  unfold Detecting
  decide +kernel

theorem wit_loopsStayInTheirRanges :
    bench.loopsRun = true ∧ bench.loops.stretch = false ∧ swinging.loopsRun = true ∧ swinging.loops.stretch = true ∧
    bench.obj 0x4800 1 = 0 ∧ swinging.obj 0x4800 1 = 1 ∧ Detecting bench ∧
    ((bench.trimTemps (List.replicate 8 1300)).foldl max ((bench.trimTemps (List.replicate 8 1300)).getD 0 0)) = 1300 ∧
    bench.apartNow (bench.trimTemps (List.replicate 8 25)) = List.replicate 8 0 ∧ bench.pw.mode ≠ .off ∧
    swinging.loops.pendJournal = true ∧ bench.loops.pendJournal = false ∧ parked.pw.mode = .parked := by
  unfold Detecting
  decide +kernel

theorem wit_atticPoldersAndBar4FollowTheirRules :
    (writing.path 1).next = [] ∧ (writing.path 2).next = [] ∧ writing.casc.dict = [] ∧ bench.attic.queue = [] ∧
    writing.attic.queue = [AtticWrite.mk 0x38 0x2040 2 0xFFFF [1] 3 false true] ∧ writing.obj 0x8002 12 < 9999 ∧
    bench.attic.pendSet = none ∧ writing.attic.pendSet.isSome = true ∧ writing.obj 0x8001 3 = 0 ∧
    calDesk.pw.mode = .bench ∧ calDesk.windowOpen 0x38 = true ∧ (∀ k : Fin 96, calDesk.streamOn k.val = false) ∧
    calDesk.attic.pendSet = none ∧ (calDesk.calJudge []).1 = 1 ∧ calDesk.obj 0x8001 3 = 0 ∧
    bench.gates = true ∧ bench.unitIdle 0 = true ∧ bench.obj 0x4000 1 0 = 0 ∧ bench.gatePolicy ≠ 0 ∧
    working.unitIdle 0 = false ∧ ungated.gatePolicy = 0 ∧ ungated.unitOf 0 = [0, 1] ∧ (ungated.engine 0).waking = true ∧
    ungated.outOfService 0 = false ∧ (bench.engine 0).waking = false ∧ tenant.pw.mode = .depot ∧ tenant.objB 0x2001 3 = false ∧
    tenant.sched.jobs = [] ∧ tenant.depot.guests = [] ∧ tenant.pw.pendSafe = none ∧
    mapped4.live 0x10 = true ∧ mapped4.su.pcieUp = true ∧ mapped4.bar4State = 0 ∧ mapped4.pw.mode ≠ .depot ∧
    mapped4.bar4Cells 0 .write 8 1 = some [8] ∧ mapped4.bar4Cells 0 .read 8 1 = some [8] ∧ mapped4.poisoned 8 1 = false ∧
    mapped4.bar4Cells 0 .read 0xFFFFFFFFF 1 = none ∧ closed4.live 0x10 = true ∧ closed4.pw.mode = .safe := by
  decide +kernel

theorem wit_calibrationSetAccepted :
    Serving .jtag calDesk ∧ calDesk.windowOpen 0x38 = true ∧ (calDesk.calJudge fieldSet).1 = 0 := by
  have g : field fieldSet 20 8 = calDesk.obj 0x2000 6 ∧ field fieldSet 16 1 = 1 ∧ field fieldSet 12 4 = calDesk.obj 0x8001 1 + 1 := by
    decide +kernel
  have h : calHeader fieldSet = true := by decide +kernel
  have v : Serving .jtag calDesk ∧ calDesk.windowOpen 0x38 = true := by
    unfold Serving Delivered
    decide +kernel
  refine ⟨v.1, v.2, ?_⟩
  simp [State.calJudge, fieldSet_length, fieldSet_crc, fieldSet_body, h, g]

theorem wit_fleetMessages :
    (∀ m ∈ [beatMsg, leaveMsg, reportMsg 0x21, reportMsg 0x22, reportMsg 0x23, longMsg 0x25, longMsg 0x26, longMsg 0x28, joinMsg],
      FromWorker 0x20 (field (msgBody m) 0 1) m chief ∧ NotActed 7 (field (msgBody m) 20 4) chief) ∧
    (∀ m ∈ [ackMsg 0x11 0, ackMsg 0x13 0, ackMsg 0x13 5, offerMsg, toJob 0x24 0 4, toJob 0x27 0 4, toJob 0x27 1 4, toJob 0x27 0 8],
      FromManager 0x20 (field (msgBody m) 0 1) 9 m hand ∧ NotActed 9 (field (msgBody m) 20 4) hand) := by
  unfold FromWorker FromManager Spelled NotActed
  decide +kernel

theorem wit_fleetManager :
    chiefAgain.depot.acted.find? (fun a => a.1 = 7 && a.2.1 = 1) = some (7, 1, [9]) ∧
    (chief.worker 5).map (fun w => w.beat.length) = some 16 ∧ (chief.fleetJob 1).map (fun j => (j.id, j.worker, j.state)) = some (1, 5, 2) ∧
    (chief.answered? 0x20 0x21 1).isSome = true ∧ (chief.answered? 0x20 0x22 1).isSome = true ∧
    (chief.fleetJob 2).map (fun j => (j.worker, j.state)) = some (6, 3) ∧ chief.fleetJob 9 = none ∧ chief.isManager = true ∧
    (chief.depot.jobs.find? (fun j => j.state = 1 && (chief.bestWorker j).isSome)).map (·.id) = some 3 ∧
    (chief.bestWorker (aFleetJob 3 1 0)).map (·.1) = some 5 ∧ chief.worker 99 = none ∧ chief.obj 0x6100 0x0A ≠ 0 ∧
    chief.pw.mode.awake = true ∧ bench.obj 0x6100 0x0A = 0 := by
  decide +kernel

theorem wit_fleetWorker :
    hand.objB 0x6100 0x0D = true ∧ lostHand.objB 0x6100 0x0D = false ∧ lostHand.isWorker = true ∧
    (hand.answered? 0x20 0x13 0).map (·.seq) = some 21 ∧ (∀ g : Fin 8, (hand.guest g.val).closing ≠ some 21) ∧
    (hand.answered? 0x20 0x13 5).map (fun f => (f.seq, field f.body 16 1)) = some (22, 0x26) ∧ (hand.guest 1).closing = some 22 ∧
    (hand.guest 0).closing ≠ some 22 ∧ hand.guestState 1 ≠ 0 ∧ hand.guestOfJob 4 = some 0 ∧ hand.holdsJob 0 = true ∧
    hand.guestState 0 = 2 ∧ (hand.guest 0).ckpt = none ∧ (hand.guest 0).restore = none ∧ hand.guestOfJob 8 = none ∧
    hand.endDoze.offerReason 7 (slice (msgBody offerMsg) 24 64) = 7 ∧ hand.depot.joinTick.isSome = true ∧
    hand.isWorker = true ∧ hand.pw.mode = .depot ∧ bench.depot.joinTick = none ∧ bench.objB 0x6100 0x0D = false := by
  decide +kernel

theorem offer_accepted (s : State) (job : Nat) (o : List Byte) (q : Nat)
    (h : (offerOk o = true ∧ s.pw.mode = .depot ∧ s.obj 0x6100 0x0A = 2 ∧ (s.guestOfJob job).isSome = false) ∧
      ((List.range 8).all fun g => s.guestState g != 0) = false ∧ ¬(s.offerEngines.length < field o 8 1))
    (hq : q < 512 ∧ s.objB 0x6000 1 q = false ∧ field o 10 1 ≤ 1) (hw : (s.fitWindow (field o 12 4)).isNone = false) :
    s.offerReason job o = 0 := by
  have hi : q ∈ s.idleQueues := List.mem_filter.2 ⟨List.mem_range.2 hq.1, by simp [hq.2.1]⟩
  have hl : ¬(s.idleQueues.length < field o 10 1) := by
    have := List.length_pos_of_mem hi
    omega
  unfold State.offerReason
  simp only [h, hl, hw]
  simp

theorem wit_fleetOffer : smallHand.endDoze.offerReason 7 goodOffer = 0 ∧ smallHand.isWorker = true ∧ smallHand.obj 0x6100 6 = 9 := by
  refine ⟨offer_accepted _ _ _ 0 ?_ ?_ ?_, ?_, ?_⟩ <;> decide +kernel

theorem wit_guestsAndHandover :
    wiping.pw.mode = .depot ∧ wiping.obj 0x6100 0x0A = 1 ∧ wiping.depot.role = 2 ∧ joining.obj 0x6100 0x0A = 1 ∧
    joining.depot.role = 1 ∧ opening.depot.role = 0 ∧ opening.obj 0x6100 0x0A = 1 ∧
    (∀ h : Fin 8, opening.objB 0x6021 1 h.val = (h == 0)) ∧ opening.windowFits 0 (opening.obj 0x6021 2 0) (opening.obj 0x6021 3 0) = true ∧
    bench.obj 0x6100 0x0A ≠ 1 ∧ beginning.guestStartReady 0 = true ∧ beginning.hostRegion = 0xA00000000 ∧
    beginning.obj 0x6021 3 0 = 1 ∧ (beginning.guest 0).fleet = true ∧ bench.guestStartReady 0 = false ∧
    hand.pw.mode = .depot ∧ hand.holdsJob 0 = true ∧ hand.guestState 0 = 2 ∧ (hand.guest 0).ckpt = none ∧ (hand.guest 0).restore = none ∧
    field (hand.guest 0).offer 16 4 ≠ 0 ∧ hand.objB 0x6100 0x0D = true := by
  decide +kernel

theorem wit_guestsInHandover :
    ending.guestState 0 = 5 ∧ (ending.guest 0).fleet = true ∧ bench.guestState 0 ≠ 5 ∧
    quiet.pw.mode = .handover ∧ quiet.obj 0x6100 0x0A = 3 ∧ (∀ h : Fin 8, quiet.guestQuiet h.val = true) ∧ quiet.objB 0x6100 0x0D = true ∧
    quiet.holdsJob 0 = true ∧ (∀ h : Fin 8, quiet.guestState h.val ≠ 1 ∧ (quiet.guest h.val).restore = none ∧ (quiet.guest h.val).ckpt = none) ∧
    quietAlone.objB 0x6100 0x0D = false ∧ quietAlone.obj 0x6100 0x0A = 3 ∧ quietAlone.pw.mode = .handover ∧
    (hashing.guest 0).ckpt = some aCkpt ∧ hashing.guestQuiet 0 = true ∧ aCkpt.hashed < hashing.chunkCount 0 ∧
    (hashing.guest 0).reoffer = true ∧ bench.pw.mode ≠ .handover ∧ (bench.guest 0).ckpt = none := by
  decide +kernel

theorem storeMsg_spelled (op : Nat) (b : List Byte) (s : State) (h : s = keeper ∨ s = puller ∨ s = fetching ∨ s = restoring)
    (hb : 24 ≤ b.length ∧ b.length ≤ 4352 ∧ field b 0 1 = op ∧ ckptFits b = true) : Spelled 0x21 op (fuindMsg 0x21 0xFE 0xFF b) s := by
  refine spelled_fuindMsg _ _ _ _ _ _ ?_ ?_ (.inr rfl) hb.1 hb.2.1 hb.2.2.1 (fun h => absurd h (by decide)) (fun _ => hb.2.2.2) <;>
    rcases h with rfl | rfl | rfl | rfl <;> decide +kernel

/-- The operation of a checkpoint body whose length fits it. -/
def bodyFits (op : Nat) (b : List Byte) : Bool := 24 ≤ b.length && b.length ≤ 4352 && field b 0 1 == op && ckptFits b

theorem wit_transferMessages :
    (∀ b ∈ [haveBody, pullBody 77, pullBody 78, manifestBody 77 10, manifestBody 78 200, manifestBody 79 200, failBody 77, failBody 79,
      segmentBody 55], bodyFits (field b 0 1) b = true ∧ NotActed 7 (field b 20 4) keeper) ∧ keeper.isManager = true ∧
    fetching.isManager = true ∧
    (∀ b ∈ [replyBody, pullBody 78, segmentBody 55, segmentBody 56, notHeldBody 55, notHeldBody 56, resultBody 0, resultBody 1],
      bodyFits (field b 0 1) b = true) ∧ puller.isWorker = true ∧ restoring.isWorker = true ∧ puller.obj 0x6100 6 = 9 := by
  unfold NotActed
  decide +kernel

theorem wit_transfers :
    keeper.storedManifest 79 = some smallManifest ∧ keeper.storedChunk 77 = some [1, 2] ∧ keeper.storedChunk 78 = none ∧
    keeper.storedManifest 78 = none ∧ dataHashes smallManifest = [] ∧ keeper.depot.offers = [] ∧
    puller.guestOfJob 5 = some 0 ∧ (puller.guest 0).ckpt = some lateCkpt ∧ lateCkpt.hashed < puller.chunkCount 0 ∧
    lateCkpt.asked.find? (fun a => a.2.length = 1) = some (3, [11]) ∧ (puller.depot.pulls.find? (fun p => p.hash = 56 && p.src = 9)) = some aPull ∧
    ({ aPull with segs := Amap.set [] aPull.segs 0 [1] } : Pull).whole = none ∧
    (puller.depot.pulls.find? (fun p => p.hash = 55 && p.src = 9)) = none ∧ aPull.guest = some 0 ∧ puller.guestState 0 ≠ 0 ∧
    puller.pw.mode = .depot ∧ lateCkpt.offered = true ∧ lateCkpt.name = 66 ∧ lateCkpt.purpose = .periodic ∧
    keeper.depot.pulls = [] ∧ keeper.storedManifest 77 = some namedManifest ∧ 0 < chunksIn namedManifest ∧
    chunkHash namedManifest 0 = 77 := by
  decide +kernel

theorem wit_wholeObjects :
    hashOf [1] = oneHash ∧ (fetching.depot.pulls.find? (fun p => p.hash = oneHash && p.src = 7)) = some onePull ∧
    ({ onePull with segs := Amap.set [] onePull.segs 0 [1] } : Pull).whole = some [1] ∧ fetching.storeFits 1 = true ∧
    fetching.storedChunk oneHash = none ∧ (restoring.guest 0).restore = some { manifest := oneManifest, wanted := [oneHash] } ∧
    chunksIn oneManifest = 1 ∧ chunkHash oneManifest 0 = oneHash ∧ restoring.guestObject 0 oneHash false = none := by
  decide +kernel

theorem wit_fuindPortsTrain :
    training.fuindOn = true ∧ (training.fl 0).phase = .training ∧ (training.fl 0).step = 4 ∧ (training.fl 1).phase = .training ∧
    (training.fl 1).step = 5 ∧ (training.fl 1).replay = [] ∧ failing.fuindOn = true ∧ (failing.fl 0).phase = .training ∧
    (failing.fl 0).step = 5 ∧ (failing.fl 0).replay ≠ [] ∧ (training.fl 0).fails + 1 < 3 ∧ 3 ≤ (failing.fl 0).fails + 1 ∧
    (linked.fl 0).phase = .active ∧ (linked.fl 0).replay ≠ [] ∧ (linked.fl 0).wiring = false ∧ (linked.fl 1).replay = [] ∧
    (failing.fl 1).phase = .active ∧ (failing.fl 1).wiring = true ∧ (failing.fl 1).resends = 7 ∧ (failing.fl 1).replay ≠ [] ∧
    (training.fl 0).phase ≠ .active := by
  decide +kernel

theorem wit_fuindPortsTakeFlits :
    (∀ k ∈ [0, 1, 2, 3], TakesFlit 0 k (aFlit k 0 0 0 0 [1]) linked) ∧ flitOk [] = false ∧ (linked.fl 0).rxSeq = 0 ∧
    TakesFlit 0 1 (aFlit 49 0 0 0 0 [1]) linked ∧ msgOk linkBody [1] = false ∧ slice (aFlit 49 0 0 0 0 [1]) 8 1 = [1] ∧
    TakesFlit 0 1 (aFlit 1 0 9 0 0 [1]) linked ∧ field (aFlit 1 0 9 0 0 [1]) 2 2 % 4096 = 9 ∧
    TakesFlit 0 0 (aFlit 0 0 0 0x8007 0 []) linked ∧ (linked.fl 0).replay = [] ++ (7, aTx) :: [(8, aTx)] ∧
    TakesFlit 0 2 (aFlit 2 0 0 0 0 [7, 0]) linked ∧ field (aFlit 2 0 0 0 0 [7, 0]) 8 2 % 4096 = 7 ∧
    (∀ vc : Fin 4, (linked.fl 0).credits.getD vc.val 0 ≤ vcBuffers.getD vc.val 0) ∧ (linked.fl 0).credits.length = 4 ∧
    0 < (linked.fl 0).rx.length := by
  unfold TakesFlit
  decide +kernel

theorem wit_fuindMessagesHello :
    Linked 0 1 (helloMsg 1 0) linked ∧ Linked 0 1 (helloMsg 2 0) linked ∧ linked.wantNeighbour 0 = some 1 ∧
    field (msgBody (helloMsg 1 0)) 0 1 = 1 ∧ field (msgBody (helloMsg 1 0)) 1 1 = 1 ∧ field (msgBody (helloMsg 1 0)) 2 1 = linked.cascSize ∧
    field (msgBody (helloMsg 1 0)) 3 1 = linked.obj 0xA000 2 ∧ Linked 0 1 (helloMsg 0 0) linked ∧ field (msgBody (helloMsg 0 0)) 0 1 = linked.deviceId ∧
    Linked 0 2 (linkMsgTo 2 0 (zeros 16)) linked ∧ Linked 0 2 (linkMsgTo 2 0 (zeros 16)) cascMaster := by
  unfold Linked
  decide +kernel

theorem wit_fuindMessagesRecord :
    Linked 0 3 (linkMsgTo 3 0 aRecord) linked ∧ linked.cascRole = 0 ∧ Linked 0 3 (linkMsgTo 3 0 aRecord) cascMaster ∧
    cascMaster.cascRole = 1 ∧ cascMaster.pw.mode = .bench ∧ cascMaster.pw.pendSafe = none ∧ cascMaster.obj 0x3110 1 % 16 = 4 ∧
    cascMaster.su.pcieUp = true ∧ Linked 0 3 (linkMsgTo 3 0 aRecord) pcieDown ∧ pcieDown.cascRole = 1 ∧ pcieDown.su.pcieUp = false ∧
    pcieDown.pw.pendSafe = none ∧ pcieDown.obj 0x3110 1 % 16 = 4 := by
  refine ⟨linked_fuindMsg _ _ _ _ _ _ ?_ ?_ ?_ ?_ ?_ ?_ ?_, ?_, linked_fuindMsg _ _ _ _ _ _ ?_ ?_ ?_ ?_ ?_ ?_ ?_, ?_, ?_, ?_, ?_, ?_,
    linked_fuindMsg _ _ _ _ _ _ ?_ ?_ ?_ ?_ ?_ ?_ ?_, ?_, ?_, ?_, ?_⟩ <;> decide +kernel

theorem wit_fuindMessagesForward :
    (linked.fl 0).phase = .active ∧ field (linkMsgTo 2 1 (zeros 16)) 2 1 ≠ linked.deviceId ∧ msgOk linkBody (linkMsgTo 2 1 (zeros 16)) = true ∧
    linked.wired 1 = true ∧ (linked.fl 1).up = true ∧ msgOk linkBody [] = false ∧ linked.fuindOn = true ∧ linked.casc.sameId = false ∧
    linked.clk.tbRun = true ∧ linked.casc.formed = false ∧ linked.wired (linked.routePort 1) = true ∧ (linked.fl (linked.routePort 1)).up = true ∧
    Amap.get 0 cascMaster.casc.heard 1 ≠ 0 ∧ (member.fl 0).phase = .active ∧ member.wired 1 = false ∧ msgOk linkBody (linkMsgTo 2 0 (zeros 16)) = true ∧
    (member.fl 0).open_ = true ∧ bench.fuindOn = false := by
  decide +kernel

theorem wit_fuindMessagesAct :
    Linked 0 4 (linkMsgTo 4 0 (zeros 32)) cascMaster ∧ (cascMaster.casc.own.find? fun o => o.stream = 0 && o.index = 0) = some (aCmp 0 3) ∧
    (cascMaster.casc.theirs.find? fun o => o.stream = 1) = some (aCmp 1 0) ∧ Linked 0 4 (linkMsgTo 4 0 (zeros 32)) linked ∧
    linked.casc.own = [] ∧ Linked 0 5 (linkMsgFrom 5 0 1 (zeros 17)) member ∧ field (linkMsgFrom 5 0 1 (zeros 17)) 1 1 = 0 ∧
    member.su.boot.source = 2 ∧ member.su.cellarOn = true ∧ member.lengthOk = true ∧ member.deviceId = 1 ∧ linked.su.boot.source ≠ 2 := by
  unfold Linked
  decide +kernel

theorem wit_fuindMessagesDictionary :
    Linked 0 0x10 (linkMsgTo 0x10 0 readBody) linked ∧ dictForm readBody = true ∧ (linked.path 0x30).busy = none ∧
    linked.holds 0x30 = false ∧ (linked.path 0x30).inTurn readBody = true ∧ linked.casc.dict = [] ∧
    linked.peek 0x30 0x1017 0 0xFFFF false = .inr [100, 0] ∧
    Linked 0 0x10 (linkMsgTo 0x10 0 readBody) cascMaster ∧ (cascMaster.path 0x30).busy.isSome = true ∧
    Linked 0 0x10 (linkMsgTo 0x10 0 (0x81 :: readBody.drop 1)) cascMaster ∧ bit (field (0x81 :: readBody.drop 1) 0 1) 7 = true ∧
    (cascMaster.casc.relays.find? fun r => r.1 = 1 && r.2.1 = 5) = some (1, 5, 7, 8) ∧
    Linked 0 0x10 (linkMsgTo 0x10 0 (dictBody 8 0x1017 0 0 [])) linked ∧ dictForm [] = false := by
  unfold Linked
  decide +kernel

theorem wit_debugPortServes :
    Debugging debugged ∧ debugged.pw.mode = .bench ∧ parked.pw.mode.awake = false ∧ State.reset.pw.mode = .off ∧ parked.held = [] ∧
    debugged.pw.mode.awake = true ∧ bench.live 0x38 = false ∧ (bench.path 0x38).busy = none ∧ bench.held = [] ∧ bench.pw.mode = .bench ∧
    Debugging driveDebug ∧ driveDebug.pw.mode = .drive ∧ Detecting driveDebug ∧ (busyDebug.path 0x38).busy.isSome = true ∧
    busyDebug.pw.mode.awake = true ∧ busyDebug.held = [] ∧ Debugging safeDebug ∧ safeDebug.pw.mode = .safe ∧
    debugged.coreHalted 1 = true ∧ debugged.coreHalted 2 = false ∧ debugged.engineHalted 4 = true ∧ debugged.engineHalted 6 = false ∧
    debugged.outOfService (debugged.lead 5) = false ∧ (debugged.engine (debugged.lead 5)).dike = none := by
  unfold Debugging Detecting
  decide +kernel

theorem wit_debugPortObjects :
    debugged.peek 0x38 0x1017 0 0xFFFF false = .inr [100, 0] ∧ (rowOf 0x1017 0).ty.size ≤ 8 ∧ (rowOf 0x1017 0).acc ≠ .rc ∧
    (rowOf 0x5100 1).acc = .rc ∧ (debugged.peek 0x38 0x5100 1 0xFFFF false).isRight = true ∧ 8 < (rowOf 0x2000 2).ty.size ∧
    (debugged.peek 0x38 0x2000 2 0xFFFF false).isRight = true ∧ debugged.peek 0x38 0x1234 0 0xFFFF false = .inl 0x06020000 ∧
    (debugged.dictWrite 0x38 0x1017 0 [1, 0] false true).1 = 0 ∧ (debugged.dictWrite 0x38 0x1017 0 [1, 0] false true).2.held = [] ∧
    (debugged.dictWrite 0x38 0x1017 0 [1] false true).1 ≠ 0 ∧ (rowOf 0x5110 2).cls = .attic ∧ (rowOf 0x1017 0).cls ≠ .attic ∧
    (debugged.dictWrite 0x38 0x5110 2 [3] false true).1 = 0 ∧ (debugged.dictWrite 0x38 0x5110 2 [3] false true).2.held = [] := by
  decide +kernel

theorem wit_debugPortMemory :
    debugged.debugPlace 3 = .none ∧ debugged.debugPlace (poolBase + 8) = .pool (poolBase + 8) ∧
    debugged.debugPlace keeperBase = .cells keeperBase none ∧ debugged.poisoned keeperBase 8 = false ∧
    debugged.poisoned (keeperBase + 8) 8 = true ∧ debugged.debugPlace (keeperBase + 8) = .cells (keeperBase + 8) none ∧
    debugged.debugPlace (storeBase + 0x1C1008) = .slot 1 (8 * 1) ∧ (debugged.ctxAt 1).x[0] = 0 ∧
    debugged.debugPlace (storeBase + 0x1C1920) = .slot 1 0x920 := by
  decide +kernel

theorem wit_debugPortSteps :
    let r := (debugged.resumeTarget (.core 1)).stepHart (.core 1)
    debugTarget 1 = some (.core 1) ∧ r.1 = some (.keeper 0) ∧ r.2.fetchKind (.keeper 0) (r.2.ctx (.keeper 0)).pc.toNat = 0 ∧
    (match r.2.place (.hart (.keeper 0)) .fetch (r.2.ctx (.keeper 0)).pc.toNat with | .inr (.cells pa none) => pa == keeperBase | _ => false) = true ∧
    isLong (r.2.memNat keeperBase 4) = false ∧ waitDebug.targetHalted (.core 1) = true ∧
    ((waitDebug.resumeTarget (.core 1)).stepHart (.core 1)).1 = none := by
  decide +kernel

end Sys2Proof.Tests
end

section
/-! # Object writes (chapter 4)

How a write is judged, what telling a path of it may change, and what an accepted write does. -/

namespace Sys2Proof.Machine

open Sys2Proof

/-! ## Bytes and the object table -/

/-- The low bytes of a value are the value of its first bytes (R5). -/
theorem leVal_take_mod (n : Nat) (bs : List Byte) : leVal (bs.take n) % 256 ^ n = leVal bs % 256 ^ n := by
  induction n generalizing bs with
  | zero => simp [Nat.mod_one]
  | succ n ih =>
    cases bs with
    | nil => rfl
    | cons b t =>
      have step (l : List Byte) : leVal (b :: l) % 256 ^ (n + 1) = b.toNat + 256 * (leVal l % 256 ^ n) := by
        have hb : b.toNat < 256 := b.isLt
        change (b.toNat + 256 * leVal l) % 256 ^ (n + 1) = _
        rw [Nat.pow_succ', Nat.mod_mul, Nat.add_mul_mod_self_left, Nat.mod_eq_of_lt hb,
          Nat.add_mul_div_left _ _ (by omega), Nat.div_eq_of_lt hb, Nat.zero_add]
      rw [List.take_succ_cons, step, step, ih]

/-- An entry that is not the constant highest subindex of an index has a row of the tables (R95). -/
theorem rowOf_mem_objTable {i j : Nat} (h : (rowOf i j).acc ≠ .const ∨ (rowOf i j).cls ≠ .fixed) :
    rowOf i j ∈ objTable ∧ (rowOf i j).idxLo ≤ i ∧ i ≤ (rowOf i j).idxHi ∧ (rowOf i j).subLo ≤ j ∧ j ≤ (rowOf i j).subHi := by
  unfold rowOf at h ⊢
  split at h
  case h_1 r hr =>
    have hin := List.find?_some hr
    simp only [Bool.and_eq_true, decide_eq_true_eq] at hin
    exact ⟨List.mem_of_find?_eq_some hr, hin.1.1.1, hin.1.1.2, hin.1.2, hin.2⟩
  case h_2 => simp at h

/-- Every entry that is rw and an S-object is held in the attic (R100, R114). -/
theorem objTable_sObj_attic :
    ∀ r ∈ objTable, r.acc = .rw → r.sObj = true → r.cls = .attic := by
  decide +kernel

/-- The attic's entries at 0x8000 are the calibration set alone, a DOMAIN. -/
theorem objTable_attic_8000 :
    ∀ r ∈ objTable, r.cls = .attic → r.idxLo ≤ 0x8000 → 0x8000 ≤ r.idxHi → r.ty.isDomain = true := by
  decide +kernel

/-- No index up to those of the CAN ports lies behind a selector (R105). -/
theorem objTable_low_sel : ∀ r ∈ objTable, r.idxLo ≤ 0x1F91 → r.sel = .none := by
  decide +kernel

/-- The counters of withheld answers are not rw (R142). -/
theorem objTable_withheld_acc :
    ∀ r ∈ objTable, r.idxLo ≤ 0x1F91 → 0x1F90 ≤ r.idxHi → r.subLo ≤ 0x1A → 0x1A ≤ r.subHi → r.acc ≠ .rw := by
  decide +kernel

/-- Entries behind no selector have keys of their own. -/
theorem okey_inj {i j i' j' : Nat} (hj : j < 256) (hj' : j' < 256) (h : okey i j 0 = okey i' j' 0) : i = i' ∧ j = j' := by
  unfold okey at h
  omega

/-- The key of an rw entry is that of a withheld answer's counter (R142), whatever the selector holds (R105). -/
theorem okey_rw_ne_withheld {i j : Nat} (hj : j < 256) (hrw : (rowOf i j).acc = .rw) (q : PathState) {n : Nat} (hn : n < 2) :
    okey i j (chanKey (q.channel (rowOf i j).sel)) ≠ okey (0x1F90 + n) 0x1A 0 := by
  obtain ⟨hmem, hlo, hhi, hslo, hshi⟩ := rowOf_mem_objTable (i := i) (j := j) (by simp [hrw])
  intro hk
  by_cases hi : i ≤ 0x1F91
  · have hch : chanKey (q.channel (rowOf i j).sel) = 0 := by
      rw [objTable_low_sel _ hmem (by omega)]; rfl
    rw [hch] at hk
    obtain ⟨rfl, rfl⟩ := okey_inj hj (by decide) hk
    exact objTable_withheld_acc _ hmem (by omega) (by omega) hslo hshi hrw
  · unfold okey at hk; omega

/-! ## What telling a path changes -/

/-- Only the paths, what has been sent and the counters of withheld answers differ: what an answer, a refusal and the end of an
upload do (R108, R110, R142). -/
structure TellsOnly (s t : State) : Prop where
  rest : t = { s with paths := t.paths, objs := t.objs, out := t.out }
  obj : ∀ i j c, okey i j c ≠ okey 0x1F90 0x1A 0 → okey i j c ≠ okey 0x1F91 0x1A 0 → t.obj i j c = s.obj i j c

namespace TellsOnly

variable {s t u : State}

theorem refl (s : State) : TellsOnly s s := ⟨rfl, fun _ _ _ _ _ => rfl⟩

theorem trans (h : TellsOnly s t) (k : TellsOnly t u) : TellsOnly s u :=
  ⟨by rw [k.rest, h.rest], fun i j c h0 h1 => (k.obj i j c h0 h1).trans (h.obj i j c h0 h1)⟩

theorem journal (h : TellsOnly s t) : t.journal = s.journal := by rw [h.rest]
theorem attic (h : TellsOnly s t) : t.attic = s.attic := by rw [h.rest]
theorem pw (h : TellsOnly s t) : t.pw = s.pw := by rw [h.rest]
theorem ctxs (h : TellsOnly s t) : t.ctxs = s.ctxs := by rw [h.rest]

theorem sameMemory (h : TellsOnly s t) : SameMemory s t := by
  rw [h.rest]; exact ⟨fun _ => rfl, rfl⟩

theorem modPath (s : State) (c : Nat) (f : PathState → PathState) : TellsOnly s (s.modPath c f) :=
  ⟨rfl, fun i j k _ _ => s.obj_modPath c f i j k⟩

theorem refuse (s : State) (c i j code : Nat) : TellsOnly s (s.refuse c i j code) := modPath s c _

theorem emit (s : State) (o : Output) : TellsOnly s (s.emit o) := ⟨rfl, fun i j k _ _ => s.obj_emit o i j k⟩

/-- A withheld answer is counted on its CAN port. -/
theorem bump_withheld (s : State) {n : Nat} (hn : n < 2) : TellsOnly s (s.bump (0x1F90 + n) 0x1A) := by
  refine ⟨rfl, fun i j c h0 h1 => s.obj_bump_ne ?_⟩
  obtain rfl | rfl : n = 0 ∨ n = 1 := by omega
  · exact h0
  · exact h1

end TellsOnly

/-! ## Answers -/

/-- What an answer on a path can do: nothing on a CAN port that sends none, one more withheld answer on a blocked identifier, else
it is sent (R128, R130, R142, R143). -/
theorem State.answer_cases (s : State) (p code : Nat) (data : List Byte) :
    ((p = 1 ∨ p = 2) ∧ s.usdoSilent (p - 1) = true ∧ s.answer p code data = s) ∨
    ((p = 1 ∨ p = 2) ∧ s.blocked (p - 1) (0x580 + s.nodeId (p - 1)) = true ∧
      s.answer p code data = s.bump (0x1F90 + (p - 1)) 0x1A) ∨
    s.answer p code data = s.emit (.answer p code data) := by
  unfold State.answer
  split
  case isTrue h =>
    simp only [Bool.and_eq_true, Bool.or_eq_true, decide_eq_true_eq] at h
    exact .inl ⟨h.1, h.2, rfl⟩
  case isFalse =>
    split
    case isTrue h =>
      simp only [Bool.and_eq_true, Bool.or_eq_true, decide_eq_true_eq] at h
      exact .inr (.inl ⟨h.1, h.2, rfl⟩)
    case isFalse => exact .inr (.inr rfl)

theorem TellsOnly.answer (s : State) (p code : Nat) (data : List Byte) : TellsOnly s (s.answer p code data) := by
  obtain ⟨-, -, h⟩ | ⟨hp, -, h⟩ | h := s.answer_cases p code data <;> rw [h]
  · exact .refl s
  · exact .bump_withheld s (by omega)
  · exact .emit s _

@[simp] theorem State.answer_paths (s : State) (p code : Nat) (data : List Byte) : (s.answer p code data).paths = s.paths := by
  obtain ⟨-, -, h⟩ | ⟨-, -, h⟩ | h := s.answer_cases p code data <;> rw [h] <;> rfl

/-- A path depends on `paths` alone. -/
theorem State.path_congr {s t : State} (h : t.paths = s.paths) (q : Nat) : t.path q = s.path q := by simp [State.path, h]

/-- The count of withheld answers decides neither which identifiers are blocked nor the node ID in use. -/
theorem State.blocked_bump_withheld (s : State) {n : Nat} (hn : n < 2) :
    (s.bump (0x1F90 + n) 0x1A).blocked n (0x580 + (s.bump (0x1F90 + n) 0x1A).nodeId n) =
      s.blocked n (0x580 + s.nodeId n) := by
  have other (i k : Nat) (hk : k < 256) (h : i = 0x1F90 + n → k ≠ 0x1A) :
      (s.bump (0x1F90 + n) 0x1A).obj i k = s.obj i k :=
    s.obj_bump_ne fun e => let ⟨hi, hm⟩ := okey_inj hk (by decide) e; h hi hm
  have node : (s.bump (0x1F90 + n) 0x1A).nodeId n = s.nodeId n := by
    simp only [State.nodeId, other (0x1F90 + n) 1 (by decide) (by omega), other 0x2000 5 (by decide) (by omega)]
  have slots : ∀ k ∈ blockSlots, (s.bump (0x1F90 + n) 0x1A).obj (0x1F90 + n) k = s.obj (0x1F90 + n) k := by
    intro k hk
    obtain ⟨m, hm, rfl⟩ := List.mem_map.1 hk
    have := List.mem_range.1 hm
    exact other _ _ (by omega) (by omega)
  unfold State.blocked
  rw [node, Bool.eq_iff_iff]
  simp only [Bool.and_eq_true, List.any_eq_true]
  exact and_congr_right fun _ => exists_congr fun k => and_congr_right fun hk => by rw [slots k hk]

/-- A path with the code of a CAN port is that port's (R104). -/
theorem Path.eq_can_of_code {p : Path} (h : p.code = 1 ∨ p.code = 2) : ∃ n : Fin 2, p = .can n ∧ p.code - 1 = n.val := by
  cases p with
  | can n => exact ⟨n, rfl, by simp only [Path.code]; omega⟩
  | _ => simp only [Path.code] at h; omega

/-- Answering a path acknowledges it. -/
theorem acked_answer (p : Path) (code : Nat) (data : List Byte) (s : State) : Acked p code data (s.answer p.code code data) := by
  obtain ⟨hp, hs, h⟩ | ⟨hp, hb, h⟩ | h := s.answer_cases p.code code data <;> rw [h]
  · obtain ⟨n, hn, hc⟩ := Path.eq_can_of_code hp
    exact .inr ⟨n, hn, .inl (hc ▸ hs)⟩
  · obtain ⟨n, hn, hc⟩ := Path.eq_can_of_code hp
    rw [hc] at hb ⊢
    exact .inr ⟨n, hn, .inr ((s.blocked_bump_withheld n.isLt).trans hb)⟩
  · exact .inl rfl

/-- A refusal that is shown on its path and answered there. -/
theorem refuses_refuse_answer (p : Path) (i j code : Nat) (s : State) :
    Refuses p i j code s ((s.refuse p.code i j code).answer p.code code []) := by
  have told : TellsOnly s ((s.refuse p.code i j code).answer p.code code []) :=
    (TellsOnly.refuse s _ i j code).trans (.answer _ _ _ _)
  have path (q : Nat) := State.path_congr ((s.refuse p.code i j code).answer_paths p.code code []) q
  refine ⟨acked_answer p code [] _, ?_, fun q hq => ?_, told.journal, told.attic, told.pw, told.ctxs, told.sameMemory, told.obj⟩
  · rw [path]; exact s.path_modPath_self _ _
  · rw [path]; exact s.path_modPath_ne _ hq

/-! ## Uploads of an entry that is written (R110) -/

theorem TellsOnly.failSession (s : State) (c code : Nat) : TellsOnly s (s.failSession c code) := by
  unfold State.failSession
  split
  · exact .refl s
  · have shown := fun f i j r => (TellsOnly.modPath s c f).trans (.refuse _ c i j r)
    dsimp only
    split
    · exact shown _ _ _ _
    · exact (shown _ _ _ _).trans (.answer _ _ _ _)

theorem TellsOnly.invalidate (s : State) (i j ch : Nat) : TellsOnly s (s.invalidate i j ch) := by
  unfold State.invalidate
  refine foldl_keeps (TellsOnly s) _ (fun b c hb => ?_) _ s (.refl s)
  dsimp only
  split <;> split
  · exact (hb.trans (.modPath _ _ _)).trans (.failSession _ _ _)
  · exact hb.trans (.modPath _ _ _)
  · exact hb.trans (.failSession _ _ _)
  · exact hb

end Sys2Proof.Machine
end

section
/-! # The judgement and the commit of an object write (R111, R114, R119) -/

namespace Sys2Proof.Machine

open Sys2Proof

/-! ## A path that is served whole -/

section
variable {p : Path} {s : State}

/-- A path that is served whole is refused no index (R64, R353, R355). -/
theorem serveCode_of_serving (h : Serving p s) (i : Nat) : s.serveCode p.code i = 0 := by
  obtain ⟨-, hmode, hrestricted, hhalted, hparked, -⟩ := h
  have hsafe : s.pw.mode ≠ .safe := by rcases hmode with h | h | h | h <;> simp [h]
  simp [State.serveCode, hparked, hsafe, hrestricted, hhalted]

/-- With no sequence armed there is none to end (R115). -/
theorem endSequence_of_unarmed {c : Nat} (h : (s.path c).armed = none) : s.endSequence c = s := by
  simp [State.endSequence, h]

/-- OBJECT_WRITE on a path that is delivered is the write itself (R102, R502). -/
theorem exec_objectWrite (h : Delivered p s) (i : BitVec 16) (j : Byte) (data : List Byte) (enables : Bool) :
    exec (.objectWrite p i j ⟨data, enables⟩) s = .next (s.objectWriteOn p i.toNat j.toNat data enables) := by
  obtain ⟨hoff, hlive, hholds⟩ := h
  have : exec (.objectWrite p i j ⟨data, enables⟩) s = execObjectWrite p i j ⟨data, enables⟩ s := rfl
  simp [this, execObjectWrite, State.deliver, hoff, hlive, hholds]

end

/-! ## The first refusal that applies -/

/-- The first code of two lists of checks is that of their joint list. -/
theorem firstCode_ite {P : Prop} [Decidable P] {c x y : Nat} (hc : c ≠ 0) :
    (if (if P then c else x) ≠ 0 then (if P then c else x) else y) = if P then c else if x ≠ 0 then x else y := by
  by_cases hP : P
  · rw [if_pos hP, if_pos hc, if_pos hP]
  · rw [if_neg hP, if_neg hP]

/-- Whether an entry exists, as a list of checks (R95, R111). -/
theorem existsCode_eq (i j : Nat) : existsCode i j =
    if indexExists i = false then 0x06020000 else if (objRow? i j).isNone = true ∧ j ≠ 0 then 0x06090011 else 0 := by
  unfold existsCode
  cases indexExists i with
  | false => rfl
  | true => cases objRow? i j <;> by_cases hj : j = 0 <;> simp [hj]

/-- The refusal of a direct write by its form, as a list of checks in the order of the tables (R98, R107, R111). -/
theorem State.formCode_direct {s : State} {p i : Nat} (hserve : s.serveCode p i = 0) (j : Nat) (data : List Byte) :
    s.formCode p i j data false =
      if indexExists i = false then 0x06020000
      else if (objRow? i j).isNone = true ∧ j ≠ 0 then 0x06090011
      else if (rowOf i j).acc ≠ .wo ∧ (rowOf i j).acc ≠ .rw then 0x06010002
      else if (rowOf i j).ty.isDomain = true then 0x06010000
      else if data.length ≠ (rowOf i j).ty.size then 0x06070010
      else 0 := by
  unfold State.formCode
  simp only [hserve, bne_iff_ne, existsCode_eq, firstCode_ite, ne_eq, OfNat.ofNat_ne_zero, not_false_eq_true, not_true_eq_false,
    if_false, Bool.and_eq_true]
  cases (rowOf i j).ty <;> simp [ObjTy.isDomain]

/-- The code of the first check of R111 that turns a direct write away, in the order of log entry 5; 0 where none does. -/
def State.firstRefusal (s : State) (p i j ch : Nat) (data : List Byte) : Nat :=
  if indexExists i = false then 0x06020000
  else if (objRow? i j).isNone = true ∧ j ≠ 0 then 0x06090011
  else if (rowOf i j).acc ≠ .wo ∧ (rowOf i j).acc ≠ .rw then 0x06010002
  else if (rowOf i j).ty.isDomain = true then 0x06010000
  else if data.length ≠ (rowOf i j).ty.size then 0x06070010
  else if (rowOf i j).sObj = true ∧ s.pw.mode ≠ .bench then 0x08000022
  else if (rowOf i j).sObj = true ∧ s.windowOpen p = false then 0x08000021
  else if (rowOf i j).admits (leVal data) = false then 0x06090030
  else s.chapterCheck p i j (chanKey ch) (leVal data)

/-- A path that is served whole judges a direct write by the first check that turns it away. -/
theorem judge_of_serving {p : Path} {s : State} (h : Serving p s) (i j ch : Nat) (data : List Byte) :
    s.judge p.code i j ch data false false = s.firstRefusal p.code i j ch data := by
  have hparked : s.pw.mode ≠ .parked := by
    obtain ⟨-, hmode, -⟩ := h
    rcases hmode with h | h | h | h <;> simp [h]
  have hsafety : s.safetyCode p.code i j false =
      if (rowOf i j).sObj = true ∧ s.pw.mode ≠ .bench then 0x08000022
      else if (rowOf i j).sObj = true ∧ s.windowOpen p.code = false then 0x08000021 else 0 := by
    unfold State.safetyCode
    cases (rowOf i j).sObj <;> simp [hparked]
  unfold State.judge State.firstRefusal
  simp only [bne_iff_ne, State.formCode_direct (serveCode_of_serving h i), hsafety]
  cases ht : (rowOf i j).ty.isDomain
  · simp only [firstCode_ite, ne_eq, OfNat.ofNat_ne_zero, not_false_eq_true, not_true_eq_false, if_false, Bool.false_eq_true,
      Bool.not_eq_true']
  · simp only [firstCode_ite, ne_eq, OfNat.ofNat_ne_zero, not_false_eq_true, if_true]

/-- No DOMAIN is written directly (R107). -/
theorem State.not_isDomain_of_judge {s : State} {p i j ch : Nat} {data : List Byte} {w : Bool}
    (h : s.judge p i j ch data false w = 0) : (rowOf i j).ty.isDomain = false := by
  cases ht : (rowOf i j).ty with
  | domain n =>
    refine absurd h ?_
    have hform : s.formCode p i j data false ≠ 0 := by
      unfold State.formCode
      simp only [ht, Bool.not_false, if_true]
      split_ifs with hserve hexists
      · simpa using hserve
      · simpa using hexists
      · decide
      · decide
    simp [State.judge, hform]
  | _ => rfl

/-! ## A write on a path -/

section
variable {s : State} {p i j : Nat} {data : List Byte}

/-- A write with no sequence armed, beside the mailbox, is judged in the state as it stands. -/
theorem State.dictWrite_of_unarmed (harmed : (s.path p).armed = none) (hi : i ≠ 0x2020) (whole answers : Bool) :
    let ch := (s.path p).channel (rowOf i j).sel
    let c := s.judge p i j ch data whole false
    s.dictWrite p i j data whole answers =
      if c ≠ 0 then (c, s.refuse p i j c)
      else
        let r := (s.windowEdge p i j).commitWrite p i j ch data false answers
        if r.1 ≠ 0 then (r.1, r.2.refuse p i j r.1) else (0, r.2) := by
  simp [State.dictWrite, endSequence_of_unarmed harmed, hi]

/-- A write of an object other than the mailbox's is answered, unless it waits for the attic (R101). -/
theorem State.dictAccess_object (hlive : s.live p = true) (hi : i ≠ 0x2020) :
    let r := s.dictWrite p i j data false true
    s.dictAccess p i j data = if r.1 = 0 ∧ (rowOf i j).cls = .attic then r.2 else r.2.answer p r.1 [] := by
  simp [State.dictAccess, State.accessOn, hlive, hi]

/-- An accepted write of an attic entry waits for the attic (R101). -/
theorem State.commitWrite_attic {ch : Nat} {byRecord answers : Bool} (hkey : ¬(i = 0x2010 ∧ j = 1))
    (hreq : ¬(i = 0xB000 ∧ j = 1)) (hcls : (rowOf i j).cls = .attic) (hcal : i ≠ 0x8000) :
    s.commitWrite p i j ch data byRecord answers =
      (0, { s with attic := { s.attic with
        queue := s.attic.queue ++ [AtticWrite.mk p i j ch data s.pw.mode.code byRecord answers] } }) := by
  simp [State.commitWrite, hkey, hreq, hcls, hcal]

/-- An accepted write of a value that is neither path-local nor the attic's takes effect at once (R101). -/
theorem State.commitWrite_value {ch : Nat} {byRecord answers : Bool} (hkey : ¬(i = 0x2010 ∧ j = 1))
    (hreq : ¬(i = 0xB000 ∧ j = 1)) (hpath : (rowOf i j).cls ≠ .path) (hattic : (rowOf i j).cls ≠ .attic)
    (hdom : (rowOf i j).ty.isDomain = false) :
    s.commitWrite p i j ch data byRecord answers = (0, s.takeEffect p i j ch data s.pw.mode.code byRecord) := by
  simp [State.commitWrite, hkey, hreq, hpath, hattic, hdom]

/-- The near-miss at the closing edge of a window changes dictionary entries alone (R211). -/
theorem State.windowEdge_eq (s : State) (p i j : Nat) : s.windowEdge p i j = { s with objs := (s.windowEdge p i j).objs } := by
  unfold State.windowEdge
  split
  · exact s.nearEdge_eq _ _
  · rfl

/-- Beside the counts of near-misses, the edge of a window leaves every entry (R211). -/
theorem State.sameObjs_windowEdge (s : State) (p i j : Nat) : SameObjs [] s (s.windowEdge p i j) := by
  intro i' j' c hk
  simp only [List.nil_append, List.mem_cons, List.not_mem_nil, or_false, not_or] at hk
  obtain ⟨-, -, h1, h2⟩ := hk
  unfold State.windowEdge
  split
  · unfold State.nearEdge State.nearMiss
    split
    · rw [State.nearMissIn_eq, State.obj_bump_ne _ h2, State.obj_bump_ne _ h1]
    · rfl
  · rfl

/-- Only an S-object write has a window to be on the edge of (R115). -/
theorem State.windowEdge_of_not_sObj (h : (rowOf i j).sObj = false) : s.windowEdge p i j = s := by
  simp [State.windowEdge, h]

/-- What a write does to whose entry the chapters add no effect: the value is stored and journaled, and uploads of the entry end
(R110, R119). -/
theorem State.takeEffect_plain {ch st : Nat} {byRecord : Bool} (hdom : (rowOf i j).ty.isDomain = false)
    (hrw : (rowOf i j).acc = .rw) (hbank : i ≠ 0x4030) (hemcy : ¬(i = 0x1014 ∧ j = 1))
    (htpdo : ¬(0x1800 ≤ i ∧ i ≤ 0x1807 ∧ j = 1)) (hheld : ¬(i = 0x9001 ∧ s.gptpHolds = true))
    (heffect : ∀ (u : State) (old : Nat), u.chapterEffect p i j (chanKey ch) old (leVal data) = u) :
    ∃ flags, s.takeEffect p i j ch data st byRecord =
      ((s.setObj i j (leVal data) (chanKey ch)).journalAdd p i j ch st flags (s.oldValue p i j ch)
        (leVal (data.take 8))).invalidate i j ch := by
  have hcob : ((decide (i = 0x1014) && decide (j = 1)) ||
      (decide (0x1800 ≤ i) && decide (i ≤ 0x1807) && decide (j = 1))) = false := by
    simp only [Bool.or_eq_false_iff, ← Bool.decide_and, decide_eq_false_iff_not, and_assoc]
    exact ⟨hemcy, htpdo⟩
  have hnow : (decide (i = 0x9001) && s.gptpHolds) = false := by simpa using hheld
  have hstore : s.storeValue i j (chanKey ch) (leVal data) = s.setObj i j (leVal data) (chanKey ch) := by
    unfold State.storeValue
    rw [hrw, if_neg (by decide), if_neg hbank, hcob, if_neg Bool.false_ne_true]
  unfold State.takeEffect
  simp only [hdom, hnow, hstore, heffect, Bool.or_self, Bool.false_eq_true, if_false]
  exact ⟨_, rfl⟩

end

end Sys2Proof.Machine
end

section
/-! # The obligation on object writes -/

namespace Sys2Proof

open Sys2Proof.Machine

/-! ## Direct writes -/

/-- A value that has been stored and journaled is all that has changed, once its path has been told of it (R110, R119). -/
theorem stored_of_told {s t : State} {p i j ch k flags old new v : Nat} (hrest : ∀ n < 2, okey i j k ≠ okey (0x1F90 + n) 0x1A 0)
    (hnew : new % 2 ^ 64 = v % 2 ^ 64)
    (told : TellsOnly ((s.setObj i j v k).journalAdd p i j ch s.pw.mode.code flags old new) t) :
    t.obj i j k = v ∧ Journaled p i j ch old v s t ∧ SameObjs [okey i j k] s t ∧ SameMemory s t := by
  refine ⟨?_, ?_, fun i' j' c hkey => ?_, told.sameMemory⟩
  · rw [told.obj i j k (hrest 0 (by decide)) (hrest 1 (by decide))]
    exact s.obj_setObj_self i j v k
  · unfold Journaled
    rw [told.journal, ← hnew]
    exact ⟨_, List.mem_cons_self, rfl, rfl, rfl, rfl, rfl, rfl, rfl, rfl⟩
  · simp only [List.cons_append, List.nil_append, List.mem_cons, not_or] at hkey
    obtain ⟨hself, h0, h1, -⟩ := hkey
    rw [told.obj i' j' c h0 h1]
    exact s.obj_setObj_ne hself

section
variable {p : Path} {s : State} {i j ch : Nat} {data : List Byte}
variable (hserving : Serving p s) (hi : i ≠ 0x2020) (hch : (s.path p.code).channel (rowOf i j).sel = ch)
include hserving hi hch

/-- A direct write that a check of R111 turns away is refused with that check's code (R12, R108). -/
theorem dictAccess_refuses (hcode : s.firstRefusal p.code i j ch data ≠ 0) :
    Refuses p i j (s.firstRefusal p.code i j ch data) s (s.dictAccess p.code i j data) := by
  have hjudge := judge_of_serving hserving i j ch data
  obtain ⟨⟨-, hlive, -⟩, -, -, -, -, harmed⟩ := hserving
  rw [State.dictAccess_object hlive hi, State.dictWrite_of_unarmed harmed hi, hch, hjudge]
  simp only [hcode, ne_eq, not_false_eq_true, if_true, false_and, if_false]
  exact refuses_refuse_answer p _ _ _ s

/-- An accepted write that commits is answered with 0, unless it waits for the attic (R101). -/
theorem dictAccess_accepted {t : State} (hjudge : s.judge p.code i j ch data false false = 0)
    (hcommit : (s.windowEdge p.code i j).commitWrite p.code i j ch data false true = (0, t)) :
    s.dictAccess p.code i j data = if (rowOf i j).cls = .attic then t else t.answer p.code 0 [] := by
  obtain ⟨⟨-, hlive, -⟩, -, -, -, -, harmed⟩ := hserving
  rw [State.dictAccess_object hlive hi, State.dictWrite_of_unarmed harmed hi, hch, hjudge]
  simp [hcommit]

variable (hjudge : s.judge p.code i j ch data false false = 0)
variable (hkey : ¬(i = 0x2010 ∧ j = 1)) (hreq : ¬(i = 0xB000 ∧ j = 1))
include hjudge hkey hreq

/-- An accepted write of an attic entry joins the attic's queue, unanswered (R101). -/
theorem dictAccess_attic (hcls : (rowOf i j).cls = .attic) :
    (s.dictAccess p.code i j data).attic.queue =
      s.attic.queue ++ [AtticWrite.mk p.code i j ch data s.pw.mode.code false true] ∧
    (s.dictAccess p.code i j data).out = s.out ∧ (s.dictAccess p.code i j data).journal = s.journal ∧
    SameObjs [] s (s.dictAccess p.code i j data) ∧ SameMemory s (s.dictAccess p.code i j data) := by
  have hcal : i ≠ 0x8000 := by
    intro h8
    obtain ⟨hmem, hlo, hhi, -⟩ := rowOf_mem_objTable (.inr (by rw [hcls]; decide))
    have hdom := objTable_attic_8000 _ hmem hcls (h8 ▸ hlo) (h8 ▸ hhi)
    simp [State.not_isDomain_of_judge hjudge] at hdom
  rw [dictAccess_accepted hserving hi hch hjudge (State.commitWrite_attic hkey hreq hcls hcal), if_pos hcls]
  have hobjs := s.sameObjs_windowEdge p.code i j
  rw [s.windowEdge_eq] at hobjs ⊢
  exact ⟨rfl, rfl, rfl, hobjs, fun _ => rfl, rfl⟩

/-- An accepted write of an rw entry to whose writes the chapters add no effect stores the value alone, is journaled and answered
with 0 (R12, R119, R120). -/
theorem dictAccess_stores (hj : j < 256) (hpath : (rowOf i j).cls ≠ .path) (hattic : (rowOf i j).cls ≠ .attic)
    (hrw : (rowOf i j).acc = .rw) (hbank : i ≠ 0x4030) (hemcy : ¬(i = 0x1014 ∧ j = 1))
    (htpdo : ¬(0x1800 ≤ i ∧ i ≤ 0x1807 ∧ j = 1)) (hnow : ¬(i = 0x9001 ∧ s.gptpHolds = true))
    (heffect : ∀ (u : State) (old : Nat), u.chapterEffect p.code i j (chanKey ch) old (leVal data) = u) :
    Acked p 0 [] (s.dictAccess p.code i j data) ∧ (s.dictAccess p.code i j data).obj i j (chanKey ch) = leVal data ∧
    Journaled p.code i j ch (s.oldValue p.code i j ch) (leVal data) s (s.dictAccess p.code i j data) ∧
    SameObjs [okey i j (chanKey ch)] s (s.dictAccess p.code i j data) ∧ SameMemory s (s.dictAccess p.code i j data) := by
  have hdom := State.not_isDomain_of_judge hjudge
  have hplain : (rowOf i j).sObj = false := by
    have hmem := (rowOf_mem_objTable (i := i) (j := j) (.inl (by rw [hrw]; decide))).1
    exact Bool.eq_false_iff.2 fun hs => hattic (objTable_sObj_attic _ hmem hrw hs)
  obtain ⟨flags, htake⟩ := State.takeEffect_plain (s := s) (st := s.pw.mode.code) (byRecord := false)
    hdom hrw hbank hemcy htpdo hnow heffect
  have hcommit : (s.windowEdge p.code i j).commitWrite p.code i j ch data false true =
      (0, s.takeEffect p.code i j ch data s.pw.mode.code false) := by
    rw [State.windowEdge_of_not_sObj hplain, State.commitWrite_value hkey hreq hpath hattic hdom]
  rw [dictAccess_accepted hserving hi hch hjudge hcommit, if_neg hattic, htake]
  refine ⟨acked_answer p 0 [] _, stored_of_told (fun n hn => ?_) ?_ ((TellsOnly.invalidate _ i j ch).trans (.answer _ _ _ _))⟩
  · exact hch ▸ okey_rw_ne_withheld hj hrw (s.path p.code) hn
  · simpa using leVal_take_mod 8 data

end

/-! ## Mirror writes -/

section
variable {ty : ObjTy} {data : List Byte} {enables : Bool}

/-- A DOMAIN has no mirror (R107). -/
theorem mirrorValue_domain (hdom : ty.isDomain = true) : mirrorValue ty data enables = .inl 0x06010000 := by
  simp [mirrorValue, hdom]

/-- The mirror takes whole dwords with every byte enabled, and nothing less (R106). -/
theorem mirrorValue_partial (hdom : ty.isDomain = false) (hpart : enables = false ∨ data.length ≠ roundUp ty.size 4) :
    mirrorValue ty data enables = .inl 0x06070010 := by
  have hform : (!enables || data.length != roundUp ty.size 4) = true := by simpa using hpart
  simp [mirrorValue, hdom, hform]

/-- Whole dwords are the value's low bytes where the bytes beyond it extend it, and out of range elsewhere (R106). -/
theorem mirrorValue_whole (hdom : ty.isDomain = false) (hen : enables = true) (hlen : data.length = roundUp ty.size 4) :
    ((∀ b ∈ data.drop ty.size, b = mirrorSign ty data) → mirrorValue ty data enables = .inr (data.take ty.size)) ∧
    ((¬∀ b ∈ data.drop ty.size, b = mirrorSign ty data) → mirrorValue ty data enables = .inl 0x06090030) := by
  have hvalue : mirrorValue ty data enables = if (data.drop ty.size).all (· == mirrorSign ty data) then
      .inr (data.take ty.size) else .inl 0x06090030 := by
    simp only [mirrorValue, hdom, hen, hlen, Bool.not_true, bne_self_eq_false, Bool.or_self, Bool.false_eq_true, if_false]
  simp only [hvalue, List.all_eq_true, beq_iff_eq]
  exact ⟨fun h => if_pos h, fun h => if_neg h⟩

end

section
variable {p : Path} {s : State} {i j : Nat} {data : List Byte} {enables : Bool}

/-- A mirror write out of form is refused with its code (R106 to R108). -/
theorem objectWriteOn_mirror_refuses (h : Serving p s) (hp : p.isPcie = true) (hexists : existsCode i j = 0) {c : Nat}
    (hform : mirrorValue (rowOf i j).ty data enables = .inl c) : Refuses p i j c s (s.objectWriteOn p i j data enables) := by
  have hserve := serveCode_of_serving h i
  obtain ⟨-, -, -, -, -, harmed⟩ := h
  simp only [State.objectWriteOn, hp, hserve, hexists, hform, endSequence_of_unarmed harmed, decide_true, Bool.and_self, if_true]
  exact refuses_refuse_answer p _ _ c s

/-- A mirror write in form is the write of its value (R106). -/
theorem objectWriteOn_mirror_value (h : Serving p s) (hp : p.isPcie = true) (hexists : existsCode i j = 0) {v : List Byte}
    (hform : mirrorValue (rowOf i j).ty data enables = .inr v) :
    s.objectWriteOn p i j data enables = s.dictAccess p.code i j v := by
  simp only [State.objectWriteOn, hp, serveCode_of_serving h, hexists, hform, decide_true, Bool.and_self, if_true]

/-- A write of a path that is no PCIe function reaches the dictionary as it is. -/
theorem objectWriteOn_direct (hp : p.isPcie = false) : s.objectWriteOn p i j data enables = s.dictAccess p.code i j data := by
  simp [State.objectWriteOn, hp]

end

/-- Settles O37: a direct write is judged by the first check that turns it away, waits for the attic or stores its value; a mirror
write is the write of its low bytes. -/
theorem objectWritesAreJudgedInOrder : Obligations.ObjectWritesAreJudgedInOrder := by
  constructor
  · intro p idx sub data enables s i j r ch hserving hp hi
    have hexec : exec (.objectWrite p idx sub ⟨data, enables⟩) s = .next (s.dictAccess p.code i j data) := by
      rw [exec_objectWrite hserving.1, objectWriteOn_direct hp]
    refine ⟨fun hcode => answers_next hexec (dictAccess_refuses hserving hi rfl hcode), fun hjudge hpath hkey hreq =>
      ⟨fun hcls => answers_next hexec (dictAccess_attic hserving hi rfl hjudge hkey hreq hcls),
        fun hattic hrw hbank hemcy htpdo hnow heffect => answers_next hexec ?_⟩⟩
    exact dictAccess_stores hserving hi rfl hjudge hkey hreq sub.isLt hpath hattic hrw hbank hemcy htpdo hnow heffect
  · intro p idx sub data enables s i j r n extends_ hserving hp hexists
    have hexec := exec_objectWrite hserving.1 idx sub data enables
    refine ⟨fun hdom => answers_next hexec ?_, fun hdom hpart => answers_next hexec ?_,
      fun hdom hen hlen hext => answers_next hexec ?_, fun hdom hen hlen hext => answers_next hexec ?_⟩
    · exact objectWriteOn_mirror_refuses hserving hp hexists (mirrorValue_domain hdom)
    · exact objectWriteOn_mirror_refuses hserving hp hexists (mirrorValue_partial hdom hpart)
    · exact objectWriteOn_mirror_refuses hserving hp hexists ((mirrorValue_whole hdom hen hlen).2 hext)
    · exact objectWriteOn_mirror_value hserving hp hexists ((mirrorValue_whole hdom hen hlen).1 hext)

end Sys2Proof
end

section
/-! # The attic where VAON leaves its range (R101, R515) -/

namespace Sys2Proof.Machine

open Sys2Proof

/-- OFF drops what the attic has accepted and not stored; what it has stored stays (R68, R101). -/
theorem State.turnOff_attic (s : State) : s.turnOff.attic = { s.attic with queue := [], pendSet := none } := rfl

/-- With VAON out of range the attic keeps what it has stored alone (R101, R515). -/
theorem State.vaonLost_attic (s : State) (mv : Nat) (flagSurvives : Bool) :
    (s.vaonLost mv flagSurvives).attic = { s.attic with queue := [], pendSet := none } :=
  State.turnOff_attic { s with pw := { s.pw with
    vaonOk := false
    lowVaon := if s.pw.vaonOk then mv else min s.pw.lowVaon mv
    offCause := if s.pw.porst || !flagSurvives then 1 else 2 } }

/-- A fault of rail 2 is the loss of VAON, in every state but OFF (R515). -/
theorem exec_railFault_vaon {s : State} (h : s.pw.mode ≠ .off) (high : Bool) (mv : BitVec 16) :
    exec (.railFault 2 high mv) s = .next (s.vaonLost mv.toNat true) := by
  have : exec (.railFault 2 high mv) s = execRailFault 2 high mv s := rfl
  simp [this, execRailFault, h]

end Sys2Proof.Machine

namespace Sys2Proof

open Sys2Proof.Machine

/-- BENCH with a write of the boot option 0x2040:01 that the attic has accepted on JTAG and not stored yet. -/
def benchWithWaitingWrite : State :=
  { State.reset with
    pw := { Power.reset with mode := .bench, porst := false }
    attic := { Attic.factory with queue :=
      [{ path := 0x38, idx := 0x2040, sub := 1, chan := 0, data := [1], state := 3, byRecord := false, answers := true }] } }

/-- Refutes O51: its clause on a fault of the VAON rail has the whole attic stay. A write that the attic has accepted and not stored
yet is lost with VAON (R101: "the previous value stays in force"), and the model drops it from the attic's queue. -/
theorem not_testsScrubsAndMonitorsFollowTheirRules : ¬ Obligations.TestsScrubsAndMonitorsFollowTheirRules := by
  unfold Obligations.TestsScrubsAndMonitorsFollowTheirRules
  rintro ⟨-, -, hmonitors⟩
  have hawake : benchWithWaitingWrite.pw.mode ≠ .off := by decide
  obtain ⟨-, -, -, -, hvaon, -⟩ := hmonitors .refclk 2 false 0 benchWithWaitingWrite
  obtain ⟨t, hexec, -, -, -, hattic⟩ := hvaon hawake
  rw [exec_railFault_vaon hawake] at hexec
  obtain rfl := Host.Outcome.next.inj hexec
  rw [State.vaonLost_attic] at hattic
  exact absurd (congrArg (·.queue.length) hattic) (by decide)

end Sys2Proof
end

section
/-! # A partition reset that names no engine of the device (R83, R341) -/

namespace Sys2Proof

open Sys2Proof.Machine

/-- A number beyond the 48 engines; as the channel of 0x4020:06 it gives the key of 0x5110:0A, the mask of engines out of service. -/
def strayEngine : Nat := 0x10F0040000

theorem okey_strayEngine : okey 0x4020 6 strayEngine = okey 0x5110 0x0A 0 := by decide

/-- HANDOVER on the way to DRIVE with the engines untested and no job; engine 1 is out of service, and a partition reset stands at
engine 0, with `strayEngine` to follow. -/
def handoverWithStrayReset : State :=
  { State.reset with
    pw := { Power.reset with mode := .handover, porst := false }
    su := { Startup.idle with toDrive := true }
    objs := [(okey 0x5110 0x0A 0, 2)]
    sched := { Sched.idle with resets := [{ part := 0, engine := 0, left := [0, strayEngine], aborted := 0 }] } }

/-- Engine 0 fails its test there: the reset goes on to `strayEngine`, whose dike closes with cause 0x01, and engine 1 no longer
reads as out of service. -/
theorem exec_engineLbistDone_strayReset :
    ∃ t, exec (.engineLbistDone 1 0) handoverWithStrayReset = .next t ∧ t.outOfService 1 = false :=
  ⟨_, rfl, by decide +kernel⟩

/-- Refutes O35: its clauses on ENGINE_LBIST_DONE take every state, and bound no engine number of a partition reset. In HANDOVER
engine 0 fails its test while a reset stands at it; the next number of the reset lies beyond the 48 engines, the cause that its dike
shows is written over 0x5110:0A, and engine 1, which was out of service, is in service again. -/
theorem not_startUpStepsRunInOrder : ¬ Obligations.StartUpStepsRunInOrder := by
  unfold Obligations.StartUpStepsRunInOrder
  rintro ⟨-, -, -, -, hhandover⟩
  obtain ⟨t, hexec, -, -, hservice⟩ := hhandover handoverWithStrayReset rfl rfl rfl rfl 1 0
  obtain ⟨u, hexec', hback⟩ := exec_engineLbistDone_strayReset
  obtain rfl := Host.Outcome.next.inj (hexec.symm.trans hexec')
  have hout : handoverWithStrayReset.outOfService 1 = true := by decide
  have h1 := hservice 1
  simp [hback, hout] at h1

end Sys2Proof
end

section
/-! # A UDP peer's write that waits for the attic (R101, R137) -/

namespace Sys2Proof

open Sys2Proof.Machine

/-- A write of the boot option 0x2040:01 by UDP peer 0, which the attic has accepted and not stored. -/
def peerBootWrite : AtticWrite :=
  { path := 0x20, idx := 0x2040, sub := 1, chan := 0xFFFF, data := [1], state := 3, byRecord := false, answers := true }

/-- BENCH with that write at the head of the attic's queue, the peer's slot waiting for its response. -/
def benchWithWaitingPeer : State :=
  { State.reset with
    pw := { Power.reset with mode := .bench, porst := false }
    clk := { Clock.reset with tbRun := true }
    attic := { Attic.factory with queue := [peerBootWrite] }
    paths := [(0x20, { PathState.fresh with busy := some (zeros 24) })] }

/-- The write is stored, and the response that leaves for the peer is counted in 0x1F98:01. -/
theorem exec_atticWriteDone_waitingPeer :
    ∃ t, exec (.atticWriteDone true) benchWithWaitingPeer = .next t ∧ t.obj 0x1F98 1 = 1 :=
  ⟨_, rfl, by decide +kernel⟩

/-- Refutes O54: its clause on ATTIC_WRITE_DONE lets no entry change beside the one written and the wear of its block. Where the
write is a UDP peer's, the response that has waited for it leaves now (R101, R137) and counts in 0x1F98:01. -/
theorem not_atticPoldersAndBar4FollowTheirRules : ¬ Obligations.AtticPoldersAndBar4FollowTheirRules := by
  unfold Obligations.AtticPoldersAndBar4FollowTheirRules
  rintro ⟨hattic, -⟩
  obtain ⟨-, hdone, -⟩ := hattic benchWithWaitingPeer rfl rfl rfl
  obtain ⟨⟨t, hexec, -, -, -, -, hsame, -⟩, -⟩ :=
    hdone peerBootWrite [] rfl rfl (by decide) (by decide) rfl (by decide +kernel)
  obtain ⟨u, hexec', hcount⟩ := exec_atticWriteDone_waitingPeer
  obtain rfl := Host.Outcome.next.inj (hexec.symm.trans hexec')
  have hstays := hsame 0x1F98 1 0 (by decide)
  rw [hcount] at hstays
  exact absurd hstays (by decide +kernel)

end Sys2Proof
end

section
/-! # A sluice of no stream at the SAFE commit (R217, R353) -/

namespace Sys2Proof

open Sys2Proof.Machine

/-- The stream number for which "frame start awaited" (0x3002:01) is kept under the key of 0x5000:05: the model's stream numbers
and keys have no bound. -/
def strayStream : Nat := okey 0x5000 5 0 - okey 0x3002 1 0

/-- An enabled sluice of that number, with nothing in it. -/
def straySluice : Sluice :=
  { stream := strayStream, on := true, base := 0, size := 4096, line := 0, index := 0, next := 0, filling := none, good := []
    recent := [], lineStamp := 0, lineNs := 0, sensorTime := none, owners := [], seq := none, lineTick := 0, lineAt := 0
    frameAt := 0, strips := [], ringNext := 0, lastDeadline := 0, above := false, spillAt := none, lut := [], grid := 0
    anchors := [] }

/-- BENCH with a class-S detection of code 3 that waits, and one sluice, enabled under that number. -/
def benchWithStraySluice : State :=
  { State.reset with
    pw := { Power.reset with mode := .bench, porst := false, pendSafe := some (3, 0) }
    clk := { Clock.reset with tbRun := true }
    seq := { Seq.idle with sluices := [straySluice] } }

/-- The commit writes 1 for the sluice before it counts, so that the count of class-S events goes from 0 to 2. -/
theorem exec_safeCommit_straySluice : ∃ t, exec .safeCommit benchWithStraySluice = .next t ∧ t.obj 0x5000 5 = 2 :=
  ⟨_, rfl, by decide +kernel⟩

/-- Refutes O50: its clause on SAFE_COMMIT counts one event in 0x5000:05 for every state, also for one whose enabled sluice has no
stream of the board and lies on that entry. -/
theorem not_keepersAndSafeFollowTheirRules : ¬ Obligations.KeepersAndSafeFollowTheirRules := by
  unfold Obligations.KeepersAndSafeFollowTheirRules
  rintro ⟨-, hrules⟩
  obtain ⟨-, -, -, hcommit, -⟩ := hrules benchWithStraySluice
  obtain ⟨t, hexec, -, -, -, -, -, -, -, -, hcount, -⟩ := hcommit 3 0 rfl rfl (by decide) rfl
  obtain ⟨u, hexec', htwo⟩ := exec_safeCommit_straySluice
  obtain rfl := Host.Outcome.next.inj (hexec.symm.trans hexec')
  rw [htwo] at hcount
  exact absurd hcount (by decide +kernel)

end Sys2Proof
end

section
/-! # What an EMCY, the error register and the monitor channels may change

Events raise EMCYs and feed monitor channels (R135, R140, R400 to R406). A clause that is not about those reports needs to know
that they leave everything else alone: `ReportsOnly`. -/

namespace Sys2Proof.Machine

open Sys2Proof

/-- The key of an entry that EMCYs, the error register and the monitor channels keep: 0x1001, the CAN ports' 0x1F90 and 0x1F91,
and the channels' 0x7001 and 0x7002. -/
def reportKey (k : Nat) : Bool :=
  k / 2 ^ 24 = 0x1001 || k / 2 ^ 24 = 0x1F90 || k / 2 ^ 24 = 0x1F91 || k / 2 ^ 24 = 0x7001 || k / 2 ^ 24 = 0x7002

/-- A key holds its index above the subindex and the channel. -/
theorem okey_div {j c : Nat} (i : Nat) (hj : j < 256) (hc : c < 65536) : okey i j c / 2 ^ 24 = i := by
  unfold okey; omega

/-- An entry of a list of keys under another key. -/
theorem State.objK_setObj_ne (s : State) {i j v c k : Nat} (h : k ≠ okey i j c) : (s.setObj i j v c).objK k = s.objK k :=
  Amap.get_set_other' _ _ _ _ h

/-- From `s` to `t` only reports have changed: their own entries, the EMCY queues, the channels' states, and what was sent, to
which more may have come. -/
structure ReportsOnly (s t : State) : Prop where
  rest : t = { s with objs := t.objs, can := t.can, mons := t.mons, out := t.out }
  objK : ∀ k, reportKey k = false → t.objK k = s.objK k
  sent : ∀ o ∈ s.out, o ∈ t.out

namespace ReportsOnly

variable {s t u : State}

theorem refl (s : State) : ReportsOnly s s := ⟨rfl, fun _ _ => rfl, fun _ h => h⟩

theorem trans (h : ReportsOnly s t) (k : ReportsOnly t u) : ReportsOnly s u :=
  ⟨by rw [k.rest, h.rest], fun n hn => (k.objK n hn).trans (h.objK n hn), fun o ho => k.sent o (h.sent o ho)⟩

/-- An entry that is none of the reports' keeps its value; the side condition is decided for an entry given in numbers. -/
theorem obj (h : ReportsOnly s t) (i j : Nat) (c : Nat := 0) (hk : reportKey (okey i j c) = false := by decide) :
    t.obj i j c = s.obj i j c := h.objK _ hk

theorem pw (h : ReportsOnly s t) : t.pw = s.pw := by rw [h.rest]
theorem su (h : ReportsOnly s t) : t.su = s.su := by rw [h.rest]
theorem clk (h : ReportsOnly s t) : t.clk = s.clk := by rw [h.rest]
theorem pins (h : ReportsOnly s t) : t.pins = s.pins := by rw [h.rest]
theorem saf (h : ReportsOnly s t) : t.saf = s.saf := by rw [h.rest]
theorem mem (h : ReportsOnly s t) : t.mem = s.mem := by rw [h.rest]
theorem poison (h : ReportsOnly s t) : t.poison = s.poison := by rw [h.rest]
theorem ctxs (h : ReportsOnly s t) : t.ctxs = s.ctxs := by rw [h.rest]
theorem engines (h : ReportsOnly s t) : t.engines = s.engines := by rw [h.rest]
theorem sched (h : ReportsOnly s t) : t.sched = s.sched := by rw [h.rest]
theorem attic (h : ReportsOnly s t) : t.attic = s.attic := by rw [h.rest]
theorem journal (h : ReportsOnly s t) : t.journal = s.journal := by rw [h.rest]
theorem paths (h : ReportsOnly s t) : t.paths = s.paths := by rw [h.rest]
theorem loops (h : ReportsOnly s t) : t.loops = s.loops := by rw [h.rest]
theorem recov (h : ReportsOnly s t) : t.recov = s.recov := by rw [h.rest]
theorem tempOut (h : ReportsOnly s t) : t.tempOut = s.tempOut := by rw [h.rest]
theorem throttling (h : ReportsOnly s t) : t.throttling = s.throttling := by rw [h.rest]

theorem sameMemory (h : ReportsOnly s t) : SameMemory s t := by rw [h.rest]; exact ⟨fun _ => rfl, rfl⟩

theorem calm (h : ReportsOnly s t) : Calm s t :=
  ⟨h.sameMemory, h.ctxs, h.engines, h.sched, h.attic, h.pw, h.saf, h.recov⟩

theorem setObj (s : State) {i j : Nat} (v : Nat) {c : Nat} (h : reportKey (okey i j c) = true) :
    ReportsOnly s (s.setObj i j v c) :=
  ⟨rfl, fun k hk => s.objK_setObj_ne fun e => by rw [e, h] at hk; exact absurd hk (by decide), fun _ ho => ho⟩

theorem modPort (s : State) (p : Nat) (f : CanPort → CanPort) : ReportsOnly s (s.modPort p f) := ⟨rfl, fun _ _ => rfl, fun _ h => h⟩

theorem setMon (s : State) (m : Nat) (v : MonState) : ReportsOnly s (s.setMon m v) := ⟨rfl, fun _ _ => rfl, fun _ h => h⟩

theorem emit (s : State) (o : Output) : ReportsOnly s (s.emit o) := ⟨rfl, fun _ _ => rfl, fun _ h => List.mem_cons_of_mem _ h⟩

theorem ite {c : Prop} [Decidable c] (ht : ReportsOnly s t) (hu : ReportsOnly s u) : ReportsOnly s (if c then t else u) := by
  split
  · exact ht
  · exact hu

theorem foldl {α : Type} {f : State → α → State} (l : List α) (hf : ∀ s, ∀ a ∈ l, ReportsOnly s (f s a)) (s : State) :
    ReportsOnly s (l.foldl f s) := by
  induction l generalizing s with
  | nil => exact refl s
  | cons a l ih => exact (hf s a (by simp)).trans (ih (fun s b hb => hf s b (by simp [hb])) _)

/-! ## EMCYs and the error register -/

theorem queueEmcy (s : State) {port : Nat} (hp : port < 2) (e : Emcy) : ReportsOnly s (s.queueEmcy port e) := by
  unfold State.queueEmcy
  split
  · exact refl s
  · split
    · refine (setObj s _ ?_).trans (modPort _ _ _)
      interval_cases port <;> decide
    · exact modPort _ _ _

theorem sendEmcy (s : State) (code source info : Nat) : ReportsOnly s (s.sendEmcy code source info) :=
  (queueEmcy s (by decide) _).trans (queueEmcy _ (by decide) _)

theorem refreshReg (s : State) : ReportsOnly s s.refreshReg := by
  have hset : ReportsOnly s (s.setObj 0x1001 0 s.errReg) := setObj s _ (by decide)
  unfold State.refreshReg
  dsimp only
  split
  · exact hset.trans (sendEmcy _ _ _ _)
  · exact hset

theorem raise (s : State) (code source info : Nat) : ReportsOnly s (s.raise code source info) :=
  (refreshReg s).trans (sendEmcy _ _ _ _)

/-! ## Monitor channels -/

/-- The entries of a channel that its samples write. -/
theorem setChannel (s : State) {i j m : Nat} (v : Nat) (hi : i = 0x7001 ∨ i = 0x7002) (hj : j < 256) (hm : m < 24) :
    ReportsOnly s (s.setObj i j v m) :=
  setObj s v (by
    have hdiv := okey_div i hj (show m < 65536 by omega)
    rcases hi with rfl | rfl <;> simp only [reportKey, hdiv] <;> decide)

theorem notify (s : State) {m : Nat} (hm : m < 24) : ReportsOnly s (s.notify m) := by
  unfold State.notify
  exact (raise s 0xFF05 m (s.obj 0x7001 7 m)).trans
    ((ite (refl _) (emit _ _)).trans ((setChannel _ _ (.inl rfl) (by decide) hm).trans (setMon _ _ _)))

theorem weirSample (s : State) {m : Nat} (hm : m < 24) (v : Int) : ReportsOnly s (s.weirSample m v) := by
  have hset (s : State) (j w : Nat) (hj : j < 256) : ReportsOnly s (s.setObj 0x7001 j w m) := setChannel s w (.inl rfl) hj hm
  unfold State.weirSample
  dsimp only
  split
  · exact refl s
  · split
    · split
      · exact hset _ _ _ (by decide)
      · exact refl s
    · split
      · have habove := (hset s 8 1 (by decide)).trans (hset _ 6 1 (by decide))
        exact habove.trans ((hset _ 7 _ (by decide)).trans (ite (notify _ hm) (setMon _ _ _)))
      · exact refl s

theorem histBin_le (mode shift : Nat) (base : Int) (width : Nat) (v : Int) : histBin mode shift base width v ≤ 15 := by
  unfold histBin
  dsimp only
  split <;> split <;> omega

theorem monUpdate (s : State) {m : Nat} (hm : m < 24) (v : Int) : ReportsOnly s (s.monUpdate m v) := by
  have hset (s : State) (j w : Nat) (hj : j < 256) : ReportsOnly s (s.setObj 0x7001 j w m) := setChannel s w (.inl rfl) hj hm
  have hbin := histBin_le (s.obj 0x7000 3 m) (s.obj 0x7000 4 m) (s.objI 64 0x7000 5 m) (s.obj 0x7000 6 m) v
  unfold State.monUpdate
  refine trans ?_ ((setChannel _ _ (.inr rfl) (by omega) hm).trans (weirSample _ hm v))
  exact ((((hset _ 1 _ (by decide)).trans (hset _ 2 _ (by decide))).trans (hset _ 3 _ (by decide))).trans
    (hset _ 4 _ (by decide))).trans (hset _ 5 _ (by decide))

theorem monSample (s : State) (src param : Nat) (v : Int) : ReportsOnly s (s.monSample src param v) := by
  unfold State.monSample
  split
  · exact refl s
  · refine foldl _ (fun s m hm => ?_) s
    split
    · exact monUpdate s (List.mem_range.mp hm) v
    · exact refl s

end ReportsOnly

end Sys2Proof.Machine
end

section
/-! # What a class-S detection may change (R347, R350, R351, R369, R375) -/

namespace Sys2Proof.Machine

open Sys2Proof

/-- The key of an entry that a detection may write: the reports', the detection's own 0x5000, and a supply monitor's 0x5040:03 and
0x5040:04. -/
def detectKey (k : Nat) : Bool := reportKey k || k / 2 ^ 24 = 0x5000 || k = okey 0x5040 3 0 || k = okey 0x5040 4 0

/-- From `s` to `t` only reports and class-S detections have been made. -/
structure DetectsOnly (s t : State) : Prop where
  rest : t = { s with
    objs := t.objs, can := t.can, mons := t.mons, out := t.out, pins := t.pins, saf := t.saf, freeCtr := t.freeCtr
    pw := { s.pw with pendSafe := t.pw.pendSafe, safeLatch := t.pw.safeLatch, keptCode := t.pw.keptCode } }
  objK : ∀ k, detectKey k = false → t.objK k = s.objK k

theorem ReportsOnly.detects {s t : State} (h : ReportsOnly s t) : DetectsOnly s t :=
  ⟨by rw [h.rest], fun k hk => h.objK k (by simp only [detectKey, Bool.or_eq_false_iff] at hk; exact hk.1.1.1)⟩

namespace DetectsOnly

variable {s t u : State}

theorem refl (s : State) : DetectsOnly s s := (ReportsOnly.refl s).detects

theorem trans (h : DetectsOnly s t) (k : DetectsOnly t u) : DetectsOnly s u :=
  ⟨by rw [k.rest, h.rest], fun n hn => (k.objK n hn).trans (h.objK n hn)⟩

/-- An entry that is none of a detection's keeps its value; the side condition is decided for an entry given in numbers. -/
theorem obj (h : DetectsOnly s t) (i j : Nat) (c : Nat := 0) (hk : detectKey (okey i j c) = false := by decide) :
    t.obj i j c = s.obj i j c := h.objK _ hk

theorem mode (h : DetectsOnly s t) : t.pw.mode = s.pw.mode := by rw [h.rest]
theorem prev (h : DetectsOnly s t) : t.pw.prev = s.pw.prev := by rw [h.rest]
theorem refclkReq (h : DetectsOnly s t) : t.pw.refclkReq = s.pw.refclkReq := by rw [h.rest]
theorem benchWake (h : DetectsOnly s t) : t.pw.benchWake = s.pw.benchWake := by rw [h.rest]
theorem su (h : DetectsOnly s t) : t.su = s.su := by rw [h.rest]
theorem paths (h : DetectsOnly s t) : t.paths = s.paths := by rw [h.rest]
theorem attic (h : DetectsOnly s t) : t.attic = s.attic := by rw [h.rest]
theorem journal (h : DetectsOnly s t) : t.journal = s.journal := by rw [h.rest]
theorem loops (h : DetectsOnly s t) : t.loops = s.loops := by rw [h.rest]
theorem throttling (h : DetectsOnly s t) : t.throttling = s.throttling := by rw [h.rest]
theorem tempOut (h : DetectsOnly s t) : t.tempOut = s.tempOut := by rw [h.rest]
theorem ctxs (h : DetectsOnly s t) : t.ctxs = s.ctxs := by rw [h.rest]
theorem clk (h : DetectsOnly s t) : t.clk = s.clk := by rw [h.rest]
theorem sameMemory (h : DetectsOnly s t) : SameMemory s t := by rw [h.rest]; exact ⟨fun _ => rfl, rfl⟩

theorem setObj (s : State) {i j : Nat} (v : Nat) {c : Nat} (h : detectKey (okey i j c) = true) :
    DetectsOnly s (s.setObj i j v c) :=
  ⟨rfl, fun k hk => s.objK_setObj_ne fun e => by rw [e, h] at hk; exact absurd hk (by decide)⟩

theorem ite {c : Prop} [Decidable c] (ht : DetectsOnly s t) (hu : DetectsOnly s u) : DetectsOnly s (if c then t else u) := by
  split
  · exact ht
  · exact hu

theorem foldl {α : Type} {f : State → α → State} (hf : ∀ s a, DetectsOnly s (f s a)) (l : List α) (s : State) :
    DetectsOnly s (l.foldl f s) := by
  induction l generalizing s with
  | nil => exact refl s
  | cons a l ih => exact (hf s a).trans (ih _)

theorem errPinsLow (s : State) : DetectsOnly s s.errPinsLow := ⟨rfl, fun _ _ => rfl⟩

/-- A detection that waits to commit. -/
theorem pend (s : State) (d : Option (Nat × Nat)) : DetectsOnly s { s with pw := { s.pw with pendSafe := d } } :=
  ⟨rfl, fun _ _ => rfl⟩

end DetectsOnly

/-- The EMCY of a mechanism, where it has one. -/
def State.ownEmcy (s : State) : Option (Nat × Nat × Nat) → State
  | some (c, src, info) => s.raise c src info
  | none => s

theorem ReportsOnly.ownEmcy (s : State) (own : Option (Nat × Nat × Nat)) : ReportsOnly s (s.ownEmcy own) := by
  cases own with
  | none => exact refl s
  | some e => exact raise s _ _ _

/-- The state in which a detection is recorded: counted, its EMCY raised, both pins low (R347, R351). -/
def State.detected (s : State) (own : Option (Nat × Nat × Nat)) : State := ((s.bump 0x5000 8).ownEmcy own).errPinsLow

/-- The record of a detection: it is taken where none waits, and where its code is lower than that of one on the same edge
(R375). -/
def State.recordDetection (s : State) (code detail : Nat) : State :=
  let w := { s with pw := { s.pw with pendSafe := some (code, detail) } }
  match s.pw.pendSafe with
  | none => ((w.setObj 0x5000 2 code).setObj 0x5000 3 (detail % 2 ^ 32)).setObj 0x5000 4 s.nowNs
  | some (c, _) =>
    if code < c && s.obj 0x5000 4 = s.nowNs then (w.setObj 0x5000 2 code).setObj 0x5000 3 (detail % 2 ^ 32) else s

/-- Where detections count, one is detected and recorded. -/
theorem State.classS_of_records (s : State) (code detail : Nat) (own : Option (Nat × Nat × Nat)) (h0 : s.pw.mode ≠ .off)
    (h1 : s.pw.mode ≠ .parked) (h2 : s.pw.mode ≠ .safe) (h3 : s.pw.teardown ≠ some 3) :
    s.classS code detail own = (s.detected own).recordDetection code detail := by
  unfold State.classS
  split
  · exact absurd ‹_› h0
  · exact absurd ‹_› h1
  · exact absurd ‹_› h2
  · rw [if_neg h3]
    cases own with
    | none =>
      dsimp only [State.detected, State.ownEmcy]
      generalize (s.bump 0x5000 8).errPinsLow = v
      rfl
    | some e =>
      dsimp only [State.detected, State.ownEmcy]
      generalize ((s.bump 0x5000 8).raise e.1 e.2.1 e.2.2).errPinsLow = v
      rfl

namespace DetectsOnly

theorem detected (s : State) (own : Option (Nat × Nat × Nat)) : DetectsOnly s (s.detected own) :=
  ((setObj s _ (by decide)).trans (ReportsOnly.ownEmcy _ own).detects).trans (errPinsLow _)

theorem recordDetection (s : State) (code detail : Nat) : DetectsOnly s (s.recordDetection code detail) := by
  have htwo := ((pend s (some (code, detail))).trans (setObj _ (i := 0x5000) (j := 2) (c := 0) code (by decide))).trans
    (setObj _ (i := 0x5000) (j := 3) (c := 0) (detail % 2 ^ 32) (by decide))
  unfold State.recordDetection
  dsimp only
  split
  · exact htwo.trans (setObj _ _ (by decide))
  · exact ite htwo (refl s)

theorem classS (s : State) (code detail : Nat) (own : Option (Nat × Nat × Nat)) : DetectsOnly s (s.classS code detail own) := by
  by_cases h0 : s.pw.mode = .off
  · unfold State.classS; rw [h0]; exact refl s
  by_cases h1 : s.pw.mode = .parked
  · unfold State.classS; rw [h1]; exact refl s
  by_cases h2 : s.pw.mode = .safe
  · unfold State.classS; rw [h2]; exact setObj s _ (by decide)
  by_cases h3 : s.pw.teardown = some 3
  · unfold State.classS
    split
    · exact refl s
    · exact refl s
    · exact setObj s _ (by decide)
    · rw [if_pos h3]; exact ⟨rfl, fun _ _ => rfl⟩
  rw [s.classS_of_records code detail own h0 h1 h2 h3]
  exact (detected s own).trans (recordDetection _ code detail)

theorem classSOpen (s : State) (code : Nat) : DetectsOnly s (s.classSOpen code) :=
  trans (t := s.takeFree.2) ⟨rfl, fun _ _ => rfl⟩ (classS _ _ _ none)

theorem railDetect (s : State) (r : Nat) (high : Bool) (mv : Nat) : DetectsOnly s (s.railDetect r high mv) := by
  unfold State.railDetect
  refine ite (classS s _ _ _) (trans ?_ (classS _ _ _ _))
  exact (setObj s _ (by decide)).trans (setObj _ _ (by decide))

theorem wakeRails (s : State) : DetectsOnly s s.wakeRails :=
  foldl (fun s _ => ite (railDetect s _ _ _) (refl s)) _ s

end DetectsOnly

/-- A detection in a state that records it gives what `Detects` says. -/
theorem State.classS_detects {s : State} (h : Detecting s) (code detail : Nat) (own : Option (Nat × Nat × Nat)) :
    Detects code s (s.classS code detail own) := by
  obtain ⟨h0, h1, h2, h3, hnone⟩ := h
  have hcount : ReportsOnly (s.bump 0x5000 8) ((s.bump 0x5000 8).ownEmcy own) := ReportsOnly.ownEmcy _ own
  have hpend : (s.detected own).pw.pendSafe = none := by
    rw [State.detected, State.errPinsLow_pw, hcount.pw]; exact hnone
  have height : (s.detected own).obj 0x5000 8 = (s.obj 0x5000 8 + 1) % 2 ^ 32 := by
    rw [State.detected, State.obj_errPinsLow, hcount.obj 0x5000 8, State.obj_bump_self]
    rw [show objBits 0x5000 8 = 32 by decide +kernel]
  have hnow : (s.detected own).nowNs = s.nowNs := by
    unfold State.nowNs; rw [(DetectsOnly.detected s own).clk]
  have hall := DetectsOnly.classS s code detail own
  have hrec := s.classS_of_records code detail own h0 h1 h2 h3
  have hrec' : s.classS code detail own = (({ s.detected own with
      pw := { (s.detected own).pw with pendSafe := some (code, detail) } }.setObj 0x5000 2 code).setObj 0x5000 3
        (detail % 2 ^ 32)).setObj 0x5000 4 s.nowNs := by
    rw [hrec, State.recordDetection]
    dsimp only
    rw [hnow]
    split
    · rfl
    · next c d hsome => exact absurd (hpend.symm.trans hsome) (by simp)
  refine ⟨?_, ?_, ⟨detail, ?_⟩, ?_, ?_, ?_, hall.mode, hall.sameMemory, hall.ctxs⟩
  · rw [hrec']; rfl
  · rw [hrec']; rfl
  · rw [hrec']; rfl
  · rw [hrec', State.obj_setObj_ne _ (by decide), State.obj_setObj_ne _ (by decide), State.obj_setObj_self]
  · rw [hrec', State.obj_setObj_self]
  · rw [hrec', State.obj_setObj_ne _ (by decide), State.obj_setObj_ne _ (by decide), State.obj_setObj_ne _ (by decide)]
    exact height

theorem State.classSOpen_detects {s : State} (h : Detecting s) (code : Nat) : Detects code s (s.classSOpen code) :=
  State.classS_detects (s := s.takeFree.2) h code _ none

end Sys2Proof.Machine
end

section
/-! # Wakes: how a source takes PARKED to WAKING (R56, R60, R80, R104) -/

namespace Sys2Proof.Machine

open Sys2Proof

/-- Memory is the same where the cells and the poisoned words are. -/
theorem sameMemory_of_mem {s t : State} (hmem : t.mem = s.mem) (hpoison : t.poison = s.poison) : SameMemory s t :=
  ⟨fun a => by rw [State.memByte, State.memByte, hmem], hpoison⟩

/-- Dropping the entries of some classes keeps an entry of another class. -/
theorem State.objK_dropObjs (s : State) (p : Cls → Bool) {k : Nat} (h : p (objCls (k / 2 ^ 24) (k / 2 ^ 16 % 2 ^ 8)) = false) :
    (s.dropObjs p).objK k = s.objK k := by
  have hget := Amap.get_filter (okeyDefault k) s.objs (fun n => !p (objCls (n / 2 ^ 24) (n / 2 ^ 16 % 2 ^ 8))) k
  rw [if_pos (by rw [h]; rfl)] at hget
  exact hget

/-- The boot options depend on the eight entries of 0x2040 alone (R80). -/
theorem State.readBoot_congr {s t : State} (h : ∀ j < 9, t.obj 0x2040 j = s.obj 0x2040 j) : t.readBoot = s.readBoot := by
  simp only [State.readBoot, State.objB, h 1 (by decide), h 2 (by decide), h 3 (by decide), h 4 (by decide), h 5 (by decide),
    h 6 (by decide), h 7 (by decide), h 8 (by decide)]

/-- The set point's write counts in 0xB030:01 and shows in 0xB021:03 (R516). -/
theorem State.obj_avsWrite_ne (s : State) {mv i j c : Nat} (h1 : okey i j c ≠ okey 0xB021 3 0) (h2 : okey i j c ≠ okey 0xB030 1 0) :
    (s.avsWrite mv).obj i j c = s.obj i j c := by
  unfold State.avsWrite
  rw [State.obj_emit, State.obj_setObj_ne _ h1, State.obj_bump_ne _ h2]
  exact State.obj_congr rfl i j c

/-- No entry of another index is touched by a write; the channel of both is 0. -/
theorem State.obj_setObj_of_idx_ne (s : State) {i i' j j' : Nat} (v : Nat) (h : i' ≠ i) (hj : j < 256) (hj' : j' < 256) :
    (s.setObj i j v).obj i' j' = s.obj i' j' :=
  s.obj_setObj_ne fun e => h (by have := okey_div i hj (c := 0) (by decide); have := okey_div i' hj' (c := 0) (by decide); omega)

/-- A wake reads the boot options, which the attic holds, after it has dropped what a wake drops. -/
theorem State.readBoot_atWake (s : State) : (((s.setMode .waking).dropObjs Cls.atWake).volatileReset).readBoot = s.readBoot := by
  have hattic : ∀ j < 9, Cls.atWake (objCls (okey 0x2040 j 0 / 2 ^ 24) (okey 0x2040 j 0 / 2 ^ 16 % 2 ^ 8)) = false := by
    decide +kernel
  refine State.readBoot_congr fun j hj => ?_
  calc _ = (s.setMode .waking).obj 0x2040 j := State.objK_dropObjs _ _ (hattic j hj)
    _ = (s.bump 0xB000 5).obj 0x2040 j := State.obj_setObj_of_idx_ne (s.bump 0xB000 5) _ (by decide) (by decide) (by omega)
    _ = s.obj 0x2040 j := State.obj_setObj_of_idx_ne s _ (by decide) (by decide) (by omega)

theorem ReportsOnly.wearReport (s : State) : ReportsOnly s s.wearReport :=
  foldl _ (fun s _ _ => ite (raise s _ _ _) (refl s)) s

/-- The commit of WAKING: what it sets and what it keeps. -/
theorem State.commitWaking_wakes (s : State) (src : Nat) (hs : s.pw.mode = .parked) :
    Wakes src s (s.commitWaking src) ∧ (s.commitWaking src).pw.benchWake = s.pw.benchWake := by
  obtain ⟨u, hu, ⟨hmode, hprev, href, hbench⟩, hsrc, hboot, hpaths, hmem, hattic, hjournal⟩ : ∃ u : State,
      DetectsOnly u (s.commitWaking src) ∧
      (u.pw.mode = .waking ∧ u.pw.prev = s.pw.mode ∧ u.pw.refclkReq = true ∧ u.pw.benchWake = s.pw.benchWake) ∧
      u.obj 0xB001 3 = src ∧
      u.su.boot = (((s.setMode .waking).dropObjs Cls.atWake).volatileReset).readBoot ∧
      (∃ v : State, u.paths = ((v.freshPath 1).freshPath 2).paths) ∧ SameMemory s u ∧ u.attic = s.attic ∧
      u.journal = s.journal := by
    unfold State.commitWaking
    extract_lets v pv sv w x y
    have hreports := ReportsOnly.wearReport ((y.freshPath 1).freshPath 2)
    have hall := hreports.detects.trans (DetectsOnly.wakeRails _)
    refine ⟨_, hall, ⟨rfl, rfl, rfl, rfl⟩, ?_, rfl, ⟨_, rfl⟩, sameMemory_of_mem ?_ ?_, ?_, ?_⟩
    · simp only [State.obj_freshPath, y, x]
      rw [State.obj_setObj_ne _ (by decide), State.obj_setObj_ne _ (by decide), State.obj_setObj_ne _ (by decide),
        State.obj_setObj_ne _ (by decide), State.obj_avsWrite_ne _ (by decide) (by decide), State.setPhase,
        State.obj_setObj_ne _ (by decide), State.obj_bump_ne _ (by decide), State.obj_setObj_self]
    all_goals simp [y, x, w, v, State.setPhase, State.avsWrite, State.setMode, State.dropObjs, State.volatileReset]
  have hmem' : SameMemory s (s.commitWaking src) := ⟨fun a => (hu.sameMemory.1 a).trans (hmem.1 a), hu.sameMemory.2.trans hmem.2⟩
  obtain ⟨v, hpaths⟩ := hpaths
  have hp : (s.commitWaking src).paths = ((v.freshPath 1).freshPath 2).paths := hu.paths.trans hpaths
  refine ⟨⟨hu.mode.trans hmode, (hu.prev.trans hprev).trans hs, (hu.obj 0xB001 3).trans hsrc, ?_, hu.refclkReq.trans href, ?_, ?_,
    hmem', hu.attic.trans hattic, hu.journal.trans hjournal⟩, hu.benchWake.trans hbench⟩
  · rw [hu.su, hboot, s.readBoot_atWake]
  · rw [State.path_congr hp, State.freshPath, State.path_setPath_ne _ _ (by decide), State.freshPath, State.path_setPath_self]
    rfl
  · rw [State.path_congr hp, State.freshPath, State.path_setPath_self]; rfl

end Sys2Proof.Machine
end

section
/-! # Wake sources and the drive-off count (O33) -/

namespace Sys2Proof.Machine

open Sys2Proof

/-- What a wake commits is told by the boot options, memory, the attic and the journal it starts from. -/
theorem wakes_of_same {src : Nat} {s s' t : State} (h : Wakes src s' t) (hobj : ∀ j < 9, s'.obj 0x2040 j = s.obj 0x2040 j)
    (hmem : SameMemory s s') (hattic : s'.attic = s.attic) (hjournal : s'.journal = s.journal) : Wakes src s t := by
  obtain ⟨hmode, hprev, hsrc, hboot, href, hp1, hp2, hm, ha, hj⟩ := h
  exact ⟨hmode, hprev, hsrc, hboot.trans (State.readBoot_congr hobj), href, hp1, hp2,
    ⟨fun a => (hm.1 a).trans (hmem.1 a), hm.2.trans hmem.2⟩, ha.trans hattic, hj.trans hjournal⟩

/-- A source that may fire wakes the block (R56). -/
theorem State.fireWake_wakes {s : State} {src : Nat} (h : Wakeable src s) :
    Wakes src s (s.fireWake src) ∧ (s.fireWake src).pw.benchWake = s.pw.benchWake := by
  obtain ⟨hmode, hreset, hdeferred, hcool, henabled⟩ := h
  have hfire : s.fireWake src = (s.setObjBit 0xB001 2 src true).commitWaking src := by
    have htemp : (s.setObjBit 0xB001 2 src true).objI 16 0xB003 1 = s.objI 16 0xB003 1 :=
      congrArg (toSigned 16) (s.obj_setObj_ne (by decide))
    unfold State.fireWake
    simp only [henabled, Bool.not_true, Bool.false_eq_true, if_false, State.setObjBit_pw, hmode, hreset, hdeferred, htemp,
      bne_self_eq_false, Bool.or_self, if_neg (not_lt.mpr hcool)]
  obtain ⟨hwakes, hbench⟩ := (s.setObjBit 0xB001 2 src true).commitWaking_wakes src hmode
  rw [hfire]
  exact ⟨wakes_of_same hwakes (fun j hj => s.obj_setObj_of_idx_ne _ (by decide) (by decide) (by omega)) ⟨fun _ => rfl, rfl⟩ rfl rfl, hbench⟩

/-- A change of the power state that keeps what a wake asks for leaves a source as able to fire, and its wake as it is. -/
theorem State.fireWake_wakes_pw {s : State} {src : Nat} (h : Wakeable src s) (pw : Power) (hmode : pw.mode = s.pw.mode)
    (hreset : pw.resetHeld = s.pw.resetHeld) (hdeferred : pw.deferred = s.pw.deferred) :
    Wakes src s (({ s with pw := pw } : State).fireWake src) := by
  obtain ⟨h1, h2, h3, h4, h5⟩ := h
  have hw : Wakeable src { s with pw := pw } := ⟨hmode.trans h1, hreset.trans h2, hdeferred.trans h3, h4, h5⟩
  exact wakes_of_same (State.fireWake_wakes hw).1 (fun _ _ => State.obj_congr rfl _ _ _) ⟨fun _ => rfl, rfl⟩ rfl rfl

end Sys2Proof.Machine

namespace Sys2Proof

open Sys2Proof.Machine

/-- IGN in PARKED (R46, R56). -/
theorem ignWakeChange_wakes {s : State} (h : Wakeable 0 s) (hign : s.pw.ign = false) :
    Answers (.ignWakeChange true) s (Wakes 0 s) := by
  have hmode := h.1
  refine ⟨_, rfl, ?_⟩
  rw [if_neg (by simp [hmode, hign]), State.ignLevel]
  simp only [hmode]
  exact State.fireWake_wakes_pw h _ hmode.symm rfl rfl

/-- SHORE in PARKED, where the suspend flag does not matter (R56, R419). -/
theorem shorePwrChange_wakes {s : State} (h : Wakeable 1 s) (hshore : s.pw.shore = false) (hdepot : s.objB 0x6100 1 = true) :
    Answers (.shorePwrChange true) s (Wakes 1 s) := by
  have hmode := h.1
  refine ⟨_, rfl, ?_⟩
  rw [if_neg (by simp [hmode, hshore]), State.shoreLevel]
  have hon (pw : Power) (hpw : pw.mode = .parked) : ({ s with pw := pw } : State).depotOn = true := by
    have hobj : ({ s with pw := pw } : State).objB 0x6100 1 = true := hdepot
    simp [State.depotOn, hobj, hpw]
  simp only [hmode, hon, Bool.and_self, if_true]
  exact State.fireWake_wakes_pw h _ hmode.symm rfl rfl

/-- The real-time alarm in PARKED (R56). -/
theorem realTimeAlarm_wakes {s : State} (h : Wakeable 3 s) (hset : s.obj 0xB001 7 ≠ 0) :
    Answers (.realTimeAlarm) s (Wakes 3 s) := by
  have hmode := h.1
  refine ⟨_, rfl, ?_⟩
  rw [if_neg (by simp [hmode, hset])]
  dsimp only
  split
  · exact State.fireWake_wakes_pw h _ rfl rfl rfl
  · exact (State.fireWake_wakes h).1

/-- A wake deferred for the junction's temperature commits at 120 °C (R60). -/
theorem deferredWakeCommit_wakes {s : State} {src : Nat} (hdeferred : s.pw.deferred = some src) (hmode : s.pw.mode = .parked)
    (hreset : s.pw.resetHeld = false) (hcool : s.objI 16 0xB003 1 ≤ 1200) : Answers (.deferredWakeCommit) s (Wakes src s) := by
  refine ⟨_, rfl, ?_⟩
  simp only [hdeferred, hmode, hreset, hcool, decide_true, Bool.not_false, Bool.and_self, if_true]
  exact (s.commitWaking_wakes src hmode).1

/-! ## Frames on port 0 in PARKED -/

/-- A frame that is skipped, has an error, or matches: what each does (R57). -/
theorem exec_canParkedFrame (f : CanFrame) {s : State} (h : s.port0Parked = true) :
    (f.brs = true ∨ f.xl = true → exec (.canParkedFrame f) s = .next (s.bump 0xB002 8)) ∧
    (f.brs = false → f.xl = false → f.error = true → exec (.canParkedFrame f) s = .next (s.bump 0xB002 9)) ∧
    (f.brs = false → f.xl = false → f.error = false → s.wakeMatch f = true →
      ∃ pw : Power, pw.mode = s.pw.mode ∧ pw.resetHeld = s.pw.resetHeld ∧ pw.deferred = s.pw.deferred ∧
        (s.objBit 0xB001 1 2 = false → pw = s.pw) ∧
        exec (.canParkedFrame f) s = .next (({ s.bump 0xB002 7 with pw := pw } : State).fireWake 2)) := by
  have hexec : exec (.canParkedFrame f) s = execCanParkedFrame f s := rfl
  rw [hexec, execCanParkedFrame]
  refine ⟨fun hskip => ?_, fun hbrs hxl herr => ?_, fun hbrs hxl herr hmatch => ?_⟩
  · rcases hskip with hb | hx <;> simp [*]
  · simp [h, hbrs, hxl, herr]
  · simp only [h, hbrs, hxl, herr, hmatch, Bool.not_true, Bool.or_self, Bool.false_eq_true, if_false, if_true]
    split
    · next hreq =>
      refine ⟨{ s.pw with wakeReqWake := true }, rfl, rfl, rfl, fun hoff => ?_, rfl⟩
      have hon : s.objBit 0xB001 1 2 = true := by
        have hbit : (s.bump 0xB002 7).objBit 0xB001 1 2 = s.objBit 0xB001 1 2 := congrArg (bit · 2) (s.obj_bump_ne (by decide))
        rw [← hbit]; exact (Bool.and_eq_true_iff.mp hreq).1
      exact absurd (hon.symm.trans hoff) (by decide)
    · exact ⟨s.pw, rfl, rfl, rfl, fun _ => rfl, rfl⟩

/-! ## IGN in DRIVE (R49) -/

theorem ignWakeChange_startsDriveOff {s : State} (hmode : s.pw.mode = .drive) (hdown : s.pw.teardown = none)
    (hign : s.pw.ign = true) : Answers (.ignWakeChange false) s (fun t => t.pw.mode = .drive ∧ t.pw.ign = false ∧
      t.pw.driveOff = some (s.now + 1000 * s.obj 0xB000 4) ∧ t.obj 0xB000 3 = 5 ∧ SameMemory s t ∧ t.ctxs = s.ctxs) := by
  refine ⟨_, rfl, ?_⟩
  rw [if_neg (by simp [hmode, hign]), State.ignLevel]
  simp only [hmode, hdown, Option.isSome_none, Bool.false_eq_true, if_false]
  exact ⟨rfl, rfl, rfl, State.obj_setObj_self _ _ _ _ _, ⟨fun _ => rfl, rfl⟩, rfl⟩

theorem ignWakeChange_endsDriveOff {s : State} (hmode : s.pw.mode = .drive) (hdown : s.pw.teardown = none)
    (hign : s.pw.ign = false) : Answers (.ignWakeChange true) s (fun t => t.pw.mode = .drive ∧ t.pw.ign = true ∧
      t.pw.driveOff = none ∧ t.obj 0xB000 3 = 0 ∧ SameMemory s t ∧ t.ctxs = s.ctxs) := by
  have hends (near : Bool) (v : State) (hpw : v.pw.mode = .drive ∧ v.pw.ign = true) (hm : v.mem = s.mem)
      (hp : v.poison = s.poison) (hc : v.ctxs = s.ctxs) :
      let u := if near then v.nearMissIn 0x7011 1 else v
      let t := ({ u with pw := { u.pw with driveOff := none } } : State).setPhase 0
      t.pw.mode = .drive ∧ t.pw.ign = true ∧ t.pw.driveOff = none ∧ t.obj 0xB000 3 = 0 ∧ SameMemory s t ∧ t.ctxs = s.ctxs := by
    cases near <;> exact ⟨hpw.1, hpw.2, rfl, State.obj_setObj_self _ _ _ _ _,
      sameMemory_of_mem (by simpa [State.setPhase] using hm) (by simpa [State.setPhase] using hp), by simpa [State.setPhase] using hc⟩
  refine ⟨_, rfl, ?_⟩
  rw [if_neg (by simp [hmode, hign]), State.ignLevel]
  simp only [hmode, hdown, Option.isSome_none, Bool.false_eq_true, if_false, if_true]
  exact hends _ _ ⟨rfl, rfl⟩ rfl rfl rfl

/-- Settles O33: each source, once enabled, ends in the one commit of WAKING (`State.commitWaking_wakes`). -/
theorem wakeSourcesLeavePark : Obligations.WakeSourcesLeavePark := by
  unfold Obligations.WakeSourcesLeavePark
  refine ⟨fun s h => ignWakeChange_wakes h, fun s h => shorePwrChange_wakes h, fun f s hport => ?_,
    fun s h => realTimeAlarm_wakes h, fun s src => deferredWakeCommit_wakes, fun s hmode hdown => ⟨fun hign => ?_, fun hign => ?_⟩⟩
  · obtain ⟨hskip, herror, hmatch⟩ := exec_canParkedFrame f hport
    refine ⟨fun h => ⟨_, hskip h, s.obj_bump_self _ _ _ _, rfl⟩, fun h1 h2 h3 => ⟨_, herror h1 h2 h3, s.obj_bump_self _ _ _ _, rfl⟩,
      fun h1 h2 h3 h4 => ?_⟩
    obtain ⟨pw, hm, hr, hd, hsame, hexec⟩ := hmatch h1 h2 h3 h4
    refine ⟨fun hoff => ?_, fun hwake => ⟨_, hexec, ?_⟩⟩
    · have hbit : ({ s.bump 0xB002 7 with pw := pw } : State).objBit 0xB001 1 2 = false :=
        (congrArg (bit · 2) (s.obj_bump_ne (by decide))).trans hoff
      refine ⟨_, hexec, ?_⟩
      rw [State.fireWake, hbit, hsame hoff]
      exact ⟨s.obj_bump_self _ _ _ _, rfl⟩
    · have hwake' : Wakeable 2 (s.bump 0xB002 7) := by
        obtain ⟨w1, w2, w3, w4, w5⟩ := hwake
        refine ⟨w1, w2, w3, ?_, ?_⟩
        · rwa [State.objI, s.obj_bump_ne (by decide)]
        · rwa [State.objBit, s.obj_bump_ne (by decide)]
      exact wakes_of_same (State.fireWake_wakes_pw hwake' pw hm hr hd)
        (fun j hj => s.obj_setObj_of_idx_ne _ (by decide) (by decide) (by omega)) ⟨fun _ => rfl, rfl⟩ rfl rfl
  · exact ignWakeChange_startsDriveOff hmode hdown hign
  · exact ignWakeChange_endsDriveOff hmode hdown hign

end Sys2Proof
end

section
/-! # Power on and off (O32): the choice of a calibration set, the reset history, OFF and the first PARKED -/

namespace Sys2Proof.Machine

open Sys2Proof

/-! ## The choice of a calibration set (R186, R187, R189, R191) -/

/-- From `s` to `t` only the calibration set in force has been chosen and shown, areas erased, their wear counted and reported. -/
structure CalOnly (s t : State) : Prop where
  rest : t = { s with
    objs := t.objs, can := t.can, mons := t.mons, out := t.out
    attic := { s.attic with
      areaA := t.attic.areaA, areaB := t.attic.areaB, commitA := t.attic.commitA, commitB := t.attic.commitB } }
  objK : ∀ k, reportKey k = false → k / 2 ^ 24 ≠ 0x8001 → k / 2 ^ 24 ≠ 0x8002 → t.objK k = s.objK k

namespace CalOnly

variable {s t u : State}

theorem trans (h : CalOnly s t) (k : CalOnly t u) : CalOnly s u :=
  ⟨by rw [k.rest, h.rest], fun n h0 h1 h2 => (k.objK n h0 h1 h2).trans (h.objK n h0 h1 h2)⟩

theorem ofReports (h : ReportsOnly s t) : CalOnly s t := ⟨by rw [h.rest], fun k h0 _ _ => h.objK k h0⟩

theorem refl (s : State) : CalOnly s s := ofReports (.refl s)

theorem pw (h : CalOnly s t) : t.pw = s.pw := by rw [h.rest]
theorem clk (h : CalOnly s t) : t.clk = s.clk := by rw [h.rest]
theorem mem (h : CalOnly s t) : t.mem = s.mem := by rw [h.rest]

theorem obj (h : CalOnly s t) (i j : Nat) (hk : reportKey (okey i j 0) = false := by decide)
    (h1 : okey i j 0 / 2 ^ 24 ≠ 0x8001 := by decide) (h2 : okey i j 0 / 2 ^ 24 ≠ 0x8002 := by decide) : t.obj i j = s.obj i j :=
  h.objK _ hk h1 h2

theorem setObj (s : State) {i j v : Nat} (hi : i = 0x8001 ∨ i = 0x8002) (hj : j < 256) : CalOnly s (s.setObj i j v) :=
  ⟨rfl, fun k _ h1 h2 => s.objK_setObj_ne fun e => by
    have := okey_div i hj (c := 0) (by decide)
    rw [e] at h1 h2; omega⟩

theorem ite {c : Prop} [Decidable c] (ht : CalOnly s t) (hu : CalOnly s u) : CalOnly s (if c then t else u) := by
  split
  · exact ht
  · exact hu

theorem wearBlock (s : State) {b : Nat} (hb : b < 64) : CalOnly s (s.wearBlock b) :=
  (setObj s (.inr rfl) (by omega)).trans (ite (ofReports (.raise _ _ _ _)) (refl _))

theorem calShow (s : State) (area : Nat) : CalOnly s (s.calShow area) := by
  have hset (s : State) (j v : Nat) (hj : j < 256) : CalOnly s (s.setObj 0x8001 j v) := setObj s (.inl rfl) hj
  unfold State.calShow
  extract_lets u c mask
  have hu : CalOnly s u := hset s 3 area (by decide)
  have hfour (a b c d : Nat) : CalOnly s ((((u.setObj 0x8001 1 a).setObj 0x8001 2 b).setObj 0x8001 4 c).setObj 0x8001 5 d) :=
    (((hu.trans (hset _ 1 a (by decide))).trans (hset _ 2 b (by decide))).trans (hset _ 4 c (by decide))).trans
      (hset _ 5 d (by decide))
  exact ite (hfour _ _ _ _) (hfour _ _ _ _)

theorem eraseArea (s : State) (b : Bool) : CalOnly s (s.eraseArea b) := by
  have hblocks (l : List Nat) (hl : ∀ k ∈ l, k < 4) (u : State) :
      CalOnly u (l.foldl (fun s k => s.wearBlock ((if b then 6 else 2) + k)) u) := by
    induction l generalizing u with
    | nil => exact refl u
    | cons k l ih =>
      have hk := hl k (by simp)
      exact (wearBlock u (by split <;> omega)).trans (ih (fun k hk => hl k (by simp [hk])) _)
  unfold State.eraseArea
  exact trans (by cases b <;> exact ⟨rfl, fun _ _ _ _ => rfl⟩) (hblocks _ (by simp) _)

theorem calChoose (s : State) : CalOnly s s.calChoose := by
  unfold State.calChoose
  exact ite ((calShow s 0).trans (ite (refl _) (eraseArea _ true)))
    (ite ((calShow s 1).trans (ite (refl _) (eraseArea _ false))) (calShow s 0xFF))

end CalOnly

/-! ## The reset history (R78) -/

/-- An entry reads back its time, its cause and its CRC. -/
theorem historyEntry_reads (time cause state flags hold detail seq : Nat) :
    let e := historyEntry time cause state flags hold detail seq
    historyValid e = true ∧ field e 0 8 = leVal (leBytes 8 time) ∧ field e 8 1 = cause % 256 := by
  have hshape (b : List Byte) (hb : b.length = 28) : historyValid (b ++ leBytes 4 (crc32c b)) = true := by
    have hlen : (leBytes 4 (crc32c b)).length = 4 := rfl
    have hcrc : field (b ++ leBytes 4 (crc32c b)) 28 4 = crc32c b := by
      rw [field, slice, List.drop_left' hb, List.take_of_length_le hlen.le, leVal_leBytes_four _ (crc32c_lt b)]
    simp only [historyValid, List.length_append, hb, hlen, hcrc, List.take_left' hb, decide_true, Bool.and_self]
  exact ⟨hshape _ (by simp [leBytes]), by simp [historyEntry, field, slice, leBytes], by simp [historyEntry, field, slice, leBytes, leVal]⟩

/-- The newest entry is the one just written; beside the history and the counts of entries, what changes is an erased block's wear. -/
theorem State.addHistory_writes (s : State) (time cause state flags hold detail : Nat) :
    let t := s.addHistory time cause state flags hold detail
    (∃ f n, t.attic.history.head? = some (historyEntry time cause state f hold detail n)) ∧ t.pw = s.pw ∧ t.clk = s.clk ∧
      t.mem = s.mem ∧ t.obj 0x2000 5 = s.obj 0x2000 5 := by
  unfold State.addHistory
  extract_lets n f e _ u v t
  have hv : CalOnly u v := .ite (.wearBlock _ (by omega)) (.refl _)
  have hfacts : v.attic.history.head? = some e ∧ v.pw = s.pw ∧ v.clk = s.clk ∧ v.mem = s.mem ∧ v.obj 0x2000 5 = s.obj 0x2000 5 := by
    refine ⟨?_, hv.pw, hv.clk, hv.mem, hv.obj 0x2000 5⟩
    rw [hv.rest]
    exact List.head?_take
  obtain ⟨hhead, hpw, hclk, hmem, hobj⟩ := hfacts
  by_cases hcause : cause = 1
  · have ht : t = (v.bumpSat 0x2030 5).setObj 0x2030 4 0 := if_pos hcause
    rw [ht]
    refine ⟨⟨f, _, hhead⟩, hpw, hclk, hmem, ?_⟩
    rw [State.obj_setObj_ne _ (by decide), State.bumpSat, State.obj_setObj_ne _ (by decide)]
    exact hobj
  · have ht : t = v.bumpSat 0x2030 4 := if_neg hcause
    rw [ht]
    refine ⟨⟨f, _, hhead⟩, hpw, hclk, hmem, ?_⟩
    rw [State.bumpSat, State.obj_setObj_ne _ (by decide)]
    exact hobj

/-- The start from OFF: the entry of what ended the last power-up, and the oscillator's wait (R69, R77). -/
theorem State.bootStart_starts (s : State) :
    let t := s.bootStart
    t.pw = { s.pw with booting := true, offMode := .off } ∧ t.clk = s.clk ∧ t.mem = s.mem ∧ t.obj 0x2000 5 = s.obj 0x2000 5 ∧
      ∃ e, t.attic.history.head? = some e ∧ historyValid e = true ∧ field e 0 8 = leVal (leBytes 8 s.clk.rtc) ∧
        field e 8 1 = s.pw.offCause % 256 := by
  unfold State.bootStart
  extract_lets m _ u
  have hu : CalOnly { s with pw := { s.pw with booting := true, offMode := .off } } u := .calChoose _
  have hrtc : u.clk.rtc = s.clk.rtc := by rw [hu.clk]
  have hcause : u.pw.offCause = s.pw.offCause := by rw [hu.pw]
  obtain ⟨⟨f, n, hhead⟩, hpw, hclk, hmem, hobj⟩ :=
    u.addHistory_writes u.clk.rtc u.pw.offCause m.code 0 0 (if u.pw.offCause = 2 then u.pw.lowVaon else 0)
  obtain ⟨hvalid, htime, hentry⟩ := historyEntry_reads u.clk.rtc u.pw.offCause m.code f 0
    (if u.pw.offCause = 2 then u.pw.lowVaon else 0) n
  exact ⟨hpw.trans hu.pw, hclk.trans hu.clk, hmem.trans hu.mem, hobj.trans (hu.obj 0x2000 5), _, hhead, hvalid,
    hrtc ▸ htime, hcause ▸ hentry⟩

/-! ## OFF (R68, R523) -/

/-- What OFF leaves of a state. -/
theorem State.turnOff_is (s : State) :
    let t := s.turnOff
    (t.pw.mode = .off ∧ t.pw.porst = s.pw.porst ∧ t.pw.vaonOk = s.pw.vaonOk ∧ t.pw.offCause = s.pw.offCause) ∧
      t.pins = Pins.reset ∧ t.paths = [] ∧ t.clk.tbRun = false ∧ t.mem = [] ∧ t.ctxs = [] ∧
      t.attic.history = s.attic.history ∧ t.journal = s.journal := by
  simp [State.turnOff, State.corePowerOff, State.dropObjs, State.volatileReset, State.endHalts, Power.reset]

/-- Applying the trim of the calibration set changes the trim alone (R183). -/
theorem State.trimAclk_eq (s : State) : s.trimAclk = { s with pw := { s.pw with aclkTrim := s.trimAclk.pw.aclkTrim } } := by
  unfold State.trimAclk
  split <;> rfl

/-- PARKED commits after OFF (R69). -/
theorem State.bootParked_is (s : State) :
    let t := s.bootParked
    (t.pw.mode = .parked ∧ t.pw.booting = false ∧ t.pw.ign = false ∧ t.pw.shore = false) ∧ t.paths = [(0x01, PathState.fresh)] ∧
      t.obj 0x2030 1 = s.pw.offCause ∧ t.obj 0x2030 6 = s.obj 0x2030 6 ∧ t.mem = s.mem ∧ t.attic = s.attic := by
  unfold State.bootParked
  extract_lets _ u t
  have hobj (j : Nat) (h1 : okey 0x2030 j 0 ≠ okey 0xB000 6 0) (h2 : okey 0x2030 j 0 ≠ okey 0xB021 3 0)
      (h3 : okey 0x2030 j 0 ≠ okey 0xB030 1 0) : t.obj 0x2030 j = (u.setObj 0x2030 1 u.pw.offCause).obj 0x2030 j := by
    rw [State.obj_avsWrite_ne _ h2 h3, State.trimAclk_eq]
    exact (State.obj_congr rfl _ _ _).trans (State.obj_setObj_ne _ h1)
  have hrest : t.pw = { u.pw with aclkTrim := t.pw.aclkTrim, avsSet := 650 } ∧ t.paths = u.paths ∧ t.mem = u.mem ∧
      t.attic = u.attic := by
    simp only [t, State.avsWrite]
    rw [State.trimAclk_eq]
    simp
  obtain ⟨hpw, hpaths, hmem, hattic⟩ := hrest
  exact ⟨by rw [hpw]; exact ⟨rfl, rfl, rfl, rfl⟩, hpaths,
    (hobj 1 (by decide) (by decide) (by decide)).trans (State.obj_setObj_self _ _ _ _ _),
    (hobj 6 (by decide) (by decide) (by decide)).trans ((State.obj_setObj_ne _ (by decide)).trans (State.obj_congr rfl _ _ _)),
    hmem, hattic⟩

/-- VAON back in its range: the real-time counter restarts only where VAON was lost entirely (R59). -/
def State.vaonBack (s : State) : State :=
  { s with
    pw := { s.pw with vaonOk := true }
    clk := if s.pw.offCause = 1 then { s.clk with rtc := 0, rtcFrac := 0 } else s.clk }

end Sys2Proof.Machine

namespace Sys2Proof

open Sys2Proof.Machine

/-- PORST_N takes the block to OFF from every state (R68). -/
theorem porstNAssert_off (s : State) : Answers (.porstNAssert) s (fun t => t.pw.mode = .off ∧ t.pw.porst = true ∧ OutputsOff t ∧
    t.paths = [] ∧ t.clk.tbRun = false ∧ t.mem = [] ∧ t.ctxs = [] ∧ t.attic.history = s.attic.history ∧ t.journal = s.journal) := by
  obtain ⟨⟨hmode, hporst, -, -⟩, hpins, hpaths, htb, hmem, hctxs, hhistory, hjournal⟩ :=
    ({ s with pw := { s.pw with porst := true, offCause := 1 } } : State).turnOff_is
  refine ⟨_, rfl, hmode, hporst, ?_, hpaths, htb, hmem, hctxs, hhistory, hjournal⟩
  rw [OutputsOff, hpins]
  exact ⟨rfl, rfl, rfl⟩

/-- VAON out of its range takes the block to OFF, the journal lost (R515). -/
theorem vaonOutOfRange_off (mv : BitVec 16) (flag : Bool) (s : State) : Answers (.vaonOutOfRange mv flag) s (fun t =>
    t.pw.mode = .off ∧ t.pw.vaonOk = false ∧ t.pw.offCause = (if s.pw.porst = true ∨ flag = false then 1 else 2) ∧ OutputsOff t ∧
    t.paths = [] ∧ t.mem = [] ∧ t.journal = Journal.reset ∧ t.attic.history = s.attic.history) := by
  refine ⟨_, rfl, ?_⟩
  unfold State.vaonLost
  extract_lets low cause _ u kept
  obtain ⟨⟨hmode, -, hvaon, hcause⟩, hpins, hpaths, -, hmem, -, hhistory, -⟩ :=
    ({ s with pw := { s.pw with vaonOk := false, lowVaon := low, offCause := cause } } : State).turnOff_is
  have hcode : cause = if s.pw.porst = true ∨ flag = false then 1 else 2 := by simp [cause]
  refine ⟨hmode, hvaon, hcause.trans hcode, ?_, by simpa [kept, State.dropObjs] using hpaths,
    by simpa [kept, State.dropObjs] using hmem, rfl, by simpa [kept, State.dropObjs] using hhistory⟩
  exact ⟨congrArg Pins.err0 hpins, congrArg Pins.err1 hpins, congrArg Pins.hazardN hpins⟩

/-- With PORST_N released, VAON's return starts the block from that state. -/
theorem exec_vaonReturnToRange {s : Machine.State} (hvaon : s.pw.vaonOk = false) (hporst : s.pw.porst = false) :
    exec (.vaonReturnToRange) s = .next s.vaonBack.bootStart := by
  have hexec : exec (.vaonReturnToRange) s = execVaonReturnToRange s := rfl
  rw [hexec, execVaonReturnToRange, if_neg (by rw [hvaon]; decide), State.vaonBack]
  dsimp only
  rw [if_neg (by rw [hporst]; decide)]
  split <;> rfl

/-- Settles O32: OFF, the start from it and PARKED, each once (`State.turnOff_is`, `State.bootStart_starts`,
`State.bootParked_is`). -/
theorem powerOnAndOff : Obligations.PowerOnAndOff := by
  unfold Obligations.PowerOnAndOff
  refine ⟨porstNAssert_off, vaonOutOfRange_off, fun strap s hporst hvaon => ⟨_, rfl, ?_⟩,
    fun s hvaon => ⟨fun hporst => ⟨_, rfl, ?_⟩, fun hporst => ⟨_, exec_vaonReturnToRange hvaon hporst, ?_⟩⟩, fun s hboot => ⟨⟨_, rfl, ?_⟩, ⟨_, rfl, ?_⟩⟩,
    fun e s hmode => ⟨_, rfl, ?_⟩⟩
  · rw [if_neg (by simp [hporst, hvaon])]
    dsimp only
    obtain ⟨hpw, hclk, hmem, hobj, entry, hhead, hvalid, htime, hcause⟩ := (({ s with
      pw := { s.pw with porst := false, offCause := 1 }, clk := { s.clk with rtc := 0, rtcFrac := 0 } } : State).setObj
        0x2000 5 strap.val).bootStart_starts
    exact ⟨by rw [hpw]; rfl, by rw [hpw], hobj.trans (State.obj_setObj_self _ _ _ _ _), by rw [hclk]; rfl, hmem, entry, hhead,
      hvalid, htime.trans (by simp [leBytes, leVal]), hcause⟩
  · rw [if_neg (by simp [hvaon]), if_pos hporst]
  · obtain ⟨hpw, hclk, hmem, -, entry, hhead, -, -, hcause⟩ := s.vaonBack.bootStart_starts
    exact ⟨congrArg Power.vaonOk hpw, congrArg Power.booting hpw, (congrArg Power.mode hpw).trans rfl,
      (congrArg Clock.rtc hclk).trans (by rw [State.vaonBack]; split <;> rfl), hmem, entry, hhead, hcause⟩
  · rw [if_pos hboot]
    obtain ⟨hpw, hpaths, hcause, hosc, hmem, hattic⟩ := (s.setObj 0x2030 6 0).bootParked_is
    obtain ⟨hmode, hbooting, hign, hshore⟩ := hpw
    exact ⟨⟨hmode, hbooting, hign, hshore, hpaths, hcause, hmem, hattic⟩, hosc.trans (State.obj_setObj_self _ _ _ _ _)⟩
  · rw [if_pos hboot]
    obtain ⟨hpw, hpaths, hcause, hosc, hmem, hattic⟩ := (s.setObj 0x2030 6 1).bootParked_is
    obtain ⟨hmode, hbooting, hign, hshore⟩ := hpw
    exact ⟨⟨hmode, hbooting, hign, hshore, hpaths, hcause, hmem, hattic⟩, hosc.trans (State.obj_setObj_self _ _ _ _ _)⟩
  · rw [if_neg hmode]
    exact ⟨State.obj_setObj_self _ _ _ _ _, fun i j c h => (State.obj_setObj_ne _ h).trans (State.obj_congr rfl _ _ _), rfl⟩

end Sys2Proof
end

section
/-! # Dispatch, moves and partition resets (O30) -/

namespace Sys2Proof.Machine

open Sys2Proof

/-! ## Waking gated engines (R62) -/

/-- From `s` to `t` engines alone have begun to wake. -/
structure WakesEngines (s t : State) : Prop where
  rest : t = { s with engines := t.engines }
  waking : ∀ k, (s.engine k).waking = true → (t.engine k).waking = true

namespace WakesEngines

variable {s t u : State}

theorem refl (s : State) : WakesEngines s s := ⟨rfl, fun _ h => h⟩

theorem trans (h : WakesEngines s t) (k : WakesEngines t u) : WakesEngines s u :=
  ⟨by rw [k.rest, h.rest], fun n hn => k.waking n (h.waking n hn)⟩

theorem foldl {α : Type} {f : State → α → State} (hf : ∀ s a, WakesEngines s (f s a)) (l : List α) (s : State) :
    WakesEngines s (l.foldl f s) := by
  induction l generalizing s with
  | nil => exact refl s
  | cons a l ih => exact (hf s a).trans (ih _)

theorem modEngine (s : State) (e : Nat) : WakesEngines s (s.modEngine e fun v => { v with waking := true }) := by
  refine ⟨rfl, fun k hk => ?_⟩
  by_cases hke : k = e
  · rw [hke, State.engine_modEngine_self]
  · rw [State.engine_modEngine_ne _ _ hke]; exact hk

theorem wakeEngine (s : State) (e : Nat) : WakesEngines s (s.wakeEngine e) := foldl (fun s k => modEngine s k) _ s

/-- A fold wakes each member for which its step wakes it. -/
theorem foldl_mem {α : Type} {f : State → α → State} {l : List α} {a : α} {k : Nat} (hf : ∀ s b, WakesEngines s (f s b))
    (hk : ∀ s, ((f s a).engine k).waking = true) (ha : a ∈ l) (s : State) : ((l.foldl f s).engine k).waking = true := by
  induction l generalizing s with
  | nil => cases ha
  | cons b l ih =>
    rcases List.mem_cons.mp ha with rfl | hmem
    · exact (foldl hf l _).waking k (hk s)
    · exact ih hmem _

theorem wakeEngine_self (s : State) (e : Nat) : ((s.wakeEngine e).engine e).waking = true := by
  have hself : e ∈ s.unitOf e := by
    unfold State.unitOf
    split
    · rcases Nat.even_or_odd e with he | he
      · obtain ⟨n, rfl⟩ := he; simp; omega
      · obtain ⟨n, rfl⟩ := he; simp; omega
    · simp
  exact foldl_mem (fun s k => modEngine s k) (fun s => by rw [State.engine_modEngine_self]) hself s

end WakesEngines

/-- The state in which a decision has woken the gated engines it met (R62). -/
def State.woken (s : State) : State := (s.starts.takeWhile s.mustWake).foldl (fun s p => s.wakeEngine p.2) s

theorem State.woken_wakes (s : State) : WakesEngines s s.woken := 
  .foldl (f := fun s (p : Job × Nat) => s.wakeEngine p.2) (fun s p => .wakeEngine s p.2) _ s

/-- A decision starts the first job whose engine need not wake. -/
theorem State.dispatch_eq (s : State) : s.dispatch =
    match s.starts.find? fun p => !s.mustWake p with
    | none => s.woken
    | some (j, e) => (if s.chooseAmong j (s.eligible j) = some e then s.woken else s.woken.bump 0xB023 7).startJob j e := rfl

/-! ## The engine that placement chooses (R336, R485) -/

theorem bestEngine_mem {score : Nat → Nat} {l : List Nat} {e : Nat} (h : bestEngine score l = some e) : e ∈ l := by
  have hfold : ∀ (l m : List Nat) (b : Option Nat), (∀ x, b = some x → x ∈ m) → ∀ e, l.foldl (fun b e =>
      match b with
      | none => some e
      | some x => if score x < score e then some e else some x) b = some e → e ∈ m ++ l := by
    intro l
    induction l with
    | nil => intro m b hb e he; simpa using hb e he
    | cons a l ih =>
      intro m b hb e he
      have := ih (m ++ [a]) _ ?_ e he
      · simpa using this
      · intro x hx
        cases b with
        | none => simp at hx; simp [hx]
        | some y =>
          have hy := hb y rfl
          dsimp only at hx
          split at hx <;> simp at hx <;> subst hx <;> simp [hy]
  simpa using hfold l [] none (by simp) e h

theorem State.chooseAmong_mem {s : State} {j : Job} {l : List Nat} {e : Nat} (h : s.chooseAmong j l = some e) : e ∈ l := by
  unfold State.chooseAmong at h
  split at h
  · exact bestEngine_mem h
  · exact List.mem_of_head? h

theorem State.steered_subset (s : State) (j : Job) : s.steered j ⊆ s.eligible j := by
  unfold State.steered
  dsimp only
  split
  · exact List.filter_subset_self _
  · exact List.Subset.refl _

/-- A job that can start is pending, and its engine is one that can start it now (R335, R336). -/
theorem State.mem_starts {s : State} {j : Job} {e : Nat} (h : (j, e) ∈ s.starts) : j.phase = .pending ∧ e ∈ s.eligible j := by
  simp only [State.starts, List.mem_flatMap, List.mem_filterMap] at h
  obtain ⟨p, -, q, -, hq⟩ := h
  split at hq
  · next k hk =>
    obtain ⟨e', he', hpair⟩ := Option.map_eq_some_iff.mp hq
    obtain ⟨rfl, rfl⟩ := Prod.mk.inj hpair
    have hphase := List.find?_some hk
    simp only [Bool.and_eq_true, decide_eq_true_eq] at hphase
    exact ⟨hphase.1.1, s.steered_subset _ (State.chooseAmong_mem he')⟩
  · cases hq

theorem State.mem_eligible {s : State} {j : Job} {e : Nat} (h : e ∈ s.eligible j) :
    e ∈ s.effSet j.queue ∧ s.serves e = true ∧ (s.engine e).dike = none ∧ j.contexts ≤ (s.freeSlots e).length := by
  simp only [State.eligible, State.placeable, List.mem_filter, Bool.and_eq_true, decide_eq_true_eq, Option.isNone_iff_eq_none] at h
  obtain ⟨hset, ⟨⟨⟨⟨⟨hserves, hdike⟩, -⟩, -⟩, -⟩, hfree⟩, -⟩ := h
  exact ⟨hset, hserves, hdike, hfree⟩

/-! ## A job starts (R335, R337, R338) -/

/-- Contexts, jobs and memory are the same. -/
def SameWork (s t : State) : Prop := t.ctxs = s.ctxs ∧ t.sched = s.sched ∧ t.mem = s.mem ∧ t.poison = s.poison

namespace SameWork

variable {s t u : State}

theorem refl (s : State) : SameWork s s := ⟨rfl, rfl, rfl, rfl⟩

theorem trans (h : SameWork s t) (k : SameWork t u) : SameWork s u :=
  ⟨k.1.trans h.1, k.2.1.trans h.2.1, k.2.2.1.trans h.2.2.1, k.2.2.2.trans h.2.2.2⟩

theorem ofReports (h : ReportsOnly s t) : SameWork s t := ⟨h.ctxs, h.sched, h.mem, h.poison⟩

theorem raiseMax (s : State) (i j v : Nat) : SameWork s (s.raiseMax i j v) := by
  unfold State.raiseMax
  split <;> exact refl s

theorem perf (s : State) (e c : Nat) : SameWork s (s.perf e c) := by
  refine ⟨?_, ?_, ?_, ?_⟩ <;> simp

theorem foldl {α : Type} {f : State → α → State} (hf : ∀ s a, SameWork s (f s a)) (l : List α) (s : State) :
    SameWork s (l.foldl f s) := by
  induction l generalizing s with
  | nil => exact refl s
  | cons a l ih => exact (hf s a).trans (ih _)

theorem useSample (s : State) (e : Nat) : SameWork s (s.useSample e) := by
  unfold State.useSample
  exact (ofReports (.ite (.refl s) (.monSample _ _ _ _))).trans (ofReports (.monSample _ _ _ _))

end SameWork

/-- The contexts that a job takes are given their start state. -/
def State.startContexts (s : State) (j : Job) (e : Nat) (l : List (Nat × Nat)) : State :=
  l.foldl (fun s p => s.setCtxAt (e * 64 + p.1) (startCtx j p.2)) s

theorem State.ctxAt_setCtxAt (s : State) (g g' : Nat) (c : Ctx) :
    (s.setCtxAt g c).ctxAt g' = if g' = g then c else s.ctxAt g' := by
  split
  · next h => rw [h]; exact Amap.get_set_self _ _ _ _
  · next h => exact Amap.get_set_other _ _ _ h

theorem State.startContexts_rest (s : State) (j : Job) (e : Nat) (l : List (Nat × Nat)) :
    s.startContexts j e l = { s with ctxs := (s.startContexts j e l).ctxs } := by
  refine foldl_keeps (fun t : State => t = { s with ctxs := t.ctxs }) _ (fun t p ht => ?_) l s rfl
  rw [ht]; rfl

/-- A context that the job does not take stays. -/
theorem State.startContexts_other (j : Job) (e : Nat) {l : List (Nat × Nat)} {g : Nat} (h : ∀ p ∈ l, g ≠ e * 64 + p.1) (s : State) :
    (s.startContexts j e l).ctxAt g = s.ctxAt g := by
  induction l generalizing s with
  | nil => rfl
  | cons p l ih =>
    exact (ih (fun q hq => h q (by simp [hq])) _).trans ((s.ctxAt_setCtxAt _ _ _).trans (if_neg (h p (by simp))))

/-- Each context that the job takes starts in its start state. -/
theorem State.startContexts_self (j : Job) (e : Nat) {l : List (Nat × Nat)} (hl : (l.map (·.1)).Nodup) {c n : Nat}
    (h : (c, n) ∈ l) (s : State) : (s.startContexts j e l).ctxAt (e * 64 + c) = startCtx j n := by
  induction l generalizing s with
  | nil => cases h
  | cons p l ih =>
    obtain ⟨hp, hnodup⟩ := List.nodup_cons.mp (show (p.1 :: l.map (·.1)).Nodup from hl)
    rcases List.mem_cons.mp h with rfl | hmem
    · refine (State.startContexts_other j e (fun q hq heq => hp (List.mem_map.mpr ⟨q, hq, ?_⟩)) _).trans ?_
      · omega
      · rw [State.ctxAt_setCtxAt, if_pos rfl]
    · exact ih hnodup hmem _

/-- The job as it runs. -/
def Job.running (j : Job) (e : Nat) (slots : List Nat) (ns : Nat) : Job :=
  { j with phase := .running, engine := e, slots := slots, startNs := ns }

/-- What a start sets: the job's place, and its contexts; its samples and the counts of a switch change nothing of these. -/
theorem State.startJob_starts (s : State) (j : Job) (e : Nat) :
    let slots := (s.freeSlots e).take j.contexts
    let t := s.startJob j e
    t.sched.jobs = s.sched.jobs.map (fun k => if k.id = j.id then k.running e slots s.nowNs else k) ∧
      (∃ b : State, b.ctxs = s.ctxs ∧ t.ctxs = (b.startContexts j e (slots.zip (List.range 64))).ctxs) ∧ t.mem = s.mem ∧
      t.poison = s.poison := by
  unfold State.startJob
  extract_lets slots hit a _ b c d ns x v w t
  have hc : c = { b with ctxs := c.ctxs } := b.startContexts_rest j e _
  have hv : SameWork c v := SameWork.trans (t := d.2) ⟨rfl, rfl, rfl, rfl⟩
    (SameWork.trans (t := d.2.bump 0x6011 2) ⟨rfl, rfl, rfl, rfl⟩ ((SameWork.raiseMax _ _ _ _).trans (.foldl (fun s _ => .perf s e _) hit _)))
  have hw : SameWork c w := by
    simp only [w]
    split
    · exact .refl c
    · exact hv.trans (.ofReports ((ReportsOnly.monSample _ _ _ _).trans (.monSample _ _ _ _)))
  obtain ⟨hctxs, hsched, hmem, hpoison⟩ := hw.trans (SameWork.useSample w e)
  refine ⟨?_, ⟨b, rfl, hctxs⟩, hmem.trans ?_, hpoison.trans ?_⟩
  · rw [hsched, hc]; rfl
  · rw [hc]; rfl
  · rw [hc]; rfl

/-- The free contexts do not depend on which engines wake, nor on a count of steering. -/
theorem State.freeSlots_congr {s t : State} (hmode : t.pw.mode = s.pw.mode) (hsched : t.sched = s.sched)
    (hpairs : t.obj 0x5020 1 = s.obj 0x5020 1) (e : Nat) : t.freeSlots e = s.freeSlots e := by
  have htwin : t.twinned = s.twinned := by simp [State.twinned, State.objB, hmode, hpairs]
  have hlead : t.lead e = s.lead e := by simp [State.lead, htwin]
  simp [State.freeSlots, State.inUse, State.jobsOn, hlead, hsched]

/-- A job's contexts are distinct and at most 64. -/
theorem State.freeSlots_nodup (s : State) (e n : Nat) : ((s.freeSlots e).take n).Nodup ∧ ((s.freeSlots e).take n).length ≤ 64 := by
  refine ⟨(List.nodup_range.filter _).sublist (List.take_sublist _ _), ?_⟩
  calc ((s.freeSlots e).take n).length ≤ (s.freeSlots e).length := List.length_take_le' _ _
    _ ≤ (List.range 64).length := List.length_filter_le _ _
    _ = 64 := List.length_range

end Sys2Proof.Machine

namespace Sys2Proof

open Sys2Proof.Machine

/-- The first job whose engine runs starts there, in the lowest free contexts (R335, R337). -/
theorem jobDispatch_starts {s : Machine.State} {j : Job} {e : Nat}
    (hfind : s.starts.find? (fun p => s.obj 0x4000 1 p.2 = 0) = some (j, e)) (hjob : s.job j.id = some j) :
    let slots := (s.freeSlots e).take j.contexts
    Answers (.jobDispatch) s (fun t =>
      (∃ k ∈ t.sched.jobs, k.id = j.id ∧ k.phase = .running ∧ k.engine = e ∧ k.slots = slots ∧ k.desc = j.desc) ∧
      (∀ n, (hn : n < slots.length) → t.ctxAt (e * 64 + slots[n]) = startCtx j n) ∧
      (∀ g, (∀ c ∈ slots, g ≠ e * 64 + c) → t.ctxAt g = s.ctxAt g) ∧ SameMemory s t) := by
  have hrun : s.starts.find? (fun p => !s.mustWake p) = some (j, e) := by
    rw [← hfind]
    congr 1
    funext p
    by_cases hp : s.obj 0x4000 1 p.2 = 0 <;> simp [State.mustWake, hp]
  have hwoken := s.woken_wakes
  let u : Machine.State := if s.chooseAmong j (s.eligible j) = some e then s.woken else s.woken.bump 0xB023 7
  have hexec : exec (.jobDispatch) s = .next (u.startJob j e) := by
    have hdispatch : exec (.jobDispatch) s = .next s.dispatch := rfl
    rw [hdispatch, s.dispatch_eq, hrun]
  have hu : (u.pw.mode = s.pw.mode ∧ u.sched = s.sched ∧ u.obj 0x5020 1 = s.obj 0x5020 1) ∧ u.ctxs = s.ctxs ∧
      u.mem = s.mem ∧ u.poison = s.poison := by
    have hobj : s.woken.obj 0x5020 1 = s.obj 0x5020 1 := State.obj_congr (by rw [hwoken.rest]) _ _ _
    simp only [u]
    split
    · rw [hobj, hwoken.rest]; simp
    · rw [State.obj_bump_ne _ (by decide), hobj, hwoken.rest]; simp
  obtain ⟨⟨hmode, hsched, hpairs⟩, hctxs, hmem, hpoison⟩ := hu
  obtain ⟨hjobs, ⟨b, hb, hstarted⟩, hmem', hpoison'⟩ := u.startJob_starts j e
  rw [State.freeSlots_congr hmode hsched hpairs] at hjobs hstarted
  intro slots
  obtain ⟨hnodup, hlen⟩ := s.freeSlots_nodup e j.contexts
  have hat (g : Nat) : (u.startJob j e).ctxAt g = (b.startContexts j e (slots.zip (List.range 64))).ctxAt g := by
    simp only [State.ctxAt, hstarted, slots]
  have hfst : ((slots.zip (List.range 64)).map (·.1)) = slots := by
    rw [List.map_fst_zip]; rw [List.length_range]; exact hlen
  refine ⟨_, hexec, ?_, fun n hn => ?_, fun g hg => ?_, sameMemory_of_mem (hmem'.trans hmem) (hpoison'.trans hpoison)⟩
  · have hmem : j ∈ s.sched.jobs := List.mem_of_find?_eq_some hjob
    refine ⟨j.running e slots u.nowNs, ?_, rfl, rfl, rfl, rfl, rfl⟩
    rw [hjobs, hsched]
    exact List.mem_map.mpr ⟨j, hmem, if_pos rfl⟩
  · rw [hat]
    refine State.startContexts_self j e (by rw [hfst]; exact hnodup) ?_ b
    refine List.mem_iff_getElem.mpr ⟨n, ?_, ?_⟩
    · rw [List.length_zip, List.length_range]
      exact lt_min hn (lt_of_lt_of_le hn hlen)
    · simp
  · rw [hat, State.startContexts_other j e fun p hp => hg p.1 (hfst ▸ List.mem_map_of_mem hp)]
    simp only [State.ctxAt, hb, hctxs]

/-- Where every chosen engine is gated, all of them wake and nothing starts (R62). -/
theorem jobDispatch_wakes {s : Machine.State} (h : ∀ p ∈ s.starts, s.obj 0x4000 1 p.2 ≠ 0 ∧ p.2 < 48) :
    Answers (.jobDispatch) s (fun t => (∀ p ∈ s.starts, (t.engine p.2).waking = true) ∧ t.sched = s.sched ∧ t.ctxs = s.ctxs ∧
      SameMemory s t) := by
  have hmust : ∀ p ∈ s.starts, s.mustWake p = true := fun p hp => by simpa [State.mustWake] using (h p hp).1
  have hall : s.starts.takeWhile s.mustWake = s.starts := by
    rw [List.takeWhile_eq_self_iff]; exact hmust
  have hnone : s.starts.find? (fun p => !s.mustWake p) = none :=
    List.find?_eq_none.mpr fun p hp => by simp [hmust p hp]
  have hexec : exec (.jobDispatch) s = .next s.woken := by
    have hdispatch : exec (.jobDispatch) s = .next s.dispatch := rfl
    rw [hdispatch, s.dispatch_eq, hnone]
  refine ⟨_, hexec, fun p hp => ?_, ?_, ?_, ?_⟩
  · rw [State.woken, hall]
    exact WakesEngines.foldl_mem (f := fun s (p : Job × Nat) => s.wakeEngine p.2) (fun s p => .wakeEngine s p.2)
      (fun s => WakesEngines.wakeEngine_self s p.2) hp s
  all_goals rw [s.woken_wakes.rest]
  exact ⟨fun _ => rfl, rfl⟩

/-- A job's start state, register by register (R337). -/
theorem startCtx_is (j : Job) (n : Nat) :
    let c := startCtx j n
    c.pc = BitVec.ofNat 64 (field j.desc 16 8) ∧ c.get 10 = BitVec.ofNat 64 (field j.desc 24 8) ∧
    c.get 11 = BitVec.ofNat 64 (field j.desc 48 8) ∧ c.get 12 = BitVec.ofNat 64 n ∧
    c.get 13 = BitVec.ofNat 64 (field j.desc 2 1 % 64 + 1) ∧ c.flags = 0 ∧ c.tag = BitVec.ofNat 64 (field j.desc 8 8) ∧
    (∀ r : Fin 32, r ≠ 10 → r ≠ 11 → r ≠ 12 → r ≠ 13 → c.get r = 0) := by
  refine ⟨rfl, ?_, ?_, ?_, ?_, rfl, rfl, fun r h10 h11 h12 h13 => ?_⟩
  · simp [startCtx, Ctx.get]
  · simp [startCtx, Ctx.get]
  · simp [startCtx, Ctx.get]
  · simp [startCtx, Ctx.get, Job.contexts]
  · have h10' : 10 ≠ r.val := fun e => h10 (Fin.ext e.symm)
    have h11' : 11 ≠ r.val := fun e => h11 (Fin.ext e.symm)
    have h12' : 12 ≠ r.val := fun e => h12 (Fin.ext e.symm)
    have h13' : 13 ≠ r.val := fun e => h13 (Fin.ext e.symm)
    simp [startCtx, Ctx.get, Ctx.zero, h10', h11', h12', h13']

/-- A move ends: the store room is zero, its contexts are gone, its directory is clear (R330). -/
theorem partitionMoveScrubDone_ends (e : Fin 48) {s : Machine.State} (h : (s.engine e.val).moving.isSome = true) :
    Answers (.partitionMoveScrubDone e) s (fun t => (t.engine e.val).moving = none ∧ (t.engine e.val).dir = [] ∧
      (∀ x, t.memByte x = if storeRoom e.val ≤ x ∧ x < storeRoom e.val + 0x200000 then 0 else s.memByte x) ∧
      (∀ g : Fin 3072, t.ctx (.ctx g) = if g.val / 64 = e.val then Ctx.zero else s.ctx (.ctx g))) := by
  refine ⟨_, rfl, ?_⟩
  rw [if_neg (by rw [Option.isNone_eq_false_iff.mpr h]; decide)]
  refine ⟨by rw [State.engine_modEngine_self], by rw [State.engine_modEngine_self], fun x => ?_, fun g => ?_⟩
  · exact s.memByte_memZero (storeRoom e.val) 0x200000 x
  · refine (Amap.get_filter Ctx.zero s.ctxs (fun c => !(c < 3072 && c / 64 = e.val)) g.val).trans ?_
    have hg := g.isLt
    by_cases hc : g.val / 64 = e.val
    · rw [if_pos hc, if_neg (by simp [hc])]
    · rw [if_neg hc, if_pos (by simp [hc])]; rfl

/-- The reset of partition 0 ends: submissions are accepted again (R341). -/
theorem partitionResetDone_ends {s : Machine.State} (h : s.resetReady 0 = true) :
    Answers (.partitionResetDone 0) s (fun t => t.resetting 0 = false ∧
      t.sched.resets = s.sched.resets.filter (fun r => r.part != 0) ∧ t.ctxs = s.ctxs ∧ SameMemory s t) := by
  refine ⟨_, rfl, ?_⟩
  rw [if_neg (by rw [show ((0 : Fin 9) : Nat) = 0 from rfl, h]; decide)]
  dsimp only
  rw [if_pos (show ((0 : Fin 9) : Nat) = 0 from rfl)]
  refine ⟨?_, rfl, rfl, ⟨fun _ => rfl, rfl⟩⟩
  have hgone : ∀ r ∈ s.sched.resets.filter (fun r => r.part != 0), ¬(r.part = 0) := fun r hr => by simpa using (List.mem_filter.mp hr).2
  exact List.any_eq_false.mpr fun r hr => by simpa using hgone r hr

/-- Settles O30. -/
theorem dispatchStartsContexts : Obligations.DispatchStartsContexts := by
  unfold Obligations.DispatchStartsContexts
  refine ⟨fun s j e => jobDispatch_starts, fun s => jobDispatch_wakes, fun s j e h => ?_, startCtx_is,
    fun e s => partitionMoveScrubDone_ends e, fun s => partitionResetDone_ends⟩
  obtain ⟨hphase, heligible⟩ := State.mem_starts h
  exact ⟨hphase, State.mem_eligible heligible⟩

end Sys2Proof
end

section
/-! # The adaptive loops (O53): what a loop applies, and how it is judged (R478 to R480) -/

namespace Sys2Proof.Machine

open Sys2Proof

theorem testBit_setBit_self (v n : Nat) : (setBit v n).testBit n = true := by
  rw [setBit, Nat.testBit_or, Nat.testBit_two_pow_self, Bool.or_true]

theorem testBit_clearBit_self (v n : Nat) : (clearBit v n).testBit n = false := by
  unfold clearBit
  split
  · next h =>
    rw [Nat.testBit_eq_decide_div_mod_eq, decide_eq_true_eq] at h
    rw [Nat.testBit_eq_decide_div_mod_eq, decide_eq_false_iff_not]
    have hdiv : (v - 2 ^ n * 1) / 2 ^ n = v / 2 ^ n - 1 := Nat.sub_mul_div v (2 ^ n) 1
    rw [Nat.mul_one] at hdiv
    omega
  · next h => simpa using h

/-- The applied value lies in the hardware range, and in the software range where the two meet, where a wanted value of both is
taken as it is. -/
theorem loopPick_range (f c lo hi v : Nat) (hfc : f ≤ c) (hlohi : lo ≤ hi) : lo ≤ loopPick f c lo hi v ∧ loopPick f c lo hi v ≤ hi ∧
    (lo ≤ c → f ≤ hi → f ≤ loopPick f c lo hi v ∧ loopPick f c lo hi v ≤ c ∧
      (f ≤ v → v ≤ c → lo ≤ v → v ≤ hi → loopPick f c lo hi v = v)) := by
  unfold loopPick
  split
  · omega
  · split <;> omega

/-! ## Judging a loop -/

/-- How a loop's applied value is judged: it is noted whether it lies outside, and a beginning is counted and shown (R479). -/
def Judged (s : State) (n f c v : Nat) (t : State) : Prop :=
  let outside : Bool := v < f || c < v
  t.loops.outside.testBit n = outside ∧
  (if outside = true ∧ s.loops.outside.testBit n = false then
    t.obj 0xB020 1 = (s.obj 0xB020 1 + 1) % 2 ^ objBits 0xB020 1 ∧ t.obj 0xB020 (2 + n) = (s.obj 0xB020 (2 + n) + 1) % 2 ^ objBits 0xB020 (2 + n) ∧
    t.obj 0xB020 7 = n + 1 ∧ t.obj 0xB020 8 = (if v < f then f else c) ∧ t.obj 0xB020 9 = v
  else t.obj 0xB020 1 = s.obj 0xB020 1 ∧ t.journal = s.journal)

/-- From `s` to `t` a loop has been judged, and nothing else: 0xB020, its journal entry and its EMCY. -/
structure JudgesOnly (s t : State) : Prop where
  rest : t = { s with
    objs := t.objs, can := t.can, mons := t.mons, out := t.out, journal := t.journal
    loops := { s.loops with
      outside := t.loops.outside, journalAt := t.loops.journalAt, journalCount := t.loops.journalCount
      pendJournal := t.loops.pendJournal } }
  objK : ∀ k, reportKey k = false → k / 2 ^ 24 ≠ 0xB020 → t.objK k = s.objK k
  sent : ∀ o ∈ s.out, o ∈ t.out

namespace JudgesOnly

variable {s t u : State}

theorem trans (h : JudgesOnly s t) (k : JudgesOnly t u) : JudgesOnly s u :=
  ⟨by rw [k.rest, h.rest], fun n h0 h1 => (k.objK n h0 h1).trans (h.objK n h0 h1), fun o ho => k.sent o (h.sent o ho)⟩

theorem ofReports (h : ReportsOnly s t) : JudgesOnly s t := ⟨by rw [h.rest], fun k h0 _ => h.objK k h0, h.sent⟩

theorem refl (s : State) : JudgesOnly s s := ofReports (.refl s)

theorem obj (h : JudgesOnly s t) (i j : Nat) (c : Nat := 0) (hk : reportKey (okey i j c) = false := by decide)
    (h1 : okey i j c / 2 ^ 24 ≠ 0xB020 := by decide) : t.obj i j c = s.obj i j c := h.objK _ hk h1

/-- What a judgement keeps of the loops' own state. -/
theorem loops (h : JudgesOnly s t) : t.loops = { s.loops with
    outside := t.loops.outside, journalAt := t.loops.journalAt, journalCount := t.loops.journalCount
    pendJournal := t.loops.pendJournal } := (congrArg State.loops h.rest).trans rfl

theorem pw (h : JudgesOnly s t) : t.pw = s.pw := by rw [h.rest]
theorem pins (h : JudgesOnly s t) : t.pins = s.pins := by rw [h.rest]
theorem ctxs (h : JudgesOnly s t) : t.ctxs = s.ctxs := by rw [h.rest]
theorem tempOut (h : JudgesOnly s t) : t.tempOut = s.tempOut := by rw [h.rest]
theorem throttling (h : JudgesOnly s t) : t.throttling = s.throttling := by rw [h.rest]

theorem calm (h : JudgesOnly s t) : Calm s t := by
  rw [h.rest]; exact ⟨⟨fun _ => rfl, rfl⟩, rfl, rfl, rfl, rfl, rfl, rfl, rfl⟩

theorem ite {c : Prop} [Decidable c] (ht : JudgesOnly s t) (hu : JudgesOnly s u) : JudgesOnly s (if c then t else u) := by
  split
  · exact ht
  · exact hu

theorem setObj (s : State) {j v : Nat} (hj : j < 256) : JudgesOnly s (s.setObj 0xB020 j v) :=
  ⟨rfl, fun k _ h1 => s.objK_setObj_ne fun e => h1 (by rw [e]; exact okey_div _ hj (by decide)), fun _ h => h⟩

theorem loopJournal (s : State) : JudgesOnly s s.loopJournal := by
  unfold State.loopJournal
  extract_lets n u _ v
  have hv : JudgesOnly s v := ⟨rfl, fun _ _ _ => rfl, fun _ h => h⟩
  exact (hv.trans (setObj v (by decide))).trans (ofReports (.raise _ _ _ _))

end JudgesOnly

/-- A loop's bit after it was judged. -/
def State.noteOutside (s : State) (loop : Nat) (out : Bool) : State :=
  { s with loops := { s.loops with outside := if out then setBit s.loops.outside loop else clearBit s.loops.outside loop } }

/-- What is shown of a disagreement that begins (R479). -/
def State.showDisagreement (s : State) (loop f c v : Nat) : State :=
  ((((s.bump 0xB020 1).bump 0xB020 (2 + loop)).setObj 0xB020 7 (loop + 1)).setObj 0xB020 8 (if v < f then f else c)).setObj 0xB020 9 v

/-- Journaling a disagreement, or leaving it for the end of the hold (R480). -/
def State.journalDue (s : State) : State :=
  let due : Bool := match s.loops.journalAt with
    | none => true
    | some t => t + 1000000 ≤ s.clk.ticks
  if due then s.loopJournal else { s with loops := { s.loops with pendJournal := true } }

theorem State.loopJudge_eq (s : State) (loop f c v : Nat) :
    s.loopJudge loop f c v =
      if (decide (v < f) || decide (c < v)) && !bit s.loops.outside loop then
        ((s.noteOutside loop (v < f || c < v)).showDisagreement loop f c v).journalDue
      else s.noteOutside loop (v < f || c < v) := by
  cases hb : (decide (v < f) || decide (c < v)) && !bit s.loops.outside loop
  · simp only [State.loopJudge, hb, Bool.not_false, if_true, Bool.false_eq_true, if_false]
    rfl
  · simp only [State.loopJudge, hb, Bool.not_true, if_true, Bool.false_eq_true, if_false, State.journalDue]
    rfl

theorem JudgesOnly.journalDue (s : State) : JudgesOnly s s.journalDue := by
  unfold State.journalDue
  exact ite (.loopJournal s) ⟨rfl, fun _ _ _ => rfl, fun _ h => h⟩

theorem JudgesOnly.showDisagreement (s : State) {loop : Nat} (hl : loop < 5) (f c v : Nat) :
    JudgesOnly s (s.showDisagreement loop f c v) :=
  ((((setObj s (by decide)).trans (setObj _ (by omega))).trans (setObj _ (by decide))).trans (setObj _ (by decide))).trans
    (setObj _ (by decide))

theorem JudgesOnly.loopJudge (s : State) {loop : Nat} (hl : loop < 5) (f c v : Nat) : JudgesOnly s (s.loopJudge loop f c v) := by
  have hnote : JudgesOnly s (s.noteOutside loop (v < f || c < v)) := ⟨rfl, fun _ _ _ => rfl, fun _ h => h⟩
  rw [s.loopJudge_eq]
  split
  · exact (hnote.trans (.showDisagreement _ hl f c v)).trans (.journalDue _)
  · exact hnote

/-- Two subindices of an index have two keys. -/
theorem okey_sub_ne {i j j' c : Nat} (h : j ≠ j') : okey i j c ≠ okey i j' c := by
  unfold okey; omega

/-- Journaling a disagreement counts the entry in 0xB020:0A alone, and leaves the loops' bits. -/
theorem State.loopJournal_keeps (s : State) {j : Nat} (hj : j < 0x0A) :
    s.loopJournal.obj 0xB020 j = s.obj 0xB020 j ∧ s.loopJournal.loops.outside = s.loops.outside := by
  unfold State.loopJournal
  extract_lets n u _ v
  have hraise : ReportsOnly (v.bump 0xB020 0x0A) ((v.bump 0xB020 0x0A).raise 0xFF08 0xFF n) := .raise _ _ _ _
  refine ⟨(hraise.objK _ ?_).trans ((v.obj_bump_ne (okey_sub_ne (by omega))).trans (State.obj_congr rfl _ _ _)), by rw [hraise.loops]; rfl⟩
  have hdiv := okey_div 0xB020 (show j < 256 by omega) (c := 0) (by decide)
  simp only [reportKey, hdiv]; decide

theorem State.journalDue_keeps (s : State) {j : Nat} (hj : j < 0x0A) :
    s.journalDue.obj 0xB020 j = s.obj 0xB020 j ∧ s.journalDue.loops.outside = s.loops.outside := by
  have hkeeps (due : Bool) : let t := if due then s.loopJournal else { s with loops := { s.loops with pendJournal := true } }
      t.obj 0xB020 j = s.obj 0xB020 j ∧ t.loops.outside = s.loops.outside := by
    cases due
    · rw [if_neg (by decide)]
      exact ⟨State.obj_congr rfl _ _ _, rfl⟩
    · rw [if_pos rfl]
      exact s.loopJournal_keeps hj
  exact hkeeps _

theorem State.noteOutside_testBit (s : State) (loop : Nat) (out : Bool) : (s.noteOutside loop out).loops.outside.testBit loop = out := by
  cases out
  · exact testBit_clearBit_self _ _
  · exact testBit_setBit_self _ _

theorem State.showDisagreement_shows (s : State) {loop : Nat} (hl : loop < 5) (f c v : Nat) :
    let t := s.showDisagreement loop f c v
    t.obj 0xB020 1 = (s.obj 0xB020 1 + 1) % 2 ^ objBits 0xB020 1 ∧
    t.obj 0xB020 (2 + loop) = (s.obj 0xB020 (2 + loop) + 1) % 2 ^ objBits 0xB020 (2 + loop) ∧
    t.obj 0xB020 7 = loop + 1 ∧ t.obj 0xB020 8 = (if v < f then f else c) ∧ t.obj 0xB020 9 = v := by
  have h1 : s.obj 0xB020 (2 + loop) = (s.bump 0xB020 1).obj 0xB020 (2 + loop) := (s.obj_bump_ne (okey_sub_ne (by omega))).symm
  refine ⟨?_, ?_, ?_, ?_, State.obj_setObj_self _ _ _ _ _⟩
  · rw [State.showDisagreement, State.obj_setObj_ne _ (by decide), State.obj_setObj_ne _ (by decide), State.obj_setObj_ne _ (by decide),
      State.obj_bump_ne _ (okey_sub_ne (by omega)), State.obj_bump_self]
  · rw [h1, ← State.obj_bump_self, State.showDisagreement, State.obj_setObj_ne _ (okey_sub_ne (by omega)),
      State.obj_setObj_ne _ (okey_sub_ne (by omega)), State.obj_setObj_ne _ (okey_sub_ne (by omega))]
  · rw [State.showDisagreement, State.obj_setObj_ne _ (by decide), State.obj_setObj_ne _ (by decide), State.obj_setObj_self]
  · rw [State.showDisagreement, State.obj_setObj_ne _ (by decide), State.obj_setObj_self]

/-- What judging a loop notes, counts and shows (R479). -/
theorem State.loopJudge_judged (s : State) {loop : Nat} (hl : loop < 5) (f c v : Nat) : Judged s loop f c v (s.loopJudge loop f c v) := by
  unfold Judged
  extract_lets outside
  rw [s.loopJudge_eq]
  have hbit := s.noteOutside_testBit loop outside
  by_cases hb : outside = true ∧ s.loops.outside.testBit loop = false
  · have hb' : ((decide (v < f) || decide (c < v)) && !bit s.loops.outside loop) = true := by
      simpa [bit, outside] using hb
    rw [if_pos hb', if_pos hb]
    have hkeep {j : Nat} (hj : j < 0x0A) := (((s.noteOutside loop outside).showDisagreement loop f c v).journalDue_keeps hj)
    obtain ⟨h1, h2, h7, h8, h9⟩ := (s.noteOutside loop outside).showDisagreement_shows hl f c v
    refine ⟨?_, (hkeep (by decide)).1.trans h1, (hkeep (by omega)).1.trans h2, (hkeep (by decide)).1.trans h7,
      (hkeep (by decide)).1.trans h8, (hkeep (by decide)).1.trans h9⟩
    rw [(hkeep (j := 0) (by decide)).2]
    exact hbit
  · have hb' : ¬((decide (v < f) || decide (c < v)) && !bit s.loops.outside loop) = true := by
      simpa [bit, outside] using hb
    rw [if_neg hb', if_neg hb]
    exact ⟨hbit, State.obj_congr rfl _ _ _, rfl⟩

/-- A judgement depends on the loop's bit, the counts and the journal alone. -/
theorem Judged.of_same {s s' t : State} {n f c v : Nat} (h : Judged s' n f c v t) (hbit : s'.loops.outside = s.loops.outside)
    (h1 : s'.obj 0xB020 1 = s.obj 0xB020 1) (h2 : s'.obj 0xB020 (2 + n) = s.obj 0xB020 (2 + n)) (hj : s'.journal = s.journal) :
    Judged s n f c v t := by
  unfold Judged at h ⊢
  rwa [hbit, h1, h2, hj] at h

end Sys2Proof.Machine
end

section
/-! # The adaptive voltage and the droop margin (R482 to R484, R516) -/

namespace Sys2Proof.Machine

open Sys2Proof

/-- The set point is written where it is due, and the regulator's answer noted (R482, R516). -/
def State.avsApply (s : State) (send acked : Bool) (mv : Nat) : State :=
  let s := if send then s.avsWrite mv else s
  if acked then (s.setObj 0xB030 2 mv).setObj 0xB030 5 0 else s

theorem State.avsWrite_shows (s : State) (mv : Nat) : (s.avsWrite mv).obj 0xB021 3 = mv ∧
    (s.avsWrite mv).obj 0xB030 1 = (s.obj 0xB030 1 + 1) % 2 ^ objBits 0xB030 1 := by
  unfold State.avsWrite
  simp only [State.obj_emit]
  refine ⟨State.obj_setObj_self _ _ _ _ _, ?_⟩
  rw [State.obj_setObj_ne _ (by decide), State.obj_bump_self]
  rw [State.obj_congr (s := s) (by rfl)]

theorem State.avsWrite_rest (s : State) (mv : Nat) : s.avsWrite mv =
    { s with objs := (s.avsWrite mv).objs, out := .avs mv :: s.out, pw := { s.pw with avsSet := mv } } := by
  simp only [State.avsWrite, State.emit, State.setObj, State.bump]

theorem State.avsApply_rest (s : State) (send acked : Bool) (mv : Nat) : s.avsApply send acked mv =
    { s with objs := (s.avsApply send acked mv).objs, out := if send then .avs mv :: s.out else s.out
             pw := { s.pw with avsSet := if send then mv else s.pw.avsSet } } := by
  cases send <;> cases acked <;>
    simp only [State.avsApply, State.avsWrite, State.emit, State.setObj, State.bump, Bool.false_eq_true, if_false, if_true]

/-- Entries beside the set point and the regulator's own stay. -/
theorem State.obj_avsApply_ne (s : State) (send acked : Bool) (mv : Nat) {i j : Nat} (h1 : okey i j 0 ≠ okey 0xB021 3 0)
    (h2 : okey i j 0 ≠ okey 0xB030 1 0) (h3 : okey i j 0 ≠ okey 0xB030 2 0) (h4 : okey i j 0 ≠ okey 0xB030 5 0) :
    (s.avsApply send acked mv).obj i j = s.obj i j := by
  cases send <;> cases acked <;>
    simp [State.avsApply, State.obj_avsWrite_ne, State.obj_setObj_ne, h1, h2, h3, h4]

/-- What is applied is shown; what is sent is counted, and its answer read back. -/
theorem State.avsApply_shows (s : State) (send acked : Bool) (mv : Nat) :
    let t := s.avsApply send acked mv
    t.obj 0xB021 3 = (if send then mv else s.obj 0xB021 3) ∧
    t.obj 0xB030 1 = (if send then (s.obj 0xB030 1 + 1) % 2 ^ objBits 0xB030 1 else s.obj 0xB030 1) ∧
    (acked = true → t.obj 0xB030 2 = mv ∧ t.obj 0xB030 5 = 0) ∧ (send = true → Output.avs mv ∈ t.out) := by
  obtain ⟨hshown, hcount⟩ := s.avsWrite_shows mv
  have hout : Output.avs mv ∈ (s.avsWrite mv).out := by rw [s.avsWrite_rest]; exact List.mem_cons_self
  cases send <;> cases acked <;> simp [State.avsApply, State.obj_setObj, okey, hshown, hcount, hout]

end Sys2Proof.Machine

namespace Sys2Proof

open Sys2Proof.Machine

/-- The adaptive voltage: the lower limit shown, the set point moved, sent and judged (R482, R516). -/
theorem avsEvaluation_moves {s : Machine.State} (h : s.loopsRun = true) (path : BitVec 16) (margin warning acked : Bool) :
    let v := s.obj 0xB021 3
    let lo := min 850 (max 650 (path.toNat + 10))
    let since := if margin && !warning then some (s.loops.marginSince.getD s.clk.ticks) else none
    let want := if warning then v + 5 else if since.any (fun t => t + 1000 ≤ s.clk.ticks) then v - 5 else v
    let new := if s.objB 0xB030 5 then v else loopPick (s.obj 0xB021 1) (s.obj 0xB021 2) lo 850 want
    Answers (.avsEvaluation path margin warning acked) s (fun t =>
      t.obj 0xB021 4 = lo ∧ t.obj 0xB021 3 = new ∧ t.loops.marginSince = since ∧
      Judged s 0 (s.obj 0xB021 1) (s.obj 0xB021 2) new t ∧
      (if s.objB 0xB030 5 = true ∨ new ≠ v then
        t.obj 0xB030 1 = (s.obj 0xB030 1 + 1) % 2 ^ objBits 0xB030 1 ∧ t.pw = { s.pw with avsSet := new } ∧ Output.avs new ∈ t.out ∧
        (acked = true → t.obj 0xB030 2 = new ∧ t.obj 0xB030 5 = 0)
      else t.obj 0xB030 1 = s.obj 0xB030 1 ∧ t.pw = s.pw) ∧ t.ctxs = s.ctxs ∧ SameMemory s t) := by
  intro v lo since want new
  let u : Machine.State := { s.setObj 0xB021 4 lo with loops := { s.loops with marginSince := since } }
  have hu (i j : Nat) (hne : okey i j 0 ≠ okey 0xB021 4 0) : u.obj i j = s.obj i j :=
    (State.obj_congr rfl _ _ _).trans (s.obj_setObj_ne hne)
  let send : Bool := s.objB 0xB030 5 || new != v
  let w := u.avsApply send acked new
  have hexec : exec (.avsEvaluation path margin warning acked) s = .next (w.loopJudge 0 (w.obj 0xB021 1) (w.obj 0xB021 2) new) := by
    have hrun : exec (.avsEvaluation path margin warning acked) s = execAvsEvaluation path margin warning acked s := rfl
    rw [hrun, execAvsEvaluation, if_neg (by simp [h])]
    extract_lets u₀ since' _ u' v' calm' want' held' new' w₀ w'
    have hu' : u' = u := rfl
    have hcalm : calm' = since.any (fun t => t + 1000 ≤ s.clk.ticks) := by
      have hsince (o : Option Nat) (n : Nat) : (match o with
        | some t => decide (t + 1000 ≤ n)
        | none => false) = o.any (fun t => t + 1000 ≤ n) := by cases o <;> rfl
      exact hsince since s.clk.ticks
    have hv : v' = v := hu 0xB021 3 (by decide)
    have hheld : held' = s.objB 0xB030 5 := congrArg (· != 0) (hu 0xB030 5 (by decide))
    have hnew : new' = new := by
      simp only [new', want', hcalm, hv, hheld, hu', hu 0xB021 1 (by decide), hu 0xB021 2 (by decide), new, want]
    have hw : w' = w := by
      simp only [w', w₀, hnew, hheld, hv, hu']
      rfl
    rw [hw, hnew]
  have hw (i j : Nat) (h1 : okey i j 0 ≠ okey 0xB021 3 0) (h2 : okey i j 0 ≠ okey 0xB030 1 0) (h3 : okey i j 0 ≠ okey 0xB030 2 0)
      (h4 : okey i j 0 ≠ okey 0xB030 5 0) : w.obj i j = u.obj i j := u.obj_avsApply_ne send acked new h1 h2 h3 h4
  have hf : w.obj 0xB021 1 = s.obj 0xB021 1 :=
    (hw _ _ (by decide) (by decide) (by decide) (by decide)).trans (hu _ _ (by decide))
  have hc : w.obj 0xB021 2 = s.obj 0xB021 2 :=
    (hw _ _ (by decide) (by decide) (by decide) (by decide)).trans (hu _ _ (by decide))
  have hlo : w.obj 0xB021 4 = lo :=
    (hw _ _ (by decide) (by decide) (by decide) (by decide)).trans
      ((State.obj_congr rfl _ _ _).trans (State.obj_setObj_self _ _ _ _ _))
  have hrest := u.avsApply_rest send acked new
  have hpw : w.pw = { s.pw with avsSet := if send then new else s.pw.avsSet } := (congrArg State.pw hrest).trans rfl
  have hloops : w.loops = u.loops := (congrArg State.loops hrest).trans rfl
  have hjournal : w.journal = s.journal := (congrArg State.journal hrest).trans rfl
  obtain ⟨hset, hcount, hacked, hsent⟩ := u.avsApply_shows send acked new
  rw [hf, hc] at hexec
  have hj : JudgesOnly w (w.loopJudge 0 (s.obj 0xB021 1) (s.obj 0xB021 2) new) := .loopJudge w (by decide) _ _ _
  have hjudged := (w.loopJudge_judged (loop := 0) (by decide) (s.obj 0xB021 1) (s.obj 0xB021 2) new)
  have hsend : send = true ↔ s.objB 0xB030 5 = true ∨ new ≠ v := by simp [send]
  have hone : w.obj 0xB020 1 = s.obj 0xB020 1 :=
    (hw _ _ (by decide) (by decide) (by decide) (by decide)).trans (hu _ _ (by decide))
  have htwo : w.obj 0xB020 2 = s.obj 0xB020 2 :=
    (hw _ _ (by decide) (by decide) (by decide) (by decide)).trans (hu _ _ (by decide))
  have happlied : (if send then new else u.obj 0xB021 3) = new := by
    rw [hu 0xB021 3 (by decide)]
    by_cases hs : send = true
    · rw [if_pos hs]
    · rw [if_neg hs]; exact (not_not.mp fun hn => hs (hsend.mpr (.inr hn))).symm
  have hsent' : (if s.objB 0xB030 5 = true ∨ new ≠ v then
        w.obj 0xB030 1 = (s.obj 0xB030 1 + 1) % 2 ^ objBits 0xB030 1 ∧ w.pw = { s.pw with avsSet := new } ∧ Output.avs new ∈ w.out ∧
        (acked = true → w.obj 0xB030 2 = new ∧ w.obj 0xB030 5 = 0)
      else w.obj 0xB030 1 = s.obj 0xB030 1 ∧ w.pw = s.pw) := by
    rw [hu 0xB030 1 (by decide)] at hcount
    by_cases hs : send = true
    · rw [if_pos (hsend.mp hs)]
      rw [if_pos hs] at hcount hpw
      exact ⟨hcount, hpw, hsent hs, hacked⟩
    · rw [if_neg fun h => hs (hsend.mpr h)]
      rw [if_neg hs] at hcount hpw
      exact ⟨hcount, hpw⟩
  refine ⟨_, hexec, (hj.obj 0xB021 4).trans hlo, (hj.obj 0xB021 3).trans (hset.trans happlied), ?_,
    hjudged.of_same (by rw [hloops]) hone htwo hjournal, ?_, ?_, ?_⟩
  · rw [hj.rest, hloops]
  · rw [hj.obj 0xB030 1, hj.obj 0xB030 2, hj.obj 0xB030 5, hj.pw]
    split at hsent'
    · next hs =>
      obtain ⟨h1, h2, h3, h4⟩ := hsent'
      exact if_pos hs ▸ ⟨h1, h2, hj.sent _ h3, h4⟩
    · next hs => exact if_neg hs ▸ hsent'
  · exact hj.ctxs.trans ((congrArg State.ctxs hrest).trans rfl)
  · obtain ⟨hm, hp⟩ := hj.calm.1
    have hmem : SameMemory s w := sameMemory_of_mem ((congrArg State.mem hrest).trans rfl) ((congrArg State.poison hrest).trans rfl)
    exact ⟨fun a => (hm a).trans (hmem.1 a), hp.trans hmem.2⟩

end Sys2Proof
end

section
/-! # Droop, spill level and the loops' journal (R480, R483, R484, R488, R516) -/

namespace Sys2Proof

open Sys2Proof.Machine

theorem Calm.trans {s t u : Machine.State} (h : Calm s t) (k : Calm t u) : Calm s u := by
  obtain ⟨⟨hm, hp⟩, h1, h2, h3, h4, h5, h6, h7⟩ := h
  obtain ⟨⟨km, kp⟩, k1, k2, k3, k4, k5, k6, k7⟩ := k
  exact ⟨⟨fun a => (km a).trans (hm a), kp.trans hp⟩, k1.trans h1, k2.trans h2, k3.trans h3, k4.trans h4, k5.trans h5, k6.trans h6,
    k7.trans h7⟩

/-! ## Droop (R483, R484) -/

/-- A trip while not stretched is counted; another changes nothing. -/
theorem droopTrip_counts {s : Machine.State} (h : s.loopsRun = true) :
    (s.loops.stretch = false → Answers (.droopTrip) s (fun t =>
      t.obj 0xB022 4 = (s.obj 0xB022 4 + 1) % 2 ^ objBits 0xB022 4 ∧ SameObjs [okey 0xB022 4 0] s t ∧
      t = { s with objs := t.objs, loops := { s.loops with stretch := true, stretches := s.now :: s.loops.stretches } })) ∧
    (s.loops.stretch = true → Answers (.droopTrip) s (fun t => t = s)) := by
  refine ⟨fun hs => ?_, fun hs => ⟨_, rfl, if_pos (by simp [hs])⟩⟩
  let u : Machine.State := { s with loops := { s.loops with stretch := true, stretches := s.now :: s.loops.stretches } }
  have hexec : exec (.droopTrip) s = .next (u.bump 0xB022 4) := congrArg Host.Outcome.next (if_neg (by simp [h, hs]))
  refine ⟨_, hexec, (u.obj_bump_self _ _ _ _).trans (by rw [State.obj_congr (s := s) (t := u) rfl]), fun i j c hk => ?_,
    by simp only [u, State.bump, State.setObj]⟩
  exact (u.obj_bump_ne fun e => hk (by simp [e])).trans (State.obj_congr rfl _ _ _)

/-- The end of a stretch adds the cycles it lasted, and the longest is kept. -/
theorem droopRelease_counts (cycles : BitVec 32) (s : Machine.State) :
    (s.loops.stretch = true → Answers (.droopRelease cycles) s (fun t =>
      t.obj 0xB022 5 = (s.obj 0xB022 5 + cycles.toNat) % 2 ^ objBits 0xB022 5 ∧
      t.obj 0xB022 6 = max (s.obj 0xB022 6) cycles.toNat ∧ SameObjs [okey 0xB022 5 0, okey 0xB022 6 0] s t ∧
      t = { s with objs := t.objs, loops := { s.loops with stretch := false } })) ∧
    (s.loops.stretch = false → Answers (.droopRelease cycles) s (fun t => t = s)) := by
  refine ⟨fun hs => ?_, fun hs => ⟨_, rfl, if_pos (by simp [hs])⟩⟩
  let u : Machine.State := { s with loops := { s.loops with stretch := false } }
  let w := u.bump 0xB022 5 0 cycles.toNat
  have hexec : exec (.droopRelease cycles) s = .next (w.raiseMax 0xB022 6 cycles.toNat) :=
    congrArg Host.Outcome.next (if_neg (by simp [hs]))
  have hw (i j c : Nat) (hne : okey i j c ≠ okey 0xB022 5 0) : w.obj i j c = s.obj i j c :=
    (u.obj_bump_ne hne).trans (State.obj_congr rfl _ _ _)
  have hfive : w.obj 0xB022 5 = (s.obj 0xB022 5 + cycles.toNat) % 2 ^ objBits 0xB022 5 :=
    (u.obj_bump_self _ _ _ _).trans (by rw [State.obj_congr (s := s) (t := u) rfl])
  have hsix := hw 0xB022 6 0 (by decide)
  refine ⟨_, hexec, ?_⟩
  unfold State.raiseMax
  split
  · next hlt =>
    rw [hsix] at hlt
    refine ⟨(State.obj_setObj_ne _ (by decide)).trans hfive, (State.obj_setObj_self _ _ _ _ _).trans (max_eq_right hlt.le).symm,
      fun i j c hk => ?_, rfl⟩
    simp only [List.cons_append, List.nil_append, List.mem_cons, not_or] at hk
    exact (State.obj_setObj_ne _ hk.2.1).trans (hw i j c hk.1)
  · next hge =>
    rw [hsix] at hge
    refine ⟨hfive, hsix.trans (max_eq_left (not_lt.mp hge)).symm, fun i j c hk => ?_, rfl⟩
    simp only [List.cons_append, List.nil_append, List.mem_cons, not_or] at hk
    exact hw i j c hk.1

/-- The droop margin rises by 5 mV where two stretches came close, falls by 5 mV after 100 calm evaluations, and is judged. -/
theorem droopMarginEvaluation_moves {s : Machine.State} (h : s.loopsRun = true) :
    let recent := s.loops.stretches.filter fun t => s.now ≤ t + 1000
    let m := s.obj 0xB022 3
    let calm := if recent.isEmpty && !s.loops.stretch then s.loops.calmDroop + 1 else 0
    let new := loopPick (s.obj 0xB022 1) (s.obj 0xB022 2) 15 45 (if closePair recent then m + 5 else if calm = 100 then m - 5 else m)
    Answers (.droopMarginEvaluation) s (fun t => t.obj 0xB022 3 = new ∧ Judged s 1 (s.obj 0xB022 1) (s.obj 0xB022 2) new t ∧
      t.loops.calmDroop = (if calm = 100 then 0 else calm) ∧ t.loops.stretches = recent ∧ Calm s t) := by
  intro recent m calm new
  let u : Machine.State := { s with loops := { s.loops with stretches := recent, calmDroop := if calm = 100 then 0 else calm } }
  let w := u.setObj 0xB022 3 new
  have hexec : exec (.droopMarginEvaluation) s = .next (w.loopJudge 1 (s.obj 0xB022 1) (s.obj 0xB022 2) new) :=
    congrArg Host.Outcome.next (if_neg (by simp [h]))
  have hw (i j : Nat) (hne : okey i j 0 ≠ okey 0xB022 3 0) : w.obj i j = s.obj i j :=
    (u.obj_setObj_ne hne).trans (State.obj_congr rfl _ _ _)
  have hj : JudgesOnly w (w.loopJudge 1 (s.obj 0xB022 1) (s.obj 0xB022 2) new) := .loopJudge w (by decide) _ _ _
  have hjudged := w.loopJudge_judged (loop := 1) (by decide) (s.obj 0xB022 1) (s.obj 0xB022 2) new
  refine ⟨_, hexec, (hj.obj 0xB022 3).trans (State.obj_setObj_self _ _ _ _ _),
    hjudged.of_same rfl (hw _ _ (by decide)) (hw _ _ (by decide)) rfl, (congrArg Loops.calmDroop hj.loops).trans rfl,
    (congrArg Loops.stretches hj.loops).trans rfl, hj.calm⟩

/-! ## The spill level (R488) -/

/-- The spill level falls after a forced drop, rises after 100 evaluations without, and is judged. -/
theorem spillLevelEvaluation_moves {s : Machine.State} (h : s.loopsRun = true) :
    let calm := if s.loops.forced then 0 else s.loops.calmSpill + 1
    let since := if s.loops.forcedSafe then 0 else min 100 (s.loops.sinceSafe + 1)
    let hi := if s.pw.mode = .drive && since < 100 then 3 else 4
    let l := s.obj 0x3106 3
    let new := loopPick (s.obj 0x3106 1) (s.obj 0x3106 2) 2 hi (if s.loops.forced then l - 1 else if calm = 100 then l + 1 else l)
    Answers (.spillLevelEvaluation) s (fun t => t.obj 0x3106 3 = new ∧ t.obj 0xB025 1 = hi ∧
      t.obj 0xB025 2 = (if new = l then s.obj 0xB025 2 else (s.obj 0xB025 2 + 1) % 2 ^ objBits 0xB025 2) ∧
      t.loops.forced = false ∧ t.loops.forcedSafe = false ∧ t.loops.sinceSafe = since ∧
      t.loops.calmSpill = (if calm = 100 then 0 else calm) ∧ Judged s 4 (s.obj 0x3106 1) (s.obj 0x3106 2) new t ∧ Calm s t) := by
  intro calm since hi l new
  let u : Machine.State := { s with loops := { s.loops with
    forced := false, forcedSafe := false, calmSpill := if calm = 100 then 0 else calm, sinceSafe := since } }
  let v := (u.setObj 0xB025 1 hi).setObj 0x3106 3 new
  let w := if new = l then v else v.bump 0xB025 2
  have hv (i j : Nat) (h1 : okey i j 0 ≠ okey 0x3106 3 0) (h2 : okey i j 0 ≠ okey 0xB025 1 0) : v.obj i j = s.obj i j :=
    (State.obj_setObj_ne _ h1).trans ((u.obj_setObj_ne h2).trans (State.obj_congr rfl _ _ _))
  have hw : (w.obj 0xB025 2 = if new = l then s.obj 0xB025 2 else (s.obj 0xB025 2 + 1) % 2 ^ objBits 0xB025 2) ∧
      (∀ i j, okey i j 0 ≠ okey 0xB025 2 0 → w.obj i j = v.obj i j) ∧ w = { u with objs := w.objs } := by
    simp only [w]
    split
    · exact ⟨hv _ _ (by decide) (by decide), fun _ _ _ => rfl, rfl⟩
    · exact ⟨(v.obj_bump_self _ _ _ _).trans (by rw [hv _ _ (by decide) (by decide)]), fun _ _ hne => v.obj_bump_ne hne,
        by simp only [v, State.bump, State.setObj]⟩
  obtain ⟨hcount, hother, hrest⟩ := hw
  have hf : w.obj 0x3106 1 = s.obj 0x3106 1 := (hother _ _ (by decide)).trans (hv _ _ (by decide) (by decide))
  have hc : w.obj 0x3106 2 = s.obj 0x3106 2 := (hother _ _ (by decide)).trans (hv _ _ (by decide) (by decide))
  have hexec : exec (.spillLevelEvaluation) s = .next (w.loopJudge 4 (w.obj 0x3106 1) (w.obj 0x3106 2) new) :=
    congrArg Host.Outcome.next (if_neg (by simp [h]))
  rw [hf, hc] at hexec
  have hj : JudgesOnly w (w.loopJudge 4 (s.obj 0x3106 1) (s.obj 0x3106 2) new) := .loopJudge w (by decide) _ _ _
  have hjudged := w.loopJudge_judged (loop := 4) (by decide) (s.obj 0x3106 1) (s.obj 0x3106 2) new
  have hloops : w.loops = u.loops := (congrArg State.loops hrest).trans rfl
  have hcalm : Calm s w := by rw [hrest]; exact ⟨⟨fun _ => rfl, rfl⟩, rfl, rfl, rfl, rfl, rfl, rfl, rfl⟩
  have hkept := hj.loops
  rw [hloops] at hkept
  refine ⟨_, hexec, (hj.obj 0x3106 3).trans ((hother _ _ (by decide)).trans (State.obj_setObj_self _ _ _ _ _)),
    (hj.obj 0xB025 1).trans ((hother _ _ (by decide)).trans ((State.obj_setObj_ne _ (by decide)).trans (State.obj_setObj_self _ _ _ _ _))),
    (hj.obj 0xB025 2).trans hcount, (congrArg Loops.forced hkept).trans rfl, (congrArg Loops.forcedSafe hkept).trans rfl,
    (congrArg Loops.sinceSafe hkept).trans rfl, (congrArg Loops.calmSpill hkept).trans rfl,
    hjudged.of_same (by rw [hloops]) ((hother _ _ (by decide)).trans (hv _ _ (by decide) (by decide)))
      ((hother _ _ (by decide)).trans (hv _ _ (by decide) (by decide))) (by rw [hrest]), Calm.trans hcalm hj.calm⟩

/-! ## The regulator and the journal's hold (R480, R516) -/

/-- A silent or faulty regulator is counted, and shown until it answers. -/
theorem avsNoResponse_counts (fault : Bool) {s : Machine.State} (h : s.pw.mode ≠ .off) :
    Answers (.avsNoResponse fault) s (fun t => t.obj 0xB030 5 = 1 ∧
      t.obj 0xB030 (if fault then 4 else 3) = (s.obj 0xB030 (if fault then 4 else 3) + 1) % 2 ^ objBits 0xB030 (if fault then 4 else 3) ∧
      SameObjs [okey 0xB030 5 0, okey 0xB030 (if fault then 4 else 3) 0] s t ∧ t = { s with objs := t.objs }) := by
  have hexec : exec (.avsNoResponse fault) s = .next ((s.bump 0xB030 (if fault then 4 else 3)).setObj 0xB030 5 1) :=
    congrArg Host.Outcome.next (if_neg h)
  refine ⟨_, hexec, State.obj_setObj_self _ _ _ _ _, ?_, fun i j c hk => ?_, by simp only [State.bump, State.setObj]⟩
  · rw [State.obj_setObj_ne _ (by cases fault <;> decide), State.obj_bump_self]
  · simp only [List.cons_append, List.nil_append, List.mem_cons, not_or] at hk
    exact (State.obj_setObj_ne _ hk.1).trans (s.obj_bump_ne hk.2.1)

/-- A disagreement that waited is journaled at the end of the hold, with its EMCY. -/
theorem disagreementHoldoffEnd_journals {s : Machine.State} :
    (s.loops.pendJournal = true → Answers (.disagreementHoldoffEnd) s (fun t =>
      Journaled 0x3F 0xB020 1 0xFFFF s.loops.journalCount (s.obj 0xB020 1) s t ∧
      t.obj 0xB020 0x0A = (s.obj 0xB020 0x0A + 1) % 2 ^ objBits 0xB020 0x0A ∧
      t.loops = { s.loops with journalAt := some s.clk.ticks, journalCount := s.obj 0xB020 1, pendJournal := false } ∧ Calm s t)) ∧
    (s.loops.pendJournal = false → Answers (.disagreementHoldoffEnd) s (fun t => t = s)) := by
  refine ⟨fun h => ?_, fun h => ⟨_, rfl, if_neg (by simp [h])⟩⟩
  have hexec : exec (.disagreementHoldoffEnd) s = .next s.loopJournal := congrArg Host.Outcome.next (if_pos h)
  refine ⟨_, hexec, ?_⟩
  unfold State.loopJournal
  extract_lets _ n w _ v
  have hraise : ReportsOnly (v.bump 0xB020 0x0A) ((v.bump 0xB020 0x0A).raise 0xFF08 0xFF n) := .raise _ _ _ _
  refine ⟨?_, ?_, ?_, ?_⟩
  · rw [Journaled, hraise.journal]
    exact ⟨_, List.mem_cons_self, rfl, rfl, rfl, rfl, rfl, rfl, rfl, rfl⟩
  · rw [hraise.obj 0xB020 0x0A, State.obj_bump_self, State.obj_congr (s := s) (t := v) (by simp only [v, w, State.journalAdd])]
  · rw [hraise.loops]; rfl
  · have hrest : v.bump 0xB020 0x0A = { s with
        objs := (v.bump 0xB020 0x0A).objs, journal := v.journal, loops := v.loops } := by
      simp only [v, w, State.journalAdd, State.bump, State.setObj]
    refine Calm.trans ?_ hraise.calm
    rw [hrest]
    exact ⟨sameMemory_of_mem rfl rfl, rfl, rfl, rfl, rfl, rfl, rfl, rfl⟩

end Sys2Proof
end

section
/-! # Power samples (R487) -/

namespace Sys2Proof.Machine

open Sys2Proof

/-- From `s` to `t` only reports and the readings of 0x5040 have changed. -/
structure ReadingsOnly (s t : State) : Prop where
  rest : t = { s with objs := t.objs, can := t.can, mons := t.mons, out := t.out }
  objK : ∀ k, reportKey k = false → k / 2 ^ 24 ≠ 0x5040 → t.objK k = s.objK k

namespace ReadingsOnly

variable {s t u : State}

theorem trans (h : ReadingsOnly s t) (k : ReadingsOnly t u) : ReadingsOnly s u :=
  ⟨by rw [k.rest, h.rest], fun n h0 h1 => (k.objK n h0 h1).trans (h.objK n h0 h1)⟩

theorem ofReports (h : ReportsOnly s t) : ReadingsOnly s t := ⟨h.rest, fun k h0 _ => h.objK k h0⟩

theorem refl (s : State) : ReadingsOnly s s := ofReports (.refl s)

theorem setObj (s : State) {j v : Nat} (hj : j < 256) : ReadingsOnly s (s.setObj 0x5040 j v) :=
  ⟨rfl, fun k _ h1 => s.objK_setObj_ne fun e => h1 (by rw [e]; exact okey_div _ hj (by decide))⟩

theorem obj (h : ReadingsOnly s t) (i j : Nat) (hk : reportKey (okey i j 0) = false := by decide)
    (h1 : okey i j 0 / 2 ^ 24 ≠ 0x5040 := by decide) : t.obj i j = s.obj i j := h.objK _ hk h1

theorem pw (h : ReadingsOnly s t) : t.pw = s.pw := by rw [h.rest]
theorem clk (h : ReadingsOnly s t) : t.clk = s.clk := by rw [h.rest]
theorem loops (h : ReadingsOnly s t) : t.loops = s.loops := by rw [h.rest]

theorem calm (h : ReadingsOnly s t) : Calm s t := by
  rw [h.rest]; exact ⟨sameMemory_of_mem rfl rfl, rfl, rfl, rfl, rfl, rfl, rfl, rfl⟩

/-- The trims are those of the calibration set in force, which no reading changes. -/
theorem trims (h : ReadingsOnly s t) : t.trims = s.trims := by
  have hattic : t.attic = s.attic := by rw [h.rest]
  rw [State.trims, State.trims, State.calSet, State.calSet, h.obj 0x8001 3, hattic]

end ReadingsOnly

/-- A fold over the first numbers shows each in its own entry, where a step shows its own and leaves those of the others. -/
theorem foldl_range_shows {f : State → Nat → State} {i base n : Nat} {val : Nat → Nat} {P : State → Prop}
    (hf : ∀ s k, k < n → P s → P (f s k) ∧ (f s k).obj i (base + k) = val k ∧
      ∀ m < k, (f s k).obj i (base + m) = s.obj i (base + m)) (s : State) (hs : P s) :
    P ((List.range n).foldl f s) ∧ ∀ r < n, ((List.range n).foldl f s).obj i (base + r) = val r := by
  induction n with
  | zero => exact ⟨hs, fun r hr => absurd hr (by omega)⟩
  | succ n ih =>
    obtain ⟨hP, hshown⟩ := ih fun s k hk => hf s k (by omega)
    obtain ⟨hP', hself, hother⟩ := hf _ n (by omega) hP
    rw [List.range_succ, List.foldl_append]
    refine ⟨hP', fun r hr => ?_⟩
    rcases Nat.lt_succ_iff_lt_or_eq.mp hr with hlt | rfl
    · exact (hother r hlt).trans (hshown r hlt)
    · exact hself

theorem reportKey_readings {j : Nat} (hj : j < 256) : reportKey (okey 0x5040 j 0) = false := by
  have hdiv := okey_div 0x5040 hj (c := 0) (by decide)
  simp only [reportKey, hdiv]; decide

/-- A rail's reading is shown and fed to its monitor source (R400, R487). -/
def State.railReading (rails : List (BitVec 16)) (s : State) (r : Nat) : State :=
  (s.setObj 0x5040 (5 + r) (s.trimRail r (rails.getD r 0).toNat % 65536)).monSample 0x10 r (s.trimRail r (rails.getD r 0).toNat)

/-- The rails' readings are shown, each with the trims in force. -/
theorem State.railReadings_show (rails : List (BitVec 16)) (s : State) :
    let t := (List.range (min 8 rails.length)).foldl (State.railReading rails) s
    ReadingsOnly s t ∧ ∀ r < min 8 rails.length, t.obj 0x5040 (5 + r) = s.trimRail r (rails.getD r 0).toNat % 65536 := by
  refine foldl_range_shows (P := ReadingsOnly s) (fun u k hk hu => ?_) s (.refl s)
  have hset : ReadingsOnly u (u.setObj 0x5040 (5 + k) (u.trimRail k (rails.getD k 0).toNat % 65536)) := .setObj u (by omega)
  have hmon : ReportsOnly _ (u.railReading rails k) := .monSample _ _ _ _
  have htrim : u.trimRail k (rails.getD k 0).toNat = s.trimRail k (rails.getD k 0).toNat := by
    rw [State.trimRail, State.trimRail, hu.trims]
  refine ⟨hu.trans (hset.trans (.ofReports hmon)), ?_, fun m hm => ?_⟩
  · rw [← htrim]
    exact (hmon.objK _ (reportKey_readings (by omega))).trans (State.obj_setObj_self _ _ _ _ _)
  · exact (hmon.objK _ (reportKey_readings (by omega))).trans (State.obj_setObj_ne _ (okey_sub_ne (by omega)))

/-- The power limit after its own rule, before it is judged. -/
def State.powerLimit (s : State) (avg : Nat) : State :=
  if s.powerCap < avg then { s with loops := { s.loops with lowPower := none } }.setObj 0xB024 3 (max 1 (s.obj 0xB024 3 - 1))
  else if 100 * avg ≤ 95 * s.powerCap then
    if s.loops.lowPower.getD s.now + 10000 ≤ s.now then
      { s with loops := { s.loops with lowPower := some s.now } }.setObj 0xB024 3 (min 16 (s.obj 0xB024 3 + 1))
    else { s with loops := { s.loops with lowPower := some (s.loops.lowPower.getD s.now) } }
  else { s with loops := { s.loops with lowPower := none } }

theorem State.powerLoop_eq (s : State) (avg : Nat) :
    s.powerLoop avg = (s.powerLimit avg).loopJudge 3 0 ((s.powerLimit avg).obj 0xB024 1) (s.powerCap / 1000) := rfl

/-- The rule changes the limit and the time of low power alone. -/
theorem State.powerLimit_keeps (s : State) (avg : Nat) :
    (∃ o p, s.powerLimit avg = { s with objs := o, loops := { s.loops with lowPower := p } }) ∧
    ∀ i j, okey i j 0 ≠ okey 0xB024 3 0 → (s.powerLimit avg).obj i j = s.obj i j := by
  have hset (p : Option Nat) (v i j : Nat) (h : okey i j 0 ≠ okey 0xB024 3 0) :
      ({ s with loops := { s.loops with lowPower := p } }.setObj 0xB024 3 v).obj i j = s.obj i j :=
    (State.obj_setObj_ne _ h).trans (State.obj_congr rfl _ _ _)
  unfold State.powerLimit
  split
  · exact ⟨⟨_, _, rfl⟩, hset _ _⟩
  · split
    · split
      · exact ⟨⟨_, _, rfl⟩, hset _ _⟩
      · exact ⟨⟨_, _, rfl⟩, fun _ _ _ => State.obj_congr rfl _ _ _⟩
    · exact ⟨⟨_, _, rfl⟩, fun _ _ _ => State.obj_congr rfl _ _ _⟩

/-- The power limit's own rule (R487): one step down above the cap, one up after 10 ms at or below 95 % of it. -/
theorem State.powerLimit_moves (s : State) (avg : Nat) :
    let cap := s.powerCap
    let l := s.obj 0xB024 3
    let since := s.loops.lowPower.getD s.now
    let t := s.powerLimit avg
    (if cap < avg then t.obj 0xB024 3 = max 1 (l - 1) ∧ t.loops.lowPower = none
      else if 95 * cap < 100 * avg then t.obj 0xB024 3 = l ∧ t.loops.lowPower = none
      else if s.now < since + 10000 then t.obj 0xB024 3 = l ∧ t.loops.lowPower = some since
      else t.obj 0xB024 3 = min 16 (l + 1) ∧ t.loops.lowPower = some s.now) := by
  dsimp only
  unfold State.powerLimit
  by_cases hcap : s.powerCap < avg
  · simp only [if_pos hcap]
    exact ⟨State.obj_setObj_self _ _ _ _ _, rfl⟩
  simp only [if_neg hcap]
  by_cases hnear : 95 * s.powerCap < 100 * avg
  · simp only [if_pos hnear, if_neg (not_le.mpr hnear)]
    exact ⟨State.obj_congr rfl _ _ _, trivial⟩
  simp only [if_neg hnear, if_pos (not_lt.mp hnear)]
  by_cases hsince : s.now < s.loops.lowPower.getD s.now + 10000
  · simp only [if_pos hsince, if_neg (not_le.mpr hsince)]
    exact ⟨State.obj_congr rfl _ _ _, trivial⟩
  · simp only [if_neg hsince, if_pos (not_lt.mp hsince)]
    exact ⟨State.obj_setObj_self _ _ _ _ _, rfl⟩

end Sys2Proof.Machine

namespace Sys2Proof

open Sys2Proof.Machine

/-- What a power sample shows, and where the limit goes (R400, R487). -/
theorem powerSample_shows {s : Machine.State} (h : s.loopsRun = true) (avg : BitVec 32) (rails : List (BitVec 16)) (traffic : Nat) :
    let cap := s.powerCap
    let l := s.obj 0xB024 3
    let since := s.loops.lowPower.getD s.now
    Answers (.powerSample avg rails traffic) s (fun t => t.obj 0xB024 2 = avg.toNat ∧
      t.obj 0xB024 4 = max (s.obj 0xB024 4) avg.toNat ∧
      (∀ r : Fin 8, r.val < rails.length → t.obj 0x5040 (5 + r.val) = s.trimRail r.val (rails.getD r 0).toNat % 65536) ∧
      (if s.pw.mode = .depot ∨ s.pw.mode = .bench ∨ s.pw.mode = .handover then
        (if cap < avg.toNat then t.obj 0xB024 3 = max 1 (l - 1) ∧ t.loops.lowPower = none
        else if 95 * cap < 100 * avg.toNat then t.obj 0xB024 3 = l ∧ t.loops.lowPower = none
        else if s.now < since + 10000 then t.obj 0xB024 3 = l ∧ t.loops.lowPower = some since
        else t.obj 0xB024 3 = min 16 (l + 1) ∧ t.loops.lowPower = some s.now)
      else t.obj 0xB024 3 = l ∧ t.loops = s.loops) ∧ Calm s t) := by
  let u := (s.setObj 0xB024 2 avg.toNat).raiseMax 0xB024 4 avg.toNat
  let v := u.monSample 0x09 0 traffic
  let w := (List.range (min 8 rails.length)).foldl (State.railReading rails) v
  have hexec : exec (.powerSample avg rails traffic) s = .next (
      if w.pw.mode = .depot || w.pw.mode = .bench || w.pw.mode = .handover then w.powerLoop avg.toNat else w) :=
    congrArg Host.Outcome.next (if_neg (by simp [h]))
  have hu : u = { s with objs := u.objs } ∧ u.obj 0xB024 2 = avg.toNat ∧ u.obj 0xB024 4 = max (s.obj 0xB024 4) avg.toNat ∧
      ∀ i j, okey i j 0 ≠ okey 0xB024 2 0 → okey i j 0 ≠ okey 0xB024 4 0 → u.obj i j = s.obj i j := by
    have hfour : (s.setObj 0xB024 2 avg.toNat).obj 0xB024 4 = s.obj 0xB024 4 := s.obj_setObj_ne (by decide)
    simp only [u, State.raiseMax]
    split
    · next hlt =>
      rw [hfour] at hlt
      exact ⟨rfl, (State.obj_setObj_ne _ (by decide)).trans (State.obj_setObj_self _ _ _ _ _),
        (State.obj_setObj_self _ _ _ _ _).trans (max_eq_right hlt.le).symm,
        fun i j h2 h4 => (State.obj_setObj_ne _ h4).trans (s.obj_setObj_ne h2)⟩
    · next hge =>
      rw [hfour] at hge
      exact ⟨rfl, State.obj_setObj_self _ _ _ _ _, hfour.trans (max_eq_left (not_lt.mp hge)).symm,
        fun i j h2 h4 => s.obj_setObj_ne h2⟩
  obtain ⟨hrest, htwo, hfour, hother⟩ := hu
  have hv : ReadingsOnly u v := .ofReports (.monSample _ _ _ _)
  obtain ⟨hvw, hrails⟩ := State.railReadings_show rails v
  have hw : ReadingsOnly u w := hv.trans hvw
  have hpw : w.pw = s.pw := hw.pw.trans (by rw [hrest])
  have hloops : w.loops = s.loops := hw.loops.trans (by rw [hrest])
  have hnow : w.now = s.now := by rw [State.now, hw.clk, hrest]; rfl
  have hthree : w.obj 0xB024 3 = s.obj 0xB024 3 := (hw.obj 0xB024 3).trans (hother _ _ (by decide) (by decide))
  have hcap : w.powerCap = s.powerCap := by
    rw [State.powerCap, State.powerCap, hpw, hw.obj 0xB024 1, hother _ _ (by decide) (by decide)]
  have htrims : v.trims = s.trims := by
    rw [hv.trims, State.trims, State.trims, State.calSet, State.calSet, hother 0x8001 3 (by decide) (by decide), hrest]
  have hcalm : Calm s w := Calm.trans (by rw [hrest]; exact ⟨sameMemory_of_mem rfl rfl, rfl, rfl, rfl, rfl, rfl, rfl, rfl⟩) hw.calm
  have hshown (r : Fin 8) (hr : r.val < rails.length) : w.obj 0x5040 (5 + r.val) = s.trimRail r.val (rails.getD r 0).toNat % 65536 := by
    rw [hrails r.val (lt_min r.isLt hr), State.trimRail, State.trimRail, htrims]
  intro cap l since
  by_cases hm : s.pw.mode = .depot ∨ s.pw.mode = .bench ∨ s.pw.mode = .handover
  · rw [hpw, if_pos (by simpa [or_assoc] using hm), State.powerLoop_eq] at hexec
    have hj := JudgesOnly.loopJudge (w.powerLimit avg.toNat) (loop := 3) (by decide) 0 ((w.powerLimit avg.toNat).obj 0xB024 1)
      (w.powerCap / 1000)
    obtain ⟨⟨o, p, hlimit⟩, hkeep⟩ := w.powerLimit_keeps avg.toNat
    have hmove := w.powerLimit_moves avg.toNat
    rw [hcap, hthree, hloops, hnow] at hmove
    refine ⟨_, hexec, (hj.obj 0xB024 2).trans ((hkeep _ _ (by decide)).trans ((hw.obj 0xB024 2).trans htwo)),
      (hj.obj 0xB024 4).trans ((hkeep _ _ (by decide)).trans ((hw.obj 0xB024 4).trans hfour)), fun r hr => ?_, ?_, ?_⟩
    · refine (hj.objK _ (reportKey_readings (by omega)) ?_).trans ((hkeep _ _ ?_).trans (hshown r hr))
      · rw [okey_div _ (by omega) (by decide)]; decide
      · unfold okey; omega
    · rw [if_pos hm, hj.obj 0xB024 3, hj.loops]
      exact hmove
    · refine Calm.trans hcalm (Calm.trans ?_ hj.calm)
      rw [hlimit]
      exact ⟨sameMemory_of_mem rfl rfl, rfl, rfl, rfl, rfl, rfl, rfl, rfl⟩
  · rw [hpw, if_neg (by simpa [or_assoc] using hm)] at hexec
    exact ⟨_, hexec, (hw.obj 0xB024 2).trans htwo, (hw.obj 0xB024 4).trans hfour, hshown, by rw [if_neg hm]; exact ⟨hthree, hloops⟩,
      hcalm⟩

end Sys2Proof
end

section
/-! # Temperature samples: the monitor, the derating and the duty (R60, R248, R370, R486) -/

namespace Sys2Proof.Machine

open Sys2Proof

/-- From `s` to `t` only the derating and the duty have acted, with their reports and the duty's judgement. -/
structure CoolsOnly (s t : State) : Prop where
  rest : t = { s with
    objs := t.objs, can := t.can, mons := t.mons, out := t.out, journal := t.journal, throttling := t.throttling
    loops := { s.loops with
      cool := t.loops.cool, recentH := t.loops.recentH, outside := t.loops.outside, journalAt := t.loops.journalAt
      journalCount := t.loops.journalCount, pendJournal := t.loops.pendJournal } }
  objK : ∀ k, reportKey k = false → k / 2 ^ 24 ≠ 0x4800 → k / 2 ^ 24 ≠ 0xB023 → k / 2 ^ 24 ≠ 0xB020 → t.objK k = s.objK k

namespace CoolsOnly

variable {s t u : State}

theorem trans (h : CoolsOnly s t) (k : CoolsOnly t u) : CoolsOnly s u :=
  ⟨by rw [k.rest, h.rest], fun n h0 h1 h2 h3 => (k.objK n h0 h1 h2 h3).trans (h.objK n h0 h1 h2 h3)⟩

theorem ofReports (h : ReportsOnly s t) : CoolsOnly s t := ⟨by rw [h.rest], fun k h0 _ _ _ => h.objK k h0⟩

theorem ofJudges (h : JudgesOnly s t) : CoolsOnly s t := ⟨by rw [h.rest], fun k h0 _ _ h3 => h.objK k h0 h3⟩

theorem setObj (s : State) {i j v : Nat} (hi : i = 0x4800 ∨ i = 0xB023) (hj : j < 256) : CoolsOnly s (s.setObj i j v) :=
  ⟨rfl, fun k _ h1 h2 _ => s.objK_setObj_ne fun e => by
    have := okey_div i hj (c := 0) (by decide)
    rw [e] at h1 h2; omega⟩

theorem obj (h : CoolsOnly s t) (i j : Nat) (hk : reportKey (okey i j 0) = false := by decide)
    (h1 : okey i j 0 / 2 ^ 24 ≠ 0x4800 := by decide) (h2 : okey i j 0 / 2 ^ 24 ≠ 0xB023 := by decide)
    (h3 : okey i j 0 / 2 ^ 24 ≠ 0xB020 := by decide) : t.obj i j = s.obj i j := h.objK _ hk h1 h2 h3

theorem pw (h : CoolsOnly s t) : t.pw = s.pw := by rw [h.rest]
theorem pins (h : CoolsOnly s t) : t.pins = s.pins := by rw [h.rest]
theorem ctxs (h : CoolsOnly s t) : t.ctxs = s.ctxs := by rw [h.rest]
theorem tempOut (h : CoolsOnly s t) : t.tempOut = s.tempOut := by rw [h.rest]
theorem sameMemory (h : CoolsOnly s t) : SameMemory s t := by rw [h.rest]; exact sameMemory_of_mem rfl rfl
theorem apart (h : CoolsOnly s t) : t.loops.apart = s.loops.apart := by rw [h.rest]

end CoolsOnly

/-! ## Derating (R248, R489) -/

/-- Samples at or below 93.0 °C so far. -/
def coolSamples (before : Nat) (temp : Int) : Nat := if temp ≤ 930 then before + 1 else 0

/-- The cellar as a sample derates it or ends its derating. -/
theorem State.derate_acts (s : State) (temp : Int) :
    let t := s.derate temp
    CoolsOnly s t ∧ t.loops.cool = coolSamples s.loops.cool temp ∧ t.loops.recentH = s.loops.recentH ∧
    t.obj 0x4800 5 = s.obj 0x4800 5 ∧ t.obj 0x4800 6 = s.obj 0x4800 6 ∧
    (s.obj 0x4800 1 = 0 → if 950 < temp then t.obj 0x4800 1 = 1 ∧ t.obj 0x4800 2 = 1950 ∧
        t.obj 0x4800 3 = (s.obj 0x4800 3 + 1) % 2 ^ objBits 0x4800 3
      else t.obj 0x4800 1 = 0 ∧ t.obj 0x4800 2 = s.obj 0x4800 2 ∧ t.obj 0x4800 3 = s.obj 0x4800 3) ∧
    (s.obj 0x4800 1 = 1 → if temp ≤ 930 ∧ 99 ≤ s.loops.cool then t.obj 0x4800 1 = 0 ∧ t.obj 0x4800 2 = 3900
      else t.obj 0x4800 1 = 1 ∧ t.obj 0x4800 2 = s.obj 0x4800 2) := by
  let u : State := { s with loops := { s.loops with cool := coolSamples s.loops.cool temp } }
  have hu : CoolsOnly s u := ⟨rfl, fun _ _ _ _ _ => rfl⟩
  have hobj (j : Nat) : u.obj 0x4800 j = s.obj 0x4800 j := State.obj_congr rfl _ _ _
  have hderate : s.derate temp =
      if !u.objB 0x4800 1 then
        if 950 < temp then (((u.setObj 0x4800 1 1).setObj 0x4800 2 1950).bump 0x4800 3).raise 0x4210 0xFF (ofSigned 32 temp)
        else u
      else if 100 ≤ coolSamples s.loops.cool temp then ((u.setObj 0x4800 1 0).setObj 0x4800 2 3900).refreshReg
      else u := rfl
  have hset (v : State) {j n : Nat} (hj : j < 256) : CoolsOnly v (v.setObj 0x4800 j n) := .setObj v (.inl rfl) hj
  have hkept (t : State) (h : CoolsOnly u t) (hl : t.loops = u.loops) : CoolsOnly s t ∧
      t.loops.cool = coolSamples s.loops.cool temp ∧ t.loops.recentH = s.loops.recentH :=
    ⟨hu.trans h, by rw [hl], by rw [hl]⟩
  rw [hderate]
  by_cases h1 : s.obj 0x4800 1 = 0
  · have hone : s.obj 0x4800 1 ≠ 1 := by rw [h1]; decide
    have hoff : u.objB 0x4800 1 = false := by rw [State.objB, hobj, h1]; rfl
    rw [hoff, Bool.not_false, if_pos rfl]
    by_cases hhot : 950 < temp
    · rw [if_pos hhot]
      have hr : ReportsOnly (((u.setObj 0x4800 1 1).setObj 0x4800 2 1950).bump 0x4800 3) _ :=
        .raise _ 0x4210 0xFF (ofSigned 32 temp)
      obtain ⟨hc, hcool, hrecent⟩ := hkept _ ((((hset u (by decide)).trans (hset _ (by decide))).trans (hset _ (by decide))).trans
        (.ofReports hr)) (hr.loops.trans rfl)
      refine ⟨hc, hcool, hrecent, ?_, ?_, fun _ => ?_, fun h => absurd h hone⟩
      · rw [hr.obj 0x4800 5, State.obj_bump_ne _ (by decide), State.obj_setObj_ne _ (by decide), State.obj_setObj_ne _ (by decide), hobj]
      · rw [hr.obj 0x4800 6, State.obj_bump_ne _ (by decide), State.obj_setObj_ne _ (by decide), State.obj_setObj_ne _ (by decide), hobj]
      · rw [if_pos hhot, hr.obj 0x4800 1, hr.obj 0x4800 2, hr.obj 0x4800 3]
        refine ⟨?_, ?_, ?_⟩
        · rw [State.obj_bump_ne _ (by decide), State.obj_setObj_ne _ (by decide), State.obj_setObj_self]
        · rw [State.obj_bump_ne _ (by decide), State.obj_setObj_self]
        · rw [State.obj_bump_self, State.obj_setObj_ne _ (by decide), State.obj_setObj_ne _ (by decide), hobj]
    · rw [if_neg hhot]
      obtain ⟨hc, hcool, hrecent⟩ := hkept u (.ofReports (.refl u)) rfl
      exact ⟨hc, hcool, hrecent, hobj 5, hobj 6, fun _ => by rw [if_neg hhot]; exact ⟨(hobj 1).trans h1, hobj 2, hobj 3⟩,
        fun h => absurd h hone⟩
  · have hon : u.objB 0x4800 1 = true := by simpa [State.objB, hobj] using h1
    rw [hon, Bool.not_true, if_neg (by decide)]
    by_cases hlong : 100 ≤ coolSamples s.loops.cool temp
    · rw [if_pos hlong]
      have hcold : temp ≤ 930 ∧ 99 ≤ s.loops.cool := by
        unfold coolSamples at hlong
        split at hlong <;> omega
      have hr : ReportsOnly ((u.setObj 0x4800 1 0).setObj 0x4800 2 3900) _ := .refreshReg _
      obtain ⟨hc, hcool, hrecent⟩ := hkept _ (((hset u (by decide)).trans (hset _ (by decide))).trans (.ofReports hr)) (hr.loops.trans rfl)
      refine ⟨hc, hcool, hrecent, ?_, ?_, fun h => absurd h h1, fun _ => ?_⟩
      · rw [hr.obj 0x4800 5, State.obj_setObj_ne _ (by decide), State.obj_setObj_ne _ (by decide), hobj]
      · rw [hr.obj 0x4800 6, State.obj_setObj_ne _ (by decide), State.obj_setObj_ne _ (by decide), hobj]
      · rw [if_pos hcold, hr.obj 0x4800 1, hr.obj 0x4800 2, State.obj_setObj_self, State.obj_setObj_ne _ (by decide), State.obj_setObj_self]
        exact ⟨rfl, rfl⟩
    · rw [if_neg hlong]
      have hwarm : ¬(temp ≤ 930 ∧ 99 ≤ s.loops.cool) := fun ⟨hcold, hmany⟩ => hlong (by rw [coolSamples, if_pos hcold]; omega)
      obtain ⟨hc, hcool, hrecent⟩ := hkept u (.ofReports (.refl u)) rfl
      exact ⟨hc, hcool, hrecent, hobj 5, hobj 6, fun h => absurd h h1, fun h => by
        rw [if_neg hwarm]; exact ⟨(hobj 1).trans h, hobj 2⟩⟩

/-! ## The duty (R486) -/

/-- The duty depends on the state in force and on the ranges' entries. -/
theorem State.duty_congr {s t : State} (hmode : t.pw.mode = s.pw.mode) (h1 : t.obj 0xB023 1 = s.obj 0xB023 1)
    (h2 : t.obj 0xB023 2 = s.obj 0xB023 2) (h4 : t.obj 0xB023 4 = s.obj 0xB023 4) (h3 : t.obj 0xB024 3 = s.obj 0xB024 3) :
    t.duty = s.duty := by
  simp only [State.duty, State.dutyMax, hmode, h1, h2, h4, h3]

/-- The thermal limit at a sample: it rises by no more than 2 over each of the last ten. -/
def State.limitH (s : State) (temp : Int) : Nat :=
  if s.pw.mode = .depot || s.pw.mode = .bench then s.loops.recentH.foldl (fun h p => min h (p + 2)) (thermalLimit temp) else 16

/-- The duty at a sample, throttling, and what stays. -/
theorem State.dutySample_acts (s : State) (temp : Int) :
    let t := s.dutySample temp
    CoolsOnly s t ∧ t.obj 0xB023 4 = s.limitH temp ∧ t.obj 0xB023 3 = t.duty ∧
    t.throttling = (decide (s.pw.mode = .depot) && decide (s.limitH temp < 16)) ∧ t.loops.cool = s.loops.cool ∧
    ∀ j < 256, t.obj 0x4800 j = s.obj 0x4800 j := by
  unfold State.dutySample
  extract_lets throttles h _ a b on c d t
  have hc : ReportsOnly { b with throttling := on } c := by
    simp only [c]
    split
    · next hon =>
      have htrue : on = true := (Bool.and_eq_true_iff.mp hon).1
      rw [htrue]
      exact .raise _ _ _ _
    · exact .refreshReg _
  have hj : JudgesOnly d t := .loopJudge d (by decide) _ _ _
  have hset (v : State) {j n : Nat} (hj : j < 256) : CoolsOnly v (v.setObj 0xB023 j n) := .setObj v (.inr rfl) hj
  have hsa : CoolsOnly s a := ⟨rfl, fun _ _ _ _ _ => rfl⟩
  have hbon : CoolsOnly b { b with throttling := on } := ⟨rfl, fun _ _ _ _ _ => rfl⟩
  have hall : CoolsOnly s t := ((((hsa.trans (hset a (by decide))).trans hbon).trans (.ofReports hc)).trans (hset c (by decide))).trans
    (.ofJudges hj)
  have hfour : d.obj 0xB023 4 = h :=
    (c.obj_setObj_ne (by decide)).trans ((hc.obj 0xB023 4).trans (State.obj_setObj_self _ _ _ _ _))
  have hduty : t.duty = c.duty := by
    refine State.duty_congr (by rw [hj.pw]; rfl) ?_ ?_ ?_ ?_
    · exact (hj.obj 0xB023 1).trans (c.obj_setObj_ne (by decide))
    · exact (hj.obj 0xB023 2).trans (c.obj_setObj_ne (by decide))
    · exact (hj.obj 0xB023 4).trans (c.obj_setObj_ne (by decide))
    · exact (hj.obj 0xB024 3).trans (c.obj_setObj_ne (by decide))
  refine ⟨hall, (hj.obj 0xB023 4).trans hfour, ?_, ?_, ?_, fun j hlt => ?_⟩
  · rw [hj.obj 0xB023 3, hduty]; exact State.obj_setObj_self _ _ _ _ _
  · rw [hj.throttling]; exact hc.throttling
  · have hcool : d.loops.cool = s.loops.cool := (congrArg Loops.cool hc.loops).trans rfl
    exact (congrArg Loops.cool hj.loops).trans hcool
  · have hdiv := okey_div 0x4800 hlt (c := 0) (by decide)
    have hreport : reportKey (okey 0x4800 j 0) = false := by simp only [reportKey, hdiv]; decide
    refine (hj.objK _ hreport (by omega)).trans ((c.obj_setObj_of_idx_ne _ (by decide) (by decide) hlt).trans ((hc.objK _ hreport).trans ?_))
    exact (a.obj_setObj_of_idx_ne _ (by decide) (by decide) hlt).trans (State.obj_congr rfl _ _ _)

/-! ## The monitor (R370) -/

/-- Whether a sample's readings, and how long each sensor has stood apart, lie in the operating range. -/
def State.tempFits (s : State) (l : List Int) (temp : Int) : Bool :=
  decide (temp ≤ 1250) && l.all (fun v => -400 ≤ v) && (s.apartNow l).all (· < 3)

/-- The monitor notes which sensors stand apart; outside the range it is a class-S detection with code 0x0A. -/
theorem State.tempMonitor_acts (s : State) (l : List Int) (temp : Int) :
    let t := s.tempMonitor l temp
    ∃ u : State, u = { s with tempOut := u.tempOut, loops := { s.loops with apart := s.apartNow l } } ∧ DetectsOnly u t ∧
      (s.tempFits l temp = true → ReportsOnly u t ∧ u.tempOut = false) ∧
      (s.tempFits l temp = false → Detecting s → Detects 0x0A u t) := by
  unfold State.tempMonitor
  extract_lets apart out _ u t
  have hfit : s.tempFits l temp = !(out || apart.any (3 ≤ ·)) := by
    rw [Bool.eq_iff_iff]
    simp [State.tempFits, out, apart, and_assoc]
  refine ⟨u, rfl, ?_, fun h => ?_, fun h hd => ?_⟩
  · exact .ite (.classS _ _ _ _) (ReportsOnly.refreshReg u).detects
  · rw [hfit, Bool.not_eq_true'] at h
    have ht : t = u.refreshReg := if_neg (by rw [h]; decide)
    exact ⟨ht ▸ .refreshReg u, (Bool.or_eq_false_iff.mp h).1⟩
  · rw [hfit, Bool.not_eq_false'] at h
    have ht : t = u.classS 0x0A (ofSigned 32 temp) (some (0x4230, 0xFF, ofSigned 32 temp)) := if_pos h
    rw [ht]
    exact State.classS_detects (s := u) hd _ _ _

end Sys2Proof.Machine
end

section
/-! # The temperature sample, and the loops' statement (O53) -/

namespace Sys2Proof.Machine

open Sys2Proof

theorem sameMemory_trans {s t u : State} (h : SameMemory s t) (k : SameMemory t u) : SameMemory s u :=
  ⟨fun a => (k.1 a).trans (h.1 a), k.2.trans h.2⟩

theorem reportKey_of_detectKey {k : Nat} (h : detectKey k = false) : reportKey k = false := by
  simp only [detectKey, Bool.or_eq_false_iff] at h
  exact h.1.1.1

/-- The highest of a sample's readings: the junction (R60, R370). -/
def topTemp (l : List Int) : Int := l.foldl max (l.getD 0 0)

/-- The state in which a sample's readings are shown, before the monitor sees them. -/
def State.showTemps (s : State) (l : List Int) (stack0 stack1 : Int) : State :=
  let s := s.setObj 0xB003 1 (ofSigned 16 (topTemp l))
  let s := (List.range 8).foldl (fun s k => s.setObj 0x5040 (0x0D + k) (ofSigned 16 (l.getD k 0))) s
  let s := if s.objI 16 0x5040 0x15 < topTemp l then s.setObj 0x5040 0x15 (ofSigned 16 (topTemp l)) else s
  (s.setObj 0x4800 5 (ofSigned 16 stack0)).setObj 0x4800 6 (ofSigned 16 stack1)

/-- The same, fed to monitor source 0x0F (R400). -/
def State.feedTemps (s : State) (l : List Int) : State :=
  ((List.range 8).foldl (fun s k => s.monSample 0x0F k (l.getD k 0)) s).monSample 0x0F 0xFFFF (topTemp l)

theorem ReportsOnly.feedTemps (s : State) (l : List Int) : ReportsOnly s (s.feedTemps l) :=
  (foldl _ (fun s k _ => monSample s 0x0F k (l.getD k 0)) s).trans (monSample _ _ _ _)

theorem exec_temperatureSample {s : State} (h : s.loopsRun = true) (sensors : List Int) (a b : Int) :
    let l := s.trimTemps sensors
    exec (.temperatureSample sensors a b) s =
      .next (((((s.showTemps l a b).feedTemps l).tempMonitor l (topTemp l)).derate (topTemp l)).dutySample (topTemp l)) := by
  have hoff : s.pw.mode ≠ .off := fun e => by rw [State.loopsRun, e] at h; exact absurd h (by simp [Mode.awake])
  have hrun : exec (.temperatureSample sensors a b) s = execTemperatureSample sensors a b s := rfl
  rw [hrun, execTemperatureSample, if_neg hoff]
  exact congrArg Host.Outcome.next (if_neg (by
    have : (s.setObj 0xB003 1 (ofSigned 16 ((s.trimTemps sensors).foldl max ((s.trimTemps sensors).getD 0 0)))).loopsRun = s.loopsRun := rfl
    rw [this, h]; decide))

theorem State.showTemps_shows (s : State) (l : List Int) (a b : Int) :
    let t := s.showTemps l a b
    t = { s with objs := t.objs } ∧ t.obj 0xB003 1 = ofSigned 16 (topTemp l) ∧
    (∀ k : Fin 8, t.obj 0x5040 (0x0D + k.val) = ofSigned 16 (l.getD k.val 0)) ∧ t.obj 0x4800 5 = ofSigned 16 a ∧
    t.obj 0x4800 6 = ofSigned 16 b ∧
    ∀ i j, okey i j 0 / 2 ^ 24 ≠ 0x5040 → okey i j 0 ≠ okey 0xB003 1 0 → okey i j 0 ≠ okey 0x4800 5 0 →
      okey i j 0 ≠ okey 0x4800 6 0 → t.obj i j = s.obj i j := by
  unfold State.showTemps
  extract_lets u v w t
  let P (x : State) : Prop := x = { u with objs := x.objs } ∧ ∀ k, k / 2 ^ 24 ≠ 0x5040 → x.objK k = u.objK k
  have hset (x : State) {j n : Nat} (hj : j < 256) (hx : P x) : P (x.setObj 0x5040 j n) :=
    ⟨by rw [hx.1]; rfl, fun k hk => (x.objK_setObj_ne fun e => hk (by rw [e]; exact okey_div _ hj (by decide))).trans (hx.2 k hk)⟩
  obtain ⟨hv, hvk⟩ : P v ∧ ∀ r < 8, v.obj 0x5040 (0x0D + r) = ofSigned 16 (l.getD r 0) :=
    foldl_range_shows (f := fun x k => x.setObj 0x5040 (0x0D + k) (ofSigned 16 (l.getD k 0))) (i := 0x5040) (base := 0x0D) (n := 8)
      (val := fun r => ofSigned 16 (l.getD r 0)) (P := P) (fun x k hk hx => ⟨hset x (by omega) hx, State.obj_setObj_self _ _ _ _ _,
      fun m hm => State.obj_setObj_ne _ (okey_sub_ne (by omega))⟩) u ⟨rfl, fun _ _ => rfl⟩
  have hw : P w ∧ ∀ r < 8, w.obj 0x5040 (0x0D + r) = v.obj 0x5040 (0x0D + r) := by
    simp only [w]
    split
    · exact ⟨hset v (by decide) hv, fun r hr => State.obj_setObj_ne _ (okey_sub_ne (by omega))⟩
    · exact ⟨hv, fun _ _ => rfl⟩
  obtain ⟨⟨hrest, hwk⟩, hshown⟩ := hw
  have hother (i j : Nat) (h5 : okey i j 0 ≠ okey 0x4800 5 0) (h6 : okey i j 0 ≠ okey 0x4800 6 0) : t.obj i j = w.obj i j :=
    (State.obj_setObj_ne _ h6).trans (State.obj_setObj_ne _ h5)
  refine ⟨?_, ?_, fun k => ?_, ?_, State.obj_setObj_self _ _ _ _ _, fun i j hi hb h5 h6 => ?_⟩
  · simp only [t, State.setObj]
    rw [hrest]
    simp only [u, State.setObj]
  · exact (hother _ _ (by decide) (by decide)).trans ((hwk _ (by decide)).trans (State.obj_setObj_self _ _ _ _ _))
  · refine (hother _ _ ?_ ?_).trans ((hshown k.val k.isLt).trans (hvk k.val k.isLt)) <;> (unfold okey; omega)
  · exact (State.obj_setObj_ne _ (by decide)).trans (State.obj_setObj_self _ _ _ _ _)
  · exact (hother i j h5 h6).trans ((hwk _ hi).trans (s.obj_setObj_ne hb))

end Sys2Proof.Machine

namespace Sys2Proof

open Sys2Proof.Machine

/-- In PARKED a sample shows the junction alone (R60). -/
theorem temperatureSample_parked {s : Machine.State} (sensors : List Int) (a b : Int) (h : s.pw.mode = .parked) :
    Answers (.temperatureSample sensors a b) s (fun t =>
      t.obj 0xB003 1 = ofSigned 16 ((s.trimTemps sensors).foldl max ((s.trimTemps sensors).getD 0 0)) ∧
      SameObjs [okey 0xB003 1 0] s t ∧ t = { s with objs := t.objs }) := by
  let u := s.setObj 0xB003 1 (ofSigned 16 ((s.trimTemps sensors).foldl max ((s.trimTemps sensors).getD 0 0)))
  have hrun : u.loopsRun = false := by
    have hmode : u.pw.mode = .parked := h
    rw [State.loopsRun, hmode]; rfl
  have hexec : exec (.temperatureSample sensors a b) s = .next u := by
    have hdef : exec (.temperatureSample sensors a b) s = execTemperatureSample sensors a b s := rfl
    rw [hdef, execTemperatureSample, if_neg (by rw [h]; decide)]
    exact congrArg Host.Outcome.next (if_pos (by rw [hrun]; decide))
  refine ⟨_, hexec, State.obj_setObj_self _ _ _ _ _, fun i j c hk => ?_, rfl⟩
  exact s.obj_setObj_ne fun e => hk (by simp [e])

/-- A temperature sample where the core runs: what it shows, and what the monitor, the derating and the duty make of it. -/
theorem temperatureSample_acts {s : Machine.State} (h : s.loopsRun = true) (sensors : List Int) (a b : Int) :
    let l := s.trimTemps sensors
    let top := l.foldl max (l.getD 0 0)
    let fit : Bool := top ≤ 1250 && l.all (fun v => -400 ≤ v) && (s.apartNow l).all (· < 3)
    (Answers (.temperatureSample sensors a b) s (fun t =>
      t.obj 0xB003 1 = ofSigned 16 top ∧ (∀ k : Fin 8, t.obj 0x5040 (0x0D + k.val) = ofSigned 16 (l.getD k.val 0)) ∧
      t.obj 0x4800 5 = ofSigned 16 a ∧ t.obj 0x4800 6 = ofSigned 16 b ∧ t.loops.apart = s.apartNow l ∧
      t.loops.cool = (if top ≤ 930 then s.loops.cool + 1 else 0) ∧
      (s.obj 0x4800 1 = 0 → if 950 < top then t.obj 0x4800 1 = 1 ∧ t.obj 0x4800 2 = 1950 ∧
          t.obj 0x4800 3 = (s.obj 0x4800 3 + 1) % 2 ^ objBits 0x4800 3
        else t.obj 0x4800 1 = 0 ∧ t.obj 0x4800 2 = s.obj 0x4800 2 ∧ t.obj 0x4800 3 = s.obj 0x4800 3) ∧
      (s.obj 0x4800 1 = 1 → if top ≤ 930 ∧ 99 ≤ s.loops.cool then t.obj 0x4800 1 = 0 ∧ t.obj 0x4800 2 = 3900
        else t.obj 0x4800 1 = 1 ∧ t.obj 0x4800 2 = s.obj 0x4800 2) ∧
      t.obj 0xB023 4 = (if s.pw.mode = .depot ∨ s.pw.mode = .bench then
        s.loops.recentH.foldl (fun h p => min h (p + 2)) (thermalLimit top) else 16) ∧ t.obj 0xB023 3 = t.duty ∧
      t.throttling = (s.pw.mode = .depot && t.obj 0xB023 4 < 16) ∧ t.ctxs = s.ctxs ∧ SameMemory s t ∧
      (fit = true → t.pw = s.pw ∧ t.pins = s.pins ∧ t.tempOut = false))) ∧
    (fit = false → Detecting s → Answers (.temperatureSample sensors a b) s (Detects 0x0A s)) := by
  intro l top fit
  have hexec := exec_temperatureSample h sensors a b
  obtain ⟨hc, hc1, hck, hc5, hc6, hcother⟩ := s.showTemps_shows l a b
  have hd := ReportsOnly.feedTemps (s.showTemps l a b) l
  obtain ⟨u, hu, hue, hfits, hdetects⟩ := ((s.showTemps l a b).feedTemps l).tempMonitor_acts l top
  obtain ⟨hf, hcool, hrecent, hf5, hf6, hcold, hhot⟩ := (((s.showTemps l a b).feedTemps l).tempMonitor l top).derate_acts top
  obtain ⟨ht, hH, hduty, hthrottle, hcool', hcellar⟩ :=
    ((((s.showTemps l a b).feedTemps l).tempMonitor l top).derate top).dutySample_acts top
  change exec (.temperatureSample sensors a b) s =
    .next (((((s.showTemps l a b).feedTemps l).tempMonitor l top).derate top).dutySample top) at hexec
  change (s.showTemps l a b).obj 0xB003 1 = ofSigned 16 top at hc1
  generalize s.showTemps l a b = c at *
  generalize c.feedTemps l = d at *
  generalize d.tempMonitor l top = e at *
  generalize e.derate top = f at *
  generalize f.dutySample top = t at *
  have hrest : d = { s with objs := d.objs, can := d.can, mons := d.mons, out := d.out } := by rw [hd.rest, hc]
  have hall : CoolsOnly e t := hf.trans ht
  have hdloops : d.loops = s.loops := (congrArg State.loops hrest).trans rfl
  have hdpw : d.pw = s.pw := (congrArg State.pw hrest).trans rfl
  have hapart : d.apartNow l = s.apartNow l := by rw [State.apartNow, State.apartNow, hdloops]
  have huobj (i j : Nat) : u.obj i j = d.obj i j := State.obj_congr (by rw [hu]) _ _ _
  have hupw : u.pw = s.pw := (congrArg State.pw hu).trans hdpw
  have hloops : e.loops = { s.loops with apart := s.apartNow l } := by
    rw [hue.loops, hu, hapart, hdloops]
  have heobj (i j : Nat) (h0 : detectKey (okey i j 0) = false) (h1 : okey i j 0 / 2 ^ 24 ≠ 0x5040)
      (h2 : okey i j 0 ≠ okey 0xB003 1 0) (h3 : okey i j 0 ≠ okey 0x4800 5 0) (h4 : okey i j 0 ≠ okey 0x4800 6 0) :
      e.obj i j = s.obj i j :=
    (hue.objK _ h0).trans ((huobj i j).trans ((hd.objK _ (reportKey_of_detectKey h0)).trans (hcother i j h1 h2 h3 h4)))
  have hshown (i j : Nat) (h0 : detectKey (okey i j 0) = false) : e.obj i j = c.obj i j :=
    (hue.objK _ h0).trans ((huobj i j).trans (hd.objK _ (reportKey_of_detectKey h0)))
  have hctxs : t.ctxs = s.ctxs := by rw [hall.ctxs, hue.ctxs, hu, hrest]
  have humem : u.mem = s.mem ∧ u.poison = s.poison := by rw [hu, hrest]; exact ⟨rfl, rfl⟩
  have hmem : SameMemory s t :=
    sameMemory_trans (sameMemory_trans (sameMemory_of_mem humem.1 humem.2) hue.sameMemory) hall.sameMemory
  have hcell (j : Nat) (hj : j < 5) : e.obj 0x4800 j = s.obj 0x4800 j := by
    have hdiv := okey_div 0x4800 (show j < 256 by omega) (c := 0) (by decide)
    refine heobj 0x4800 j ?_ (by omega) ?_ (okey_sub_ne (by omega)) (okey_sub_ne (by omega))
    · interval_cases j <;> decide
    · unfold okey; omega
  have hfmode : f.pw.mode = s.pw.mode := by rw [hf.pw, hue.mode, hupw]
  have hlimit : f.limitH top = if s.pw.mode = .depot ∨ s.pw.mode = .bench then
      s.loops.recentH.foldl (fun h p => min h (p + 2)) (thermalLimit top) else 16 := by
    simp only [State.limitH, hfmode, hrecent, hloops, Bool.or_eq_true, decide_eq_true_eq]
  have hfit' : d.tempFits l top = fit := by rw [State.tempFits, hapart]
  refine ⟨⟨_, hexec, (hall.obj 0xB003 1).trans ((hshown _ _ (by decide)).trans hc1), fun k => ?_, ?_, ?_, ?_, ?_, fun h0 => ?_, fun h1 => ?_,
    ?_, hduty, ?_, hctxs, hmem, fun hfit => ?_⟩, fun hfit hdet => ?_⟩
  · have hk : ∀ k : Fin 8, detectKey (okey 0x5040 (0x0D + k.val) 0) = false := by decide
    have hdiv := okey_div 0x5040 (show 0x0D + k.val < 256 by omega) (c := 0) (by decide)
    exact (hall.objK _ (reportKey_of_detectKey (hk k)) (by omega) (by omega) (by omega)).trans ((hshown _ _ (hk k)).trans (hck k))
  · exact (hcellar 5 (by decide)).trans (hf5.trans ((hshown _ _ (by decide)).trans hc5))
  · exact (hcellar 6 (by decide)).trans (hf6.trans ((hshown _ _ (by decide)).trans hc6))
  · rw [hall.apart, hloops]
  · rw [hcool', hcool, hloops]; rfl
  · rw [hcellar 1 (by decide), hcellar 2 (by decide), hcellar 3 (by decide), ← hcell 2 (by decide), ← hcell 3 (by decide)]
    exact hcold ((hcell 1 (by decide)).trans h0)
  · have hold := hhot ((hcell 1 (by decide)).trans h1)
    rw [hloops, hcell 2 (by decide)] at hold
    rw [hcellar 1 (by decide), hcellar 2 (by decide)]
    exact hold
  · rw [hH, hlimit]
  · rw [hthrottle, hH, hfmode]
  · obtain ⟨hr, hin⟩ := hfits (hfit'.trans hfit)
    exact ⟨(hall.pw.trans hr.pw).trans hupw, (hall.pins.trans hr.pins).trans (by rw [hu, hrest]),
      (hall.tempOut.trans hr.tempOut).trans hin⟩
  · obtain ⟨hp0, hp1, ⟨code, hpend⟩, h2, h4, h8, hmode, -, -⟩ := hdetects (hfit'.trans hfit) (by rw [Detecting, hdpw]; exact hdet)
    have hnow : u.nowNs = s.nowNs := by rw [State.nowNs, State.nowNs, hu, hrest]
    have h8' : u.obj 0x5000 8 = s.obj 0x5000 8 :=
      (huobj _ _).trans ((hd.obj 0x5000 8).trans (hcother _ _ (by decide) (by decide) (by decide) (by decide)))
    refine ⟨_, hexec, ?_, ?_, ⟨code, ?_⟩, (hall.obj 0x5000 2).trans h2, ((hall.obj 0x5000 4).trans h4).trans hnow, ?_, ?_, hmem, hctxs⟩
    · rw [hall.pins]; exact hp0
    · rw [hall.pins]; exact hp1
    · rw [hall.pw]; exact hpend
    · rw [hall.obj 0x5000 8, h8, h8']
    · rw [hall.pw, hmode, hupw]

/-- Settles O53: each loop moves by its own rule and is judged by `State.loopJudge_judged`; a sample acts through the monitor, the
derating and the duty in turn. -/
theorem loopsStayInTheirRanges : Obligations.LoopsStayInTheirRanges := by
  unfold Obligations.LoopsStayInTheirRanges
  refine ⟨loopPick_range, fun s h => ⟨avsEvaluation_moves h, (droopTrip_counts h).1, (droopTrip_counts h).2, droopMarginEvaluation_moves h,
    powerSample_shows h, spillLevelEvaluation_moves h, temperatureSample_acts h⟩, fun s => ⟨fun fault => avsNoResponse_counts fault,
    fun cycles => droopRelease_counts cycles s, disagreementHoldoffEnd_journals.1, disagreementHoldoffEnd_journals.2,
    fun sensors a b => temperatureSample_parked sensors a b⟩⟩

end Sys2Proof
end

section
/-! # Entering BENCH and DRIVE: what restarts there (O41, O36) -/

namespace Sys2Proof.Machine

open Sys2Proof

/-- Only what restarts as a state is entered differs: dictionary entries, the streams, the duty, the watchdog and HAZARD_N
(R62, R217, R227, R379). -/
def RestartsOnly (s t : State) : Prop :=
  t = { s with objs := t.objs, seq := t.seq, loops := t.loops, throttling := t.throttling, recov := t.recov, pins := t.pins }

namespace RestartsOnly

variable {s t u : State}

theorem trans (h : RestartsOnly s t) (k : RestartsOnly t u) : RestartsOnly s u := by
  unfold RestartsOnly at *; rw [k, h]

theorem pw (h : RestartsOnly s t) : t.pw = s.pw := by rw [h]
theorem su (h : RestartsOnly s t) : t.su = s.su := by rw [h]
theorem clk (h : RestartsOnly s t) : t.clk = s.clk := by rw [h]
theorem journal (h : RestartsOnly s t) : t.journal = s.journal := by rw [h]
theorem sameMemory (h : RestartsOnly s t) : SameMemory s t := by rw [h]; exact ⟨fun _ => rfl, rfl⟩

theorem foldl {α : Type} {f : State → α → State} (hf : ∀ s a, RestartsOnly s (f s a)) (l : List α) (s : State) :
    RestartsOnly s (l.foldl f s) := foldl_keeps (RestartsOnly s) f (fun b a h => h.trans (hf b a)) l s rfl

theorem setObj (s : State) (i j v c : Nat) : RestartsOnly s (s.setObj i j v c) := rfl

theorem sluicesStart (s : State) : RestartsOnly s s.sluicesStart :=
  have restarted (t : State) (l : List Nat) : RestartsOnly t (l.foldl (fun s k => s.setObj 0x3002 1 1 k) t) :=
    foldl (fun t k => setObj t _ _ _ k) l t
  trans (t := s.mapSluices (·.on) fun q => { q with filling := none, frameAt := s.now, lineAt := s.now, seq := none })
    rfl (restarted _ _)

theorem engineLevels (s : State) (lvl : Nat) : RestartsOnly s (s.engineLevels lvl) :=
  foldl (fun s e => by
    split
    · rfl
    · exact setObj s _ _ _ _) _ s

theorem dutyEval (s : State) : RestartsOnly s s.dutyEval := by
  unfold State.dutyEval
  refine trans ?_ (setObj _ _ _ _ _)
  split
  · rfl
  · exact trans (t := { s with throttling := false, loops := { s.loops with recentH := [] } }) rfl (setObj _ _ _ _ _)

theorem watchdogArm (s : State) : RestartsOnly s s.watchdogArm := rfl

theorem hazardRecheck (s : State) : RestartsOnly s s.hazardRecheck := by
  unfold State.hazardRecheck
  dsimp only
  split <;> split <;> rfl

end RestartsOnly

/-! ## Entries that the gating levels and the duty leave -/

/-- The gating levels are entries of 0x4000 alone (R62). -/
theorem State.obj_engineLevels (s : State) (lvl : Nat) {i j c : Nat} (hi : i ≠ 0x4000) (hj : j < 256) (hc : c < 65536) :
    (s.engineLevels lvl).obj i j c = s.obj i j c := by
  have hlevel (t : State) (e : Nat) (he : e < 48) : (if t.outOfService e then t else t.setObj 0x4000 1 lvl e).obj i j c = t.obj i j c := by
    split
    · rfl
    · exact t.obj_setObj_ne fun h => hi (by
        have := congrArg (· / 2 ^ 24) h
        simpa only [okey_div i hj hc, okey_div 0x4000 (by decide : 1 < 256) (by omega : e < 65536)] using this)
  exact List.foldlRecOn (motive := fun t => t.obj i j c = s.obj i j c) _ _ rfl
    fun t ht e he => (hlevel t e (List.mem_range.1 he)).trans ht

/-- The duty at a state change is shown in 0xB023 alone. -/
theorem State.obj_dutyEval (s : State) {i j : Nat} (hi : i ≠ 0xB023) (hj : j < 256) : s.dutyEval.obj i j = s.obj i j := by
  have hne (t : State) (v k : Nat) (hk : k < 256) : (t.setObj 0xB023 k v).obj i j = t.obj i j :=
    t.obj_setObj_of_idx_ne v hi hk hj
  unfold State.dutyEval
  rw [hne _ _ _ (by decide)]
  split
  · rfl
  · rw [hne _ _ _ (by decide)]
    exact State.obj_congr rfl _ _ _

/-! ## The states themselves -/

/-- DRIVE commits, from any state, and touches memory and the journal in none (R46). -/
theorem State.enterDrive_mode (s : State) : s.enterDrive.pw.mode = .drive ∧ s.enterDrive.pw.prev = s.pw.mode ∧
    s.enterDrive.journal = s.journal ∧ SameMemory s s.enterDrive := by
  unfold State.enterDrive
  extract_lets u v _ w x y
  have hu : RestartsOnly s u := by
    unfold u
    split
    · rfl
    · exact .sluicesStart s
  have hx : RestartsOnly w x := (RestartsOnly.setObj w _ _ _ _).trans ((RestartsOnly.setObj _ _ _ _ _).trans (.dutyEval _))
  have hy : RestartsOnly w y := hx.trans ((RestartsOnly.engineLevels x 0).trans (.watchdogArm _))
  have hmem : SameMemory s y := sameMemory_trans hu.sameMemory (sameMemory_trans (t := w) (sameMemory_of_mem rfl rfl) hy.sameMemory)
  have hpw : y.pw = { u.pw with prev := s.pw.mode, mode := .drive, readyHold := none, driveOff := none } := by
    rw [hy.pw, ← hu.pw]; rfl
  have hjournal : y.journal = s.journal := hy.journal.trans (Eq.trans (b := u.journal) rfl hu.journal)
  generalize y = y at *
  split
  · exact ⟨congrArg Power.mode hpw, congrArg Power.prev hpw, hjournal, hmem⟩
  · exact ⟨congrArg Power.mode hpw, congrArg Power.prev hpw, hjournal, sameMemory_trans hmem (sameMemory_of_mem rfl rfl)⟩

/-- DRIVE from BENCH, with IGN asserted: FCLK at 1.0 GHz, no phase shown, and the request's status stays (R46, R32, R67). -/
theorem State.enterDrive_of_bench {s : State} (hmode : s.pw.mode = .bench) (hign : s.pw.ign = true) :
    s.enterDrive.obj 0x2001 8 = 1000 ∧ s.enterDrive.obj 0xB000 3 = 0 ∧ s.enterDrive.obj 0xB000 2 = s.obj 0xB000 2 := by
  unfold State.enterDrive
  rw [if_pos hmode]
  extract_lets u v _ w x y
  have hy (i j : Nat) (hi : i ≠ 0x4000) (hi' : i ≠ 0xB023) (hj : j < 256) : y.obj i j = ((w.setObj 0x2001 8 1000).setObj 0x2001 6 0).obj i j :=
    Eq.trans (State.obj_congr rfl _ _ _) ((x.obj_engineLevels 0 hi hj (by decide)).trans (State.obj_dutyEval _ hi' hj))
  have hpw : y.pw.ign = true := by
    have : RestartsOnly w y := ((RestartsOnly.setObj w _ _ _ _).trans ((RestartsOnly.setObj _ _ _ _ _).trans (.dutyEval _))).trans
      ((RestartsOnly.engineLevels x 0).trans (.watchdogArm _))
    rw [this.pw]; exact hign
  rw [if_pos hpw, hy _ _ (by decide) (by decide) (by decide), hy _ _ (by decide) (by decide) (by decide),
    hy _ _ (by decide) (by decide) (by decide)]
  refine ⟨?_, ?_, ?_⟩
  · rw [State.obj_setObj_ne _ (by decide), State.obj_setObj_self]
  · rw [State.obj_setObj_ne _ (by decide), State.obj_setObj_ne _ (by decide)]
    exact (State.obj_congr (t := v) rfl _ _ _).trans (State.obj_setObj_self _ _ _ _ _)
  · rw [State.obj_setObj_ne _ (by decide), State.obj_setObj_ne _ (by decide)]
    refine (State.obj_congr (t := v) rfl _ _ _).trans ((State.obj_setObj_ne _ (by decide)).trans ?_)
    rw [State.setMode, State.obj_closeWindows, State.obj_setObj_ne _ (by decide), State.obj_bump_ne _ (by decide)]
    exact State.obj_congr rfl _ _ _

/-- BENCH commits, and nothing of the start-up, the latch of SAFE or the journal with it (R46). -/
theorem State.enterBench_mode (s : State) : s.enterBench.pw.mode = .bench ∧ s.enterBench.pw.prev = s.pw.mode ∧
    s.enterBench.pw.safeLatch = s.pw.safeLatch ∧ s.enterBench.su = s.su ∧ s.enterBench.journal = s.journal := by
  unfold State.enterBench
  extract_lets u _ v w
  have hu : RestartsOnly s s.sluicesStart := .sluicesStart s
  have hv : RestartsOnly v ((w.engineLevels 0).watchdogArm.hazardRecheck) := (RestartsOnly.setObj v _ _ _ _).trans
    ((RestartsOnly.setObj _ _ _ _ _).trans ((RestartsOnly.engineLevels w 0).trans ((RestartsOnly.watchdogArm _).trans (.hazardRecheck _))))
  have hpw : v.pw = { s.sluicesStart.pw with prev := s.sluicesStart.pw.mode, mode := .bench, readyHold := none, driveOff := none } := rfl
  rw [hv.pw, hpw, hu.pw, hv.su, hv.journal]
  exact ⟨rfl, rfl, rfl, Eq.trans (b := s.sluicesStart.su) rfl hu.su, Eq.trans (b := s.sluicesStart.journal) rfl hu.journal⟩

end Sys2Proof.Machine
end

section
/-! # State requests (O41) -/

namespace Sys2Proof.Machine

open Sys2Proof

/-! ## A request on its way to its commit -/

section
variable {p : Path} {s : State} (hdelivered : Delivered p s) (hserve : s.serveCode p.code 0xB000 = 0)
variable (harmed : (s.path p.code).armed = none)

include hserve in
/-- A request that the state serves is judged well formed: which request it is, R54 decides. -/
theorem State.judge_request (v : Nat) (ch : Nat) : s.judge p.code 0xB000 1 ch (leBytes 1 v) false false = 0 := by
  have hrow : rowOf 0xB000 1 = ⟨0xB000, 0xB000, 0x1, 0x1, .u 8, .wo, false, .fixed, .none, .lit 0, .any⟩ := by decide +kernel
  have hform : s.formCode p.code 0xB000 1 (leBytes 1 v) false = 0 := by
    rw [State.formCode_direct hserve, hrow, if_neg (by decide +kernel), if_neg (by decide +kernel)]
    simp [ObjTy.isDomain, ObjTy.size, leBytes]
  have hsafety : s.safetyCode p.code 0xB000 1 false = 0 := by simp [State.safetyCode, hrow]
  have hcheck : s.chapterCheck p.code 0xB000 1 (chanKey ch) (leVal (leBytes 1 v)) = 0 := by
    simp [State.chapterCheck]
  simp [State.judge, hform, hsafety, hrow, ObjTy.isDomain, ObjRow.admits, hcheck]

include hdelivered hserve harmed in
/-- A state request commits by R54, and its code is answered, shown on its path where it is not 0 (R12, R108). -/
theorem State.writeRow_request {v : Nat} (hv : v < 256) :
    let r := s.requestWrite p.code v false false
    s.writeRow p 0xB000 1 1 v = (if r.1 ≠ 0 then r.2.refuse p.code 0xB000 1 r.1 else r.2).answer p.code r.1 [] := by
  obtain ⟨hoff, hlive, hholds⟩ := hdelivered
  have hcommit (ch : Nat) : s.commitWrite p.code 0xB000 1 ch (leBytes 1 v) false true = s.requestWrite p.code v false false := by
    simp [State.commitWrite, leVal_leBytes_one v hv]
  have hplain : (rowOf 0xB000 1).sObj = false := by decide +kernel
  have hcls : (rowOf 0xB000 1).cls ≠ .attic := by decide +kernel
  simp only [State.writeRow, State.deliver, hoff, hlive, hholds, decide_false, Bool.not_true, Bool.or_self, Bool.false_eq_true, if_false]
  rw [State.dictAccess_object hlive (by decide), State.dictWrite_of_unarmed harmed (by decide), State.judge_request hserve,
    State.windowEdge_of_not_sObj hplain, hcommit]
  by_cases h : (s.requestWrite p.code v false false).1 = 0 <;> simp [h, hcls]

end

/-- An accepted request, shown and journaled before it acts (R54, R120). -/
def State.requestNoted (s : State) (p v : Nat) : State :=
  (s.setObj 0xB000 2 1).journalAdd p 0xB000 1 0xFFFF s.pw.mode.code 0 0 v

@[simp] theorem State.requestNoted_pw (s : State) (p v : Nat) : (s.requestNoted p v).pw = s.pw := rfl
@[simp] theorem State.requestNoted_su (s : State) (p v : Nat) : (s.requestNoted p v).su = s.su := rfl
@[simp] theorem State.requestNoted_attic (s : State) (p v : Nat) : (s.requestNoted p v).attic = s.attic := rfl
@[simp] theorem State.requestNoted_ctxs (s : State) (p v : Nat) : (s.requestNoted p v).ctxs = s.ctxs := rfl

theorem State.requestNoted_sameMemory (s : State) (p v : Nat) : SameMemory s (s.requestNoted p v) := ⟨fun _ => rfl, rfl⟩

theorem State.obj_requestNoted_status (s : State) (p v : Nat) : (s.requestNoted p v).obj 0xB000 2 = 1 :=
  s.obj_setObj_self 0xB000 2 1 0

theorem State.obj_requestNoted_ne (s : State) (p v : Nat) {i j : Nat} (h : okey i j 0 ≠ okey 0xB000 2 0) :
    (s.requestNoted p v).obj i j = s.obj i j :=
  (State.obj_congr (s := s.setObj 0xB000 2 1) rfl i j 0).trans (s.obj_setObj_ne h)

/-- What acts on a noted request keeps its journal entry (R120). -/
theorem State.requestNoted_journaled {s t : State} {p v : Nat} (h : t.journal = (s.requestNoted p v).journal) :
    Journaled p 0xB000 1 0xFFFF 0 v s t := by
  unfold Journaled
  rw [h]
  exact ⟨_, List.mem_cons_self, rfl, rfl, rfl, rfl, rfl, rfl, rfl, rfl⟩

/-- A request that R54 accepts is noted and acts; any other shows its status (R12, R54). -/
theorem State.requestWrite_cases (s : State) (p v : Nat) :
    (s.requestStatus p v false = 1 ∧ s.requestWrite p v false false = (0, (s.requestNoted p v).requestAct v)) ∨
    (s.requestStatus p v false ≠ 1 ∧
      s.requestWrite p v false false = (0x08000022, s.setObj 0xB000 2 (s.requestStatus p v false))) := by
  by_cases h : s.requestStatus p v false = 1
  · exact .inl ⟨h, by simp [State.requestWrite, h, State.requestNoted]⟩
  · exact .inr ⟨h, by simp [State.requestWrite, h]⟩

/-! ## What each accepted request does to the block -/

/-- Teardown begins (R53, R67, R526). -/
theorem State.startTeardown_tears (s : State) : TearsDown s s.startTeardown ∧ s.startTeardown.obj 0xB000 2 = s.obj 0xB000 2 ∧
    s.startTeardown.journal = s.journal := by
  have hlast (i j : Nat) (h : okey i j 0 ≠ okey 0xB000 3 0) : s.startTeardown.obj i j = State.obj (State.endHalts
      { s with pw := { s.pw with teardown := some 0, driveOff := none, readyHold := none } }) i j := State.obj_setObj_ne _ h
  refine ⟨⟨?_, ?_, ?_, ?_, State.obj_setObj_self _ _ _ _ _, ?_, ?_, sameMemory_of_mem ?_ ?_, ?_, ?_⟩, ?_, ?_⟩
  case refine_5 => rw [hlast _ _ (by decide), State.endHalts, State.obj_setObj_ne _ (by decide), State.obj_setObj_self]
  case refine_6 => rw [hlast _ _ (by decide), State.endHalts, State.obj_setObj_self]
  case refine_11 =>
    rw [hlast _ _ (by decide), State.endHalts, State.obj_setObj_ne _ (by decide), State.obj_setObj_ne _ (by decide)]
    exact State.obj_congr rfl _ _ _
  all_goals simp [State.startTeardown, State.setPhase, State.endHalts]

/-- SAFE left on request: the latch is cleared (R52). -/
def State.latchCleared (s : State) : State := { s with pw := { s.pw with safeLatch := false, keptCode := none } }

/-- BENCH entered with the dictionary restricted and the resident image to be checked again (R355). -/
def State.benchRestricted (s : State) : State :=
  { s.enterBench with su := { s.su with benchRestricted := true, freshRun := true, cellarOn := true } }

theorem State.requestAct_of_safe_eq {s : State} (hmode : s.pw.mode = .safe) :
    s.requestAct 3 = s.latchCleared.benchRestricted.refreshReg.keepersReset := by
  unfold State.requestAct
  exact if_pos hmode

/-- BENCH from SAFE: the latch is cleared, the dictionary restricted, the resident image checked again and the Keepers held
(R52, R355). -/
theorem State.requestAct_of_safe {s : State} (hmode : s.pw.mode = .safe) :
    (s.requestAct 3).pw.mode = .bench ∧ (s.requestAct 3).pw.safeLatch = false ∧ (s.requestAct 3).su.benchRestricted = true ∧
    (s.requestAct 3).su.freshRun = true ∧ (s.requestAct 3).saf.keepersHeld = true ∧ (s.requestAct 3).journal = s.journal := by
  obtain ⟨hbench, -, hlatch, -, hjournal⟩ := s.latchCleared.enterBench_mode
  have reg := ReportsOnly.refreshReg s.latchCleared.benchRestricted
  have held (x : State) : x.keepersReset.pw = x.pw ∧ x.keepersReset.su = x.su ∧ x.keepersReset.journal = x.journal ∧
      x.keepersReset.saf.keepersHeld = true := ⟨rfl, rfl, rfl, rfl⟩
  obtain ⟨h1, h2, h3, h4⟩ := held s.latchCleared.benchRestricted.refreshReg
  rw [State.requestAct_of_safe_eq hmode, h1, h2, h3, h4, reg.pw, reg.su, reg.journal]
  exact ⟨hbench, hlatch, rfl, rfl, rfl, hjournal⟩

end Sys2Proof.Machine

namespace Sys2Proof

open Sys2Proof.Machine

section
variable {p : Path} {s : State} (hdelivered : Delivered p s) (hserve : s.serveCode p.code 0xB000 = 0)
variable (harmed : (s.path p.code).armed = none) {v : Nat} (hv : v < 256)
include hdelivered hserve harmed hv

/-- A request that is not accepted is refused with its status shown, and moves nothing (R12, R54). -/
theorem request_refused (h : s.requestStatus p.code v false ≠ 1) {t : State} (ht : t = s.writeRow p 0xB000 1 1 v) :
    Acked p 0x08000022 [] t ∧ t.obj 0xB000 2 = s.requestStatus p.code v false ∧ t.pw = s.pw ∧
      t.journal = s.journal ∧ t.ctxs = s.ctxs ∧ SameObjs [okey 0xB000 2 0] s t ∧ SameMemory s t := by
  obtain ⟨h', -⟩ | ⟨-, hw⟩ := s.requestWrite_cases p.code v
  · exact absurd h' h
  generalize s.requestStatus p.code v false = st at *
  rw [State.writeRow_request hdelivered hserve harmed hv, hw] at ht
  simp only [ne_eq, OfNat.ofNat_ne_zero, not_false_eq_true, if_true] at ht
  have told : TellsOnly (s.setObj 0xB000 2 st) t := ht ▸ (TellsOnly.refuse _ _ _ _ _).trans (.answer _ _ _ _)
  refine ⟨ht ▸ acked_answer p _ [] _, ?_, told.pw, told.journal, told.ctxs, fun i j c hk => ?_, told.sameMemory⟩
  · rw [told.obj _ _ _ (by decide) (by decide)]
    exact s.obj_setObj_self _ _ _ _
  · simp only [List.cons_append, List.nil_append, List.mem_cons, not_or] at hk
    obtain ⟨hself, h0, h1, -⟩ := hk
    rw [told.obj i j c h0 h1]
    exact s.obj_setObj_ne hself

/-- An accepted request acts on the state that notes it, and is answered with 0 (R54, R120). -/
theorem request_accepted (h : s.requestStatus p.code v false = 1) :
    s.writeRow p 0xB000 1 1 v = ((s.requestNoted p.code v).requestAct v).answer p.code 0 [] := by
  obtain ⟨-, hw⟩ | ⟨h', -⟩ := s.requestWrite_cases p.code v
  · rw [State.writeRow_request hdelivered hserve harmed hv, hw]
    rfl
  · exact absurd h h'

end

/-! ## What each accepted request does -/

section
variable {p : Path} {s : State} (hdelivered : Delivered p s) (hserve : s.serveCode p.code 0xB000 = 0)
variable (harmed : (s.path p.code).armed = none)
include hdelivered hserve harmed

/-- PARKED asked for in BENCH (R46, R53, R67). -/
theorem requestParked_tearsDown (hmode : s.pw.mode = .bench) (hbusy : s.transitionBusy = false) :
    Answers (.requestParked p) s (fun t => Acked p 0 [] t ∧ t.obj 0xB000 2 = 1 ∧ Journaled p.code 0xB000 1 0xFFFF 0 1 s t ∧
      TearsDown s t) := by
  have hstatus : s.requestStatus p.code 1 false = 1 := by simp [State.requestStatus, hmode, hbusy]
  refine ⟨_, rfl, ?_⟩
  rw [request_accepted hdelivered hserve harmed (by decide) hstatus]
  have hact : (s.requestNoted p.code 1).requestAct 1 = (s.requestNoted p.code 1).startTeardown := rfl
  rw [hact]
  obtain ⟨htears, hstays, hjournal⟩ := (s.requestNoted p.code 1).startTeardown_tears
  generalize (s.requestNoted p.code 1).startTeardown = u at *
  have told := TellsOnly.answer u p.code 0 []
  refine ⟨acked_answer p 0 [] u, ?_, State.requestNoted_journaled (told.journal.trans hjournal), ?_⟩
  · rw [told.obj _ _ _ (by decide) (by decide), hstays]
    exact s.obj_requestNoted_status _ _
  · obtain ⟨h0, h1, h2, h3, h4, h5, h6, h7, h8, h9⟩ := htears
    have hobj (i j : Nat) (h : okey i j 0 ≠ okey 0x1F90 0x1A 0) (h' : okey i j 0 ≠ okey 0x1F91 0x1A 0) :=
      told.obj i j 0 h h'
    exact ⟨told.pw ▸ h0, told.pw ▸ h1, told.pw ▸ h2, told.pw ▸ h3, (hobj _ _ (by decide) (by decide)).trans h4,
      (hobj _ _ (by decide) (by decide)).trans h5, (hobj _ _ (by decide) (by decide)).trans h6,
      sameMemory_trans (s.requestNoted_sameMemory _ _) (sameMemory_trans h7 told.sameMemory), told.ctxs.trans h8, told.attic.trans h9⟩

/-- A wake asked for in PARKED, to BENCH where a window is open (R46, R56). -/
theorem request_wakes (hmode : s.pw.mode = .parked) (hbusy : s.transitionBusy = false) (hwake : Wakeable 4 s) :
    let up (bench : Bool) (t : State) : Prop := Acked p 0 [] t ∧ Journaled p.code 0xB000 1 0xFFFF 0 (if bench then 3 else 2) s t ∧
        t.pw.mode = .waking ∧ t.pw.prev = .parked ∧ t.obj 0xB001 3 = 4 ∧ t.pw.benchWake = (bench || s.pw.benchWake) ∧
        t.su.boot = s.readBoot ∧ t.pw.refclkReq = true ∧ SameMemory s t ∧ t.attic = s.attic
    Answers (.requestWake p) s (up false) ∧ (s.windowOpen p.code = true → Answers (.requestBench p) s (up true)) := by
  obtain ⟨-, hreset, hdeferred, hcool, henabled⟩ := id hwake
  have hup (v : Nat) (bench : Bool) {u : State} (hu : Wakes 4 (s.requestNoted p.code v) u) (hbench : u.pw.benchWake = (bench || s.pw.benchWake)) :
      let t := u.answer p.code 0 []
      Acked p 0 [] t ∧ Journaled p.code 0xB000 1 0xFFFF 0 v s t ∧
        t.pw.mode = .waking ∧ t.pw.prev = .parked ∧ t.obj 0xB001 3 = 4 ∧ t.pw.benchWake = (bench || s.pw.benchWake) ∧
        t.su.boot = s.readBoot ∧ t.pw.refclkReq = true ∧ SameMemory s t ∧ t.attic = s.attic := by
    obtain ⟨hm, hprev, hsrc, hboot, href, -, -, hmem, hattic, hjournal⟩ := hu
    have told := TellsOnly.answer u p.code 0 []
    have hread : (s.requestNoted p.code v).readBoot = s.readBoot :=
      State.readBoot_congr fun j hj => s.obj_requestNoted_ne _ _ fun h => by
        have := okey_inj (by omega) (by decide) h
        omega
    refine ⟨acked_answer p 0 [] u, State.requestNoted_journaled (told.journal.trans hjournal), told.pw ▸ hm, told.pw ▸ hprev,
      (told.obj _ _ _ (by decide) (by decide)).trans hsrc, told.pw ▸ hbench, ?_, told.pw ▸ href,
      sameMemory_trans (s.requestNoted_sameMemory _ _) (sameMemory_trans hmem told.sameMemory), told.attic.trans hattic⟩
    rw [told.rest]
    exact hboot.trans hread
  have hable (v : Nat) : Wakeable 4 (s.requestNoted p.code v) := by
    refine ⟨hmode, hreset, hdeferred, ?_, ?_⟩
    · rw [State.objI, s.obj_requestNoted_ne _ _ (by decide)]; exact hcool
    · rw [State.objBit, s.obj_requestNoted_ne _ _ (by decide)]; exact henabled
  refine ⟨?_, fun hopen => ?_⟩
  · have hstatus : s.requestStatus p.code 2 false = 1 := by simp [State.requestStatus, hmode, hbusy, henabled, hreset]
    refine ⟨_, rfl, ?_⟩
    rw [request_accepted hdelivered hserve harmed (by decide) hstatus]
    obtain ⟨hw, hb⟩ := State.fireWake_wakes (hable 2)
    exact hup 2 false hw hb
  · have hstatus : s.requestStatus p.code 3 false = 1 := by simp [State.requestStatus, hmode, hbusy, henabled, hreset, hopen]
    refine ⟨_, rfl, ?_⟩
    rw [request_accepted hdelivered hserve harmed (by decide) hstatus]
    have hact : (s.requestNoted p.code 3).requestAct 3 =
        ({ s.requestNoted p.code 3 with pw := { s.pw with benchWake := true } } : State).fireWake 4 := by
      simp [State.requestAct, hmode]
    rw [hact]
    have hw := State.fireWake_wakes_pw (hable 3) { s.pw with benchWake := true } rfl rfl rfl
    obtain ⟨h1, h2, h3, h4, h5⟩ := hable 3
    have hb := (State.fireWake_wakes (s := { s.requestNoted p.code 3 with pw := { s.pw with benchWake := true } }) (src := 4)
      ⟨h1, h2, h3, h4, h5⟩).2
    exact hup 3 true hw hb

/-- BENCH asked for in SAFE, within a window (R52, R355). -/
theorem requestBench_leavesSafe (hmode : s.pw.mode = .safe) (hbusy : s.transitionBusy = false) (hopen : s.windowOpen p.code = true) :
    Answers (.requestBench p) s (fun t => Acked p 0 [] t ∧ Journaled p.code 0xB000 1 0xFFFF 0 3 s t ∧ t.pw.mode = .bench ∧
      t.pw.safeLatch = false ∧ t.su.benchRestricted = true ∧ t.su.freshRun = true ∧ t.saf.keepersHeld = true) := by
  have hstatus : s.requestStatus p.code 3 false = 1 := by simp [State.requestStatus, hmode, hbusy, hopen]
  refine ⟨_, rfl, ?_⟩
  rw [request_accepted hdelivered hserve harmed (by decide) hstatus]
  obtain ⟨hbench, hlatch, hrestricted, hfresh, hheld, hjournal⟩ := State.requestAct_of_safe (s := s.requestNoted p.code 3) hmode
  generalize (s.requestNoted p.code 3).requestAct 3 = u at *
  have told := TellsOnly.answer u p.code 0 []
  exact ⟨acked_answer p 0 [] u, State.requestNoted_journaled (told.journal.trans hjournal), told.pw ▸ hbench, told.pw ▸ hlatch,
    told.rest ▸ hrestricted, told.rest ▸ hfresh, told.rest ▸ hheld⟩

/-- DRIVE asked for in BENCH (R46, R54). -/
theorem requestDrive_drives (hmode : s.pw.mode = .bench) (hbusy : s.transitionBusy = false) (hign : s.pw.ign = true)
    (hsplit : s.obj 0x2001 5 ≠ 2) (hsplitting : s.obj 0x5010 2 ≠ 1) (hmodel : s.obj 0x5020 1 ≠ 0) (hloaded : s.su.loaded = true)
    (hhaltA : s.obj 0x5050 2 = 0) (hhaltB : s.obj 0x5050 3 = 0) :
    Answers (.requestDrive p) s (fun t => Acked p 0 [] t ∧ t.obj 0xB000 2 = 1 ∧ Journaled p.code 0xB000 1 0xFFFF 0 4 s t ∧
      t.pw.mode = .drive ∧ t.pw.prev = .bench ∧ t.obj 0x2001 8 = 1000 ∧ t.obj 0xB000 3 = 0 ∧ SameMemory s t) := by
  have hstatus : s.requestStatus p.code 4 false = 1 := by
    simp [State.requestStatus, State.objB, hmode, hbusy, hign, hsplit, hsplitting, hmodel, hloaded, hhaltA, hhaltB]
  refine ⟨_, rfl, ?_⟩
  rw [request_accepted hdelivered hserve harmed (by decide) hstatus]
  obtain ⟨hdrive, hprev, hjournal, hmem⟩ := (s.requestNoted p.code 4).enterDrive_mode
  obtain ⟨hfclk, hphase, hshown⟩ := State.enterDrive_of_bench (s := s.requestNoted p.code 4) hmode hign
  have told := TellsOnly.answer (s.requestNoted p.code 4).enterDrive p.code 0 []
  exact ⟨acked_answer p 0 [] _, (told.obj _ _ _ (by decide) (by decide)).trans (hshown.trans (s.obj_requestNoted_status _ _)),
    State.requestNoted_journaled (told.journal.trans hjournal), told.pw ▸ hdrive, told.pw ▸ (hprev.trans hmode),
    (told.obj _ _ _ (by decide) (by decide)).trans hfclk, (told.obj _ _ _ (by decide) (by decide)).trans hphase,
    sameMemory_trans (s.requestNoted_sameMemory _ _) (sameMemory_trans hmem told.sameMemory)⟩

end

/-- Settles O41: a request reaches R54 judged and unarmed, a refused one shows its status alone, and an accepted one is noted and
acts through the operation of its transition. -/
theorem stateRequestsMoveTheBlock : Obligations.StateRequestsMoveTheBlock := by
  unfold Obligations.StateRequestsMoveTheBlock
  refine ⟨fun p s hdelivered hserve harmed => ?_, fun p s hmode hopen => ?_, fun p s hmode hign => ?_, fun p s hmode v => ?_⟩
  · extract_lets refused
    have hrefused {v : Nat} (hv : v < 256) (h : s.requestStatus p.code v false ≠ 1) :
        refused (s.requestStatus p.code v false) (s.writeRow p 0xB000 1 1 v) :=
      request_refused hdelivered hserve harmed hv h rfl
    exact ⟨fun h => ⟨_, rfl, hrefused (by decide) h⟩, fun h => ⟨_, rfl, hrefused (by decide) h⟩,
      fun h => ⟨_, rfl, hrefused (by decide) h⟩, fun h => ⟨_, rfl, hrefused (by decide) h⟩,
      requestParked_tearsDown hdelivered hserve harmed, request_wakes hdelivered hserve harmed,
      requestBench_leavesSafe hdelivered hserve harmed, requestDrive_drives hdelivered hserve harmed⟩
  · simp [State.requestStatus, hmode, hopen]
  · simp [State.requestStatus, hmode, hign]
  · rcases v with _ | _ | _ | _ | _ | v <;> simp [State.requestStatus, hmode]

end Sys2Proof
end

section
/-! # Deliveries: the attempts, the check and its hand-on to the members (O36) -/

namespace Sys2Proof.Machine

open Sys2Proof

/-- A failed attempt with another one left: its status is shown, and the window opens again (R90). -/
theorem State.attemptFailed_reopens {s : State} (hleft : s.obj 0x2050 5 + 1 < s.su.boot.attempts) (hmax : s.su.boot.attempts < 256)
    (status : Nat) : (s.attemptFailed status).obj 0x2050 2 = status ∧ (s.attemptFailed status).obj 0x2050 5 = s.obj 0x2050 5 + 1 ∧
      (s.attemptFailed status).su.window = some (s.now + 875000) ∧ (s.attemptFailed status).su.placing = false ∧
      SameMemory s (s.attemptFailed status) := by
  have hbits : objBits 0x2050 5 = 8 := by decide +kernel
  unfold State.attemptFailed
  extract_lets u _ v
  have raised : ReportsOnly ((s.setObj 0x2050 2 status).bumpSat 0x2050 5) u := .raise _ _ _ _
  have hstatus : v.obj 0x2050 2 = status := (raised.obj 0x2050 2).trans
    (Eq.trans (State.obj_setObj_ne _ (by decide)) (s.obj_setObj_self _ _ _ _))
  have hcount : v.obj 0x2050 5 = s.obj 0x2050 5 + 1 := by
    refine (raised.obj 0x2050 5).trans ?_
    rw [State.bumpSat, State.obj_setObj_self, s.obj_setObj_ne (by decide), hbits]
    omega
  have hsu : u.su = s.su := raised.su
  have hmem : SameMemory s v := sameMemory_trans (t := (s.setObj 0x2050 2 status).bumpSat 0x2050 5) ⟨fun _ => rfl, rfl⟩
    (sameMemory_trans raised.sameMemory (sameMemory_of_mem rfl rfl))
  have hattempts : v.su.boot.attempts = s.su.boot.attempts := by rw [← hsu]
  have hnow : v.now = s.now := by
    have hclk : v.clk = s.clk := raised.clk
    rw [State.now, State.now, hclk]
  rw [if_pos (by rw [hcount, hattempts]; exact hleft), hnow]
  exact ⟨hstatus, hcount, rfl, rfl, sameMemory_trans hmem (sameMemory_of_mem rfl rfl)⟩

/-- The window's deadline passes (R90). -/
theorem exec_deliveryDeadline {s : State} {d : Nat} (hwindow : s.su.window = some d) (hsafe : s.pw.pendSafe = none) :
    exec .deliveryDeadline s = .next (s.attemptFailed 0x16) := by
  have h : exec .deliveryDeadline s = execDeliveryDeadline s := rfl
  rw [h, execDeliveryDeadline, hwindow]
  simp [hsafe]

/-! ## Messages to the members (R463, R468, R471) -/

/-- Only what leaves on the Fuind ports, what they hold and their counters differ. -/
structure SendsOnly (s t : State) : Prop where
  rest : t = { s with objs := t.objs, casc := t.casc, out := t.out }
  obj : ∀ i j, i ≠ 0xA003 → j < 256 → t.obj i j = s.obj i j

namespace SendsOnly

variable {s t u : State}

theorem refl (s : State) : SendsOnly s s := ⟨rfl, fun _ _ _ _ => rfl⟩

theorem trans (h : SendsOnly s t) (k : SendsOnly t u) : SendsOnly s u :=
  ⟨by rw [k.rest, h.rest], fun i j hi hj => (k.obj i j hi hj).trans (h.obj i j hi hj)⟩

theorem su (h : SendsOnly s t) : t.su = s.su := by rw [h.rest]
theorem sameMemory (h : SendsOnly s t) : SameMemory s t := by rw [h.rest]; exact ⟨fun _ => rfl, rfl⟩

theorem foldl {α : Type} {f : State → α → State} (hf : ∀ s a, SendsOnly s (f s a)) (l : List α) (s : State) :
    SendsOnly s (l.foldl f s) := foldl_keeps (SendsOnly s) f (fun b a h => h.trans (hf b a)) l s (.refl s)

theorem modFl (s : State) (p : Nat) (f : FlPort → FlPort) : SendsOnly s (s.modFl p f) := by
  unfold State.modFl
  split
  · exact ⟨rfl, fun _ _ _ _ => State.obj_congr rfl _ _ _⟩
  · exact ⟨rfl, fun _ _ _ _ => State.obj_congr rfl _ _ _⟩

theorem emit (s : State) (o : Output) : SendsOnly s (s.emit o) := ⟨rfl, fun i j _ _ => s.obj_emit o i j 0⟩

theorem setObj (s : State) {k : Nat} (hk : k < 256) (v : Nat) : SendsOnly s (s.setObj 0xA003 k v) :=
  ⟨rfl, fun _ _ hi hj => s.obj_setObj_of_idx_ne v hi hk hj⟩

/-- Every flit that can go leaves. -/
theorem pumpN (s : State) (p fuel : Nat) : SendsOnly s (s.pumpN p fuel) := by
  induction fuel generalizing s with
  | zero => exact .refl s
  | succ k ih =>
    unfold State.pumpN
    split
    · exact .refl s
    · exact ((emit s _).trans (modFl _ _ _)).trans (ih _)

theorem linkPut (s : State) (p : Nat) (fwd : Bool) (m : List Byte) : SendsOnly s (s.linkPut p fwd m) :=
  ((modFl s p _).trans (emit _ _)).trans (pumpN _ _ _)

/-- A message goes out of a port, or is dropped and counted there. -/
theorem linkOut (s : State) {p : Nat} (hp : p < 2) (fwd : Bool) (m : List Byte) : SendsOnly s (s.linkOut p fwd m).2 := by
  unfold State.linkOut
  split
  · exact linkPut s p fwd m
  · exact setObj s (by omega) _

theorem linkSend (s : State) (type dst : Nat) (body : List Byte) : SendsOnly s (s.linkSend type dst body).2 := by
  unfold State.linkSend
  split
  · exact .refl s
  · refine linkOut s ?_ _ _
    unfold State.routePort
    have port (b : Bool) : (if b then 1 else 0) < 2 := by cases b <;> decide
    exact port _

/-- The image goes to each member in messages (R471). -/
theorem sendImages (s : State) (len : Nat) : SendsOnly s (s.sendImages len) := by
  unfold State.sendImages
  split
  · exact .refl s
  · exact foldl (fun s j => foldl (fun s k => linkSend s _ _ _) _ s) _ s

end SendsOnly

end Sys2Proof.Machine

namespace Sys2Proof

open Sys2Proof.Machine

/-- A delivery's deadline with attempts left (R90). -/
theorem deliveryDeadline_reopens {s : State} {d : Nat} (hwindow : s.su.window = some d) (hsafe : s.pw.pendSafe = none)
    (hleft : s.obj 0x2050 5 + 1 < s.su.boot.attempts) (hmax : s.su.boot.attempts < 256) :
    Answers (.deliveryDeadline) s (fun t => t.obj 0x2050 2 = 0x16 ∧
      t.obj 0x2050 5 = s.obj 0x2050 5 + 1 ∧ t.su.window = some (s.now + 875000) ∧ SameMemory s t) := by
  obtain ⟨hstatus, hcount, hopen, -, hmem⟩ := State.attemptFailed_reopens hleft hmax 0x16
  exact ⟨_, exec_deliveryDeadline hwindow hsafe, hstatus, hcount, hopen, hmem⟩

/-- An image that passes every check is placed next, and the members are sent it (R87, R471). -/
theorem imageCheckDone_passes {s : State} {len : Nat} (hchecking : s.su.checking = some len) (hcode : s.imageCode len = 0) :
    Answers (.imageCheckDone) s (fun t => t.su.placing = true ∧
        t.su.checking = none ∧ t.su.imageLen = len ∧ t.obj 0x2050 2 = 3 ∧ SameMemory s t) := by
  have h : exec .imageCheckDone s = .next
      (({ s with su := { s.su with checking := none, placing := true, imageLen := len } } : State).setObj 0x2050 2 3 |>.sendImages len) := by
    have h : exec .imageCheckDone s = execImageCheckDone s := rfl
    rw [h, execImageCheckDone, hchecking]
    simp [hcode]
  have sent := SendsOnly.sendImages
    (({ s with su := { s.su with checking := none, placing := true, imageLen := len } } : State).setObj 0x2050 2 3) len
  refine ⟨_, h, sent.su ▸ rfl, sent.su ▸ rfl, sent.su ▸ rfl,
    (sent.obj 0x2050 2 (by decide) (by decide)).trans (State.obj_setObj_self _ _ _ _ _),
    sameMemory_trans (t := State.setObj { s with su := { s.su with checking := none, placing := true, imageLen := len } } 0x2050 2 3)
      (sameMemory_of_mem rfl rfl) sent.sameMemory⟩

/-- An image that fails a check shows the check's status (R87, R90). -/
theorem imageCheckDone_fails {s : State} {len : Nat} (hchecking : s.su.checking = some len) (hcode : s.imageCode len ≠ 0)
    (hleft : s.obj 0x2050 5 + 1 < s.su.boot.attempts) (hmax : s.su.boot.attempts < 256) :
    Answers (.imageCheckDone) s (fun t => t.obj 0x2050 2 = s.imageCode len ∧ t.su.placing = false ∧
        t.su.window = some (s.now + 875000) ∧ SameMemory s t) := by
  have h : exec .imageCheckDone s = .next (s.attemptFailed (s.imageCode len)) := by
    have h : exec .imageCheckDone s = execImageCheckDone s := rfl
    rw [h, execImageCheckDone, hchecking]
    simp [hcode]
  obtain ⟨hstatus, -, hopen, hplacing, hmem⟩ := State.attemptFailed_reopens hleft hmax (s.imageCode len)
  exact ⟨_, h, hstatus, hplacing, hopen, hmem⟩

end Sys2Proof
end

section
/-! # Placement, the resident image and the end of the start-up (O36) -/

namespace Sys2Proof.Machine

open Sys2Proof

/-! ## Placement (R88, R91) -/

/-- Sections are bytes of memory, and nothing else (R88). -/
theorem State.placeSections_rest (s : State) (b : List Byte) (p : Nat → Bool) :
    s.placeSections b p = { s with mem := (s.placeSections b p).mem, poison := (s.placeSections b p).poison } :=
  foldl_keeps (fun t : State => t = { s with mem := t.mem, poison := t.poison }) _ (fun t x h => by rw [h]; rfl) _ _ rfl

/-- The copy of the calibration set is written where there is one, and its address shown (R183). -/
theorem State.calCopy_keeps (s : State) : s.calCopy.pw = s.pw ∧ s.calCopy.su = s.su ∧ ∀ j < 256, s.calCopy.obj 0x2050 j = s.obj 0x2050 j := by
  unfold State.calCopy
  split
  · exact ⟨rfl, rfl, fun _ _ => rfl⟩
  · exact ⟨rfl, rfl, fun j hj => State.obj_setObj_of_idx_ne _ _ (by decide) (by decide) hj⟩

/-- An image that has become resident is loaded, with its generation shown (R91). -/
theorem State.imageLoaded_shows (s : State) (b : List Byte) : (s.imageLoaded b).pw = s.pw ∧ (s.imageLoaded b).su.loaded = true ∧
    (s.imageLoaded b).su.placing = false ∧ (s.imageLoaded b).obj 0x2050 2 = 4 ∧ (s.imageLoaded b).obj 0x2050 3 = field b 16 4 := by
  unfold State.imageLoaded
  extract_lets _ u v
  obtain ⟨hpw, hsu, hobj⟩ := (v.setObj 0x2050 4 (hashOf (b.take (b.length - 160)))).calCopy_keeps
  rw [hpw, hsu, hobj 2 (by decide), hobj 3 (by decide)]
  refine ⟨rfl, rfl, rfl, ?_, ?_⟩
  · rw [State.obj_setObj_ne _ (by decide), State.obj_setObj_ne _ (by decide), State.obj_setObj_self]
  · rw [State.obj_setObj_ne _ (by decide), State.obj_setObj_self]

/-! ## The states that the start-up ends in (R46, R50) -/

/-- The Keepers' split at the end of the start-up moves no state (R81). -/
theorem State.splitAtBoot_pw (s : State) : s.splitAtBoot.pw = s.pw := by
  unfold State.splitAtBoot
  split <;> rfl

/-- Engines that change partition do nothing to the power state (R330). -/
theorem State.partitionsTurn_pw (s : State) : s.partitionsTurn.pw = s.pw :=
  foldl_same State.pw _ (fun t e => by split <;> rfl) _ _

/-- DEPOT commits (R46). -/
theorem State.enterDepot_mode (s : State) : s.enterDepot.pw.mode = .depot ∧ s.enterDepot.pw.prev = s.pw.mode := by
  unfold State.enterDepot
  extract_lets u _ v w
  have relocked (x : State) : x.avsRelock.watchdogArm.pw = { x.pw with avsSet := x.avsRelock.pw.avsSet } := by
    have h (y : State) : y.watchdogArm.pw = y.pw := rfl
    rw [h, State.avsRelock, State.avsWrite_rest]
  have hpw (x : State) : x.depotEnter.pw = x.pw := by simp [State.depotEnter]
  rw [hpw, State.partitionsTurn_pw, relocked]
  exact ⟨rfl, rfl⟩

end Sys2Proof.Machine

namespace Sys2Proof

open Sys2Proof.Machine

/-- Sections that can be placed make their image resident, and start the Keepers (R88, R91, R355). -/
theorem sectionsPlaced_loads {s : State} (hplacing : s.su.placing = true) (hzeroed : s.pw.mode = .waking → s.su.zeroed = true)
    (hconfig : s.configure (s.delivered s.su.imageLen) ≠ none) :
    let b := s.delivered s.su.imageLen
    Answers (.sectionsPlaced) s (fun t => ∃ v : State,
      v = ((s.placeSections b fun k => k != 5).imageLoaded b) ∧
      t = (if s.pw.mode = .handover then v else (v.configure b).getD v).keepersBoot ∧ v.su.loaded = true ∧ v.su.placing = false ∧
      v.obj 0x2050 2 = 4 ∧ v.obj 0x2050 3 = field b 16 4) := by
  intro b
  have hb : ∃ c, s.configure b = some c := Option.ne_none_iff_exists'.1 hconfig
  obtain ⟨c, hc⟩ := hb
  have hwait : (!s.su.placing || (decide (s.pw.mode = .waking) && !s.su.zeroed)) = false := by
    by_cases h : s.pw.mode = .waking <;> simp [h, hplacing, hzeroed]
  obtain ⟨hpw, hloaded, hplaced, hstatus, hgen⟩ := (s.placeSections b fun k => k != 5).imageLoaded_shows b
  have hmode : ((s.placeSections b fun k => k != 5).imageLoaded b).pw = s.pw := hpw.trans (by rw [State.placeSections_rest])
  refine ⟨_, ?_, _, rfl, rfl, hloaded, hplaced, hstatus, hgen⟩
  have h : exec .sectionsPlaced s = execSectionsPlaced s := rfl
  rw [h, execSectionsPlaced, if_neg (by simp [hwait])]
  dsimp only
  rw [show s.configure (s.delivered s.su.imageLen) = some c from hc]
  dsimp only
  rw [hmode]

/-- A configuration that is refused is a failed attempt (R90, R355). -/
theorem sectionsPlaced_fails {s : State} (hplacing : s.su.placing = true) (hzeroed : s.pw.mode = .waking → s.su.zeroed = true)
    (hconfig : s.configure (s.delivered s.su.imageLen) = none)
    (hleft : s.obj 0x2050 5 + 1 < s.su.boot.attempts) (hmax : s.su.boot.attempts < 256) :
    Answers (.sectionsPlaced) s (fun t => t.obj 0x2050 2 = 0x15 ∧ t.su.placing = false ∧
        t.su.window = some (s.now + 875000) ∧ SameMemory s t) := by
  have hwait : (!s.su.placing || (decide (s.pw.mode = .waking) && !s.su.zeroed)) = false := by
    by_cases h : s.pw.mode = .waking <;> simp [h, hplacing, hzeroed]
  have h : exec .sectionsPlaced s = .next (s.attemptFailed 0x15) := by
    have h : exec .sectionsPlaced s = execSectionsPlaced s := rfl
    rw [h, execSectionsPlaced, if_neg (by simp [hwait])]
    dsimp only
    rw [hconfig]
  obtain ⟨hstatus, -, hopen, hplaced, hmem⟩ := State.attemptFailed_reopens hleft hmax 0x15
  exact ⟨_, h, hstatus, hplaced, hopen, hmem⟩

/-- The start-up is over: what it ends in (R46, R50, R82). -/
theorem exec_startupComplete {s : State} (hruns : s.startupRuns = true) (hlatch : s.pw.safeLatch = false) (hfirst : s.su.complete = false)
    (htested : s.selfTested = true) (hzeroed : s.su.zeroed = true) (hplacing : s.su.placing = false) (hloaded : s.su.loaded = true)
    (hmay : s.mayMove = true) :
    let u : State := { s with su := { s.su with complete := true } }
    exec .startupComplete s = .next (if s.su.boot.bench || s.pw.benchWake then u.enterBench.splitAtBoot
      else if s.pw.ign then u.enterDrive
      else if u.depotReady then u.enterDepot.splitAtBoot
      else ({ u with pw := { u.pw with readyHold := some (s.now + 1000 * u.obj 0xB001 4) } }.engineLevels 2).setPhase 3) := by
  have h : exec .startupComplete s = execStartupComplete s := rfl
  rw [h, execStartupComplete]
  simp only [hruns, hlatch, hfirst, htested, hzeroed, hplacing, hloaded, hmay, Bool.not_true, Bool.or_self, Bool.true_or,
    Bool.false_eq_true, if_false]
  rfl

/-- The start-up ends in BENCH, DRIVE, DEPOT or ready-hold (R46, R50). -/
theorem startupComplete_ends {s : State} (hruns : s.startupRuns = true) (hlatch : s.pw.safeLatch = false) (hfirst : s.su.complete = false)
    (htested : s.selfTested = true) (hzeroed : s.su.zeroed = true) (hplacing : s.su.placing = false) (hloaded : s.su.loaded = true)
    (hmay : s.mayMove = true) :
    (s.su.boot.bench = true → Answers (.startupComplete) s (fun t => t.pw.mode = .bench ∧ t.pw.prev = .waking)) ∧
    (s.su.boot.bench = false → s.pw.benchWake = false → s.pw.ign = true → Answers (.startupComplete) s (fun t =>
      t.pw.mode = .drive ∧ t.pw.prev = .waking)) ∧
    (s.su.boot.bench = false → s.pw.benchWake = false → s.pw.ign = false → s.depotReady = true →
      Answers (.startupComplete) s (fun t => t.pw.mode = .depot ∧ t.pw.prev = .waking)) ∧
    (s.su.boot.bench = false → s.pw.benchWake = false → s.pw.ign = false → s.depotReady = false →
      Answers (.startupComplete) s (fun t => t.pw.mode = .waking ∧
        t.pw.readyHold = some (s.now + 1000 * s.obj 0xB001 4) ∧ t.obj 0xB000 3 = 3 ∧ SameMemory s t)) := by
  have hexec := exec_startupComplete hruns hlatch hfirst htested hzeroed hplacing hloaded hmay
  have hwaking : s.pw.mode = .waking := by
    simp only [State.startupRuns, Bool.and_eq_true, decide_eq_true_eq] at hruns
    exact hruns.1.1.1
  generalize hu : ({ s with su := { s.su with complete := true } } : State) = u at hexec
  have hpw : u.pw = s.pw := hu ▸ rfl
  have hmem : SameMemory s u := hu ▸ ⟨fun _ => rfl, rfl⟩
  have hready : u.depotReady = s.depotReady := by subst hu; rfl
  have hobj : u.obj 0xB001 4 = s.obj 0xB001 4 := State.obj_congr (hu ▸ rfl) _ _ _
  have hprev : u.pw.mode = .waking := hpw ▸ hwaking
  refine ⟨fun hbench => ⟨_, hexec, ?_⟩, fun hbench hwake hign => ⟨_, hexec, ?_⟩, fun hbench hwake hign hdepot => ⟨_, hexec, ?_⟩,
    fun hbench hwake hign hdepot => ⟨_, hexec, ?_⟩⟩
  · beta_reduce
    rw [if_pos (by simp [hbench]), State.splitAtBoot_pw]
    obtain ⟨h1, h2, -⟩ := u.enterBench_mode
    exact ⟨h1, h2.trans hprev⟩
  · beta_reduce
    rw [if_neg (by simp [hbench, hwake]), if_pos hign]
    obtain ⟨h1, h2, -⟩ := u.enterDrive_mode
    exact ⟨h1, h2.trans hprev⟩
  · beta_reduce
    rw [if_neg (by simp [hbench, hwake]), if_neg (by simp [hign]), if_pos (hready.trans hdepot), State.splitAtBoot_pw]
    obtain ⟨h1, h2⟩ := u.enterDepot_mode
    exact ⟨h1, h2.trans hprev⟩
  · beta_reduce
    rw [if_neg (by simp [hbench, hwake]), if_neg (by simp [hign]), if_neg (by simp [hready, hdepot]), hobj]
    generalize hv : ({ u with pw := { u.pw with readyHold := some (s.now + 1000 * s.obj 0xB001 4) } } : State) = v
    have hvpw : v.pw = { u.pw with readyHold := some (s.now + 1000 * s.obj 0xB001 4) } := hv ▸ rfl
    have hvmem : SameMemory u v := hv ▸ sameMemory_of_mem rfl rfl
    have levels := RestartsOnly.engineLevels v 2
    have hlast : ((v.engineLevels 2).setPhase 3).pw = (v.engineLevels 2).pw := rfl
    rw [hlast, levels.pw, hvpw]
    exact ⟨hprev, rfl, State.obj_setObj_self _ _ _ _ _,
      sameMemory_trans hmem (sameMemory_trans hvmem (sameMemory_trans levels.sameMemory (sameMemory_of_mem rfl rfl)))⟩

/-! ## The fresh check of the resident image (R91, R92, R355) -/

/-- A sound image is kept. -/
theorem residentImageCheckDone_keeps {s : State} (hruns : s.su.freshRun = true) (hok : s.residentOk = true)
    (hfree : s.su.benchRestricted = false) : Answers (.residentImageCheckDone) s (fun t =>
      t = { s with su := { s.su with freshRun := false, freshOk := true, loaded := true } }) := by
  refine ⟨_, ?_, rfl⟩
  have h : exec .residentImageCheckDone s = execResidentImageCheckDone s := rfl
  rw [h, execResidentImageCheckDone]
  simp only [hruns, hok, hfree, Bool.not_true, Bool.false_eq_true, if_false]

/-- The fresh check that fails answers what `residentFailed` does. -/
theorem exec_residentImageCheckDone_fails {s : State} (hruns : s.su.freshRun = true) (hbad : s.residentOk = false) :
    exec .residentImageCheckDone s = .next s.residentFailed := by
  have h : exec .residentImageCheckDone s = execResidentImageCheckDone s := rfl
  rw [h, execResidentImageCheckDone]
  simp only [hruns, hbad, Bool.not_true, Bool.not_false, Bool.false_eq_true, if_false, if_true]

/-- An image that is not sound is loaded no longer: in HANDOVER a delivery follows, elsewhere the Keepers are held. -/
theorem residentFailed_shows (s : State) :
    s.residentFailed.su.freshRun = false ∧ s.residentFailed.su.loaded = false ∧ s.residentFailed.obj 0x2050 2 = 0x17 ∧
    SameMemory s s.residentFailed ∧
    (s.pw.mode = .handover → s.residentFailed.obj 0x2050 5 = 0 ∧ s.residentFailed.su.window = some (s.now + 875000)) ∧
    (s.pw.mode ≠ .handover → s.residentFailed.su.benchRestricted = true ∧ s.residentFailed.saf.keepersHeld = true) := by
  unfold State.residentFailed
  extract_lets _ u v
  have raised : ReportsOnly (u.setObj 0x2050 2 0x17) v := .raise _ _ _ _
  have hstatus : v.obj 0x2050 2 = 0x17 := (raised.obj 0x2050 2).trans (State.obj_setObj_self _ _ _ _ _)
  have hpw : v.pw = s.pw := raised.pw
  have hsu : v.su = u.su := raised.su
  have hclk : v.clk = s.clk := raised.clk
  have hmem : SameMemory s v := sameMemory_trans (t := u.setObj 0x2050 2 0x17) (sameMemory_of_mem rfl rfl) raised.sameMemory
  have hrun : v.su.freshRun = false ∧ v.su.loaded = false := hsu ▸ ⟨rfl, rfl⟩
  by_cases hmode : s.pw.mode = .handover
  · rw [hpw, if_pos hmode]
    have hopen (d i j : Nat) : ((v.setObj 0x2050 5 0).openWindow d).obj i j = (v.setObj 0x2050 5 0).obj i j := State.obj_congr rfl _ _ _
    refine ⟨hrun.1, hrun.2, (hopen _ _ _).trans ((State.obj_setObj_ne v (by decide)).trans hstatus),
      sameMemory_trans hmem (sameMemory_of_mem rfl rfl), fun _ => ⟨(hopen _ _ _).trans (v.obj_setObj_self _ _ _ _), ?_⟩,
      fun h => absurd hmode h⟩
    rw [State.now, State.now, ← hclk]
    rfl
  · rw [hpw, if_neg hmode]
    refine ⟨hrun.1, hrun.2, ?_, sameMemory_trans hmem (sameMemory_of_mem rfl rfl), fun h => absurd h hmode, fun _ => ⟨rfl, rfl⟩⟩
    exact (State.obj_congr (t := State.setObj _ 0x2001 5 _) rfl _ _ _).trans ((State.obj_setObj_ne _ (by decide)).trans
      ((State.obj_congr rfl _ _ _).trans hstatus))

end Sys2Proof
end

section
/-! # The exit wipe and the end of the hand-over (O36) -/

namespace Sys2Proof.Machine

open Sys2Proof

/-! ## Wiping a guest leaves the power state (R341, R429) -/

theorem State.recStart_pw (s : State) : s.recStart.pw = s.pw := by
  unfold State.recStart
  split
  · rfl
  · split
    · rfl
    · dsimp only
      split_ifs <;> rfl

theorem State.dropSteps_pw (s : State) (e : Nat) : (s.dropSteps e).pw = s.pw := by
  unfold State.dropSteps
  extract_lets gone u v
  have hflag (t : State) (n : Nat) : (t.flagSlot n).pw = t.pw := rfl
  have hu : u.pw = s.pw := foldl_same State.pw _ (fun t r => by split <;> rfl) _ _
  rw [State.recStart_pw]
  exact hu

theorem State.resetEngine_pw (s : State) (e : Nat) : (s.resetEngine e).pw = s.pw := by
  unfold State.resetEngine
  extract_lets u v _ w
  have hw : w.pw = v.pw := by
    unfold w
    split
    · exact State.bump_pw _ _ _ _ _
    · rfl
  rw [State.modEngine_pw, hw]
  exact s.dropSteps_pw e

theorem State.scrubStore_pw (s : State) (e : Nat) : (s.scrubStore e).pw = s.pw := rfl

theorem State.selfWrite_pw (s : State) (i j v c : Nat) (b : Bool) : (s.selfWrite i j v c b).pw = s.pw := by
  rw [State.selfWrite, State.journalAdd_pw, State.setObj_pw]

theorem State.removeMap_pw (s : State) (g : Nat) : (s.removeMap g).pw = s.pw := by
  unfold State.removeMap
  dsimp only
  rw [State.setObj_pw]
  split <;> rfl

/-- A guest's wipe leaves the power state; in HANDOVER none starts in its place (R429, R448). -/
theorem State.wipeDone_pw {s : State} (h : s.pw.mode ≠ .depot) (g : Nat) : (s.wipeDone g).pw = s.pw := by
  unfold State.wipeDone
  split
  · rfl
  · extract_lets fleet u v w x y z
    have hv : v.pw = s.pw := foldl_same State.pw _ (fun t e => by
      have hscrubbed : ((t.resetEngine e).scrubStore e).pw = t.pw := (State.scrubStore_pw _ e).trans (t.resetEngine_pw e)
      dsimp only
      split
      · rw [State.selfWrite_pw, State.modEngine_pw, hscrubbed]
      · rw [State.modEngine_pw, hscrubbed]) _ _
    have hx : x.pw = s.pw := by
      rw [State.bump_pw, State.setObj_pw, State.removeMap_pw]
      exact hv
    have hy : y.pw = s.pw := by
      unfold y
      split
      · simpa only [State.setObj_pw] using hx
      · exact hx
    have hz : z.pw = s.pw := hy
    rw [if_neg (by simp [hz, h])]
    exact hz

/-- Every guest's wipe together leaves the power state. -/
theorem State.wipeAll_pw {s : State} (h : s.pw.mode ≠ .depot) : ((List.range 8).foldl (fun s g => s.wipeDone g) s).pw = s.pw :=
  foldl_keeps (fun t : State => t.pw = s.pw) _ (fun t g ht => (State.wipeDone_pw (by rw [ht]; exact h) g).trans ht) _ _ rfl

/-- The exit wipe ends: the dispatch phase is over, and IGN decides where the block goes (R51, R429). -/
theorem State.exitWiped_decides {s : State} (hmode : s.pw.mode = .handover) (hphase : s.obj 0x6100 0x0A = 5) :
    s.exitWiped.pw.mode = .handover ∧ s.exitWiped.obj 0x6100 0x0A = 0 ∧ s.exitWiped.depot.outbox = [] ∧ s.exitWiped.depot.pulls = [] ∧
    (if s.pw.ign = true then s.exitWiped.su.toDrive = true ∧ s.exitWiped.su.enginesTested = false ∧ s.exitWiped.su.freshRun = true ∧
        s.exitWiped.obj 0xB000 3 = 2
      else s.exitWiped.pw.teardown = some 0 ∧ s.exitWiped.obj 0xB000 3 = 4) := by
  unfold State.exitWiped
  rw [if_neg (by simp [hmode, hphase])]
  have hall := State.wipeAll_pw (s := s) (by simp [hmode])
  extract_lets u v _ w
  have hvpw : v.pw = s.pw := by
    simp only [v, State.setObj_pw, State.zeroOutside, State.memZero_pw]
    exact hall
  have hv : v.obj 0x6100 0x0A = 0 := by
    unfold v
    rw [State.obj_setObj_self]
  clear_value v
  have hpw : w.pw = s.pw := by simp only [w, State.setObj_pw, hvpw]
  have hw : w.obj 0x6100 0x0A = 0 := by
    unfold w
    rw [State.obj_setObj_ne _ (by decide)]
    exact (State.obj_congr rfl _ _ _).trans hv
  have hbox : w.depot.outbox = [] ∧ w.depot.pulls = [] := by
    simp only [w, State.setObj_depot, and_self]
  clear_value w
  cases hign : s.pw.ign
  · obtain ⟨⟨hdown, -, -, hkept, hshown, -⟩, -⟩ := w.startTeardown_tears
    have hdepot : w.startTeardown.depot = w.depot := by
      simp only [State.startTeardown, State.setPhase, State.endHalts, State.setObj_depot]
    have hstays : w.startTeardown.obj 0x6100 0x0A = w.obj 0x6100 0x0A := by
      rw [State.startTeardown, State.setPhase, State.endHalts, State.obj_setObj_ne _ (by decide), State.obj_setObj_ne _ (by decide),
        State.obj_setObj_ne _ (by decide)]
      exact State.obj_congr rfl _ _ _
    rw [hpw, hign, if_neg Bool.false_ne_true, if_neg Bool.false_ne_true, hdepot]
    exact ⟨hkept.trans ((congrArg Power.mode hpw).trans hmode), hstays.trans hw, hbox.1, hbox.2, hdown, hshown⟩
  · rw [hpw, hign, if_pos rfl, if_pos rfl]
    have hlast (x : State) (hx : x.objs = w.objs) : (x.setPhase 2).obj 0x6100 0x0A = 0 :=
      (State.obj_setObj_ne x (by decide)).trans ((State.obj_congr hx _ _ _).trans hw)
    refine ⟨?_, hlast _ rfl, ?_, ?_, ?_, ?_, ?_, State.obj_setObj_self _ _ _ _ _⟩ <;>
      simp only [State.setPhase, State.setObj_pw, State.setObj_depot, State.setObj_su, hmode, hbox]

/-- The state table is cleared whole: every slot reads 0 (R314). -/
theorem State.memNat_slot_clearSlots (s : State) {n : Nat} (hn : n < 4096) : s.clearSlots.memNat (slotAddr n) 8 = 0 := by
  have hbytes : s.clearSlots.memBytes (slotAddr n) 8 = List.replicate 8 0 := by
    refine (List.map_congr_left fun k hk => ?_).trans List.map_const'
    have hk := List.mem_range.1 hk
    rw [State.clearSlots, State.memByte_memZero, if_pos]
    have hunit : unitWindow 1 = unitBase + 0x400000 := rfl
    unfold slotAddr
    omega
  rw [State.memNat, hbytes]
  rfl

end Sys2Proof.Machine

namespace Sys2Proof

open Sys2Proof.Machine

/-- The hand-over is complete: the configuration is applied, the slots are cleared and DRIVE commits (R91, R314). -/
theorem exec_handoverComplete {s u : Machine.State} (hmode : s.pw.mode = .handover) (htoDrive : s.su.toDrive = true)
    (htested : s.su.enginesTested = true) (hfresh : s.su.freshOk = true) (hloaded : s.su.loaded = true) (hplacing : s.su.placing = false)
    (hrejoin : s.saf.rejoinAt = none) (hheld : s.saf.keepersHeld = false) (hmay : s.mayMove = true)
    (hconfig : s.configure (s.staged s.su.imageLen) = some u) :
    exec .handoverComplete s = .next (State.enterDrive { u.clearSlots with su := { u.su with toDrive := false } }) := by
  have h : exec .handoverComplete s = execHandoverComplete s := rfl
  rw [h, execHandoverComplete, if_neg (by simp [hmode, htoDrive, htested, hfresh, hloaded, hplacing, hrejoin, hheld, hmay]), hconfig]

/-- Settles O36: a failed attempt is one lemma for the deadline, the check and the placement; what the start-up and the hand-over end
in follows from the entry of the state they commit. -/
theorem imagesAreCheckedAndPlaced : Obligations.ImagesAreCheckedAndPlaced := by
  unfold Obligations.ImagesAreCheckedAndPlaced
  refine ⟨fun s d hwindow hsafe hleft hmax => deliveryDeadline_reopens hwindow hsafe hleft hmax,
    fun s len hchecking => ⟨imageCheckDone_passes hchecking, imageCheckDone_fails hchecking⟩,
    fun s hplacing hzeroed => ⟨sectionsPlaced_loads hplacing hzeroed, sectionsPlaced_fails hplacing hzeroed⟩,
    fun s hruns hlatch hfirst htested hzeroed hplacing hloaded hmay =>
      startupComplete_ends hruns hlatch hfirst htested hzeroed hplacing hloaded hmay,
    fun s hruns => ⟨residentImageCheckDone_keeps hruns, fun hbad hmode => ?_, fun hbad hmode => ?_⟩,
    fun s hmode hphase => ?_,
    fun s u hmode htoDrive htested hfresh hloaded hplacing hrejoin hheld hmay hconfig => ?_⟩
  · obtain ⟨hrun, hloaded, hstatus, hmem, hreopens, -⟩ := residentFailed_shows s
    obtain ⟨hcount, hopen⟩ := hreopens hmode
    exact ⟨_, exec_residentImageCheckDone_fails hruns hbad, hrun, hloaded, hstatus, hcount, hopen, hmem⟩
  · obtain ⟨hrun, hloaded, hstatus, hmem, -, hholds⟩ := residentFailed_shows s
    obtain ⟨hrestricted, hheld⟩ := hholds hmode
    exact ⟨_, exec_residentImageCheckDone_fails hruns hbad, hrun, hloaded, hstatus, hrestricted, hheld, hmem⟩
  · exact ⟨⟨_, rfl, State.exitWiped_decides hmode hphase⟩, ⟨_, rfl, State.exitWiped_decides hmode hphase⟩⟩
  · exact ⟨_, exec_handoverComplete hmode htoDrive htested hfresh hloaded hplacing hrejoin hheld hmay hconfig, _, rfl, rfl,
      fun n => u.memNat_slot_clearSlots n.isLt⟩

end Sys2Proof
end

section
/-! # A write behind a selector that holds 0xFFFF (R105)

The selectors are bounded where they are written; 0xFFFF also stands for no channel at all, and an access behind it acts on channel 0. -/

namespace Sys2Proof

open Sys2Proof.Machine

/-- BENCH on JTAG with stream 0 enabled, every other object at its default, and 0xFFFF in the path's stream and guest selectors. -/
def benchWithStraySelectors : State :=
  { State.reset with
    pw := { Power.reset with mode := .bench, porst := false }
    objs := [(okey 0x3000 1 0, 1)]
    paths := [(0x38, { PathState.fresh with selStream := 0xFFFF, selGuest := 0xFFFF })] }

theorem serving_benchWithStraySelectors : Serving .jtag benchWithStraySelectors := by
  refine ⟨⟨?_, ?_, ?_⟩, .inl rfl, rfl, ?_, ?_, ?_⟩ <;> decide +kernel

/-- STREAM_ENABLE there finds stream 0 enabled, and is accepted. -/
theorem exec_streamEnable_straySelector : ∃ t, exec (.streamEnable .jtag) benchWithStraySelectors = .next t ∧
    t.out.head? = some (.answer 0x38 0 []) :=
  ⟨_, rfl, by decide +kernel⟩

/-- GUEST_ENABLE there enables guest 0 and leaves the entry that the selector names. -/
theorem exec_guestEnable_straySelector : ∃ t, exec (.guestEnable .jtag) benchWithStraySelectors = .next t ∧
    t.obj 0x6021 1 0 = 1 ∧ t.obj 0x6021 1 0xFFFF = 0 :=
  ⟨_, rfl, by decide +kernel⟩

/-- An answer on JTAG is the last thing sent: no CAN port holds it back. -/
theorem acked_jtag {code : Nat} {data : List Byte} {t : State} (h : Acked .jtag code data t) :
    t.out.head? = some (.answer 0x38 code data) := by
  obtain h | ⟨n, hp, -⟩ := h
  · exact h
  · cases hp

/-- Refutes O42: its clauses bound the stream selector at STREAM_DISABLE alone. With 0xFFFF there, the stream that the statement names
is not enabled and its geometry admits no enable, so the write should be refused; it acts on stream 0, and is accepted. -/
theorem not_controlWritesActOnTheirUnits : ¬ Obligations.ControlWritesActOnTheirUnits := by
  unfold Obligations.ControlWritesActOnTheirUnits
  intro h
  obtain ⟨-, -, hstream, -⟩ := h .jtag benchWithStraySelectors serving_benchWithStraySelectors
  obtain ⟨t, hexec, hacked, -⟩ := hstream (by decide +kernel) (by decide +kernel)
  obtain ⟨u, hexec', haccepted⟩ := exec_streamEnable_straySelector
  obtain rfl := Host.Outcome.next.inj (hexec.symm.trans hexec')
  exact absurd (haccepted.symm.trans (acked_jtag hacked)) (by decide)

/-- Refutes O43: its clauses bound the monitor selector at MONITOR_CLEAR, and the guest selector at GUEST_DISABLE alone. With 0xFFFF
in the guest selector, GUEST_ENABLE in BENCH enables guest 0, and 0x6021:01 of the guest that the statement names stays 0. -/
theorem not_clearsGuestsStoresAndPathResets : ¬ Obligations.ClearsGuestsStoresAndPathResets := by
  unfold Obligations.ClearsGuestsStoresAndPathResets
  rintro ⟨hwrites, -⟩
  obtain ⟨-, -, -, -, -, -, hguest, -⟩ := hwrites .jtag benchWithStraySelectors serving_benchWithStraySelectors
  obtain ⟨t, hexec, -, hon, -⟩ := hguest rfl (by decide +kernel)
  obtain ⟨u, hexec', -, hoff⟩ := exec_guestEnable_straySelector
  obtain rfl := Host.Outcome.next.inj (hexec.symm.trans hexec')
  exact absurd (hoff.symm.trans hon) (by decide)

end Sys2Proof
end

section
/-! # A reset node that wraps the reset history (R78, R131) -/

namespace Sys2Proof

open Sys2Proof.Machine

/-- A full reset history: 256 valid entries, newest first, both blocks of the ring written once. -/
def fullHistory : List (List Byte) :=
  (List.range 256).map fun n => historyEntry (255 - n) 2 1 0 0 1000 (255 - n)

/-- BENCH with the core controller on CAN port 0, reset node enabled by 0x1F92:02, and a full reset history. -/
def benchWithFullHistory : State :=
  { State.reset with
    pw := { Power.reset with mode := .bench, porst := false }
    objs := [(okey 0x1F92 2 0, 1)]
    can := [(0, { CanPort.idle with core := true })]
    attic := { Attic.factory with history := fullHistory, written := 256 } }

/-- The reset's entry takes the first place of block 0 again, and the block's 128 entries are erased before it: the 201st newest entry
is among them. -/
theorem exec_nmtResetNode_fullHistory : ∃ t, exec (.nmtResetNode 0 0) benchWithFullHistory = .next t ∧
    t.attic.history[200]? = some [] :=
  ⟨_, rfl, by decide +kernel⟩

/-- Put before a full history, an entry only moves the others on by one place: none of them is erased. -/
theorem cons_fullHistory_getElem? (e : List Byte) : ((e :: fullHistory).take 256)[200]? ≠ some [] := by
  rw [List.getElem?_take_of_lt (by decide), List.getElem?_cons_succ]
  decide +kernel

/-- Refutes O44: its clause on the device reset of NMT_RESET_NODE puts the new entry before the whole history. Where the ring wraps
into a block, that block is erased first (R78), so of 256 entries the 128 oldest are gone with the 257th. -/
theorem not_canTakesNmtAndUsdo : ¬ Obligations.CanTakesNmtAndUsdo := by
  unfold Obligations.CanTakesNmtAndUsdo
  rintro ⟨-, hnmt, -⟩
  obtain ⟨-, -, hreset, -⟩ := hnmt 0 0 benchWithFullHistory
  obtain ⟨t, hexec, -, -, -, e, hhistory, -⟩ := hreset (by decide +kernel) (by decide +kernel) (.inl rfl)
  obtain ⟨u, hexec', herased⟩ := exec_nmtResetNode_fullHistory
  obtain rfl := Host.Outcome.next.inj (hexec.symm.trans hexec')
  rw [hhistory] at herased
  exact cons_fullHistory_getElem? e herased

end Sys2Proof
end

section
/-! # What an access of a path may change (chapter 4)

Reads, refusals, keys, mailbox commands and dictionary messages are all told on paths and counted: `AccessOnly`. -/

namespace Sys2Proof.Machine

open Sys2Proof

/-- Only what paths hold for themselves, what has been sent, some entries, the counters of withheld answers (R142) and those of
near-misses (R211) differ; every peer keeps its slot (R104). -/
structure AccessOnly (keys : List Nat) (s t : State) : Prop where
  rest : t = { s with paths := t.paths, objs := t.objs, out := t.out }
  same : SameObjs keys s t
  peer : ∀ c, (t.path c).peer = (s.path c).peer

namespace AccessOnly

variable {keys : List Nat} {s t u : State}

theorem refl (s : State) : AccessOnly keys s s := ⟨rfl, fun _ _ _ _ => rfl, fun _ => rfl⟩

theorem trans (h : AccessOnly keys s t) (k : AccessOnly keys t u) : AccessOnly keys s u :=
  ⟨by rw [k.rest, h.rest], fun i j c hc => (k.same i j c hc).trans (h.same i j c hc), fun c => (k.peer c).trans (h.peer c)⟩

theorem mono {keys' : List Nat} (h : AccessOnly keys s t) (hsub : keys ⊆ keys') : AccessOnly keys' s t :=
  ⟨h.rest, fun i j c hc => h.same i j c fun hk => hc (by
    rcases List.mem_append.mp hk with hk | hk
    · exact List.mem_append_left _ (hsub hk)
    · exact List.mem_append_right _ hk), h.peer⟩

/-- An entry that the access does not touch. -/
theorem obj (h : AccessOnly keys s t) (i j c : Nat)
    (hk : okey i j c ∉ keys ++ [okey 0x1F90 0x1A 0, okey 0x1F91 0x1A 0, okey 0x9005 1 0, okey 0x9005 2 0]) :
    t.obj i j c = s.obj i j c := h.same i j c hk

theorem journal (h : AccessOnly keys s t) : t.journal = s.journal := by rw [h.rest]
theorem attic (h : AccessOnly keys s t) : t.attic = s.attic := by rw [h.rest]
theorem pw (h : AccessOnly keys s t) : t.pw = s.pw := by rw [h.rest]
theorem su (h : AccessOnly keys s t) : t.su = s.su := by rw [h.rest]
theorem can (h : AccessOnly keys s t) : t.can = s.can := by rw [h.rest]
theorem depot (h : AccessOnly keys s t) : t.depot = s.depot := by rw [h.rest]
theorem smp (h : AccessOnly keys s t) : t.smp = s.smp := by rw [h.rest]
theorem ctxs (h : AccessOnly keys s t) : t.ctxs = s.ctxs := by rw [h.rest]
theorem now (h : AccessOnly keys s t) : t.now = s.now := by rw [h.rest]; rfl

theorem sameMemory (h : AccessOnly keys s t) : SameMemory s t := by rw [h.rest]; exact ⟨fun _ => rfl, rfl⟩

theorem calm (h : AccessOnly keys s t) : Calm s t := by rw [h.rest]; exact ⟨⟨fun _ => rfl, rfl⟩, rfl, rfl, rfl, rfl, rfl, rfl, rfl⟩

theorem modPath (s : State) (c : Nat) {f : PathState → PathState} (hf : (f (s.path c)).peer = (s.path c).peer) :
    AccessOnly keys s (s.modPath c f) := by
  refine ⟨rfl, fun i j k _ => s.obj_modPath c f i j k, fun d => ?_⟩
  by_cases h : d = c
  · rw [h, State.path_modPath_self, hf]
  · rw [State.path_modPath_ne _ _ h]

theorem refuse (s : State) (c i j code : Nat) : AccessOnly keys s (s.refuse c i j code) := modPath s c rfl

theorem emit (s : State) (o : Output) : AccessOnly keys s (s.emit o) := ⟨rfl, fun i j k _ => s.obj_emit o i j k, fun _ => rfl⟩

theorem setObj (s : State) {i j v c : Nat}
    (hk : okey i j c ∈ keys ++ [okey 0x1F90 0x1A 0, okey 0x1F91 0x1A 0, okey 0x9005 1 0, okey 0x9005 2 0]) :
    AccessOnly keys s (s.setObj i j v c) :=
  ⟨rfl, fun _ _ _ hne => s.obj_setObj_ne fun e => hne (by rw [e]; exact hk), fun _ => rfl⟩

/-- A count of an entry that the access may change. -/
theorem bump (s : State) {i j c n : Nat}
    (hk : okey i j c ∈ keys ++ [okey 0x1F90 0x1A 0, okey 0x1F91 0x1A 0, okey 0x9005 1 0, okey 0x9005 2 0]) :
    AccessOnly keys s (s.bump i j c n) := setObj s hk

theorem nearMiss (s : State) : AccessOnly keys s s.nearMiss :=
  trans (t := s.bump 0x9005 1) (bump s (by simp)) (bump _ (by simp))

theorem nearEdge (s : State) (t n : Nat) : AccessOnly keys s (s.nearEdge t n) := by
  unfold State.nearEdge
  split
  · exact nearMiss s
  · exact refl s

theorem answer (s : State) (p code : Nat) (data : List Byte) : AccessOnly keys s (s.answer p code data) := by
  have told := TellsOnly.answer s p code data
  refine ⟨told.rest, fun i j c hk => told.obj i j c ?_ ?_, fun q => by rw [State.path_congr (s.answer_paths p code data)]⟩
  · exact fun e => hk (by simp [e])
  · exact fun e => hk (by simp [e])

/-- The edge of a window, on which an S-object write is inside it (R115, R211). -/
theorem windowEdge (s : State) (p i j : Nat) : AccessOnly keys s (s.windowEdge p i j) := by
  unfold State.windowEdge
  split
  · exact nearEdge s _ _
  · exact refl s

/-- A read latches the fraction of the Time Base, an access of the mailbox the time of its last use (R110, R195). -/
theorem mbTouch (s : State) (p : Nat) : AccessOnly keys s (s.mbTouch p) := by
  unfold State.mbTouch
  split
  · exact (modPath s p (by rfl)).trans (nearEdge _ _ _)
  · exact refl s

end AccessOnly

/-! ## What a path holds after it -/

@[simp] theorem State.path_setObj (s : State) (i j v c q : Nat) : (s.setObj i j v c).path q = s.path q := rfl
@[simp] theorem State.path_bump (s : State) (i j c n q : Nat) : (s.bump i j c n).path q = s.path q := rfl
@[simp] theorem State.path_emit (s : State) (o : Output) (q : Nat) : (s.emit o).path q = s.path q := rfl
@[simp] theorem State.path_nearMiss (s : State) (q : Nat) : s.nearMiss.path q = s.path q := by
  rw [State.nearMiss, State.nearMissIn, State.path_bump, State.path_bump]
@[simp] theorem State.path_journalAdd (s : State) (p i j c st f o n q : Nat) : (s.journalAdd p i j c st f o n).path q = s.path q := rfl

@[simp] theorem State.path_nearEdge (s : State) (t n q : Nat) : (s.nearEdge t n).path q = s.path q := by
  rw [s.nearEdge_eq]; rfl

@[simp] theorem State.path_answer (s : State) (p code : Nat) (data : List Byte) (q : Nat) : (s.answer p code data).path q = s.path q :=
  State.path_congr (s.answer_paths p code data) q

/-- A refusal shows on its path (R108, R111). -/
@[simp] theorem State.path_refuse_self (s : State) (c i j code : Nat) :
    (s.refuse c i j code).path c = (s.path c).noteRefusal i j code := s.path_modPath_self c _

/-! ## Delivery -/

section
variable {p : Path} {s : State}

/-- An access that is delivered acts (R104, R502). -/
theorem deliver_of_delivered (h : Delivered p s) (i : Held) (f : State → State) : s.deliver p.code i f = f s := by
  obtain ⟨hoff, hlive, hholds⟩ := h
  simp [State.deliver, hoff, hlive, hholds]

/-- A write of one object that is delivered is that write. -/
theorem writeRow_of_delivered (h : Delivered p s) (i j n v : Nat) :
    s.writeRow p i j n v = s.dictAccess p.code i j (leBytes n v) := deliver_of_delivered h _ _

/-- A command that writes one object does what that write does. -/
theorem answers_writeRow {c : Instr} {i j n v : Nat} {q : State → Prop} (hexec : exec c s = .next (s.writeRow p i j n v))
    (h : Delivered p s) (hq : q (s.dictAccess p.code i j (leBytes n v))) : Answers c s q :=
  answers_next hexec (by rw [writeRow_of_delivered h]; exact hq)

end

/-! ## What a write tells its path -/

/-- The outcome of a write is told on its path: a refusal is shown in 0x2021, and either is answered (R12, R108). -/
def State.tell (p i j : Nat) (r : Nat × State) : State :=
  (if r.1 ≠ 0 then r.2.refuse p i j r.1 else r.2).answer p r.1 []

theorem acked_tell (p : Path) (i j : Nat) (r : Nat × State) : Acked p r.1 [] (State.tell p.code i j r) := acked_answer p r.1 [] _

theorem AccessOnly.tell {keys : List Nat} (p i j : Nat) (r : Nat × State) : AccessOnly keys r.2 (State.tell p i j r) := by
  refine trans ?_ (answer _ _ _ _)
  split
  · exact refuse _ _ _ _ _
  · exact refl _

/-- The path of a write that is accepted is as the write left it. -/
theorem path_tell_accepted (p i j k : Nat) (t : State) : (State.tell p i j (0, t)).path k = t.path k :=
  State.path_answer _ _ _ _ _

/-- The path of a write that is refused shows the refusal. -/
theorem path_tell_refused (p i j : Nat) {c : Nat} (hc : c ≠ 0) (t : State) :
    (State.tell p i j (c, t)).path p = (t.path p).noteRefusal i j c := by
  rw [State.tell, if_pos hc, State.path_answer, State.path_refuse_self]

end Sys2Proof.Machine
end

section
/-! # Reads (O38): values, clearing reads, latches and the kick (R98, R99, R106, R122, R195, R378, R415) -/

namespace Sys2Proof.Machine

open Sys2Proof

/-! ## What a read does -/

/-- A read of 0x9000:01 latches the fraction of the Time Base on its path (R195). -/
def State.latchFraction (s : State) (p i j : Nat) : State :=
  if i = 0x9000 ∧ j = 1 then s.modPath p fun q => { q with tbFrac := s.clk.tb / 2 ^ 24 % 2 ^ 16 } else s

theorem AccessOnly.latchFraction {keys : List Nat} (s : State) (p i j : Nat) : AccessOnly keys s (s.latchFraction p i j) := by
  unfold State.latchFraction
  split
  · exact modPath s p rfl
  · exact refl s

section
variable {s : State} {p i j : Nat} {whole : Bool} {v : List Byte}

/-- With no transfer open there is no limit to restart (R110). -/
theorem State.mbTouch_closed (h : (s.path p).mailbox = none) : s.mbTouch p = s := by simp [State.mbTouch, h]

/-- A read that is not refused answers its value; an rc entry is cleared, and the fraction latched (R98, R99, R195). -/
theorem State.dictRead_value (hidle : i = 0x2020 → (s.path p).mailbox = none)
    (hpeek : s.peek p i j ((s.path p).channel (rowOf i j).sel) whole = .inr v) :
    s.dictRead p i j whole = (0, v, ((if (rowOf i j).acc = .rc then
      s.clearRead p i j ((s.path p).channel (rowOf i j).sel) else s).latchFraction p i j)) := by
  have htouch : (if i = 0x2020 then s.mbTouch p else s) = s := ite_eq_right_iff.2 fun hi => State.mbTouch_closed (hidle hi)
  simp [State.dictRead, State.latchFraction, htouch, hpeek]

end

/-! ## The form of a read -/

section
variable {p : Path} {s : State} {i j dwords : Nat} {enables : Bool}

/-- A read of another length than the entry's dwords, or with a byte enable clear, is out of the mirror's form (R106, R107). -/
theorem State.mirrorForm_bad (hserve : s.serveCode p.code i = 0) (hexists : existsCode i j = 0) (hp : p.isPcie = true)
    (hdom : (rowOf i j).ty.isDomain = false) (hform : enables = false ∨ 4 * dwords ≠ roundUp (rowOf i j).ty.size 4) :
    s.mirrorForm p i j dwords enables = 0x06070010 := by
  have hbad : ¬(enables = true ∧ 4 * dwords = roundUp (rowOf i j).ty.size 4) := by
    rintro ⟨hen, hlen⟩
    rcases hform with h | h
    · simp [hen] at h
    · exact h hlen
  simp [State.mirrorForm, hserve, hexists, hp, hdom, hbad]

/-- Every other path's read, and a read of whole dwords with every byte enabled, is in form. -/
theorem State.mirrorForm_good (hform : p.isPcie = true → enables = true ∧ 4 * dwords = roundUp (rowOf i j).ty.size 4) :
    s.mirrorForm p i j dwords enables = 0 := by
  unfold State.mirrorForm
  by_cases hp : p.isPcie = true
  · obtain ⟨hen, hlen⟩ := hform hp
    simp [hen, hlen]
  · simp [hp]

/-- A read out of form is refused, every byte of its answer 0xFF (R106 to R108). -/
theorem mirrorRefuse_refuses (p : Path) (i j code n : Nat) (s : State) :
    let t := s.mirrorRefuse p.code i j code n
    Acked p code (List.replicate n 0xFF) t ∧ t.path p.code = (s.path p.code).noteRefusal i j code ∧ AccessOnly [] s t := by
  refine ⟨acked_answer p code _ _, ?_, (AccessOnly.refuse s _ i j code).trans (.answer _ _ _ _)⟩
  exact (State.path_congr (State.answer_paths _ _ _ _) _).trans (s.path_modPath_self _ _)

/-- A read's bytes as they are answered: in the mirror, extended to whole dwords (R106). -/
def readBytes (p : Path) (t : ObjTy) (v : List Byte) : List Byte := if p.isPcie then mirrorData t v else v

/-- A read in form that is not refused answers its bytes. -/
theorem State.readRow_of_dictRead {v : List Byte} {u : State} (h : s.dictRead p.code i j = (0, v, u)) :
    s.readRow p i j = u.answer p.code 0 (readBytes p (rowOf i j).ty v) := by
  unfold State.readRow readBytes
  rw [h]
  cases p.isPcie <;> rfl

end

/-! ## Clearing reads (R99) -/

/-- The rc entries lie beyond the CAN ports' indexes. -/
theorem objTable_rc_high : ∀ r ∈ objTable, r.acc = .rc → 0x1F91 < r.idxLo := by
  decide +kernel

/-- So an rc entry is no counter of withheld answers (R142). -/
theorem okey_rc_ne_withheld {i j c : Nat} (hrc : (rowOf i j).acc = .rc) :
    okey i j c ≠ okey 0x1F90 0x1A 0 ∧ okey i j c ≠ okey 0x1F91 0x1A 0 := by
  obtain ⟨hmem, hlo, -⟩ := rowOf_mem_objTable (i := i) (j := j) (.inl (by simp [hrc]))
  have := objTable_rc_high _ hmem hrc
  unfold okey
  omega

/-- The Time Base's entry is not cleared by its read. -/
theorem rowOf_timeBase : rowOf 0x9000 1 = ⟨0x9000, 0x9000, 0x1, 0x1, .u 64, .ro, false, .wake, .none, .lit 0, .any⟩ := by
  decide +kernel

theorem State.latchFraction_of_rc {i j : Nat} (hrc : (rowOf i j).acc = .rc) (s : State) (p : Nat) : s.latchFraction p i j = s := by
  unfold State.latchFraction
  refine if_neg ?_
  rintro ⟨rfl, rfl⟩
  simp [rowOf_timeBase] at hrc

/-- What a kick counts: the longest time between two, and one on the edge of the watchdog's expiry (R211, R378). -/
def State.kickCounted (s : State) : State :=
  let u := s.raiseMax 0x5100 8 ((s.now - s.recov.kickAt) / 1000)
  match u.recov.watchdog with
  | some t => if t ≤ u.now then u.nearMissIn 0x5100 7 else u
  | none => u

theorem AccessOnly.kickCounted (s : State) : AccessOnly [okey 0x5100 7 0, okey 0x5100 8 0] s s.kickCounted := by
  have hmax (v : Nat) : AccessOnly [okey 0x5100 7 0, okey 0x5100 8 0] s (s.raiseMax 0x5100 8 v) := by
    unfold State.raiseMax
    split
    · exact setObj s (by simp)
    · exact refl s
  unfold State.kickCounted
  refine (hmax ((s.now - s.recov.kickAt) / 1000)).trans ?_
  dsimp only
  split
  · split
    · rw [State.nearMissIn_eq]
      exact (setObj _ (i := 0x9005) (j := 1) (c := 0) (by simp)).trans (setObj _ (by simp))
    · exact refl _
  · exact refl _

theorem State.kick_eq (s : State) : s.kick = { s.kickCounted with recov := { s.kickCounted.recov with
    kickAt := s.kickCounted.now
    watchdog := s.kickCounted.recov.watchdog.map fun _ => s.kickCounted.now + 1000 * s.kickCounted.obj 0x5100 2 } } := rfl

/-- A kick notes when it was and restarts a running watchdog (R378). -/
theorem State.kick_kicks (s : State) :
    s.kick.recov.kickAt = s.now ∧ s.kick.recov.watchdog = s.recov.watchdog.map (fun _ => s.now + 1000 * s.obj 0x5100 2) ∧
    SameObjs [okey 0x5100 7 0, okey 0x5100 8 0] s s.kick ∧ SameMemory s s.kick := by
  have h := AccessOnly.kickCounted s
  rw [s.kick_eq]
  refine ⟨h.now, ?_, h.same, h.sameMemory⟩
  rw [h.now, h.obj 0x5100 2 0 (by decide), h.rest]

end Sys2Proof.Machine

namespace Sys2Proof

open Sys2Proof.Machine

variable {p : Path} {s : Machine.State}

/-! ## Object reads -/

/-- CLEARING_READ on a path that is delivered is the read (R99). -/
theorem answers_clearingRead (h : Delivered p s) {idx : BitVec 16} {sub : Byte} {dwords : Nat} {enables : Bool} {q : Machine.State → Prop}
    (hq : q (s.readOn p idx.toNat sub.toNat dwords enables)) : Answers (.clearingRead p idx ⟨sub, dwords, enables⟩) s q := by
  refine answers_next (t := s.deliver p.code (.read p idx.toNat sub.toNat dwords enables)
    fun s => s.readOn p idx.toNat sub.toNat dwords enables) rfl ?_
  rw [deliver_of_delivered h]
  exact hq

/-- A mirror read out of form is refused with 0x0607_0010 and reads 0xFF (R106 to R108). -/
theorem readOn_badForm (h : Serving p s) {i j dwords : Nat} {enables : Bool} (hp : p.isPcie = true) (hexists : existsCode i j = 0)
    (hdom : (rowOf i j).ty.isDomain = false) (hform : enables = false ∨ 4 * dwords ≠ roundUp (rowOf i j).ty.size 4) :
    let t := s.readOn p i j dwords enables
    Acked p 0x06070010 (List.replicate (4 * dwords) 0xFF) t ∧ t.path p.code = (s.path p.code).noteRefusal i j 0x06070010 ∧
      SameObjs [] s t ∧ t.journal = s.journal ∧ SameMemory s t := by
  have hcode := State.mirrorForm_bad (dwords := dwords) (serveCode_of_serving h i) hexists hp hdom hform
  obtain ⟨hacked, hpath, only⟩ := mirrorRefuse_refuses p i j 0x06070010 (4 * dwords) s
  simp only [State.readOn, hcode, OfNat.ofNat_ne_zero, if_false]
  exact ⟨hacked, hpath, only.same, only.journal, only.sameMemory⟩

section
variable {i j dwords : Nat} {enables : Bool} {v : List Byte} (hi : i ≠ 0x2020)
variable (hpeek : s.peek p.code i j ((s.path p.code).channel (rowOf i j).sel) false = .inr v)
variable (hform : p.isPcie = true → enables = true ∧ 4 * dwords = roundUp (rowOf i j).ty.size 4)
include hi hpeek hform

/-- A read in form answers the entry's value, cleared where it is rc (R98, R99, R106). -/
theorem readOn_value : s.readOn p i j dwords enables = ((if (rowOf i j).acc = .rc then
    s.clearRead p.code i j ((s.path p.code).channel (rowOf i j).sel) else s).latchFraction p.code i j).answer p.code 0
      (readBytes p (rowOf i j).ty v) := by
  simp only [State.readOn, State.mirrorForm_good hform, if_true]
  exact State.readRow_of_dictRead (State.dictRead_value (absurd · hi) hpeek)

/-- A read of an entry that is not rc answers its value and changes nothing else. -/
theorem readOn_plain (hrc : (rowOf i j).acc ≠ .rc) :
    let t := s.readOn p i j dwords enables
    Acked p 0 (readBytes p (rowOf i j).ty v) t ∧ SameObjs [] s t ∧ t.journal = s.journal ∧ SameMemory s t := by
  rw [readOn_value hi hpeek hform, if_neg hrc]
  have only : AccessOnly [] s ((s.latchFraction p.code i j).answer p.code 0 (readBytes p (rowOf i j).ty v)) :=
    (AccessOnly.latchFraction s _ i j).trans (.answer _ _ _ _)
  exact ⟨acked_answer p 0 _ _, only.same, only.journal, only.sameMemory⟩

/-- A read of the refusals' count clears it on its path (R99, R108). -/
theorem readOn_refusals (hrc : (rowOf i j).acc = .rc) (hidx : i = 0x2021) :
    let t := s.readOn p i j dwords enables
    Acked p 0 (readBytes p (rowOf i j).ty v) t ∧ t.path p.code = { s.path p.code with refusals := 0 } ∧ SameObjs [] s t ∧
      SameMemory s t := by
  have hclear (ch : Nat) : s.clearRead p.code i j ch = s.modPath p.code fun q => { q with refusals := 0 } := if_pos hidx
  rw [readOn_value hi hpeek hform, if_pos hrc, State.latchFraction_of_rc hrc, hclear]
  have only : AccessOnly [] s ((s.modPath p.code fun q => { q with refusals := 0 }).answer p.code 0
    (readBytes p (rowOf i j).ty v)) := (AccessOnly.modPath s _ (by rfl)).trans (.answer _ _ _ _)
  refine ⟨acked_answer p 0 _ _, ?_, only.same, only.sameMemory⟩
  rw [State.path_congr (State.answer_paths _ _ _ _), State.path_modPath_self]

/-- A read of any other rc entry but the counter banks' and the kick sets it to its default in the same step (R99). -/
theorem readOn_clears (hrc : (rowOf i j).acc = .rc) (h2021 : i ≠ 0x2021) (h4030 : i ≠ 0x4030) (h5100 : i ≠ 0x5100) :
    let k := chanKey ((s.path p.code).channel (rowOf i j).sel)
    let t := s.readOn p i j dwords enables
    Acked p 0 (readBytes p (rowOf i j).ty v) t ∧ t.obj i j k = objDefault i j k ∧ SameObjs [okey i j k] s t ∧
      t.journal = s.journal ∧ SameMemory s t := by
  intro k
  have hclear : s.clearRead p.code i j ((s.path p.code).channel (rowOf i j).sel) = s.setObj i j (objDefault i j k) k := by
    simp [State.clearRead, State.clearMore, h2021, h4030, h5100, k]
  rw [readOn_value hi hpeek hform, if_pos hrc, State.latchFraction_of_rc hrc, hclear]
  have told := TellsOnly.answer (s.setObj i j (objDefault i j k) k) p.code 0 (readBytes p (rowOf i j).ty v)
  have only : AccessOnly [okey i j k] s ((s.setObj i j (objDefault i j k) k).answer p.code 0 (readBytes p (rowOf i j).ty v)) :=
    (AccessOnly.setObj s (by simp)).trans (.answer _ _ _ _)
  obtain ⟨h0, h1⟩ := okey_rc_ne_withheld (c := k) hrc
  refine ⟨acked_answer p 0 _ _, ?_, only.same, only.journal, only.sameMemory⟩
  exact (told.obj i j k h0 h1).trans (s.obj_setObj_self i j _ k)

end

/-! ## The Time Base and the kick -/

/-- A read of the Time Base answers its whole ns and latches the fraction on its path alone (R195). -/
theorem readRow_timeBase (h : Serving p s) :
    let t := s.readRow p 0x9000 1
    Acked p 0 (leBytes 8 s.nowNs) t ∧ t.path p.code = { s.path p.code with tbFrac := s.clk.tb / 2 ^ 24 % 2 ^ 16 } ∧
      SameObjs [] s t ∧ SameMemory s t := by
  have hpeek (ch : Nat) : s.peek p.code 0x9000 1 ch false = .inr (leBytes 8 s.nowNs) := by
    have hexists : existsCode 0x9000 1 = 0 := by decide +kernel
    have hrow : (objRow? 0x9000 1).isNone = false := by decide +kernel
    have hread (k : Nat) : s.readNat p.code 0x9000 1 k = .inr s.nowNs := by
      unfold State.readNat
      rw [hrow]
      rfl
    simp [State.peek, serveCode_of_serving h, hexists, rowOf_timeBase, ObjTy.isDomain, ObjTy.size, hread]
  have hbytes : readBytes p (rowOf 0x9000 1).ty (leBytes 8 s.nowNs) = leBytes 8 s.nowNs := by
    simp [readBytes, mirrorData, rowOf_timeBase, ObjTy.size, roundUp, leBytes]
  have hlatch : s.latchFraction p.code 0x9000 1 = s.modPath p.code fun q => { q with tbFrac := s.clk.tb / 2 ^ 24 % 2 ^ 16 } :=
    if_pos ⟨rfl, rfl⟩
  have hrc : (rowOf 0x9000 1).acc ≠ .rc := by rw [rowOf_timeBase]; decide
  rw [State.readRow_of_dictRead (State.dictRead_value (absurd · (by decide)) (hpeek _)), if_neg hrc, hlatch, hbytes]
  have only : AccessOnly [] s ((s.modPath p.code fun q => { q with tbFrac := s.clk.tb / 2 ^ 24 % 2 ^ 16 }).answer p.code 0
    (leBytes 8 s.nowNs)) := (AccessOnly.modPath s _ (by rfl)).trans (.answer _ _ _ _)
  refine ⟨acked_answer p 0 _ _, ?_, only.same, only.sameMemory⟩
  rw [State.path_congr (State.answer_paths _ _ _ _), State.path_modPath_self]

/-- A read of 0x5100:01 answers the ms since the last kick, and is a kick (R378). -/
theorem readRow_kick (h : Serving p s) :
    let t := s.readRow p 0x5100 1
    Acked p 0 (leBytes 4 ((s.now - s.recov.kickAt) / 1000 % 2 ^ 32)) t ∧ t.recov.kickAt = s.now ∧
      t.recov.watchdog = s.recov.watchdog.map (fun _ => s.now + 1000 * s.obj 0x5100 2) ∧
      SameObjs [okey 0x5100 7 0, okey 0x5100 8 0] s t ∧ SameMemory s t := by
  have hrow : rowOf 0x5100 1 = ⟨0x5100, 0x5100, 0x1, 0x1, .u 32, .rc, false, .wake, .none, .lit 0, .any⟩ := by decide +kernel
  have hpeek (ch : Nat) : s.peek p.code 0x5100 1 ch false = .inr (leBytes 4 ((s.now - s.recov.kickAt) / 1000 % 2 ^ 32)) := by
    have hexists : existsCode 0x5100 1 = 0 := by decide +kernel
    have hsome : (objRow? 0x5100 1).isNone = false := by decide +kernel
    have hread (k : Nat) : s.readNat p.code 0x5100 1 k = .inr ((s.now - s.recov.kickAt) / 1000 % 2 ^ 32) := by
      unfold State.readNat
      rw [hsome]
      rfl
    simp [State.peek, serveCode_of_serving h, hexists, hrow, ObjTy.isDomain, ObjTy.size, hread]
  have hbytes (w : Nat) : readBytes p (rowOf 0x5100 1).ty (leBytes 4 w) = leBytes 4 w := by
    simp [readBytes, mirrorData, hrow, ObjTy.size, roundUp, leBytes]
  have hrc : (rowOf 0x5100 1).acc = .rc := by rw [hrow]
  have hclear (ch : Nat) : s.clearRead p.code 0x5100 1 ch = s.kick := rfl
  rw [State.readRow_of_dictRead (State.dictRead_value (absurd · (by decide)) (hpeek _)), if_pos hrc, State.latchFraction_of_rc hrc, hclear, hbytes]
  have only := AccessOnly.answer (keys := [okey 0x5100 7 0, okey 0x5100 8 0]) s.kick p.code 0
    (leBytes 4 ((s.now - s.recov.kickAt) / 1000 % 2 ^ 32))
  obtain ⟨hat, hdog, hobjs, hmem⟩ := s.kick_kicks
  refine ⟨acked_answer p 0 _ _, ?_, ?_, fun i j c hk => (only.same i j c hk).trans (hobjs i j c hk), ?_⟩
  · rw [only.rest]; exact hat
  · rw [only.rest]; exact hdog
  · exact sameMemory_trans hmem only.sameMemory

/-! ## The latches -/

/-- The rows of the read index of the journal and of the sample buffer. -/
theorem rowOf_journalIndex : rowOf 0x2600 3 = ⟨0x2600, 0x2600, 0x3, 0x3, .u 8, .rw, false, .path, .none, .lit 0, .any⟩ := by
  decide +kernel

theorem rowOf_sampleIndex :
    rowOf 0x7040 7 = ⟨0x7040, 0x7040, 0x7, 0x7, .u 16, .rw, false, .path, .none, .lit 0, .range 0 511⟩ := by
  decide +kernel

/-- A path-local write that is judged in order is set on its path and answered with 0, or refused with the code of its entry
(R119, R122). -/
theorem dictAccess_local (h : Serving p s) {i j : Nat} {data : List Byte} (hi : i ≠ 0x2020) (hkey : ¬(i = 0x2010 ∧ j = 1))
    (hreq : ¬(i = 0xB000 ∧ j = 1)) (hplain : (rowOf i j).sObj = false) (hcls : (rowOf i j).cls = .path)
    (hdom : (rowOf i j).ty.isDomain = false)
    (hjudge : s.judge p.code i j ((s.path p.code).channel (rowOf i j).sel) data false false = 0) :
    s.dictAccess p.code i j data = if s.localCode p.code i j (leVal data) = 0 then
      (s.writeLocal p.code i j (leVal data)).answer p.code 0 []
    else (s.refuse p.code i j (s.localCode p.code i j (leVal data))).answer p.code (s.localCode p.code i j (leVal data)) [] := by
  obtain ⟨⟨-, hlive, -⟩, -, -, -, -, harmed⟩ := h
  have hcommit (ch : Nat) : s.commitWrite p.code i j ch data false true =
      if s.localCode p.code i j (leVal data) ≠ 0 then (s.localCode p.code i j (leVal data), s)
      else (0, s.writeLocal p.code i j (leVal data)) := by
    simp [State.commitWrite, hkey, hreq, hcls, hdom]
  have hattic : (rowOf i j).cls ≠ .attic := by rw [hcls]; decide
  rw [State.dictAccess_object hlive hi, State.dictWrite_of_unarmed harmed hi, hjudge, State.windowEdge_of_not_sObj hplain, hcommit]
  by_cases hcode : s.localCode p.code i j (leVal data) = 0 <;> simp [hcode, hattic]

/-- A write of a latch's index that is set: the path alone has changed. -/
theorem writeLocal_answered (i j v : Nat) :
    let t := (s.writeLocal p.code i j v).answer p.code 0 []
    Acked p 0 [] t ∧ t.path p.code = (s.writeLocal p.code i j v).path p.code ∧ t.journal = s.journal ∧ t.smp = s.smp ∧
      SameObjs [] s t ∧ SameMemory s t := by
  have told : TellsOnly s ((s.writeLocal p.code i j v).answer p.code 0 []) :=
    (TellsOnly.modPath s p.code _).trans (.answer _ _ _ _)
  refine ⟨acked_answer p 0 _ _, State.path_congr (State.answer_paths _ _ _ _) _, told.journal, by rw [told.rest],
    fun i j c hk => told.obj i j c ?_ ?_, told.sameMemory⟩
  · exact fun e => hk (by simp [e])
  · exact fun e => hk (by simp [e])

/-- A journal index that names an entry latches it on the path, and another is refused with 0x0800_0024 (R122). -/
theorem journalLatch_latches (h : Serving p s) (k : Byte) :
    (k.toNat < s.journal.entries.length → Answers (.journalLatch p k) s (fun t => Acked p 0 [] t ∧
      t.path p.code = { s.path p.code with jIndex := k.toNat, jLatch := s.journal.entries[k.toNat]? } ∧
      t.journal = s.journal ∧ SameObjs [] s t ∧ SameMemory s t)) ∧
    (s.journal.entries.length ≤ k.toNat → Answers (.journalLatch p k) s (Refuses p 0x2600 3 0x08000024 s)) := by
  have hval := leVal_leBytes_one k.toNat k.isLt
  have hjudge (ch : Nat) : s.judge p.code 0x2600 3 ch (leBytes 1 k.toNat) false false = 0 := by
    rw [judge_of_serving h, State.firstRefusal, rowOf_journalIndex, if_neg (by decide +kernel), if_neg (by decide +kernel)]
    simp [ObjTy.isDomain, ObjTy.size, leBytes, ObjRow.admits, State.chapterCheck]
  have haccess := dictAccess_local h (by decide) (by decide) (by decide) (by rw [rowOf_journalIndex]) (by rw [rowOf_journalIndex])
    (by rw [rowOf_journalIndex]; rfl) (hjudge _)
  rw [hval] at haccess
  refine ⟨fun hlt => answers_writeRow rfl h.1 ?_, fun hle => answers_writeRow rfl h.1 ?_⟩
  · have hcode : s.localCode p.code 0x2600 3 k.toNat = 0 := by simp [State.localCode]; omega
    rw [haccess, if_pos hcode]
    obtain ⟨hacked, hpath, hjournal, -, hobjs, hmem⟩ := writeLocal_answered (p := p) (s := s) 0x2600 3 k.toNat
    exact ⟨hacked, hpath.trans (s.path_modPath_self _ _), hjournal, hobjs, hmem⟩
  · have hcode : s.localCode p.code 0x2600 3 k.toNat = 0x08000024 := by simp [State.localCode, hle]
    rw [haccess, hcode, if_neg (by decide)]
    exact refuses_refuse_answer p _ _ _ s

/-- A sample index up to 511 latches the record there on the path, and another is out of range (R415). -/
theorem sampleRecordLatch_latches (h : Serving p s) (k : BitVec 16) :
    (511 < k.toNat → Answers (.sampleRecordLatch p k) s (Refuses p 0x7040 7 0x06090030 s)) ∧
    (k.toNat ≤ 511 → Answers (.sampleRecordLatch p k) s (fun t => Acked p 0 [] t ∧
      t.path p.code = { s.path p.code with smpIndex := k.toNat, smpLatch := s.smp.records.getD k.toNat [] } ∧
      t.smp = s.smp ∧ SameObjs [] s t ∧ SameMemory s t)) := by
  have hval := leVal_leBytes_two k.toNat k.isLt
  have hlen : (leBytes 2 k.toNat).length = 2 := rfl
  have hcode (ch : Nat) : s.firstRefusal p.code 0x7040 7 ch (leBytes 2 k.toNat) = if 511 < k.toNat then 0x06090030 else 0 := by
    rw [State.firstRefusal, rowOf_sampleIndex, if_neg (by decide +kernel), if_neg (by decide +kernel)]
    simp [ObjTy.isDomain, ObjTy.size, hlen, ObjRow.admits, State.chapterCheck, hval]
  refine ⟨fun hgt => answers_writeRow rfl h.1 ?_, fun hle => answers_writeRow rfl h.1 ?_⟩
  · have hbad : s.firstRefusal p.code 0x7040 7 ((s.path p.code).channel (rowOf 0x7040 7).sel) (leBytes 2 k.toNat) = 0x06090030 := by
      rw [hcode, if_pos hgt]
    exact hbad ▸ dictAccess_refuses h (by decide) rfl (by rw [hbad]; decide)
  · have hjudge (ch : Nat) : s.judge p.code 0x7040 7 ch (leBytes 2 k.toNat) false false = 0 := by
      rw [judge_of_serving h, hcode, if_neg (by omega)]
    rw [dictAccess_local h (by decide) (by decide) (by decide) (by rw [rowOf_sampleIndex]) (by rw [rowOf_sampleIndex])
      (by rw [rowOf_sampleIndex]; rfl) (hjudge _), hval, if_pos (by simp [State.localCode])]
    obtain ⟨hacked, hpath, -, hsmp, hobjs, hmem⟩ := writeLocal_answered (p := p) (s := s) 0x7040 7 k.toNat
    exact ⟨hacked, hpath.trans (s.path_modPath_self _ _), hsmp, hobjs, hmem⟩

/-- Settles O38: a read out of form is refused, one in form answers its value as `readOn_value` says, cleared where the entry is rc;
the Time Base, the kick and the two latches each by their own lemma. -/
theorem readsAnswerAndClear : Obligations.ReadsAnswerAndClear := by
  unfold Obligations.ReadsAnswerAndClear
  refine ⟨?_, ?_, fun p s h => ?_, fun p s h => ?_, fun p k s h => journalLatch_latches h k, fun p k s h => sampleRecordLatch_latches h k⟩
  · intro p idx sub dwords enables s i j r h hp hexists hdom hform
    exact answers_clearingRead h.1 (readOn_badForm h hp hexists hdom hform)
  · intro p idx sub dwords enables v s i j r ch extension b h hi hpeek hform
    exact ⟨fun hrc => answers_clearingRead h.1 (readOn_plain hi hpeek hform hrc),
      fun hrc hidx => answers_clearingRead h.1 (readOn_refusals hi hpeek hform hrc hidx),
      fun hrc h1 h2 h3 => answers_clearingRead h.1 (readOn_clears hi hpeek hform hrc h1 h2 h3)⟩
  · exact answers_next (t := s.deliver p.code (.read p 0x9000 1 2 true) fun s => s.readRow p 0x9000 1) rfl
      (by rw [deliver_of_delivered h.1]; exact readRow_timeBase h)
  · exact answers_next (t := s.deliver p.code (.read p 0x5100 1 1 true) fun s => s.readRow p 0x5100 1) rfl
      (by rw [deliver_of_delivered h.1]; exact readRow_kick h)

end Sys2Proof
end

section
/-! # The unlock sequence and sealed records (O39): R112 to R118, R120 -/

namespace Sys2Proof.Machine

open Sys2Proof

/-! ## A key on its way to the lock -/

/-- The row of the unlock key. -/
theorem rowOf_unlockKey : rowOf 0x2010 1 = ⟨0x2010, 0x2010, 0x1, 0x1, .u 16, .wo, false, .fixed, .none, .lit 0, .any⟩ := by
  decide +kernel

section
variable {s : State} {p : Nat} (hserve : s.serveCode p 0x2010 = 0)
include hserve

/-- A key of two bytes is in form. -/
theorem State.formCode_key (v : Nat) : s.formCode p 0x2010 1 (leBytes 2 v) false = 0 := by
  have hlen : (leBytes 2 v).length = 2 := rfl
  rw [State.formCode_direct hserve, rowOf_unlockKey, if_neg (by decide +kernel), if_neg (by decide +kernel)]
  simp [ObjTy.isDomain, ObjTy.size, hlen]

/-- A key that its path serves is judged by the lock alone (R115). -/
theorem State.judge_key (v ch : Nat) : s.judge p 0x2010 1 ch (leBytes 2 v) false false = 0 := by
  have hsafety : s.safetyCode p 0x2010 1 false = 0 := by simp [State.safetyCode, rowOf_unlockKey]
  have hcheck (n : Nat) : s.chapterCheck p 0x2010 1 (chanKey ch) n = 0 := by simp [State.chapterCheck]
  simp [State.judge, State.formCode_key hserve, hsafety, rowOf_unlockKey, ObjTy.isDomain, ObjRow.admits, hcheck]

/-- What the lock makes of a key is told on the key's path. -/
theorem State.dictAccess_key {v : Nat} (hlive : s.live p = true) (hv : v < 2 ^ 16) :
    s.dictAccess p 0x2010 1 (leBytes 2 v) = State.tell p 0x2010 1 (s.unlockKey p v) := by
  have hplain : (rowOf 0x2010 1).sObj = false := by rw [rowOf_unlockKey]
  have hattic : (rowOf 0x2010 1).cls ≠ .attic := by rw [rowOf_unlockKey]; decide
  have hcommit (ch : Nat) : s.commitWrite p 0x2010 1 ch (leBytes 2 v) false true = s.unlockKey p v := by
    simp [State.commitWrite, leVal_leBytes_two v hv]
  rw [State.dictAccess_object hlive (by decide)]
  simp only [State.dictWrite, State.formCode_key hserve, decide_true, Bool.and_self, if_true, Nat.reduceEqDiff,
    if_false, State.judge_key hserve, bne_self_eq_false, Bool.false_eq_true, State.windowEdge_of_not_sObj hplain, hcommit, bne_iff_ne]
  by_cases hc : (s.unlockKey p v).1 = 0 <;> simp [hc, hattic, State.tell]

end

/-! ## What the lock makes of it (R114, R115) -/

/-- Whether the lock takes keys in a state (R114). -/
def Mode.unlocks (m : Mode) : Prop := m = .parked ∨ m = .bench ∨ m = .safe

section
variable {s : State} {p v : Nat}

/-- In any other state a key is refused with the state's code. -/
theorem State.unlockKey_elsewhere (h : ¬s.pw.mode.unlocks) : s.unlockKey p v = (0x08000022, s.failKey p) := by
  simp only [Mode.unlocks, not_or] at h
  simp [State.unlockKey, h]

/-- With no sequence armed, the first key arms one. -/
theorem State.unlockKey_unarmed (h : s.pw.mode.unlocks) (harmed : (s.path p).armed = none) : s.unlockKey p v =
    if v = 0x5A1D then (0, (s.modPath p fun q => { q with armed := some s.now }).journalAdd p 0x2010 1 0xFFFF s.pw.mode.code 0 0 v)
    else (0x06090030, s.failKey p) := by
  rcases h with h | h | h <;> simp [State.unlockKey, h, harmed]

/-- The window opens on a path by its second key; the last instant of the 64 ticks is a near-miss (R115, R211). -/
def State.keyOpens (s : State) (p a : Nat) : State :=
  let u := (s.modPath p fun q => { q with armed := none, opened := some s.now }).bump 0x2010 5
  if s.now = a + 64 then u.nearMiss else u

/-- With a sequence armed, the second key in time opens the window. -/
theorem State.unlockKey_armed {a : Nat} (h : s.pw.mode.unlocks) (harmed : (s.path p).armed = some a) : s.unlockKey p v =
    if v = 0xE2C7 ∧ s.now ≤ a + 64 then
      (0, (s.keyOpens p a).journalAdd p 0x2010 1 0xFFFF (s.keyOpens p a).pw.mode.code 0 0 v)
    else (0x06090030, s.failKey p) := by
  have hstate : (s.pw.mode != .parked && s.pw.mode != .bench && s.pw.mode != .safe) = false := by
    rcases h with h | h | h <;> simp [h]
  unfold State.unlockKey State.keyOpens
  rw [hstate, harmed]
  by_cases hkey : v = 0xE2C7 ∧ s.now ≤ a + 64
  · simp [hkey]
  · simp [hkey]

end

/-! ## What opening and failing change -/

theorem objBits_opened : objBits 0x2010 5 = 32 := by decide +kernel
theorem objBits_failed : objBits 0x2010 6 = 32 := by decide +kernel

theorem AccessOnly.failKey (s : State) (p : Nat) : AccessOnly [okey 0x2010 6 0] s (s.failKey p) :=
  (modPath s p (by rfl)).trans (bump _ (by simp))

/-- A failed key ends the sequence of its path and counts in 0x2010:06 (R115). -/
theorem State.failKey_fails (s : State) (p : Nat) :
    (s.failKey p).path p = { s.path p with armed := none } ∧ (s.failKey p).obj 0x2010 6 = (s.obj 0x2010 6 + 1) % 2 ^ 32 := by
  refine ⟨by rw [State.failKey, State.path_bump, State.path_modPath_self], ?_⟩
  rw [State.failKey, State.obj_bump_self, objBits_failed, State.obj_modPath]

/-- The end of an armed sequence counts in 0x2010:06; with none armed nothing ends (R115). -/
theorem AccessOnly.endSequence (s : State) (p : Nat) : AccessOnly [okey 0x2010 6 0] s (s.endSequence p) := by
  unfold State.endSequence
  split
  · exact failKey s p
  · exact refl s

theorem State.path_endSequence (s : State) (p : Nat) : (s.endSequence p).path p = { s.path p with armed := none } := by
  by_cases h : (s.path p).armed.isSome = true
  · rw [State.endSequence, if_pos h, State.path_bump, State.path_modPath_self]
  · rw [State.endSequence, if_neg h]
    have hnone : (s.path p).armed = none := by simpa using h
    rw [← hnone]

theorem AccessOnly.keyOpens (s : State) (p a : Nat) : AccessOnly [okey 0x2010 5 0] s (s.keyOpens p a) := by
  unfold State.keyOpens
  extract_lets u
  have hopen : AccessOnly [okey 0x2010 5 0] s u := (modPath s p (by rfl)).trans (bump _ (by simp))
  split
  · exact hopen.trans (nearMiss u)
  · exact hopen

/-- The second key opens its path's window and counts in 0x2010:05 (R115). -/
theorem State.keyOpens_opens (s : State) (p a : Nat) :
    (s.keyOpens p a).path p = { s.path p with armed := none, opened := some s.now } ∧
    (s.keyOpens p a).obj 0x2010 5 = (s.obj 0x2010 5 + 1) % 2 ^ 32 := by
  unfold State.keyOpens
  extract_lets u
  have hpath : u.path p = { s.path p with armed := none, opened := some s.now } := by
    rw [State.path_bump, State.path_modPath_self]
  have hcount : u.obj 0x2010 5 = (s.obj 0x2010 5 + 1) % 2 ^ 32 := by
    rw [State.obj_bump_self, objBits_opened, State.obj_modPath]
  split
  · exact ⟨(u.path_nearMiss p).trans hpath, ((AccessOnly.nearMiss (keys := []) u).obj 0x2010 5 0 (by decide)).trans hcount⟩
  · exact ⟨hpath, hcount⟩

/-- The window opens on a path by a record: an armed sequence ends, and it counts in 0x2010:05 (R117). -/
theorem State.openByRecord_opens (s : State) (p : Nat) :
    (s.openByRecord p).path p = { s.path p with armed := none, opened := some s.now } ∧
    (s.openByRecord p).obj 0x2010 5 = (s.obj 0x2010 5 + 1) % 2 ^ 32 ∧ (s.openByRecord p).attic = s.attic ∧
    (s.openByRecord p).pw = s.pw ∧ (s.openByRecord p).out = s.out ∧ SameMemory s (s.openByRecord p) := by
  have hended := AccessOnly.endSequence s p
  have hall : AccessOnly [okey 0x2010 5 0, okey 0x2010 6 0] s (s.openByRecord p) :=
    (hended.mono (by simp)).trans ((AccessOnly.modPath _ p (by rfl)).trans (AccessOnly.bump _ (by simp)))
  have hout : (s.endSequence p).out = s.out := by
    unfold State.endSequence
    split <;> rfl
  refine ⟨?_, ?_, hall.attic, hall.pw, hout, hall.sameMemory⟩
  · rw [State.openByRecord, State.path_bump, State.path_modPath_self, s.path_endSequence]
  · rw [State.openByRecord, State.obj_bump_self, objBits_opened, State.obj_modPath, hended.obj 0x2010 5 0 (by decide)]

/-! ## What is told of it -/

/-- An accepted key, told on its path: journaled, and answered with 0 (R115, R120). -/
theorem keyAccepted_told {keys : List Nat} {s u : State} (p : Path) (v : Nat) (h : AccessOnly keys s u) :
    let t := State.tell p.code 0x2010 1 (0, u.journalAdd p.code 0x2010 1 0xFFFF u.pw.mode.code 0 0 v)
    Acked p 0 [] t ∧ t.path p.code = u.path p.code ∧ t.obj 0x2010 5 = u.obj 0x2010 5 ∧
      Journaled p.code 0x2010 1 0xFFFF 0 v s t ∧ SameObjs keys s t ∧ SameMemory s t := by
  have told := AccessOnly.tell (keys := []) p.code 0x2010 1 (0, u.journalAdd p.code 0x2010 1 0xFFFF u.pw.mode.code 0 0 v)
  refine ⟨acked_tell p _ _ _, by rw [path_tell_accepted, State.path_journalAdd], told.obj 0x2010 5 0 (by decide), ?_,
    fun i j c hk => ((told.mono (by simp)).same i j c hk).trans (h.same i j c hk), sameMemory_trans h.sameMemory told.sameMemory⟩
  unfold Journaled
  rw [told.journal, ← h.pw, ← h.journal]
  exact ⟨_, List.mem_cons_self, rfl, rfl, rfl, rfl, rfl, rfl, rfl, rfl⟩

/-- A refused key or record with wrong keys, told on its path: shown, the sequence ended, and counted (R115, R117). -/
theorem keyFailed_told (p : Path) (s : State) (j : Nat) {code : Nat} (hcode : code ≠ 0) :
    let t := State.tell p.code 0x2010 j (code, s.failKey p.code)
    Acked p code [] t ∧ t.path p.code = { (s.path p.code).noteRefusal 0x2010 j code with armed := none } ∧
      t.obj 0x2010 6 = (s.obj 0x2010 6 + 1) % 2 ^ 32 ∧ AccessOnly [okey 0x2010 6 0] s t := by
  obtain ⟨hpath, hcount⟩ := s.failKey_fails p.code
  have told := AccessOnly.tell (keys := []) p.code 0x2010 j (code, s.failKey p.code)
  refine ⟨acked_tell p _ _ _, ?_, (told.obj 0x2010 6 0 (by decide)).trans hcount, (AccessOnly.failKey s p.code).trans (told.mono (by simp))⟩
  rw [path_tell_refused _ _ _ hcode, hpath]
  rfl

end Sys2Proof.Machine

namespace Sys2Proof

open Sys2Proof.Machine

variable {p : Path} {s : Machine.State}

section
variable (h : Delivered p s) (hserve : s.serveCode p.code 0x2010 = 0)
include h hserve

/-- The first key where a sequence may be armed: it arms the path and is journaled (R115, R120). -/
theorem firstKey_arms (hmode : s.pw.mode.unlocks) (harmed : (s.path p.code).armed = none) :
    Answers (.unlockFirstKey p) s (fun t => Acked p 0 [] t ∧ t.path p.code = { s.path p.code with armed := some s.now } ∧
      Journaled p.code 0x2010 1 0xFFFF 0 0x5A1D s t ∧ SameObjs [] s t ∧ SameMemory s t) := by
  refine answers_writeRow rfl h ?_
  rw [State.dictAccess_key hserve h.2.1 (by decide), State.unlockKey_unarmed hmode harmed, if_pos rfl]
  obtain ⟨hacked, hpath, -, hjournaled, hobjs, hmem⟩ := keyAccepted_told p 0x5A1D
    (AccessOnly.modPath (keys := []) s p.code (f := fun q => { q with armed := some s.now }) rfl)
  exact ⟨hacked, hpath.trans (s.path_modPath_self _ _), hjournaled, hobjs, hmem⟩

/-- The second key within 64 ticks opens the window and is journaled (R115, R120). -/
theorem secondKey_opens {a : Nat} (hmode : s.pw.mode.unlocks) (harmed : (s.path p.code).armed = some a) (htime : s.now ≤ a + 64) :
    Answers (.unlockSecondKey p) s (fun t => Acked p 0 [] t ∧
      t.path p.code = { s.path p.code with armed := none, opened := some s.now } ∧
      t.obj 0x2010 5 = (s.obj 0x2010 5 + 1) % 2 ^ 32 ∧ Journaled p.code 0x2010 1 0xFFFF 0 0xE2C7 s t ∧
      SameObjs [okey 0x2010 5 0] s t ∧ SameMemory s t) := by
  refine answers_writeRow rfl h ?_
  rw [State.dictAccess_key hserve h.2.1 (by decide), State.unlockKey_armed hmode harmed, if_pos ⟨rfl, htime⟩]
  obtain ⟨hpath, hcount⟩ := s.keyOpens_opens p.code a
  obtain ⟨hacked, hpath', hcount', hjournaled, hobjs, hmem⟩ := keyAccepted_told p 0xE2C7 (AccessOnly.keyOpens s p.code a)
  exact ⟨hacked, hpath'.trans hpath, hcount'.trans hcount, hjournaled, hobjs, hmem⟩

/-- Any other key is refused, ends the sequence and counts in 0x2010:06 (R114, R115). -/
theorem key_fails {c : Instr} {v code : Nat} (hexec : exec c s = .next (s.writeRow p 0x2010 1 2 v)) (hv : v < 2 ^ 16)
    (hcode : code ≠ 0) (hkey : s.unlockKey p.code v = (code, s.failKey p.code)) :
    Answers c s (fun t => Acked p code [] t ∧
      t.path p.code = { (s.path p.code).noteRefusal 0x2010 1 code with armed := none } ∧
      t.obj 0x2010 6 = (s.obj 0x2010 6 + 1) % 2 ^ 32 ∧ t.journal = s.journal ∧ SameObjs [okey 0x2010 6 0] s t ∧ SameMemory s t) := by
  refine answers_writeRow hexec h ?_
  rw [State.dictAccess_key hserve h.2.1 hv, hkey]
  obtain ⟨hacked, hpath, hcount, only⟩ := keyFailed_told p s 1 hcode
  exact ⟨hacked, hpath, hcount, only.journal, only.same, only.sameMemory⟩

end

/-! ## Sealed records (R117) -/

section
variable {rec : List Byte} (h : Delivered p s) (hserve : s.serveCode p.code 0x2010 = 0)
variable (hmode : s.pw.mode = .parked ∨ s.pw.mode = .bench) (hlen : rec.length = 24)

include hserve hmode hlen in
/-- A record with wrong keys is refused and counts like a wrong key. -/
theorem sealedRecord_wrongKeys (answers : Bool) (hkeys : field rec 0 2 ≠ 0x5A1D ∨ field rec 2 2 ≠ 0xE2C7) :
    s.sealedRecord p.code rec answers = (0x06090030, s.failKey p.code) := by
  have hstate : (s.pw.mode != .parked && s.pw.mode != .bench && s.pw.mode != .safe) = false := by
    rcases hmode with h | h <;> simp [h]
  simp [State.sealedRecord, hserve, hstate, hlen, hkeys]

/-- A value that is judged in order is in form as a whole value too (R117). -/
theorem formCode_whole_of_judge {i j ch : Nat} {data : List Byte} (hjudge : s.judge p.code i j ch data false true = 0) :
    s.formCode p.code i j data true = 0 ∧ s.serveCode p.code i = 0 := by
  have hdom := State.not_isDomain_of_judge hjudge
  have hform : s.formCode p.code i j data false = 0 := by
    by_contra hne
    simp [State.judge, hne] at hjudge
  refine ⟨?_, ?_⟩
  · rw [← hform]
    cases hty : (rowOf i j).ty with
    | domain n => simp [hty, ObjTy.isDomain] at hdom
    | _ => simp [State.formCode, hty]
  · by_contra hne
    simp [State.formCode, hne] at hform

include hserve hmode hlen in
/-- A well-formed record whose write is accepted is that write, in its window (R117). -/
theorem sealedRecord_named (answers : Bool) (hkey1 : field rec 0 2 = 0x5A1D) (hkey2 : field rec 2 2 = 0xE2C7)
    (hzero : field rec 10 6 = 0) (hlow : 1 ≤ field rec 7 1) (hhigh : field rec 7 1 ≤ 8)
    (hjudge : s.judge p.code (field rec 4 2) (field rec 6 1) (field rec 8 2) (slice rec 16 (field rec 7 1)) false true = 0)
    (hfits : channelFits (rowOf (field rec 4 2) (field rec 6 1)).sel (field rec 8 2) = true) (hlock : field rec 4 2 ≠ 0x2010) :
    s.sealedRecord p.code rec answers = s.commitInWindow p.code (field rec 4 2) (field rec 6 1) (field rec 8 2)
      (slice rec 16 (field rec 7 1)) answers := by
  have hstate : (s.pw.mode != .parked && s.pw.mode != .bench && s.pw.mode != .safe) = false := by
    rcases hmode with h | h <;> simp [h]
  have hsafe : s.pw.mode ≠ .safe := by rcases hmode with h | h <;> simp [h]
  have hsome : field rec 7 1 ≠ 0 := by omega
  obtain ⟨hform, hserved⟩ := formCode_whole_of_judge hjudge
  simp [State.sealedRecord, hserve, hstate, hlen, hkey1, hkey2, hzero, hhigh, hform, hserved, hfits, hlock, hsafe, hsome, hjudge]

/-- The write of an attic entry by a record opens the window and joins the attic's queue, marked as by record (R101, R117). -/
theorem commitInWindow_attic {i j ch : Nat} {data : List Byte} {answers : Bool} (hkey : i ≠ 0x2010) (hreq : i ≠ 0xB000)
    (hcal : i ≠ 0x8000) (hcls : (rowOf i j).cls = .attic) :
    let u := s.openByRecord p.code
    s.commitInWindow p.code i j ch data answers = (0, { u with attic := { u.attic with
      queue := u.attic.queue ++ [AtticWrite.mk p.code i j ch data u.pw.mode.code true answers] } }) := by
  have hcommit (u : Machine.State) := State.commitWrite_attic (s := u) (p := p.code) (data := data) (ch := ch) (byRecord := true)
    (answers := answers) (fun e => hkey e.1) (fun e => hreq e.1) hcls hcal
  simp only [State.commitInWindow, hcommit, bne_self_eq_false, Bool.false_eq_true, if_false]

end

/-- A record that is refused is told on its path, as a write of 0x2010:02 (R108, R117). -/
theorem sealedRow_refused {rec : List Byte} {code : Nat} {u : Machine.State}
    (hrecord : s.sealedRecord p.code rec true = (code, u)) (hcode : code ≠ 0) :
    s.sealedRow p.code rec = State.tell p.code 0x2010 2 (code, u) := by
  simp [State.sealedRow, State.tell, hrecord, hcode]

/-- A record whose write waits for the attic is not answered yet (R101). -/
theorem sealedRow_attic {rec : List Byte} {u : Machine.State} (hrecord : s.sealedRecord p.code rec true = (0, u))
    (hcls : (rowOf (field rec 4 2) (field rec 6 1)).cls = .attic) : s.sealedRow p.code rec = u := by
  simp [State.sealedRow, hrecord, hcls]

/-- A staged download expires: it is discarded, and its path shows the code (R118). -/
def stagedExpires (s : Machine.State) (c : Nat) (g : Staged) : Machine.State :=
  (s.modPath c fun q => { q with staged := none }).refuse c g.idx g.sub 0x05040000

/-- SEALED_WRITE on a path that is delivered is the record (R117). -/
theorem answers_sealedWrite (h : Delivered p s) {rec : List Byte} {q : Machine.State → Prop} (hq : q (s.sealedRow p.code rec)) :
    Answers (.sealedWrite p rec) s q := by
  refine answers_next (t := s.deliver p.code (.record p rec) fun s => s.sealedRow p.code rec) rfl ?_
  rw [deliver_of_delivered h]
  exact hq

/-- Settles O39: a key is what `State.unlockKey` makes of it, a record with wrong keys fails like a wrong key, and one whose write of
an attic entry is accepted commits in its window. -/
theorem unlockNeedsBothKeysInTime : Obligations.UnlockNeedsBothKeysInTime := by
  unfold Obligations.UnlockNeedsBothKeysInTime
  refine ⟨?_, ?_, ?_, ?_⟩
  · intro p s h hserve key1 key2 failed none_
    have first := fun {code : Nat} => key_fails h hserve (c := .unlockFirstKey p) (v := 0x5A1D) (code := code) rfl (by decide)
    have second := fun {code : Nat} => key_fails h hserve (c := .unlockSecondKey p) (v := 0xE2C7) (code := code) rfl (by decide)
    refine ⟨fun hmode => ⟨fun harmed => ⟨firstKey_arms h hserve hmode harmed, ?_⟩, fun a harmed => ⟨?_, ?_, ?_⟩⟩, fun h1 h2 h3 => ?_⟩
    · exact second (by decide) (by rw [State.unlockKey_unarmed hmode harmed, if_neg (by decide)])
    · exact first (by decide) (by rw [State.unlockKey_armed hmode harmed, if_neg (by simp)])
    · exact secondKey_opens h hserve hmode harmed
    · intro hlate
      exact second (by decide) (by rw [State.unlockKey_armed hmode harmed, if_neg (by omega)])
    · have helse := fun v => State.unlockKey_elsewhere (p := p.code) (v := v) (s := s) (by simp [Mode.unlocks, h1, h2, h3])
      exact ⟨first (by decide) (helse _), second (by decide) (helse _)⟩
  · intro p s hlive
    exact answers_next (t := if s.live p.code then s.modPath p.code fun q => { q with opened := none } else s) rfl (if_pos hlive)
  · intro p g s hstaged
    refine answers_next (t := stagedExpires s p.code g) ?_ ⟨rfl, rfl, rfl, rfl, ?_⟩
    · have hexec : exec (.stagedDownloadTimeout p) s = execStagedDownloadTimeout p s := rfl
      rw [hexec, execStagedDownloadTimeout, hstaged]
      rfl
    · rw [stagedExpires, State.path_refuse_self, State.path_modPath_self]
      rfl
  · intro p rec s h hserve hmode hlen idx sub len ch value
    refine ⟨fun hkeys => answers_sealedWrite h ?_, fun hkey1 hkey2 hzero hlow hhigh hjudge hfits hcls hlock hreq hcal =>
      answers_sealedWrite h ?_⟩
    · rw [sealedRow_refused (sealedRecord_wrongKeys hserve hmode hlen true hkeys) (by decide)]
      obtain ⟨hacked, hpath, hcount, only⟩ := keyFailed_told p s 2 (code := 0x06090030) (by decide)
      exact ⟨hacked, hpath, hcount, only.journal, only.attic, only.sameMemory⟩
    · have hrecord := (sealedRecord_named hserve hmode hlen true hkey1 hkey2 hzero hlow hhigh hjudge hfits hlock).trans
        (commitInWindow_attic hlock hreq hcal hcls)
      rw [sealedRow_attic hrecord hcls]
      obtain ⟨hpath, hcount, hattic, hpw, hout, hmem⟩ := s.openByRecord_opens p.code
      refine ⟨?_, hpath, hout, hcount, hmem⟩
      rw [hattic, hpw]

end Sys2Proof
end

section
/-! # The mailbox (O40): R101, R109 to R111, R502 -/

namespace Sys2Proof.Machine

open Sys2Proof

/-! ## The rules in force at an access (R110)

Which accesses are served, and what an open transfer is refused with, depend on nothing that an access counts. -/

/-- The counters of dictionary messages served, 0x1F98:01, and of datagrams received, 0xA010:03. -/
abbrev messageKeys : List Nat := [okey 0x1F98 1 0, okey 0xA010 3 0]

/-- Whether an access is served depends on the power state, the start-up, the CAN ports and the halts (R64, R127, R353, R355, R502). -/
theorem State.serveCode_congr {s t : State} (hpw : t.pw = s.pw) (hsu : t.su = s.su) (hcan : t.can = s.can)
    (hhalt : t.obj 0x5050 2 = s.obj 0x5050 2) (p i : Nat) : t.serveCode p i = s.serveCode p i := by
  have hparked : t.asParked p = s.asParked p := by rw [State.asParked, State.asParked, State.port, State.port, hpw, hcan]
  have hhalted : t.haltedB = s.haltedB := by rw [State.haltedB, State.haltedB, hhalt]
  rw [State.serveCode, State.serveCode, hparked, hhalted, hpw, hsu]

namespace AccessOnly

variable {s t : State} (h : AccessOnly messageKeys s t)
include h

theorem serveCode (p i : Nat) : t.serveCode p i = s.serveCode p i :=
  State.serveCode_congr h.pw h.su h.can (h.obj 0x5050 2 0 (by decide)) p i

theorem storeServed : t.storeServed = s.storeServed := by
  simp only [State.storeServed, h.pw, h.obj 0x2001 6 0 (by decide)]

theorem domainState (i j : Nat) : t.domainState i j = s.domainState i j := by
  have hstream : (List.range 96).any t.streamOn = (List.range 96).any s.streamOn := by
    rw [Bool.eq_iff_iff]
    simp only [List.any_eq_true]
    refine exists_congr fun k => and_congr_right fun hk => ?_
    have hlt := List.mem_range.mp hk
    have hkey := h.obj 0x3000 1 k (by simp [okey]; omega)
    simp [State.streamOn, State.objB, hkey]
  simp only [State.domainState, h.storeServed, hstream, h.depot]

theorem downloadCode (p i j total : Nat) : t.downloadCode p i j total = s.downloadCode p i j total := by
  simp only [State.downloadCode, h.serveCode, h.pw, h.domainState]

theorem xferCode (p : Nat) (x : Xfer) : t.xferCode p x = s.xferCode p x := by
  simp only [State.xferCode, h.downloadCode, h.serveCode, h.storeServed]

end AccessOnly

/-! ## Touching the mailbox (R110) -/

section
variable {s : State} {p : Nat}

/-- An access of an open transfer restarts its limit. -/
theorem State.path_mbTouch_open {x : Xfer} (h : (s.path p).mailbox = some x) :
    (s.mbTouch p).path p = { s.path p with mailbox := some { x with at_ := s.now } } := by
  rw [State.mbTouch, h]
  exact (State.path_nearEdge _ _ _ _).trans (s.path_modPath_self _ _)

/-- Touching leaves open what is open. -/
theorem State.busyMailbox_mbTouch (s : State) (p : Nat) : ((s.mbTouch p).path p).busyMailbox = (s.path p).busyMailbox := by
  cases h : (s.path p).mailbox with
  | none => rw [s.mbTouch_closed h]
  | some x => simp [PathState.busyMailbox, State.path_mbTouch_open h, h]

/-- With no transfer open or waiting, the mailbox is empty. -/
theorem mailbox_none_of_idle (h : (s.path p).busyMailbox = false) : (s.path p).mailbox = none := by
  simp only [PathState.busyMailbox, Bool.or_eq_false_iff] at h
  simpa using h.1

/-- A transfer's failure is noted under the entry it names. -/
theorem State.modPath_failMailbox {x : Xfer} (h : (s.path p).mailbox = some x) (c : Nat) :
    s.modPath p (fun q => q.failMailbox c) = s.modPath p fun q => q.failXfer x.idx x.sub c := by
  simp [State.modPath, PathState.failMailbox, h]

/-- A commit that is refused shows its code on its path (R110, R111). -/
theorem State.commitXfer_refused {x : Xfer} {answers : Bool} (h : (s.commitXfer p x answers).1 ≠ 0) :
    ((s.commitXfer p x answers).2.2.path p).refusal = (s.commitXfer p x answers).1 := by
  have hshown (c : Nat) (u : State) (hc : c ≠ 0) : ((if c = 0 then u else u.refuse p x.idx x.sub c).path p).refusal = c := by
    rw [if_neg hc, State.path_refuse_self]
    rfl
  exact hshown _ _ h

/-! ## What each command does to the state that it finds -/

/-- A start with a transfer open is out of turn. -/
theorem State.mbStart_busy (h : (s.path p).busyMailbox = true) :
    s.mbUploadStart p = (0x08000022, s) ∧ s.mbDownloadStart p = (0x08000022, s) := by
  simp [State.mbUploadStart, State.mbDownloadStart, h]

/-- The transfer of an upload of a value that starts on a path. -/
def uploadOf (q : PathState) (v : List Byte) (now maxSeg : Nat) (i j : Nat) : Xfer :=
  { upload := true, idx := i, sub := j, chan := q.channel (rowOf i j).sel, total := v.length, data := v, offset := 0, seg := 0,
    at_ := now, maxSeg := maxSeg }

/-- The transfer of a download that starts on a path. -/
def downloadOf (q : PathState) (total now maxSeg : Nat) (i j : Nat) : Xfer :=
  { upload := false, idx := i, sub := j, chan := q.channel (rowOf i j).sel, total := total, data := [], offset := 0, seg := 0,
    at_ := now, maxSeg := maxSeg }

section
variable (hidle : (s.path p).busyMailbox = false) {i j : Nat}
variable (hi : i = (s.path p).mbTarget / 256 % 2 ^ 16) (hj : j = (s.path p).mbTarget % 256)
include hidle hi hj

/-- A target that cannot be read fails the transfer at its start (R110). -/
theorem State.mbUploadStart_refused {c : Nat} (hpeek : s.peek p i j ((s.path p).channel (rowOf i j).sel) true = .inl c) :
    s.mbUploadStart p = (0, s.modPath p fun q => q.failXfer i j c) := by
  simp only [State.mbUploadStart, hidle, ← hi, ← hj, hpeek, Bool.false_eq_true, if_false]

/-- An upload presents the first segment of the value that its target reads as (R109, R110). -/
theorem State.mbUploadStart_presents {v : List Byte} (hpeek : s.peek p i j ((s.path p).channel (rowOf i j).sel) true = .inr v)
    (hrc : (rowOf i j).acc ≠ .rc) :
    s.mbUploadStart p = (0, (s.latchFraction p i j).modPath p fun q => q.present (uploadOf (s.path p) v s.now 256 i j) s.now) := by
  have hread := State.dictRead_value (fun _ => mailbox_none_of_idle hidle) hpeek
  have hnow : (s.latchFraction p i j).now = s.now := (AccessOnly.latchFraction (keys := []) s p i j).now
  simp only [State.mbUploadStart, hidle, ← hi, ← hj, hpeek, hread, if_neg hrc, hnow, Bool.false_eq_true, if_false]
  rfl

/-- A download starts where its target is in order, and fails at once where it is not (R110). -/
theorem State.mbDownloadStart_starts : s.mbDownloadStart p =
    if s.downloadCode p i j (s.path p).mbTotal = 0 then (0, s.modPath p fun q => { q with
      mailbox := some (downloadOf (s.path p) (s.path p).mbTotal s.now 256 i j), mbStatus := 2, mbOffset := 0, mbSeg := 0, mbCrc := 0 })
    else (0, s.modPath p fun q => q.failXfer i j (s.downloadCode p i j (s.path p).mbTotal)) := by
  subst hi hj
  simp only [State.mbDownloadStart, hidle, Bool.false_eq_true, if_false, bne_iff_ne, ne_eq, ite_not]
  rfl

end

/-- A segment of a download joins the data; offset, length and CRC follow (R109). -/
def PathState.takes (q : PathState) (x : Xfer) (len now : Nat) : PathState :=
  let d := x.data ++ (padTo 256 q.mbData).take len
  { q with
    mailbox := some { x with data := d, offset := d.length, at_ := now }
    mbOffset := d.length, mbSeg := len, mbCrc := crc32c d }

/-- With no transfer open there is nothing to move on (R109). -/
theorem State.mb_closed (h : (s.path p).mailbox = none) : s.mbNextSegment p = (0x08000022, s) ∧ s.mbCommit p = (0x08000022, s) ∧
    ∀ len, s.mbSegment p len = (0x08000022, s) := by
  simp [State.mbNextSegment, State.mbCommit, State.mbSegment, h]

section
variable {x : Xfer} (h : (s.path p).mailbox = some x)
include h

/-- A command of a download has no upload to move, and one of an upload no download (R109). -/
theorem State.mbNextSegment_download (hdown : x.upload = false) : s.mbNextSegment p = (0x08000022, s) := by
  simp [State.mbNextSegment, h, hdown]

theorem State.mb_upload (hup : x.upload = true) : s.mbCommit p = (0x08000022, s) ∧ ∀ len, s.mbSegment p len = (0x08000022, s) := by
  simp [State.mbCommit, State.mbSegment, h, hup]

/-- The next segment of an upload: the end after the last one, and the failure where the rules no longer admit it (R110). -/
theorem State.mbNextSegment_upload (hup : x.upload = true) : s.mbNextSegment p =
    if s.xferCode p x ≠ 0 then (0, s.modPath p fun q => q.failXfer x.idx x.sub (s.xferCode p x))
    else if x.total ≤ x.offset + x.seg then (0, s.modPath p fun q => { q with mailbox := none, mbStatus := 3 })
    else (0, s.modPath p fun q => q.present { x with offset := x.offset + x.seg } s.now) := by
  simp only [State.mbNextSegment, h, hup, State.modPath_failMailbox h, Bool.not_true, Bool.false_eq_true, if_false, bne_iff_ne]

/-- A segment within its form and the total is taken (R109, R110). -/
theorem State.mbSegment_download (hdown : x.upload = false) (len : Nat) : s.mbSegment p len =
    if s.xferCode p x ≠ 0 then (0, s.modPath p fun q => q.failXfer x.idx x.sub (s.xferCode p x))
    else if len = 0 ∨ 256 < len then (0x06090030, s)
    else if x.total < x.data.length + len then (0x06070010, s)
    else (0, s.modPath p fun q => q.takes x len s.now) := by
  simp only [State.mbSegment, h, hdown, State.modPath_failMailbox h, Bool.false_eq_true, if_false, bne_iff_ne, Bool.or_eq_true,
    decide_eq_true_eq, PathState.takes]

/-- A commit of less than the whole is out of turn (R110). -/
theorem State.mbCommit_short (hdown : x.upload = false) (hlen : x.data.length ≠ x.total) : s.mbCommit p = (0x08000022, s) := by
  simp [State.mbCommit, h, hdown, hlen]

/-- A commit of the whole closes the transfer and commits its data (R101, R110). -/
theorem State.mbCommit_whole (hdown : x.upload = false) (hlen : x.data.length = x.total) :
    let r := (s.modPath p fun q => { q with mailbox := none }).commitXfer p x false
    s.mbCommit p = (0, if r.1 ≠ 0 then r.2.2.modPath p fun q => { q with mbStatus := 0x0F, mbFail := r.1 }
      else if r.2.1 then r.2.2 else r.2.2.modPath p fun q => { q with mbStatus := 3 }) := by
  simp only [State.mbCommit, h, hdown, hlen, Bool.false_or, bne_self_eq_false, Bool.false_eq_true, if_false]
  split_ifs <;> simp_all

end

end

end Sys2Proof.Machine

namespace Sys2Proof

open Sys2Proof.Machine

variable {p : Path} {s : Machine.State}

/-! ## A command on its way to the mailbox -/

/-- A write of 0x2020:02 or 0x2020:06 in form is a mailbox command (R109). -/
theorem accessOn_mailbox {c sub n v : Nat} (hform : sub = 2 ∧ n = 1 ∨ sub = 6 ∧ n = 2) (hval : leVal (leBytes n v) = v) :
    s.accessOn c 0x2020 sub (leBytes n v) = ((s.mbWrite c sub v).1, false, (s.mbWrite c sub v).2) := by
  have hlen : (leBytes n v).length = if sub = 2 then 1 else 2 := by
    rcases hform with ⟨rfl, rfl⟩ | ⟨rfl, rfl⟩ <;> rfl
  have hsub : sub = 2 ∨ sub = 6 := hform.imp And.left And.left
  simp [State.accessOn, hlen, hsub, hval]

/-- A mailbox command that is served, with no sequence armed, runs on the touched mailbox; a refusal shows on its path (R110). -/
theorem mbCommand_runs {c sub : Nat} {run : Machine.State → Nat × Machine.State} (hserve : s.serveCode c 0x2020 = 0)
    (harmed : (s.path c).armed = none) :
    let r := run (s.mbTouch c)
    s.mbCommand c sub run = (r.1, if r.1 ≠ 0 then r.2.refuse c 0x2020 sub r.1 else r.2) := by
  simp only [State.mbCommand, endSequence_of_unarmed harmed, hserve, bne_self_eq_false, Bool.false_eq_true, if_false]
  by_cases hr : (run (s.mbTouch c)).1 = 0
  · rw [if_pos hr, if_neg (not_not.2 hr)]
  · rw [if_neg hr, if_pos hr]

/-- A mailbox command on a path that serves it is told on its path as it ran (R109, R110). -/
theorem answers_mailbox (h : Delivered p s) (hserve : s.serveCode p.code 0x2020 = 0) (harmed : (s.path p.code).armed = none)
    {c : Instr} {sub n v : Nat} {run : Machine.State → Nat × Machine.State} {q : Machine.State → Prop}
    (hexec : exec c s = .next (s.writeRow p 0x2020 sub n v)) (hform : sub = 2 ∧ n = 1 ∨ sub = 6 ∧ n = 2)
    (hval : leVal (leBytes n v) = v) (hrun : s.mbWrite p.code sub v = s.mbCommand p.code sub run)
    (hq : q (State.tell p.code 0x2020 sub (run (s.mbTouch p.code)))) : Answers c s q := by
  have haccess : s.dictAccess p.code 0x2020 sub (leBytes n v) = State.tell p.code 0x2020 sub (run (s.mbTouch p.code)) := by
    simp only [State.dictAccess, h.2.1, accessOn_mailbox hform hval, hrun, mbCommand_runs hserve harmed, Bool.not_true,
      Bool.false_eq_true, if_false]
    rfl
  exact answers_writeRow hexec h (haccess ▸ hq)

/-! ## What is told of it -/

/-- A command is refused: the code is answered and shown in 0x2021, and nothing else has changed (R108, R109). -/
def MailboxRefuses (p : Path) (s : Machine.State) (c : Nat) (t : Machine.State) : Prop :=
  Acked p c [] t ∧ (t.path p.code).refusal = c ∧ t.journal = s.journal ∧ SameObjs [] s t ∧ t.ctxs = s.ctxs ∧ SameMemory s t

/-- A transfer fails: 0x2020:03 and :07 and the path status show it (R110, R111). -/
def MailboxFails (p : Path) (s : Machine.State) (c : Nat) (t : Machine.State) : Prop :=
  Acked p 0 [] t ∧ (t.path p.code).mailbox = none ∧ (t.path p.code).mbStatus = 0x0F ∧ (t.path p.code).mbFail = c ∧
    (t.path p.code).refusal = c ∧ t.journal = s.journal ∧ t.ctxs = s.ctxs ∧ SameMemory s t

/-- A segment of a value is presented from an offset on, with total, offset, length and the CRC so far (R109). -/
def MailboxShows (p : Path) (s : Machine.State) (v : List Byte) (off : Nat) (t : Machine.State) : Prop :=
  Acked p 0 [] t ∧ (t.path p.code).mailbox.isSome = true ∧ (t.path p.code).mbStatus = 1 ∧ (t.path p.code).mbTotal = v.length ∧
    (t.path p.code).mbOffset = off ∧ (t.path p.code).mbSeg = min 256 (v.length - off) ∧
    (t.path p.code).mbData = padTo 256 (slice v off (min 256 (v.length - off))) ∧
    (t.path p.code).mbCrc = crc32c (v.take (off + min 256 (v.length - off))) ∧ t.journal = s.journal ∧ t.ctxs = s.ctxs ∧ SameMemory s t

section
variable {t : Machine.State} (only : AccessOnly [] s t) (sub : Nat)
include only

theorem tell_refuses {c : Nat} (hc : c ≠ 0) : MailboxRefuses p s c (State.tell p.code 0x2020 sub (c, t)) := by
  have all := only.trans (AccessOnly.tell p.code 0x2020 sub (c, t))
  exact ⟨acked_tell p _ _ _, by rw [path_tell_refused _ _ _ hc]; rfl, all.journal, all.same, all.ctxs, all.sameMemory⟩

/-- A command that is accepted: its path is as the command left it. -/
theorem tell_accepts (f : PathState → PathState) (hpeer : (f (t.path p.code)).peer = (t.path p.code).peer) :
    let w := State.tell p.code 0x2020 sub (0, t.modPath p.code f)
    Acked p 0 [] w ∧ w.path p.code = f (t.path p.code) ∧ AccessOnly [] s w := by
  refine ⟨acked_tell p _ _ _, ?_, (only.trans (AccessOnly.modPath t _ hpeer)).trans
    (AccessOnly.tell p.code 0x2020 sub (0, t.modPath p.code f))⟩
  rw [path_tell_accepted, State.path_modPath_self]

theorem tell_fails (i j c : Nat) :
    MailboxFails p s c (State.tell p.code 0x2020 sub (0, t.modPath p.code fun q => q.failXfer i j c)) := by
  obtain ⟨hacked, hpath, all⟩ := tell_accepts (p := p) only sub (fun q => q.failXfer i j c) rfl
  unfold MailboxFails
  rw [hpath]
  exact ⟨hacked, rfl, rfl, rfl, rfl, all.journal, all.ctxs, all.sameMemory⟩

theorem tell_shows {x : Xfer} (htotal : x.total = x.data.length) (now : Nat) :
    MailboxShows p s x.data x.offset (State.tell p.code 0x2020 sub (0, t.modPath p.code fun q => q.present x now)) := by
  obtain ⟨hacked, hpath, all⟩ := tell_accepts (p := p) only sub (fun q => q.present x now) rfl
  unfold MailboxShows
  rw [hpath, ← htotal]
  exact ⟨hacked, rfl, rfl, rfl, rfl, rfl, rfl, rfl, all.journal, all.ctxs, all.sameMemory⟩

end

/-! ## The commands -/

section
variable (h : Delivered p s) (hserve : s.serveCode p.code 0x2020 = 0) (harmed : (s.path p.code).armed = none)
include h hserve harmed

/-! The five commands of 0x2020:02 and the write of the segment length: each is told as it ran. -/

theorem answers_mailboxUploadStart {q : Machine.State → Prop}
    (hq : q (State.tell p.code 0x2020 2 ((s.mbTouch p.code).mbUploadStart p.code))) : Answers (.mailboxUploadStart p) s q :=
  answers_mailbox h hserve harmed (v := 1) (run := (State.mbUploadStart · p.code)) rfl (.inl ⟨rfl, rfl⟩) (by decide) rfl hq

theorem answers_mailboxNextSegment {q : Machine.State → Prop}
    (hq : q (State.tell p.code 0x2020 2 ((s.mbTouch p.code).mbNextSegment p.code))) : Answers (.mailboxNextSegment p) s q :=
  answers_mailbox h hserve harmed (v := 2) (run := (State.mbNextSegment · p.code)) rfl (.inl ⟨rfl, rfl⟩) (by decide) rfl hq

theorem answers_mailboxDownloadStart {q : Machine.State → Prop}
    (hq : q (State.tell p.code 0x2020 2 ((s.mbTouch p.code).mbDownloadStart p.code))) : Answers (.mailboxDownloadStart p) s q :=
  answers_mailbox h hserve harmed (v := 3) (run := (State.mbDownloadStart · p.code)) rfl (.inl ⟨rfl, rfl⟩) (by decide) rfl hq

theorem answers_mailboxCommit {q : Machine.State → Prop}
    (hq : q (State.tell p.code 0x2020 2 ((s.mbTouch p.code).mbCommit p.code))) : Answers (.mailboxCommit p) s q :=
  answers_mailbox h hserve harmed (v := 4) (run := (State.mbCommit · p.code)) rfl (.inl ⟨rfl, rfl⟩) (by decide) rfl hq

theorem answers_mailboxAbort {q : Machine.State → Prop}
    (hq : q (State.tell p.code 0x2020 2 ((s.mbTouch p.code).mbAbort p.code))) : Answers (.mailboxAbort p) s q :=
  answers_mailbox h hserve harmed (v := 5) (run := (State.mbAbort · p.code)) rfl (.inl ⟨rfl, rfl⟩) (by decide) rfl hq

theorem answers_mailboxSegmentWrite {len : BitVec 16} {q : Machine.State → Prop}
    (hq : q (State.tell p.code 0x2020 6 ((s.mbTouch p.code).mbSegment p.code len.toNat))) : Answers (.mailboxSegmentWrite p len) s q :=
  answers_mailbox h hserve harmed (run := (State.mbSegment · p.code len.toNat)) rfl (.inr ⟨rfl, rfl⟩)
    (leVal_leBytes_two _ len.isLt) rfl hq

/-! ### Starts -/

/-- A start with a transfer open is refused with 0x0800_0022 (R109). -/
theorem mailboxStart_busy (hbusy : (s.path p.code).busyMailbox = true) :
    Answers (.mailboxUploadStart p) s (MailboxRefuses p s 0x08000022) ∧
    Answers (.mailboxDownloadStart p) s (MailboxRefuses p s 0x08000022) := by
  obtain ⟨hup, hdown⟩ := State.mbStart_busy ((s.busyMailbox_mbTouch p.code).trans hbusy)
  refine ⟨answers_mailboxUploadStart h hserve harmed ?_, answers_mailboxDownloadStart h hserve harmed ?_⟩
  · rw [hup]
    exact tell_refuses (.mbTouch s p.code) 2 (by decide)
  · rw [hdown]
    exact tell_refuses (.mbTouch s p.code) 2 (by decide)

section
variable (hidle : (s.path p.code).busyMailbox = false) {i j : Nat} (hi : i = (s.path p.code).mbTarget / 256 % 2 ^ 16)
variable (hj : j = (s.path p.code).mbTarget % 256)
include hidle hi hj

/-- An upload fails at its start where its target refuses, else it shows the first segment (R109, R110). -/
theorem mailboxUploadStart_idle :
    (∀ c, s.peek p.code i j ((s.path p.code).channel (rowOf i j).sel) true = .inl c →
      Answers (.mailboxUploadStart p) s (MailboxFails p s c)) ∧
    (∀ v, s.peek p.code i j ((s.path p.code).channel (rowOf i j).sel) true = .inr v → (rowOf i j).acc ≠ .rc →
      Answers (.mailboxUploadStart p) s (MailboxShows p s v 0)) := by
  have htouch := State.mbTouch_closed (mailbox_none_of_idle hidle)
  refine ⟨fun c hpeek => answers_mailboxUploadStart h hserve harmed ?_,
    fun v hpeek hrc => answers_mailboxUploadStart h hserve harmed ?_⟩
  · rw [htouch, State.mbUploadStart_refused hidle hi hj hpeek]
    exact tell_fails (.refl s) 2 i j c
  · rw [htouch, State.mbUploadStart_presents hidle hi hj hpeek hrc]
    exact tell_shows (.latchFraction s p.code i j) 2 (x := uploadOf (s.path p.code) v s.now 256 i j) rfl s.now

/-- A download starts empty where its target is in order, else it fails at once (R110). -/
theorem mailboxDownloadStart_idle :
    (s.downloadCode p.code i j (s.path p.code).mbTotal = 0 → Answers (.mailboxDownloadStart p) s (fun t => Acked p 0 [] t ∧
      (t.path p.code).mbStatus = 2 ∧ (t.path p.code).mbOffset = 0 ∧ (t.path p.code).mbCrc = 0 ∧
      (t.path p.code).mailbox.map (fun x => (x.upload, x.idx, x.sub, x.total, x.data)) =
        some (false, i, j, (s.path p.code).mbTotal, []) ∧
      SameObjs [] s t ∧ t.journal = s.journal ∧ t.ctxs = s.ctxs ∧ SameMemory s t)) ∧
    (s.downloadCode p.code i j (s.path p.code).mbTotal ≠ 0 → Answers (.mailboxDownloadStart p) s
      (MailboxFails p s (s.downloadCode p.code i j (s.path p.code).mbTotal))) := by
  have htouch := State.mbTouch_closed (mailbox_none_of_idle hidle)
  refine ⟨fun hcode => answers_mailboxDownloadStart h hserve harmed ?_, fun hcode => answers_mailboxDownloadStart h hserve harmed ?_⟩
  · rw [htouch, State.mbDownloadStart_starts hidle hi hj, if_pos hcode]
    obtain ⟨hacked, hpath, all⟩ := tell_accepts (p := p) (.refl s) 2 (fun q => { q with
      mailbox := some (downloadOf (s.path p.code) (s.path p.code).mbTotal s.now 256 i j), mbStatus := 2, mbOffset := 0, mbSeg := 0,
      mbCrc := 0 }) rfl
    rw [hpath]
    exact ⟨hacked, rfl, rfl, rfl, rfl, all.same, all.journal, all.ctxs, all.sameMemory⟩
  · rw [htouch, State.mbDownloadStart_starts hidle hi hj, if_neg hcode]
    exact tell_fails (.refl s) 2 i j _

end

/-! ### Commands with no transfer open -/

/-- A step of a transfer that is not open is refused, and an abort does nothing (R109). -/
theorem mailbox_closed (hclosed : (s.path p.code).mailbox = none) :
    Answers (.mailboxNextSegment p) s (MailboxRefuses p s 0x08000022) ∧
    Answers (.mailboxCommit p) s (MailboxRefuses p s 0x08000022) ∧
    (∀ len, Answers (.mailboxSegmentWrite p len) s (MailboxRefuses p s 0x08000022)) ∧
    Answers (.mailboxAbort p) s (fun t => Acked p 0 [] t ∧ t.path p.code = s.path p.code ∧ SameObjs [] s t ∧ t.ctxs = s.ctxs ∧
      SameMemory s t) := by
  have htouch := State.mbTouch_closed hclosed
  obtain ⟨hnext, hcommit, hsegment⟩ := State.mb_closed hclosed
  have refused (sub : Nat) : MailboxRefuses p s 0x08000022 (State.tell p.code 0x2020 sub (0x08000022, s)) :=
    tell_refuses (.refl s) sub (by decide)
  refine ⟨answers_mailboxNextSegment h hserve harmed ?_, answers_mailboxCommit h hserve harmed ?_,
    fun len => answers_mailboxSegmentWrite h hserve harmed ?_, answers_mailboxAbort h hserve harmed ?_⟩
  · rw [htouch, hnext]
    exact refused 2
  · rw [htouch, hcommit]
    exact refused 2
  · rw [htouch, hsegment]
    exact refused 6
  · have hsame : (s.path p.code).failMailbox 0x05040000 = s.path p.code := by simp [PathState.failMailbox, hclosed]
    obtain ⟨hacked, hpath, all⟩ := tell_accepts (p := p) (.refl s) 2 (fun q => q.failMailbox 0x05040000) (by rw [hsame])
    rw [htouch]
    exact ⟨hacked, hpath.trans hsame, all.same, all.ctxs, all.sameMemory⟩

/-! ### Commands of an open transfer -/

section
variable {x : Xfer} (hopen : (s.path p.code).mailbox = some x)
include hopen

omit h hserve harmed in
/-- The touched mailbox holds the same transfer, and the rules in force say the same of it (R110). -/
theorem touched_open : ((s.mbTouch p.code).path p.code).mailbox = some { x with at_ := s.now } ∧
    (s.mbTouch p.code).xferCode p.code { x with at_ := s.now } = s.xferCode p.code x := by
  refine ⟨by rw [State.path_mbTouch_open hopen], ?_⟩
  exact (AccessOnly.mbTouch (keys := messageKeys) s p.code).xferCode p.code x

/-- An abort fails the transfer with 0x0504_0000 (R110). -/
theorem mailboxAbort_open : Answers (.mailboxAbort p) s (MailboxFails p s 0x05040000) := by
  obtain ⟨htouched, -⟩ := touched_open hopen
  refine answers_mailboxAbort h hserve harmed ?_
  rw [State.mbAbort, State.modPath_failMailbox htouched]
  exact tell_fails (.mbTouch s p.code) 2 _ _ _

/-- An access of a transfer that the rules in force no longer admit fails it with their code (R110). -/
theorem mailbox_notAdmitted (hcode : s.xferCode p.code x ≠ 0) :
    (x.upload = true → Answers (.mailboxNextSegment p) s (MailboxFails p s (s.xferCode p.code x))) ∧
    (x.upload = false → ∀ len, Answers (.mailboxSegmentWrite p len) s (MailboxFails p s (s.xferCode p.code x))) := by
  obtain ⟨htouched, hadmit⟩ := touched_open hopen
  refine ⟨fun hup => answers_mailboxNextSegment h hserve harmed ?_, fun hdown len => answers_mailboxSegmentWrite h hserve harmed ?_⟩
  · rw [State.mbNextSegment_upload htouched hup, hadmit, if_pos hcode]
    exact tell_fails (.mbTouch s p.code) 2 _ _ _
  · rw [State.mbSegment_download htouched hdown, hadmit, if_pos hcode]
    exact tell_fails (.mbTouch s p.code) 6 _ _ _

/-- A step of the other direction is out of turn (R109). -/
theorem mailbox_otherWay :
    (x.upload = false → Answers (.mailboxNextSegment p) s (MailboxRefuses p s 0x08000022)) ∧
    (x.upload = true → Answers (.mailboxCommit p) s (MailboxRefuses p s 0x08000022) ∧
      ∀ len, Answers (.mailboxSegmentWrite p len) s (MailboxRefuses p s 0x08000022)) := by
  obtain ⟨htouched, -⟩ := touched_open hopen
  have refused (sub : Nat) : MailboxRefuses p s 0x08000022 (State.tell p.code 0x2020 sub (0x08000022, s.mbTouch p.code)) :=
    tell_refuses (.mbTouch s p.code) sub (by decide)
  refine ⟨fun hdown => answers_mailboxNextSegment h hserve harmed ?_, fun hup => ?_⟩
  · rw [State.mbNextSegment_download htouched hdown]
    exact refused 2
  · obtain ⟨hcommit, hsegment⟩ := State.mb_upload htouched hup
    refine ⟨answers_mailboxCommit h hserve harmed ?_, fun len => answers_mailboxSegmentWrite h hserve harmed ?_⟩
    · rw [hcommit]
      exact refused 2
    · rw [hsegment]
      exact refused 6

/-- The next segment of an upload follows, and after the last the transfer ends with status 3 (R110). -/
theorem mailboxNextSegment_upload (hup : x.upload = true) (hcode : s.xferCode p.code x = 0) (htotal : x.total = x.data.length) :
    (x.total ≤ x.offset + x.seg → Answers (.mailboxNextSegment p) s (fun t => Acked p 0 [] t ∧ (t.path p.code).mailbox = none ∧
      (t.path p.code).mbStatus = 3 ∧ SameObjs [] s t ∧ t.ctxs = s.ctxs ∧ SameMemory s t)) ∧
    (x.offset + x.seg < x.total → Answers (.mailboxNextSegment p) s (MailboxShows p s x.data (x.offset + x.seg))) := by
  obtain ⟨htouched, hadmit⟩ := touched_open hopen
  refine ⟨fun hlast => answers_mailboxNextSegment h hserve harmed ?_, fun hmore => answers_mailboxNextSegment h hserve harmed ?_⟩
  · rw [State.mbNextSegment_upload htouched hup, hadmit, if_neg (not_not.2 hcode), if_pos hlast]
    obtain ⟨hacked, hpath, all⟩ := tell_accepts (p := p) (.mbTouch s p.code) 2 (fun q => { q with mailbox := none, mbStatus := 3 }) rfl
    rw [hpath]
    exact ⟨hacked, rfl, rfl, all.same, all.ctxs, all.sameMemory⟩
  · rw [State.mbNextSegment_upload htouched hup, hadmit, if_neg (not_not.2 hcode), if_neg (Nat.not_le.2 hmore)]
    exact tell_shows (.mbTouch s p.code) 2 (x := { x with at_ := s.now, offset := x.offset + x.seg }) htotal _

/-- A segment of 1 to 256 bytes within the total joins a download's data; any other is refused (R109, R110). -/
theorem mailboxSegmentWrite_download (len : BitVec 16) (hdown : x.upload = false) (hcode : s.xferCode p.code x = 0) :
    (len.toNat = 0 ∨ 256 < len.toNat → Answers (.mailboxSegmentWrite p len) s (MailboxRefuses p s 0x06090030)) ∧
    (1 ≤ len.toNat → len.toNat ≤ 256 → x.total < x.data.length + len.toNat →
      Answers (.mailboxSegmentWrite p len) s (MailboxRefuses p s 0x06070010)) ∧
    (1 ≤ len.toNat → len.toNat ≤ 256 → x.data.length + len.toNat ≤ x.total →
      Answers (.mailboxSegmentWrite p len) s (fun t =>
        let d := x.data ++ (padTo 256 (s.path p.code).mbData).take len.toNat
        Acked p 0 [] t ∧ (t.path p.code).mailbox.map (fun y => y.data) = some d ∧ (t.path p.code).mbOffset = d.length ∧
        (t.path p.code).mbSeg = len.toNat ∧ (t.path p.code).mbCrc = crc32c d ∧ SameObjs [] s t ∧ t.ctxs = s.ctxs ∧ SameMemory s t)) := by
  obtain ⟨htouched, hadmit⟩ := touched_open hopen
  have hsegment := State.mbSegment_download htouched hdown len.toNat
  rw [hadmit, if_neg (not_not.2 hcode)] at hsegment
  refine ⟨fun hbad => answers_mailboxSegmentWrite h hserve harmed ?_, fun hlow hhigh hlong => answers_mailboxSegmentWrite h hserve harmed ?_,
    fun hlow hhigh hfits => answers_mailboxSegmentWrite h hserve harmed ?_⟩
  · rw [hsegment, if_pos hbad]
    exact tell_refuses (.mbTouch s p.code) 6 (by decide)
  · rw [hsegment, if_neg (by omega), if_pos hlong]
    exact tell_refuses (.mbTouch s p.code) 6 (by decide)
  · rw [hsegment, if_neg (by omega), if_neg (Nat.not_lt.2 hfits)]
    obtain ⟨hacked, hpath, all⟩ := tell_accepts (p := p) (.mbTouch s p.code) 6
      (fun q => q.takes { x with at_ := s.now } len.toNat (s.mbTouch p.code).now) rfl
    rw [hpath, State.path_mbTouch_open hopen]
    exact ⟨hacked, rfl, rfl, rfl, rfl, all.same, all.ctxs, all.sameMemory⟩

/-- A commit of less than the whole is out of turn (R109). -/
theorem mailboxCommit_short (hdown : x.upload = false) (hshort : x.data.length ≠ x.total) :
    Answers (.mailboxCommit p) s (MailboxRefuses p s 0x08000022) := by
  refine answers_mailboxCommit h hserve harmed ?_
  rw [State.mbCommit_short (touched_open hopen).1 hdown hshort]
  exact tell_refuses (.mbTouch s p.code) 2 (by decide)

/-- A commit of the whole reports how its data commits: failed with the code, done, or open until the attic has stored it (R101,
R110). -/
theorem mailboxCommit_whole (hdown : x.upload = false) (hwhole : x.data.length = x.total) :
    let r := ((s.mbTouch p.code).modPath p.code fun y => { y with mailbox := none }).commitXfer p.code x false
    (r.1 ≠ 0 → Answers (.mailboxCommit p) s (fun t => Acked p 0 [] t ∧ (t.path p.code).mbStatus = 0x0F ∧
      (t.path p.code).mbFail = r.1 ∧ (t.path p.code).refusal = r.1 ∧ t.journal = r.2.2.journal ∧ t.mem = r.2.2.mem)) ∧
    (r.1 = 0 → Answers (.mailboxCommit p) s (fun t => Acked p 0 [] t ∧ t.journal = r.2.2.journal ∧ t.mem = r.2.2.mem ∧
      (t.path p.code).mbStatus = if r.2.1 then (r.2.2.path p.code).mbStatus else 3)) := by
  intro r
  have hcommit : (s.mbTouch p.code).mbCommit p.code = (0, if r.1 ≠ 0 then
      r.2.2.modPath p.code fun q => { q with mbStatus := 0x0F, mbFail := r.1 }
    else if r.2.1 then r.2.2 else r.2.2.modPath p.code fun q => { q with mbStatus := 3 }) :=
    State.mbCommit_whole (x := { x with at_ := s.now }) (touched_open hopen).1 hdown hwhole
  refine ⟨fun hfail => answers_mailboxCommit h hserve harmed ?_, fun hdone => answers_mailboxCommit h hserve harmed ?_⟩
  · rw [hcommit, if_pos hfail]
    obtain ⟨hacked, hpath, all⟩ := tell_accepts (p := p) (.refl r.2.2) 2 (fun q => { q with mbStatus := 0x0F, mbFail := r.1 }) rfl
    rw [hpath]
    exact ⟨hacked, rfl, rfl, State.commitXfer_refused hfail, all.journal, by rw [all.rest]⟩
  · rw [hcommit, if_neg (not_not.2 hdone)]
    by_cases hwaits : r.2.1 = true
    · rw [if_pos hwaits, path_tell_accepted, if_pos hwaits]
      have all := AccessOnly.tell (keys := []) p.code 0x2020 2 (0, r.2.2)
      exact ⟨acked_tell p _ _ _, all.journal, by rw [all.rest], rfl⟩
    · obtain ⟨hacked, hpath, all⟩ := tell_accepts (p := p) (.refl r.2.2) 2 (fun q => { q with mbStatus := 3 }) rfl
      rw [if_neg hwaits, hpath, if_neg hwaits]
      exact ⟨hacked, all.journal, by rw [all.rest], rfl⟩

end

end

/-- The limit of 1,000 ms fails the transfer with 0x0504_0000 on its path alone (R110, R502). -/
theorem mailboxTimeout_fails {x : Xfer} (hholds : s.holds p.code = false) (hopen : (s.path p.code).mailbox = some x) :
    Answers (.mailboxTimeout p) s (fun t => t.path p.code = (s.path p.code).failXfer x.idx x.sub 0x05040000 ∧
      (∀ k, k ≠ p.code → t.path k = s.path k) ∧ t.objs = s.objs ∧ t.out = s.out ∧ t.journal = s.journal ∧ SameMemory s t) := by
  have hexec : exec (.mailboxTimeout p) s = execMailboxTimeout p s := rfl
  refine answers_next (t := s.modPath p.code fun q => q.failXfer x.idx x.sub 0x05040000) ?_
    ⟨s.path_modPath_self _ _, fun k hk => s.path_modPath_ne _ hk, rfl, rfl, rfl, fun _ => rfl, rfl⟩
  rw [hexec, execMailboxTimeout, hholds, hopen, State.modPath_failMailbox hopen]
  rfl

/-- Settles O40: starts, steps and commits of the mailbox, each by the lemma of its command. -/
theorem mailboxMovesSegments : Obligations.MailboxMovesSegments := by
  unfold Obligations.MailboxMovesSegments
  refine ⟨?_, fun p x s => mailboxTimeout_fails⟩
  intro p s h hserve harmed q i j ch m calm bad fails shows
  refine ⟨mailboxStart_busy h hserve harmed, fun hidle => ?_, mailbox_closed h hserve harmed, fun x hopen => ?_,
    fun x hopen hup hcode htotal => mailboxNextSegment_upload h hserve harmed hopen hup hcode htotal,
    fun x hopen => (mailbox_otherWay h hserve harmed hopen).1, fun x hopen => (mailbox_otherWay h hserve harmed hopen).2,
    fun x hopen hcode => mailbox_notAdmitted h hserve harmed hopen hcode,
    fun x len hopen hdown hcode => mailboxSegmentWrite_download h hserve harmed hopen len hdown hcode,
    fun x hopen hdown hshort => mailboxCommit_short h hserve harmed hopen hdown hshort,
    fun x hopen hdown hwhole => mailboxCommit_whole h hserve harmed hopen hdown hwhole⟩
  · obtain ⟨hrefused, hshown⟩ := mailboxUploadStart_idle h hserve harmed hidle rfl rfl
    obtain ⟨hstarted, hfailed⟩ := mailboxDownloadStart_idle h hserve harmed hidle rfl rfl
    exact ⟨hrefused, hshown, hstarted, hfailed⟩
  · obtain ⟨t, hexec, hacked, hclosed, hstatus, hfail, -, hjournal, hcalm⟩ := mailboxAbort_open h hserve harmed hopen
    exact ⟨t, hexec, hacked, hclosed, hstatus, hfail, hjournal, hcalm⟩

end Sys2Proof
end

section
/-! # Dictionary messages of UDP peers (O46): R104, R110, R111, R136, R137, R474 -/

namespace Sys2Proof.Machine

open Sys2Proof

/-! ## A request on its way to its peer's path (R104, R137) -/

/-- A request of a peer that holds its slot, past its form: dropped while the slot is busy, answered again where it repeats, served in
turn, dropped out of turn (R137). -/
def State.peerTurn (s : State) (p : Nat) (peer : Nat × Nat) (b : List Byte) : State :=
  let q := s.path p
  if q.busy.isSome then s.bump 0x1F98 3
  else
    match q.lastResp with
    | some (n, m) =>
      if n = field b 2 2 then (s.bump 0x1F98 2).emit (.udp peer.1 peer.2 m)
      else if q.inTurn b then s.dictRequest p b else s.bump 0x1F98 3
    | none => if q.inTurn b then s.dictRequest p b else s.bump 0x1F98 3

/-- A slot is taken by a new peer (R104). -/
def State.newPeer (s : State) (p : Nat) (peer : Nat × Nat) : State :=
  ((s.freshPath p).modPath p fun q => { q with peer := peer }).setObj 0x1F98 4 (s.obj 0x1F98 4 + 1)

section
variable {s : State} {p : Nat} {peer : Nat × Nat}

/-- A peer's request takes its turn on its slot, which is noted as used. -/
theorem State.peerRequest_eq (h : s.peerSlot peer = some p) (b : List Byte) : s.peerRequest peer b =
    ((if s.live p then s else s.newPeer p peer).modPath p fun q => { q with
      peerAt := (if s.live p then s else s.newPeer p peer).now }).peerTurn p peer b := by
  simp only [State.peerRequest, h, State.peerTurn, State.newPeer]
  rfl

/-- The slots depend on the paths alone. -/
theorem State.peerSlot_congr {t : State} (h : t.paths = s.paths) (peer : Nat × Nat) : t.peerSlot peer = s.peerSlot peer := by
  simp only [State.peerSlot, State.live, State.path_congr h]

/-- A slot that a peer holds is the peer's own. -/
theorem State.peer_of_peerSlot (h : s.peerSlot peer = some p) (hlive : s.live p = true) : (s.path p).peer = peer := by
  unfold State.peerSlot at h
  dsimp only at h
  split at h
  next c hc =>
    obtain rfl := Option.some.inj h
    have := List.find?_some hc
    simp only [Bool.and_eq_true, decide_eq_true_eq] at this
    exact this.2
  next =>
    have := List.find?_some h
    simp [hlive] at this

/-- The slots of peers lie below path 0x30 (R104). -/
theorem State.peerSlot_lt (h : s.peerSlot peer = some p) : p < 0x30 := by
  have hmem : p ∈ (List.range 16).map (0x20 + ·) := by
    unfold State.peerSlot at h
    dsimp only at h
    split at h
    next c hc =>
      obtain rfl := Option.some.inj h
      exact List.mem_of_find?_eq_some hc
    next => exact List.mem_of_find?_eq_some h
  obtain ⟨k, hk, rfl⟩ := List.mem_map.mp hmem
  have := List.mem_range.mp hk
  omega

end

/-! ## The datagram (R136, R466) -/

/-- The block takes dictionary datagrams: awake, with the Time Base running, and no access held (R474, R502). -/
def State.hearsPeers (s : State) : Prop := s.pw.mode.awake = true ∧ s.clk.tbRun = true ∧ s.holds 0x20 = false

/-- A datagram is a dictionary message for this device (R466, R474). -/
def State.addressed (s : State) (m : List Byte) : Prop :=
  msgOk udpBody m = true ∧ field m 0 1 = 0x10 ∧ (field m 2 1 = 0xFF ∨ field m 2 1 = s.deviceId)

section
variable {s : State} {m : List Byte} {op addr port : Nat}

/-- A message for this device reaches its peer's slot where it is in form, and is dropped and counted where it is not (R136). -/
theorem State.udpDict_addressed (hears : s.hearsPeers) (haddressed : s.addressed m)
    (hop : field (msgBody m) 0 1 = op ∨ field (msgBody m) 0 1 = 0) : s.udpDict op addr port m =
      if dictForm (msgBody m) = true then (s.bump 0xA010 3).peerRequest (addr, port) (msgBody m)
      else (s.bump 0xA010 3).bump 0x1F98 3 := by
  obtain ⟨hawake, htb, hholds⟩ := hears
  obtain ⟨hok, htype, hdst⟩ := haddressed
  have hid : (s.bump 0xA010 3).deviceId = s.deviceId := s.obj_bump_ne (by decide)
  have hother : (1 ≤ field (msgBody m) 0 1 && field (msgBody m) 0 1 ≤ 8 && field (msgBody m) 0 1 != op) = false := by
    rcases hop with h | h <;> simp [h]
  have hrelay : (field m 2 1 != 0xFF && field m 2 1 != (s.bump 0xA010 3).deviceId) = false := by
    rw [hid]
    rcases hdst with h | h <;> simp [h]
  simp only [State.udpDict, hawake, htb, hholds, hother, hok, htype, hrelay, Bool.not_true, Bool.or_self, bne_self_eq_false,
    Bool.false_eq_true, if_false]
  cases dictForm (msgBody m) <;> rfl

end

/-! ## What the slot makes of it (R137) -/

section
variable {s : State} {p : Nat} {peer : Nat × Nat} {b : List Byte}

theorem State.peerTurn_busy (h : (s.path p).busy.isSome = true) : s.peerTurn p peer b = s.bump 0x1F98 3 := if_pos h

theorem State.peerTurn_replay {r : Nat × List Byte} (hidle : (s.path p).busy = none) (h : (s.path p).lastResp = some r)
    (hsame : r.1 = field b 2 2) : s.peerTurn p peer b = (s.bump 0x1F98 2).emit (.udp peer.1 peer.2 r.2) := by
  simp [State.peerTurn, hidle, h, hsame]

theorem State.peerTurn_serves (hidle : (s.path p).busy = none) (hnew : ∀ r ∈ (s.path p).lastResp, r.1 ≠ field b 2 2)
    (hturn : (s.path p).inTurn b = true) : s.peerTurn p peer b = s.dictRequest p b := by
  unfold State.peerTurn
  cases hlast : (s.path p).lastResp with
  | none => simp [hidle, hlast, hturn]
  | some r => simp [hidle, hlast, hturn, hnew r hlast]

end

/-! ## The request as it is served -/

/-- A datagram that is counted, and the slot that it uses. -/
theorem AccessOnly.hears {keys : List Nat} (p : Nat) (s : State) (hkey : okey 0xA010 3 0 ∈ keys) :
    AccessOnly keys s (heard p s) := by
  have hcounted : AccessOnly keys s (s.bump 0xA010 3) := bump s (List.mem_append_left _ hkey)
  unfold Sys2Proof.heard
  exact hcounted.trans (modPath _ p (by rfl))

theorem path_heard (p : Nat) (s : State) : (heard p s).path p = { s.path p with peerAt := s.now } := by
  rw [heard, State.path_modPath_self, State.path_bump]

theorem out_heard (p : Nat) (s : State) : (heard p s).out = s.out := by rw [heard, State.modPath_out, State.bump_out]

theorem now_heard (p : Nat) (s : State) : (heard p s).now = s.now := (AccessOnly.hears (keys := messageKeys) p s (by simp)).now

/-- A message in form, of a peer that holds its slot, takes its turn there. -/
theorem State.udpDict_live {s : State} {op a o p : Nat} {m : List Byte} (hears : s.hearsPeers) (haddressed : s.addressed m)
    (hform : dictForm (msgBody m) = true) (hop : field (msgBody m) 0 1 = op) (hslot : s.peerSlot (a, o) = some p)
    (hlive : s.live p = true) : s.udpDict op a o m = (heard p s).peerTurn p (a, o) (msgBody m) := by
  have hslot' : (s.bump 0xA010 3).peerSlot (a, o) = some p := (State.peerSlot_congr (s.bump_paths _ _ _ _) _).trans hslot
  have hlive' : (s.bump 0xA010 3).live p = true := by rw [State.live, State.path_bump]; exact hlive
  have hnow : (s.bump 0xA010 3).now = s.now := by simp only [State.now, State.bump_clk]
  rw [State.udpDict_addressed hears haddressed (.inl hop), if_pos hform, State.peerRequest_eq hslot', if_pos hlive', hnow, heard]

section
variable {op a o p : Nat} {m : List Byte} {s : State} (h : Asked op a o m p s)
include h

/-- A request in form, in turn and new reaches its peer's path. -/
theorem udpDict_asked : s.udpDict op a o m = (heard p s).dictRequest p (msgBody m) := by
  obtain ⟨hears, haddressed, ⟨hform, hop⟩, hslot, hlive, hidle, hnew, hturn⟩ := h
  have hserves := State.peerTurn_serves (s := heard p s) (p := p) (peer := (a, o)) (b := msgBody m)
  rw [path_heard] at hserves
  rw [State.udpDict_live hears haddressed hform hop hslot hlive]
  exact hserves hidle hnew hturn

/-- A request whose response leaves at once. -/
theorem udpDict_responds {r : List Byte} {t : State} (hserve : (heard p s).dictServe p (msgBody m) = (some r, t)) :
    s.udpDict op a o m = t.dictRespond p r := by
  rw [udpDict_asked h, State.dictRequest, hserve]

/-- A request whose response waits for the attic (R101). -/
theorem udpDict_waits {t : State} (hserve : (heard p s).dictServe p (msgBody m) = (none, t)) : s.udpDict op a o m = t := by
  rw [udpDict_asked h, State.dictRequest, hserve]

theorem peer_of_asked : (s.path p).peer = (a, o) ∧ p ≠ 0x30 := by
  obtain ⟨-, -, -, hslot, hlive, -⟩ := h
  exact ⟨State.peer_of_peerSlot hslot hlive, (State.peerSlot_lt hslot).ne⟩

end

/-! ## Responses (R136, R137) -/

/-- A peer's path once it has been sent a response: it waits for nothing, and keeps the response. -/
def PathState.responded (q : PathState) (s : State) (r : List Byte) : PathState :=
  { q with busy := none, lastResp := some (field r 2 2, fuindMsg 0x10 s.deviceId 0xFF r) }

section
variable {a o p : Nat} {s t : State}

/-- A response leaves to its peer, whose slot keeps it. -/
theorem dictRespond_replies (hp : p ≠ 0x30) (hpeer : (t.path p).peer = (a, o)) (hid : t.deviceId = s.deviceId) (r : List Byte) :
    Replied a o p r s (t.dictRespond p r) ∧ (t.dictRespond p r).path p = (t.path p).responded s r ∧
      AccessOnly messageKeys t (t.dictRespond p r) := by
  have heq : t.dictRespond p r = ((t.modPath p fun q => q.responded s r).bump 0x1F98 1).emit
      (.udp a o (fuindMsg 0x10 s.deviceId 0xFF r)) := by
    simp only [State.dictRespond, if_neg hp, hpeer, hid]
    rfl
  have hpath : (t.dictRespond p r).path p = (t.path p).responded s r := by
    rw [heq, State.path_emit, State.path_bump, State.path_modPath_self]
  refine ⟨⟨by rw [heq]; rfl, by rw [hpath]; rfl, by rw [hpath]; rfl⟩, hpath, ?_⟩
  rw [heq]
  exact ((AccessOnly.modPath t p (by rfl)).trans (.bump _ (by simp))).trans (.emit _ _)

/-- A request that is served with a response: its peer is sent it, and beside what serving has changed nothing has. -/
theorem asked_replies {op : Nat} {m r : List Byte} (h : Asked op a o m p s)
    (hserve : (heard p s).dictServe p (msgBody m) = (some r, t)) (only : AccessOnly messageKeys s t) :
    let w := s.udpDict op a o m
    Replied a o p r s w ∧ w.path p = (t.path p).responded s r ∧
      (w.journal = s.journal ∧ SameObjs messageKeys s w ∧ Calm s w) := by
  obtain ⟨hpeer, hp⟩ := peer_of_asked h
  obtain ⟨hreplied, hpath, responds⟩ := dictRespond_replies (s := s) hp ((only.peer p).trans hpeer) (only.obj 0x2000 5 0 (by decide)) r
  have all := only.trans responds
  dsimp only
  rw [udpDict_responds h hserve]
  exact ⟨hreplied, hpath, all.journal, all.same, all.calm⟩

end

end Sys2Proof.Machine
end

section
/-! # What each operation of a peer does (O46): R104, R110, R111, R136, R137 -/

namespace Sys2Proof.Machine

open Sys2Proof

/-! ## Reads (R98, R136) -/

section
variable {s : State} {p i j c : Nat} {b : List Byte} {whole : Bool}

/-- A read that is refused shows its code (R98, R108). -/
theorem State.dictRead_refused (hi : i ≠ 0x2020) (hpeek : s.peek p i j ((s.path p).channel (rowOf i j).sel) whole = .inl c) :
    s.dictRead p i j whole = (c, [], s.refuse p i j c) := by
  simp [State.dictRead, hi, hpeek]

theorem State.dictServe_read (hop : field b 0 1 = 1) (hsize : (rowOf (field b 4 2) (field b 6 1)).ty.size ≤ 8) :
    s.dictServe p b = (some (dictReply b 0 (s.dictRead p (field b 4 2) (field b 6 1)).1
      (s.dictRead p (field b 4 2) (field b 6 1)).2.1 []), (s.dictRead p (field b 4 2) (field b 6 1)).2.2) := by
  have hshort : ¬8 < (rowOf (field b 4 2) (field b 6 1)).ty.size := Nat.not_lt.mpr hsize
  simp [State.dictServe, State.dictFetch, hop, hshort]

/-- A string of more than 8 bytes is not a value of one response (R111). -/
theorem State.dictServe_longString (hop : field b 0 1 = 1) (hserve : s.serveCode p (field b 4 2) = 0)
    (hexists : existsCode (field b 4 2) (field b 6 1) = 0) (hsize : 8 < (rowOf (field b 4 2) (field b 6 1)).ty.size) :
    s.dictServe p b = (some (dictReply b 0 0x06010000 [] []), s.refuse p (field b 4 2) (field b 6 1) 0x06010000) := by
  simp [State.dictServe, State.dictFetch, hop, hserve, hexists, hsize]

end

/-! ## Writes (R101, R108) -/

/-- What a refused write may have changed: the wrong keys counted, 0x2010:06, and the status of a state request, 0xB000:02. -/
abbrev refusedKeys : List Nat := [okey 0x2010 6 0, okey 0xB000 2 0]

section
variable {s : State} {p i j ch v : Nat} {data : List Byte} {byRecord answers : Bool}

/-- A refused key fails its path's sequence (R115). -/
theorem State.unlockKey_refused (h : (s.unlockKey p v).1 ≠ 0) : (s.unlockKey p v).2 = s.failKey p := by
  by_cases hmode : s.pw.mode.unlocks
  · cases harmed : (s.path p).armed with
    | none =>
      rw [State.unlockKey_unarmed hmode harmed] at h ⊢
      split at h
      next => exact absurd rfl h
      next hkey => rw [if_neg hkey]
    | some a =>
      rw [State.unlockKey_armed hmode harmed] at h ⊢
      split at h
      next => exact absurd rfl h
      next hkey => rw [if_neg hkey]
  · rw [State.unlockKey_elsewhere hmode]

/-- A refused state request shows its status (R54). -/
theorem State.requestWrite_refused {inWindow : Bool} (h : (s.requestWrite p v inWindow byRecord).1 ≠ 0) :
    (s.requestWrite p v inWindow byRecord).2 = s.setObj 0xB000 2 (s.requestStatus p v inWindow) := by
  unfold State.requestWrite at h ⊢
  dsimp only at h ⊢
  split at h
  next => exact absurd rfl h
  next hst => rw [if_neg hst]

/-- A judged value whose commit is refused: a wrong key, a request that the state refuses, or a path-local value that names
nothing. -/
theorem AccessOnly.commitWrite_refused (hdom : (rowOf i j).ty.isDomain = false)
    (h : (s.commitWrite p i j ch data byRecord answers).1 ≠ 0) :
    AccessOnly refusedKeys s (s.commitWrite p i j ch data byRecord answers).2 := by
  unfold State.commitWrite at h ⊢
  simp only [hdom, Bool.false_eq_true, if_false] at h ⊢
  split_ifs at h ⊢ with hkey hreq hcls hcode hattic
  · rw [State.unlockKey_refused h]
    exact (failKey s p).mono (by simp)
  · rw [State.requestWrite_refused h]
    exact setObj s (by simp)
  · exact refl s
  · exact absurd rfl h
  · exact absurd rfl h
  · exact absurd rfl h

/-- A write is judged once it has ended an armed sequence, and committed where it is in order (R111, R115). -/
theorem State.dictWrite_judged (hi : i ≠ 0x2020) : ∃ u, AccessOnly refusedKeys s u ∧
    let ch := (s.path p).channel (rowOf i j).sel
    let c := u.judge p i j ch data false false
    let r := (u.windowEdge p i j).commitWrite p i j ch data false answers
    s.dictWrite p i j data false answers =
      if c ≠ 0 then (c, u.refuse p i j c) else if r.1 ≠ 0 then (r.1, r.2.refuse p i j r.1) else (0, r.2) := by
  by_cases hkey : i = 0x2010 ∧ j = 1 ∧ s.formCode p i j data false = 0
  · obtain ⟨rfl, rfl, hform⟩ := hkey
    exact ⟨s, .refl s, by simp [State.dictWrite, hform]⟩
  · refine ⟨s.endSequence p, (AccessOnly.endSequence s p).mono (by simp), ?_⟩
    rw [← and_assoc] at hkey
    simp [State.dictWrite, hi, hkey]

/-- A write of a value that is refused shows its code on its path, and changes beside it what a refusal counts (R108, R115). -/
theorem State.dictWrite_refused (hi : i ≠ 0x2020) (h : (s.dictWrite p i j data false answers).1 ≠ 0) :
    AccessOnly refusedKeys s (s.dictWrite p i j data false answers).2 ∧
      ((s.dictWrite p i j data false answers).2.path p).refusal = (s.dictWrite p i j data false answers).1 := by
  obtain ⟨u, only, heq⟩ := State.dictWrite_judged (s := s) (p := p) (j := j) (data := data) (answers := answers) hi
  dsimp only at heq
  rw [heq] at h ⊢
  split_ifs at h ⊢ with hc hr
  · exact ⟨only.trans (.refuse _ _ _ _ _), by rw [State.path_refuse_self]; rfl⟩
  · have hcommit := AccessOnly.commitWrite_refused (State.not_isDomain_of_judge (not_not.mp hc)) hr
    exact ⟨(only.trans (.windowEdge _ _ _ _)).trans (hcommit.trans (.refuse _ _ _ _ _)), by rw [State.path_refuse_self]; rfl⟩
  · exact absurd rfl h

end

section
variable {s : State} {p : Nat} {b : List Byte}

/-- A write of a value, which is answered at once or waits for the attic (R101). -/
theorem State.dictServe_write (hop : field b 0 1 = 2) (hi : field b 4 2 ≠ 0x2020) :
    let r := s.dictWrite p (field b 4 2) (field b 6 1) (slice b 16 (field b 7 1)) false true
    s.dictServe p b = r.2.dictWait p b r.1 (r.1 = 0 && (rowOf (field b 4 2) (field b 6 1)).cls = .attic) := by
  simp [State.dictServe, State.dictValue, State.accessOn, hop, hi]

/-! ## Starts of transfers (R110, R136) -/

/-- An upload starts with its total. -/
theorem State.dictServe_uploadStart {v : List Byte} (hop : field b 0 1 = 3)
    (hpeek : s.peek p (field b 4 2) (field b 6 1) ((s.path p).channel (rowOf (field b 4 2) (field b 6 1)).sel) true = .inr v) :
    s.dictServe p b = (some (dictReply b v.length 0 [] []), (s.dictRead p (field b 4 2) (field b 6 1) true).2.2.modPath p
      fun q => { q with session := some (uploadOf (s.path p) v s.now 1024 (field b 4 2) (field b 6 1)), sessionFail := none }) := by
  simp [State.dictServe, State.dictUploadStart, uploadOf, hop, hpeek]

/-- An upload of a target that cannot be read is refused at its start. -/
theorem State.dictServe_uploadStart_refused {c : Nat} (hop : field b 0 1 = 3)
    (hpeek : s.peek p (field b 4 2) (field b 6 1) ((s.path p).channel (rowOf (field b 4 2) (field b 6 1)).sel) true = .inl c) :
    s.dictServe p b = (some (dictReply b 0 c [] []), s.refuse p (field b 4 2) (field b 6 1) c) := by
  simp [State.dictServe, State.dictUploadStart, hop, hpeek]

/-- A download starts where its target takes it, and is refused with the target's code where not. -/
theorem State.dictServe_downloadStart (hop : field b 0 1 = 5) :
    s.dictServe p b = if s.downloadCode p (field b 4 2) (field b 6 1) (field b 8 4) = 0 then
        (some (dictReply b 0 0 [] []), s.modPath p fun q => { q with
          session := some (downloadOf (s.path p) (field b 8 4) s.now 1024 (field b 4 2) (field b 6 1)), sessionFail := none })
      else (some (dictReply b 0 (s.downloadCode p (field b 4 2) (field b 6 1) (field b 8 4)) [] []),
        s.refuse p (field b 4 2) (field b 6 1) (s.downloadCode p (field b 4 2) (field b 6 1) (field b 8 4))) := by
  by_cases hcode : s.downloadCode p (field b 4 2) (field b 6 1) (field b 8 4) = 0
  · simp [State.dictServe, State.dictDownloadStart, downloadOf, hop, hcode]
  · simp [State.dictServe, State.dictDownloadStart, hop, hcode]

/-! ## Accesses of an open transfer (R110, R136) -/

/-- The operations on a transfer that is open: a segment of an upload or a download, the commit, and the abort. -/
def ofTransfer (op : Nat) : Prop := op = 4 ∨ op = 6 ∨ op = 7 ∨ op = 8

/-- A transfer that has failed since its last request answers the next one with its code, and is gone. -/
theorem State.dictServe_failed {c : Nat} (hop : ofTransfer (field b 0 1)) (hclosed : (s.path p).session = none)
    (hfail : (s.path p).sessionFail = some c) : s.dictServe p b = (some (dictReply b 0 c [] []), s.endSession p) := by
  rcases hop with h | h | h | h <;> simp [State.dictServe, h, hclosed, hfail]

/-- An abort with no transfer open ends none. -/
theorem State.dictServe_abort_closed (hop : field b 0 1 = 8) (hclosed : (s.path p).session = none)
    (hfail : (s.path p).sessionFail = none) : s.dictServe p b = (some (dictReply b 0 0 [] []), s) := by
  simp [State.dictServe, hop, hclosed, hfail]

section
variable {x : Xfer} (hopen : (s.path p).session = some x)
include hopen

/-- An abort ends the transfer. -/
theorem State.dictServe_abort (hop : field b 0 1 = 8) : s.dictServe p b = (some (dictReply b 0 0 [] []), s.endSession p) := by
  simp [State.dictServe, hop, hopen]

/-- A transfer that the rules in force no longer admit ends with its code. -/
theorem State.dictServe_notAdmitted (hop : field b 0 1 = 4 ∨ field b 0 1 = 6 ∨ field b 0 1 = 7) (hcode : s.xferCode p x ≠ 0) :
    s.dictServe p b = (some (dictReply b 0 (s.xferCode p x) [] []), (s.endSession p).refuse p x.idx x.sub (s.xferCode p x)) := by
  rcases hop with h | h | h <;>
    simp [State.dictServe, State.dictUploadNext, State.dictDownloadSegment, State.dictCommit, State.sessionStep, h, hopen, hcode]

variable (hcode : s.xferCode p x = 0)
include hcode

/-- The next segment of an upload, up to 1,024 bytes at its offset; the transfer closes with the last one. -/
theorem State.dictServe_uploadNext (hop : field b 0 1 = 4) :
    let v := slice x.data x.offset (min 1024 (x.total - x.offset))
    let u := s.nearEdge x.at_ 1000000
    s.dictServe p b = (some (dictReply b x.offset 0 [] v),
      if x.total ≤ x.offset + v.length then u.endSession p
      else u.modPath p fun q => { q with session := some { x with offset := x.offset + v.length, seg := v.length, at_ := u.now } }) := by
  simp only [State.dictServe, State.dictUploadNext, State.sessionStep, hop, hopen, hcode, bne_self_eq_false, Bool.false_eq_true,
    if_false, if_true]
  rfl

/-- A segment of a download joins its data. -/
theorem State.dictServe_downloadSegment (hop : field b 0 1 = 6) :
    let d := x.data ++ b.drop 24
    let u := s.nearEdge x.at_ 1000000
    s.dictServe p b = (some (dictReply b x.offset 0 [] []),
      u.modPath p fun q => { q with session := some { x with data := d, offset := d.length, at_ := u.now } }) := by
  simp only [State.dictServe, State.dictDownloadSegment, State.sessionStep, hop, hopen, hcode, bne_self_eq_false,
    Bool.false_eq_true, if_false, if_true]
  rfl

/-- The commit of a download, off the edge of its expiry (R143, R211). -/
theorem State.dictServe_commit (hop : field b 0 1 = 7) (hedge : s.now ≠ x.at_ + 1000000) :
    let r := (s.endSession p).commitXfer p x true
    s.dictServe p b = r.2.2.dictWait p b r.1 r.2.1 := by
  have hoff : s.nearEdge x.at_ 1000000 = s := if_neg hedge
  simp only [State.dictServe, State.dictCommit, State.sessionStep, hop, hopen, hcode, hoff, bne_self_eq_false,
    Bool.false_eq_true, if_false, if_true]
  rfl

end

end

theorem AccessOnly.endSession {keys : List Nat} (s : State) (p : Nat) : AccessOnly keys s (s.endSession p) := modPath s p rfl

end Sys2Proof.Machine
end

section
/-! # The messages of UDP peers (O46), each in turn: R104, R110, R111, R136, R137, R139, R466, R474 -/

namespace Sys2Proof

open Sys2Proof.Machine

variable {addr : BitVec 32} {port : BitVec 16} {m : List Byte} {p : Nat} {s : Machine.State}

/-! ## What a request finds on its path -/

theorem channel_heard (sel : Sel) : ((heard p s).path p).channel sel = (s.path p).channel sel := by rw [path_heard]; rfl

theorem session_heard : ((heard p s).path p).session = (s.path p).session := by rw [path_heard]

theorem xferCode_heard (x : Xfer) : (heard p s).xferCode p x = s.xferCode p x := (AccessOnly.hears p s (by simp)).xferCode p x

theorem op_of_asked {op a o : Nat} (h : Asked op a o m p s) : field (msgBody m) 0 1 = op := by
  obtain ⟨-, -, ⟨-, hop⟩, -⟩ := h
  exact hop

/-- A request that is served with a response: what is to hold may rest on the response that its peer is sent, on the path as the
response leaves it, and on all else that stays. -/
theorem answers_asked {op : Nat} {c : Instr} {r : List Byte} {t : Machine.State} {q : Machine.State → Prop}
    (hexec : exec c s = .next (s.udpDict op addr.toNat port.toNat m)) (h : Asked op addr.toNat port.toNat m p s)
    (hserve : (heard p s).dictServe p (msgBody m) = (some r, t)) (only : AccessOnly messageKeys (heard p s) t)
    (hq : ∀ w, Replied addr.toNat port.toNat p r s w → w.path p = (t.path p).responded s r →
      (w.journal = s.journal ∧ SameObjs messageKeys s w ∧ Calm s w) → q w) : Answers c s q := by
  obtain ⟨told, hpath, still⟩ := asked_replies h hserve ((AccessOnly.hears p s (by simp)).trans only)
  exact answers_next hexec (hq _ told hpath still)

/-! ## Reads -/

section
variable (h : Asked 1 addr.toNat port.toNat m p s)
include h

/-- A read of a value of up to 8 bytes answers it. -/
theorem udpDictRead_value (hi : field (msgBody m) 4 2 ≠ 0x2020)
    (hsize : (rowOf (field (msgBody m) 4 2) (field (msgBody m) 6 1)).ty.size ≤ 8) {v : List Byte}
    (hpeek : (heard p s).peek p (field (msgBody m) 4 2) (field (msgBody m) 6 1)
      ((s.path p).channel (rowOf (field (msgBody m) 4 2) (field (msgBody m) 6 1)).sel) false = .inr v)
    (hrc : (rowOf (field (msgBody m) 4 2) (field (msgBody m) 6 1)).acc ≠ .rc) :
    Answers (.udpDictRead addr port m) s (fun t => Replied addr.toNat port.toNat p (dictReply (msgBody m) 0 0 v []) s t ∧
      t.journal = s.journal ∧ SameObjs messageKeys s t ∧ Calm s t) := by
  rw [← channel_heard] at hpeek
  have hserve := State.dictServe_read (s := heard p s) (p := p) (op_of_asked h) hsize
  rw [State.dictRead_value (absurd · hi) hpeek, if_neg hrc] at hserve
  exact answers_asked rfl h hserve (.latchFraction _ _ _ _) fun w told _ still => ⟨told, still⟩

/-- A read that is refused answers its code. -/
theorem udpDictRead_refused (hi : field (msgBody m) 4 2 ≠ 0x2020)
    (hsize : (rowOf (field (msgBody m) 4 2) (field (msgBody m) 6 1)).ty.size ≤ 8) {c : Nat}
    (hpeek : (heard p s).peek p (field (msgBody m) 4 2) (field (msgBody m) 6 1)
      ((s.path p).channel (rowOf (field (msgBody m) 4 2) (field (msgBody m) 6 1)).sel) false = .inl c) :
    Answers (.udpDictRead addr port m) s (fun t => Replied addr.toNat port.toNat p (dictReply (msgBody m) 0 c [] []) s t ∧
      (t.path p).refusal = c ∧ t.journal = s.journal ∧ SameObjs messageKeys s t ∧ Calm s t) := by
  rw [← channel_heard] at hpeek
  have hserve := State.dictServe_read (s := heard p s) (p := p) (op_of_asked h) hsize
  rw [State.dictRead_refused hi hpeek] at hserve
  refine answers_asked rfl h hserve (.refuse _ _ _ _ _) fun w told hpath still => ⟨told, ?_, still⟩
  rw [hpath, State.path_refuse_self]
  rfl

/-- A longer string is read by a segmented transfer (R111). -/
theorem udpDictRead_longString (hserved : s.serveCode p (field (msgBody m) 4 2) = 0)
    (hexists : existsCode (field (msgBody m) 4 2) (field (msgBody m) 6 1) = 0)
    (hsize : 8 < (rowOf (field (msgBody m) 4 2) (field (msgBody m) 6 1)).ty.size) :
    Answers (.udpDictRead addr port m) s (fun t =>
      Replied addr.toNat port.toNat p (dictReply (msgBody m) 0 0x06010000 [] []) s t ∧
      t.journal = s.journal ∧ SameObjs messageKeys s t ∧ Calm s t) :=
  answers_asked rfl h (State.dictServe_longString (op_of_asked h) (((AccessOnly.hears p s (by simp)).serveCode p _).trans hserved) hexists hsize)
    (.refuse _ _ _ _ _) fun _ told _ still => ⟨told, still⟩

end

/-! ## Writes -/

section
variable (h : Asked 2 addr.toNat port.toNat m p s) (hi : field (msgBody m) 4 2 ≠ 0x2020) {r : Nat × Machine.State}
variable (hr : (heard p s).dictWrite p (field (msgBody m) 4 2) (field (msgBody m) 6 1)
  (slice (msgBody m) 16 (field (msgBody m) 7 1)) false true = r)
include h hi hr

/-- A write that is refused answers its code, which its path shows. -/
theorem udpDictWrite_refused (hcode : r.1 ≠ 0) : Answers (.udpDictWrite addr port m) s (fun t =>
    Replied addr.toNat port.toNat p (dictReply (msgBody m) 0 r.1 [] []) s t ∧ (t.path p).refusal = r.1) := by
  have hserve := State.dictServe_write (s := heard p s) (p := p) (op_of_asked h) hi
  rw [hr] at hserve
  obtain ⟨only, hrefusal⟩ := State.dictWrite_refused (answers := true) hi (by rw [hr]; exact hcode)
  rw [hr] at only hrefusal
  have hnow : r.2.dictWait p (msgBody m) r.1 (r.1 = 0 && (rowOf (field (msgBody m) 4 2) (field (msgBody m) 6 1)).cls = .attic) =
      (some (dictReply (msgBody m) 0 r.1 [] []), r.2) := by simp [State.dictWait, hcode]
  obtain ⟨hpeer, hp⟩ := peer_of_asked h
  have counted := AccessOnly.hears (keys := messageKeys) p s (by simp)
  obtain ⟨told, hpath, -⟩ := dictRespond_replies (s := s) hp ((only.peer p).trans ((counted.peer p).trans hpeer))
    ((only.obj 0x2000 5 0 (by decide)).trans (counted.obj 0x2000 5 0 (by decide))) (dictReply (msgBody m) 0 r.1 [] [])
  refine answers_next (t := s.udpDict 2 addr.toNat port.toNat m) rfl ?_
  rw [udpDict_responds h (hserve.trans hnow)]
  exact ⟨told, by rw [hpath]; exact hrefusal⟩

/-- A write that takes effect is answered with 0. -/
theorem udpDictWrite_answered (hcode : r.1 = 0) (hcls : (rowOf (field (msgBody m) 4 2) (field (msgBody m) 6 1)).cls ≠ .attic) :
    Answers (.udpDictWrite addr port m) s (fun t => t = r.2.dictRespond p (dictReply (msgBody m) 0 0 [] [])) := by
  have hserve := State.dictServe_write (s := heard p s) (p := p) (op_of_asked h) hi
  rw [hr] at hserve
  refine answers_next (t := s.udpDict 2 addr.toNat port.toNat m) rfl (udpDict_responds h (hserve.trans ?_))
  simp [State.dictWait, hcode, hcls]

/-- A write of an attic entry keeps its response until the attic has stored it. -/
theorem udpDictWrite_waits (hcode : r.1 = 0) (hcls : (rowOf (field (msgBody m) 4 2) (field (msgBody m) 6 1)).cls = .attic) :
    Answers (.udpDictWrite addr port m) s (fun t => (t.path p).busy = some (dictReply (msgBody m) 0 0 [] []) ∧
      t.out = r.2.out ∧ t.attic = r.2.attic) := by
  have hserve := State.dictServe_write (s := heard p s) (p := p) (op_of_asked h) hi
  rw [hr] at hserve
  have hwait : r.2.dictWait p (msgBody m) r.1 (r.1 = 0 && (rowOf (field (msgBody m) 4 2) (field (msgBody m) 6 1)).cls = .attic) =
      (none, r.2.modPath p fun q => { q with busy := some (dictReply (msgBody m) 0 0 [] []) }) := by
    simp [State.dictWait, hcode, hcls]
  refine answers_next (t := s.udpDict 2 addr.toNat port.toNat m) rfl ?_
  rw [udpDict_waits h (hserve.trans hwait), State.path_modPath_self]
  exact ⟨rfl, rfl, rfl⟩

end

/-! ## Starts of transfers -/

section
variable (h : Asked 3 addr.toNat port.toNat m p s)
include h

/-- An upload's start answers its total, and opens the transfer at offset 0. -/
theorem udpUploadStart_starts {v : List Byte} (hpeek : (heard p s).peek p (field (msgBody m) 4 2) (field (msgBody m) 6 1)
      ((s.path p).channel (rowOf (field (msgBody m) 4 2) (field (msgBody m) 6 1)).sel) true = .inr v)
    (hrc : (rowOf (field (msgBody m) 4 2) (field (msgBody m) 6 1)).acc ≠ .rc) (hi : field (msgBody m) 4 2 ≠ 0x2020) :
    Answers (.udpUploadStart addr port m) s (fun t =>
      Replied addr.toNat port.toNat p (dictReply (msgBody m) v.length 0 [] []) s t ∧
      (t.path p).session.map (fun x => (x.upload, x.idx, x.sub, x.data, x.offset, x.maxSeg)) =
        some (true, field (msgBody m) 4 2, field (msgBody m) 6 1, v, 0, 1024) ∧
      t.journal = s.journal ∧ SameObjs messageKeys s t ∧ Calm s t) := by
  rw [← channel_heard] at hpeek
  have hserve := State.dictServe_uploadStart (op_of_asked h) hpeek
  rw [State.dictRead_value (absurd · hi) hpeek, if_neg hrc] at hserve
  refine answers_asked rfl h hserve ((AccessOnly.latchFraction _ _ _ _).trans (.modPath _ p (by rfl))) fun w told hpath still =>
    ⟨told, ?_, still⟩
  rw [hpath, State.path_modPath_self]
  rfl

/-- An upload's start whose target cannot be read answers its code. -/
theorem udpUploadStart_refused {c : Nat} (hpeek : (heard p s).peek p (field (msgBody m) 4 2) (field (msgBody m) 6 1)
      ((s.path p).channel (rowOf (field (msgBody m) 4 2) (field (msgBody m) 6 1)).sel) true = .inl c) :
    Answers (.udpUploadStart addr port m) s (fun t => Replied addr.toNat port.toNat p (dictReply (msgBody m) 0 c [] []) s t ∧
      (t.path p).refusal = c ∧ t.journal = s.journal ∧ SameObjs messageKeys s t ∧ Calm s t) := by
  rw [← channel_heard] at hpeek
  refine answers_asked rfl h (State.dictServe_uploadStart_refused (op_of_asked h) hpeek) (.refuse _ _ _ _ _)
    fun w told hpath still => ⟨told, ?_, still⟩
  rw [hpath, State.path_refuse_self]
  rfl

end

section
variable (h : Asked 5 addr.toNat port.toNat m p s)
include h

/-- A download's start opens the transfer where its target takes it. -/
theorem udpDownloadStart_starts
    (hcode : (heard p s).downloadCode p (field (msgBody m) 4 2) (field (msgBody m) 6 1) (field (msgBody m) 8 4) = 0) :
    Answers (.udpDownloadStart addr port m) s (fun t => Replied addr.toNat port.toNat p (dictReply (msgBody m) 0 0 [] []) s t ∧
      (t.path p).session.map (fun x => (x.upload, x.idx, x.sub, x.total, x.data)) =
        some (false, field (msgBody m) 4 2, field (msgBody m) 6 1, field (msgBody m) 8 4, []) ∧
      t.journal = s.journal ∧ SameObjs messageKeys s t ∧ Calm s t) := by
  have hserve := State.dictServe_downloadStart (s := heard p s) (p := p) (op_of_asked h)
  rw [if_pos hcode] at hserve
  refine answers_asked rfl h hserve (.modPath _ p (by rfl)) fun w told hpath still => ⟨told, ?_, still⟩
  rw [hpath, State.path_modPath_self]
  rfl

/-- A download's start that its target refuses answers the target's code. -/
theorem udpDownloadStart_refused {c : Nat}
    (hcode : (heard p s).downloadCode p (field (msgBody m) 4 2) (field (msgBody m) 6 1) (field (msgBody m) 8 4) = c) (hc : c ≠ 0) :
    Answers (.udpDownloadStart addr port m) s (fun t => Replied addr.toNat port.toNat p (dictReply (msgBody m) 0 c [] []) s t ∧
      (t.path p).session = none ∧ t.journal = s.journal ∧ SameObjs messageKeys s t ∧ Calm s t) := by
  have hserve := State.dictServe_downloadStart (s := heard p s) (p := p) (op_of_asked h)
  rw [hcode, if_neg hc] at hserve
  refine answers_asked rfl h hserve (.refuse _ _ _ _ _) fun w told hpath still => ⟨told, ?_, still⟩
  obtain ⟨-, -, ⟨-, hop⟩, -, -, -, -, hturn⟩ := h
  rw [hpath, State.path_refuse_self]
  simpa [PathState.inTurn, hop, PathState.responded, PathState.noteRefusal, session_heard] using hturn

end

/-! ## Accesses of an open transfer -/

section
variable {x : Xfer} (hopen : (s.path p).session = some x)
include hopen

/-- The next segment of an upload is answered, at its offset. -/
theorem udpUploadNext_answers (hcode : s.xferCode p x = 0) (h : Asked 4 addr.toNat port.toNat m p s) {v : List Byte}
    (hv : slice x.data x.offset (min 1024 (x.total - x.offset)) = v) :
    Answers (.udpUploadNext addr port m) s (fun t =>
      Replied addr.toNat port.toNat p (dictReply (msgBody m) x.offset 0 [] v) s t ∧
      (t.path p).session.map (fun y => y.offset) =
        (if x.total ≤ x.offset + v.length then none else some (x.offset + v.length)) ∧
      t.journal = s.journal ∧ SameObjs messageKeys s t ∧ Calm s t) := by
  have hserve := State.dictServe_uploadNext (session_heard.trans hopen) ((xferCode_heard x).trans hcode) (op_of_asked h)
  dsimp only at hserve
  rw [hv] at hserve
  have edge : AccessOnly messageKeys (heard p s) ((heard p s).nearEdge x.at_ 1000000) := .nearEdge _ _ _
  by_cases hlast : x.total ≤ x.offset + v.length
  · rw [if_pos hlast] at hserve
    refine answers_asked rfl h hserve (edge.trans (.endSession _ _)) fun w told hpath still => ⟨told, ?_, still⟩
    rw [hpath, if_pos hlast, State.endSession, State.path_modPath_self]
    rfl
  · rw [if_neg hlast] at hserve
    refine answers_asked rfl h hserve (edge.trans (.modPath _ p (by rfl))) fun w told hpath still => ⟨told, ?_, still⟩
    rw [hpath, if_neg hlast, State.path_modPath_self]
    rfl

/-- A segment of a download joins its data. -/
theorem udpDownloadSegment_joins (hcode : s.xferCode p x = 0) (h : Asked 6 addr.toNat port.toNat m p s) :
    Answers (.udpDownloadSegment addr port m) s (fun t =>
      Replied addr.toNat port.toNat p (dictReply (msgBody m) x.offset 0 [] []) s t ∧
      (t.path p).session.map (fun y => y.data) = some (x.data ++ (msgBody m).drop 24) ∧
      t.journal = s.journal ∧ SameObjs messageKeys s t ∧ Calm s t) := by
  have hserve := State.dictServe_downloadSegment (session_heard.trans hopen) ((xferCode_heard x).trans hcode) (op_of_asked h)
  refine answers_asked rfl h hserve ((AccessOnly.nearEdge _ _ _).trans (.modPath _ p (by rfl))) fun w told hpath still => ⟨told, ?_, still⟩
  rw [hpath, State.path_modPath_self]
  rfl

section
variable (hcode : s.xferCode p x = 0) (h : Asked 7 addr.toNat port.toNat m p s) (hedge : s.now ≠ x.at_ + 1000000)
variable {r : Nat × Bool × Machine.State} (hr : ((heard p s).endSession p).commitXfer p x true = r)
include hcode h hedge hr

/-- A commit to an attic entry keeps its response until the attic has stored it. -/
theorem udpDownloadCommit_waits (hwait : r.2.1 = true) : Answers (.udpDownloadCommit addr port m) s (fun t =>
    (t.path p).busy = some (dictReply (msgBody m) 0 0 [] []) ∧ t.attic = r.2.2.attic ∧ t.out = r.2.2.out) := by
  have hserve := State.dictServe_commit (session_heard.trans hopen) ((xferCode_heard x).trans hcode) (op_of_asked h)
    (by rw [now_heard]; exact hedge)
  rw [hr] at hserve
  refine answers_next (t := s.udpDict 7 addr.toNat port.toNat m) rfl ?_
  rw [udpDict_waits h (hserve.trans (if_pos hwait)), State.path_modPath_self]
  exact ⟨rfl, rfl, rfl⟩

/-- Any other commit is answered with what it gave. -/
theorem udpDownloadCommit_answered (hwait : r.2.1 = false) (hid : r.2.2.deviceId = s.deviceId)
    (hpeer : (r.2.2.path p).peer = (addr.toNat, port.toNat)) : Answers (.udpDownloadCommit addr port m) s (fun t =>
      Replied addr.toNat port.toNat p (dictReply (msgBody m) 0 r.1 [] []) s t ∧ t.journal = r.2.2.journal) := by
  have hserve := State.dictServe_commit (session_heard.trans hopen) ((xferCode_heard x).trans hcode) (op_of_asked h)
    (by rw [now_heard]; exact hedge)
  rw [hr] at hserve
  obtain ⟨told, -, only⟩ := dictRespond_replies (s := s) (peer_of_asked h).2 hpeer hid (dictReply (msgBody m) 0 r.1 [] [])
  refine answers_next (t := s.udpDict 7 addr.toNat port.toNat m) rfl ?_
  rw [udpDict_responds h (hserve.trans (if_neg (by simp [hwait])))]
  exact ⟨told, only.journal⟩

end

/-- A transfer that the rules in force no longer admit ends with its code. -/
theorem udpTransfer_notAdmitted {op : Nat} {c : Instr} (hexec : exec c s = .next (s.udpDict op addr.toNat port.toNat m))
    (hop : op = 4 ∨ op = 6 ∨ op = 7) (hcode : s.xferCode p x ≠ 0) (h : Asked op addr.toNat port.toNat m p s) :
    Answers c s (fun t => Replied addr.toNat port.toNat p (dictReply (msgBody m) 0 (s.xferCode p x) [] []) s t ∧
      (t.path p).session = none ∧ (t.path p).refusal = s.xferCode p x ∧
      t.journal = s.journal ∧ SameObjs messageKeys s t ∧ Calm s t) := by
  rw [← op_of_asked h] at hop
  have hserve := State.dictServe_notAdmitted (session_heard.trans hopen) hop (by rw [xferCode_heard]; exact hcode)
  rw [xferCode_heard] at hserve
  refine answers_asked hexec h hserve ((AccessOnly.endSession _ _).trans (.refuse _ _ _ _ _)) fun w told hpath still => ?_
  rw [State.path_refuse_self, State.endSession, State.path_modPath_self] at hpath
  exact ⟨told, by rw [hpath]; rfl, by rw [hpath]; rfl, still⟩

end

/-- An abort ends the transfer that is open, if one is, with result 0. -/
theorem udpDictAbort_ends (h : Asked 8 addr.toNat port.toNat m p s)
    (hstate : (s.path p).session.isSome = true ∨ (s.path p).sessionFail = none) :
    Answers (.udpDictAbort addr port m) s (fun t => Replied addr.toNat port.toNat p (dictReply (msgBody m) 0 0 [] []) s t ∧
      (t.path p).session = none ∧ t.journal = s.journal ∧ SameObjs messageKeys s t ∧ Calm s t) := by
  cases hsession : (s.path p).session with
  | some x =>
    refine answers_asked rfl h (State.dictServe_abort (session_heard.trans hsession) (op_of_asked h)) (.endSession _ _)
      fun w told hpath still => ⟨told, ?_, still⟩
    rw [hpath, State.endSession, State.path_modPath_self]
    rfl
  | none =>
    have hfail : ((heard p s).path p).sessionFail = none := by
      rw [path_heard]
      simpa [hsession] using hstate
    refine answers_asked rfl h (State.dictServe_abort_closed (op_of_asked h) (session_heard.trans hsession) hfail) (.refl _)
      fun w told hpath still => ⟨told, ?_, still⟩
    rw [hpath]
    exact session_heard.trans hsession

/-- A transfer that has failed between requests answers its next one with its code (R136). -/
theorem udpTransfer_failed {op c : Nat} {i : Instr} (hexec : exec i s = .next (s.udpDict op addr.toNat port.toNat m))
    (hop : ofTransfer op) (hclosed : (s.path p).session = none) (hfail : (s.path p).sessionFail = some c)
    (h : Asked op addr.toNat port.toNat m p s) :
    Answers i s (fun t => Replied addr.toNat port.toNat p (dictReply (msgBody m) 0 c [] []) s t ∧
      (t.path p).sessionFail = none ∧ t.journal = s.journal ∧ SameObjs messageKeys s t ∧ Calm s t) := by
  rw [← op_of_asked h] at hop
  have hfail' : ((heard p s).path p).sessionFail = some c := by rw [path_heard]; exact hfail
  refine answers_asked hexec h (State.dictServe_failed hop (session_heard.trans hclosed) hfail') (.endSession _ _)
    fun w told hpath still => ⟨told, ?_, still⟩
  rw [hpath, State.endSession, State.path_modPath_self]
  rfl

end Sys2Proof
end

section
/-! # Drops, replays and new peers (O46): R104, R136, R137 -/

namespace Sys2Proof.Machine

open Sys2Proof

theorem objBits_messagesDropped : objBits 0x1F98 3 = 32 := by decide +kernel
theorem objBits_messagesReplayed : objBits 0x1F98 2 = 32 := by decide +kernel

/-- A new peer's slot is a fresh path of its own (R104). -/
theorem State.path_newPeer (s : State) (p : Nat) (peer : Nat × Nat) :
    (s.newPeer p peer).path p = { PathState.fresh with peer := peer } := by
  have hfresh : (s.freshPath p).path p = PathState.fresh := s.path_setPath_self p _
  rw [State.newPeer, State.path_setObj, State.path_modPath_self, hfresh]

/-- Beside its path, a new peer's slot counts in 0x1F98:04 alone. -/
theorem State.newPeer_eq (s : State) (p : Nat) (peer : Nat × Nat) : s.newPeer p peer = { s with
    paths := (s.newPeer p peer).paths, objs := (s.setObj 0x1F98 4 (s.obj 0x1F98 4 + 1)).objs } := by
  unfold State.newPeer State.modPath
  rfl

theorem State.obj_newPeer (s : State) (p : Nat) (peer : Nat × Nat) (i j c : Nat) :
    (s.newPeer p peer).obj i j c = (s.setObj 0x1F98 4 (s.obj 0x1F98 4 + 1)).obj i j c := by
  rw [State.newPeer_eq]
  rfl

/-- A count changes dictionary entries alone. -/
theorem State.bump_eq (s : State) (i j c n : Nat) : s.bump i j c n = { s with objs := (s.bump i j c n).objs } := rfl

/-- The state as a new peer's first message has reached it: counted, and its slot taken and used (R104). -/
def State.welcome (s : State) (p : Nat) (peer : Nat × Nat) : State :=
  ((s.bump 0xA010 3).newPeer p peer).modPath p fun q => { q with peerAt := s.now }

section
variable {s : State} {p : Nat} {peer : Nat × Nat}

/-- A message in form, of a peer whose slot is free, takes the slot and its turn there. -/
theorem State.udpDict_welcome {op a o : Nat} {m : List Byte} (hears : s.hearsPeers) (haddressed : s.addressed m)
    (hform : dictForm (msgBody m) = true) (hop : field (msgBody m) 0 1 = op) (hslot : s.peerSlot (a, o) = some p)
    (hfree : s.live p = false) : s.udpDict op a o m = (s.welcome p (a, o)).peerTurn p (a, o) (msgBody m) := by
  have hslot' : (s.bump 0xA010 3).peerSlot (a, o) = some p := (State.peerSlot_congr (s.bump_paths _ _ _ _) _).trans hslot
  have hfree' : ¬(s.bump 0xA010 3).live p = true := by rw [State.live, State.path_bump]; simpa [State.live] using hfree
  have hnow : ((s.bump 0xA010 3).newPeer p (a, o)).now = s.now := by
    rw [State.newPeer_eq]
    simp only [State.now, State.bump_clk]
  rw [State.udpDict_addressed hears haddressed (.inl hop), if_pos hform, State.peerRequest_eq hslot', if_neg hfree', hnow,
    State.welcome]

end

section
variable (s : State) (p : Nat) (peer : Nat × Nat)

theorem State.path_welcome : (s.welcome p peer).path p = { PathState.fresh with peer := peer, peerAt := s.now } := by
  rw [State.welcome, State.path_modPath_self, State.path_newPeer]

/-- Beside its paths, and the counters 0xA010:03 and 0x1F98:04, a new peer changes nothing. -/
theorem State.obj_welcome (i j c : Nat) (h3 : okey i j c ≠ okey 0xA010 3 0) (h4 : okey i j c ≠ okey 0x1F98 4 0) :
    (s.welcome p peer).obj i j c = s.obj i j c := by
  rw [State.welcome, State.obj_modPath, State.obj_newPeer, State.obj_setObj_ne _ h4, State.obj_bump_ne _ h3]

theorem State.peers_welcome : (s.welcome p peer).obj 0x1F98 4 = s.obj 0x1F98 4 + 1 := by
  rw [State.welcome, State.obj_modPath, State.obj_newPeer, State.obj_setObj_self, State.obj_bump_ne _ (by decide)]

/-- Beside its paths and its entries, a new peer leaves all as it is. -/
theorem State.welcome_eq : s.welcome p peer =
    { s with paths := (s.welcome p peer).paths, objs := (s.welcome p peer).objs } := by
  have hcounted := s.bump_eq 0xA010 3 0 1
  unfold State.welcome State.modPath
  generalize s.bump 0xA010 3 = u at hcounted ⊢
  rw [State.newPeer_eq, hcounted]
  rfl

theorem calm_welcome : Calm s (s.welcome p peer) := by
  have heq := s.welcome_eq p peer
  generalize s.welcome p peer = u at heq ⊢
  rw [heq]
  exact ⟨⟨fun _ => rfl, rfl⟩, rfl, rfl, rfl, rfl, rfl, rfl, rfl⟩

theorem State.journal_welcome : (s.welcome p peer).journal = s.journal := by rw [State.welcome_eq]

/-- What a new peer is served is what the slot was. -/
theorem State.serveCode_welcome (q i : Nat) : (s.welcome p peer).serveCode q i = s.serveCode q i := by
  refine State.serveCode_congr ?_ ?_ ?_ (s.obj_welcome p peer 0x5050 2 0 (by decide) (by decide)) q i <;> rw [State.welcome_eq]

end

/-! ## The producer's heartbeat time -/

theorem rowOf_producerHeartbeat :
    rowOf 0x1017 0 = ⟨0x1017, 0x1017, 0, 0, .u 16, .rw, false, .retained, .none, .lit 100, .any⟩ := by
  decide +kernel

/-- 0x1017:00 reads what it holds, on every path that serves it. -/
theorem State.peek_producerHeartbeat {s : State} {p ch : Nat} (hserve : s.serveCode p 0x1017 = 0) (hch : chanKey ch = 0) :
    s.peek p 0x1017 0 ch false = .inr (leBytes 2 (s.obj 0x1017 0)) := by
  have hexists : existsCode 0x1017 0 = 0 := by decide +kernel
  have hrow : (objRow? 0x1017 0).isNone = false := by decide +kernel
  have hread : s.readNat p 0x1017 0 0 = .inr (s.obj 0x1017 0) := by
    unfold State.readNat
    rw [hrow]
    rfl
  simp [State.peek, hserve, hexists, rowOf_producerHeartbeat, ObjTy.isDomain, ObjTy.size, hch, hread]

end Sys2Proof.Machine

namespace Sys2Proof

open Sys2Proof.Machine

section
variable {addr : BitVec 32} {port : BitVec 16} {m : List Byte} {p : Nat} {s : Machine.State}
variable (hears : s.hearsPeers) (haddressed : s.addressed m)
include hears haddressed

/-- A message out of form is dropped and counted (R136). -/
theorem udpDict_outOfForm {op : Nat} {i : Instr} (hexec : exec i s = .next (s.udpDict op addr.toNat port.toNat m))
    (hform : dictForm (msgBody m) = false) (hop : field (msgBody m) 0 1 = 0) : Answers i s (fun t =>
      t.obj 0x1F98 3 = (s.obj 0x1F98 3 + 1) % 2 ^ 32 ∧ t.out = s.out ∧ t.journal = s.journal ∧
      SameObjs [okey 0x1F98 3 0, okey 0xA010 3 0] s t ∧ Calm s t) := by
  refine answers_next hexec ?_
  rw [State.udpDict_addressed hears haddressed (.inr hop), if_neg (by simp [hform])]
  have only : AccessOnly [okey 0x1F98 3 0, okey 0xA010 3 0] s ((s.bump 0xA010 3).bump 0x1F98 3) :=
    (AccessOnly.bump s (by simp)).trans (.bump _ (by simp))
  refine ⟨?_, by rw [State.bump_out, State.bump_out], only.journal, only.same, only.calm⟩
  rw [State.obj_bump_self, objBits_messagesDropped, State.obj_bump_ne _ (by decide)]

section
variable (hform : dictForm (msgBody m) = true) (hop : field (msgBody m) 0 1 = 2)
variable (hslot : s.peerSlot (addr.toNat, port.toNat) = some p) (hlive : s.live p = true)
include hform hop hslot hlive

/-- A message to a slot that waits for the attic is dropped and counted (R137). -/
theorem udpDictWrite_busy (hbusy : (s.path p).busy.isSome = true) : Answers (.udpDictWrite addr port m) s (fun t =>
    t.obj 0x1F98 3 = (s.obj 0x1F98 3 + 1) % 2 ^ 32 ∧ t.out = s.out ∧ t.journal = s.journal ∧
    SameObjs [okey 0x1F98 3 0, okey 0xA010 3 0] s t ∧ Calm s t) := by
  refine answers_next (t := s.udpDict 2 addr.toNat port.toNat m) rfl ?_
  rw [State.udpDict_live hears haddressed hform hop hslot hlive, State.peerTurn_busy (by rw [path_heard]; exact hbusy)]
  have counted := AccessOnly.hears (keys := [okey 0x1F98 3 0, okey 0xA010 3 0]) p s (by simp)
  have only := counted.trans (.bump (i := 0x1F98) (j := 3) (c := 0) (n := 1) _ (by simp))
  refine ⟨?_, by rw [State.bump_out, out_heard], only.journal, only.same, only.calm⟩
  rw [State.obj_bump_self, objBits_messagesDropped, (AccessOnly.hears (keys := messageKeys) p s (by simp)).obj 0x1F98 3 0 (by decide)]

/-- A replayed number is answered again from the slot, and counted (R137). -/
theorem udpDictWrite_replayed {r : Nat × List Byte} (hlast : (s.path p).lastResp = some r) (hidle : (s.path p).busy = none)
    (hsame : r.1 = field (msgBody m) 2 2) : Answers (.udpDictWrite addr port m) s (fun t =>
    t.out = .udp addr.toNat port.toNat r.2 :: s.out ∧ t.obj 0x1F98 2 = (s.obj 0x1F98 2 + 1) % 2 ^ 32 ∧ t.journal = s.journal ∧
    SameObjs [okey 0x1F98 2 0, okey 0xA010 3 0] s t ∧ Calm s t) := by
  refine answers_next (t := s.udpDict 2 addr.toNat port.toNat m) rfl ?_
  rw [State.udpDict_live hears haddressed hform hop hslot hlive, State.peerTurn_replay (r := r) (by rw [path_heard]; exact hidle)
    (by rw [path_heard]; exact hlast) hsame]
  have counted := AccessOnly.hears (keys := [okey 0x1F98 2 0, okey 0xA010 3 0]) p s (by simp)
  have counts := counted.trans (.bump (i := 0x1F98) (j := 2) (c := 0) (n := 1) _ (by simp))
  have only := counts.trans (.emit _ (.udp addr.toNat port.toNat r.2))
  have hout : ((heard p s).bump 0x1F98 2).out = s.out := by rw [State.bump_out, out_heard]
  refine ⟨congrArg (Output.udp addr.toNat port.toNat r.2 :: ·) hout, ?_, only.journal, only.same, only.calm⟩
  rw [State.obj_emit, State.obj_bump_self, objBits_messagesReplayed, (AccessOnly.hears (keys := messageKeys) p s (by simp)).obj 0x1F98 2 0 (by decide)]

end

/-- A new peer takes a free slot, and is served there (R104). -/
theorem udpDictRead_newPeer (hform : dictForm (msgBody m) = true) (hop : field (msgBody m) 0 1 = 1)
    (hi : field (msgBody m) 4 2 = 0x1017) (hj : field (msgBody m) 6 1 = 0) (hserve : s.serveCode p 0x1017 = 0)
    (hslot : s.peerSlot (addr.toNat, port.toNat) = some p) (hfree : s.live p = false) :
    Answers (.udpDictRead addr port m) s (fun t => t.live p = true ∧ (t.path p).peer = (addr.toNat, port.toNat) ∧
      t.obj 0x1F98 4 = s.obj 0x1F98 4 + 1 ∧ Replied addr.toNat port.toNat p
        (dictReply (msgBody m) 0 0 (leBytes 2 (s.obj 0x1017 0)) []) s t ∧ t.journal = s.journal ∧ Calm s t) := by
  have hpath := s.path_welcome p (addr.toNat, port.toNat)
  have hvalue := s.obj_welcome p (addr.toNat, port.toNat) 0x1017 0 0 (by decide) (by decide)
  have hid := s.obj_welcome p (addr.toNat, port.toNat) 0x2000 5 0 (by decide) (by decide)
  have hpeers := s.peers_welcome p (addr.toNat, port.toNat)
  have hserved := (s.serveCode_welcome p (addr.toNat, port.toNat) p 0x1017).trans hserve
  have hjournal := s.journal_welcome p (addr.toNat, port.toNat)
  have hcalm := calm_welcome s p (addr.toNat, port.toNat)
  have htake := State.udpDict_welcome hears haddressed hform hop hslot hfree
  generalize s.welcome p (addr.toNat, port.toNat) = u at hpath hvalue hid hpeers hserved hjournal hcalm htake
  have hturn : (u.path p).inTurn (msgBody m) = true := by simp [PathState.inTurn, hop]
  have hpeek : u.peek p 0x1017 0 ((u.path p).channel (rowOf 0x1017 0).sel) false = .inr (leBytes 2 (s.obj 0x1017 0)) := by
    rw [← hvalue]
    exact State.peek_producerHeartbeat hserved (by rw [rowOf_producerHeartbeat]; rfl)
  have hread : u.dictRead p 0x1017 0 = (0, leBytes 2 (s.obj 0x1017 0), u) := by
    rw [State.dictRead_value (absurd · (by decide)) hpeek, if_neg (by rw [rowOf_producerHeartbeat]; decide)]
    rfl
  have hserves : u.dictServe p (msgBody m) = (some (dictReply (msgBody m) 0 0 (leBytes 2 (s.obj 0x1017 0)) []), u) := by
    rw [State.dictServe_read hop (by rw [hi, hj, rowOf_producerHeartbeat]; decide), hi, hj, hread]
  obtain ⟨told, hleft, only⟩ := dictRespond_replies (s := s) (a := addr.toNat) (o := port.toNat) (State.peerSlot_lt hslot).ne
    (by rw [hpath]) hid (dictReply (msgBody m) 0 0 (leBytes 2 (s.obj 0x1017 0)) [])
  refine answers_next (t := s.udpDict 1 addr.toNat port.toNat m) rfl ?_
  rw [htake, State.peerTurn_serves (by rw [hpath]; rfl) (by rw [hpath]; simp [PathState.fresh]) hturn, State.dictRequest, hserves]
  refine ⟨?_, ?_, (only.obj 0x1F98 4 0 (by decide)).trans hpeers, told, only.journal.trans hjournal, hcalm.trans only.calm⟩
  · rw [State.live, hleft, hpath]
    rfl
  · rw [hleft, hpath]
    rfl

end

/-- Settles O46: a request in form, in turn and new reaches its peer's path, where each operation is served by its rule; any other
message is dropped, answered again from the slot, or takes a free one. -/
theorem udpPeersAreServed : Obligations.UdpPeersAreServed := by
  refine ⟨fun addr port m p s => ⟨?reads, ?longString, ?writes, ?uploadStart, ?uploadNext, ?downloadStart, ?segment, ?commit,
    ?notAdmitted, ?abort, ?failed⟩, fun addr port m p s hawake htb hholds hok htype hdst => ⟨?outOfForm, ?busy, ?newPeer⟩⟩
  case reads =>
    exact fun h hi hsize => ⟨fun v hpeek hrc => udpDictRead_value h hi hsize hpeek hrc,
      fun c hpeek => udpDictRead_refused h hi hsize hpeek⟩
  case longString => exact fun h hserve hexists hsize => udpDictRead_longString h hserve hexists hsize
  case writes =>
    exact fun h hi => ⟨fun hcode => udpDictWrite_refused h hi rfl hcode, fun hcode hcls _ => udpDictWrite_answered h hi rfl hcode hcls,
      fun hcode hcls => udpDictWrite_waits h hi rfl hcode hcls⟩
  case uploadStart =>
    exact fun h => ⟨fun v hpeek hrc hi => udpUploadStart_starts h hpeek hrc hi, fun c hpeek => udpUploadStart_refused h hpeek⟩
  case uploadNext => exact fun x h hopen hcode => udpUploadNext_answers hopen hcode h rfl
  case downloadStart => exact fun h => ⟨udpDownloadStart_starts h, udpDownloadStart_refused h rfl⟩
  case segment => exact fun x h hopen hcode => udpDownloadSegment_joins hopen hcode h
  case commit =>
    exact fun x h hopen hcode hedge => ⟨udpDownloadCommit_waits hopen hcode h hedge rfl,
      udpDownloadCommit_answered hopen hcode h hedge rfl⟩
  case notAdmitted =>
    exact fun x hopen hcode => ⟨udpTransfer_notAdmitted hopen rfl (by decide) hcode,
      udpTransfer_notAdmitted hopen rfl (by decide) hcode, udpTransfer_notAdmitted hopen rfl (by decide) hcode⟩
  case abort => exact udpDictAbort_ends
  case failed =>
    exact fun c hclosed hfail => ⟨udpTransfer_failed rfl (by simp [ofTransfer]) hclosed hfail,
      udpTransfer_failed rfl (by simp [ofTransfer]) hclosed hfail, udpTransfer_failed rfl (by simp [ofTransfer]) hclosed hfail,
      udpTransfer_failed rfl (by simp [ofTransfer]) hclosed hfail⟩
  case outOfForm =>
    intro hform hop i hi
    rcases List.mem_pair.mp hi with rfl | rfl
    · exact udpDict_outOfForm ⟨hawake, htb, hholds⟩ ⟨hok, htype, .inl hdst⟩ rfl hform hop
    · exact udpDict_outOfForm ⟨hawake, htb, hholds⟩ ⟨hok, htype, .inl hdst⟩ rfl hform hop
  case busy =>
    exact fun hform hop hslot hlive => ⟨udpDictWrite_busy ⟨hawake, htb, hholds⟩ ⟨hok, htype, .inl hdst⟩ hform hop hslot hlive,
      fun r hlast => udpDictWrite_replayed ⟨hawake, htb, hholds⟩ ⟨hok, htype, .inl hdst⟩ hform hop hslot hlive hlast⟩
  case newPeer => exact udpDictRead_newPeer ⟨hawake, htb, hholds⟩ ⟨hok, htype, .inl hdst⟩

end Sys2Proof
end

section
/-! # What errors, collisions and EMCYs change of the CAN ports (R135, R140 to R143) -/

namespace Sys2Proof.Machine

open Sys2Proof

/-! ## The state of a port -/

@[simp] theorem State.port_modPort_self (s : State) (p : Nat) (f : CanPort → CanPort) : (s.modPort p f).port p = f (s.port p) :=
  Amap.get_set_self _ _ _ _

theorem State.port_modPort_ne (s : State) {p q : Nat} (f : CanPort → CanPort) (h : q ≠ p) : (s.modPort p f).port q = s.port q :=
  Amap.get_set_other _ _ _ h

/-- A port's state depends on `can` alone. -/
theorem State.port_congr {s t : State} (h : t.can = s.can) (p : Nat) : t.port p = s.port p := by rw [State.port, State.port, h]

/-- Which identifiers are blocked depends on who runs the port and on its block slots (R142). -/
theorem State.blocked_congr {s t : State} {p : Nat} (hcore : (t.port p).core = (s.port p).core)
    (hslots : ∀ j ∈ blockSlots, t.obj (0x1F90 + p) j = s.obj (0x1F90 + p) j) (id : Nat) : t.blocked p id = s.blocked p id := by
  rw [State.blocked, State.blocked, hcore, Bool.eq_iff_iff]
  simp only [Bool.and_eq_true, List.any_eq_true]
  exact and_congr_right fun _ => exists_congr fun j => and_congr_right fun hj => by rw [hslots j hj]

/-- A block slot's subindex lies from 0x0E to 0x18 (R142). -/
theorem mem_blockSlots {j : Nat} (h : j ∈ blockSlots) : 0x0E ≤ j ∧ j ≤ 0x18 := by
  obtain ⟨m, hm, rfl⟩ := List.mem_map.mp h
  have := List.mem_range.mp hm
  omega

theorem objBits_busOffs {p : Nat} (hp : p < 2) : objBits (0x1F90 + p) 0x0B = 32 := by interval_cases p <;> decide +kernel
theorem objBits_collisions {p : Nat} (hp : p < 2) : objBits (0x1F90 + p) 0x0C = 32 := by interval_cases p <;> decide +kernel
theorem objBits_withheld {p : Nat} (hp : p < 2) : objBits (0x1F90 + p) 0x1A = 32 := by interval_cases p <;> decide +kernel

/-! ## Events of a port -/

/-- From `s` to `t` only the CAN ports have changed: some entries, the error register and the counts of lost EMCYs among them,
the queues of EMCYs, which lose none, and the timed frames. -/
structure PortsOnly (keys : List Nat) (s t : State) : Prop where
  rest : t = { s with objs := t.objs, can := t.can, timed := t.timed }
  obj : ∀ i j, okey i j 0 ∉ keys ++ [okey 0x1001 0 0, okey 0x1F90 0x1B 0, okey 0x1F91 0x1B 0] → t.obj i j = s.obj i j
  core : ∀ p, (t.port p).core = (s.port p).core
  collisions : ∀ p, (t.port p).collisions = (s.port p).collisions
  queued : ∀ p, (s.port p).emcys ⊆ (t.port p).emcys

namespace PortsOnly

variable {keys : List Nat} {s t u : State}

theorem refl (s : State) : PortsOnly keys s s := ⟨rfl, fun _ _ _ => rfl, fun _ => rfl, fun _ => rfl, fun _ _ h => h⟩

theorem trans (h : PortsOnly keys s t) (k : PortsOnly keys t u) : PortsOnly keys s u :=
  ⟨by rw [k.rest, h.rest], fun i j hk => (k.obj i j hk).trans (h.obj i j hk), fun p => (k.core p).trans (h.core p),
    fun p => (k.collisions p).trans (h.collisions p), fun p => List.Subset.trans (h.queued p) (k.queued p)⟩

theorem mono {keys' : List Nat} (h : PortsOnly keys s t) (hsub : keys ⊆ keys') : PortsOnly keys' s t :=
  ⟨h.rest, fun i j hk => h.obj i j fun hmem => hk ((List.append_subset.mpr
    ⟨List.Subset.trans hsub (List.subset_append_left _ _), List.subset_append_right _ _⟩) hmem), h.core, h.collisions, h.queued⟩

theorem journal (h : PortsOnly keys s t) : t.journal = s.journal := by rw [h.rest]
theorem out (h : PortsOnly keys s t) : t.out = s.out := by rw [h.rest]
theorem paths (h : PortsOnly keys s t) : t.paths = s.paths := by rw [h.rest]
theorem pw (h : PortsOnly keys s t) : t.pw = s.pw := by rw [h.rest]

theorem calm (h : PortsOnly keys s t) : Calm s t := by
  rw [h.rest]; exact ⟨⟨fun _ => rfl, rfl⟩, rfl, rfl, rfl, rfl, rfl, rfl, rfl⟩

/-- An entry of a port beside the keys and its count of lost EMCYs. -/
theorem portObj (h : PortsOnly keys s t) {p j : Nat} (hp : p < 2) (hj : j < 256) (hlost : j ≠ 0x1B)
    (hk : okey (0x1F90 + p) j 0 ∉ keys) : t.obj (0x1F90 + p) j = s.obj (0x1F90 + p) j :=
  h.obj _ _ fun hmem => (List.mem_append.mp hmem).elim hk fun hmem => by simp [okey] at hmem; omega

theorem setObj (s : State) {i j v : Nat} (hk : okey i j 0 ∈ keys ++ [okey 0x1001 0 0, okey 0x1F90 0x1B 0, okey 0x1F91 0x1B 0]) :
    PortsOnly keys s (s.setObj i j v) :=
  ⟨rfl, fun _ _ hne => s.obj_setObj_ne fun e => hne (by rw [e]; exact hk), fun _ => rfl, fun _ => rfl, fun _ _ h => h⟩

/-- A change of a port's queue of EMCYs that loses none. -/
theorem modPort (s : State) (p : Nat) {f : CanPort → CanPort} (hcore : (f (s.port p)).core = (s.port p).core)
    (hcollisions : (f (s.port p)).collisions = (s.port p).collisions) (hqueued : (s.port p).emcys ⊆ (f (s.port p)).emcys) :
    PortsOnly keys s (s.modPort p f) := by
  refine ⟨rfl, fun _ _ _ => rfl, fun q => ?_, fun q => ?_, fun q => ?_⟩ <;> by_cases h : q = p
  · rw [h, s.port_modPort_self, hcore]
  · rw [s.port_modPort_ne f h]
  · rw [h, s.port_modPort_self, hcollisions]
  · rw [s.port_modPort_ne f h]
  · rw [h, s.port_modPort_self]; exact hqueued
  · rw [s.port_modPort_ne f h]; exact fun _ he => he

theorem queueEmcy (s : State) {port : Nat} (hp : port < 2) (e : Emcy) : PortsOnly keys s (s.queueEmcy port e) := by
  unfold State.queueEmcy
  split
  · exact refl s
  · split
    · refine (setObj s ?_).trans (modPort _ _ rfl rfl fun _ h => h)
      interval_cases port <;> simp
    · exact modPort s _ rfl rfl (List.subset_append_left _ _)

theorem sendEmcy (s : State) (code source info : Nat) : PortsOnly keys s (s.sendEmcy code source info) :=
  (queueEmcy s (by decide) _).trans (queueEmcy _ (by decide) _)

theorem refreshReg (s : State) : PortsOnly keys s s.refreshReg := by
  have hset : PortsOnly keys s (s.setObj 0x1001 0 s.errReg) := setObj s (by simp)
  unfold State.refreshReg
  dsimp only
  split
  · exact hset.trans (sendEmcy _ _ _ _)
  · exact hset

theorem raise (s : State) (code source info : Nat) : PortsOnly keys s (s.raise code source info) :=
  (refreshReg s).trans (sendEmcy _ _ _ _)

end PortsOnly

/-! ## The queue of EMCYs (R135) -/

/-- An EMCY makes a queue longer by one at most. -/
theorem State.length_queueEmcy_le (s : State) (port p : Nat) (e : Emcy) :
    ((s.queueEmcy port e).port p).emcys.length ≤ (s.port p).emcys.length + 1 := by
  unfold State.queueEmcy
  split
  · omega
  · by_cases h : p = port
    · subst h
      split
      · rw [State.port_modPort_self]; exact Nat.le_succ _
      · rw [State.port_modPort_self, List.length_append, List.length_singleton]
    · split
      · rw [State.port_modPort_ne _ _ h]; exact Nat.le_succ _
      · rw [State.port_modPort_ne _ _ h]; exact Nat.le_succ _

theorem State.length_refreshReg_le (s : State) (p : Nat) : (s.refreshReg.port p).emcys.length ≤ (s.port p).emcys.length + 2 := by
  unfold State.refreshReg
  dsimp only
  split
  · exact (State.length_queueEmcy_le _ _ _ _).trans (Nat.succ_le_succ (State.length_queueEmcy_le _ _ _ _))
  · exact Nat.le_add_right _ _

/-- A port that is awake, not Stopped and has room queues an EMCY. -/
theorem State.mem_queueEmcy {s : State} {p : Nat} (hawake : s.pw.mode.awake = true) (hnmt : s.nmt p ≠ 4)
    (hroom : (s.port p).emcys.length < 16) (e : Emcy) : e ∈ ((s.queueEmcy p e).port p).emcys := by
  rw [State.queueEmcy, hawake, if_neg (by decide), if_neg (by simp [hnmt, hroom]), State.port_modPort_self]
  exact List.mem_append_right _ List.mem_cons_self

/-- An EMCY is queued on each port that is awake, not Stopped and has room. -/
theorem State.sendEmcy_queues {s : State} {p : Nat} (hp : p < 2) (hawake : s.pw.mode.awake = true) (hnmt : s.nmt p ≠ 4)
    (hroom : (s.port p).emcys.length < 15) (code source info : Nat) :
    ∃ e ∈ ((s.sendEmcy code source info).port p).emcys, e.code = code ∧ e.source = source ∧ e.info = info % 2 ^ 32 := by
  unfold State.sendEmcy
  extract_lets e
  refine ⟨e, ?_, rfl, rfl, rfl⟩
  have first : PortsOnly [] s (s.queueEmcy 0 e) := .queueEmcy s (by decide) e
  obtain rfl | rfl : p = 0 ∨ p = 1 := by omega
  · exact (PortsOnly.queueEmcy (keys := []) _ (by decide) e).queued 0 (State.mem_queueEmcy hawake hnmt (by omega) e)
  · refine State.mem_queueEmcy (by rw [first.pw]; exact hawake) ?_ ((s.length_queueEmcy_le 0 1 e).trans_lt (by omega)) e
    rw [State.nmt, first.portObj (p := 1) (by decide) (by decide) (by decide) (by simp)]
    exact hnmt

/-- An event's EMCY is queued on each port that is awake and not Stopped and whose queue is empty. -/
theorem State.raise_queues {s : State} {p : Nat} (hp : p < 2) (hawake : s.pw.mode.awake = true) (hnmt : s.nmt p ≠ 4)
    (hempty : (s.port p).emcys = []) (code source info : Nat) :
    ∃ e ∈ ((s.raise code source info).port p).emcys, e.code = code ∧ e.source = source ∧ e.info = info % 2 ^ 32 := by
  have reg : PortsOnly [] s s.refreshReg := .refreshReg s
  refine State.sendEmcy_queues hp (by rw [reg.pw]; exact hawake) ?_ ((s.length_refreshReg_le p).trans_lt (by simp [hempty])) _ _ _
  rw [State.nmt, reg.portObj hp (by decide) (by decide) (by simp)]
  exact hnmt

/-! ## Error counters (R141, R143) -/

/-- The error state of a port, by the limits of ISO 11898-1 (log entry 34). -/
def errorState (tec rec : Nat) : Nat := if 256 ≤ tec then 2 else if 128 ≤ tec ∨ 128 ≤ rec then 1 else 0

/-- The entries of a port that its error counters write. -/
def errorKeys (p : Nat) : List Nat :=
  [okey (0x1F90 + p) 8 0, okey (0x1F90 + p) 9 0, okey (0x1F90 + p) 0x0A 0, okey (0x1F90 + p) 0x0B 0]

/-- A port's entries take its error counters and the state that follows, and a bus-off is counted (R141, R143). -/
def State.showErrors (s : State) (p tec rec : Nat) : State :=
  let s := ((s.setObj (0x1F90 + p) 8 (errorState tec rec)).setObj (0x1F90 + p) 9 (min tec 255)).setObj (0x1F90 + p) 0x0A (min rec 255)
  if 256 ≤ tec then s.bump (0x1F90 + p) 0x0B else s

/-- Bus-off discards the frames that a port holds (R143). -/
def State.dropTimed (s : State) (p : Nat) : State := { s with timed := s.timed.filter fun t => t.port != 2 + p }

/-- What becomes of a port whose error counters are shown: bus-off discards its frames, error passive is reported where it begins,
and the error register follows (R140, R141, R143). -/
theorem State.setErrors_eq (s : State) (p tec rec : Nat) : s.setErrors p tec rec =
    if 256 ≤ tec then (s.showErrors p tec rec).refreshReg.dropTimed p
    else if errorState tec rec = 1 ∧ s.obj (0x1F90 + p) 8 = 0 then (s.showErrors p tec rec).raise 0x8120 0xFF p
    else (s.showErrors p tec rec).refreshReg := by
  by_cases hoff : 256 ≤ tec
  · simp only [State.setErrors, State.showErrors, State.dropTimed, errorState, if_pos hoff, if_true]
  · by_cases hpassive : 128 ≤ tec ∨ 128 ≤ rec <;> simp [State.setErrors, State.showErrors, errorState, hoff, hpassive]

theorem PortsOnly.showErrors (s : State) (p tec rec : Nat) : PortsOnly (errorKeys p) s (s.showErrors p tec rec) := by
  have shown := ((setObj (keys := errorKeys p) s (v := errorState tec rec) (i := 0x1F90 + p) (j := 8) (by simp [errorKeys])).trans
    (setObj _ (v := min tec 255) (i := 0x1F90 + p) (j := 9) (by simp [errorKeys]))).trans
    (setObj _ (v := min rec 255) (i := 0x1F90 + p) (j := 0x0A) (by simp [errorKeys]))
  unfold State.showErrors
  dsimp only
  split
  · exact shown.trans (setObj _ (by simp [errorKeys]))
  · exact shown

/-- What is reported of error counters, beside the entries that show them. -/
theorem PortsOnly.setErrors_reports (s : State) (p tec rec : Nat) : PortsOnly [] (s.showErrors p tec rec) (s.setErrors p tec rec) := by
  have reg : PortsOnly [] _ (s.showErrors p tec rec).refreshReg := refreshReg _
  rw [s.setErrors_eq]
  split
  · exact reg.trans ⟨rfl, fun _ _ _ => rfl, fun _ => rfl, fun _ => rfl, fun _ _ h => h⟩
  · split
    · exact raise _ _ _ _
    · exact reg

theorem PortsOnly.setErrors (s : State) (p tec rec : Nat) : PortsOnly (errorKeys p) s (s.setErrors p tec rec) :=
  (showErrors s p tec rec).trans ((setErrors_reports s p tec rec).mono (List.nil_subset _))

theorem State.showErrors_can (s : State) (p tec rec : Nat) : (s.showErrors p tec rec).can = s.can := by
  unfold State.showErrors
  dsimp only
  split <;> rfl

theorem State.showErrors_shows (s : State) {p : Nat} (hp : p < 2) (tec rec : Nat) : let t := s.showErrors p tec rec
    t.obj (0x1F90 + p) 8 = errorState tec rec ∧ t.obj (0x1F90 + p) 9 = min tec 255 ∧ t.obj (0x1F90 + p) 0x0A = min rec 255 ∧
    t.obj (0x1F90 + p) 0x0B = if 256 ≤ tec then (s.obj (0x1F90 + p) 0x0B + 1) % 2 ^ 32 else s.obj (0x1F90 + p) 0x0B := by
  unfold State.showErrors
  split <;> simp [State.bump, State.obj_setObj, okey, objBits_busOffs hp]

/-- What an error leaves in a port's entries: its state, its counters, and the count of its bus-offs (R141, R143). -/
theorem State.setErrors_shows (s : State) {p : Nat} (hp : p < 2) (tec rec : Nat) : let t := s.setErrors p tec rec
    t.obj (0x1F90 + p) 8 = errorState tec rec ∧ t.obj (0x1F90 + p) 9 = min tec 255 ∧ t.obj (0x1F90 + p) 0x0A = min rec 255 ∧
    t.obj (0x1F90 + p) 0x0B = if 256 ≤ tec then (s.obj (0x1F90 + p) 0x0B + 1) % 2 ^ 32 else s.obj (0x1F90 + p) 0x0B := by
  have reports {j : Nat} (hj : j < 256) (hlost : j ≠ 0x1B) :=
    (PortsOnly.setErrors_reports s p tec rec).portObj hp hj hlost (List.not_mem_nil)
  intro t
  rw [reports (by decide) (by decide), reports (by decide) (by decide), reports (by decide) (by decide),
    reports (by decide) (by decide)]
  exact s.showErrors_shows hp tec rec

/-- A port in bus-off holds no frame (R143). -/
theorem State.setErrors_busOff_timed (s : State) (p : Nat) {tec : Nat} (rec : Nat) (h : 256 ≤ tec) :
    ∀ f ∈ (s.setErrors p tec rec).timed, f.port ≠ 2 + p := by
  rw [s.setErrors_eq, if_pos h]
  exact fun f hf => by simpa using (List.mem_filter.mp hf).2

/-- Errors on the bus leave a port's entries from 0x0C on, beside the count of lost EMCYs. -/
theorem State.obj_setErrors (s : State) {p : Nat} (hp : p < 2) (tec rec : Nat) {j : Nat} (hlow : 0x0C ≤ j) (hj : j < 256)
    (hlost : j ≠ 0x1B) : (s.setErrors p tec rec).obj (0x1F90 + p) j = s.obj (0x1F90 + p) j :=
  (PortsOnly.setErrors s p tec rec).portObj hp hj hlost (by simp [errorKeys, okey]; omega)

/-! ## Collisions (R142) -/

/-- A port after a collision: counted, with the identifier's row and the transmit counter (R142). -/
def State.collided (s : State) (p key : Nat) : State :=
  let n := Amap.get 0 (s.port p).collisions key + 1
  let s := (s.bump (0x1F90 + p) 0x0C).modPort p fun q => { q with collisions := Amap.set 0 q.collisions key n }
  s.setErrors p (s.obj (0x1F90 + p) 9 + 8) (s.obj (0x1F90 + p) 0x0A)

theorem State.collided_counts (s : State) {p : Nat} (hp : p < 2) (key : Nat) : let t := s.collided p key
    Amap.get 0 (t.port p).collisions key = Amap.get 0 (s.port p).collisions key + 1 ∧
    t.obj (0x1F90 + p) 0x0C = (s.obj (0x1F90 + p) 0x0C + 1) % 2 ^ 32 ∧
    t.obj (0x1F90 + p) 9 = min (s.obj (0x1F90 + p) 9 + 8) 255 ∧ (t.port p).core = (s.port p).core ∧
    (∀ j, 0x0D ≤ j → j ≤ 0x18 → t.obj (0x1F90 + p) j = s.obj (0x1F90 + p) j) ∧
    t.journal = s.journal ∧ Calm s t := by
  unfold State.collided
  extract_lets n u
  have only := PortsOnly.setErrors u p (u.obj (0x1F90 + p) 9 + 8) (u.obj (0x1F90 + p) 0x0A)
  obtain ⟨-, htec, -, -⟩ := u.setErrors_shows hp (u.obj (0x1F90 + p) 9 + 8) (u.obj (0x1F90 + p) 0x0A)
  have keeps {j : Nat} (hlow : 0x0C ≤ j) (hj : j < 256) (hlost : j ≠ 0x1B) :=
    u.obj_setErrors hp (u.obj (0x1F90 + p) 9 + 8) (u.obj (0x1F90 + p) 0x0A) hlow hj hlost
  have counted : u.obj (0x1F90 + p) 0x0C = (s.obj (0x1F90 + p) 0x0C + 1) % 2 ^ 32 := by
    rw [State.obj_modPort, State.obj_bump_self, objBits_collisions hp]
  have other {j : Nat} (h : j ≠ 0x0C) : u.obj (0x1F90 + p) j = s.obj (0x1F90 + p) j := by
    rw [State.obj_modPort, State.obj_bump_ne _ (okey_sub_ne h)]
  refine ⟨?_, (keeps (by decide) (by decide) (by decide)).trans counted, ?_, ?_, fun j hlow hhigh => ?_, only.journal, only.calm⟩
  · rw [only.collisions, State.port_modPort_self]
    exact Amap.get_set_self 0 ((s.bump (0x1F90 + p) 0x0C).port p).collisions key n
  · rw [htec, other (by decide)]
  · rw [only.core, State.port_modPort_self]
    rfl
  · rw [keeps (by omega) (by omega) (by omega), other (by omega)]

/-- A block slot takes an identifier, which is counted and journaled (R142). -/
def State.takeSlot (s : State) (p j key : Nat) : State :=
  let s := (s.setObj (0x1F90 + p) j key).setObj (0x1F90 + p) 0x0D (s.obj (0x1F90 + p) 0x0D + 1)
  s.journalAdd 0x3F (0x1F90 + p) j 0xFFFF s.pw.mode.code 0 0xFFFFFFFF key

/-- The entry that the journal takes (R120), after changes that leave the journal. -/
theorem journaled_journalAdd {s u : State} (hjournal : u.journal = s.journal) (hpw : u.pw = s.pw) (p i j c f old new : Nat) :
    Journaled p i j c old new s (u.journalAdd p i j c u.pw.mode.code f old new) := by
  unfold Journaled
  rw [← hjournal, ← hpw]
  exact ⟨_, List.mem_cons_self, rfl, rfl, rfl, rfl, rfl, rfl, rfl, rfl⟩

theorem calm_journalAdd (s : State) (p i j c st f old new : Nat) : Calm s (s.journalAdd p i j c st f old new) :=
  ⟨⟨fun _ => rfl, rfl⟩, rfl, rfl, rfl, rfl, rfl, rfl, rfl⟩

theorem State.takeSlot_takes (s : State) (p : Nat) {j : Nat} (hj : j ≠ 0x0D) (key : Nat) : let t := s.takeSlot p j key
    t.obj (0x1F90 + p) j = key ∧ t.obj (0x1F90 + p) 0x0D = s.obj (0x1F90 + p) 0x0D + 1 ∧
    Journaled 0x3F (0x1F90 + p) j 0xFFFF 0xFFFFFFFF key s t ∧ (t.port p).core = (s.port p).core ∧ Calm s t := by
  unfold State.takeSlot
  have slot : PortsOnly [okey (0x1F90 + p) j 0] s (s.setObj (0x1F90 + p) j key) := .setObj s (by simp)
  have count (v : Nat) : PortsOnly [okey (0x1F90 + p) 0x0D 0] _ ((s.setObj (0x1F90 + p) j key).setObj (0x1F90 + p) 0x0D v) :=
    .setObj _ (by simp)
  have written := count (s.obj (0x1F90 + p) 0x0D + 1)
  refine ⟨?_, ?_, journaled_journalAdd (written.journal.trans slot.journal) (written.pw.trans slot.pw) _ _ _ _ _ _ _, ?_,
    (slot.calm.trans written.calm).trans (calm_journalAdd _ _ _ _ _ _ _ _ _)⟩
  · rw [State.obj_congr (State.journalAdd_objs ..), State.obj_setObj_ne _ (okey_sub_ne hj), State.obj_setObj_self]
  · rw [State.obj_congr (State.journalAdd_objs ..), State.obj_setObj_self]
  · rw [State.port_congr (State.journalAdd_can ..), written.core, slot.core]

/-- The slot that the third collision takes is free: it blocks the identifier, is counted and journaled (R142). -/
theorem State.blockId_blocks {s : State} {p j : Nat} (hp : p < 2) (key : Nat) (hcore : (s.port p).core = true)
    (hslot : blockSlots.find? (fun i => s.obj (0x1F90 + p) i = 0xFFFFFFFF) = some j) : let t := s.blockId p key
    t.blocked p key = true ∧ t.obj (0x1F90 + p) j = key ∧ t.obj (0x1F90 + p) 0x0D = s.obj (0x1F90 + p) 0x0D + 1 ∧
    Journaled 0x3F (0x1F90 + p) j 0xFFFF 0xFFFFFFFF key s t ∧ Calm s t := by
  have hmem := List.mem_of_find?_eq_some hslot
  obtain ⟨hlow, hhigh⟩ := mem_blockSlots hmem
  obtain ⟨htaken, hcount, hentry, hrun, hcalm⟩ := s.takeSlot_takes p (show j ≠ 0x0D by omega) key
  have hblock : s.blockId p key = (s.takeSlot p j key).raise 0xFF10 0xFF (key + p * 2 ^ 30) := by
    simp only [State.blockId, hslot, State.takeSlot]
  rw [hblock]
  generalize s.takeSlot p j key = u at *
  have raised : PortsOnly [] u (u.raise 0xFF10 0xFF (key + p * 2 ^ 30)) := .raise _ _ _ _
  have hkey := (raised.portObj hp (by omega) (by omega) List.not_mem_nil).trans htaken
  refine ⟨?_, hkey, (raised.portObj hp (by decide) (by decide) List.not_mem_nil).trans hcount, ?_, hcalm.trans raised.calm⟩
  · rw [State.blocked, raised.core, hrun, hcore, Bool.true_and, List.any_eq_true]
    exact ⟨j, hmem, decide_eq_true hkey⟩
  · unfold Journaled at hentry ⊢
    rwa [raised.journal]

/-! ## Frames of a port -/

/-- A port that sends a frame: withheld and counted on a blocked identifier, else sent (R142). -/
def SendsFrame (p id : Nat) (data : List Byte) (s t : State) : Prop :=
  (s.blocked p id = false → t.out = .can p id 0 data :: s.out ∧ t.objs = s.objs) ∧
  (s.blocked p id = true → t.out = s.out ∧ t.obj (0x1F90 + p) 0x1A = (s.obj (0x1F90 + p) 0x1A + 1) % 2 ^ 32)

theorem State.canSend_sends {s : State} {p : Nat} (hp : p < 2) (hon : s.obj (0x1F90 + p) 8 ≠ 2) (id : Nat) (data : List Byte) :
    SendsFrame p id data s (s.canSend p id 0 data) := by
  refine ⟨fun h => ?_, fun h => ?_⟩
  · rw [State.canSend, if_neg hon, h]
    exact ⟨rfl, rfl⟩
  · rw [State.canSend, if_neg hon, if_pos h, State.obj_bump_self, objBits_withheld hp]
    exact ⟨rfl, rfl⟩

/-- A frame changes what was sent and the counts of the withheld alone. -/
theorem State.canSend_eq (s : State) (p id xl : Nat) (data : List Byte) :
    s.canSend p id xl data = { s with objs := (s.canSend p id xl data).objs, out := (s.canSend p id xl data).out } := by
  unfold State.canSend
  split
  · rfl
  · split <;> rfl

theorem State.canSend_can (s : State) (p id xl : Nat) (data : List Byte) : (s.canSend p id xl data).can = s.can := by
  rw [s.canSend_eq]

/-- No EMCY lost leaves nothing to report (R135). -/
theorem State.reportLost_none {s : State} {p : Nat} (h : (s.port p).dropped = 0) : s.reportLost p = s := by
  simp [State.reportLost, h]

/-- An EMCY's fields, with the stamp in FD and XL mode (R135). -/
theorem State.emcyBytes_eq (s : State) (p : Nat) (e : Emcy) : s.emcyBytes p e =
    leBytes 2 e.code ++ leBytes 1 e.reg ++ leBytes 1 e.source ++ leBytes 4 e.info ++
      (if s.obj (0x1F90 + p) 2 = 0 then [] else leBytes 8 e.stamp) := by
  unfold State.emcyBytes
  dsimp only
  split
  · rw [List.append_nil]
  · rfl

/-- A port whose oldest EMCY leaves now. -/
def State.emcyTaken (s : State) (p : Nat) (rest : List Emcy) : State :=
  (s.modPort p fun q => { q with emcys := rest }).modPort p fun q => { q with emcyAt := some s.now }

theorem State.port_emcyTaken (s : State) (p : Nat) (rest : List Emcy) :
    (s.emcyTaken p rest).port p = { s.port p with emcys := rest, emcyAt := some s.now } := by
  rw [State.emcyTaken, State.port_modPort_self, State.port_modPort_self]

theorem calm_canSend (s : State) (p id xl : Nat) (data : List Byte) : Calm s (s.canSend p id xl data) := by
  rw [s.canSend_eq]
  exact ⟨⟨fun _ => rfl, rfl⟩, rfl, rfl, rfl, rfl, rfl, rfl, rfl⟩

/-! ## TPDOs (R133, R206) -/

/-- From `s` to `t` only frames have been composed and sent: the ports, the timed frames and their counts, what was sent, and the
free values and latches that a snapshot takes. -/
structure FramesOnly (s t : State) : Prop where
  rest : t = { s with
    objs := t.objs, paths := t.paths, can := t.can, timed := t.timed, seq := t.seq, out := t.out, freeCtr := t.freeCtr }

namespace FramesOnly

variable {s t u : State}

theorem refl (s : State) : FramesOnly s s := ⟨rfl⟩

theorem trans (h : FramesOnly s t) (k : FramesOnly t u) : FramesOnly s u := ⟨by rw [k.rest, h.rest]⟩

theorem tpdos (h : FramesOnly s t) : t.tpdos = s.tpdos := by rw [h.rest]
theorem journal (h : FramesOnly s t) : t.journal = s.journal := by rw [h.rest]
theorem now (h : FramesOnly s t) : t.now = s.now := by rw [h.rest]; rfl

theorem calm (h : FramesOnly s t) : Calm s t := by
  rw [h.rest]; exact ⟨⟨fun _ => rfl, rfl⟩, rfl, rfl, rfl, rfl, rfl, rfl, rfl⟩

theorem ofPorts {keys : List Nat} (h : PortsOnly keys s t) : FramesOnly s t := ⟨by rw [h.rest]⟩

theorem setObj (s : State) (i j v : Nat) : FramesOnly s (s.setObj i j v) := ⟨rfl⟩

theorem raiseMax (s : State) (i j v : Nat) : FramesOnly s (s.raiseMax i j v) := by
  unfold State.raiseMax
  split
  · exact setObj s i j v
  · exact refl s

theorem lateFrame (s : State) (late : Nat) : FramesOnly s (s.lateFrame late) := by
  have counted := ((setObj s 0x9003 5 ((s.obj 0x9003 5 + 1) % 2 ^ objBits 0x9003 5)).trans
    (setObj _ 0x9003 4 (((s.bump 0x9003 5).obj 0x9003 4 + 1) % 2 ^ objBits 0x9003 4))).trans (raiseMax _ 0x9003 8 late)
  unfold State.lateFrame
  extract_lets u due
  split
  · exact (counted.trans ⟨rfl⟩).trans (ofPorts (keys := []) (.raise _ _ _ _))
  · exact counted

theorem launch (s : State) (f : Timed) : FramesOnly s (s.launch f) := by
  unfold State.launch
  split
  · exact ⟨rfl⟩
  · exact ⟨by rw [s.canSend_eq]⟩

theorem sendTimed (s : State) (port kind off base : Nat) (data : List Byte) : FramesOnly s (s.sendTimed port kind off base data) := by
  unfold State.sendTimed
  extract_lets frame room
  split
  · exact launch s _
  · split
    · exact ((setObj s 0x9003 6 _).trans (lateFrame _ _)).trans (launch _ _)
    · split
      · exact (lateFrame s _).trans (launch _ _)
      · exact ⟨rfl⟩

/-- A mapped object's value may latch the fraction of the Time Base, or take a free value (R133, R195). -/
theorem mapped (s : State) (p v : Nat) : FramesOnly s (s.mapped p v).2 := by
  unfold State.mapped
  extract_lets idx sub
  split
  · dsimp only
    split
    · exact ⟨rfl⟩
    · exact refl s
  · exact ⟨rfl⟩

theorem tpdoData (s : State) (n : Nat) : FramesOnly s (s.tpdoData n).2 := by
  unfold State.tpdoData
  refine foldl_keeps (fun a : List Byte × State => FramesOnly s a.2) _ (fun a k h => ?_) _ ([], s) (refl s)
  exact h.trans (mapped a.2 _ _)

end FramesOnly

/-- A TPDO that is sent keeps its value and its time, and every other keeps its own (R133). -/
theorem State.tpdoSend_keeps (s : State) (n : Nat) (data : List Byte) : let t := s.tpdoSend n data
    Amap.get Tpdo.idle t.tpdos n = { last := data, sentAt := some s.now } ∧ t.journal = s.journal ∧
    (∀ m, m ≠ n → Amap.get Tpdo.idle t.tpdos m = Amap.get Tpdo.idle s.tpdos m) ∧ Calm s t := by
  unfold State.tpdoSend
  extract_lets xl u t
  have frames : FramesOnly u t := foldl_keeps (FramesOnly u) _ (fun _ _ h => h.trans (.sendTimed _ _ _ _ _ _)) _ u (.refl u)
  rw [frames.tpdos]
  exact ⟨Amap.get_set_self _ _ _ _, frames.journal, fun m hm => Amap.get_set_other _ _ _ hm, frames.calm⟩

end Sys2Proof.Machine

namespace Sys2Proof

open Sys2Proof.Machine

section
variable {n : Fin 8} {s : Machine.State}

/-- A snapshot that is sent: its value is kept with the time, and nothing else of the block changes (R133). -/
theorem tpdoSend_sends {i : Instr} (hexec : exec i s = .next ((s.tpdoData n.val).2.tpdoSend n.val (s.tpdoData n.val).1)) :
    Answers i s (fun t => Amap.get Tpdo.idle t.tpdos n.val = { last := (s.tpdoData n.val).1, sentAt := some s.now } ∧
      t.journal = s.journal ∧ (∀ m, m ≠ n.val → Amap.get Tpdo.idle t.tpdos m = Amap.get Tpdo.idle s.tpdos m) ∧ Calm s t) := by
  have taken := FramesOnly.tpdoData s n.val
  obtain ⟨hkept, hjournal, hothers, hcalm⟩ := (s.tpdoData n.val).2.tpdoSend_keeps n.val (s.tpdoData n.val).1
  rw [taken.now] at hkept
  rw [taken.tpdos] at hothers
  exact answers_next hexec ⟨hkept, hjournal.trans taken.journal, hothers, taken.calm.trans hcalm⟩

theorem exec_tpdoEventTimer : exec (.tpdoEventTimer n) s = execTpdoEventTimer n s := rfl
theorem exec_tpdoChange : exec (.tpdoChange n) s = execTpdoChange n s := rfl

/-- No TPDO is sent in SAFE (R126, R133). -/
theorem tpdoPorts_safe (h : s.pw.mode = .safe) (n : Nat) : s.tpdoPorts n = [] := by simp [State.tpdoPorts, h]

theorem tpdoEventTimer_quiet (h : s.tpdoPorts n.val = [] ∨ s.obj (0x1800 + n.val) 2 ≠ 0xFE) :
    Answers (.tpdoEventTimer n) s (fun t => t = s) := by
  refine answers_next (t := s) ?_ rfl
  rw [exec_tpdoEventTimer, execTpdoEventTimer, if_pos (by rcases h with h | h <;> simp [h])]

theorem tpdoChange_quiet (h : s.tpdoPorts n.val = [] ∨ s.obj (0x1800 + n.val) 2 ≠ 0xFF) :
    Answers (.tpdoChange n) s (fun t => t = s) := by
  refine answers_next (t := s) ?_ rfl
  rw [exec_tpdoChange, execTpdoChange]
  rcases h with h | h <;> simp [h]

theorem tpdoChange_inhibited {a : Nat} (hlast : (Amap.get Tpdo.idle s.tpdos n.val).sentAt = some a)
    (hinhibit : s.now < a + 100 * s.obj (0x1800 + n.val) 3) : Answers (.tpdoChange n) s (fun t => t = s) := by
  refine answers_next (t := s) ?_ rfl
  rw [exec_tpdoChange, execTpdoChange]
  simp [hlast, Nat.not_le.mpr hinhibit]

theorem tpdoChange_same (hsame : (s.tpdoData n.val).1 = (Amap.get Tpdo.idle s.tpdos n.val).last) :
    Answers (.tpdoChange n) s (fun t => t = s) := by
  refine answers_next (t := s) ?_ rfl
  rw [exec_tpdoChange, execTpdoChange]
  simp [hsame]

section
variable (hports : s.tpdoPorts n.val ≠ [])
include hports

theorem exec_tpdoEventTimer_sends (htype : s.obj (0x1800 + n.val) 2 = 0xFE) :
    exec (.tpdoEventTimer n) s = .next ((s.tpdoData n.val).2.tpdoSend n.val (s.tpdoData n.val).1) := by
  rw [exec_tpdoEventTimer, execTpdoEventTimer]
  simp [hports, htype]

theorem exec_tpdoChange_sends (htype : s.obj (0x1800 + n.val) 2 = 0xFF)
    (hinhibit : ∀ a ∈ (Amap.get Tpdo.idle s.tpdos n.val).sentAt, a + 100 * s.obj (0x1800 + n.val) 3 ≤ s.now)
    (hchanged : (s.tpdoData n.val).1 ≠ (Amap.get Tpdo.idle s.tpdos n.val).last) :
    exec (.tpdoChange n) s = .next ((s.tpdoData n.val).2.tpdoSend n.val (s.tpdoData n.val).1) := by
  rw [exec_tpdoChange, execTpdoChange]
  cases hlast : (Amap.get Tpdo.idle s.tpdos n.val).sentAt with
  | none => simp [hports, htype, hchanged, hlast]
  | some a => simp [hports, htype, hchanged, hlast, hinhibit a hlast]

end

end

section
variable {port : Fin 2} {s : Machine.State}

section
variable (hcore : (s.port port.val).core = true) (hon : s.obj (0x1F90 + port.val) 8 ≠ 2)
include hcore hon

theorem exec_canBusError (tec rec : Nat) :
    exec (.canBusError port false tec rec) s = .next (s.setErrors port.val tec rec) := by
  have hexec : exec (.canBusError port false tec rec) s = execCanBusError port false tec rec s := rfl
  rw [hexec, execCanBusError]
  simp [hcore, hon]

/-- Below 256 the counters alone decide the error state (R141). -/
theorem canBusError_active {tec : Nat} (rec : Nat) (h : tec < 256) : Answers (.canBusError port false tec rec) s (fun t =>
    t.obj (0x1F90 + port.val) 8 = (if 128 ≤ tec ∨ 128 ≤ rec then 1 else 0) ∧ t.obj (0x1F90 + port.val) 9 = tec ∧
    t.obj (0x1F90 + port.val) 0x0A = min rec 255 ∧ t.obj (0x1F90 + port.val) 0x0B = s.obj (0x1F90 + port.val) 0x0B ∧
    t.journal = s.journal ∧ t.out = s.out ∧ Calm s t) := by
  refine answers_next (exec_canBusError hcore hon tec rec) ?_
  have only := PortsOnly.setErrors s port.val tec rec
  obtain ⟨hstate, htec, hrec, hcount⟩ := s.setErrors_shows port.isLt tec rec
  have hne : ¬256 ≤ tec := by omega
  rw [errorState, if_neg hne] at hstate
  rw [if_neg hne] at hcount
  exact ⟨hstate, htec.trans (by omega), hrec, hcount, only.journal, only.out, only.calm⟩

/-- From 256 on the port is in bus-off, which is counted, and holds no frame (R143). -/
theorem canBusError_busOff {tec : Nat} (rec : Nat) (h : 256 ≤ tec) : Answers (.canBusError port false tec rec) s (fun t =>
    t.obj (0x1F90 + port.val) 8 = 2 ∧ t.obj (0x1F90 + port.val) 0x0B = (s.obj (0x1F90 + port.val) 0x0B + 1) % 2 ^ 32 ∧
    (∀ f ∈ t.timed, f.port ≠ 2 + port.val) ∧ t.journal = s.journal ∧ t.out = s.out ∧ Calm s t) := by
  refine answers_next (exec_canBusError hcore hon tec rec) ?_
  have only := PortsOnly.setErrors s port.val tec rec
  obtain ⟨hstate, -, -, hcount⟩ := s.setErrors_shows port.isLt tec rec
  rw [errorState, if_pos h] at hstate
  rw [if_pos h] at hcount
  exact ⟨hstate, hcount, s.setErrors_busOff_timed _ rec h, only.journal, only.out, only.calm⟩

/-- A transmission that succeeds ends its identifier's row of collisions, and lowers the transmit counter (R142). -/
theorem canSuccessfulTransmission_resets (id : BitVec 29) (ide : Bool) :
    let key := id.toNat + (if ide then 2 ^ 29 else 0)
    Answers (.canSuccessfulTransmission port id ide) s (fun t => Amap.get 0 (t.port port.val).collisions key = 0 ∧
      (∀ i, i ≠ key → Amap.get 0 (t.port port.val).collisions i = Amap.get 0 (s.port port.val).collisions i) ∧
      (s.obj (0x1F90 + port.val) 9 ≤ 256 → t.obj (0x1F90 + port.val) 9 = s.obj (0x1F90 + port.val) 9 - 1) ∧
      t.journal = s.journal ∧ Calm s t) := by
  intro key
  let u := s.modPort port.val fun p => { p with collisions := Amap.del p.collisions key }
  have hexec : exec (.canSuccessfulTransmission port id ide) s = execCanSuccessfulTransmission port id ide s := rfl
  refine answers_next (t := u.setErrors port.val (s.obj (0x1F90 + port.val) 9 - 1) (s.obj (0x1F90 + port.val) 0x0A)) ?_ ?_
  · rw [hexec, execCanSuccessfulTransmission]
    simp [hcore, hon, u, key]
  have only := PortsOnly.setErrors u port.val (s.obj (0x1F90 + port.val) 9 - 1) (s.obj (0x1F90 + port.val) 0x0A)
  obtain ⟨-, htec, -, -⟩ := u.setErrors_shows port.isLt (s.obj (0x1F90 + port.val) 9 - 1) (s.obj (0x1F90 + port.val) 0x0A)
  have hrow := only.collisions port.val
  rw [State.port_modPort_self] at hrow
  rw [hrow]
  exact ⟨Amap.get_del_self _ _ _, fun i hi => Amap.get_del_other _ _ hi, fun hle => htec.trans (by omega), only.journal, only.calm⟩

section
variable {id : BitVec 29} {ide : Bool} (hfree : s.blocked port.val (id.toNat + (if ide then 2 ^ 29 else 0)) = false)
include hfree

theorem exec_canCollision : let key := id.toNat + (if ide then 2 ^ 29 else 0)
    exec (.canCollision port id ide) s = .next (if 3 ≤ Amap.get 0 (s.port port.val).collisions key + 1
      then (s.collided port.val key).blockId port.val key else s.collided port.val key) := by
  have hexec : exec (.canCollision port id ide) s = execCanCollision port id ide s := rfl
  rw [hexec, execCanCollision]
  dsimp only
  rw [hcore, hfree, if_neg (by simp [hon])]
  rfl

/-- The first two collisions in a row are counted (R142). -/
theorem canCollision_counts :
    let key := id.toNat + (if ide then 2 ^ 29 else 0)
    let n := Amap.get 0 (s.port port.val).collisions key
    n < 2 → Answers (.canCollision port id ide) s (fun t =>
      Amap.get 0 (t.port port.val).collisions key = n + 1 ∧
      t.obj (0x1F90 + port.val) 0x0C = (s.obj (0x1F90 + port.val) 0x0C + 1) % 2 ^ 32 ∧
      t.obj (0x1F90 + port.val) 9 = min (s.obj (0x1F90 + port.val) 9 + 8) 255 ∧ t.journal = s.journal ∧
      (∀ j ∈ blockSlots, t.obj (0x1F90 + port.val) j = s.obj (0x1F90 + port.val) j) ∧ Calm s t) := by
  intro key n hn
  obtain ⟨hrow, hcount, htec, -, hslots, hjournal, hcalm⟩ := s.collided_counts port.isLt key
  refine answers_next (exec_canCollision hcore hon hfree) ?_
  rw [if_neg (show ¬3 ≤ n + 1 by omega)]
  refine ⟨hrow, hcount, htec, hjournal, fun j hj => ?_, hcalm⟩
  obtain ⟨hlow, hhigh⟩ := mem_blockSlots hj
  exact hslots j (by omega) hhigh

/-- The third collision in a row blocks the identifier in the next free slot (R142). -/
theorem canCollision_blocks {j : Nat}
    (hslot : blockSlots.find? (fun i => s.obj (0x1F90 + port.val) i = 0xFFFFFFFF) = some j) :
    let key := id.toNat + (if ide then 2 ^ 29 else 0)
    2 ≤ Amap.get 0 (s.port port.val).collisions key → Answers (.canCollision port id ide) s (fun t =>
      t.blocked port.val key = true ∧ t.obj (0x1F90 + port.val) j = key ∧
      t.obj (0x1F90 + port.val) 0x0D = s.obj (0x1F90 + port.val) 0x0D + 1 ∧
      Journaled 0x3F (0x1F90 + port.val) j 0xFFFF 0xFFFFFFFF key s t ∧ Calm s t) := by
  intro key hn
  obtain ⟨-, -, -, hrun, hslots, hjournal, hcalm⟩ := s.collided_counts port.isLt key
  refine answers_next (exec_canCollision hcore hon hfree) ?_
  rw [if_pos (show 3 ≤ Amap.get 0 (s.port port.val).collisions key + 1 by omega)]
  have hslot' : blockSlots.find? (fun i => (s.collided port.val key).obj (0x1F90 + port.val) i = 0xFFFFFFFF) = some j := by
    rw [← hslot]
    refine List.find?_congr fun i hi => ?_
    obtain ⟨hlow, hhigh⟩ := mem_blockSlots hi
    rw [hslots i (by omega) hhigh]
  obtain ⟨hblocked, hkey, hcount, hentry, hcalm'⟩ := State.blockId_blocks port.isLt key (hrun.trans hcore) hslot'
  refine ⟨hblocked, hkey, hcount.trans (by rw [hslots 0x0D (by decide) (by decide)]), ?_, hcalm.trans hcalm'⟩
  obtain ⟨-, -, -, -, -, hpw, -, -⟩ := hcalm
  unfold Journaled at hentry ⊢
  rwa [hjournal, hpw] at hentry

end

/-- A heartbeat carries the NMT state (R134). -/
theorem heartbeatTimer_sends (hproducer : s.obj 0x1017 0 ≠ 0) : Answers (.heartbeatTimer port) s (fun t =>
    SendsFrame port.val (0x700 + s.nodeId port.val) (leBytes 1 (s.nmt port.val)) s t ∧ t.can = s.can ∧ Calm s t) := by
  have hexec : exec (.heartbeatTimer port) s = execHeartbeatTimer port s := rfl
  refine answers_next (t := s.canSend port.val (0x700 + s.nodeId port.val) 0 (leBytes 1 (s.nmt port.val))) ?_
    ⟨State.canSend_sends port.isLt hon _ _, State.canSend_can _ _ _ _ _, calm_canSend _ _ _ _ _⟩
  rw [hexec, execHeartbeatTimer]
  simp [hcore, hproducer]

end

section
variable {e : Emcy} {rest : List Emcy} (hqueue : (s.port port.val).emcys = e :: rest)
include hqueue

/-- The oldest EMCY leaves once the inhibit time has passed (R135). -/
theorem emcyTransmit_sends (hcore : (s.port port.val).core = true) (hon : s.obj (0x1F90 + port.val) 8 ≠ 2)
    (hlost : (s.port port.val).dropped = 0) (hnmt : s.nmt port.val = 5 ∨ s.nmt port.val = 0x7F)
    (henabled : bit (s.cobId 0x1014 port.val) 31 = false)
    (hinhibit : ∀ a ∈ (s.port port.val).emcyAt, a + 100 * s.obj 0x1015 0 ≤ s.now) : Answers (.emcyTransmit port) s (fun t =>
      SendsFrame port.val (s.cobId 0x1014 port.val % 2 ^ 30)
        (leBytes 2 e.code ++ leBytes 1 e.reg ++ leBytes 1 e.source ++ leBytes 4 e.info ++
          (if s.obj (0x1F90 + port.val) 2 = 0 then [] else leBytes 8 e.stamp)) s t ∧
      (t.port port.val).emcys = rest ∧ (t.port port.val).emcyAt = some s.now ∧ Calm s t) := by
  have hexec : exec (.emcyTransmit port) s = execEmcyTransmit port s := rfl
  have hserved : ¬(¬s.nmt port.val = 5 ∧ ¬s.nmt port.val = 0x7F) := by omega
  let u := s.emcyTaken port.val rest
  have hport := s.port_emcyTaken port.val rest
  have hblocked (id : Nat) : u.blocked port.val id = s.blocked port.val id :=
    State.blocked_congr (s := s) (t := u) (by rw [hport]) (fun _ _ => rfl) id
  refine answers_next (t := u.canSend port.val (s.cobId 0x1014 port.val % 2 ^ 30) 0 (s.emcyBytes port.val e)) ?_ ?_
  · rw [hexec, execEmcyTransmit]
    dsimp only
    rw [hqueue]
    dsimp only
    rw [State.reportLost_none (by rw [State.port_modPort_self]; exact hlost), if_neg, if_neg (by rw [henabled]; decide)]
    · rfl
    · cases hlast : (s.port port.val).emcyAt with
      | none => simp [hcore, hon, hserved]
      | some a => simp [hcore, hon, hserved, hinhibit a hlast]
  have hsent := State.canSend_sends (s := u) port.isLt hon (s.cobId 0x1014 port.val % 2 ^ 30) (s.emcyBytes port.val e)
  rw [SendsFrame, hblocked] at hsent
  rw [← State.emcyBytes_eq, State.port_congr (State.canSend_can _ _ _ _ _), hport]
  exact ⟨hsent, rfl, rfl, calm_canSend u _ _ _ _⟩

/-- No EMCY leaves before the inhibit time has passed (R135). -/
theorem emcyTransmit_inhibited {a : Nat} (hlast : (s.port port.val).emcyAt = some a) (hinhibit : s.now < a + 100 * s.obj 0x1015 0) :
    Answers (.emcyTransmit port) s (fun t => t = s) := by
  have hexec : exec (.emcyTransmit port) s = execEmcyTransmit port s := rfl
  refine answers_next (t := s) ?_ rfl
  rw [hexec, execEmcyTransmit]
  simp [hqueue, hlast, Nat.not_le.mpr hinhibit]

/-- No EMCY leaves a port that is Stopped (R135). -/
theorem emcyTransmit_stopped (hnmt : s.nmt port.val = 4) : Answers (.emcyTransmit port) s (fun t => t = s) := by
  have hexec : exec (.emcyTransmit port) s = execEmcyTransmit port s := rfl
  refine answers_next (t := s) ?_ rfl
  rw [hexec, execEmcyTransmit]
  simp [hqueue, hnmt]

end

/-- Without a producer time no heartbeat is sent (R134). -/
theorem heartbeatTimer_off (hproducer : s.obj 0x1017 0 = 0) : Answers (.heartbeatTimer port) s (fun t => t = s) := by
  have hexec : exec (.heartbeatTimer port) s = execHeartbeatTimer port s := rfl
  refine answers_next (t := s) ?_ rfl
  rw [hexec, execHeartbeatTimer]
  simp [hproducer]

/-- BUS_OFF_RECOVERY returns the port to error active and reports it (R143). -/
theorem busOffRecovery_recovers (hoff : s.obj (0x1F90 + port.val) 8 = 2) : Answers (.busOffRecovery port) s (fun t =>
    t.obj (0x1F90 + port.val) 8 = 0 ∧ t.obj (0x1F90 + port.val) 9 = 0 ∧ t.obj (0x1F90 + port.val) 0x0A = 0 ∧
    t.journal = s.journal ∧ t.out = s.out ∧ t.paths = s.paths ∧ Calm s t ∧
    (s.pw.mode.awake = true → s.nmt port.val ≠ 4 → (s.port port.val).emcys = [] →
      ∃ e ∈ (t.port port.val).emcys, e.code = 0x8140 ∧ e.source = 0xFF ∧ e.info = port.val)) := by
  have hexec : exec (.busOffRecovery port) s = execBusOffRecovery port s := rfl
  refine answers_next (t := (s.showErrors port.val 0 0).raise 0x8140 0xFF port.val) ?_ ?_
  · rw [hexec, execBusOffRecovery]
    simp [hoff, State.showErrors, errorState]
  have shown := PortsOnly.showErrors s port.val 0 0
  have raised : PortsOnly [] _ ((s.showErrors port.val 0 0).raise 0x8140 0xFF port.val) := .raise _ _ _ _
  obtain ⟨hstate, htec, hrec, -⟩ := s.showErrors_shows port.isLt 0 0
  have only := shown.trans (raised.mono (List.nil_subset _))
  have reported {j : Nat} (hj : j < 256) (hlost : j ≠ 0x1B) := raised.portObj port.isLt hj hlost List.not_mem_nil
  refine ⟨(reported (by decide) (by decide)).trans hstate, (reported (by decide) (by decide)).trans htec,
    (reported (by decide) (by decide)).trans hrec, only.journal, only.out, only.paths, only.calm, fun hawake hnmt hempty => ?_⟩
  obtain ⟨e, he, hcode, hsource, hinfo⟩ := State.raise_queues (s := s.showErrors port.val 0 0) port.isLt
    (by rw [shown.pw]; exact hawake) (by
      rw [State.nmt, shown.portObj port.isLt (by decide) (by decide) (by simp [errorKeys, okey])]; exact hnmt)
    (by rw [State.port_congr (s.showErrors_can _ _ _)]; exact hempty) 0x8140 0xFF port.val
  exact ⟨e, he, hcode, hsource, hinfo.trans (Nat.mod_eq_of_lt (by omega))⟩

end

/-- Settles O45: a TPDO, a heartbeat and an EMCY each leave or stay by the one condition their rule names; errors, collisions and
bus-off each change their port through `State.setErrors` (`State.setErrors_shows`) and what is reported of it (`PortsOnly`). -/
theorem canSendsAndHandlesErrors : Obligations.CanSendsAndHandlesErrors := by
  refine ⟨fun n s hports => ⟨?eventType, ?changeType⟩, ?safe, fun port s hcore hon => ⟨?heartbeat, ?noHeartbeat, ?emcy, ?errors,
    ?busOff, ?collisions⟩, ?recovery⟩
  case eventType =>
    exact fun htype => ⟨tpdoSend_sends (exec_tpdoEventTimer_sends hports htype), tpdoChange_quiet (.inr (by rw [htype]; decide))⟩
  case changeType =>
    exact fun htype => ⟨tpdoEventTimer_quiet (.inr (by rw [htype]; decide)), fun a => tpdoChange_inhibited,
      fun hinhibit hchanged => tpdoSend_sends (exec_tpdoChange_sends hports htype hinhibit hchanged), tpdoChange_same⟩
  case safe =>
    exact fun n s hsafe => ⟨tpdoEventTimer_quiet (.inl (tpdoPorts_safe hsafe _)), tpdoChange_quiet (.inl (tpdoPorts_safe hsafe _))⟩
  case heartbeat => exact heartbeatTimer_sends hcore hon
  case noHeartbeat => exact heartbeatTimer_off
  case emcy =>
    exact fun e rest hqueue hlost => ⟨emcyTransmit_sends hqueue hcore hon hlost, fun a => emcyTransmit_inhibited hqueue,
      emcyTransmit_stopped hqueue⟩
  case errors => exact fun tec rec => canBusError_active hcore hon rec
  case busOff => exact fun tec rec => canBusError_busOff hcore hon rec
  case collisions =>
    exact fun id ide => ⟨canCollision_counts hcore hon, fun hfree hn j hslot => canCollision_blocks hcore hon hfree hslot hn,
      canSuccessfulTransmission_resets hcore hon id ide⟩
  case recovery => exact fun port s => busOffRecovery_recovers

end Sys2Proof
end

section
/-! # The state slots of a stream that is lost (R172, R314, R316) -/

namespace Sys2Proof.Machine

open Sys2Proof

/-! ## Flagging slots of the state table -/

/-- A slot's flag is set by a store into the first word of the slot. -/
theorem State.memByte_flagSlot (s : State) (n a : Nat) : (s.flagSlot n).memByte a =
    if slotAddr n ≤ a ∧ a < slotAddr n + 8 then (leBytes 8 (setBit (s.memNat (slotAddr n) 8) 49)).getD (a - slotAddr n) 0
    else s.memByte a :=
  s.memByte_memWrite (slotAddr n) _ a

/-- A slot is flagged as its own first word says, whatever the rest of memory holds. -/
theorem State.memByte_flagSlot_congr {s t : State} {n a : Nat} (hword : t.memNat (slotAddr n) 8 = s.memNat (slotAddr n) 8)
    (ha : t.memByte a = s.memByte a) : (t.flagSlot n).memByte a = (s.flagSlot n).memByte a := by
  rw [State.memByte_flagSlot, State.memByte_flagSlot, hword, ha]

/-- One slot's part of R316: it is flagged where it is valid and its second word is taken. -/
def State.flagIfTaken (p : Nat → Bool) (s : State) (n : Nat) : State :=
  if bit (s.memNat (slotAddr n) 8) 48 && p (s.memNat (slotAddr n + 8) 8) then s.flagSlot n else s

theorem State.flagSlots_eq_foldl (s : State) (p : Nat → Bool) : s.flagSlots p = (List.range 4096).foldl (State.flagIfTaken p) s :=
  rfl

theorem State.flagIfTaken_of_taken {s : State} {p : Nat → Bool} {n : Nat} (hvalid : bit (s.memNat (slotAddr n) 8) 48 = true)
    (htaken : p (s.memNat (slotAddr n + 8) 8) = true) : State.flagIfTaken p s n = s.flagSlot n := by
  rw [State.flagIfTaken, hvalid, htaken, Bool.and_self, if_pos rfl]

/-- Flagging other slots leaves the 16 bytes of a slot. -/
theorem State.memByte_flagOthers (p : Nat → Bool) {n a : Nat} (ha : slotAddr n ≤ a ∧ a < slotAddr n + 16) (l : List Nat)
    (hl : n ∉ l) (s : State) : (l.foldl (State.flagIfTaken p) s).memByte a = s.memByte a := by
  induction l generalizing s with
  | nil => rfl
  | cons m l ih =>
    obtain ⟨hm, hl⟩ := List.ne_and_not_mem_of_not_mem_cons hl
    refine (ih hl _).trans ?_
    unfold State.flagIfTaken
    split
    · rw [State.memByte_flagSlot, if_neg (by unfold slotAddr at *; omega)]
    · rfl

/-- A value in memory is the same where its bytes are. -/
theorem State.memNat_congr {s t : State} {a n : Nat} (h : ∀ k < n, t.memByte (a + k) = s.memByte (a + k)) :
    t.memNat a n = s.memNat a n :=
  congrArg leVal (List.map_congr_left fun k hk => h k (List.mem_range.mp hk))

/-- Of the slots of a list, one that is valid and taken is flagged once. -/
theorem State.memByte_flagAll (s : State) {p : Nat → Bool} {n a : Nat} {l : List Nat} (hn : n ∈ l) (honce : l.Nodup)
    (ha : slotAddr n ≤ a ∧ a < slotAddr n + 16) (hvalid : bit (s.memNat (slotAddr n) 8) 48 = true)
    (htaken : p (s.memNat (slotAddr n + 8) 8) = true) :
    (l.foldl (State.flagIfTaken p) s).memByte a = (s.flagSlot n).memByte a := by
  obtain ⟨before, after, rfl⟩ := List.append_of_mem hn
  have hbefore : n ∉ before := fun h => List.disjoint_of_nodup_append honce h List.mem_cons_self
  have hafter : n ∉ after := (List.nodup_cons.mp honce.of_append_right).1
  have hkept {b : Nat} (hb : slotAddr n ≤ b ∧ b < slotAddr n + 16) := State.memByte_flagOthers p hb before hbefore s
  have hword : (before.foldl (State.flagIfTaken p) s).memNat (slotAddr n) 8 = s.memNat (slotAddr n) 8 :=
    State.memNat_congr fun k hk => hkept (by omega)
  have howner : (before.foldl (State.flagIfTaken p) s).memNat (slotAddr n + 8) 8 = s.memNat (slotAddr n + 8) 8 :=
    State.memNat_congr fun k hk => hkept (by omega)
  rw [List.foldl_append, List.foldl_cons, State.memByte_flagOthers p ha after hafter,
    State.flagIfTaken_of_taken (hword.symm ▸ hvalid) (howner.symm ▸ htaken)]
  exact State.memByte_flagSlot_congr hword (hkept ha)

/-- A valid slot that a stream owns is among those flagged for it (R316). -/
theorem State.memByte_flagStream (s : State) {strm n a : Nat} (hn : n < 4096) (ha : slotAddr n ≤ a ∧ a < slotAddr n + 16)
    (hvalid : bit (s.memNat (slotAddr n) 8) 48 = true)
    (howned : s.memNat (slotAddr n + 8) 8 / 2 ^ 16 % 256 = 1 ∧ s.memNat (slotAddr n + 8) 8 / 2 ^ 24 % 2 ^ 16 = strm) :
    (s.flagStream strm).memByte a = (s.flagSlot n).memByte a := by
  rw [State.flagStream, State.flagSlots_eq_foldl]
  refine s.memByte_flagAll (List.mem_range.mpr hn) List.nodup_range ha hvalid ?_
  simp only [howned.1, howned.2, decide_true, Bool.and_self]

/-! ## A stream is lost -/

/-- A stream fault counts, and is class S where 0x5001:02 has it so (R372). -/
theorem DetectsOnly.streamFault (s : State) (strm : Nat) : DetectsOnly s (s.streamFault strm) := by
  unfold State.streamFault
  exact ite (refl s) ((setObj s _ (by decide)).trans (ite (classSOpen _ _) (refl _)))

/-- The loss of a stream as it is shown, counted and reported, before its slots are flagged (R172). -/
def State.showLost (s : State) (strm ticks : Nat) : State :=
  ((s.setObj 0x3002 1 4 strm).bump 0x3003 0x0B strm).raise 0xFF02 strm ticks

theorem State.mem_showLost (s : State) (strm ticks : Nat) : (s.showLost strm ticks).mem = s.mem := (ReportsOnly.raise _ _ _ _).mem

/-- A stream that is between frames and fills no strip is lost: that is shown, its slots are flagged, and it may be a fault. -/
theorem exec_livenessExpiry_idle {s : State} {strm : Fin 96} {q : Sluice} (hq : s.sluice? strm.val = some q)
    (hsluicing : s.sluicing = true) (hlive : s.streamState strm.val ≠ 4) (hidle : s.streamState strm.val ≠ 2)
    (hempty : q.filling = none) : exec (.livenessExpiry strm) s =
      .next (((s.showLost strm.val (s.clk.ticks - q.lineTick)).flagStream strm.val).streamFault strm.val) := by
  have : exec (.livenessExpiry strm) s = execLivenessExpiry strm s := rfl
  simp [this, execLivenessExpiry, hq, hsluicing, hlive, hidle, hempty, State.showLost]

/-- A stream's loss flags a valid slot that it owns (R316). -/
theorem State.memByte_lost (s : State) {strm ticks n a : Nat} (hn : n < 4096) (ha : slotAddr n ≤ a ∧ a < slotAddr n + 16)
    (hvalid : bit (s.memNat (slotAddr n) 8) 48 = true)
    (howned : s.memNat (slotAddr n + 8) 8 / 2 ^ 16 % 256 = 1 ∧ s.memNat (slotAddr n + 8) 8 / 2 ^ 24 % 2 ^ 16 = strm) :
    (((s.showLost strm ticks).flagStream strm).streamFault strm).memByte a = (s.flagSlot n).memByte a := by
  have hbyte (b : Nat) : (s.showLost strm ticks).memByte b = s.memByte b := by
    rw [State.memByte, State.memByte, s.mem_showLost]
  have hnat (b : Nat) : (s.showLost strm ticks).memNat b 8 = s.memNat b 8 := State.memNat_congr fun k _ => hbyte (b + k)
  calc _ = ((s.showLost strm ticks).flagStream strm).memByte a := (DetectsOnly.streamFault _ strm).sameMemory.1 a
    _ = ((s.showLost strm ticks).flagSlot n).memByte a :=
      State.memByte_flagStream _ hn ha (by rwa [hnat]) (by rwa [hnat])
    _ = (s.flagSlot n).memByte a := State.memByte_flagSlot_congr (hnat _) (hbyte a)

end Sys2Proof.Machine

namespace Sys2Proof

open Sys2Proof.Machine

/-- The words of a valid slot of the state table (R314): LINEAR, one value wide, its state at the host region's base, its reset flag
clear; owned by stream 0. -/
def streamSlot : List Byte := leBytes 8 (0xA00000000 + 2 ^ 48 + 1 * 2 ^ 50) ++ leBytes 8 (1 + 1 * 2 ^ 16 + 0 * 2 ^ 24)

/-- An enabled sluice of stream 0, which awaits a frame start and holds nothing. -/
def awaitingSluice : Sluice :=
  { stream := 0, on := true, base := 0, size := 4096, line := 0, index := 0, next := 0, filling := none, good := []
    recent := [], lineStamp := 0, lineNs := 0, sensorTime := none, owners := [], seq := none, lineTick := 0, lineAt := 0
    frameAt := 0, strips := [], ringNext := 0, lastDeadline := 0, above := false, spillAt := none, lut := [], grid := 0
    anchors := [] }

/-- BENCH with stream 0 enabled, not safety-relevant and awaiting a frame start, and with that slot as slot 0 of the state table. -/
def benchWithStreamSlot : State :=
  { State.reset with
    pw := { Power.reset with mode := .bench, porst := false }
    clk := { Clock.reset with tbRun := true }
    objs := [(okey 0x3000 1 0, 1), (okey 0x3002 1 0, 1), (okey 0x4801 2 0, 0xA00000000)]
    seq := { Seq.idle with sluices := [awaitingSluice] }
    mem := memPut [] (slotAddr 0) streamSlot }

/-- The loss of stream 0 sets the reset flag of the slot there: byte [6] of its first word goes from 5 to 7. -/
theorem exec_livenessExpiry_streamSlot : benchWithStreamSlot.memByte (slotAddr 0 + 6) = 5 ∧
    ∃ t, exec (.livenessExpiry 0) benchWithStreamSlot = .next t ∧ t.memByte (slotAddr 0 + 6) = 7 := by
  refine ⟨by decide +kernel, _, exec_livenessExpiry_idle (q := awaitingSluice) rfl rfl (by decide +kernel) (by decide +kernel) rfl, ?_⟩
  have hslot := benchWithStreamSlot.memByte_lost (strm := 0) (ticks := benchWithStreamSlot.clk.ticks - awaitingSluice.lineTick)
    (n := 0) (a := slotAddr 0 + 6) (by decide) (by decide) (by decide +kernel) (by decide +kernel)
  exact hslot.trans (by decide +kernel)

/-- Refutes O47: its clause on LIVENESS_EXPIRY has all of memory stay (`Calm`). Where the stream owns a valid slot of the state table,
its loss sets the slot's reset flag (R316), and that slot is memory. -/
theorem not_sensorLinesEnterTheirSluices : ¬ Obligations.SensorLinesEnterTheirSluices := by
  unfold Obligations.SensorLinesEnterTheirSluices
  rintro ⟨-, -, -, -, -, -, hliveness, -⟩
  obtain ⟨t, hexec, -, -, -, -, -, ⟨hsame, -⟩, -⟩ :=
    hliveness 0 awaitingSluice benchWithStreamSlot rfl rfl (by decide +kernel) (.inl (by decide +kernel))
  obtain ⟨hbefore, u, hexec', hafter⟩ := exec_livenessExpiry_streamSlot
  obtain rfl := Host.Outcome.next.inj (hexec.symm.trans hexec')
  have hstays := hsame (slotAddr 0 + 6)
  rw [hbefore, hafter] at hstays
  exact absurd hstays (by decide)

end Sys2Proof
end

section
/-! # The microsecond (O3): R29, R30, R46, R59, R69, R192 -/

namespace Sys2Proof.Machine

open Sys2Proof

/-! ## The clocks -/

/-- SCLK's part of a microsecond, counted in units of 1 / 61,000,000 of a period (R59, R69). -/
theorem Clock.advanceRtc_counts {c : Clock} (substitute : Bool) (hfrac : c.rtcFrac < 61000000) (hrtc : c.rtc + 1 < 2 ^ 64) :
    61000000 * (c.advanceRtc substitute).rtc + (c.advanceRtc substitute).rtcFrac =
      61000000 * c.rtc + c.rtcFrac + if substitute then 2000000 else 61 * 32768 := by
  cases substitute <;> simp only [Clock.advanceRtc, if_true, Bool.false_eq_true, if_false] <;> omega

/-- At its nominal rate the Time Base advances by 1,000 ns in a microsecond, which is one TICK edge (R192). -/
theorem Clock.advanceTb_nominal (c : Clock) : c.advanceTb 0 =
    { c with tb := (c.tb + 1000 * 2 ^ 40) % 2 ^ 104, ticks := c.ticks + 1, elapsed := c.elapsed + 1 } := by
  have hpassed : (c.tb + 1000 * 2 ^ 40) / (1000 * 2 ^ 40) - c.tb / (1000 * 2 ^ 40) = 1 := by omega
  have hadvance : (100 * (10 * 2 ^ 40 + 10 * 0) : Int).toNat = 1000 * 2 ^ 40 := by decide
  simp only [Clock.advanceTb, hadvance, hpassed]

theorem Clock.advanceTb_rtc (c : Clock) (a : Int) :
    (c.advanceTb a).us = c.us ∧ (c.advanceTb a).rtc = c.rtc ∧ (c.advanceTb a).rtcFrac = c.rtcFrac := ⟨rfl, rfl, rfl⟩

/-- The microsecond's own count, and the real-time counter's, do not depend on the Time Base. -/
theorem State.clockTick_rtc (s : State) : let c := s.clk.advanceRtc (s.objB 0x2030 6)
    s.clockTick.clk.us = s.clk.us + 1 ∧ s.clockTick.clk.rtc = c.rtc ∧ s.clockTick.clk.rtcFrac = c.rtcFrac := by
  unfold State.clockTick
  dsimp only
  split
  · exact Clock.advanceTb_rtc _ _
  · exact ⟨rfl, rfl, rfl⟩

/-- A stopped Time Base stays, and its time is counted in microseconds (R30). -/
theorem State.clockTick_stopped {s : State} (h : s.clk.tbRun = false) : s.clockTick.clk.tb = s.clk.tb ∧
    s.clockTick.clk.ticks = s.clk.ticks ∧ s.clockTick.clk.elapsed = s.clk.elapsed + 1 := by
  simp [State.clockTick, Clock.advanceRtc, h]

/-- A running Time Base that is not adjusted takes its nominal microsecond (R192). -/
theorem State.clockTick_nominal {s : State} (h : s.clk.tbRun = true) (hrate : s.obj 0x9000 4 = 0) :
    s.clockTick.clk.tb = (s.clk.tb + 1000 * 2 ^ 40) % 2 ^ 104 ∧ s.clockTick.clk.ticks = s.clk.ticks + 1 ∧
    s.clockTick.clk.elapsed = s.clk.elapsed + 1 := by
  have hzero : s.objI 32 0x9000 4 = 0 := by rw [State.objI, hrate]; rfl
  simp [State.clockTick, h, hzero, Clock.advanceTb_nominal, Clock.advanceRtc]

/-! ## What else a microsecond counts -/

/-- A TICK edge for which no write to 0x9001 waits leaves the end station (R212). -/
theorem State.gptpEdge_idle {s : State} (h : s.gptp.writes = []) (n : Nat) : s.gptpEdge n = s := by
  have hidle : s.modGptp (fun g => { g with writes := [] }) = s := by rw [State.modGptp, ← h]
  unfold State.gptpEdge
  rw [h, hidle, List.foldl_nil, ite_self]

/-- From `s` to `t` only cycles and TICK edges have been counted: in entries, counter banks and the cycle counters of the
Keepers. -/
structure CyclesOnly (s t : State) : Prop where
  rest : t = { s with objs := t.objs, banks := t.banks, ctxs := t.ctxs }

namespace CyclesOnly

variable {s t u : State}

theorem refl (s : State) : CyclesOnly s s := ⟨rfl⟩

theorem trans (h : CyclesOnly s t) (k : CyclesOnly t u) : CyclesOnly s u := ⟨by rw [k.rest, h.rest]⟩

theorem clk (h : CyclesOnly s t) : t.clk = s.clk := by rw [h.rest]
theorem pw (h : CyclesOnly s t) : t.pw = s.pw := by rw [h.rest]
theorem held (h : CyclesOnly s t) : t.held = s.held := by rw [h.rest]
theorem paths (h : CyclesOnly s t) : t.paths = s.paths := by rw [h.rest]
theorem pending (h : CyclesOnly s t) : t.pending = s.pending := by rw [h.rest]
theorem gptp (h : CyclesOnly s t) : t.gptp = s.gptp := by rw [h.rest]
theorem sameMemory (h : CyclesOnly s t) : SameMemory s t := by rw [h.rest]; exact ⟨fun _ => rfl, rfl⟩

theorem ite {c : Prop} [Decidable c] (ht : CyclesOnly s t) (hu : CyclesOnly s u) : CyclesOnly s (if c then t else u) := by
  split
  · exact ht
  · exact hu

theorem bump (s : State) (i j c n : Nat) : CyclesOnly s (s.bump i j c n) := ⟨rfl⟩

theorem engineCycles (s : State) : CyclesOnly s s.engineCycles := by
  unfold State.engineCycles
  refine ite (refl s) (foldl_keeps (CyclesOnly s) _ (fun u e h => h.trans (ite (refl u) ⟨rfl⟩)) _ s (refl s))

theorem keeperCycles (s : State) : CyclesOnly s s.keeperCycles := by
  unfold State.keeperCycles
  exact ite (refl s) (foldl_keeps (CyclesOnly s) _ (fun u k h => h.trans (ite ⟨rfl⟩ (refl u))) _ s (refl s))

theorem spentTicks (s : State) (n : Nat) : CyclesOnly s (s.spentTicks n) := by
  unfold State.spentTicks
  exact ((ite (bump s _ _ _ _) (refl s)).trans (ite (bump _ _ _ _ _) (refl _))).trans (ite (bump _ _ _ _ _) (refl _))

/-- What the core's clocks count while no write to 0x9001 waits for a TICK edge. -/
theorem coreTick {s : State} (h : s.gptp.writes = []) (n : Nat) : CyclesOnly s (s.coreTick n) := by
  unfold State.coreTick
  have hcounted := ((engineCycles s).trans (keeperCycles _)).trans (spentTicks _ n)
  rw [State.gptpEdge_idle (by rw [hcounted.gptp]; exact h)]
  exact ite hcounted (refl s)

end CyclesOnly

/-! ## The step -/

/-- In OFF nothing runs before PORST_N releases (R46, R59). -/
theorem State.tick_off {s : State} (hoff : s.pw.mode = .off) (hboot : s.pw.booting = false) : s.tick = s := by
  simp [State.tick, hoff, hboot]

/-- Elsewhere, with nothing that waits on the microsecond, the clocks move on and cycles are counted. -/
theorem State.tick_counts {s : State} (hruns : s.pw.mode ≠ .off ∨ s.pw.booting = true) (hheld : s.held = [])
    (hteardown : s.pw.teardown = none) (hwrites : s.gptp.writes = []) : CyclesOnly s.clockTick s.tick := by
  have hcore : CyclesOnly s.clockTick (s.clockTick.coreTick (s.clockTick.clk.ticks - s.clk.ticks)) :=
    .coreTick (s := s.clockTick) hwrites _
  have hstep {u : State} (h : u.pw.teardown = none) : u.teardownStep = u := by rw [State.teardownStep, h]
  have hsettle {u : State} (h : u.held = []) : u.settleHeld = u := by simp [State.settleHeld, h]
  unfold State.tick
  rw [if_neg (by rcases hruns with h | h <;> simp [h])]
  dsimp only
  rw [hstep (by rw [hcore.pw]; exact hteardown),
    hsettle (by rw [hcore.held]; exact hheld)]
  exact hcore

end Sys2Proof.Machine

namespace Sys2Proof

open Sys2Proof.Machine

/-- Settles O3: the clocks move as `State.clockTick` says, and the rest of the microsecond only counts (`State.tick_counts`). -/
theorem microsecondMovesClocks : Obligations.MicrosecondMovesClocks := by
  unfold Obligations.MicrosecondMovesClocks
  have hstep {s : Machine.State} (h : s.pending = []) : Machine.step s = .next s.tick := by rw [Machine.step, h]
  refine ⟨fun s hoff hboot hpending => by rw [hstep hpending, State.tick_off hoff hboot],
    fun s hruns hpending hheld hteardown hwrites => ⟨_, hstep hpending, ?_⟩⟩
  have hcounts := State.tick_counts hruns hheld hteardown hwrites
  obtain ⟨hus, hrtc, hfrac⟩ := s.clockTick_rtc
  rw [hcounts.clk, hrtc, hfrac]
  exact ⟨hus, hcounts.sameMemory, hcounts.paths, hcounts.pw, hcounts.pending.trans hpending,
    Clock.advanceRtc_counts _, State.clockTick_stopped, State.clockTick_nominal⟩

end Sys2Proof
end

section
/-! # What the end station may change (chapter 8) -/

namespace Sys2Proof.Machine

open Sys2Proof

@[simp] theorem State.obj_modGptp (s : State) (f : Gptp → Gptp) (i j c : Nat) : (s.modGptp f).obj i j c = s.obj i j c := rfl

@[simp] theorem State.modGptp_gptp (s : State) (f : Gptp → Gptp) : (s.modGptp f).gptp = f s.gptp := rfl

theorem ReportsOnly.gptp {s t : State} (h : ReportsOnly s t) : t.gptp = s.gptp := by rw [h.rest]

/-- From `s` to `t` only the end station's state has changed: some entries, those of reports among them, the EMCY queues, the
channels' states, what was sent, and a free value taken. -/
structure TimeOnly (keys : List Nat) (s t : State) : Prop where
  rest : t = { s with objs := t.objs, can := t.can, mons := t.mons, out := t.out, gptp := t.gptp, freeCtr := t.freeCtr }
  objK : ∀ k, k ∉ keys → reportKey k = false → t.objK k = s.objK k

namespace TimeOnly

variable {keys keys' : List Nat} {s t u : State}

theorem refl (s : State) : TimeOnly keys s s := ⟨rfl, fun _ _ _ => rfl⟩

theorem trans (h : TimeOnly keys s t) (k : TimeOnly keys' t u) : TimeOnly (keys ++ keys') s u :=
  ⟨by rw [k.rest, h.rest], fun n hn hr =>
    (k.objK n (fun hm => hn (List.mem_append_right _ hm)) hr).trans (h.objK n (fun hm => hn (List.mem_append_left _ hm)) hr)⟩

theorem mono (h : TimeOnly keys s t) (hsub : keys ⊆ keys') : TimeOnly keys' s t :=
  ⟨h.rest, fun n hn => h.objK n fun hm => hn (hsub hm)⟩

/-- An entry that is none of the keys' or of the reports' keeps its value; the side conditions are decided for numbers. -/
theorem obj (h : TimeOnly keys s t) (i j : Nat) (hk : okey i j 0 ∉ keys := by decide)
    (hr : reportKey (okey i j 0) = false := by decide) : t.obj i j = s.obj i j := h.objK _ hk hr

theorem clk (h : TimeOnly keys s t) : t.clk = s.clk := by rw [h.rest]
theorem now (h : TimeOnly keys s t) : t.now = s.now := by rw [h.rest]; rfl
theorem journal (h : TimeOnly keys s t) : t.journal = s.journal := by rw [h.rest]
theorem pw (h : TimeOnly keys s t) : t.pw = s.pw := by rw [h.rest]
theorem ethDown (h : TimeOnly keys s t) : t.ethDown = s.ethDown := by rw [h.rest]

theorem calm (h : TimeOnly keys s t) : Calm s t := by
  rw [h.rest]; exact ⟨⟨fun _ => rfl, rfl⟩, rfl, rfl, rfl, rfl, rfl, rfl, rfl⟩

theorem ofReports (h : ReportsOnly s t) : TimeOnly [] s t := ⟨by rw [h.rest], fun k _ => h.objK k⟩

theorem setObj (s : State) (i j v : Nat) : TimeOnly [okey i j 0] s (s.setObj i j v) :=
  ⟨rfl, fun _ hk _ => s.objK_setObj_ne fun e => hk (List.mem_singleton.mpr e)⟩

theorem bump (s : State) (i j : Nat) : TimeOnly [okey i j 0] s (s.bump i j) := setObj s i j _

theorem modGptp (s : State) (f : Gptp → Gptp) : TimeOnly keys s (s.modGptp f) := ⟨rfl, fun _ _ _ => rfl⟩

theorem emit (s : State) (o : Output) : TimeOnly keys s (s.emit o) := ⟨rfl, fun _ _ _ => rfl⟩

theorem ite {c : Prop} [Decidable c] (ht : TimeOnly keys s t) (hu : TimeOnly keys s u) : TimeOnly keys s (if c then t else u) := by
  split
  · exact ht
  · exact hu

/-- Slewing takes a free value for the servo and sets the rate (R192, R202). -/
theorem slew (s : State) : TimeOnly [okey 0x9000 4 0] s s.slew :=
  trans (keys := []) (t := s.takeFree.2) ⟨rfl, fun _ _ _ => rfl⟩ (setObj _ _ _ _)

/-- An arrival on the edge of its limit counts near-misses (R211). -/
theorem receiptEdge (s : State) (at_ : Option Nat) (n : Nat) :
    TimeOnly [okey 0x9005 1 0, okey 0x9005 2 0] s (s.receiptEdge at_ n) := by
  unfold State.receiptEdge
  split
  · unfold State.nearEdge State.nearMiss
    rw [State.nearMissIn_eq]
    exact ite (ite ((bump s 0x9005 1).trans (bump _ 0x9005 2)) (refl s)) (refl s)
  · exact refl s

end TimeOnly

@[simp] theorem State.receiptEdge_gptp (s : State) (at_ : Option Nat) (n : Nat) : (s.receiptEdge at_ n).gptp = s.gptp := by
  unfold State.receiptEdge
  split
  · split
    · rw [s.nearEdge_eq]
    · rfl
  · rfl

/-- The counts of the end station are 32 bits wide. -/
theorem objBits_gptpCounts : ∀ j ∈ [5, 6, 7, 8, 9, 0x0A], objBits 0x9002 j = 32 := by decide +kernel

theorem State.obj_bump_gptp (s : State) {j : Nat} (hj : j ∈ [5, 6, 7, 8, 9, 0x0A]) :
    (s.bump 0x9002 j).obj 0x9002 j = (s.obj 0x9002 j + 1) % 2 ^ 32 := by
  rw [State.obj_bump_self, objBits_gptpCounts j hj]

/-! ## Slewing (R192, R202) -/

/-- The rate is one within 250 ppm either way. -/
def Steers (t : State) : Prop := ∃ a : Int, -ppm250 ≤ a ∧ a ≤ ppm250 ∧ t.obj 0x9000 4 = ofSigned 32 a

/-- Whatever the servo gives, the rate is clamped. -/
theorem State.slew_steers (s : State) : Steers s.slew :=
  ⟨_, le_max_left _ _, max_le (by decide) (min_le_left _ _), State.obj_setObj_self _ _ _ _ _⟩

/-! ## Holdover (R203) -/

/-- Out of the locked state, holdover only begins the count of Syncs again. -/
theorem State.holdover_unlocked {s : State} (h : s.obj 0x9000 3 ≠ 3) :
    s.holdover = s.modGptp fun g => { g with run := 0, within := 0 } := by
  unfold State.holdover
  exact if_pos (by simpa using h)

/-- From the locked state, holdover is shown, counted and reported, with the grandmaster's last rate. -/
theorem State.holdover_locked {s : State} (h : s.obj 0x9000 3 = 3) : s.holdover =
    ((((s.modGptp fun g => { g with run := 0, within := 0 }).setObj 0x9000 3 4).setObj 0x9000 4 (ofSigned 32 s.gptp.rate)).bump
      0x9002 8).raise 0xFF06 0xFF 1 := by
  unfold State.holdover
  exact if_neg (by simpa using h)

/-- The entries that holdover writes. -/
def holdoverKeys : List Nat := [okey 0x9000 3 0, okey 0x9000 4 0, okey 0x9002 8 0]

theorem TimeOnly.holdover (s : State) : TimeOnly holdoverKeys s s.holdover := by
  by_cases h : s.obj 0x9000 3 = 3
  · rw [State.holdover_locked h]
    exact (((modGptp (keys := []) s _).trans (setObj _ 0x9000 3 _)).trans (setObj _ 0x9000 4 _)).trans
      ((bump _ 0x9002 8).trans (ofReports (.raise _ _ _ _)))
  · rw [State.holdover_unlocked h]
    exact modGptp s _

theorem State.holdover_gptp (s : State) : s.holdover.gptp = { s.gptp with run := 0, within := 0 } := by
  by_cases h : s.obj 0x9000 3 = 3
  · rw [State.holdover_locked h, (ReportsOnly.raise _ _ _ _).gptp]; rfl
  · rw [State.holdover_unlocked h]; rfl

theorem State.holdover_out (s : State) : s.holdover.out = s.out := by
  by_cases h : s.obj 0x9000 3 = 3
  · rw [State.holdover_locked h, (PortsOnly.raise (keys := []) _ _ _ _).out]; rfl
  · rw [State.holdover_unlocked h]; rfl

/-- The end station has entered holdover with the frozen rate. -/
def HoldsOver (s t : State) : Prop :=
  t.obj 0x9000 3 = 4 ∧ t.obj 0x9000 4 = ofSigned 32 s.gptp.rate ∧ t.obj 0x9002 8 = (s.obj 0x9002 8 + 1) % 2 ^ 32 ∧
  t.gptp.run = 0 ∧ t.clk = s.clk ∧ t.journal = s.journal ∧ Calm s t

theorem State.holdover_holdsOver {s : State} (h : s.obj 0x9000 3 = 3) : HoldsOver s s.holdover := by
  have only := TimeOnly.holdover s
  refine ⟨?_, ?_, ?_, by rw [s.holdover_gptp], only.clk, only.journal, only.calm⟩
  · rw [State.holdover_locked h, (ReportsOnly.raise _ _ _ _).obj 0x9000 3, State.obj_bump_ne _ (by decide),
      State.obj_setObj_ne _ (by decide), State.obj_setObj_self]
  · rw [State.holdover_locked h, (ReportsOnly.raise _ _ _ _).obj 0x9000 4, State.obj_bump_ne _ (by decide), State.obj_setObj_self]
  · rw [State.holdover_locked h, (ReportsOnly.raise _ _ _ _).obj 0x9002 8, State.obj_bump_gptp _ (by decide),
      State.obj_setObj_ne _ (by decide), State.obj_setObj_ne _ (by decide)]
    rfl

/-! ## Whether the port is asCapable (R197, R203) -/

/-- The entries that decide whether a port is asCapable. -/
def conditionKeys : List Nat :=
  [okey 0x9001 1 0, okey 0x9001 2 0, okey 0x9001 7 0, okey 0x9001 0x0C 0, okey 0x9002 3 0, okey 0x9002 4 0]

/-- A change that leaves the entries and the exchanges that asCapable rests on leaves it. -/
theorem State.capable_congr {keys : List Nat} {s t : State} (h : TimeOnly keys s t) (hmeasured : t.gptp.measured = s.gptp.measured)
    (hunanswered : t.gptp.unanswered = s.gptp.unanswered)
    (hkeys : ∀ k ∈ conditionKeys, k ∉ keys) :
    t.capable = s.capable := by
  have hobj (i j : Nat) (hk : okey i j 0 ∈ conditionKeys) (hr : reportKey (okey i j 0) = false) : t.obj i j = s.obj i j :=
    h.obj i j (hkeys _ hk) hr
  unfold State.capable State.gptpOn State.objB State.objI
  rw [hmeasured, hunanswered, h.clk, h.pw, h.ethDown, hobj 0x9001 1 (by decide) (by decide), hobj 0x9001 2 (by decide) (by decide),
    hobj 0x9001 7 (by decide) (by decide), hobj 0x9001 0x0C (by decide) (by decide), hobj 0x9002 3 (by decide) (by decide),
    hobj 0x9002 4 (by decide) (by decide)]

/-- 0x9002:02 takes the value of its conditions; what else changes is holdover's. -/
theorem State.refreshCapable_cases (s : State) : let u := s.setObjB 0x9002 2 s.capable
    s.refreshCapable = u ∨ s.refreshCapable = u.holdover := by
  unfold State.refreshCapable
  dsimp only
  split
  · exact .inr rfl
  · exact .inl rfl

/-- The entries that 0x9002:02 and the holdover after its loss write. -/
def capableKeys : List Nat := okey 0x9002 2 0 :: holdoverKeys

theorem TimeOnly.refreshCapable (s : State) : TimeOnly capableKeys s s.refreshCapable := by
  have hset : TimeOnly [okey 0x9002 2 0] s (s.setObjB 0x9002 2 s.capable) := setObj s _ _ _
  obtain h | h := s.refreshCapable_cases <;> rw [h]
  · exact hset.mono (by simp [capableKeys])
  · exact hset.trans (holdover _)

theorem State.refreshCapable_gptp (s : State) :
    ∃ run within, s.refreshCapable.gptp = { s.gptp with run := run, within := within } := by
  obtain h | h := s.refreshCapable_cases <;> rw [h]
  · exact ⟨_, _, rfl⟩
  · exact ⟨_, _, State.holdover_gptp _⟩

theorem State.refreshCapable_out (s : State) : s.refreshCapable.out = s.out := by
  obtain h | h := s.refreshCapable_cases <;> rw [h]
  · rfl
  · rw [State.holdover_out]; rfl

/-- 0x9002:02 agrees with its conditions afterwards. -/
theorem State.refreshCapable_shows (s : State) : s.refreshCapable.objB 0x9002 2 = s.refreshCapable.capable := by
  obtain ⟨run, within, hgptp⟩ := s.refreshCapable_gptp
  have hcapable : s.refreshCapable.capable = s.capable :=
    State.capable_congr (.refreshCapable s) (by rw [hgptp]) (by rw [hgptp]) (by decide)
  have hset : (s.setObjB 0x9002 2 s.capable).objB 0x9002 2 = s.capable := by
    rw [State.objB, State.setObjB, State.obj_setObj_self]
    cases s.capable <;> rfl
  rw [hcapable]
  obtain h | h := s.refreshCapable_cases <;> rw [h]
  · exact hset
  · rw [State.objB, (TimeOnly.holdover _).obj 0x9002 2]
    exact hset

end Sys2Proof.Machine
end

section
/-! # Syncs (R196, R198, R200, R201, R202, R212) -/

namespace Sys2Proof.Machine

open Sys2Proof

/-! ## What a Sync leaves -/

/-- A Sync has been counted as rejected, and changes neither the rate nor the clocks (R198). -/
def SyncRejected (s t : State) : Prop :=
  t.obj 0x9002 7 = (s.obj 0x9002 7 + 1) % 2 ^ 32 ∧ t.obj 0x9000 4 = s.obj 0x9000 4 ∧ t.clk = s.clk ∧
  t.journal = s.journal ∧ Calm s t

/-- A Sync of offset `o` has been accepted: counted, its offset shown, and its place in the row kept (R198, R200). -/
def SyncAccepted (m : GptpSync) (o : Int) (s t : State) : Prop :=
  t.obj 0x9002 5 = (s.obj 0x9002 5 + 1) % 2 ^ 32 ∧ t.obj 0x9000 8 = ofSigned 64 o ∧ t.gptp.seq = some m.seq.toNat ∧
  t.gptp.run = s.gptp.run + 1 ∧ t.gptp.syncAt = some s.now ∧ t.gptp.jumps = 0 ∧ t.clk = s.clk ∧
  t.journal = s.journal ∧ Calm s t

/-- What follows an accepted Sync, beside its counters and its row, leaves it accepted. -/
theorem SyncAccepted.later {m : GptpSync} {o : Int} {keys : List Nat} {s t u : State} (h : SyncAccepted m o s t)
    (only : TimeOnly keys t u) (hgptp : u.gptp = { t.gptp with step := u.gptp.step })
    (hkeys : okey 0x9002 5 0 ∉ keys ∧ okey 0x9000 8 0 ∉ keys) : SyncAccepted m o s u := by
  obtain ⟨hcount, hoffset, hseq, hrun, hat, hjumps, hclk, hjournal, hcalm⟩ := h
  refine ⟨(only.obj 0x9002 5 hkeys.1).trans hcount, (only.obj 0x9000 8 hkeys.2).trans hoffset, ?_, ?_, ?_, ?_,
    only.clk.trans hclk, only.journal.trans hjournal, hcalm.trans only.calm⟩ <;> rw [hgptp] <;> assumption

/-- The edge of the receipt timeout comes before the Sync, and is only counted (R203, R211). -/
theorem SyncAccepted.of_edge {m : GptpSync} {o : Int} {s t : State} {at_ : Option Nat} {n : Nat}
    (h : SyncAccepted m o (s.receiptEdge at_ n) t) : SyncAccepted m o s t := by
  have only := TimeOnly.receiptEdge s at_ n
  obtain ⟨hcount, hoffset, hseq, hrun, hat, hjumps, hclk, hjournal, hcalm⟩ := h
  rw [only.obj 0x9002 5] at hcount
  rw [s.receiptEdge_gptp] at hrun
  rw [only.now] at hat
  exact ⟨hcount, hoffset, hseq, hrun, hat, hjumps, hclk.trans only.clk, hjournal.trans only.journal, only.calm.trans hcalm⟩

/-! ## An accepted Sync (R200, R202) -/

/-- The Syncs in a row within the lock threshold, this one counted. -/
def State.syncsWithin (s : State) (o : Int) : Nat := if absNat o ≤ s.obj 0x9001 8 then s.gptp.within + 1 else 0

/-- The Sync is taken into the row, counted, and its offset shown and sampled. -/
def State.syncTaken (s : State) (m : GptpSync) (o : Int) : State :=
  (((s.modGptp fun g => { g with
    seq := some m.seq.toNat, run := s.gptp.run + 1, within := s.syncsWithin o, jumps := 0, rate := m.rate
    syncAt := some s.now }).bump 0x9002 5).setObj 0x9000 8 (ofSigned 64 o)).monSample 0x11 0 o

theorem State.syncTaken_only (s : State) (m : GptpSync) (o : Int) :
    TimeOnly [okey 0x9002 5 0, okey 0x9000 8 0] s (s.syncTaken m o) :=
  (((TimeOnly.modGptp (keys := []) s _).trans (.bump _ 0x9002 5)).trans (.setObj _ 0x9000 8 _)).trans
    (.ofReports (.monSample _ _ _ _))

theorem State.syncTaken_accepted (s : State) (m : GptpSync) (o : Int) : SyncAccepted m o s (s.syncTaken m o) := by
  have only := s.syncTaken_only m o
  have sampled : ReportsOnly _ (s.syncTaken m o) := .monSample _ 0x11 0 o
  refine ⟨?_, ?_, by rw [sampled.gptp]; rfl, by rw [sampled.gptp]; rfl, by rw [sampled.gptp]; rfl, by rw [sampled.gptp]; rfl,
    only.clk, only.journal, only.calm⟩
  · rw [sampled.obj 0x9002 5, State.obj_setObj_ne _ (by decide), State.obj_bump_gptp _ (by decide)]
    rfl
  · rw [sampled.obj 0x9000 8, State.obj_setObj_self]

theorem State.syncTaken_step (s : State) (m : GptpSync) (o : Int) : (s.syncTaken m o).gptp.step = s.gptp.step := by
  rw [State.syncTaken, (ReportsOnly.monSample _ _ _ _).gptp]; rfl

/-- Acquisition is shown as state 0x02, and the end of a holdover is reported (R200, R203). -/
def State.acquired (s : State) (old : Nat) : State :=
  if old = 4 then (s.setObj 0x9000 3 2).raise 0xFF06 0xFF 0 else s.setObj 0x9000 3 2

theorem State.acquired_reports (s : State) (old : Nat) : ReportsOnly (s.setObj 0x9000 3 2) (s.acquired old) :=
  .ite (.raise _ _ _ _) (.refl _)

theorem State.acquired_only (s : State) (old : Nat) : TimeOnly [okey 0x9000 3 0] s (s.acquired old) :=
  (TimeOnly.setObj s 0x9000 3 2).trans (.ofReports (s.acquired_reports old))

theorem State.acquired_state (s : State) (old : Nat) : (s.acquired old).obj 0x9000 3 = 2 := by
  rw [(s.acquired_reports old).obj 0x9000 3, State.obj_setObj_self]

theorem State.acquired_gptp (s : State) (old : Nat) : (s.acquired old).gptp = s.gptp := (s.acquired_reports old).gptp

/-- The Sync that acquires: a step waits where the offset is beyond the step limit, else the Time Base slews (R201, R202). -/
theorem State.syncAccepted_acquires {s : State} (m : GptpSync) (o : Int) (hstate : s.obj 0x9000 3 ≠ 3)
    (hrun : s.gptp.run + 1 = 2) : s.syncAccepted m o =
      let u := (s.syncTaken m o).acquired (s.obj 0x9000 3)
      if s.obj 0x9001 9 < absNat o then (u.modGptp fun g => { g with step := some (stepOf o) }).setObj 0x9000 4 (ofSigned 32 m.rate)
      else u.slew := by
  unfold State.syncAccepted
  extract_lets old _ run _ taken acquires v slewed u
  have hacquires : acquires = true := by simp [acquires, old, run, hstate, hrun]
  have hv : v = u := by
    simp only [v, hacquires, Bool.true_and, if_true, decide_eq_true_eq]
    rfl
  have hstep : u.obj 0x9001 9 = s.obj 0x9001 9 := ((s.syncTaken_only m o).trans (State.acquired_only _ old)).obj 0x9001 9
  have hshown : u.obj 0x9000 3 = 2 := State.acquired_state _ old
  have hslewed : slewed = u.slew := congrArg State.slew hv
  simp [hacquires, hslewed, hv, hstep, hshown, hrun, run]

/-- Any other Sync slews the Time Base while it is locked or acquiring, and the fourth within the lock threshold locks it (R200). -/
theorem State.syncAccepted_follows {s : State} (m : GptpSync) (o : Int) (h : s.obj 0x9000 3 = 3 ∨ s.gptp.run + 1 ≠ 2) :
    s.syncAccepted m o =
      let u := s.syncTaken m o
      if s.obj 0x9000 3 = 3 ∨ (s.obj 0x9000 3 = 2 ∧ 2 ≤ s.gptp.run + 1) then
        if s.obj 0x9000 3 = 2 ∧ 4 ≤ s.syncsWithin o then u.slew.setObj 0x9000 3 3 else u.slew
      else u := by
  unfold State.syncAccepted
  extract_lets old within run _ taken acquires v slewed u
  have hacquires : acquires = false := by
    rcases h with h | h
    · simp [acquires, old, h]
    · simp [acquires, run, h]
  have hv : v = u := (if_neg (by simp [hacquires])).trans (if_neg (by simp [hacquires]))
  have hslewed : slewed = u.slew := congrArg State.slew hv
  have hwithin : within = s.syncsWithin o := rfl
  have hshown : u.obj 0x9000 3 = s.obj 0x9000 3 := (s.syncTaken_only m o).obj 0x9000 3
  have hstays : u.slew.obj 0x9000 3 = s.obj 0x9000 3 := ((TimeOnly.slew u).obj 0x9000 3).trans hshown
  simp [hacquires, hslewed, hv, hwithin, hshown, hstays, run]

/-- Slewing after an accepted Sync leaves it accepted, and steers. -/
theorem SyncAccepted.slew {m : GptpSync} {o : Int} {s t : State} (h : SyncAccepted m o s t) :
    SyncAccepted m o s t.slew ∧ Steers t.slew :=
  ⟨h.later (.slew t) rfl (by decide), t.slew_steers⟩

section
variable {s : State} (m : GptpSync) (o : Int)

theorem State.syncAccepted_locked (hstate : s.obj 0x9000 3 = 3) : let t := s.syncAccepted m o
    SyncAccepted m o s t ∧ Steers t ∧ t.obj 0x9000 3 = 3 := by
  obtain ⟨haccepted, hsteers⟩ := (s.syncTaken_accepted m o).slew
  have hshown := ((s.syncTaken_only m o).trans (.slew _)).obj 0x9000 3
  rw [State.syncAccepted_follows m o (.inl hstate)]
  simp only [hstate, true_or, if_true, show ¬(3 = 2 ∧ 4 ≤ s.syncsWithin o) by simp, if_false]
  exact ⟨haccepted, hsteers, hshown.trans hstate⟩

theorem State.syncAccepted_second (hstate : s.obj 0x9000 3 ≠ 3) (hrun : s.gptp.run + 1 = 2) : let t := s.syncAccepted m o
    SyncAccepted m o s t ∧ t.obj 0x9000 3 = 2 ∧
    (s.obj 0x9001 9 < absNat o → t.gptp.step = some (stepOf o) ∧ t.obj 0x9000 4 = ofSigned 32 m.rate) ∧
    (absNat o ≤ s.obj 0x9001 9 → t.gptp.step = s.gptp.step ∧ Steers t) := by
  rw [State.syncAccepted_acquires m o hstate hrun]
  extract_lets u t
  have haccepted : SyncAccepted m o s u := (s.syncTaken_accepted m o).later (State.acquired_only _ _)
    (by rw [State.acquired_gptp]) (by decide)
  have hshown : u.obj 0x9000 3 = 2 := State.acquired_state _ _
  by_cases hfar : s.obj 0x9001 9 < absNat o
  · rw [show t = _ from if_pos hfar]
    exact ⟨haccepted.later ((TimeOnly.modGptp (keys := []) u _).trans (.setObj _ 0x9000 4 _)) rfl (by decide),
      (State.obj_setObj_ne _ (by decide)).trans hshown, fun _ => ⟨rfl, State.obj_setObj_self _ _ _ _ _⟩,
      fun hnear => by omega⟩
  · rw [show t = _ from if_neg hfar]
    obtain ⟨haccepted, hsteers⟩ := haccepted.slew
    refine ⟨haccepted, ((TimeOnly.slew u).obj 0x9000 3).trans hshown, fun h => absurd h hfar, fun _ => ⟨?_, hsteers⟩⟩
    exact (congrArg Gptp.step (State.acquired_gptp _ _)).trans (s.syncTaken_step m o)

theorem State.syncAccepted_later (hstate : s.obj 0x9000 3 = 2) (hrun : 2 < s.gptp.run + 1) : let t := s.syncAccepted m o
    SyncAccepted m o s t ∧ Steers t ∧ t.obj 0x9000 3 = if 4 ≤ s.syncsWithin o then 3 else 2 := by
  obtain ⟨haccepted, a, hlow, hhigh, hrate⟩ := (s.syncTaken_accepted m o).slew
  have hshown := ((s.syncTaken_only m o).trans (.slew _)).obj 0x9000 3
  rw [State.syncAccepted_follows m o (.inr (by omega))]
  dsimp only
  rw [if_pos (.inr ⟨hstate, hrun.le⟩)]
  simp only [hstate, true_and]
  split
  · exact ⟨haccepted.later (.setObj _ 0x9000 3 3) (by rw [State.setObj_gptp]) (by decide),
      ⟨a, hlow, hhigh, (State.obj_setObj_ne _ (by decide)).trans hrate⟩, State.obj_setObj_self _ _ _ _ _⟩
  · exact ⟨haccepted, ⟨a, hlow, hhigh, hrate⟩, hshown.trans hstate⟩

theorem State.syncAccepted_first (hstate : s.obj 0x9000 3 ≠ 3) (hrun : s.gptp.run + 1 = 1) : let t := s.syncAccepted m o
    SyncAccepted m o s t ∧ t.obj 0x9000 3 = s.obj 0x9000 3 ∧ t.obj 0x9000 4 = s.obj 0x9000 4 := by
  have only := s.syncTaken_only m o
  rw [State.syncAccepted_follows m o (.inr (by omega))]
  simp only [hrun, hstate, Nat.reduceLeDiff, and_false, or_false, if_false]
  exact ⟨s.syncTaken_accepted m o, only.obj 0x9000 3, only.obj 0x9000 4⟩

end

/-! ## A Sync that is judged (R196, R198, R212) -/

/-- A Sync is judged: gPTP runs, it comes on the port and domain in use, asCapable, and not on the edge of another grandmaster. -/
structure SyncJudged (m : GptpSync) (s : State) : Prop where
  on : s.gptpOn = true
  port : s.obj 0x9001 2 = m.port.val
  domain : s.obj 0x9001 3 = m.domain.toNat
  capable : s.objB 0x9002 2 = true
  listed : m.kind = .listed
  edge : s.gptp.changeAt ≠ some s.now

/-- A Sync that does not fit is counted, and begins the counts of Syncs again. -/
def State.syncUnfit (s : State) : State :=
  (s.bump 0x9002 7).modGptp fun g => { g with jumps := 0, within := 0, run := if g.run < 2 then 0 else g.run }

/-- A jump while locked is counted, and the fourth in a row reacquires. -/
def State.syncJump (s : State) : State :=
  let t := (s.bump 0x9002 7).modGptp fun g => { g with jumps := g.jumps + 1 }
  if s.gptp.jumps = 3 then (t.modGptp fun g => { g with jumps := 0, run := 0, within := 0 }).setObj 0x9000 3 2 else t

theorem SyncRejected.of_only {keys : List Nat} {s t : State} (only : TimeOnly keys s t) (hrate : okey 0x9000 4 0 ∉ keys)
    (hcount : t.obj 0x9002 7 = (s.obj 0x9002 7 + 1) % 2 ^ 32) : SyncRejected s t :=
  ⟨hcount, only.obj 0x9000 4 hrate, only.clk, only.journal, only.calm⟩

theorem State.syncUnfit_rejected (s : State) : SyncRejected s s.syncUnfit ∧ s.syncUnfit.obj 0x9000 3 = s.obj 0x9000 3 := by
  have only : TimeOnly [okey 0x9002 7 0] s s.syncUnfit := (TimeOnly.bump s 0x9002 7).trans (keys' := []) (.modGptp _ _)
  have hcount : s.syncUnfit.obj 0x9002 7 = (s.obj 0x9002 7 + 1) % 2 ^ 32 := by
    rw [State.syncUnfit, State.obj_modGptp, State.obj_bump_gptp _ (by decide)]
  exact ⟨.of_only only (by decide) hcount, only.obj 0x9000 3⟩

theorem State.syncJump_rejected (s : State) (h : s.obj 0x9000 3 = 3) :
    SyncRejected s s.syncJump ∧ s.syncJump.obj 0x9000 3 = if s.gptp.jumps = 3 then 2 else 3 := by
  unfold State.syncJump
  extract_lets t
  have only : TimeOnly [okey 0x9002 7 0] s t := (TimeOnly.bump s 0x9002 7).trans (keys' := []) (.modGptp _ _)
  have hcount : t.obj 0x9002 7 = (s.obj 0x9002 7 + 1) % 2 ^ 32 := by
    rw [State.obj_modGptp, State.obj_bump_gptp _ (by decide)]
  split
  · exact ⟨.of_only (only.trans ((TimeOnly.modGptp (keys := []) t _).trans (.setObj _ 0x9000 3 2))) (by decide)
      ((State.obj_setObj_ne _ (by decide)).trans hcount), State.obj_setObj_self _ _ _ _ _⟩
  · exact ⟨.of_only only (by decide) hcount, (only.obj 0x9000 3).trans h⟩

section
variable {m : GptpSync} {s : State}

/-- What becomes of a Sync that is judged: it does not fit, it jumps, or it disciplines the Time Base. -/
theorem SyncJudged.exec_eq (h : SyncJudged m s) : exec (.syncReceived m) s = .next (
    if s.syncFits m = false then s.syncUnfit
    else if s.obj 0x9000 3 = 3 ∧ s.obj 0x9001 0x0A < absNat (s.syncOffset m) then s.syncJump
    else (s.receiptEdge s.gptp.syncAt (s.syncIntervals (s.obj 0x9001 5))).syncAccepted m (s.syncOffset m)) := by
  obtain ⟨hon, hport, hdomain, hcapable, hlisted, hedge⟩ := h
  have hexec : exec (.syncReceived m) s = execSyncReceived m s := rfl
  rw [hexec]
  unfold execSyncReceived
  simp [hon, hport, hdomain, hcapable, hlisted, hedge, State.syncUnfit, State.syncJump]

theorem SyncJudged.unfit (h : SyncJudged m s) (hfits : s.syncFits m = false) :
    Answers (.syncReceived m) s (fun t => SyncRejected s t ∧ t.obj 0x9000 3 = s.obj 0x9000 3) :=
  ⟨_, h.exec_eq.trans (congrArg _ (if_pos hfits)), s.syncUnfit_rejected⟩

theorem SyncJudged.jump (h : SyncJudged m s) (hfits : s.syncFits m = true) (hlocked : s.obj 0x9000 3 = 3)
    (hbeyond : s.obj 0x9001 0x0A < absNat (s.syncOffset m)) :
    Answers (.syncReceived m) s (fun t => SyncRejected s t ∧ t.obj 0x9000 3 = if s.gptp.jumps = 3 then 2 else 3) :=
  ⟨_, h.exec_eq.trans (congrArg _ ((if_neg (by simp [hfits])).trans (if_pos ⟨hlocked, hbeyond⟩))),
    s.syncJump_rejected hlocked⟩

/-- The state in which an accepted Sync acts: the edge of the receipt timeout has been counted. -/
def State.syncEdge (s : State) : State := s.receiptEdge s.gptp.syncAt (s.syncIntervals (s.obj 0x9001 5))

theorem State.syncEdge_only (s : State) : TimeOnly [okey 0x9005 1 0, okey 0x9005 2 0] s s.syncEdge := .receiptEdge _ _ _

theorem SyncJudged.exec_accepted (h : SyncJudged m s) (hfits : s.syncFits m = true)
    (hnear : s.obj 0x9000 3 = 3 → absNat (s.syncOffset m) ≤ s.obj 0x9001 0x0A) :
    exec (.syncReceived m) s = .next (s.syncEdge.syncAccepted m (s.syncOffset m)) :=
  h.exec_eq.trans (congrArg _ ((if_neg (by simp [hfits])).trans (if_neg fun hjump =>
    absurd (hnear hjump.1) (by omega))))

/-- The edge leaves what an accepted Sync acts on. -/
theorem State.syncEdge_leaves (s : State) (o : Int) : s.syncEdge.gptp = s.gptp ∧ s.syncEdge.obj 0x9000 3 = s.obj 0x9000 3 ∧
    s.syncEdge.obj 0x9000 4 = s.obj 0x9000 4 ∧ s.syncEdge.obj 0x9001 9 = s.obj 0x9001 9 ∧
    s.syncEdge.syncsWithin o = s.syncsWithin o := by
  have only := s.syncEdge_only
  have hgptp : s.syncEdge.gptp = s.gptp := s.receiptEdge_gptp _ _
  exact ⟨hgptp, only.obj 0x9000 3, only.obj 0x9000 4, only.obj 0x9001 9, by
    rw [State.syncsWithin, State.syncsWithin, hgptp, only.obj 0x9001 8]⟩

theorem SyncJudged.locked (h : SyncJudged m s) (hfits : s.syncFits m = true) (hstate : s.obj 0x9000 3 = 3)
    (hnear : absNat (s.syncOffset m) ≤ s.obj 0x9001 0x0A) : Answers (.syncReceived m) s (fun t =>
      SyncAccepted m (s.syncOffset m) s t ∧ Steers t ∧ t.obj 0x9000 3 = 3) := by
  obtain ⟨-, hstate', -⟩ := s.syncEdge_leaves (s.syncOffset m)
  obtain ⟨haccepted, hrest⟩ := State.syncAccepted_locked m (s.syncOffset m) (hstate'.trans hstate)
  exact ⟨_, h.exec_accepted hfits fun _ => hnear, haccepted.of_edge, hrest⟩

theorem SyncJudged.second (h : SyncJudged m s) (hfits : s.syncFits m = true) (hstate : s.obj 0x9000 3 ≠ 3)
    (hrun : s.gptp.run + 1 = 2) : Answers (.syncReceived m) s (fun t =>
      SyncAccepted m (s.syncOffset m) s t ∧ t.obj 0x9000 3 = 2 ∧
      (s.obj 0x9001 9 < absNat (s.syncOffset m) →
        t.gptp.step = some (stepOf (s.syncOffset m)) ∧ t.obj 0x9000 4 = ofSigned 32 m.rate) ∧
      (absNat (s.syncOffset m) ≤ s.obj 0x9001 9 → t.gptp.step = s.gptp.step ∧ Steers t)) := by
  obtain ⟨hgptp, hstate', -, hlimit, -⟩ := s.syncEdge_leaves (s.syncOffset m)
  obtain ⟨haccepted, hrest⟩ :=
    State.syncAccepted_second m (s.syncOffset m) (hstate' ▸ hstate) (by rw [hgptp]; exact hrun)
  rw [hlimit, hgptp] at hrest
  exact ⟨_, h.exec_accepted hfits fun h => absurd h hstate, haccepted.of_edge, hrest⟩

theorem SyncJudged.later (h : SyncJudged m s) (hfits : s.syncFits m = true) (hstate : s.obj 0x9000 3 = 2)
    (hrun : 2 < s.gptp.run + 1) : Answers (.syncReceived m) s (fun t =>
      SyncAccepted m (s.syncOffset m) s t ∧ Steers t ∧
      t.obj 0x9000 3 = if 4 ≤ s.syncsWithin (s.syncOffset m) then 3 else 2) := by
  obtain ⟨hgptp, hstate', -, -, hwithin⟩ := s.syncEdge_leaves (s.syncOffset m)
  obtain ⟨haccepted, hrest⟩ :=
    State.syncAccepted_later m (s.syncOffset m) (hstate'.trans hstate) (by rw [hgptp]; exact hrun)
  rw [hwithin] at hrest
  exact ⟨_, h.exec_accepted hfits fun h => by omega, haccepted.of_edge, hrest⟩

theorem SyncJudged.first (h : SyncJudged m s) (hfits : s.syncFits m = true) (hstate : s.obj 0x9000 3 ≠ 3)
    (hrun : s.gptp.run + 1 = 1) : Answers (.syncReceived m) s (fun t =>
      SyncAccepted m (s.syncOffset m) s t ∧ t.obj 0x9000 3 = s.obj 0x9000 3 ∧ t.obj 0x9000 4 = s.obj 0x9000 4) := by
  obtain ⟨hgptp, hstate', hrate, -, -⟩ := s.syncEdge_leaves (s.syncOffset m)
  obtain ⟨haccepted, hrest⟩ :=
    State.syncAccepted_first m (s.syncOffset m) (hstate' ▸ hstate) (by rw [hgptp]; exact hrun)
  rw [hstate', hrate] at hrest
  exact ⟨_, h.exec_accepted hfits fun h => absurd h hstate, haccepted.of_edge, hrest⟩

end

end Sys2Proof.Machine
end

section
/-! # Announces, link delays and timeouts (R196, R197, R199, R203, R212) -/

namespace Sys2Proof.Machine

open Sys2Proof

/-! ## Messages that are not judged -/

/-- A message of an unsupported kind on the port in use is counted, whatever it is (R196). -/
theorem State.unsupported_counts {s : State} {port : Nat} (h : s.obj 0x9001 2 = port) :
    s.unsupported port = s.setObj 0x9002 0x0A ((s.obj 0x9002 0x0A + 1) % 2 ^ 32) := by
  rw [State.unsupported, if_pos h, State.bump, objBits_gptpCounts 0x0A (by decide)]

theorem gptp_unsupported {m : GptpSync} {s : State} (hon : s.gptpOn = true) (hport : s.obj 0x9001 2 = m.port.val)
    (hkind : m.kind ≠ .listed) : ∀ i ∈ [Instr.syncReceived m, .announceReceived ⟨m.port, m.kind⟩ m.domain m.source 0,
      .pdelayReqReceived ⟨m.port, m.kind⟩ m.seq],
    Answers i s (fun t => t = s.setObj 0x9002 0x0A ((s.obj 0x9002 0x0A + 1) % 2 ^ 32)) := by
  have hexec {i : Instr} {e t : State} (h : exec i s = .next e) (he : e = t) : Answers i s (fun u => u = t) := ⟨e, h, he⟩
  have hcounts := State.unsupported_counts hport
  simp only [List.mem_cons, List.not_mem_nil, or_false, forall_eq_or_imp, forall_eq]
  exact ⟨hexec rfl (by simp [hon, hkind, hcounts]), hexec rfl (by simp [hon, hkind, hcounts]),
    hexec rfl (by simp [hon, hkind, hcounts])⟩

/-- A Sync on the edge of another grandmaster is discarded (R212). -/
theorem syncReceived_onChange {m : GptpSync} {s : State} (hon : s.gptpOn = true) (hkind : m.kind = .listed)
    (hedge : s.gptp.changeAt = some s.now) : Answers (.syncReceived m) s (fun t => t = s) :=
  ⟨_, rfl, by simp [hon, hkind, hedge]⟩

/-! ## Announces (R199, R203) -/

/-- The grandmaster and the port of an Announce are shown and kept. -/
def State.announced (s : State) (source gm : Nat) : State :=
  let s := s.receiptEdge s.gptp.announceAt (s.obj 0x9001 6 * 1000000)
  let s := if s.gptp.source = some source then s else s.modGptp fun g => { g with source := some source, seq := none }
  (s.setObj 0x9002 1 gm).modGptp fun g => { g with announceAt := some s.now }

theorem State.announced_only (s : State) (source gm : Nat) :
    TimeOnly [okey 0x9005 1 0, okey 0x9005 2 0, okey 0x9002 1 0] s (s.announced source gm) := by
  unfold State.announced
  extract_lets e t
  have named : TimeOnly [] e t := .ite (.refl _) (.modGptp _ _)
  exact ((TimeOnly.receiptEdge s _ _).trans named).trans ((TimeOnly.setObj t 0x9002 1 gm).trans (.modGptp (keys := []) _ _))

theorem State.announced_says (s : State) (source gm : Nat) :
    (s.announced source gm).obj 0x9002 1 = gm ∧ (s.announced source gm).gptp.source = some source ∧
    (s.announced source gm).gptp.rate = s.gptp.rate := by
  unfold State.announced
  extract_lets e t
  have hgptp : e.gptp = s.gptp := s.receiptEdge_gptp _ _
  have hnamed : t.gptp.source = some source ∧ t.gptp.rate = e.gptp.rate := by
    by_cases h : e.gptp.source = some source
    · rw [show t = e from if_pos h]
      exact ⟨h, rfl⟩
    · rw [show t = _ from if_neg h]
      exact ⟨rfl, rfl⟩
  exact ⟨State.obj_setObj_self _ _ _ _ _, hnamed.1, hnamed.2.trans (by rw [hgptp])⟩

/-- Another grandmaster is a change, noted and counted (R199, R212). -/
def State.grandmasterChanged (s : State) : State := (s.modGptp fun g => { g with changeAt := some s.now }).bump 0x9002 9

theorem State.grandmasterChanged_only (s : State) : TimeOnly [okey 0x9002 9 0] s s.grandmasterChanged :=
  (TimeOnly.modGptp (keys := []) s _).trans (.bump _ 0x9002 9)

section
variable {s : State} {port : Fin 2} {domain : Byte} (source : BitVec 80) (gm : BitVec 64)

/-- An Announce on the port and domain in use is a change where it names another grandmaster than the last one. -/
theorem exec_announceReceived (hon : s.gptpOn = true) (hport : s.obj 0x9001 2 = port.val)
    (hdomain : s.obj 0x9001 3 = domain.toNat) : exec (.announceReceived ⟨port, .listed⟩ domain source gm) s = .next (
      let t := s.announced source.toNat gm.toNat
      if s.gptp.source.isSome = true ∧ s.obj 0x9002 1 ≠ gm.toNat then
        t.grandmasterChanged.holdover
      else t) := by
  have hexec : exec (.announceReceived ⟨port, .listed⟩ domain source gm) s =
    execAnnounceReceived ⟨port, .listed⟩ domain source gm s := rfl
  have only := TimeOnly.receiptEdge s s.gptp.announceAt (s.obj 0x9001 6 * 1000000)
  rw [hexec]
  unfold execAnnounceReceived
  simp only [hon, hport, hdomain, only.obj 0x9002 1]
  simp [State.announced, State.grandmasterChanged]

theorem announceReceived_same (hon : s.gptpOn = true) (hport : s.obj 0x9001 2 = port.val) (hdomain : s.obj 0x9001 3 = domain.toNat)
    (hsame : s.gptp.source = none ∨ s.obj 0x9002 1 = gm.toNat) :
    Answers (.announceReceived ⟨port, .listed⟩ domain source gm) s (fun t =>
      (t.obj 0x9002 1 = gm.toNat ∧ t.gptp.source = some source.toNat) ∧ t.obj 0x9000 3 = s.obj 0x9000 3 ∧
      t.obj 0x9002 9 = s.obj 0x9002 9 ∧ t.clk = s.clk ∧ t.journal = s.journal ∧ Calm s t) := by
  have only := s.announced_only source.toNat gm.toNat
  obtain ⟨hgm, hsource, -⟩ := s.announced_says source.toNat gm.toNat
  refine ⟨_, (exec_announceReceived source gm hon hport hdomain).trans (congrArg _ (if_neg ?_)), ⟨hgm, hsource⟩,
    only.obj 0x9000 3, only.obj 0x9002 9, only.clk, only.journal, only.calm⟩
  rintro ⟨hsome, hother⟩
  rcases hsame with h | h
  · rw [h] at hsome; exact absurd hsome (by decide)
  · exact hother h

theorem HoldsOver.of_only {keys : List Nat} {s t u : State} (h : HoldsOver t u) (only : TimeOnly keys s t)
    (hrate : t.gptp.rate = s.gptp.rate) (hk : okey 0x9002 8 0 ∉ keys) : HoldsOver s u := by
  obtain ⟨hstate, hfrozen, hcount, hrun, hclk, hjournal, hcalm⟩ := h
  rw [hrate] at hfrozen
  rw [only.obj 0x9002 8 hk] at hcount
  exact ⟨hstate, hfrozen, hcount, hrun, hclk.trans only.clk, hjournal.trans only.journal, only.calm.trans hcalm⟩

theorem announceReceived_change (hon : s.gptpOn = true) (hport : s.obj 0x9001 2 = port.val)
    (hdomain : s.obj 0x9001 3 = domain.toNat) (hsome : s.gptp.source.isSome = true) (hother : s.obj 0x9002 1 ≠ gm.toNat)
    (hlocked : s.obj 0x9000 3 = 3) : Answers (.announceReceived ⟨port, .listed⟩ domain source gm) s (fun t =>
      (t.obj 0x9002 1 = gm.toNat ∧ t.gptp.source = some source.toNat) ∧
      t.obj 0x9002 9 = (s.obj 0x9002 9 + 1) % 2 ^ 32 ∧ HoldsOver s t) := by
  let t := s.announced source.toNat gm.toNat
  let u := t.grandmasterChanged
  obtain ⟨hgm, hsource, hrate⟩ := s.announced_says source.toNat gm.toNat
  have said : TimeOnly _ s t := s.announced_only source.toNat gm.toNat
  have changed := t.grandmasterChanged_only
  have held := TimeOnly.holdover u
  have hcount : u.obj 0x9002 9 = (t.obj 0x9002 9 + 1) % 2 ^ 32 := State.obj_bump_gptp _ (by decide)
  refine ⟨_, (exec_announceReceived source gm hon hport hdomain).trans (congrArg _ (if_pos ⟨hsome, hother⟩)),
    ⟨((changed.trans held).obj 0x9002 1).trans hgm, (congrArg Gptp.source u.holdover_gptp).trans hsource⟩, ?_, ?_⟩
  · exact (held.obj 0x9002 9).trans (hcount.trans (by rw [said.obj 0x9002 9]))
  · exact (State.holdover_holdsOver (((said.trans changed).obj 0x9000 3).trans hlocked)).of_only (said.trans changed) hrate
      (by decide)

end

/-! ## Timeouts (R203) -/

theorem receiptTimeout_holdsOver {s : State} (hon : s.gptpOn = true) (hlocked : s.obj 0x9000 3 = 3) :
    Answers (.syncReceiptTimeout) s (HoldsOver s) ∧ Answers (.announceReceiptTimeout) s (HoldsOver s) := by
  have hholds : (if (s.gptpOn && decide (s.obj 0x9000 3 = 3)) = true then s.holdover else s) = s.holdover :=
    if_pos (by simp [hon, hlocked])
  have held := State.holdover_holdsOver hlocked
  exact ⟨⟨_, congrArg Host.Outcome.next hholds, held⟩, ⟨_, congrArg Host.Outcome.next hholds, held⟩⟩

theorem receiptTimeout_unlocked {s : State} (hunlocked : s.obj 0x9000 3 ≠ 3) :
    Answers (.syncReceiptTimeout) s (fun t => t = s) ∧ Answers (.announceReceiptTimeout) s (fun t => t = s) := by
  have hstays : (if (s.gptpOn && decide (s.obj 0x9000 3 = 3)) = true then s.holdover else s) = s := if_neg (by simp [hunlocked])
  exact ⟨⟨_, rfl, hstays⟩, ⟨_, rfl, hstays⟩⟩

/-! ## The link delay (R196, R197) -/

section
variable {s : State}

theorem pdelayReqTimer_asks (hon : s.gptpOn = true) (hup : bit s.ethDown (s.obj 0x9001 2) = false) :
    Answers (.pdelayReqTimer) s (fun t => t.gptp.asked = true ∧
      t.gptp.unanswered = s.gptp.unanswered + (if s.gptp.asked then 1 else 0) ∧
      t.gptp.pdelaySeq = (s.gptp.pdelaySeq + 1) % 65536 ∧
      (s.gptp.pdelaySeq < 65536 → t.out = .gptp 0 (s.obj 0x9001 2) s.gptp.pdelaySeq :: s.out) ∧
      t.objB 0x9002 2 = t.capable ∧ t.clk = s.clk ∧ t.journal = s.journal ∧ Calm s t) := by
  let u := s.modGptp fun g =>
    { g with asked := true, unanswered := if g.asked then g.unanswered + 1 else g.unanswered
             pdelaySeq := (g.pdelaySeq + 1) % 65536 }
  let v := u.emit (.gptp 0 (s.obj 0x9001 2) ((u.gptp.pdelaySeq + 65535) % 65536))
  have asked : TimeOnly [] s v := (TimeOnly.modGptp (keys := []) s _).trans (.emit _ _)
  have only := asked.trans (.refreshCapable v)
  obtain ⟨run, within, hgptp⟩ := v.refreshCapable_gptp
  refine ⟨v.refreshCapable, congrArg Host.Outcome.next (if_neg (by simp [hon, hup])), by rw [hgptp]; rfl, ?_, by rw [hgptp]; rfl,
    fun hseq => ?_, v.refreshCapable_shows, only.clk, only.journal, only.calm⟩
  · rw [hgptp]
    show (if s.gptp.asked = true then _ else _) = _
    split <;> rfl
  · have hnumber : (u.gptp.pdelaySeq + 65535) % 65536 = s.gptp.pdelaySeq := by
      show ((s.gptp.pdelaySeq + 1) % 65536 + 65535) % 65536 = _
      omega
    rw [v.refreshCapable_out, ← hnumber]
    rfl

theorem pdelayRespReceived_measures (hon : s.gptpOn = true) (hasked : s.gptp.asked = true) (delay ratio : BitVec 32) :
    Answers (.pdelayRespReceived delay ratio) s (fun t =>
      t.obj 0x9002 3 = delay.toNat ∧ t.obj 0x9002 4 = ratio.toNat ∧ t.gptp.asked = false ∧ t.gptp.unanswered = 0 ∧
      t.gptp.measured = true ∧ t.objB 0x9002 2 = t.capable ∧ t.obj 0x9002 6 = (s.obj 0x9002 6 + 1) % 2 ^ 32 ∧
      t.clk = s.clk ∧ t.journal = s.journal ∧ Calm s t) := by
  let u := s.modGptp fun g => { g with asked := false, unanswered := 0, measured := true }
  let v := ((u.setObj 0x9002 3 delay.toNat).setObj 0x9002 4 ratio.toNat).bump 0x9002 6
  have measured : TimeOnly [okey 0x9002 3 0, okey 0x9002 4 0, okey 0x9002 6 0] s v :=
    (TimeOnly.modGptp (keys := []) s _).trans
      (((TimeOnly.setObj _ 0x9002 3 _).trans (.setObj _ 0x9002 4 _)).trans (.bump _ 0x9002 6))
  have after := TimeOnly.refreshCapable v
  have only := measured.trans after
  have hdelay : v.obj 0x9002 3 = delay.toNat :=
    (State.obj_bump_ne _ (by decide)).trans ((State.obj_setObj_ne _ (by decide)).trans (State.obj_setObj_self _ _ _ _ _))
  have hratio : v.obj 0x9002 4 = ratio.toNat := (State.obj_bump_ne _ (by decide)).trans (State.obj_setObj_self _ _ _ _ _)
  have hcount : v.obj 0x9002 6 = (s.obj 0x9002 6 + 1) % 2 ^ 32 := by
    rw [State.obj_bump_gptp _ (by decide), State.obj_setObj_ne _ (by decide), State.obj_setObj_ne _ (by decide), State.obj_modGptp]
  obtain ⟨run, within, hgptp⟩ := v.refreshCapable_gptp
  exact ⟨v.refreshCapable, congrArg Host.Outcome.next (if_neg (by simp [hon, hasked])), (after.obj 0x9002 3).trans hdelay,
    (after.obj 0x9002 4).trans hratio, by rw [hgptp]; rfl, by rw [hgptp]; rfl, by rw [hgptp]; rfl, v.refreshCapable_shows,
    (after.obj 0x9002 6).trans hcount, only.clk, only.journal, only.calm⟩

theorem pdelayReqReceived_responds (hon : s.gptpOn = true) {port : Fin 2} (n : BitVec 16) (hport : s.obj 0x9001 2 = port.val)
    (hup : bit s.ethDown port.val = false) : Answers (.pdelayReqReceived ⟨port, .listed⟩ n) s (fun t =>
      t = (s.emit (.gptp 1 port.val n.toNat)).emit (.gptp 2 port.val n.toNat)) :=
  ⟨_, rfl, by simp [hon, hport, hup]⟩

end

end Sys2Proof.Machine
end

section
/-! # The step and the timed frames (R201, R207, R208, R133, R353), and the Time Base's statement (O49) -/

namespace Sys2Proof.Machine

open Sys2Proof

/-! ## The step (R201) -/

/-- At its edge the step is applied, counted and shown, and the rest of the offset is slewed. -/
theorem timeBaseStep_applies {d : Int} {s : State} (hstep : s.gptp.step = some d) (hruns : s.clk.tbRun = true) :
    Answers (.timeBaseStep) s (fun t =>
      t.clk = { s.clk with tb := (((s.clk.tb : Int) + d * 2 ^ 40) % 2 ^ 104).toNat } ∧ t.gptp = { s.gptp with step := none } ∧
      t.obj 0x9000 6 = ofSigned 64 d ∧ t.obj 0x9000 5 = (s.obj 0x9000 5 + 1) % 2 ^ objBits 0x9000 5 ∧ Steers t ∧
      SameObjs [okey 0x9000 4 0, okey 0x9000 5 0, okey 0x9000 6 0] s t ∧ t.timed = s.timed ∧ t.journal = s.journal ∧
      Calm s t) := by
  let u : State := { s with
    clk := { s.clk with tb := (((s.clk.tb : Int) + d * 2 ^ 40) % 2 ^ 104).toNat }, gptp := { s.gptp with step := none } }
  let v := (u.bump 0x9000 5).setObj 0x9000 6 (ofSigned 64 d)
  have hexec : exec (.timeBaseStep) s = .next v.slew := by
    have hexec : exec (.timeBaseStep) s = execTimeBaseStep s := rfl
    rw [hexec, execTimeBaseStep, hstep]
    exact congrArg Host.Outcome.next (if_neg (by simp [hruns]))
  have slewed := TimeOnly.slew v
  have shown : v.obj 0x9000 6 = ofSigned 64 d := State.obj_setObj_self _ _ _ _ _
  have counted : v.obj 0x9000 5 = (s.obj 0x9000 5 + 1) % 2 ^ objBits 0x9000 5 :=
    (State.obj_setObj_ne _ (by decide)).trans (u.obj_bump_self _ _ _ _)
  refine ⟨_, hexec, rfl, rfl, (slewed.obj 0x9000 6).trans shown, (slewed.obj 0x9000 5).trans counted, v.slew_steers, ?_, rfl, rfl,
    ⟨⟨fun _ => rfl, rfl⟩, rfl, rfl, rfl, rfl, rfl, rfl, rfl⟩⟩
  intro i j c hk
  simp only [List.cons_append, List.nil_append, List.mem_cons, not_or] at hk
  obtain ⟨hrate, hcount, hshown, -⟩ := hk
  calc v.slew.obj i j c = v.obj i j c := State.obj_setObj_ne _ hrate
    _ = (u.bump 0x9000 5).obj i j c := State.obj_setObj_ne _ hshown
    _ = s.obj i j c := State.obj_bump_ne _ hcount

/-! ## Timed frames (R207, R208) -/

section
variable {port : LaunchPort} {f : Timed} {s : State}

/-- Whether a frame can leave does not depend on the frames that wait. -/
theorem State.canLeave_iff (fs : List Timed) (f : Timed) : ({ s with timed := fs } : State).canLeave f = true ↔
    f.port < 2 ∨ (s.nmt (f.port - 2) = 5 ∧ f.data.length ≤ s.tpdoRoom (2 ^ (f.port - 2))) := by
  unfold State.canLeave
  rw [Bool.or_eq_true, Bool.and_eq_true, decide_eq_true_eq, decide_eq_true_eq, decide_eq_true_eq]
  exact Iff.rfl

/-- The one frame of a port is dropped where it cannot leave, and leaves on a free bus else. -/
theorem exec_timedLaunch (busFree : Bool) (hruns : s.clk.tbRun = true) (hsafe : s.pw.mode ≠ .safe) (hpend : s.pw.pendSafe = none)
    (hone : s.timed.filter (fun g => g.port = launchCode port) = [f]) :
    exec (.timedLaunch port busFree) s = .next (
      let u : State := { s with timed := s.timed.erase f }
      if u.canLeave f = false then u
      else (if busFree = true then u.bump 0x9003 4
        else if launchCode port < 2 then u.lateFrame (u.nsNow - f.at_) else (u.bump 0x9003 4).bump 0x9003 7).launch f) := by
  have hexec : exec (.timedLaunch port busFree) s = execTimedLaunch port busFree s := rfl
  rw [hexec]
  unfold execTimedLaunch
  simp only [hone, List.foldl_nil]
  simp [hruns, hsafe, hpend]

/-- A frame's port is one of the four. -/
theorem port_of_held (hone : s.timed.filter (fun g => g.port = launchCode port) = [f]) : f.port < 4 := by
  have hmem : f ∈ s.timed.filter (fun g => g.port = launchCode port) := by rw [hone]; exact List.mem_singleton_self f
  have hport : f.port = launchCode port := of_decide_eq_true (List.mem_filter.mp hmem).2
  rw [hport]
  cases port with
  | eth n => simp only [launchCode]; omega
  | can n => simp only [launchCode]; omega

/-- A frame that leaves is sent to its destination, or handed to its CAN port. -/
theorem State.launch_leaves (s : State) {f : Timed} (hport : f.port < 4) : let t := s.launch f
    (f.port < 2 → t.out = (if f.kind = 0 then .record f.port (s.obj 0x3110 2) (s.obj 0x3110 3) f.data
      else .objectList f.port (s.obj 0x3120 2) (s.obj 0x3120 3) f.data) :: s.out) ∧
    t.obj 0x9003 4 = s.obj 0x9003 4 ∧ t.obj 0x9003 5 = s.obj 0x9003 5 ∧ t.timed = s.timed := by
  unfold State.launch
  split
  case isTrue h => exact ⟨fun _ => rfl, rfl, rfl, rfl⟩
  case isFalse h =>
    have hobj (j : Nat) (hj : j < 256) :
        (s.canSend (f.port - 2) (f.kind % 2 ^ 30) (f.kind / 2 ^ 30) f.data).obj 0x9003 j = s.obj 0x9003 j := by
      unfold State.canSend
      split
      · rfl
      · split
        · exact s.obj_bump_ne (by unfold okey; omega)
        · rfl
    exact ⟨fun h2 => absurd h2 h, hobj 4 (by decide), hobj 5 (by decide), by rw [s.canSend_eq]⟩

theorem timedLaunch_drops (busFree : Bool) (hruns : s.clk.tbRun = true) (hsafe : s.pw.mode ≠ .safe) (hpend : s.pw.pendSafe = none)
    (hone : s.timed.filter (fun g => g.port = launchCode port) = [f])
    (hstays : ¬(f.port < 2 ∨ (s.nmt (f.port - 2) = 5 ∧ f.data.length ≤ s.tpdoRoom (2 ^ (f.port - 2))))) :
    Answers (.timedLaunch port busFree) s (fun t => t = { s with timed := s.timed.erase f }) := by
  rw [← State.canLeave_iff (s.timed.erase f)] at hstays
  exact ⟨_, exec_timedLaunch busFree hruns hsafe hpend hone, if_pos (by simpa using hstays)⟩

theorem timedLaunch_leaves (hruns : s.clk.tbRun = true) (hsafe : s.pw.mode ≠ .safe) (hpend : s.pw.pendSafe = none)
    (hone : s.timed.filter (fun g => g.port = launchCode port) = [f])
    (hleaves : f.port < 2 ∨ (s.nmt (f.port - 2) = 5 ∧ f.data.length ≤ s.tpdoRoom (2 ^ (f.port - 2)))) :
    Answers (.timedLaunch port true) s (fun t => t.timed = s.timed.erase f ∧
      (f.port < 2 → t.out = (if f.kind = 0 then .record f.port (s.obj 0x3110 2) (s.obj 0x3110 3) f.data
        else .objectList f.port (s.obj 0x3120 2) (s.obj 0x3120 3) f.data) :: s.out) ∧
      t.obj 0x9003 4 = (s.obj 0x9003 4 + 1) % 2 ^ objBits 0x9003 4 ∧ t.obj 0x9003 5 = s.obj 0x9003 5 ∧
      t.journal = s.journal ∧ Calm s t) := by
  let u : State := { s with timed := s.timed.erase f }
  have hcan : ¬u.canLeave f = false := by
    rw [Bool.not_eq_false, State.canLeave_iff]; exact hleaves
  have only : FramesOnly s ((u.bump 0x9003 4).launch f) :=
    FramesOnly.trans (t := u.bump 0x9003 4) ⟨rfl⟩ (.launch _ f)
  obtain ⟨hout, hcount, hlate, htimed⟩ := (u.bump 0x9003 4).launch_leaves (port_of_held hone)
  have hdest (i j : Nat) (h : okey i j 0 ≠ okey 0x9003 4 0) : (u.bump 0x9003 4).obj i j = s.obj i j := u.obj_bump_ne h
  refine ⟨_, (exec_timedLaunch true hruns hsafe hpend hone).trans (congrArg _ (if_neg hcan)), htimed, fun h => (hout h).trans ?_,
    hcount.trans (u.obj_bump_self _ _ _ _), hlate.trans (hdest 0x9003 5 (by decide)), only.journal, only.calm⟩
  rw [hdest 0x3110 2 (by decide), hdest 0x3110 3 (by decide), hdest 0x3120 2 (by decide), hdest 0x3120 3 (by decide)]
  rfl

/-- None leaves after a class-S detection (R353). -/
theorem timedLaunch_detected (h : s.pw.pendSafe.isSome = true) : Answers (.timedLaunch port true) s (fun t => t = s) :=
  ⟨_, rfl, if_pos (by simp [h])⟩

end

end Sys2Proof.Machine

namespace Sys2Proof

open Sys2Proof.Machine

/-- Settles O49: a Sync that is judged ends in one of its cases (`SyncJudged.exec_eq`), every loss of the grandmaster in the one
holdover (`State.holdover_holdsOver`), and the step and the timed frames each by their own rule. -/
theorem theTimeBaseFollowsGptp : Obligations.TheTimeBaseFollowsGptp := by
  unfold Obligations.TheTimeBaseFollowsGptp
  refine ⟨fun m s hon hport hdomain hcapable hlisted hedge => ?_, fun m s hon hport => ⟨?_, gptp_unsupported hon hport⟩,
    fun s hon => ⟨fun port domain source gm hport hdomain => ?_, receiptTimeout_holdsOver hon, receiptTimeout_unlocked,
      pdelayReqTimer_asks hon, fun delay ratio hasked => pdelayRespReceived_measures hon hasked delay ratio,
      fun port n hport hup => pdelayReqReceived_responds hon n hport hup⟩,
    fun d s hstep hruns => timeBaseStep_applies hstep hruns, fun port f s hruns hsafe hone => ?_⟩
  · have judged : SyncJudged m s := ⟨hon, hport, hdomain, hcapable, hlisted, hedge⟩
    exact ⟨judged.unfit, judged.jump, judged.locked, judged.second, judged.later, judged.first⟩
  · exact syncReceived_onChange hon
  · exact ⟨announceReceived_same source gm hon hport hdomain, announceReceived_change source gm hon hport hdomain⟩
  · exact ⟨fun hpend hstays busFree => timedLaunch_drops busFree hruns hsafe hpend hone hstays,
      fun hpend hleaves => timedLaunch_leaves hruns hsafe hpend hone hleaves, timedLaunch_detected⟩

end Sys2Proof
end

section
/-! # A frame of no stream whose list is done (R302, R303) -/

namespace Sys2Proof

open Sys2Proof.Machine

/-- The stream number for which the lists published (0x3014:01) are counted under the key of the lists sent (0x3120:06): the model's
stream numbers and keys have no bound. -/
def listsSentStream : Nat := okey 0x3120 6 0 - okey 0x3014 1 0

/-- What counts in 0x3014:01 for that number counts in 0x3120:06. -/
theorem obj_listsSentStream (s : State) : s.obj 0x3014 1 listsSentStream = s.obj 0x3120 6 := congrArg s.objK (by decide)

/-- A frame of that number in suppression, with no candidate. -/
def listsSentFrame : PpFrame :=
  { stream := listsSentStream, frame := 0, ended := none, lastStrip := none, lastOut := true, corrected := 0, cands := []
    received := 0, partialIn := false, discarded := false, started := some 0 }

/-- BENCH with that frame in the Post-Processing Unit, and with no path enabled for lists (0x3120:01 reads 0). -/
def benchWithListsSentFrame : State :=
  { State.reset with
    pw := { Power.reset with mode := .bench, porst := false }
    clk := { Clock.reset with tbRun := true }
    seq := { Seq.idle with frames := [listsSentFrame] } }

/-- No path takes lists there, and none has been sent. -/
theorem benchWithListsSentFrame_lists :
    benchWithListsSentFrame.obj 0x3120 1 = 0 ∧ benchWithListsSentFrame.obj 0x3120 6 = 0 := by
  decide +kernel

/-- The list counts as published: 0x3014:01 of the frame's number reads 1. -/
theorem exec_suppressionDone_listsSentFrame :
    ∃ t, exec .suppressionDone benchWithListsSentFrame = .next t ∧ t.obj 0x3014 1 listsSentStream = 1 :=
  ⟨_, rfl, by decide +kernel⟩

/-- Refutes O48: its clause on SUPPRESSION_DONE has 0x3120:06 stay where no path takes the list, for every state, also for one whose
frame has no stream of the board and counts on that entry: it goes from 0 to 1. -/
theorem not_stripsRecordsAndListsFollow : ¬ Obligations.StripsRecordsAndListsFollow := by
  unfold Obligations.StripsRecordsAndListsFollow
  rintro ⟨-, -, -, -, -, hlists, -⟩
  obtain ⟨-, -, hdone, -⟩ := hlists benchWithListsSentFrame (by decide)
  obtain ⟨t, hexec, -, hsent, -⟩ := hdone listsSentFrame rfl
  obtain ⟨u, hexec', hone⟩ := exec_suppressionDone_listsSentFrame
  obtain rfl := Host.Outcome.next.inj (hexec.symm.trans hexec')
  obtain ⟨hpaths, hzero⟩ := benchWithListsSentFrame_lists
  have hoff (k : Nat) : benchWithListsSentFrame.objBit 0x3120 1 k = false := by simp [State.objBit, bit, hpaths]
  simp only [hoff, Bool.false_eq_true, false_and, or_self, if_false, hzero] at hsent
  exact absurd ((obj_listsSentStream t).symm.trans hone) (by simp [hsent])

end Sys2Proof
end

section
/-! # Every command keeps memory in canonical form (O4, O5)

Of each function of the model that gives a state: it leaves memory alone (`_mem`), or it keeps its canonical form (`_wf`); and
each command answers a next state that keeps it (`_next`). The lemmas stand in the order of the functions they speak of. -/

namespace Sys2Proof.Machine

open Sys2Proof

/-! ## Memory that is the same, and memory in canonical form -/

/-- The cells of memory are the same. -/
def SameMem (s t : State) : Prop := t.mem = s.mem

@[simp] theorem sameMem_iff {s t : State} : SameMem s t ↔ t.mem = s.mem := ⟨id, id⟩

/-- Memory is in canonical form: addresses strictly rising, no listed byte 0. -/
def State.Canonical (s : State) : Prop := Memory.wf s.mem = true

@[simp] theorem State.canonical_iff {s : State} : s.Canonical ↔ Memory.wf s.mem = true := ⟨id, id⟩

theorem State.Canonical.wf {s : State} (h : s.Canonical) : Memory.wf s.mem = true := h

/-- A command's outcome is a next state, whose memory is in canonical form where the state's was. -/
def NextCanonical (s : State) (o : Out) : Prop := ∃ t, o = .next t ∧ (s.Canonical → t.Canonical)

theorem nextCanonical_of {s t : State} (h : s.Canonical → Memory.wf t.mem = true) : NextCanonical s (.next t) := ⟨t, rfl, h⟩

@[simp] theorem nextCanonical_next (s t : State) : NextCanonical s (.next t) ↔ (s.Canonical → t.Canonical) :=
  ⟨fun ⟨_, e, h⟩ => by cases e; exact h, nextCanonical_of⟩

@[simp] theorem ite_mem (c : Prop) [Decidable c] (a b : State) : (if c then a else b).mem = if c then a.mem else b.mem :=
  apply_ite State.mem c a b

@[simp] theorem ite_snd_mem {α : Type} (c : Prop) [Decidable c] (a b : α × State) :
    (if c then a else b).2.mem = if c then a.2.mem else b.2.mem :=
  apply_ite (fun x : α × State => x.2.mem) c a b

/-- A fold whose steps leave memory alone leaves it alone. -/
@[simp] theorem foldl_mem {α : Type} (f : State → α → State) (hf : ∀ b a, SameMem b (f b a)) (l : List α) (s : State) :
    (l.foldl f s).mem = s.mem := foldl_same State.mem f hf l s

/-- A fold whose steps keep the canonical form keeps it. -/
theorem foldl_wf {α : Type} (f : State → α → State) (hf : ∀ b a, b.Canonical → (f b a).Canonical) (l : List α) (s : State)
    (h : s.Canonical) : Memory.wf (l.foldl f s).mem = true := foldl_keeps State.Canonical f hf l s h

@[simp] theorem wf_ite (c : Prop) [Decidable c] (a b : List Host.Cell) :
    Memory.wf (if c then a else b) = true ↔ (c → Memory.wf a = true) ∧ (¬ c → Memory.wf b = true) := by
  split <;> simp [*]

theorem State.canonical_ite {c : Prop} [Decidable c] {a b : State} (ha : Memory.wf a.mem = true)
    (hb : Memory.wf b.mem = true) : Memory.wf (if c then a else b).mem = true := by
  split <;> assumption

@[simp] theorem wf_nil : Memory.wf [] = true := rfl

@[simp] theorem wf_filter_cells (p : Host.Cell → Bool) (m : List Host.Cell) (h : Memory.wf m = true) :
    Memory.wf (m.filter p) = true := Memory.wf_filter m p h

/-! ## The named operations every chapter uses -/

@[simp] theorem State.raiseMax_mem (s : State) (idx sub v : Nat) (ch : Nat) :
    (s.raiseMax idx sub v ch).mem = s.mem := by
  simp [State.raiseMax]

@[simp] theorem State.dropObjs_mem (s : State) (p : Cls → Bool) : (s.dropObjs p).mem = s.mem := by
  simp [State.dropObjs]

@[simp] theorem State.dropIndex_mem (s : State) (idx ch : Nat) : (s.dropIndex idx ch).mem = s.mem := by
  simp [State.dropIndex]

@[simp] theorem State.takeFree_mem (s : State) : s.takeFree.2.mem = s.mem := by
  simp [State.takeFree]

@[simp] theorem State.canSend_mem (s : State) (port id xl : Nat) (data : List Byte) :
    (s.canSend port id xl data).mem = s.mem := by
  simp [State.canSend]

@[simp] theorem State.answer_mem (s : State) (p code : Nat) (data : List Byte) :
    (s.answer p code data).mem = s.mem := by
  simp [State.answer]

@[simp] theorem State.queueEmcy_mem (s : State) (port : Nat) (e : Emcy) : (s.queueEmcy port e).mem = s.mem := by
  simp [State.queueEmcy]

@[simp] theorem State.sendEmcy_mem (s : State) (code source info : Nat) :
    (s.sendEmcy code source info).mem = s.mem := by
  simp [State.sendEmcy]

@[simp] theorem State.refreshReg_mem (s : State) : s.refreshReg.mem = s.mem := by
  simp [State.refreshReg]

@[simp] theorem State.raise_mem (s : State) (code source info : Nat) : (s.raise code source info).mem = s.mem := by
  simp [State.raise]

@[simp] theorem State.classS_mem (s : State) (code detail : Nat) (own : Option (Nat × Nat × Nat)) :
    (s.classS code detail own).mem = s.mem := by
  unfold State.classS
  dsimp only
  repeat' split
  all_goals simp

@[simp] theorem State.classSOpen_mem (s : State) (code : Nat) : (s.classSOpen code).mem = s.mem := by
  simp [State.classSOpen]

@[simp] theorem State.endHalts_mem (s : State) : s.endHalts.mem = s.mem := by
  simp [State.endHalts]

@[simp] theorem State.nearMissIn_mem (s : State) (idx sub : Nat) (ch : Nat) :
    (s.nearMissIn idx sub ch).mem = s.mem := by
  simp [State.nearMissIn]

@[simp] theorem State.nearMiss_mem (s : State) : s.nearMiss.mem = s.mem := by
  simp [State.nearMiss]

@[simp] theorem State.nearEdge_mem (s : State) (t n : Nat) : (s.nearEdge t n).mem = s.mem := by
  simp [State.nearEdge]

@[simp] theorem State.notify_mem (s : State) (m : Nat) : (s.notify m).mem = s.mem := by
  simp [State.notify]

@[simp] theorem State.weirSample_mem (s : State) (m : Nat) (v : Int) : (s.weirSample m v).mem = s.mem := by
  simp [State.weirSample]

@[simp] theorem State.monUpdate_mem (s : State) (m : Nat) (v : Int) : (s.monUpdate m v).mem = s.mem := by
  simp [State.monUpdate]

@[simp] theorem State.monSample_mem (s : State) (src param : Nat) (v : Int) :
    (s.monSample src param v).mem = s.mem := by
  simp [State.monSample]

@[simp] theorem State.monEmpty_mem (s : State) (m : Nat) : (s.monEmpty m).mem = s.mem := by
  simp [State.monEmpty]

@[simp] theorem State.weirReset_mem (s : State) (m : Nat) : (s.weirReset m).mem = s.mem := by
  simp [State.weirReset]

/-! ## The shared address space -/

@[simp] theorem State.memWrite_canonical (s : State) (a : Nat) (bs : List Byte) (hs : s.Canonical) :
    Memory.wf (s.memWrite a bs).mem = true := s.memWrite_wf a bs hs

@[simp] theorem State.memZero_canonical (s : State) (lo n : Nat) (hs : s.Canonical) : Memory.wf (s.memZero lo n).mem =
    true := s.memZero_wf lo n hs

@[simp] theorem State.wakeEngine_mem (s : State) (e : Nat) : (s.wakeEngine e).mem = s.mem := by
  simp [State.wakeEngine]

@[simp] theorem State.cellsWrite_canonical (s : State) (a : Nat) (mirror : Option Nat) (bs : List Byte)
    (hs : s.Canonical) : Memory.wf (s.cellsWrite a mirror bs).mem = true := s.cellsWrite_wf a mirror bs hs

@[simp] theorem State.l1Load_mem (s : State) (c pa n : Nat) : (s.l1Load c pa n).2.mem = s.mem := by
  unfold State.l1Load
  dsimp only
  repeat' split
  all_goals simp

@[simp] theorem State.l1Store_mem (s : State) (c pa : Nat) (bs : List Byte) : (s.l1Store c pa bs).mem = s.mem := by
  simp [State.l1Store]

@[simp] theorem State.l1Clear_mem (s : State) (c : Nat) : (s.l1Clear c).mem = s.mem := by
  simp [State.l1Clear]

@[simp] theorem State.eccCorrected_mem (s : State) (pa : Nat) (check : Bool) :
    (s.eccCorrected pa check).mem = s.mem := by
  unfold State.eccCorrected
  split <;> simp

@[simp] theorem State.eccDouble_mem (s : State) (pa : Nat) : (s.eccDouble pa).mem = s.mem := by
  unfold State.eccDouble
  split <;> simp

@[simp] theorem State.eccEvent_mem (s : State) (pa : Nat) (e : Ecc) : (s.eccEvent pa e).mem = s.mem := by
  unfold State.eccEvent
  split <;> simp

/-! ## The calibration set as the machine uses it -/

@[simp] theorem State.trimAclk_mem (s : State) : s.trimAclk.mem = s.mem := by
  simp [State.trimAclk]

@[simp] theorem State.calShow_mem (s : State) (area : Nat) : (s.calShow area).mem = s.mem := by
  simp [State.calShow]

@[simp] theorem State.wearBlock_mem (s : State) (b : Nat) : (s.wearBlock b).mem = s.mem := by
  simp [State.wearBlock]

@[simp] theorem State.eraseArea_mem (s : State) (b : Bool) : (s.eraseArea b).mem = s.mem := by
  simp [State.eraseArea]

@[simp] theorem State.calChoose_mem (s : State) : s.calChoose.mem = s.mem := by
  simp [State.calChoose]

@[simp] theorem State.calCopy_wf (s : State) (hs : s.Canonical) : Memory.wf s.calCopy.mem = true := by
  simp [State.calCopy, hs.wf]

/-! ## The Strip Sequencer's bookkeeping that the queue manager reports to -/

@[simp] theorem State.mapSluices_mem (s : State) (p : Sluice → Bool) (f : Sluice → Sluice) : (s.mapSluices p f).mem =
    s.mem := by
  simp [State.mapSluices]

@[simp] theorem State.modSluice_mem (s : State) (strm : Nat) (f : Sluice → Sluice) :
    (s.modSluice strm f).mem = s.mem := by
  simp [State.modSluice]

@[simp] theorem State.weirCheck_mem (s : State) (q : Sluice) : (s.weirCheck q).mem = s.mem := by
  simp [State.weirCheck]

@[simp] theorem State.sluiceChanged_mem (s : State) (strm : Nat) : (s.sluiceChanged strm).mem = s.mem := by
  unfold State.sluiceChanged
  dsimp only
  split <;> simp

@[simp] theorem State.sluiceMoved_mem (s : State) (strm : Nat) : (s.sluiceMoved strm).mem = s.mem := by
  unfold State.sluiceMoved
  dsimp only
  split <;> simp

@[simp] theorem State.modStrip_mem (s : State) (p : Sluice → Bool) (n : Nat) (f : Strip → Strip) :
    (s.modStrip p n f).mem = s.mem := by
  simp [State.modStrip]

@[simp] theorem State.releaseStrip_mem (s : State) (p : Sluice → Bool) (strm n : Nat) :
    (s.releaseStrip p strm n).mem = s.mem := by
  simp [State.releaseStrip]

@[simp] theorem State.frameOutcome_mem (s : State) (o : Outcome) : (s.frameOutcome o).mem = s.mem := by
  simp [State.frameOutcome]

@[simp] theorem State.register_mem (s : State) (o : Outcome) : (s.register o).mem = s.mem := by
  simp [State.register]

@[simp] theorem State.registerMiss_mem (s : State) (strm : Nat) (t : Strip) : (s.registerMiss strm t).mem = s.mem := by
  simp [State.registerMiss]

@[simp] theorem State.stripResult_mem (s : State) (strm : Nat) (t : Strip) : (s.stripResult strm t).mem = s.mem := by
  simp [State.stripResult]

@[simp] theorem State.stripJobEnd_mem (s : State) (j : Job) (status : Nat) : (s.stripJobEnd j status).mem = s.mem := by
  unfold State.stripJobEnd
  split <;> simp

@[simp] theorem State.hazardRecheck_mem (s : State) : s.hazardRecheck.mem = s.mem := by
  simp [State.hazardRecheck]

@[simp] theorem State.hazardBelow_mem (s : State) (feed dist : Nat) : (s.hazardBelow feed dist).mem = s.mem := by
  simp [State.hazardBelow]

@[simp] theorem State.hazardSample_mem (s : State) (feed sensor dist : Nat) (agree : Bool) :
    (s.hazardSample feed sensor dist agree).mem = s.mem := by
  simp [State.hazardSample]

@[simp] theorem State.lateFrame_mem (s : State) (by_ : Nat) : (s.lateFrame by_).mem = s.mem := by
  simp [State.lateFrame]

@[simp] theorem State.launch_mem (s : State) (t : Timed) : (s.launch t).mem = s.mem := by
  simp [State.launch]

@[simp] theorem State.sendTimed_mem (s : State) (port kind off base : Nat) (data : List Byte) :
    (s.sendTimed port kind off base data).mem = s.mem := by
  simp [State.sendTimed]

/-! ## Queues and jobs -/

@[simp] theorem State.occupancy_mem (s : State) (q : Nat) : (s.occupancy q).mem = s.mem := by
  simp [State.occupancy]

@[simp] theorem State.useSample_mem (s : State) (e : Nat) : (s.useSample e).mem = s.mem := by
  simp [State.useSample]

@[simp] theorem State.submit_mem (s : State) (q : Nat) (d : List Byte) (strip : Bool) : (s.submit q d strip).2.mem =
    s.mem := by
  simp [State.submit]

@[simp] theorem State.leaveBarriers_mem (s : State) (g : Nat) : (s.leaveBarriers g).mem = s.mem := by
  simp [State.leaveBarriers]

@[simp] theorem State.endJob_mem (s : State) (id status ecode : Nat) (mismatch : Bool) :
    (s.endJob id status ecode mismatch).mem = s.mem := by
  unfold State.endJob
  split <;> simp

@[simp] theorem State.writeFor_wf (s : State) (p a : Nat) (bs : List Byte) (hs : s.Canonical) :
    Memory.wf (s.writeFor p a bs).mem = true := by
  have hw := hs.wf
  unfold State.writeFor
  split <;> simp [hw]

@[simp] theorem State.writeRecord_wf (s : State) (q : Nat) (hs : s.Canonical) :
    Memory.wf (s.writeRecord q).mem = true := by
  have hw := hs.wf
  unfold State.writeRecord
  split <;> simp [hw]

@[simp] theorem State.settleCancels_mem (s : State) : s.settleCancels.mem = s.mem := by
  simp [State.settleCancels]

@[simp] theorem State.cancelTag_mem (s : State) (q tag : Nat) : (s.cancelTag q tag).2.mem = s.mem := by
  unfold State.cancelTag
  split <;> simp

@[simp] theorem State.setBell_mem (s : State) (q wc : Nat) (b : Doorbell) : (s.setBell q wc b).mem = s.mem := by
  simp [State.setBell]

@[simp] theorem State.bellSubmit_mem (s : State) (q wc : Nat) : (s.bellSubmit q wc).mem = s.mem := by
  simp [State.bellSubmit]

@[simp] theorem State.bellCancel_mem (s : State) (q wc tag : Nat) : (s.bellCancel q wc tag).mem = s.mem := by
  simp [State.bellCancel]

@[simp] theorem State.bellWrite_mem (s : State) (q wc off : Nat) (bs : List Byte) : (s.bellWrite q wc off bs).mem =
    s.mem := by
  simp [State.bellWrite]

@[simp] theorem State.endDoze_mem (s : State) : s.endDoze.mem = s.mem := by
  simp [State.endDoze]

@[simp] theorem State.bellBy_mem (s : State) (wr : Writer) (q off : Nat) (bs : List Byte) :
    (s.bellBy wr q off bs).mem = s.mem := by
  unfold State.bellBy
  split <;> simp

@[simp] theorem State.startJob_mem (s : State) (j : Job) (e : Nat) : (s.startJob j e).mem = s.mem := by
  simp [State.startJob]

@[simp] theorem State.dispatch_mem (s : State) : s.dispatch.mem = s.mem := by
  unfold State.dispatch
  dsimp only
  split <;> simp

/-! ## The request queues of the Recurrence and the Sampling Unit -/

@[simp] theorem State.recStart_mem (s : State) : s.recStart.mem = s.mem := by
  unfold State.recStart
  split <;> simp

@[simp] theorem State.smpStart_mem (s : State) : s.smpStart.mem = s.mem := by
  unfold State.smpStart
  split <;> simp

@[simp] theorem State.tableStore_wf (s : State) (a : Nat) (bs : List Byte) (hs : s.Canonical) :
    Memory.wf (s.tableStore a bs).mem = true := by
  simp [State.tableStore, hs.wf]

@[simp] theorem State.flagSlot_wf (s : State) (n : Nat) (hs : s.Canonical) : Memory.wf (s.flagSlot n).mem = true := by
  simp [State.flagSlot, hs.wf]

@[simp] theorem State.dropSteps_wf (s : State) (e : Nat) (hs : s.Canonical) : Memory.wf (s.dropSteps e).mem = true := by
  have hf : ∀ (t : State) (r : UnitReq), t.Canonical →
      (if r.run.isSome && r.early = 0 && r.onSlot then t.flagSlot r.slot else t).Canonical := by
    intro t r ht
    split
    · exact State.flagSlot_wf t r.slot ht
    · exact ht
  unfold State.dropSteps
  simpa using foldl_wf _ hf _ s hs

/-! ## Dikes, escalation, partition resets, twin mismatches, engines out of service, the watchdog, the deadlock detector
and the recovery log -/

@[simp] theorem State.recLog_mem (s : State) (ns event engine part cause queue aborted detail : Nat) :
    (s.recLog ns event engine part cause queue aborted detail).mem = s.mem := by
  simp [State.recLog]

@[simp] theorem State.engineLevels_mem (s : State) (lvl : Nat) : (s.engineLevels lvl).mem = s.mem := by
  simp [State.engineLevels]

@[simp] theorem State.countReset_mem (s : State) (e : Nat) : (s.countReset e).mem = s.mem := by
  simp [State.countReset]

@[simp] theorem State.abortJobs_mem (s : State) (jobs : List Job) (mismatch : Bool) :
    (s.abortJobs jobs mismatch).mem = s.mem := by
  simp [State.abortJobs]

@[simp] theorem State.drainEnd_mem (s : State) (e : Nat) : (s.drainEnd e).mem = s.mem := by
  unfold State.drainEnd
  split <;> simp

@[simp] theorem State.closeDike_mem (s : State) (e cause queue : Nat) (counts inReset : Bool) (lost : Nat) :
    (s.closeDike e cause queue counts inReset lost).mem = s.mem := by
  unfold State.closeDike
  dsimp only
  repeat' split
  all_goals simp

@[simp] theorem State.settleDikes_mem (s : State) : s.settleDikes.mem = s.mem := by
  refine foldl_same State.mem _ (fun t e => ?_) _ _
  split
  · split <;> simp
  · rfl

@[simp] theorem State.settle_mem (s : State) : s.settle.mem = s.mem := by
  simp [State.settle]

@[simp] theorem State.resetEngine_wf (s : State) (e : Nat) (hs : s.Canonical) :
    Memory.wf (s.resetEngine e).mem = true := by
  simp [State.resetEngine, hs.wf]

@[simp] theorem State.scrubStore_wf (s : State) (e : Nat) (hs : s.Canonical) :
    Memory.wf (s.scrubStore e).mem = true := by
  simp [State.scrubStore, hs.wf]

@[simp] theorem State.nextInReset_mem (s : State) (r : PartReset) : (s.nextInReset r).mem = s.mem := by
  unfold State.nextInReset
  dsimp only
  split <;> simp

@[simp] theorem State.advanceReset_mem (s : State) (e : Nat) : (s.advanceReset e).mem = s.mem := by
  simp [State.advanceReset]

@[simp] theorem State.goOut_mem (s : State) (e cause : Nat) (aborted : Nat) :
    (s.goOut e cause aborted).mem = s.mem := by
  simp [State.goOut]

@[simp] theorem State.engineFail_mem (s : State) (e test : Nat) (cause : Nat) : (s.engineFail e test cause).mem =
    s.mem := by
  simp [State.engineFail]

@[simp] theorem State.dropCkpt_mem (s : State) (g : Nat) : (s.dropCkpt g).mem = s.mem := by
  simp [State.dropCkpt]

@[simp] theorem State.jobFault_mem (s : State) (id ecode : Nat) : (s.jobFault id ecode).mem = s.mem := by
  unfold State.jobFault
  split <;> simp

@[simp] theorem State.dikeGone_mem (s : State) (e : Nat) (d : Dike) : (s.dikeGone e d).mem = s.mem := by
  simp [State.dikeGone]

@[simp] theorem State.dikeScrubbed_wf (s : State) (e : Nat) (d : Dike) (hs : s.Canonical) :
    Memory.wf (s.dikeScrubbed e d).mem = true := by
  unfold State.dikeScrubbed
  have := foldl_wf (fun t k => t.scrubStore k) (fun t k ht => State.scrubStore_wf t k ht) (s.unitOf e) s hs
  simp [this]

@[simp] theorem State.dikeOpened_mem (s : State) (e : Nat) (d : Dike) : (s.dikeOpened e d).mem = s.mem := by
  simp [State.dikeOpened]

@[simp] theorem State.twinMismatch_mem (s : State) (e : Nat) (job : Option Job) :
    (s.twinMismatch e job).mem = s.mem := by
  simp [State.twinMismatch]

@[simp] theorem State.watchdogArm_mem (s : State) : s.watchdogArm.mem = s.mem := by
  simp [State.watchdogArm]

@[simp] theorem State.watchdogWritten_mem (s : State) (v : Nat) : (s.watchdogWritten v).mem = s.mem := by
  simp [State.watchdogWritten]

@[simp] theorem State.kick_mem (s : State) : s.kick.mem = s.mem := by
  unfold State.kick
  dsimp only
  split <;> simp

@[simp] theorem State.watchdogExpire_mem (s : State) : s.watchdogExpire.mem = s.mem := by
  simp [State.watchdogExpire]

@[simp] theorem State.declareDeadlock_mem (s : State) (cyc : List Nat) : (s.declareDeadlock cyc).mem = s.mem := by
  simp [State.declareDeadlock]

@[simp] theorem State.deadlockScan_mem (s : State) : s.deadlockScan.mem = s.mem := by
  simp [State.deadlockScan]

/-! ## The safety controller -/

@[simp] theorem State.drivePins_mem (s : State) : s.drivePins.mem = s.mem := by
  simp [State.drivePins]

@[simp] theorem State.alive_mem (s : State) (pair : Nat) (v : BitVec 16) : (s.alive pair v).mem = s.mem := by
  simp [State.alive]

@[simp] theorem State.rejoinHold_mem (s : State) : s.rejoinHold.mem = s.mem := by
  simp [State.rejoinHold]

@[simp] theorem State.handoverAcked_mem (s : State) (pair : Nat) : (s.handoverAcked pair).mem = s.mem := by
  unfold State.handoverAcked
  dsimp only
  repeat' split
  all_goals simp

@[simp] theorem State.portWrite_mem (s : State) (pair off : Nat) (bs : List Byte) : (s.portWrite pair off bs).mem =
    s.mem := by
  simp [State.portWrite]

@[simp] theorem State.keepersReset_mem (s : State) : s.keepersReset.mem = s.mem := by
  simp [State.keepersReset]

@[simp] theorem State.keepersStart_mem (s : State) : s.keepersStart.mem = s.mem := by
  simp [State.keepersStart]

@[simp] theorem State.splitNow_mem (s : State) : s.splitNow.mem = s.mem := by
  simp [State.splitNow]

@[simp] theorem State.splitAtBoot_mem (s : State) : s.splitAtBoot.mem = s.mem := by
  simp [State.splitAtBoot]

@[simp] theorem State.rejoinStart_mem (s : State) : s.rejoinStart.mem = s.mem := by
  simp [State.rejoinStart]

/-! ## The Recurrence, Random and Sampling Units -/

@[simp] theorem State.unitLoad_mem (s : State) (u off n : Nat) : (s.unitLoad u off n).2.mem = s.mem := by
  simp [State.unitLoad]

@[simp] theorem State.flagSlots_wf (s : State) (p : Nat → Bool) (hs : s.Canonical) : Memory.wf (s.flagSlots p).mem =
    true := by
  refine foldl_wf _ (fun t n ht => ?_) _ s hs
  split
  · exact State.flagSlot_wf t n ht
  · exact ht

@[simp] theorem State.flagStream_wf (s : State) (strm : Nat) (hs : s.Canonical) : Memory.wf (s.flagStream strm).mem =
    true := by
  simp [State.flagStream, hs.wf]

@[simp] theorem State.putBy_wf (s : State) (w : Who) (a : Nat) (bs : List Byte) (hs : s.Canonical) :
    Memory.wf (s.putBy w a bs).2.mem = true := by
  refine foldl_keeps (fun r : Option (Nat × Nat) × State => r.2.Canonical) _ (fun r k hr => ?_) _ _ hs
  split
  · exact hr
  · split
    · exact State.cellsWrite_canonical _ _ _ _ hr
    · exact hr

theorem State.writeBy_wf {s : State} {w : Who} {a : Nat} {bs : List Byte} {t : State} (h : s.writeBy w a bs = some t)
    (hs : s.Canonical) : t.Canonical := by
  unfold State.writeBy at h
  dsimp only at h
  split at h
  · cases h
  · cases h
    exact State.putBy_wf s w a bs hs

@[simp] theorem State.wakeReach_mem (s : State) (w : Who) (a n : Nat) : (s.wakeReach w a n).mem = s.mem := by
  unfold State.wakeReach
  rw [foldl_mem]
  intro t e
  rw [sameMem_iff]
  split
  · split
    · rw [State.wakeEngine_mem]
    · rfl
  · rfl

@[simp] theorem State.complete_wf (s : State) (u : Nat) (r : UnitReq) (rec : List Byte) (hs : s.Canonical) :
    Memory.wf (s.complete u r rec).mem = true := by
  unfold State.complete
  dsimp only
  split
  · exact hs
  · have hw : (s.wakeReach r.who (completionAddr u r.desc) 32).Canonical := by simpa using hs
    cases h : (s.wakeReach r.who (completionAddr u r.desc) 32).writeBy r.who (completionAddr u r.desc) rec with
    | none => exact hs
    | some t => exact State.writeBy_wf h hw

@[simp] theorem State.trigger_wf (s : State) (u : Nat) (h : Hart) (desc : Nat) (hs : s.Canonical) :
    Memory.wf (s.trigger u h desc).mem = true := by
  simp [State.trigger, hs.wf]

@[simp] theorem State.runStep_wf (s : State) (r : UnitReq) (hs : s.Canonical) :
    Memory.wf (s.runStep r).2.mem = true := by
  unfold State.runStep
  extract_lets d op slot n w rows inSz outSz stSz v ptr results out new
  have hv : v.Canonical := by simpa [v] using hs
  split
  · exact hv
  · split
    · exact hv
    · next t ht =>
      have hc := State.writeBy_wf ht hv
      split
      · split
        · exact State.flagSlot_wf t n hc
        · exact hc
      · next u hu =>
        have hd := State.canonical_iff.1 (State.writeBy_wf hu hc)
        dsimp only
        split <;> simp [hd]

@[simp] theorem State.stepDone_wf (s : State) (hs : s.Canonical) : Memory.wf s.stepDone.mem = true := by
  have hw := hs.wf
  unfold State.stepDone
  dsimp only
  split <;> simp [hw]

@[simp] theorem State.runSample_mem (s : State) (r : UnitReq) : (s.runSample r).2.2.mem = s.mem := by
  unfold State.runSample
  dsimp only
  repeat' split
  all_goals simp

@[simp] theorem State.sampleDone_wf (s : State) (hs : s.Canonical) : Memory.wf s.sampleDone.mem = true := by
  have hw := hs.wf
  unfold State.sampleDone
  dsimp only
  split <;> simp [hw]

/-! ## Sensor ingress -/

@[simp] theorem State.discardLine_mem (s : State) (strm : Nat) : (s.discardLine strm).mem = s.mem := by
  simp [State.discardLine]

@[simp] theorem State.unattributed_mem (s : State) (sub : Nat) : (s.unattributed sub).mem = s.mem := by
  simp [State.unattributed]

@[simp] theorem State.nextDeadline_mem (s : State) (q : Sluice) : (s.nextDeadline q).2.mem = s.mem := by
  simp [State.nextDeadline]

@[simp] theorem State.countSpill_mem (s : State) (strm sub : Nat) : (s.countSpill strm sub).mem = s.mem := by
  unfold State.countSpill
  dsimp only
  repeat' split
  all_goals simp

@[simp] theorem State.dropStrip_wf (s : State) (strm : Nat) (t : Strip) (code : Nat) (hs : s.Canonical) :
    Memory.wf (s.dropStrip strm t code).mem = true := by
  have hw := hs.wf
  unfold State.dropStrip
  split <;> simp [hw]

@[simp] theorem State.streamFault_mem (s : State) (strm : Nat) : (s.streamFault strm).mem = s.mem := by
  simp [State.streamFault]

@[simp] theorem State.degradedCount_mem (s : State) (strm : Nat) (t : Strip) :
    (s.degradedCount strm t).mem = s.mem := by
  simp [State.degradedCount]

@[simp] theorem State.decimate_wf (s : State) (strm : Nat) (t : Strip) (hs : s.Canonical) :
    Memory.wf (s.decimate strm t).2.mem = true := by
  simp [State.decimate, hs.wf]

@[simp] theorem State.cancelStrip_mem (s : State) (id : Nat) : (s.cancelStrip id).mem = s.mem := by
  unfold State.cancelStrip
  split <;> simp

@[simp] theorem State.withdraw_mem (s : State) (q : Sluice) (t : Strip) : (s.withdraw q t).mem = s.mem := by
  unfold State.withdraw
  split <;> simp

@[simp] theorem State.submitStrip_mem (s : State) (q : Sluice) (t : Strip) : (s.submitStrip q t).mem = s.mem := by
  simp [State.submitStrip]

@[simp] theorem State.formJob_wf (s : State) (strm : Nat) (t : Strip) (hs : s.Canonical) :
    Memory.wf (s.formJob strm t).mem = true := by
  have hw := hs.wf
  unfold State.formJob
  dsimp only
  repeat' split
  all_goals simp [hw]

@[simp] theorem State.absorb_wf (s : State) (strm : Nat) (t : Strip) (hs : s.Canonical) :
    Memory.wf (s.absorb strm t).mem = true := by
  have hw := hs.wf
  unfold State.absorb
  split <;> simp [hw]

@[simp] theorem State.divert_wf (s : State) (strm : Nat) (t : Strip) (hs : s.Canonical) :
    Memory.wf (s.divert strm t).mem = true := by
  have hw := hs.wf
  unfold State.divert
  split <;> simp [hw]

@[simp] theorem State.spillDecimated_wf (s : State) (strm : Nat) (t : Strip) (hs : s.Canonical) :
    Memory.wf (s.spillDecimated strm t).mem = true := by
  simp [State.spillDecimated, hs.wf]

@[simp] theorem State.decideStrip_wf (s : State) (strm : Nat) (t : Strip) (hs : s.Canonical) :
    Memory.wf (s.decideStrip strm t).mem = true := by
  have hw := hs.wf
  unfold State.decideStrip
  dsimp only
  repeat' split
  all_goals simp [hw]

@[simp] theorem State.completeStrip_wf (s : State) (strm : Nat) (last : Bool) (hs : s.Canonical) :
    Memory.wf (s.completeStrip strm last).mem = true := by
  have hw := hs.wf
  unfold State.completeStrip
  dsimp only
  repeat' split
  all_goals simp [hw]

@[simp] theorem State.openFrame_mem (s : State) (strm : Nat) : (s.openFrame strm).mem = s.mem := by
  simp [State.openFrame]

@[simp] theorem State.closeFrame_mem (s : State) (strm : Nat) (short : Bool) :
    (s.closeFrame strm short).mem = s.mem := by
  unfold State.closeFrame
  dsimp only
  split <;> simp

@[simp] theorem State.livenessArrival_mem (s : State) (q : Sluice) : (s.livenessArrival q).mem = s.mem := by
  simp [State.livenessArrival]

@[simp] theorem State.writeLine_wf (s : State) (strm : Nat) (good : Option (List Byte)) (real : Bool)
    (hs : s.Canonical) : Memory.wf (s.writeLine strm good real).mem = true := by
  have hw := hs.wf
  unfold State.writeLine
  split <;> simp [hw]

@[simp] theorem State.fillLines_wf (s : State) (strm : Nat) (k : Nat) (hs : s.Canonical) :
    Memory.wf (s.fillLines strm k).mem = true := by
  induction k generalizing s with
  | zero => exact hs
  | succ k ih =>
    unfold State.fillLines
    split
    · exact ih _ (State.writeLine_wf s strm none false hs)
    · exact hs

@[simp] theorem State.endShort_wf (s : State) (strm : Nat) (hs : s.Canonical) :
    Memory.wf (s.endShort strm).mem = true := by
  have hw := hs.wf
  unfold State.endShort
  split <;> simp [hw]

@[simp] theorem State.cutShort_wf (s : State) (strm : Nat) (hs : s.Canonical) :
    Memory.wf (s.cutShort strm).mem = true := by
  have hw := hs.wf
  unfold State.cutShort
  split <;> simp [hw]

@[simp] theorem State.restartCounters_mem (s : State) (strm : Nat) : (s.restartCounters strm).mem = s.mem := by
  simp [State.restartCounters]

@[simp] theorem State.enableStream_wf (s : State) (strm : Nat) (hs : s.Canonical) :
    Memory.wf (s.enableStream strm).mem = true := by
  simp [State.enableStream, hs.wf]

@[simp] theorem State.disableStream_mem (s : State) (strm : Nat) : (s.disableStream strm).mem = s.mem := by
  unfold State.disableStream
  split <;> simp

@[simp] theorem State.seqExit_mem (s : State) : s.seqExit.mem = s.mem := by
  simp [State.seqExit]

@[simp] theorem State.sluicesStart_mem (s : State) : s.sluicesStart.mem = s.mem := by
  simp [State.sluicesStart]

/-! ## Fuind Link -/

@[simp] theorem State.modFl_mem (s : State) (p : Nat) (f : FlPort → FlPort) : (s.modFl p f).mem = s.mem := by
  simp [State.modFl]

@[simp] theorem State.flCount_mem (s : State) (p k : Nat) (n : Nat) : (s.flCount p k n).mem = s.mem := by
  simp [State.flCount]

@[simp] theorem State.castRoles_mem (s : State) : s.castRoles.mem = s.mem := by
  simp [State.castRoles]

@[simp] theorem State.sendData_mem (s : State) (p seq : Nat) (f : TxFlit) : (s.sendData p seq f).mem = s.mem := by
  simp [State.sendData]

@[simp] theorem State.sendIdle_mem (s : State) (p back vc : Nat) : (s.sendIdle p back vc).mem = s.mem := by
  simp [State.sendIdle]

@[simp] theorem State.sendNak_mem (s : State) (p : Nat) : (s.sendNak p).mem = s.mem := by
  simp [State.sendNak]

@[simp] theorem State.sendCredits_mem (s : State) (p : Nat) : (s.sendCredits p).mem = s.mem := by
  simp [State.sendCredits]

@[simp] theorem State.pumpN_mem (s : State) (p fuel : Nat) : (s.pumpN p fuel).mem = s.mem := by
  induction fuel generalizing s with
  | zero => simp [State.pumpN]
  | succ k ih =>
    unfold State.pumpN
    split
    · rfl
    · rw [ih]; simp

@[simp] theorem State.pump_mem (s : State) (p : Nat) : (s.pump p).mem = s.mem := by
  simp [State.pump]

@[simp] theorem State.linkPut_mem (s : State) (p : Nat) (fwd : Bool) (m : List Byte) :
    (s.linkPut p fwd m).mem = s.mem := by
  simp [State.linkPut]

@[simp] theorem State.linkOut_mem (s : State) (p : Nat) (fwd : Bool) (m : List Byte) : (s.linkOut p fwd m).2.mem =
    s.mem := by
  simp [State.linkOut]

@[simp] theorem State.linkSend_mem (s : State) (type dst : Nat) (body : List Byte) :
    (s.linkSend type dst body).2.mem = s.mem := by
  simp [State.linkSend]

@[simp] theorem State.fuindStart_mem (s : State) : s.fuindStart.mem = s.mem := by
  simp [State.fuindStart]

@[simp] theorem State.retrain_mem (s : State) (p : Nat) : (s.retrain p).mem = s.mem := by
  simp [State.retrain]

@[simp] theorem State.holdPort_mem (s : State) (p : Nat) : (s.holdPort p).mem = s.mem := by
  simp [State.holdPort]

@[simp] theorem State.sendHello_mem (s : State) (p : Nat) : (s.sendHello p).mem = s.mem := by
  simp [State.sendHello]

@[simp] theorem State.linkReady_mem (s : State) (p : Nat) : (s.linkReady p).mem = s.mem := by
  simp [State.linkReady]

@[simp] theorem State.resendFrom_mem (s : State) (p : Nat) (l : List (Nat × TxFlit)) :
    (s.resendFrom p l).mem = s.mem := by
  simp [State.resendFrom]

@[simp] theorem State.resendOldest_mem (s : State) (p : Nat) : (s.resendOldest p).mem = s.mem := by
  simp [State.resendOldest]

@[simp] theorem State.linkActive_mem (s : State) (p : Nat) : (s.linkActive p).mem = s.mem := by
  simp [State.linkActive]

@[simp] theorem State.flitHead_mem (s : State) (p : Nat) (f : List Byte) : (s.flitHead p f).mem = s.mem := by
  simp [State.flitHead]

@[simp] theorem State.flitIn_wf (s : State) (p : Nat) (f : List Byte) (act : State → State)
    (ha : ∀ t : State, t.Canonical → (act t).Canonical) (hs : s.Canonical) :
    Memory.wf (s.flitIn p f act).mem = true := by
  have hw := hs.wf
  unfold State.flitIn
  split
  · exact hs
  · split
    · simp [hw]
    · exact ha _ (by simp [hw])

@[simp] theorem State.dataIn_mem (s : State) (p : Nat) (f : List Byte) : (s.dataIn p f).2.mem = s.mem := by
  simp [State.dataIn]

@[simp] theorem State.hear_mem (s : State) (j : Nat) : (s.hear j).mem = s.mem := by
  simp [State.hear]

@[simp] theorem State.sameIdFound_mem (s : State) : s.sameIdFound.mem = s.mem := by
  simp [State.sameIdFound]

@[simp] theorem State.helloIn_mem (s : State) (p : Nat) (m : List Byte) : (s.helloIn p m).mem = s.mem := by
  simp [State.helloIn]

@[simp] theorem State.heartbeatIn_mem (s : State) (m : List Byte) : (s.heartbeatIn m).mem = s.mem := by
  simp [State.heartbeatIn]

@[simp] theorem State.fuindSendRecord_mem (s : State) (r : List Byte) : (s.fuindSendRecord r).mem = s.mem := by
  simp [State.fuindSendRecord]

@[simp] theorem State.countPair_mem (s : State) (own theirs : CmpStrip) : (s.countPair own theirs).mem = s.mem := by
  simp [State.countPair]

@[simp] theorem State.matchEdge_mem (s : State) (w : CmpStrip) : (s.matchEdge w).mem = s.mem := by
  simp [State.matchEdge]

@[simp] theorem State.cmpOwn_mem (s : State) (c : CmpStrip) : (s.cmpOwn c).mem = s.mem := by
  unfold State.cmpOwn
  split <;> simp

@[simp] theorem State.cmpTheirs_mem (s : State) (t : CmpStrip) : (s.cmpTheirs t).mem = s.mem := by
  unfold State.cmpTheirs
  split <;> simp

@[simp] theorem State.fuindSendCompare_mem (s : State) (o : Outcome) : (s.fuindSendCompare o).mem = s.mem := by
  simp [State.fuindSendCompare]

/-! ## Guests, the wipes of DEPOT, the fleet messages a device sends, and the entry to and the way out of DEPOT -/

@[simp] theorem State.buildMap_wf (s : State) (g : Nat) (hs : s.Canonical) : Memory.wf (s.buildMap g).mem = true := by
  simp [State.buildMap, hs.wf]

@[simp] theorem State.removeMap_wf (s : State) (g : Nat) (hs : s.Canonical) : Memory.wf (s.removeMap g).mem = true := by
  simp [State.removeMap, hs.wf]

@[simp] theorem State.selfWrite_mem (s : State) (idx sub v : Nat) (ch : Nat) (behind : Bool) :
    (s.selfWrite idx sub v ch behind).mem = s.mem := by
  simp [State.selfWrite]

@[simp] theorem State.moveEngine_mem (s : State) (e part : Nat) : (s.moveEngine e part).mem = s.mem := by
  simp [State.moveEngine]

@[simp] theorem State.guestStart_wf (s : State) (g : Nat) (v : Guest) (hs : s.Canonical) :
    Memory.wf (s.guestStart g v).mem = true := by
  simp [State.guestStart, hs.wf]

@[simp] theorem State.guestStarted_wf (s : State) (g : Nat) (hs : s.Canonical) : Memory.wf (s.guestStarted g).mem =
    true := by
  simp [State.guestStarted, hs.wf]

@[simp] theorem State.localStart_wf (s : State) (g : Nat) (hs : s.Canonical) :
    Memory.wf (s.localStart g).mem = true := by
  simp [State.localStart, hs.wf]

@[simp] theorem State.dropJobs_mem (s : State) (part : Nat) : (s.dropJobs part).mem = s.mem := by
  simp [State.dropJobs]

@[simp] theorem State.queueOff_mem (s : State) (fleet : Bool) (q : Nat) : (s.queueOff fleet q).mem = s.mem := by
  simp [State.queueOff]

@[simp] theorem State.keysGone_wf (s : State) (g : Nat) (hs : s.Canonical) : Memory.wf (s.keysGone g).mem = true := by
  unfold State.keysGone
  split
  · exact hs
  · exact State.memWrite_canonical s _ _ hs

@[simp] theorem State.wipeStart_wf (s : State) (g : Nat) (hs : s.Canonical) : Memory.wf (s.wipeStart g).mem = true := by
  simp [State.wipeStart, hs.wf]

@[simp] theorem State.wipeDone_wf (s : State) (g : Nat) (hs : s.Canonical) : Memory.wf (s.wipeDone g).mem = true := by
  unfold State.wipeDone
  split
  · exact hs
  · extract_lets fleet t u v w x y
    have hu : u.Canonical := foldl_wf _ (fun r e hr => by
      have := hr.wf
      dsimp only
      split <;> simp [this]) _ _ (State.memZero_canonical _ _ _ hs)
    have hy : Memory.wf y.mem = true := by
      have := hu.wf
      have hw : Memory.wf w.mem = true := by simp [w, v, this]
      simp [y, x, hw]
    split
    · exact State.localStart_wf y g hy
    · exact hy

@[simp] theorem State.zeroOutside_wf (s : State) (hs : s.Canonical) : Memory.wf s.zeroOutside.mem = true := by
  simp [State.zeroOutside, hs.wf]

@[simp] theorem State.fleetSend_mem (s : State) (layer dst type status serial job : Nat) (body : List Byte)
    (answers : List Nat) : (s.fleetSend layer dst type status serial job body answers).2.mem = s.mem := by
  simp [State.fleetSend]

@[simp] theorem State.workerSend_mem (s : State) (layer type status job : Nat) (body : List Byte) (answers : List Nat)
    : (s.workerSend layer type status job body answers).mem = s.mem := by
  simp [State.workerSend]

@[simp] theorem State.sendJoin_mem (s : State) : s.sendJoin.mem = s.mem := by
  simp [State.sendJoin]

@[simp] theorem State.sendDone_mem (s : State) (job status hash : Nat) :
    (s.sendDone job status hash).2.mem = s.mem := by
  simp [State.sendDone]

@[simp] theorem State.sendEvicted_mem (s : State) (job hash : Nat) : (s.sendEvicted job hash).mem = s.mem := by
  simp [State.sendEvicted]

@[simp] theorem State.depotEnter_mem (s : State) : s.depotEnter.mem = s.mem := by
  simp [State.depotEnter]

@[simp] theorem State.entryWiped_wf (s : State) (hs : s.Canonical) : Memory.wf s.entryWiped.mem = true := by
  unfold State.entryWiped
  extract_lets t u v
  have hu : u.Canonical := foldl_wf _ (fun r e hr => State.scrubStore_wf r e hr) _ _ (State.zeroOutside_wf s hs)
  have hv : v.Canonical := by simpa [v] using hu
  split
  · refine foldl_wf _ (fun r g hr => ?_) _ v hv
    split
    · exact State.localStart_wf r g hr
    · exact hr
  · split
    · simpa using hv
    · exact hv

@[simp] theorem State.stopGuest_mem (s : State) (g : Nat) : (s.stopGuest g).mem = s.mem := by
  simp [State.stopGuest]

@[simp] theorem State.resumeGuest_mem (s : State) (g : Nat) : (s.resumeGuest g).mem = s.mem := by
  simp [State.resumeGuest]

@[simp] theorem State.storeLost_mem (s : State) : s.storeLost.mem = s.mem := by
  simp [State.storeLost]

@[simp] theorem State.handoverStart_mem (s : State) : s.handoverStart.mem = s.mem := by
  simp [State.handoverStart]

@[simp] theorem State.exitWipe_wf (s : State) (hs : s.Canonical) : Memory.wf s.exitWipe.mem = true := by
  have := foldl_wf (fun t g => t.wipeStart g) (fun t g ht => State.wipeStart_wf t g ht) (List.range 8) s hs
  simpa [State.exitWipe] using this

@[simp] theorem State.abandon_mem (s : State) (g : Nat) : (s.abandon g).mem = s.mem := by
  simp [State.abandon]

@[simp] theorem State.abandonAll_wf (s : State) (hs : s.Canonical) : Memory.wf s.abandonAll.mem = true := by
  refine State.exitWipe_wf _ (foldl_wf _ (fun t g ht => ?_) _ s hs)
  split
  · exact State.wipeStart_wf _ g (by simpa using ht)
  · exact ht

@[simp] theorem State.depotSafe_wf (s : State) (hs : s.Canonical) : Memory.wf s.depotSafe.mem = true := by
  have := foldl_wf (fun t g => t.keysGone g) (fun t g ht => State.keysGone_wf t g ht) (List.range 8) s hs
  simpa [State.depotSafe] using this

/-! ## Fleet messages, checkpoints and restores -/

@[simp] theorem State.managerHeard_mem (s : State) : s.managerHeard.mem = s.mem := by
  simp [State.managerHeard]

@[simp] theorem State.fleetIn_wf (s : State) (layer op src : Nat) (m : List Byte) (act : State → State)
    (ha : ∀ t : State, t.Canonical → (act t).Canonical) (hs : s.Canonical) :
    Memory.wf (s.fleetIn layer op src m act).mem = true := by
  have hw := hs.wf
  have hact : ∀ t, SameMem s t → Memory.wf (act t).mem = true := fun t ht =>
    ha t (State.canonical_iff.2 (by rw [sameMem_iff.1 ht]; exact hw))
  unfold State.fleetIn
  extract_lets b o t reserved fits u
  have ht : t.mem = s.mem := by simp [t]
  have hu : SameMem s u := by unfold u; split <;> simp [ht]
  have he : SameMem s (if layer = 0x20 && 0x20 ≤ o then u.endDoze else u) := by
    split
    · simpa using hu
    · exact hu
  have hb : ∀ i j, Memory.wf (t.bump i j).mem = true := by simp [ht, hw]
  split
  · exact hs
  · split
    · exact hb _ _
    · split
      · rw [ht]; exact hw
      · split
        · exact hb _ _
        · split
          · exact hb _ _
          · split
            · rw [ht]; exact hw
            · exact hact _ he

@[simp] theorem State.once_wf (s : State) (src : Nat) (m : List Byte) (act : State → State)
    (ha : ∀ t : State, t.Canonical → (act t).Canonical) (hs : s.Canonical) :
    Memory.wf (s.once src m act).mem = true := by
  have hw := hs.wf
  unfold State.once
  dsimp only
  split
  · simp [hw]
  · exact ha _ hs

@[simp] theorem State.fleetAnswer_mem (s : State) (src seq layer type status serial job : Nat) (body : List Byte) :
    (s.fleetAnswer src seq layer type status serial job body).mem = s.mem := by
  simp [State.fleetAnswer]

@[simp] theorem State.clearOutbox_mem (s : State) (seq : Nat) : (s.clearOutbox seq).mem = s.mem := by
  simp [State.clearOutbox]

@[simp] theorem State.answeredBy_mem (s : State) (layer type job : Nat) :
    (s.answeredBy layer type job).mem = s.mem := by
  unfold State.answeredBy
  split <;> simp

@[simp] theorem State.dropPull_mem (s : State) (hash : Nat) : (s.dropPull hash).mem = s.mem := by
  simp [State.dropPull]

@[simp] theorem State.sendPull_mem (s : State) (p : Pull) : (s.sendPull p).mem = s.mem := by
  simp [State.sendPull]

@[simp] theorem State.pull_mem (s : State) (p : Pull) : (s.pull p).mem = s.mem := by
  simp [State.pull]

@[simp] theorem State.serveObject_mem (s : State) (dst : Nat) (m data : List Byte) : (s.serveObject dst m data).mem =
    s.mem := by
  simp [State.serveObject]

@[simp] theorem State.notHeld_mem (s : State) (dst : Nat) (m : List Byte) : (s.notHeld dst m).mem = s.mem := by
  simp [State.notHeld]

@[simp] theorem State.ckptStart_mem (s : State) (g : Nat) (why : CkptFor) : (s.ckptStart g why).mem = s.mem := by
  simp [State.ckptStart]

@[simp] theorem State.handoverNext_wf (s : State) (hs : s.Canonical) : Memory.wf s.handoverNext.mem = true := by
  have hw := hs.wf
  unfold State.handoverNext
  dsimp only
  repeat' split
  all_goals simp [hw]

@[simp] theorem State.ckptOffer_mem (s : State) (g : Nat) : (s.ckptOffer g).mem = s.mem := by
  unfold State.ckptOffer
  split <;> simp

@[simp] theorem State.hashBatch_mem (s : State) (g : Nat) : (s.hashBatch g).mem = s.mem := by
  unfold State.hashBatch
  split <;> simp

@[simp] theorem State.haveReply_mem (s : State) (g : Nat) (b : List Byte) : (s.haveReply g b).mem = s.mem := by
  unfold State.haveReply
  dsimp only
  repeat' split
  all_goals simp

@[simp] theorem State.ckptTaken_wf (s : State) (g : Nat) (c : Ckpt) (hs : s.Canonical) :
    Memory.wf (s.ckptTaken g c).mem = true := by
  have hw := hs.wf
  unfold State.ckptTaken
  dsimp only
  repeat' split
  all_goals simp [hw]

@[simp] theorem State.ckptNotTaken_wf (s : State) (g : Nat) (c : Ckpt) (status chunk : Nat) (hs : s.Canonical) :
    Memory.wf (s.ckptNotTaken g c status chunk).mem = true := by
  have hw := hs.wf
  unfold State.ckptNotTaken
  dsimp only
  repeat' split
  all_goals simp [hw]

@[simp] theorem State.manifestResult_wf (s : State) (g : Nat) (b : List Byte) (hs : s.Canonical) :
    Memory.wf (s.manifestResult g b).mem = true := by
  have hw := hs.wf
  unfold State.manifestResult
  split <;> simp [hw]

@[simp] theorem State.guestFinish_mem (s : State) (g user : Nat) : (s.guestFinish g user).mem = s.mem := by
  unfold State.guestFinish
  dsimp only
  repeat' split
  all_goals simp

@[simp] theorem State.guestFaulted_wf (s : State) (g : Nat) (hs : s.Canonical) : Memory.wf (s.guestFaulted g).mem =
    true := by
  simp [State.guestFaulted, hs.wf]

@[simp] theorem State.restoreFail_wf (s : State) (g status chunk hash : Nat) (hs : s.Canonical) :
    Memory.wf (s.restoreFail g status chunk hash).mem = true := by
  simp [State.restoreFail, hs.wf]

@[simp] theorem State.guestPull_mem (s : State) (g hash len : Nat) (manifest again : Bool) :
    (s.guestPull g hash len manifest again).mem = s.mem := by
  simp [State.guestPull]

@[simp] theorem State.restoreStart_mem (s : State) (g : Nat) : (s.restoreStart g).mem = s.mem := by
  simp [State.restoreStart]

@[simp] theorem State.restoreJob_mem (s : State) (g : Nat) (qs : List Nat) (r : List Byte) :
    (s.restoreJob g qs r).mem = s.mem := by
  simp [State.restoreJob]

@[simp] theorem State.restoreFinish_mem (s : State) (g : Nat) (m : List Byte) : (s.restoreFinish g m).mem = s.mem := by
  unfold State.restoreFinish
  simp only [State.workerSend_mem, State.modGuest_mem, State.setObj_mem, foldl_mem, sameMem_iff, State.setQueue_mem,
    State.selfWrite_mem, State.restoreJob_mem, implies_true]

@[simp] theorem State.restoreNext_mem (s : State) (g : Nat) (r : Restore) : (s.restoreNext g r).mem = s.mem := by
  unfold State.restoreNext
  split <;> simp

@[simp] theorem State.restoreManifest_wf (s : State) (g : Nat) (m : List Byte) (hs : s.Canonical) :
    Memory.wf (s.restoreManifest g m).mem = true := by
  simp [State.restoreManifest, hs.wf]

@[simp] theorem State.placeChunk_wf (s : State) (g : Nat) (m : List Byte) (h : Nat) (data : List Byte)
    (hs : s.Canonical) : Memory.wf (s.placeChunk g m h data).mem = true := by
  refine foldl_wf _ (fun t k ht => ?_) _ s hs
  split
  · exact State.memWrite_canonical _ _ _ ht
  · exact ht

@[simp] theorem State.guestObjectIn_wf (s : State) (g : Nat) (p : Pull) (data : List Byte) (hs : s.Canonical) :
    Memory.wf (s.guestObjectIn g p data).mem = true := by
  have hw := hs.wf
  unfold State.guestObjectIn
  split <;> simp [hw]

@[simp] theorem State.keepChunk_mem (s : State) (h : Nat) (data : List Byte) : (s.keepChunk h data).mem = s.mem := by
  simp [State.keepChunk]

@[simp] theorem State.keepManifest_mem (s : State) (h : Nat) (m : List Byte) : (s.keepManifest h m).mem = s.mem := by
  simp [State.keepManifest]

@[simp] theorem State.releaseManifest_mem (s : State) (h : Nat) : (s.releaseManifest h).mem = s.mem := by
  unfold State.releaseManifest
  dsimp only
  repeat' split
  all_goals simp

@[simp] theorem State.offerResult_mem (s : State) (o : OfferIn) (status chunk : Nat) :
    (s.offerResult o status chunk).mem = s.mem := by
  simp [State.offerResult]

@[simp] theorem State.settleOffers_mem (s : State) : s.settleOffers.mem = s.mem := by
  simp [State.settleOffers]

@[simp] theorem State.chunkUnfit_mem (s : State) (h : Nat) : (s.chunkUnfit h).mem = s.mem := by
  simp [State.chunkUnfit]

@[simp] theorem State.chunkHeld_mem (s : State) (h : Nat) : (s.chunkHeld h).mem = s.mem := by
  simp [State.chunkHeld]

@[simp] theorem State.managerPull_mem (s : State) (src worker job hash len : Nat) (manifest again : Bool) :
    (s.managerPull src worker job hash len manifest again).mem = s.mem := by
  simp [State.managerPull]

@[simp] theorem State.chunkLost_mem (s : State) (h src : Nat) : (s.chunkLost h src).mem = s.mem := by
  unfold State.chunkLost
  dsimp only
  split <;> simp

@[simp] theorem State.offerManifestIn_mem (s : State) (o : OfferIn) (m : List Byte) : (s.offerManifestIn o m).mem =
    s.mem := by
  simp [State.offerManifestIn]

@[simp] theorem State.storeObjectIn_mem (s : State) (p : Pull) (data : List Byte) : (s.storeObjectIn p data).mem =
    s.mem := by
  unfold State.storeObjectIn
  split
  · split <;> simp
  · simp

@[simp] theorem State.segmentIn_wf (s : State) (src : Nat) (b : List Byte) (hs : s.Canonical) :
    Memory.wf (s.segmentIn src b).mem = true := by
  have hw := hs.wf
  unfold State.segmentIn
  dsimp only
  repeat' split
  all_goals simp [hw]

@[simp] theorem State.setWorker_mem (s : State) (serial : Nat) (w : Worker) : (s.setWorker serial w).mem = s.mem := by
  simp [State.setWorker]

@[simp] theorem State.modFleetJob_mem (s : State) (id : Nat) (f : FleetJob → FleetJob) : (s.modFleetJob id f).mem =
    s.mem := by
  simp [State.modFleetJob]

@[simp] theorem State.workerBeat_mem (s : State) (src serial : Nat) (beat : List Byte) :
    (s.workerBeat src serial beat).mem = s.mem := by
  simp [State.workerBeat]

@[simp] theorem State.workerHeard_mem (s : State) (src serial : Nat) : (s.workerHeard src serial).mem = s.mem := by
  unfold State.workerHeard
  split <;> simp

@[simp] theorem State.offerJob_mem (s : State) (j : FleetJob) : (s.offerJob j).mem = s.mem := by
  unfold State.offerJob
  split <;> simp

@[simp] theorem State.offerEdge_mem (s : State) (j : FleetJob) : (s.offerEdge j).mem = s.mem := by
  simp [State.offerEdge]

@[simp] theorem State.nextOffer_mem (s : State) (id : Nat) : (s.nextOffer id).mem = s.mem := by
  unfold State.nextOffer
  split <;> simp

@[simp] theorem State.sendEvict_mem (s : State) (dst serial job reason : Nat) :
    (s.sendEvict dst serial job reason).mem = s.mem := by
  simp [State.sendEvict]

@[simp] theorem State.workerReport_wf (s : State) (src : Nat) (m : List Byte) (rec : State → FleetJob → State)
    (hr : ∀ (t : State) j, t.Canonical → (rec t j).Canonical) (hs : s.Canonical) :
    Memory.wf (s.workerReport src m rec).mem = true := by
  have hw := hs.wf
  unfold State.workerReport
  dsimp only
  split
  · simp [hw]
  · split
    · simp [hw]
    · next j _ _ =>
      have := State.canonical_iff.1 (hr (s.workerHeard src (field (msgBody m) 4 8)) j (by simp [hw]))
      simpa using this

@[simp] theorem State.jobKeeps_mem (s : State) (j : FleetJob) (f : FleetJob → FleetJob) :
    (s.jobKeeps j f).mem = s.mem := by
  simp [State.jobKeeps]

@[simp] theorem State.loseWorker_mem (s : State) (serial : Nat) : (s.loseWorker serial).mem = s.mem := by
  unfold State.loseWorker
  split <;> simp

@[simp] theorem State.submitFleetJob_mem (s : State) (offer : List Byte) : (s.submitFleetJob offer).mem = s.mem := by
  simp [State.submitFleetJob]

@[simp] theorem State.setQueueUp_mem (s : State) (g q i n : Nat) (o : List Byte) (set : Nat) :
    (s.setQueueUp g q i n o set).mem = s.mem := by
  simp [State.setQueueUp]

@[simp] theorem State.acceptOffer_wf (s : State) (job : Nat) (o : List Byte) (hs : s.Canonical) :
    Memory.wf (s.acceptOffer job o).mem = true := by
  have hw := hs.wf
  unfold State.acceptOffer
  split <;> simp [hw]

/-! ## The entries that show a state held elsewhere -/

@[simp] theorem State.clearMore_mem (s : State) (_p idx sub ch : Nat) : (s.clearMore _p idx sub ch).mem = s.mem := by
  simp [State.clearMore]

/-! ## The adaptive loops -/

@[simp] theorem State.loopJournal_mem (s : State) : s.loopJournal.mem = s.mem := by
  simp [State.loopJournal]

@[simp] theorem State.loopJudge_mem (s : State) (loop f c v : Nat) : (s.loopJudge loop f c v).mem = s.mem := by
  simp [State.loopJudge]

@[simp] theorem State.avsWrite_mem (s : State) (mv : Nat) : (s.avsWrite mv).mem = s.mem := by
  simp [State.avsWrite]

@[simp] theorem State.avsRelock_mem (s : State) : s.avsRelock.mem = s.mem := by
  simp [State.avsRelock]

@[simp] theorem State.dutyEval_mem (s : State) : s.dutyEval.mem = s.mem := by
  simp [State.dutyEval]

/-! ## The operations of the Pumping Station -/

@[simp] theorem State.setMode_mem (s : State) (m : Mode) : (s.setMode m).mem = s.mem := by
  simp [State.setMode]

@[simp] theorem State.startDriveOff_mem (s : State) : s.startDriveOff.mem = s.mem := by
  simp [State.startDriveOff]

@[simp] theorem State.enterDrive_mem (s : State) : s.enterDrive.mem = s.mem := by
  simp [State.enterDrive]

@[simp] theorem State.enterBench_mem (s : State) : s.enterBench.mem = s.mem := by
  simp [State.enterBench]

@[simp] theorem State.partitionsTurn_mem (s : State) : s.partitionsTurn.mem = s.mem := by
  simp [State.partitionsTurn]

@[simp] theorem State.depotLeft_mem (s : State) : s.depotLeft.mem = s.mem := by
  simp [State.depotLeft]

@[simp] theorem State.enterDepot_mem (s : State) : s.enterDepot.mem = s.mem := by
  simp [State.enterDepot]

@[simp] theorem State.enterHandover_mem (s : State) : s.enterHandover.mem = s.mem := by
  simp [State.enterHandover]

@[simp] theorem State.volatileReset_mem (s : State) : s.volatileReset.mem = s.mem := by
  simp [State.volatileReset]

@[simp] theorem State.addHistory_mem (s : State) (time cause state flags hold detail : Nat) :
    (s.addHistory time cause state flags hold detail).mem = s.mem := by
  simp [State.addHistory]

@[simp] theorem State.wearReport_mem (s : State) : s.wearReport.mem = s.mem := by
  simp [State.wearReport]

@[simp] theorem State.railDetect_mem (s : State) (r : Nat) (high : Bool) (mv : Nat) : (s.railDetect r high mv).mem =
    s.mem := by
  simp [State.railDetect]

@[simp] theorem State.wakeRails_mem (s : State) : s.wakeRails.mem = s.mem := by
  simp [State.wakeRails]

@[simp] theorem State.commitWaking_mem (s : State) (src : Nat) : (s.commitWaking src).mem = s.mem := by
  simp [State.commitWaking]

@[simp] theorem State.joinWake_mem (s : State) (src : Nat) : (s.joinWake src).mem = s.mem := by
  simp [State.joinWake]

@[simp] theorem State.fireWake_mem (s : State) (src : Nat) : (s.fireWake src).mem = s.mem := by
  unfold State.fireWake
  dsimp only
  repeat' split
  all_goals simp

@[simp] theorem State.evalCauses_mem (s : State) : s.evalCauses.mem = s.mem := by
  simp [State.evalCauses]

@[simp] theorem State.startTeardown_mem (s : State) : s.startTeardown.mem = s.mem := by
  simp [State.startTeardown]

@[simp] theorem State.corePowerOff_wf (s : State) (keepCellar : Bool) (hs : s.Canonical) :
    Memory.wf (s.corePowerOff keepCellar).mem = true := by
  have hk := foldl_wf (fun t g => t.keysGone g) (fun t g ht => State.keysGone_wf t g ht) (List.range 8) s hs
  cases keepCellar <;> simp [State.corePowerOff, hk]

@[simp] theorem State.cellarOff_wf (s : State) (hs : s.Canonical) : Memory.wf s.cellarOff.mem = true := by
  simp [State.cellarOff, hs.wf]

@[simp] theorem State.teardownStep_wf (s : State) (hs : s.Canonical) : Memory.wf s.teardownStep.mem = true := by
  have hw := hs.wf
  unfold State.teardownStep
  split <;> simp [hw]

@[simp] theorem State.commitParked_wf (s : State) (keepCellar : Bool) (hs : s.Canonical) :
    Memory.wf (s.commitParked keepCellar).mem = true := by
  simp [State.commitParked, hs.wf]

@[simp] theorem State.turnOff_wf (s : State) (hs : s.Canonical) : Memory.wf s.turnOff.mem = true := by
  simp [State.turnOff, hs.wf]

@[simp] theorem State.vaonLost_wf (s : State) (mv : Nat) (flagSurvives : Bool) (hs : s.Canonical) :
    Memory.wf (s.vaonLost mv flagSurvives).mem = true := by
  simp [State.vaonLost, hs.wf]

@[simp] theorem State.bootStart_mem (s : State) : s.bootStart.mem = s.mem := by
  simp [State.bootStart]

@[simp] theorem State.bootParked_mem (s : State) : s.bootParked.mem = s.mem := by
  simp [State.bootParked]

@[simp] theorem State.resetCore_wf (s : State) (hs : s.Canonical) : Memory.wf s.resetCore.mem = true := by
  simp [State.resetCore, hs.wf]

@[simp] theorem State.afterReset_mem (s : State) : s.afterReset.mem = s.mem := by
  simp [State.afterReset]

@[simp] theorem State.deviceResetCount_mem (s : State) : s.deviceResetCount.mem = s.mem := by
  simp [State.deviceResetCount]

@[simp] theorem State.deviceReset_wf (s : State) (cause detail : Nat) (hs : s.Canonical) :
    Memory.wf (s.deviceReset cause detail).mem = true := by
  simp [State.deviceReset, hs.wf]

@[simp] theorem State.latchCheck_mem (s : State) : s.latchCheck.mem = s.mem := by
  unfold State.latchCheck
  dsimp only
  repeat' split
  all_goals simp

@[simp] theorem State.attemptFailed_mem (s : State) (status : Nat) : (s.attemptFailed status).mem = s.mem := by
  simp [State.attemptFailed]

/-! ## Reading the object dictionary -/

@[simp] theorem State.setBank_mem (s : State) (e part : Nat) (b : Bank) : (s.setBank e part b).mem = s.mem := by
  simp [State.setBank]

@[simp] theorem State.clearRead_mem (s : State) (p idx sub ch : Nat) : (s.clearRead p idx sub ch).mem = s.mem := by
  simp [State.clearRead]

@[simp] theorem State.mbTouch_mem (s : State) (p : Nat) : (s.mbTouch p).mem = s.mem := by
  unfold State.mbTouch
  split <;> simp

@[simp] theorem State.dictRead_mem (s : State) (p idx sub : Nat) (whole : Bool) :
    (s.dictRead p idx sub whole).2.2.mem = s.mem := by
  unfold State.dictRead
  dsimp only
  split <;> simp

/-! ## The operations of the CAN ports -/

@[simp] theorem State.releaseBlock_mem (s : State) (port id : Nat) : (s.releaseBlock port id).mem = s.mem := by
  unfold State.releaseBlock
  extract_lets had t u
  have ht : t.mem = s.mem := by
    rw [foldl_mem]
    intro b a
    rw [sameMem_iff, ite_mem, State.setObj_mem, ite_self]
  split
  · rw [State.refreshReg_mem, State.setObj_mem, State.modPort_mem, ht]
  · rw [State.modPort_mem, ht]

@[simp] theorem State.releaseBlocks_mem (s : State) (port : Nat) : (s.releaseBlocks port).mem = s.mem := by
  unfold State.releaseBlocks
  extract_lets t u
  have ht : t.mem = s.mem := foldl_mem _ (fun _ _ => State.setObj_mem ..) ..
  rw [State.refreshReg_mem, State.setObj_mem, State.modPort_mem, ht]

@[simp] theorem State.cobWritten_mem (s : State) (idx old : Nat) : (s.cobWritten idx old).mem = s.mem := by
  simp [State.cobWritten]

@[simp] theorem State.dictRespond_mem (s : State) (p : Nat) (r : List Byte) : (s.dictRespond p r).mem = s.mem := by
  simp [State.dictRespond]

@[simp] theorem State.answerWrite_mem (s : State) (p code : Nat) : (s.answerWrite p code).mem = s.mem := by
  unfold State.answerWrite
  split
  · rfl
  · split <;> simp

@[simp] theorem State.mailboxDone_mem (s : State) (p code : Nat) : (s.mailboxDone p code).mem = s.mem := by
  simp [State.mailboxDone]

@[simp] theorem State.tellWrite_mem (s : State) (w : AtticWrite) (code : Nat) : (s.tellWrite w code).mem = s.mem := by
  simp [State.tellWrite]

/-! ## The monitor channels' count sources, the weirs' hold-off, and precise sampling -/

@[simp] theorem execCountSourceSample_next (s : State) : NextCanonical s (execCountSourceSample s) := nextCanonical_of
    fun hs => by simp [hs.wf]

@[simp] theorem execWeirHoldoffEnd_next (m : Fin 24) (s : State) : NextCanonical s (execWeirHoldoffEnd m s) :=
    nextCanonical_of fun hs => by simp [hs.wf]

@[simp] theorem execSampledInstructionDone_next (e : Fin 48) (info : SampleInfo) (s : State) : NextCanonical s
    (execSampledInstructionDone e info s) := nextCanonical_of fun hs => by simp [hs.wf]

/-! ## The gPTP end station -/

@[simp] theorem State.modGptp_mem (s : State) (f : Gptp → Gptp) : (s.modGptp f).mem = s.mem := by
  simp [State.modGptp]

@[simp] theorem State.holdover_mem (s : State) : s.holdover.mem = s.mem := by
  simp [State.holdover]

@[simp] theorem State.refreshCapable_mem (s : State) : s.refreshCapable.mem = s.mem := by
  simp [State.refreshCapable]

@[simp] theorem State.receiptEdge_mem (s : State) (at_ : Option Nat) (n : Nat) : (s.receiptEdge at_ n).mem = s.mem := by
  unfold State.receiptEdge
  split <;> simp

@[simp] theorem State.unsupported_mem (s : State) (port : Nat) : (s.unsupported port).mem = s.mem := by
  simp [State.unsupported]

@[simp] theorem execAnnounceReceived_next (arrival : GptpArrival) (domain : Byte) (source : BitVec 80)
    (gm : BitVec 64) (s : State) : NextCanonical s (execAnnounceReceived arrival domain source gm s) :=
    nextCanonical_of fun hs => by simp [hs.wf]

@[simp] theorem State.slew_mem (s : State) : s.slew.mem = s.mem := by
  simp [State.slew]

@[simp] theorem State.syncAccepted_mem (s : State) (m : GptpSync) (o : Int) : (s.syncAccepted m o).mem = s.mem := by
  simp [State.syncAccepted]

@[simp] theorem execSyncReceived_next (m : GptpSync) (s : State) : NextCanonical s (execSyncReceived m s) :=
    nextCanonical_of fun hs => by simp [hs.wf]

@[simp] theorem execPdelayReqTimer_next (s : State) : NextCanonical s (execPdelayReqTimer s) := nextCanonical_of fun
    hs => by simp [hs.wf]

@[simp] theorem execPdelayRespReceived_next (delay ratio : BitVec 32) (s : State) : NextCanonical s
    (execPdelayRespReceived delay ratio s) := nextCanonical_of fun hs => by simp [hs.wf]

@[simp] theorem execPdelayReqReceived_next (arrival : GptpArrival) (seq : BitVec 16) (s : State) : NextCanonical s
    (execPdelayReqReceived arrival seq s) := nextCanonical_of fun hs => by simp [hs.wf]

@[simp] theorem execSyncReceiptTimeout_next (s : State) : NextCanonical s (execSyncReceiptTimeout s) :=
    nextCanonical_of fun hs => by simp [hs.wf]

@[simp] theorem execAnnounceReceiptTimeout_next (s : State) : NextCanonical s (execAnnounceReceiptTimeout s) :=
    nextCanonical_of fun hs => by simp [hs.wf]

@[simp] theorem execTimeBaseStep_next (s : State) : NextCanonical s (execTimeBaseStep s) := by
  refine nextCanonical_of fun hs => ?_
  have hw := hs.wf
  split <;> simp [hw]

@[simp] theorem execEthernetLinkChange_next (port : Fin 2) (up : Bool) (s : State) : NextCanonical s
    (execEthernetLinkChange port up s) := nextCanonical_of fun hs => by simp [hs.wf]

@[simp] theorem State.gptpWritten_mem (s : State) (sub old v : Nat) : (s.gptpWritten sub old v).mem = s.mem := by
  unfold State.gptpWritten
  dsimp only
  repeat' split
  all_goals simp

@[simp] theorem State.gptpTakes_mem (s : State) (sub v : Nat) : (s.gptpTakes sub v).mem = s.mem := by
  simp [State.gptpTakes]

/-! ## What the chapters check of a dictionary write, and what a write that takes effect does beside its value -/

@[simp] theorem State.splitStart_mem (s : State) : s.splitStart.mem = s.mem := by
  simp [State.splitStart]

@[simp] theorem State.rejoinByWrite_mem (s : State) : s.rejoinByWrite.mem = s.mem := by
  simp [State.rejoinByWrite]

@[simp] theorem State.suspendWritten_mem (s : State) (v : Nat) : (s.suspendWritten v).mem = s.mem := by
  simp [State.suspendWritten]

@[simp] theorem State.guestWritten_wf (s : State) (g v : Nat) (hs : s.Canonical) :
    Memory.wf (s.guestWritten g v).mem = true := by
  simp [State.guestWritten, hs.wf]

@[simp] theorem State.partitionWritten_mem (s : State) (e old v : Nat) : (s.partitionWritten e old v).mem = s.mem := by
  simp [State.partitionWritten]

@[simp] theorem State.bankWritten_mem (s : State) (e part sub v : Nat) : (s.bankWritten e part sub v).mem = s.mem := by
  simp [State.bankWritten]

@[simp] theorem State.cascadeWritten_mem (s : State) (v : Nat) : (s.cascadeWritten v).mem = s.mem := by
  simp [State.cascadeWritten]

@[simp] theorem State.deliveryEnds_mem (s : State) (len : Nat) : (s.deliveryEnds len).mem = s.mem := by
  simp [State.deliveryEnds]

@[simp] theorem State.chapterEffect_wf (s : State) (p idx sub ch old v : Nat) (hs : s.Canonical) :
    Memory.wf (s.chapterEffect p idx sub ch old v).mem = true := by
  have hw := hs.wf
  unfold State.chapterEffect
  refine State.canonical_ite ?cob (State.canonical_ite ?port (State.canonical_ite ?bank (State.canonical_ite ?part
    (State.canonical_ite ?mon (State.canonical_ite ?gptp (State.canonical_ite ?hazard ?entry))))))
  case entry => split <;> simp [hw]
  all_goals simp [hw]

@[simp] theorem State.calEffect_wf (s : State) (hs : s.Canonical) : Memory.wf s.calEffect.mem = true := by
  simp [State.calEffect, hs.wf]

@[simp] theorem State.domainEffect_wf (s : State) (_p idx sub _ch : Nat) (d : List Byte) (hs : s.Canonical) :
    Memory.wf (s.domainEffect _p idx sub _ch d).mem = true := by
  have hw := hs.wf
  unfold State.domainEffect
  split <;> simp [hw]

@[simp] theorem State.calReject_mem (s : State) (reason : Nat) (d : List Byte) :
    (s.calReject reason d).mem = s.mem := by
  simp [State.calReject]

@[simp] theorem State.calProgram_mem (s : State) (w : AtticWrite) : (s.calProgram w).mem = s.mem := by
  simp [State.calProgram]

@[simp] theorem State.fnReset_mem (s : State) (fn : Nat) : (s.fnReset fn).mem = s.mem := by
  simp [State.fnReset]

/-! ## Writing the object dictionary -/

@[simp] theorem State.failSession_mem (s : State) (c code : Nat) : (s.failSession c code).mem = s.mem := by
  unfold State.failSession
  split <;> simp

@[simp] theorem State.invalidate_mem (s : State) (idx sub ch : Nat) : (s.invalidate idx sub ch).mem = s.mem := by
  simp [State.invalidate]

@[simp] theorem State.storeValue_mem (s : State) (idx sub ch v : Nat) : (s.storeValue idx sub ch v).mem = s.mem := by
  unfold State.storeValue
  split
  · rfl
  · split
    · rfl
    · split
      · exact State.setObj_mem ..
      · exact State.setObj_mem ..

@[simp] theorem State.takeEffect_wf (s : State) (p idx sub ch : Nat) (data : List Byte) (st : Nat) (byRecord : Bool)
    (hs : s.Canonical) : Memory.wf (s.takeEffect p idx sub ch data st byRecord).mem = true := by
  simp [State.takeEffect, hs.wf]

@[simp] theorem State.calCommit_wf (s : State) (hs : s.Canonical) : Memory.wf s.calCommit.mem = true := by
  have hw := hs.wf
  unfold State.calCommit
  split <;> simp [hw]

@[simp] theorem State.calWrite_wf (s : State) (p : Nat) (d : List Byte) (byRecord answers verified : Bool)
    (hs : s.Canonical) : Memory.wf (s.calWrite p d byRecord answers verified).2.mem = true := by
  simp [State.calWrite, hs.wf]

@[simp] theorem State.commitDomain_wf (s : State) (p idx sub ch : Nat) (d : List Byte) (byRecord answers : Bool)
    (hs : s.Canonical) : Memory.wf (s.commitDomain p idx sub ch d byRecord answers).2.mem = true := by
  simp [State.commitDomain, hs.wf]

@[simp] theorem State.writeLocal_mem (s : State) (p idx sub v : Nat) : (s.writeLocal p idx sub v).mem = s.mem := by
  simp [State.writeLocal]

@[simp] theorem State.endSequence_mem (s : State) (p : Nat) : (s.endSequence p).mem = s.mem := by
  simp [State.endSequence]

@[simp] theorem State.failKey_mem (s : State) (p : Nat) : (s.failKey p).mem = s.mem := by
  simp [State.failKey]

@[simp] theorem State.unlockKey_mem (s : State) (p v : Nat) : (s.unlockKey p v).2.mem = s.mem := by
  unfold State.unlockKey
  dsimp only
  repeat' split
  all_goals simp

@[simp] theorem State.requestAct_mem (s : State) (v : Nat) : (s.requestAct v).mem = s.mem := by
  unfold State.requestAct
  split <;> simp

@[simp] theorem State.requestWrite_mem (s : State) (p v : Nat) (inWindow byRecord : Bool) :
    (s.requestWrite p v inWindow byRecord).2.mem = s.mem := by
  simp [State.requestWrite]

@[simp] theorem State.commitWrite_wf (s : State) (p idx sub ch : Nat) (data : List Byte) (byRecord answers : Bool)
    (hs : s.Canonical) : Memory.wf (s.commitWrite p idx sub ch data byRecord answers).2.mem = true := by
  simp [State.commitWrite, hs.wf]

@[simp] theorem State.windowEdge_mem (s : State) (p idx sub : Nat) : (s.windowEdge p idx sub).mem = s.mem := by
  unfold State.windowEdge
  split <;> simp

@[simp] theorem State.dictWrite_wf (s : State) (p idx sub : Nat) (data : List Byte) (whole answers : Bool)
    (hs : s.Canonical) : Memory.wf (s.dictWrite p idx sub data whole answers).2.mem = true := by
  simp [State.dictWrite, hs.wf]

@[simp] theorem State.commitDownload_wf (s : State) (p idx sub ch : Nat) (data : List Byte) (answers : Bool)
    (hs : s.Canonical) : Memory.wf (s.commitDownload p idx sub ch data answers).2.mem = true := by
  simp [State.commitDownload, hs.wf]

@[simp] theorem State.openByRecord_mem (s : State) (p : Nat) : (s.openByRecord p).mem = s.mem := by
  simp [State.openByRecord]

@[simp] theorem State.commitInWindow_wf (s : State) (p idx sub ch : Nat) (data : List Byte) (answers : Bool)
    (hs : s.Canonical) : Memory.wf (s.commitInWindow p idx sub ch data answers).2.mem = true := by
  simp [State.commitInWindow, hs.wf]

@[simp] theorem State.recordRefused_mem (s : State) (p code : Nat) : (s.recordRefused p code).2.mem = s.mem := by
  simp [State.recordRefused]

@[simp] theorem State.sealedRecord_wf (s : State) (p : Nat) (b : List Byte) (answers : Bool) (hs : s.Canonical) :
    Memory.wf (s.sealedRecord p b answers).2.mem = true := by
  have hw := hs.wf
  unfold State.sealedRecord
  cases (s.path p).staged <;> simp [hw]

@[simp] theorem State.mbUploadStart_mem (s : State) (p : Nat) : (s.mbUploadStart p).2.mem = s.mem := by
  unfold State.mbUploadStart
  dsimp only
  repeat' split
  all_goals simp

@[simp] theorem State.mbNextSegment_mem (s : State) (p : Nat) : (s.mbNextSegment p).2.mem = s.mem := by
  unfold State.mbNextSegment
  split <;> simp

@[simp] theorem State.mbDownloadStart_mem (s : State) (p : Nat) : (s.mbDownloadStart p).2.mem = s.mem := by
  simp [State.mbDownloadStart]

@[simp] theorem State.mbSegment_mem (s : State) (p len : Nat) : (s.mbSegment p len).2.mem = s.mem := by
  unfold State.mbSegment
  split <;> simp

@[simp] theorem State.commitXfer_wf (s : State) (p : Nat) (x : Xfer) (answers : Bool) (hs : s.Canonical) :
    Memory.wf (s.commitXfer p x answers).2.2.mem = true := by
  simp [State.commitXfer, hs.wf]

@[simp] theorem State.mbCommit_wf (s : State) (p : Nat) (hs : s.Canonical) : Memory.wf (s.mbCommit p).2.mem = true := by
  have hw := hs.wf
  unfold State.mbCommit
  split <;> simp [hw]

@[simp] theorem State.mbAbort_mem (s : State) (p : Nat) : (s.mbAbort p).2.mem = s.mem := by
  simp [State.mbAbort]

@[simp] theorem State.mbCommand_wf (s : State) (p sub : Nat) (run : State → Nat × State)
    (hr : ∀ t : State, t.Canonical → (run t).2.Canonical) (hs : s.Canonical) :
    Memory.wf (s.mbCommand p sub run).2.mem = true := by
  have hw := hs.wf
  have := State.canonical_iff.1 (hr ((s.endSequence p).mbTouch p) (by simp [hw]))
  simp [State.mbCommand, this, hw]

@[simp] theorem State.mbWrite_wf (s : State) (p sub v : Nat) (hs : s.Canonical) :
    Memory.wf (s.mbWrite p sub v).2.mem = true := by
  refine State.mbCommand_wf s p sub _ (fun t ht => ?_) hs
  have hw := ht.wf
  split
  · simp [hw]
  · split <;> simp [hw]

@[simp] theorem State.accessOn_wf (s : State) (p idx sub : Nat) (data : List Byte) (hs : s.Canonical) :
    Memory.wf (s.accessOn p idx sub data).2.2.mem = true := by
  have hw := hs.wf
  unfold State.accessOn
  dsimp only
  repeat' split
  all_goals simp [hw]

@[simp] theorem State.dictAccess_wf (s : State) (p idx sub : Nat) (data : List Byte) (hs : s.Canonical) :
    Memory.wf (s.dictAccess p idx sub data).mem = true := by
  simp [State.dictAccess, hs.wf]

/-! ## The commands that are dictionary accesses -/

@[simp] theorem State.deliver_wf (s : State) (p : Nat) (i : Held) (f : State → State) (hf : (f s).Canonical)
    (hs : s.Canonical) :
    Memory.wf (s.deliver p i f).mem = true := by
  unfold State.deliver
  split
  · exact hs
  · split
    · exact hs
    · exact hf

@[simp] theorem State.writeRow_wf (s : State) (p : Path) (idx sub n v : Nat) (hs : s.Canonical) :
    Memory.wf (s.writeRow p idx sub n v).mem = true := by
  simp [State.writeRow, hs.wf]

@[simp] theorem State.objectWriteOn_wf (s : State) (p : Path) (idx sub : Nat) (data : List Byte) (enables : Bool)
    (hs : s.Canonical) : Memory.wf (s.objectWriteOn p idx sub data enables).mem = true := by
  have hw := hs.wf
  unfold State.objectWriteOn
  split
  · split <;> simp [hw]
  · simp [hw]

@[simp] theorem execObjectWrite_next (p : Path) (idx : BitVec 16) (sub : Byte) (data : WriteData) (s : State) :
    NextCanonical s (execObjectWrite p idx sub data s) := nextCanonical_of fun hs => by simp [hs.wf]

@[simp] theorem State.readRow_mem (s : State) (p : Path) (idx sub : Nat) : (s.readRow p idx sub).mem = s.mem := by
  simp [State.readRow]

@[simp] theorem State.mirrorRefuse_mem (s : State) (p idx sub code n : Nat) : (s.mirrorRefuse p idx sub code n).mem =
    s.mem := by
  simp [State.mirrorRefuse]

@[simp] theorem State.readOn_mem (s : State) (p : Path) (idx sub dwords : Nat) (enables : Bool) :
    (s.readOn p idx sub dwords enables).mem = s.mem := by
  simp [State.readOn]

@[simp] theorem execClearingRead_next (p : Path) (idx : BitVec 16) (form : ReadForm) (s : State) : NextCanonical s
    (execClearingRead p idx form s) := nextCanonical_of fun hs => by simp [hs.wf]

@[simp] theorem execTimeBaseRead_next (p : Path) (s : State) : NextCanonical s (execTimeBaseRead p s) :=
    nextCanonical_of fun hs => by simp [hs.wf]

@[simp] theorem execUnlockFirstKey_next (p : Path) (s : State) : NextCanonical s (execUnlockFirstKey p s) :=
    nextCanonical_of fun hs => by simp [hs.wf]

@[simp] theorem execUnlockSecondKey_next (p : Path) (s : State) : NextCanonical s (execUnlockSecondKey p s) :=
    nextCanonical_of fun hs => by simp [hs.wf]

@[simp] theorem execUnlockWindowClose_next (p : Path) (s : State) : NextCanonical s (execUnlockWindowClose p s) :=
    nextCanonical_of fun hs => by simp [hs.wf]

@[simp] theorem State.sealedRow_wf (s : State) (p : Nat) (b : List Byte) (hs : s.Canonical) :
    Memory.wf (s.sealedRow p b).mem = true := by
  simp [State.sealedRow, hs.wf]

@[simp] theorem execSealedWrite_next (p : Path) (rec : List Byte) (s : State) : NextCanonical s
    (execSealedWrite p rec s) := nextCanonical_of fun hs => by simp [hs.wf]

@[simp] theorem execStagedDownloadTimeout_next (p : Path) (s : State) : NextCanonical s
    (execStagedDownloadTimeout p s) := by
  refine nextCanonical_of fun hs => ?_
  have hw := hs.wf
  split <;> simp [hw]

@[simp] theorem execMailboxUploadStart_next (p : Path) (s : State) : NextCanonical s (execMailboxUploadStart p s) :=
    nextCanonical_of fun hs => by simp [hs.wf]

@[simp] theorem execMailboxNextSegment_next (p : Path) (s : State) : NextCanonical s (execMailboxNextSegment p s) :=
    nextCanonical_of fun hs => by simp [hs.wf]

@[simp] theorem execMailboxDownloadStart_next (p : Path) (s : State) :
    NextCanonical s (execMailboxDownloadStart p s) := nextCanonical_of fun hs => by simp [hs.wf]

@[simp] theorem execMailboxSegmentWrite_next (p : Path) (len : BitVec 16) (s : State) : NextCanonical s
    (execMailboxSegmentWrite p len s) := nextCanonical_of fun hs => by simp [hs.wf]

@[simp] theorem execMailboxCommit_next (p : Path) (s : State) : NextCanonical s (execMailboxCommit p s) :=
    nextCanonical_of fun hs => by simp [hs.wf]

@[simp] theorem execMailboxAbort_next (p : Path) (s : State) : NextCanonical s (execMailboxAbort p s) :=
    nextCanonical_of fun hs => by simp [hs.wf]

@[simp] theorem execMailboxTimeout_next (p : Path) (s : State) : NextCanonical s (execMailboxTimeout p s) :=
    nextCanonical_of fun hs => by simp [hs.wf]

@[simp] theorem execJournalLatch_next (p : Path) (i : Byte) (s : State) : NextCanonical s (execJournalLatch p i s) :=
    nextCanonical_of fun hs => by simp [hs.wf]

@[simp] theorem execPeerSlotRelease_next (slot : Fin 16) (s : State) : NextCanonical s (execPeerSlotRelease slot s) :=
    nextCanonical_of fun hs => by simp [hs.wf]

@[simp] theorem execFunctionLevelReset_next (fn : Fin 9) (s : State) :
    NextCanonical s (execFunctionLevelReset fn s) := nextCanonical_of fun hs => by simp [hs.wf]

@[simp] theorem State.pcieReset_mem (s : State) : s.pcieReset.mem = s.mem := by
  simp [State.pcieReset]

@[simp] theorem execPerstNAssert_next (s : State) : NextCanonical s (execPerstNAssert s) := nextCanonical_of fun hs =>
    by simp [hs.wf]

@[simp] theorem execPcieHotReset_next (s : State) : NextCanonical s (execPcieHotReset s) := nextCanonical_of fun hs =>
    by simp [hs.wf]

@[simp] theorem execRequestParked_next (p : Path) (s : State) : NextCanonical s (execRequestParked p s) :=
    nextCanonical_of fun hs => by simp [hs.wf]

@[simp] theorem execRequestWake_next (p : Path) (s : State) : NextCanonical s (execRequestWake p s) :=
    nextCanonical_of fun hs => by simp [hs.wf]

@[simp] theorem execRequestBench_next (p : Path) (s : State) : NextCanonical s (execRequestBench p s) :=
    nextCanonical_of fun hs => by simp [hs.wf]

@[simp] theorem execRequestDrive_next (p : Path) (s : State) : NextCanonical s (execRequestDrive p s) :=
    nextCanonical_of fun hs => by simp [hs.wf]

@[simp] theorem execDeliveredLength_next (p : Path) (len : BitVec 32) (s : State) : NextCanonical s
    (execDeliveredLength p len s) := nextCanonical_of fun hs => by simp [hs.wf]

@[simp] theorem execReleaseBlocks_next (p : Path) (port : Fin 2) (s : State) : NextCanonical s
    (execReleaseBlocks p port s) := nextCanonical_of fun hs => by simp [hs.wf]

@[simp] theorem execStreamEnable_next (p : Path) (s : State) : NextCanonical s (execStreamEnable p s) :=
    nextCanonical_of fun hs => by simp [hs.wf]

@[simp] theorem execStreamDisable_next (p : Path) (s : State) : NextCanonical s (execStreamDisable p s) :=
    nextCanonical_of fun hs => by simp [hs.wf]

@[simp] theorem execTranslationInvalidate_next (p : Path) (v : Byte) (s : State) : NextCanonical s
    (execTranslationInvalidate p v s) := nextCanonical_of fun hs => by simp [hs.wf]

@[simp] theorem execQueueEnable_next (p : Path) (s : State) : NextCanonical s (execQueueEnable p s) :=
    nextCanonical_of fun hs => by simp [hs.wf]

@[simp] theorem execEnginePartitionMove_next (p : Path) (e : Fin 48) (part : Byte) (s : State) : NextCanonical s
    (execEnginePartitionMove p e part s) := nextCanonical_of fun hs => by simp [hs.wf]

@[simp] theorem execResetAllSlots_next (p : Path) (s : State) : NextCanonical s (execResetAllSlots p s) :=
    nextCanonical_of fun hs => by simp [hs.wf]

@[simp] theorem execKeeperSplitRequest_next (p : Path) (s : State) : NextCanonical s (execKeeperSplitRequest p s) :=
    nextCanonical_of fun hs => by simp [hs.wf]

@[simp] theorem execKeeperRejoinRequest_next (p : Path) (s : State) : NextCanonical s (execKeeperRejoinRequest p s) :=
    nextCanonical_of fun hs => by simp [hs.wf]

@[simp] theorem execWatchdogKick_next (p : Path) (s : State) : NextCanonical s (execWatchdogKick p s) :=
    nextCanonical_of fun hs => by simp [hs.wf]

@[simp] theorem execPolderResetRequest_next (p : Path) (s : State) : NextCanonical s (execPolderResetRequest p s) :=
    nextCanonical_of fun hs => by simp [hs.wf]

@[simp] theorem execMonitorClear_next (p : Path) (s : State) : NextCanonical s (execMonitorClear p s) :=
    nextCanonical_of fun hs => by simp [hs.wf]

@[simp] theorem execCounterBankClear_next (p : Path) (s : State) : NextCanonical s (execCounterBankClear p s) :=
    nextCanonical_of fun hs => by simp [hs.wf]

@[simp] theorem execSampleBufferClear_next (p : Path) (s : State) : NextCanonical s (execSampleBufferClear p s) :=
    nextCanonical_of fun hs => by simp [hs.wf]

@[simp] theorem execSampleRecordLatch_next (p : Path) (i : BitVec 16) (s : State) : NextCanonical s
    (execSampleRecordLatch p i s) := nextCanonical_of fun hs => by simp [hs.wf]

@[simp] theorem execDepotSuspend_next (p : Path) (s : State) : NextCanonical s (execDepotSuspend p s) :=
    nextCanonical_of fun hs => by simp [hs.wf]

@[simp] theorem execGuestEnable_next (p : Path) (s : State) : NextCanonical s (execGuestEnable p s) :=
    nextCanonical_of fun hs => by simp [hs.wf]

@[simp] theorem execGuestDisable_next (p : Path) (s : State) : NextCanonical s (execGuestDisable p s) :=
    nextCanonical_of fun hs => by simp [hs.wf]

@[simp] theorem State.downloadOn_wf (s : State) (p idx sub : Nat) (data : List Byte) (hs : s.Canonical) :
    Memory.wf (s.downloadOn p idx sub data).mem = true := by
  simp [State.downloadOn, hs.wf]

@[simp] theorem State.downloadRow_wf (s : State) (p : Path) (idx sub : Nat) (data : List Byte) (hs : s.Canonical) :
    Memory.wf (s.downloadRow p idx sub data).mem = true := by
  simp [State.downloadRow, hs.wf]

@[simp] theorem execManagerJobSubmit_next (p : Path) (offer : List Byte) (s : State) : NextCanonical s
    (execManagerJobSubmit p offer s) := nextCanonical_of fun hs => by simp [hs.wf]

@[simp] theorem execPutChunk_next (p : Path) (data : List Byte) (s : State) :
    NextCanonical s (execPutChunk p data s) := nextCanonical_of fun hs => by simp [hs.wf]

@[simp] theorem execPutManifest_next (p : Path) (data : List Byte) (s : State) : NextCanonical s
    (execPutManifest p data s) := nextCanonical_of fun hs => by simp [hs.wf]

/-! ## Dictionary messages over Fuind-over-UDP and over the link -/

@[simp] theorem State.endSession_mem (s : State) (p : Nat) : (s.endSession p).mem = s.mem := by
  simp [State.endSession]

@[simp] theorem State.sessionStep_wf (s : State) (p : Nat) (x : Xfer) (b : List Byte)
    (act : State → Option (List Byte) × State) (ha : ∀ t : State, t.Canonical → (act t).2.Canonical) (hs : s.Canonical) :
    Memory.wf (s.sessionStep p x b act).2.mem = true := by
  have hw := hs.wf
  unfold State.sessionStep
  dsimp only
  split
  · simp [hw]
  · exact ha _ (by simp [hw])

@[simp] theorem State.dictUploadStart_mem (s : State) (p : Nat) (b : List Byte) : (s.dictUploadStart p b).2.mem =
    s.mem := by
  unfold State.dictUploadStart
  dsimp only
  split <;> simp

@[simp] theorem State.dictUploadNext_wf (s : State) (p : Nat) (x : Xfer) (b : List Byte) (hs : s.Canonical) :
    Memory.wf (s.dictUploadNext p x b).2.mem = true := by
  simp [State.dictUploadNext, hs.wf]

@[simp] theorem State.dictDownloadStart_mem (s : State) (p : Nat) (b : List Byte) : (s.dictDownloadStart p b).2.mem =
    s.mem := by
  simp [State.dictDownloadStart]

@[simp] theorem State.dictDownloadSegment_wf (s : State) (p : Nat) (x : Xfer) (b : List Byte) (hs : s.Canonical) :
    Memory.wf (s.dictDownloadSegment p x b).2.mem = true := by
  simp [State.dictDownloadSegment, hs.wf]

@[simp] theorem State.dictWait_mem (s : State) (p : Nat) (b : List Byte) (code : Nat) (wait : Bool) :
    (s.dictWait p b code wait).2.mem = s.mem := by
  simp [State.dictWait]

@[simp] theorem State.dictCommit_wf (s : State) (p : Nat) (x : Xfer) (b : List Byte) (hs : s.Canonical) :
    Memory.wf (s.dictCommit p x b).2.mem = true := by
  refine State.sessionStep_wf s p x b _ (fun t ht => ?_) hs
  have hw := ht.wf
  simp [hw]

@[simp] theorem State.dictValue_wf (s : State) (p : Nat) (b : List Byte) (hs : s.Canonical) :
    Memory.wf (s.dictValue p b).2.mem = true := by
  simp [State.dictValue, hs.wf]

@[simp] theorem State.dictFetch_mem (s : State) (p : Nat) (b : List Byte) : (s.dictFetch p b).2.mem = s.mem := by
  simp [State.dictFetch]

@[simp] theorem State.dictServe_wf (s : State) (p : Nat) (b : List Byte) (hs : s.Canonical) :
    Memory.wf (s.dictServe p b).2.mem = true := by
  have hw := hs.wf
  unfold State.dictServe
  dsimp only
  repeat' split
  all_goals simp [hw]

@[simp] theorem State.dictRequest_wf (s : State) (p : Nat) (b : List Byte) (hs : s.Canonical) :
    Memory.wf (s.dictRequest p b).mem = true := by
  have hw := hs.wf
  unfold State.dictRequest
  dsimp only
  split <;> simp [hw]

@[simp] theorem State.dictRelay_mem (s : State) (peer : Nat × Nat) (dst : Nat) (b : List Byte) :
    (s.dictRelay peer dst b).mem = s.mem := by
  simp [State.dictRelay]

@[simp] theorem State.peerRequest_wf (s : State) (peer : Nat × Nat) (b : List Byte) (hs : s.Canonical) :
    Memory.wf (s.peerRequest peer b).mem = true := by
  have hw := hs.wf
  unfold State.peerRequest
  dsimp only
  repeat' split
  all_goals simp [hw]

@[simp] theorem State.udpDict_wf (s : State) (op addr port : Nat) (m : List Byte) (hs : s.Canonical) :
    Memory.wf (s.udpDict op addr port m).mem = true := by
  simp [State.udpDict, hs.wf]

@[simp] theorem execUdpDictRead_next (addr : BitVec 32) (port : BitVec 16) (m : List Byte) (s : State) : NextCanonical
    s (execUdpDictRead addr port m s) := nextCanonical_of fun hs => by simp [hs.wf]

@[simp] theorem execUdpDictWrite_next (addr : BitVec 32) (port : BitVec 16) (m : List Byte) (s : State) :
    NextCanonical s (execUdpDictWrite addr port m s) := nextCanonical_of fun hs => by simp [hs.wf]

@[simp] theorem execUdpUploadStart_next (addr : BitVec 32) (port : BitVec 16) (m : List Byte) (s : State) :
    NextCanonical s (execUdpUploadStart addr port m s) := nextCanonical_of fun hs => by simp [hs.wf]

@[simp] theorem execUdpUploadNext_next (addr : BitVec 32) (port : BitVec 16) (m : List Byte) (s : State) :
    NextCanonical s (execUdpUploadNext addr port m s) := nextCanonical_of fun hs => by simp [hs.wf]

@[simp] theorem execUdpDownloadStart_next (addr : BitVec 32) (port : BitVec 16) (m : List Byte) (s : State) :
    NextCanonical s (execUdpDownloadStart addr port m s) := nextCanonical_of fun hs => by simp [hs.wf]

@[simp] theorem execUdpDownloadSegment_next (addr : BitVec 32) (port : BitVec 16) (m : List Byte) (s : State) :
    NextCanonical s (execUdpDownloadSegment addr port m s) := nextCanonical_of fun hs => by simp [hs.wf]

@[simp] theorem execUdpDownloadCommit_next (addr : BitVec 32) (port : BitVec 16) (m : List Byte) (s : State) :
    NextCanonical s (execUdpDownloadCommit addr port m s) := nextCanonical_of fun hs => by simp [hs.wf]

@[simp] theorem execUdpDictAbort_next (addr : BitVec 32) (port : BitVec 16) (m : List Byte) (s : State) :
    NextCanonical s (execUdpDictAbort addr port m s) := nextCanonical_of fun hs => by simp [hs.wf]

@[simp] theorem State.serveLinkN_wf (s : State) (fuel : Nat) (hs : s.Canonical) : Memory.wf (s.serveLinkN fuel).mem =
    true := by
  induction fuel generalizing s with
  | zero => exact hs
  | succ k ih =>
    have hw := hs.wf
    unfold State.serveLinkN
    split
    · exact hs
    · split
      · exact hs
      · dsimp only
        refine ih _ ?_
        split <;> simp [hw]

@[simp] theorem State.serveLink_wf (s : State) (hs : s.Canonical) : Memory.wf s.serveLink.mem = true := by
  simp [State.serveLink, hs.wf]

@[simp] theorem State.linkDict_wf (s : State) (m : List Byte) (hs : s.Canonical) :
    Memory.wf (s.linkDict m).mem = true := by
  have hw := hs.wf
  unfold State.linkDict
  dsimp only
  repeat' split
  all_goals simp [hw]

/-! ## The commands of the CAN ports -/

@[simp] theorem State.reportLost_mem (s : State) (port : Nat) : (s.reportLost port).mem = s.mem := by
  simp [State.reportLost]

@[simp] theorem State.setNmt_mem (s : State) (port v : Nat) : (s.setNmt port v).mem = s.mem := by
  simp [State.setNmt]

@[simp] theorem State.bootPort_mem (s : State) (port : Nat) : (s.bootPort port).mem = s.mem :=
    (State.setNmt_mem ..).trans ((State.modPort_mem ..).trans ((State.canSend_mem ..).trans (State.setObj_mem ..)))

@[simp] theorem execCanPortTakeover_next (s : State) : NextCanonical s (execCanPortTakeover s) := nextCanonical_of fun
    hs => by simp [hs.wf]

@[simp] theorem State.nmtCommand_mem (s : State) (port node v : Nat) : (s.nmtCommand port node v).mem = s.mem := by
  simp [State.nmtCommand]

@[simp] theorem execNmtStart_next (port : Fin 2) (node : Byte) (s : State) : NextCanonical s
    (execNmtStart port node s) := nextCanonical_of fun hs => by simp [hs.wf]

@[simp] theorem execNmtStop_next (port : Fin 2) (node : Byte) (s : State) :
    NextCanonical s (execNmtStop port node s) := nextCanonical_of fun hs => by simp [hs.wf]

@[simp] theorem execNmtEnterPreoperational_next (port : Fin 2) (node : Byte) (s : State) : NextCanonical s
    (execNmtEnterPreoperational port node s) := nextCanonical_of fun hs => by simp [hs.wf]

@[simp] theorem State.resetComm_mem (s : State) (port : Nat) : (s.resetComm port).mem = s.mem := by
  simp [State.resetComm]

@[simp] theorem execNmtResetCommunication_next (port : Fin 2) (node : Byte) (s : State) : NextCanonical s
    (execNmtResetCommunication port node s) := nextCanonical_of fun hs => by simp [hs.wf]

@[simp] theorem execNmtResetNode_next (port : Fin 2) (node : Byte) (s : State) : NextCanonical s
    (execNmtResetNode port node s) := nextCanonical_of fun hs => by simp [hs.wf]

@[simp] theorem execNmtAutostart_next (port : Fin 2) (s : State) : NextCanonical s (execNmtAutostart port s) :=
    nextCanonical_of fun hs => by simp [hs.wf]

@[simp] theorem State.usdoNew_mem (s : State) (p : Nat) : (s.usdoNew p).mem = s.mem := by
  simp [State.usdoNew]

@[simp] theorem State.usdoUpload_mem (s : State) (p idx sub : Nat) (fmt : FrameFormat) :
    (s.usdoUpload p idx sub fmt).mem = s.mem := by
  simp [State.usdoUpload]

@[simp] theorem State.usdoUploadSegment_mem (s : State) (p : Nat) (x : Xfer) :
    (s.usdoUploadSegment p x).mem = s.mem := by
  simp [State.usdoUploadSegment]

@[simp] theorem State.usdoWrite_wf (s : State) (p idx sub : Nat) (data : List Byte) (hs : s.Canonical) :
    Memory.wf (s.usdoWrite p idx sub data).mem = true := by
  simp [State.usdoWrite, hs.wf]

@[simp] theorem State.usdoDownload_mem (s : State) (p idx sub total : Nat) (fmt : FrameFormat) :
    (s.usdoDownload p idx sub total fmt).mem = s.mem := by
  simp [State.usdoDownload]

@[simp] theorem State.usdoAbort_mem (s : State) (p : Nat) (x : Xfer) (code : Nat) :
    (s.usdoAbort p x code).mem = s.mem := by
  simp [State.usdoAbort]

@[simp] theorem State.usdoSegment_wf (s : State) (p : Nat) (x : Xfer) (data : List Byte) (last : Bool)
    (hs : s.Canonical) : Memory.wf (s.usdoSegment p x data last).mem = true := by
  simp [State.usdoSegment, hs.wf]

@[simp] theorem State.usdoSession_wf (s : State) (p : Nat) (upload : Bool) (act : Xfer → State)
    (ha : ∀ x, (act x).Canonical) (hs : s.Canonical) :
    Memory.wf (s.usdoSession p upload act).mem = true := by
  have hw := hs.wf
  unfold State.usdoSession
  split
  · simp [hw]
  · split
    · simp [hw]
    · split
      · simp [hw]
      · exact ha _

@[simp] theorem State.usdoServe_wf (s : State) (p : Nat) (fmt : FrameFormat) (req : UsdoReq) (hs : s.Canonical) :
    Memory.wf (s.usdoServe p fmt req).mem = true := by
  have hw := hs.wf
  unfold State.usdoServe
  split <;> simp [hw]

@[simp] theorem execUsdoRequest_next (port : Fin 2) (fmt : FrameFormat) (req : UsdoReq) (s : State) : NextCanonical s
    (execUsdoRequest port fmt req s) := nextCanonical_of fun hs => by simp [hs.wf]

@[simp] theorem State.usdoNextN_wf (s : State) (p fuel : Nat) (hs : s.Canonical) :
    Memory.wf (s.usdoNextN p fuel).mem = true := by
  induction fuel generalizing s with
  | zero => exact hs
  | succ k ih =>
    have hw := hs.wf
    unfold State.usdoNextN
    split
    · exact hs
    · split
      · dsimp only
        refine ih _ ?_
        split <;> simp [hw]
      · exact hs

@[simp] theorem State.serveWaiting_wf (s : State) (hs : s.Canonical) : Memory.wf s.serveWaiting.mem = true :=
    State.serveLink_wf _ (State.usdoNextN_wf _ _ _ (State.usdoNextN_wf s _ _ hs))

@[simp] theorem State.mapped_mem (s : State) (p v : Nat) : (s.mapped p v).2.mem = s.mem := by
  unfold State.mapped
  dsimp only
  split <;> simp

@[simp] theorem State.tpdoData_mem (s : State) (n : Nat) : (s.tpdoData n).2.mem = s.mem := foldl_same
    (fun a : List Byte × State => a.2.mem) _ (by simp) _ _

@[simp] theorem State.tpdoSend_mem (s : State) (n : Nat) (data : List Byte) : (s.tpdoSend n data).mem = s.mem := by
  simp [State.tpdoSend]

@[simp] theorem execTpdoEventTimer_next (n : Fin 8) (s : State) : NextCanonical s (execTpdoEventTimer n s) :=
    nextCanonical_of fun hs => by simp [hs.wf]

@[simp] theorem execTpdoChange_next (n : Fin 8) (s : State) : NextCanonical s (execTpdoChange n s) := nextCanonical_of
    fun hs => by simp [hs.wf]

@[simp] theorem execHeartbeatTimer_next (port : Fin 2) (s : State) : NextCanonical s (execHeartbeatTimer port s) :=
    nextCanonical_of fun hs => by simp [hs.wf]

@[simp] theorem execEmcyTransmit_next (port : Fin 2) (s : State) : NextCanonical s (execEmcyTransmit port s) := by
  refine nextCanonical_of fun hs => ?_
  have hw := hs.wf
  dsimp only
  split <;> simp [hw]

@[simp] theorem State.setErrors_mem (s : State) (port tec rec : Nat) : (s.setErrors port tec rec).mem = s.mem := by
  simp [State.setErrors]

@[simp] theorem execCanBusError_next (port : Fin 2) (overrun : Bool) (tec rec : Nat) (s : State) : NextCanonical s
    (execCanBusError port overrun tec rec s) := nextCanonical_of fun hs => by simp [hs.wf]

@[simp] theorem execCanSuccessfulTransmission_next (port : Fin 2) (id : BitVec 29) (ide : Bool) (s : State) :
    NextCanonical s (execCanSuccessfulTransmission port id ide s) := nextCanonical_of fun hs => by simp [hs.wf]

@[simp] theorem State.blockId_mem (s : State) (port key : Nat) : (s.blockId port key).mem = s.mem := by
  unfold State.blockId
  dsimp only
  split
  · rfl
  · exact (State.raise_mem ..).trans ((State.journalAdd_mem ..).trans ((State.setObj_mem ..).trans (State.setObj_mem ..)))

@[simp] theorem execCanCollision_next (port : Fin 2) (id : BitVec 29) (ide : Bool) (s : State) : NextCanonical s
    (execCanCollision port id ide s) := nextCanonical_of fun hs => by simp [hs.wf]

@[simp] theorem execBusOffRecovery_next (port : Fin 2) (s : State) : NextCanonical s (execBusOffRecovery port s) := by
  unfold execBusOffRecovery
  extract_lets o
  refine nextCanonical_of fun hs => ?_
  split
  · exact hs
  · rw [State.raise_mem, State.setObj_mem, State.setObj_mem, State.setObj_mem]
    exact hs

@[simp] theorem execAtticWriteDone_next (verified : Bool) (s : State) : NextCanonical s
    (execAtticWriteDone verified s) := by
  refine nextCanonical_of fun hs => ?_
  have hw := hs.wf
  split <;> simp [hw]

@[simp] theorem State.calSetOn_wf (s : State) (p : Nat) (set : List Byte) (verified : Bool) (hs : s.Canonical) :
    Memory.wf (s.calSetOn p set verified).mem = true := by
  simp [State.calSetOn, hs.wf]

@[simp] theorem execCalibrationSetWrite_next (p : Path) (set : List Byte) (verified : Bool) (s : State) :
    NextCanonical s (execCalibrationSetWrite p set verified s) := nextCanonical_of fun hs => by simp [hs.wf]

@[simp] theorem execCalibrationAreaCommit_next (s : State) : NextCanonical s (execCalibrationAreaCommit s) :=
    nextCanonical_of fun hs => by simp [hs.wf]

/-! ## What the Strip Sequencer and the Post-Processing Unit do at their edges -/

@[simp] theorem State.resubmit_mem (s : State) (q : Sluice) (l : List Strip) : (s.resubmit q l).mem = s.mem := by
  induction l generalizing s with
  | nil => rfl
  | cons t rest ih =>
    unfold State.resubmit
    dsimp only
    split
    · split <;> simp [ih]
    · simp

@[simp] theorem execStripJobResubmit_next (strm : Fin 96) (s : State) :
    NextCanonical s (execStripJobResubmit strm s) := nextCanonical_of fun hs => by simp [hs.wf]

@[simp] theorem execStripDeadline_next (strm : Fin 96) (strip : Nat) (s : State) : NextCanonical s
    (execStripDeadline strm strip s) := by
  refine nextCanonical_of fun hs => ?_
  have hw := hs.wf
  split <;> simp [hw]

@[simp] theorem execStripWithdraw_next (strm : Fin 96) (strip : Nat) (s : State) : NextCanonical s
    (execStripWithdraw strm strip s) := by
  refine nextCanonical_of fun hs => ?_
  have hw := hs.wf
  split <;> simp [hw]

@[simp] theorem State.recordOn_mem (s : State) (pathReady : BitVec 4) (rec : List Byte) (k : Nat) :
    (s.recordOn pathReady rec k).mem = s.mem := by
  simp [State.recordOn]

@[simp] theorem State.published_wf (s : State) (o : Outcome) (hs : s.Canonical) :
    Memory.wf (s.published o).mem = true := by
  simp [State.published, hs.wf]

@[simp] theorem execFusedStripRecord_next (pathReady : BitVec 4) (s : State) : NextCanonical s
    (execFusedStripRecord pathReady s) := by
  refine nextCanonical_of fun hs => ?_
  split
  · exact hs
  · rw [foldl_mem _ (by simp)]
    exact foldl_wf _ (fun t o ht => State.published_wf t o ht) _ _ (by simpa using hs)

@[simp] theorem State.modFrame_mem (s : State) (strm n : Nat) (f : PpFrame → PpFrame) : (s.modFrame strm n f).mem =
    s.mem := by
  simp [State.modFrame]

@[simp] theorem State.copyCands_mem (s : State) (c : CandCopy) (p : PpFrame) : (s.copyCands c p).mem = s.mem := by
  simp [State.copyCands]

@[simp] theorem execCandidateCopy_next (strm : Fin 96) (strip : Nat) (s : State) : NextCanonical s
    (execCandidateCopy strm strip s) := by
  refine nextCanonical_of fun hs => ?_
  have hw := hs.wf
  dsimp only
  repeat' split
  all_goals simp [hw]

@[simp] theorem State.sendList_wf (s : State) (p : PpFrame) (flags : Nat) (objs : List Box) (hs : s.Canonical) :
    Memory.wf (s.sendList p flags objs).mem = true := by
  simp [State.sendList, hs.wf]

@[simp] theorem State.publishList_wf (s : State) (p : PpFrame) (objs : List Box) (incomplete truncated : Bool)
    (bad : Nat) (hs : s.Canonical) : Memory.wf (s.publishList p objs incomplete truncated bad).mem = true := by
  have hw := hs.wf
  unfold State.publishList
  dsimp only
  split <;> simp [hw]

@[simp] theorem execSuppressionStart_next (s : State) : NextCanonical s (execSuppressionStart s) := by
  refine nextCanonical_of fun hs => ?_
  have hw := hs.wf
  dsimp only
  repeat' split
  all_goals simp [hw]

@[simp] theorem execSuppressionDone_next (s : State) : NextCanonical s (execSuppressionDone s) := by
  refine nextCanonical_of fun hs => ?_
  have hw := hs.wf
  split <;> simp [hw]

@[simp] theorem execObjectListDeadline_next (strm : Fin 96) (s : State) : NextCanonical s
    (execObjectListDeadline strm s) := by
  refine nextCanonical_of fun hs => ?_
  have hw := hs.wf
  split <;> simp [hw]

@[simp] theorem execTimedLaunch_next (port : LaunchPort) (busFree : Bool) (s : State) : NextCanonical s
    (execTimedLaunch port busFree s) := by
  refine nextCanonical_of fun hs => ?_
  have hw := hs.wf
  dsimp only
  repeat' split
  all_goals simp [hw]

/-! ## The tensor operations -/

@[simp] theorem State.topWakes_mem (s : State) (w : Who) (t : TopOp) : (s.topWakes w t).mem = s.mem := by
  simp [State.topWakes]

@[simp] theorem State.putAll_wf (s : State) (w : Who) (l : List (Nat × List Byte)) (hs : s.Canonical) :
    Memory.wf (s.putAll w l).2.mem = true := by
  refine foldl_keeps (fun r : Option (Nat × Nat) × State => r.2.Canonical) _ (fun r x hr => ?_) _ _ hs
  split
  · exact hr
  · exact State.putBy_wf _ _ _ _ hr

@[simp] theorem State.runTop_wf (s : State) (w : Who) (e : Nat) (o : TensorOp) (hs : s.Canonical) :
    Memory.wf (s.runTop w e o).2.mem = true := by
  have hw := hs.wf
  unfold State.runTop
  dsimp only
  repeat' split
  all_goals simp [hw]

/-! ## How a thread or a Keeper core executes an instruction -/

@[simp] theorem State.excCount_mem (s : State) (e code eaddr : Nat) : (s.excCount e code eaddr).mem = s.mem := by
  simp [State.excCount]

@[simp] theorem State.exc_mem (s : State) (h : Hart) (code eaddr : Nat) (mask : Nat) : (s.exc h code eaddr mask).mem =
    s.mem := by
  unfold State.exc
  dsimp only
  repeat' split
  all_goals simp

/-- The state that an execution leaves, where it leaves one, has canonical memory. -/
def Ran.Canonical (r : Ran) : Prop :=
  match r with
  | .next t _ => t.Canonical
  | .jump t _ => t.Canonical
  | .raise t _ _ => t.Canonical
  | .report t _ => t.Canonical
  | .leave t => t.Canonical
  | .stall _ => True

@[simp] theorem Ran.canonical_next (t : State) (c : Ctx) : (Ran.next t c).Canonical ↔ t.Canonical := Iff.rfl
@[simp] theorem Ran.canonical_jump (t : State) (c : Ctx) : (Ran.jump t c).Canonical ↔ t.Canonical := Iff.rfl
@[simp] theorem Ran.canonical_raise (t : State) (c a : Nat) : (Ran.raise t c a).Canonical ↔ t.Canonical := Iff.rfl
@[simp] theorem Ran.canonical_report (t : State) (m : Nat) : (Ran.report t m).Canonical ↔ t.Canonical := Iff.rfl
@[simp] theorem Ran.canonical_leave (t : State) : (Ran.leave t).Canonical ↔ t.Canonical := Iff.rfl
@[simp] theorem Ran.canonical_stall (w : Option Nat) : (Ran.stall w).Canonical := trivial

@[simp] theorem Ran.canonical_ite (c : Prop) [Decidable c] (a b : Ran) :
    (if c then a else b).Canonical ↔ (c → a.Canonical) ∧ (¬ c → b.Canonical) := by split <;> simp [*]

@[simp] theorem State.execute_wf (s : State) (h : Hart) (pipe : Pipe) (len : Nat) (k : State → Ctx → Ran)
    (hk : ∀ (t : State) c, t.Canonical → (k t c).Canonical) (hs : s.Canonical) :
    Memory.wf (s.execute h pipe len k).mem = true := by
  have hw := hs.wf
  have hr := hk (s.issued h pipe) (s.ctx h) (by simp [hw])
  unfold State.execute
  split
  all_goals
    next e =>
      rw [e] at hr
      simp_all

@[simp] theorem State.instr_wf (s : State) (h : Hart) (pipe : Pipe) (k : State → Ctx → Ran) (len : Nat)
    (hk : ∀ (t : State) c, t.Canonical → (k t c).Canonical) (hs : s.Canonical) :
    Memory.wf (s.instr h pipe k len).mem = true := by
  unfold State.instr
  split
  · exact State.execute_wf s h pipe len k hk hs
  · exact hs

@[simp] theorem State.engineInstr_wf (s : State) (h : Hart) (i : Instr) (pipe : Pipe) (k : State → Ctx → Ran)
    (hk : ∀ (t : State) c, t.Canonical → (k t c).Canonical) (hs : s.Canonical) :
    Memory.wf (s.engineInstr h i pipe k).mem = true := by
  refine State.instr_wf s h pipe _ 4 (fun t c ht => ?_) hs
  split
  · exact hk t c ht
  · exact ht

@[simp] theorem State.keeperInstr_wf (s : State) (h : Hart) (i : Instr) (k : State → Ctx → Ran)
    (hk : ∀ (t : State) c, t.Canonical → (k t c).Canonical) (hs : s.Canonical) :
    Memory.wf (s.keeperInstr h i k).mem = true := by
  refine State.instr_wf s h .scalar _ 4 (fun t c ht => ?_) hs
  split
  · exact ht
  · exact hk t c ht

@[simp] theorem State.writeReg_wf (s : State) (h : Hart) (rd : Fin 32) (f : Ctx → Word) (len : Nat) (hs : s.Canonical)
    : Memory.wf (s.writeReg h rd f len).mem = true := State.instr_wf s h .scalar _ len (fun _ _ ht => ht) hs

@[simp] theorem State.slotWrite_mem (s : State) (g o : Nat) (bs : List Byte) : (s.slotWrite g o bs).mem = s.mem := by
  unfold State.slotWrite
  split <;> simp

@[simp] theorem State.loadFrom_mem (s : State) (h : Hart) (p : Place) (n : Nat) : (s.loadFrom h p n).2.mem = s.mem := by
  cases p with
  | cells pa m => cases h <;> simp [State.loadFrom]
  | _ => simp [State.loadFrom]

@[simp] theorem State.storeTo_wf (s : State) (h : Hart) (p : Place) (bs : List Byte) (hs : s.Canonical) :
    Memory.wf (s.storeTo h p bs).mem = true := by
  have hw := hs.wf
  unfold State.storeTo
  dsimp only
  repeat' split
  all_goals simp [hw]

@[simp] theorem State.accessPerf_mem (s : State) (h : Hart) (write : Bool) (a n : Nat) :
    (s.accessPerf h write a n).mem = s.mem := by
  unfold State.accessPerf
  dsimp only
  repeat' split
  all_goals simp

@[simp] theorem State.loadThen_wf (s : State) (h : Hart) (a n : Nat) (ecc : Ecc) (k : State → Nat → Ran)
    (hk : ∀ (t : State) v, t.Canonical → (k t v).Canonical) (hs : s.Canonical) : (s.loadThen h a n ecc k).Canonical := by
  have hw := hs.wf
  unfold State.loadThen
  extract_lets t
  have ht : t.Canonical := by
    unfold t
    split
    · split <;> simp [hw]
    · exact hs
  split
  · exact ht
  · trivial
  · exact hk _ _ (by simpa using ht)

@[simp] theorem State.storeThen_wf (s : State) (h : Hart) (c : Ctx) (a : Nat) (bs : List Byte) (agree : Bool)
    (hs : s.Canonical) :
    (s.storeThen h c a bs agree).Canonical := by
  have hw := hs.wf
  unfold State.storeThen
  split
  · exact hs
  · trivial
  · split <;> simp [hw]

/-! ## The safety mechanisms' own steps -/

@[simp] theorem execKeeperLockstepMismatch_next (pair : Fin 2) (s : State) : NextCanonical s
    (execKeeperLockstepMismatch pair s) := nextCanonical_of fun hs => by simp [hs.wf]

@[simp] theorem execAliveResponse_next (pair : Fin 2) (v : BitVec 16) (s : State) : NextCanonical s
    (execAliveResponse pair v s) := nextCanonical_of fun hs => by simp [hs.wf]

@[simp] theorem execAliveCheck_next (s : State) : NextCanonical s (execAliveCheck s) := nextCanonical_of fun hs => by
    simp [hs.wf]

@[simp] theorem execSafeErrToggle_next (s : State) : NextCanonical s (execSafeErrToggle s) := nextCanonical_of fun hs
    => by simp [hs.wf]

@[simp] theorem execHandoverAck_next (pair : Fin 2) (s : State) : NextCanonical s (execHandoverAck pair s) :=
    nextCanonical_of fun hs => by simp [hs.wf]

@[simp] theorem execKeeperSplitCommit_next (s : State) : NextCanonical s (execKeeperSplitCommit s) := nextCanonical_of
    fun hs => by simp [hs.wf]

@[simp] theorem execKeeperSplitTimeout_next (s : State) : NextCanonical s (execKeeperSplitTimeout s) :=
    nextCanonical_of fun hs => by simp [hs.wf]

@[simp] theorem execKeeperRejoinAckTimeout_next (s : State) : NextCanonical s (execKeeperRejoinAckTimeout s) :=
    nextCanonical_of fun hs => by simp [hs.wf]

@[simp] theorem State.failTransfers_mem (s : State) (code : Nat) : (s.failTransfers code).mem = s.mem := by
  simp [State.failTransfers]

@[simp] theorem State.safeCommit_wf (s : State) (hs : s.Canonical) : Memory.wf s.safeCommit.mem = true := by
  have hw := hs.wf
  unfold State.safeCommit
  split <;> simp [hw]

@[simp] theorem execTwinPeriodicCompare_next (pair : Fin 24) (ctx : Fin 64) (agree : Bool) (s : State) : NextCanonical
    s (execTwinPeriodicCompare pair ctx agree s) := by
  refine nextCanonical_of fun hs => ?_
  have hw := hs.wf
  dsimp only
  split <;> simp [hw]

@[simp] theorem execPostMismatchLbistDone_next (pair : Fin 24) (passEven passOdd : Bool) (s : State) : NextCanonical s
    (execPostMismatchLbistDone pair passEven passOdd s) := by
  refine nextCanonical_of fun hs => ?_
  have hw := hs.wf
  dsimp only
  split <;> simp [hw]

@[simp] theorem execLbistWithdraw_next (e : Fin 48) (s : State) : NextCanonical s (execLbistWithdraw e s) :=
    nextCanonical_of fun hs => by simp [hs.wf]

@[simp] theorem State.slotEnd_mem (s : State) (e : Nat) : (s.slotEnd e).mem = s.mem := by
  simp [State.slotEnd]

@[simp] theorem State.slotSkip_mem (s : State) (e : Nat) : (s.slotSkip e).mem = s.mem := by
  simp [State.slotSkip]

@[simp] theorem execLbistSlotStart_next (e : Fin 48) (s : State) : NextCanonical s (execLbistSlotStart e s) :=
    nextCanonical_of fun hs => by simp [hs.wf]

@[simp] theorem execLbistSkip_next (e : Fin 48) (s : State) : NextCanonical s (execLbistSkip e s) := nextCanonical_of
    fun hs => by simp [hs.wf]

@[simp] theorem State.lbistOutcome_mem (s : State) (e : Nat) (pass : Bool) (cause : Nat) :
    (s.lbistOutcome e pass cause).mem = s.mem := by
  simp [State.lbistOutcome]

@[simp] theorem execLbistTestDone_next (e : Fin 48) (pass : Bool) (s : State) : NextCanonical s
    (execLbistTestDone e pass s) := by
  refine nextCanonical_of fun hs => ?_
  have hw := hs.wf
  split
  · simp [hw]
  · split <;> simp [hw]

@[simp] theorem execStoreRoomScrub_next (e : Fin 48) (errs : List ScrubError) (s : State) : NextCanonical s
    (execStoreRoomScrub e errs s) := nextCanonical_of fun hs => by simp [hs.wf]

@[simp] theorem execCellarScrub_next (errs : List ScrubError) (s : State) :
    NextCanonical s (execCellarScrub errs s) := nextCanonical_of fun hs => by simp [hs.wf]

@[simp] theorem execClockMonitorFault_next (clk : MonClock) (lockLost : Bool) (s : State) : NextCanonical s
    (execClockMonitorFault clk lockLost s) := nextCanonical_of fun hs => by simp [hs.wf]

@[simp] theorem execPllLockRegained_next (clk : MonClock) (s : State) : NextCanonical s (execPllLockRegained clk s) :=
    nextCanonical_of fun hs => by simp [hs.wf]

@[simp] theorem State.railMark_mem (s : State) (r : Nat) (out : Bool) (mv : Nat) :
    (s.railMark r out mv).mem = s.mem := by
  simp [State.railMark]

@[simp] theorem execRailFault_next (rail : Fin 8) (high : Bool) (mv : BitVec 16) (s : State) : NextCanonical s
    (execRailFault rail high mv s) := nextCanonical_of fun hs => by simp [hs.wf]

@[simp] theorem execRailReturnToRange_next (rail : Fin 8) (mv : BitVec 16) (s : State) : NextCanonical s
    (execRailReturnToRange rail mv s) := nextCanonical_of fun hs => by simp [hs.wf]

/-! ## The accesses that a halt of Keeper B has held, served once it runs again -/

@[simp] theorem State.after_wf (s : State) (o : Out) (ho : NextCanonical s o) (hs : s.Canonical) :
    Memory.wf (s.after o).mem = true := by
  obtain ⟨t, rfl, h⟩ := ho
  exact h hs

@[simp] theorem State.runHeld_wf (s : State) (i : Held) (hs : s.Canonical) : Memory.wf (s.runHeld i).mem = true := by
  have hw := hs.wf
  unfold State.runHeld
  split <;> simp [hw]

@[simp] theorem State.settleHeld_wf (s : State) (hs : s.Canonical) : Memory.wf s.settleHeld.mem = true := by
  unfold State.settleHeld
  split
  · exact hs
  · exact State.serveLink_wf _ (foldl_wf _ (fun t i ht => State.runHeld_wf t i ht) _ _ (State.serveWaiting_wf _ hs))

@[simp] theorem execSafeCommit_next (s : State) : NextCanonical s (execSafeCommit s) := nextCanonical_of fun hs => by
    simp [hs.wf]

/-! ## The scalar instructions -/

@[simp] theorem State.rrr_wf (s : State) (h : Hart) (rd rs1 rs2 : Fin 32) (w : Bool) (f64 : Word → Word → Word)
    (f32 : Half → Half → Half) (hs : s.Canonical) : Memory.wf (s.rrr h rd rs1 rs2 w f64 f32).mem = true := by
  simp [State.rrr, hs.wf]

@[simp] theorem State.countOp_wf (s : State) (h : Hart) (rd rs1 : Fin 32) (w : Bool) (f : Nat → Nat → Nat)
    (hs : s.Canonical) : Memory.wf (s.countOp h rd rs1 w f).mem = true := by
  simp [State.countOp, hs.wf]

@[simp] theorem State.rri_wf (s : State) (h : Hart) (rd rs1 : Fin 32) (f : Word → Word) (hs : s.Canonical) :
    Memory.wf (s.rri h rd rs1 f).mem = true := by
  simp [State.rri, hs.wf]

@[simp] theorem State.branch_wf (s : State) (h : Hart) (rs1 rs2 : Fin 32) (off : BitVec 15) (p : Word → Word → Bool)
    (hs : s.Canonical) : Memory.wf (s.branch h rs1 rs2 off p).mem = true := by
  refine State.instr_wf s h .scalar _ 4 (fun t c ht => ?_) hs
  split <;> exact ht

@[simp] theorem execAdd_next (h : Hart) (rd rs1 rs2 : Fin 32) (w : Bool) (s : State) : NextCanonical s
    (execAdd h rd rs1 rs2 w s) := nextCanonical_of fun hs => by simp [hs.wf]

@[simp] theorem execSub_next (h : Hart) (rd rs1 rs2 : Fin 32) (w : Bool) (s : State) : NextCanonical s
    (execSub h rd rs1 rs2 w s) := nextCanonical_of fun hs => by simp [hs.wf]

@[simp] theorem execAndR_next (h : Hart) (rd rs1 rs2 : Fin 32) (w : Bool) (s : State) : NextCanonical s
    (execAndR h rd rs1 rs2 w s) := nextCanonical_of fun hs => by simp [hs.wf]

@[simp] theorem execOrR_next (h : Hart) (rd rs1 rs2 : Fin 32) (w : Bool) (s : State) : NextCanonical s
    (execOrR h rd rs1 rs2 w s) := nextCanonical_of fun hs => by simp [hs.wf]

@[simp] theorem execXor_next (h : Hart) (rd rs1 rs2 : Fin 32) (w : Bool) (s : State) : NextCanonical s
    (execXor h rd rs1 rs2 w s) := nextCanonical_of fun hs => by simp [hs.wf]

@[simp] theorem execSll_next (h : Hart) (rd rs1 rs2 : Fin 32) (w : Bool) (s : State) : NextCanonical s
    (execSll h rd rs1 rs2 w s) := nextCanonical_of fun hs => by simp [hs.wf]

@[simp] theorem execSrl_next (h : Hart) (rd rs1 rs2 : Fin 32) (w : Bool) (s : State) : NextCanonical s
    (execSrl h rd rs1 rs2 w s) := nextCanonical_of fun hs => by simp [hs.wf]

@[simp] theorem execSra_next (h : Hart) (rd rs1 rs2 : Fin 32) (w : Bool) (s : State) : NextCanonical s
    (execSra h rd rs1 rs2 w s) := nextCanonical_of fun hs => by simp [hs.wf]

@[simp] theorem execSlt_next (h : Hart) (rd rs1 rs2 : Fin 32) (w : Bool) (s : State) : NextCanonical s
    (execSlt h rd rs1 rs2 w s) := nextCanonical_of fun hs => by simp [hs.wf]

@[simp] theorem execSltu_next (h : Hart) (rd rs1 rs2 : Fin 32) (w : Bool) (s : State) : NextCanonical s
    (execSltu h rd rs1 rs2 w s) := nextCanonical_of fun hs => by simp [hs.wf]

@[simp] theorem execMinR_next (h : Hart) (rd rs1 rs2 : Fin 32) (w : Bool) (s : State) : NextCanonical s
    (execMinR h rd rs1 rs2 w s) := nextCanonical_of fun hs => by simp [hs.wf]

@[simp] theorem execMaxR_next (h : Hart) (rd rs1 rs2 : Fin 32) (w : Bool) (s : State) : NextCanonical s
    (execMaxR h rd rs1 rs2 w s) := nextCanonical_of fun hs => by simp [hs.wf]

@[simp] theorem execMinu_next (h : Hart) (rd rs1 rs2 : Fin 32) (w : Bool) (s : State) : NextCanonical s
    (execMinu h rd rs1 rs2 w s) := nextCanonical_of fun hs => by simp [hs.wf]

@[simp] theorem execMaxu_next (h : Hart) (rd rs1 rs2 : Fin 32) (w : Bool) (s : State) : NextCanonical s
    (execMaxu h rd rs1 rs2 w s) := nextCanonical_of fun hs => by simp [hs.wf]

@[simp] theorem execMul_next (h : Hart) (rd rs1 rs2 : Fin 32) (w : Bool) (s : State) : NextCanonical s
    (execMul h rd rs1 rs2 w s) := nextCanonical_of fun hs => by simp [hs.wf]

@[simp] theorem execMulh_next (h : Hart) (rd rs1 rs2 : Fin 32) (s : State) :
    NextCanonical s (execMulh h rd rs1 rs2 s) := nextCanonical_of fun hs => by simp [hs.wf]

@[simp] theorem execMulhu_next (h : Hart) (rd rs1 rs2 : Fin 32) (s : State) : NextCanonical s
    (execMulhu h rd rs1 rs2 s) := nextCanonical_of fun hs => by simp [hs.wf]

@[simp] theorem execDiv_next (h : Hart) (rd rs1 rs2 : Fin 32) (w : Bool) (s : State) : NextCanonical s
    (execDiv h rd rs1 rs2 w s) := nextCanonical_of fun hs => by simp [hs.wf]

@[simp] theorem execDivu_next (h : Hart) (rd rs1 rs2 : Fin 32) (w : Bool) (s : State) : NextCanonical s
    (execDivu h rd rs1 rs2 w s) := nextCanonical_of fun hs => by simp [hs.wf]

@[simp] theorem execRem_next (h : Hart) (rd rs1 rs2 : Fin 32) (w : Bool) (s : State) : NextCanonical s
    (execRem h rd rs1 rs2 w s) := nextCanonical_of fun hs => by simp [hs.wf]

@[simp] theorem execRemu_next (h : Hart) (rd rs1 rs2 : Fin 32) (w : Bool) (s : State) : NextCanonical s
    (execRemu h rd rs1 rs2 w s) := nextCanonical_of fun hs => by simp [hs.wf]

@[simp] theorem execClz_next (h : Hart) (rd rs1 : Fin 32) (w : Bool) (s : State) : NextCanonical s
    (execClz h rd rs1 w s) := nextCanonical_of fun hs => by simp [hs.wf]

@[simp] theorem execCtz_next (h : Hart) (rd rs1 : Fin 32) (w : Bool) (s : State) : NextCanonical s
    (execCtz h rd rs1 w s) := nextCanonical_of fun hs => by simp [hs.wf]

@[simp] theorem execPopc_next (h : Hart) (rd rs1 : Fin 32) (w : Bool) (s : State) : NextCanonical s
    (execPopc h rd rs1 w s) := nextCanonical_of fun hs => by simp [hs.wf]

@[simp] theorem execAddi_next (h : Hart) (rd rs1 : Fin 32) (imm : BitVec 14) (s : State) : NextCanonical s
    (execAddi h rd rs1 imm s) := nextCanonical_of fun hs => by simp [hs.wf]

@[simp] theorem execAndi_next (h : Hart) (rd rs1 : Fin 32) (imm : BitVec 14) (s : State) : NextCanonical s
    (execAndi h rd rs1 imm s) := nextCanonical_of fun hs => by simp [hs.wf]

@[simp] theorem execOri_next (h : Hart) (rd rs1 : Fin 32) (imm : BitVec 14) (s : State) : NextCanonical s
    (execOri h rd rs1 imm s) := nextCanonical_of fun hs => by simp [hs.wf]

@[simp] theorem execXori_next (h : Hart) (rd rs1 : Fin 32) (imm : BitVec 14) (s : State) : NextCanonical s
    (execXori h rd rs1 imm s) := nextCanonical_of fun hs => by simp [hs.wf]

@[simp] theorem execSlli_next (h : Hart) (rd rs1 : Fin 32) (sh : BitVec 6) (s : State) : NextCanonical s
    (execSlli h rd rs1 sh s) := nextCanonical_of fun hs => by simp [hs.wf]

@[simp] theorem execSrli_next (h : Hart) (rd rs1 : Fin 32) (sh : BitVec 6) (s : State) : NextCanonical s
    (execSrli h rd rs1 sh s) := nextCanonical_of fun hs => by simp [hs.wf]

@[simp] theorem execSrai_next (h : Hart) (rd rs1 : Fin 32) (sh : BitVec 6) (s : State) : NextCanonical s
    (execSrai h rd rs1 sh s) := nextCanonical_of fun hs => by simp [hs.wf]

@[simp] theorem execSlti_next (h : Hart) (rd rs1 : Fin 32) (imm : BitVec 14) (s : State) : NextCanonical s
    (execSlti h rd rs1 imm s) := nextCanonical_of fun hs => by simp [hs.wf]

@[simp] theorem execSltiu_next (h : Hart) (rd rs1 : Fin 32) (imm : BitVec 14) (s : State) : NextCanonical s
    (execSltiu h rd rs1 imm s) := nextCanonical_of fun hs => by simp [hs.wf]

@[simp] theorem execAddiw_next (h : Hart) (rd rs1 : Fin 32) (imm : BitVec 14) (s : State) : NextCanonical s
    (execAddiw h rd rs1 imm s) := nextCanonical_of fun hs => by simp [hs.wf]

@[simp] theorem execLi_next (h : Hart) (rd : Fin 32) (imm : BitVec 32) (s : State) : NextCanonical s
    (execLi h rd imm s) := nextCanonical_of fun hs => by simp [hs.wf]

@[simp] theorem execLih_next (h : Hart) (rd : Fin 32) (imm : BitVec 32) (s : State) : NextCanonical s
    (execLih h rd imm s) := nextCanonical_of fun hs => by simp [hs.wf]

@[simp] theorem execLpc_next (h : Hart) (rd : Fin 32) (imm : BitVec 32) (s : State) : NextCanonical s
    (execLpc h rd imm s) := nextCanonical_of fun hs => by simp [hs.wf]

@[simp] theorem execBeq_next (h : Hart) (rs1 rs2 : Fin 32) (off : BitVec 15) (s : State) : NextCanonical s
    (execBeq h rs1 rs2 off s) := nextCanonical_of fun hs => by simp [hs.wf]

@[simp] theorem execBne_next (h : Hart) (rs1 rs2 : Fin 32) (off : BitVec 15) (s : State) : NextCanonical s
    (execBne h rs1 rs2 off s) := nextCanonical_of fun hs => by simp [hs.wf]

@[simp] theorem execBlt_next (h : Hart) (rs1 rs2 : Fin 32) (off : BitVec 15) (s : State) : NextCanonical s
    (execBlt h rs1 rs2 off s) := nextCanonical_of fun hs => by simp [hs.wf]

@[simp] theorem execBge_next (h : Hart) (rs1 rs2 : Fin 32) (off : BitVec 15) (s : State) : NextCanonical s
    (execBge h rs1 rs2 off s) := nextCanonical_of fun hs => by simp [hs.wf]

@[simp] theorem execBltu_next (h : Hart) (rs1 rs2 : Fin 32) (off : BitVec 15) (s : State) : NextCanonical s
    (execBltu h rs1 rs2 off s) := nextCanonical_of fun hs => by simp [hs.wf]

@[simp] theorem execBgeu_next (h : Hart) (rs1 rs2 : Fin 32) (off : BitVec 15) (s : State) : NextCanonical s
    (execBgeu h rs1 rs2 off s) := nextCanonical_of fun hs => by simp [hs.wf]

@[simp] theorem execJ_next (h : Hart) (off : BitVec 26) (s : State) : NextCanonical s (execJ h off s) :=
    nextCanonical_of fun hs => by simp [hs.wf]

@[simp] theorem execJal_next (h : Hart) (off : BitVec 26) (s : State) : NextCanonical s (execJal h off s) :=
    nextCanonical_of fun hs => by simp [hs.wf]

@[simp] theorem execJr_next (h : Hart) (rd rs1 : Fin 32) (s : State) : NextCanonical s (execJr h rd rs1 s) :=
    nextCanonical_of fun hs => by simp [hs.wf]

/-! ## Scalar loads and stores, atomics, and the synchronisation instructions -/

@[simp] theorem execLoad_next (h : Hart) (size : Fin 4) (sext : Bool) (rd rs1 : Fin 32) (imm : BitVec 14) (ecc : Ecc)
    (s : State) : NextCanonical s (execLoad h size sext rd rs1 imm ecc s) := nextCanonical_of fun hs => State.instr_wf
    _ _ _ _ _ (fun t _ ht => by simp [ht.wf]) hs

@[simp] theorem execStore_next (h : Hart) (size : Fin 4) (rs2 rs1 : Fin 32) (imm : BitVec 14) (agree : Bool)
    (s : State) : NextCanonical s (execStore h size rs2 rs1 imm agree s) := nextCanonical_of fun hs => State.instr_wf
    _ _ _ _ _ (fun t _ ht => by simp [ht.wf]) hs

@[simp] theorem State.atomic_wf (s : State) (h : Hart) (dbl : Bool) (rs1 : Fin 32) (reads writes : Bool)
    (f : Ctx → Nat → Option Nat) (g : Ctx → Nat → Ctx) (hs : s.Canonical) :
    Memory.wf (s.atomic h dbl rs1 reads writes f g).mem = true := by
  refine State.instr_wf s h .memory _ 4 (fun t c ht => ?_) hs
  have hw := ht.wf
  dsimp only
  split
  · exact ht
  · split
    · exact ht
    · split
      · exact ht
      · trivial
      · split
        · exact ht
        · split
          · split <;> simp [hw]
          · split <;> simp [hw]

@[simp] theorem State.amo_wf (s : State) (h : Hart) (dbl : Bool) (rd rs1 rs2 : Fin 32) (f64 : Word → Word → Word)
    (f32 : Half → Half → Half) (hs : s.Canonical) : Memory.wf (s.amo h dbl rd rs1 rs2 f64 f32).mem = true := by
  simp [State.amo, hs.wf]

@[simp] theorem execSwap_next (h : Hart) (dbl : Bool) (o : Order) (sc : Scope) (rd rs1 rs2 : Fin 32) (s : State) :
    NextCanonical s (execSwap h dbl o sc rd rs1 rs2 s) := nextCanonical_of fun hs => by simp [hs.wf]

@[simp] theorem execAmoAdd_next (h : Hart) (dbl : Bool) (o : Order) (sc : Scope) (rd rs1 rs2 : Fin 32) (s : State) :
    NextCanonical s (execAmoAdd h dbl o sc rd rs1 rs2 s) := nextCanonical_of fun hs => by simp [hs.wf]

@[simp] theorem execAmoAnd_next (h : Hart) (dbl : Bool) (o : Order) (sc : Scope) (rd rs1 rs2 : Fin 32) (s : State) :
    NextCanonical s (execAmoAnd h dbl o sc rd rs1 rs2 s) := nextCanonical_of fun hs => by simp [hs.wf]

@[simp] theorem execAmoOr_next (h : Hart) (dbl : Bool) (o : Order) (sc : Scope) (rd rs1 rs2 : Fin 32) (s : State) :
    NextCanonical s (execAmoOr h dbl o sc rd rs1 rs2 s) := nextCanonical_of fun hs => by simp [hs.wf]

@[simp] theorem execAmoXor_next (h : Hart) (dbl : Bool) (o : Order) (sc : Scope) (rd rs1 rs2 : Fin 32) (s : State) :
    NextCanonical s (execAmoXor h dbl o sc rd rs1 rs2 s) := nextCanonical_of fun hs => by simp [hs.wf]

@[simp] theorem execAmoMin_next (h : Hart) (dbl : Bool) (o : Order) (sc : Scope) (rd rs1 rs2 : Fin 32) (s : State) :
    NextCanonical s (execAmoMin h dbl o sc rd rs1 rs2 s) := nextCanonical_of fun hs => by simp [hs.wf]

@[simp] theorem execAmoMax_next (h : Hart) (dbl : Bool) (o : Order) (sc : Scope) (rd rs1 rs2 : Fin 32) (s : State) :
    NextCanonical s (execAmoMax h dbl o sc rd rs1 rs2 s) := nextCanonical_of fun hs => by simp [hs.wf]

@[simp] theorem execAmoMinu_next (h : Hart) (dbl : Bool) (o : Order) (sc : Scope) (rd rs1 rs2 : Fin 32) (s : State) :
    NextCanonical s (execAmoMinu h dbl o sc rd rs1 rs2 s) := nextCanonical_of fun hs => by simp [hs.wf]

@[simp] theorem execAmoMaxu_next (h : Hart) (dbl : Bool) (o : Order) (sc : Scope) (rd rs1 rs2 : Fin 32) (s : State) :
    NextCanonical s (execAmoMaxu h dbl o sc rd rs1 rs2 s) := nextCanonical_of fun hs => by simp [hs.wf]

@[simp] theorem execCas_next (h : Hart) (dbl : Bool) (o : Order) (sc : Scope) (rd rs1 rs2 : Fin 32) (s : State) :
    NextCanonical s (execCas h dbl o sc rd rs1 rs2 s) := nextCanonical_of fun hs => by simp [hs.wf]

@[simp] theorem execLda_next (h : Hart) (dbl : Bool) (o : Order) (sc : Scope) (rd rs1 : Fin 32) (s : State) :
    NextCanonical s (execLda h dbl o sc rd rs1 s) := nextCanonical_of fun hs => by simp [hs.wf]

@[simp] theorem execSta_next (h : Hart) (dbl : Bool) (o : Order) (sc : Scope) (rs1 rs2 : Fin 32) (s : State) :
    NextCanonical s (execSta h dbl o sc rs1 rs2 s) := nextCanonical_of fun hs => by simp [hs.wf]

@[simp] theorem execFence_next (h : Hart) (sc : Scope) (s : State) : NextCanonical s (execFence h sc s) := by
  refine nextCanonical_of fun hs => ?_
  have hw := hs.wf
  split <;> simp [hw]

@[simp] theorem execFenceI_next (h : Hart) (s : State) : NextCanonical s (execFenceI h s) := nextCanonical_of fun hs
    => by simp [hs.wf]

@[simp] theorem execWaitt_next (h : Hart) (mask : Byte) (s : State) : NextCanonical s (execWaitt h mask s) :=
    nextCanonical_of fun hs => State.engineInstr_wf _ _ _ _ _ (fun t _ ht => by simp [ht.wf]) hs

@[simp] theorem State.arrive_mem (s : State) (g id count : Nat) (c : Ctx) : (s.arrive g id count c).mem = s.mem := by
  simp [State.arrive]

@[simp] theorem execBar_next (h : Hart) (id : Fin 16) (count1 : BitVec 7) (s : State) : NextCanonical s
    (execBar h id count1 s) := by
  refine nextCanonical_of fun hs => State.engineInstr_wf _ _ _ _ _ (fun t c ht => ?_) hs
  have hw := ht.wf
  dsimp only
  repeat' split
  all_goals simp [hw]

@[simp] theorem execYield_next (h : Hart) (s : State) : NextCanonical s (execYield h s) := nextCanonical_of fun hs =>
    by simp [hs.wf]

/-! ## The system instructions, thread state words, exceptions that a fetch or a word raises, halts, and the fixed-function
units as threads use them -/

@[simp] theorem State.haltEngine_mem (s : State) (e : Nat) : (s.haltEngine e).mem = s.mem := by
  simp [State.haltEngine]

@[simp] theorem State.haltCore_mem (s : State) (c : Nat) : (s.haltCore c).mem = s.mem := by
  simp [State.haltCore]

@[simp] theorem execTsr_next (h : Hart) (rd : Fin 32) (n : BitVec 14) (s : State) :
    NextCanonical s (execTsr h rd n s) := by
  refine nextCanonical_of fun hs => State.instr_wf _ _ _ _ _ (fun t c ht => ?_) hs
  have hw := ht.wf
  split <;> simp [hw]

@[simp] theorem execTsw_next (h : Hart) (rs1 : Fin 32) (n : BitVec 14) (s : State) : NextCanonical s
    (execTsw h rs1 n s) := by
  refine nextCanonical_of fun hs => State.instr_wf _ _ _ _ _ (fun t c ht => ?_) hs
  have hw := ht.wf
  split <;> simp [hw]

@[simp] theorem execTrap_next (h : Hart) (imm : BitVec 14) (s : State) : NextCanonical s (execTrap h imm s) :=
    nextCanonical_of fun hs => by simp [hs.wf]

@[simp] theorem execBrk_next (h : Hart) (s : State) : NextCanonical s (execBrk h s) := by
  refine nextCanonical_of fun hs => State.instr_wf _ _ _ _ _ (fun t c ht => ?_) hs
  have hw := ht.wf
  dsimp only
  repeat' split
  all_goals simp [hw]

@[simp] theorem execWfe_next (h : Hart) (s : State) : NextCanonical s (execWfe h s) := nextCanonical_of fun hs => by
    simp [hs.wf]

@[simp] theorem execWfeWake_next (c : Fin 4) (s : State) : NextCanonical s (execWfeWake c s) := nextCanonical_of fun
    hs => by simp [hs.wf]

@[simp] theorem execEret_next (h : Hart) (s : State) : NextCanonical s (execEret h s) := nextCanonical_of fun hs =>
    State.keeperInstr_wf _ _ _ _ (fun t _ ht => by simp [ht.wf]) hs

@[simp] theorem State.pairExc_wf (s : State) (h : Hart) (code eaddr : Nat) (agree : Bool) (hs : s.Canonical) :
    (s.pairExc h code eaddr agree).Canonical := by
  have hw := hs.wf
  simp [State.pairExc, hw]

@[simp] theorem execIllegalInstruction_next (h : Hart) (met : MetWord) (s : State) : NextCanonical s
    (execIllegalInstruction h met s) := by
  refine nextCanonical_of fun hs => ?_
  split
  · exact hs
  · exact State.instr_wf s h .scalar _ 4 (fun t _ ht => State.pairExc_wf t h _ _ _ ht) hs

@[simp] theorem execInstructionFetchFault_next (h : Hart) (kind : Fin 8) (met : MetFault) (s : State) : NextCanonical
    s (execInstructionFetchFault h kind met s) := by
  unfold execInstructionFetchFault
  extract_lets a
  refine nextCanonical_of fun hs => ?_
  split
  · split
    · next t e =>
      have ht := State.pairExc_wf s h (0x10 + kind.val) a met.agree hs
      rw [e] at ht
      exact ht
    · simp [hs.wf]
  · exact hs

@[simp] theorem State.triggerStore_wf (s : State) (h : Hart) (u : Nat) (desc : Word) (hs : s.Canonical) :
    Memory.wf (s.triggerStore h u desc).mem = true := State.instr_wf s h .memory _ 4
    (fun t c ht => State.storeThen_wf t h c _ _ _ ht) hs

@[simp] theorem execRecurrenceSlotStep_next (h : Hart) (desc : Word) (s : State) : NextCanonical s
    (execRecurrenceSlotStep h desc s) := nextCanonical_of fun hs => by simp [hs.wf]

@[simp] theorem execRecurrenceBatchStep_next (h : Hart) (desc : Word) (s : State) : NextCanonical s
    (execRecurrenceBatchStep h desc s) := nextCanonical_of fun hs => by simp [hs.wf]

@[simp] theorem execRecurrenceStepDone_next (s : State) : NextCanonical s (execRecurrenceStepDone s) :=
    nextCanonical_of fun hs => by simp [hs.wf]

@[simp] theorem execSamplingFilter_next (h : Hart) (desc : Word) (s : State) : NextCanonical s
    (execSamplingFilter h desc s) := nextCanonical_of fun hs => by simp [hs.wf]

@[simp] theorem execSamplingGumbelMax_next (h : Hart) (desc : Word) (s : State) : NextCanonical s
    (execSamplingGumbelMax h desc s) := nextCanonical_of fun hs => by simp [hs.wf]

@[simp] theorem execSamplingDone_next (s : State) : NextCanonical s (execSamplingDone s) := nextCanonical_of fun hs =>
    by simp [hs.wf]

@[simp] theorem execMix4Load_next (h : Hart) (rd : Fin 32) (size : Fin 4) (off : Fin 16) (s : State) : NextCanonical s
    (execMix4Load h rd size off s) := nextCanonical_of fun hs => State.instr_wf _ _ _ _ _
    (fun t _ ht => by simp [ht.wf]) hs

@[simp] theorem execStateSlotStore_next (h : Hart) (slot : Fin 4096) (word : Fin 2) (v : Word) (s : State) :
    NextCanonical s (execStateSlotStore h slot word v s) := nextCanonical_of fun hs => State.instr_wf _ _ _ _ _
    (fun t _ ht => by simp [ht.wf]) hs

/-! ## The tensor and the queue instructions -/

@[simp] theorem State.issueTensor_wf (s : State) (g : Nat) (c : Ctx) (rd rs1 : Fin 32) (copy : Bool) (mode : Nat)
    (valid : List Byte → Bool) (hs : s.Canonical) : (s.issueTensor g c rd rs1 copy mode valid).Canonical := by
  have hw := hs.wf
  unfold State.issueTensor
  dsimp only
  split
  · exact hs
  · split
    · exact hs
    · split
      · exact hs
      · split <;> simp [hw]

@[simp] theorem execTop_next (h : Hart) (rd rs1 : Fin 32) (prec : Precision) (acc deq : Bool) (s : State) :
    NextCanonical s (execTop h rd rs1 prec acc deq s) := nextCanonical_of fun hs => State.engineInstr_wf _ _ _ _ _
    (fun t _ ht => by simp [ht.wf]) hs

@[simp] theorem execTmove_next (h : Hart) (rd rs1 : Fin 32) (s : State) : NextCanonical s (execTmove h rd rs1 s) :=
    nextCanonical_of fun hs => State.engineInstr_wf _ _ _ _ _ (fun t _ ht => by simp [ht.wf]) hs

theorem State.movePlace_mem {s : State} {h : Hart} {acc : Acs} {a : Nat} {bs : List Byte} {p : Place} {t : State}
    (e : s.movePlace h acc a bs = .inr (p, t)) : t.mem = s.mem := by
  unfold State.movePlace at e
  split at e
  · cases e
  · cases e; rfl
  · split at e
    · split at e
      · cases e
      · cases e; simp
    · cases e

@[simp] theorem State.copyWord_wf (s : State) (h : Hart) (src dst : Nat) (hs : s.Canonical) :
    Memory.wf (s.copyWord h src dst).2.mem = true := by
  unfold State.copyWord
  split
  · exact hs
  · next p t ht =>
    have h1 : t.Canonical := by simpa [State.movePlace_mem ht] using hs
    have h2 : (t.loadFrom h p 8).2.Canonical := by simpa using h1
    dsimp only
    split
    · exact h2
    · next q u hu =>
      exact State.storeTo_wf u h q _ (by simpa [State.movePlace_mem hu] using h2)

@[simp] theorem State.copyWords_wf (s : State) (h : Hart) (src dst n : Nat) (hs : s.Canonical) :
    Memory.wf (s.copyWords h src dst n).2.mem = true := by
  refine foldl_keeps (fun r : Option (Nat × Nat) × State => r.2.Canonical) _ (fun r k hr => ?_) _ _ hs
  split
  · exact hr
  · exact State.copyWord_wf _ _ _ _ hr

@[simp] theorem State.runMove_wf (s : State) (h : Hart) (d : List Byte) (hs : s.Canonical) :
    Memory.wf (s.runMove h d).2.mem = true := by
  refine foldl_keeps (fun r : Option (Nat × Nat) × State => r.2.Canonical) _ (fun r k hr => ?_) _ _ hs
  dsimp only
  split
  · exact hr
  · exact State.copyWords_wf _ _ _ _ _ hr

@[simp] theorem execTensorOpDone_next (g : Fin 3072) (token : Fin 8) (s : State) : NextCanonical s
    (execTensorOpDone g token s) := by
  refine nextCanonical_of fun hs => ?_
  have hw := hs.wf
  split <;> simp [hw]

@[simp] theorem State.badQueue_wf (s : State) (hs : s.Canonical) : s.badQueue.Canonical := by
  have hw := hs.wf
  simp [State.badQueue, hw]

@[simp] theorem execSubmit_next (h : Hart) (rd rs1 rs2 : Fin 32) (s : State) : NextCanonical s
    (execSubmit h rd rs1 rs2 s) := by
  refine nextCanonical_of fun hs => State.engineInstr_wf _ _ _ _ _ (fun t c ht => ?_) hs
  have hw := ht.wf
  dsimp only
  repeat' split
  all_goals simp [hw]

@[simp] theorem execCancel_next (h : Hart) (rd rs1 rs2 : Fin 32) (s : State) : NextCanonical s
    (execCancel h rd rs1 rs2 s) := nextCanonical_of fun hs => State.engineInstr_wf _ _ _ _ _
    (fun t _ ht => by simp [ht.wf]) hs

@[simp] theorem State.ctxEnded_mem (s : State) (g : Nat) : (s.ctxEnded g).mem = s.mem := by
  unfold State.ctxEnded
  dsimp only
  repeat' split
  all_goals simp

@[simp] theorem execJobend_next (h : Hart) (rs1 : Fin 32) (s : State) : NextCanonical s (execJobend h rs1 s) :=
    nextCanonical_of fun hs => State.engineInstr_wf _ _ _ _ _ (fun t _ ht => by simp [ht.wf]) hs

/-! ## The vector operate instructions -/

@[simp] theorem State.vecOp_wf (s : State) (h : Hart) (i : Instr) (vd vs1 : Fin 8) (src : VSrc) (pr : Option (Fin 4))
    (f : Half → Half → Half) (hs : s.Canonical) : Memory.wf (s.vecOp h i vd vs1 src pr f).mem = true := by
  simp [State.vecOp, hs.wf]

@[simp] theorem State.vecFlagOp_wf (s : State) (h : Hart) (i : Instr) (vd vs1 : Fin 8) (src : VSrc)
    (pr : Option (Fin 4)) (f : Half → Half → Half → Half × Nat) (hs : s.Canonical) :
    Memory.wf (s.vecFlagOp h i vd vs1 src pr f).mem = true := by
  simp [State.vecFlagOp, hs.wf]

@[simp] theorem State.vecCmp_wf (s : State) (h : Hart) (i : Instr) (pd : Fin 4) (vs1 : Fin 8) (src : VSrc)
    (pr : Option (Fin 4)) (f : Half → Half → Bool × Nat) (hs : s.Canonical) :
    Memory.wf (s.vecCmp h i pd vs1 src pr f).mem = true := by
  simp [State.vecCmp, hs.wf]

@[simp] theorem execVadd_next (h : Hart) (vd vs1 : Fin 8) (src : VSrc) (pr : Option (Fin 4)) (s : State) :
    NextCanonical s (execVadd h vd vs1 src pr s) := nextCanonical_of fun hs => by simp [hs.wf]

@[simp] theorem execVsub_next (h : Hart) (vd vs1 : Fin 8) (src : VSrc) (pr : Option (Fin 4)) (s : State) :
    NextCanonical s (execVsub h vd vs1 src pr s) := nextCanonical_of fun hs => by simp [hs.wf]

@[simp] theorem execVmul_next (h : Hart) (vd vs1 : Fin 8) (src : VSrc) (pr : Option (Fin 4)) (s : State) :
    NextCanonical s (execVmul h vd vs1 src pr s) := nextCanonical_of fun hs => by simp [hs.wf]

@[simp] theorem execVmulh_next (h : Hart) (vd vs1 : Fin 8) (src : VSrc) (pr : Option (Fin 4)) (s : State) :
    NextCanonical s (execVmulh h vd vs1 src pr s) := nextCanonical_of fun hs => by simp [hs.wf]

@[simp] theorem execVand_next (h : Hart) (vd vs1 : Fin 8) (src : VSrc) (pr : Option (Fin 4)) (s : State) :
    NextCanonical s (execVand h vd vs1 src pr s) := nextCanonical_of fun hs => by simp [hs.wf]

@[simp] theorem execVor_next (h : Hart) (vd vs1 : Fin 8) (src : VSrc) (pr : Option (Fin 4)) (s : State) :
    NextCanonical s (execVor h vd vs1 src pr s) := nextCanonical_of fun hs => by simp [hs.wf]

@[simp] theorem execVxor_next (h : Hart) (vd vs1 : Fin 8) (src : VSrc) (pr : Option (Fin 4)) (s : State) :
    NextCanonical s (execVxor h vd vs1 src pr s) := nextCanonical_of fun hs => by simp [hs.wf]

@[simp] theorem execVsll_next (h : Hart) (vd vs1 : Fin 8) (src : VSrc) (pr : Option (Fin 4)) (s : State) :
    NextCanonical s (execVsll h vd vs1 src pr s) := nextCanonical_of fun hs => by simp [hs.wf]

@[simp] theorem execVsrl_next (h : Hart) (vd vs1 : Fin 8) (src : VSrc) (pr : Option (Fin 4)) (s : State) :
    NextCanonical s (execVsrl h vd vs1 src pr s) := nextCanonical_of fun hs => by simp [hs.wf]

@[simp] theorem execVsra_next (h : Hart) (vd vs1 : Fin 8) (src : VSrc) (pr : Option (Fin 4)) (s : State) :
    NextCanonical s (execVsra h vd vs1 src pr s) := nextCanonical_of fun hs => by simp [hs.wf]

@[simp] theorem execVmin_next (h : Hart) (vd vs1 : Fin 8) (src : VSrc) (pr : Option (Fin 4)) (s : State) :
    NextCanonical s (execVmin h vd vs1 src pr s) := nextCanonical_of fun hs => by simp [hs.wf]

@[simp] theorem execVmax_next (h : Hart) (vd vs1 : Fin 8) (src : VSrc) (pr : Option (Fin 4)) (s : State) :
    NextCanonical s (execVmax h vd vs1 src pr s) := nextCanonical_of fun hs => by simp [hs.wf]

@[simp] theorem execVabs_next (h : Hart) (vd vs1 : Fin 8) (pr : Option (Fin 4)) (s : State) : NextCanonical s
    (execVabs h vd vs1 pr s) := nextCanonical_of fun hs => by simp [hs.wf]

@[simp] theorem execVadds_next (h : Hart) (vd vs1 : Fin 8) (src : VSrc) (pr : Option (Fin 4)) (s : State) :
    NextCanonical s (execVadds h vd vs1 src pr s) := nextCanonical_of fun hs => by simp [hs.wf]

@[simp] theorem execVsubs_next (h : Hart) (vd vs1 : Fin 8) (src : VSrc) (pr : Option (Fin 4)) (s : State) :
    NextCanonical s (execVsubs h vd vs1 src pr s) := nextCanonical_of fun hs => by simp [hs.wf]

@[simp] theorem execVrshr_next (h : Hart) (vd vs1 : Fin 8) (rs : Fin 32) (pr : Option (Fin 4)) (s : State) :
    NextCanonical s (execVrshr h vd vs1 rs pr s) := nextCanonical_of fun hs => by simp [hs.wf]

@[simp] theorem execVfadd_next (h : Hart) (vd vs1 : Fin 8) (src : VSrc) (pr : Option (Fin 4)) (s : State) :
    NextCanonical s (execVfadd h vd vs1 src pr s) := nextCanonical_of fun hs => by simp [hs.wf]

@[simp] theorem execVfsub_next (h : Hart) (vd vs1 : Fin 8) (src : VSrc) (pr : Option (Fin 4)) (s : State) :
    NextCanonical s (execVfsub h vd vs1 src pr s) := nextCanonical_of fun hs => by simp [hs.wf]

@[simp] theorem execVfmul_next (h : Hart) (vd vs1 : Fin 8) (src : VSrc) (pr : Option (Fin 4)) (s : State) :
    NextCanonical s (execVfmul h vd vs1 src pr s) := nextCanonical_of fun hs => by simp [hs.wf]

@[simp] theorem execVfmin_next (h : Hart) (vd vs1 : Fin 8) (src : VSrc) (pr : Option (Fin 4)) (s : State) :
    NextCanonical s (execVfmin h vd vs1 src pr s) := nextCanonical_of fun hs => by simp [hs.wf]

@[simp] theorem execVfmax_next (h : Hart) (vd vs1 : Fin 8) (src : VSrc) (pr : Option (Fin 4)) (s : State) :
    NextCanonical s (execVfmax h vd vs1 src pr s) := nextCanonical_of fun hs => by simp [hs.wf]

@[simp] theorem execVfma_next (h : Hart) (vd vs1 : Fin 8) (src : VSrc) (pr : Option (Fin 4)) (s : State) :
    NextCanonical s (execVfma h vd vs1 src pr s) := nextCanonical_of fun hs => by simp [hs.wf]

@[simp] theorem execVceq_next (h : Hart) (fp : Bool) (pd : Fin 4) (vs1 : Fin 8) (src : VSrc) (pr : Option (Fin 4))
    (s : State) : NextCanonical s (execVceq h fp pd vs1 src pr s) := nextCanonical_of fun hs => by simp [hs.wf]

@[simp] theorem execVclt_next (h : Hart) (fp : Bool) (pd : Fin 4) (vs1 : Fin 8) (src : VSrc) (pr : Option (Fin 4))
    (s : State) : NextCanonical s (execVclt h fp pd vs1 src pr s) := nextCanonical_of fun hs => by simp [hs.wf]

@[simp] theorem execVcle_next (h : Hart) (fp : Bool) (pd : Fin 4) (vs1 : Fin 8) (src : VSrc) (pr : Option (Fin 4))
    (s : State) : NextCanonical s (execVcle h fp pd vs1 src pr s) := nextCanonical_of fun hs => by simp [hs.wf]

@[simp] theorem execVcltu_next (h : Hart) (pd : Fin 4) (vs1 : Fin 8) (src : VSrc) (pr : Option (Fin 4)) (s : State) :
    NextCanonical s (execVcltu h pd vs1 src pr s) := nextCanonical_of fun hs => by simp [hs.wf]

@[simp] theorem execVsel_next (h : Hart) (vd vs1 : Fin 8) (src : VSrc) (pr : Fin 4) (s : State) : NextCanonical s
    (execVsel h vd vs1 src pr s) := nextCanonical_of fun hs => by simp [hs.wf]

@[simp] theorem execVbcast_next (h : Hart) (vd : Fin 8) (rs : Fin 32) (pr : Option (Fin 4)) (s : State) :
    NextCanonical s (execVbcast h vd rs pr s) := nextCanonical_of fun hs => by simp [hs.wf]

@[simp] theorem execVcvtif_next (h : Hart) (vd vs1 : Fin 8) (pr : Option (Fin 4)) (s : State) : NextCanonical s
    (execVcvtif h vd vs1 pr s) := nextCanonical_of fun hs => by simp [hs.wf]

@[simp] theorem execVcvtfh_next (h : Hart) (vd vs1 : Fin 8) (pr : Option (Fin 4)) (s : State) : NextCanonical s
    (execVcvtfh h vd vs1 pr s) := nextCanonical_of fun hs => by simp [hs.wf]

@[simp] theorem execVcvtfb_next (h : Hart) (vd vs1 : Fin 8) (pr : Option (Fin 4)) (s : State) : NextCanonical s
    (execVcvtfb h vd vs1 pr s) := nextCanonical_of fun hs => by simp [hs.wf]

@[simp] theorem execVcvtfi_next (h : Hart) (vd vs1 : Fin 8) (pr : Option (Fin 4)) (s : State) : NextCanonical s
    (execVcvtfi h vd vs1 pr s) := nextCanonical_of fun hs => by simp [hs.wf]

/-! ## The vector memory and the vector reduce and permute instructions -/

@[simp] theorem State.lanesPerf_mem (s : State) (h : Hart) (write : Bool) (l : List (Fin 64 × Nat × Place)) :
    (s.lanesPerf h write l).mem = s.mem := by
  unfold State.lanesPerf
  split <;> simp

@[simp] theorem State.vecLoad_wf (s : State) (h : Hart) (i : Instr) (el : Elem) (vd : Fin 8) (pr : Option (Fin 4))
    (base stride : Ctx → Word) (hs : s.Canonical) : Memory.wf (s.vecLoad h i el vd pr base stride).mem = true := by
  refine State.engineInstr_wf s h i .memory _ (fun t c ht => ?_) hs
  dsimp only
  split
  · exact ht
  · trivial
  · exact foldl_keeps (fun r : List (Fin 64 × Half) × State => r.2.Canonical) _ (fun r q hr => by simpa using hr) _ _
      (by simpa using ht)

@[simp] theorem State.clearCovered_mem (s : State) (l : List (Nat × Nat)) : (s.clearCovered l).mem = s.mem := by
  simp [State.clearCovered]

@[simp] theorem State.vecStore_wf (s : State) (h : Hart) (i : Instr) (el : Elem) (vs : Fin 8) (pr : Option (Fin 4))
    (base stride : Ctx → Word) (hs : s.Canonical) : Memory.wf (s.vecStore h i el vs pr base stride).mem = true := by
  refine State.engineInstr_wf s h i .memory _ (fun t c ht => ?_) hs
  dsimp only
  split
  · exact ht
  · trivial
  · next l _ =>
    have hf := foldl_wf (fun r (q : Fin 64 × Nat × Place) => r.storeTo h q.2.2 (leBytes (Elem.bytes el) (c.lane vs q.1).toNat))
      (fun r q hr => State.storeTo_wf r h _ _ hr) l (t.lanesPerf h true l) (by simpa using ht)
    split
    · exact ht
    · simpa using hf

@[simp] theorem execVload_next (h : Hart) (el : Elem) (vd : Fin 8) (rs1 : Fin 32) (pr : Option (Fin 4)) (s : State) :
    NextCanonical s (execVload h el vd rs1 pr s) := nextCanonical_of fun hs => by simp [hs.wf]

@[simp] theorem execVstore_next (h : Hart) (el : Elem) (vs : Fin 8) (rs1 : Fin 32) (pr : Option (Fin 4)) (s : State) :
    NextCanonical s (execVstore h el vs rs1 pr s) := nextCanonical_of fun hs => by simp [hs.wf]

@[simp] theorem execVloadStrided_next (h : Hart) (el : Elem) (vd : Fin 8) (rs1 rs2 : Fin 32) (pr : Option (Fin 4))
    (s : State) : NextCanonical s (execVloadStrided h el vd rs1 rs2 pr s) := nextCanonical_of fun hs => by simp
    [hs.wf]

@[simp] theorem execVstoreStrided_next (h : Hart) (el : Elem) (vs : Fin 8) (rs1 rs2 : Fin 32) (pr : Option (Fin 4))
    (s : State) : NextCanonical s (execVstoreStrided h el vs rs1 rs2 pr s) := nextCanonical_of fun hs => by simp
    [hs.wf]

@[simp] theorem execVrsum_next (h : Hart) (fp : Bool) (rd : Fin 32) (vs1 : Fin 8) (pr : Option (Fin 4)) (s : State) :
    NextCanonical s (execVrsum h fp rd vs1 pr s) := by
  refine nextCanonical_of fun hs => ?_
  have hw := hs.wf
  split <;> simp [hw]

@[simp] theorem State.vecExtreme_wf (s : State) (h : Hart) (i : Instr) (fp high : Bool) (rd : Fin 32) (vs1 : Fin 8)
    (pr : Option (Fin 4)) (hs : s.Canonical) : Memory.wf (s.vecExtreme h i fp high rd vs1 pr).mem = true := by
  simp [State.vecExtreme, hs.wf]

@[simp] theorem execVrmax_next (h : Hart) (fp : Bool) (rd : Fin 32) (vs1 : Fin 8) (pr : Option (Fin 4)) (s : State) :
    NextCanonical s (execVrmax h fp rd vs1 pr s) := nextCanonical_of fun hs => by simp [hs.wf]

@[simp] theorem execVrmin_next (h : Hart) (fp : Bool) (rd : Fin 32) (vs1 : Fin 8) (pr : Option (Fin 4)) (s : State) :
    NextCanonical s (execVrmin h fp rd vs1 pr s) := nextCanonical_of fun hs => by simp [hs.wf]

@[simp] theorem execVrargmax_next (h : Hart) (fp : Bool) (rd : Fin 32) (vs1 : Fin 8) (pr : Option (Fin 4)) (s : State)
    : NextCanonical s (execVrargmax h fp rd vs1 pr s) := nextCanonical_of fun hs => by simp [hs.wf]

@[simp] theorem execVslideup_next (h : Hart) (vd vs1 : Fin 8) (rs : Fin 32) (pr : Option (Fin 4)) (s : State) :
    NextCanonical s (execVslideup h vd vs1 rs pr s) := nextCanonical_of fun hs => by simp [hs.wf]

@[simp] theorem execVslidedown_next (h : Hart) (vd vs1 : Fin 8) (rs : Fin 32) (pr : Option (Fin 4)) (s : State) :
    NextCanonical s (execVslidedown h vd vs1 rs pr s) := nextCanonical_of fun hs => by simp [hs.wf]

@[simp] theorem execVperm_next (h : Hart) (vd vs1 vs2 : Fin 8) (pr : Option (Fin 4)) (s : State) : NextCanonical s
    (execVperm h vd vs1 vs2 pr s) := nextCanonical_of fun hs => by simp [hs.wf]

@[simp] theorem execVcompress_next (h : Hart) (vd vs1 : Fin 8) (rd : Fin 32) (pr : Fin 4) (s : State) : NextCanonical
    s (execVcompress h vd vs1 rd pr s) := nextCanonical_of fun hs => by simp [hs.wf]

@[simp] theorem execVfirst_next (h : Hart) (rd : Fin 32) (vs1 : Fin 8) (s : State) : NextCanonical s
    (execVfirst h rd vs1 s) := nextCanonical_of fun hs => by simp [hs.wf]

/-! ## The debug port -/

@[simp] theorem State.selectReg_mem (s : State) (ir : Nat) : (s.selectReg ir).mem = s.mem := by
  simp [State.selectReg]

@[simp] theorem State.endDebug_wf (s : State) (hs : s.Canonical) : Memory.wf s.endDebug.mem = true := by
  simp [State.endDebug, hs.wf]

@[simp] theorem execTrstNAssert_next (s : State) : NextCanonical s (execTrstNAssert s) := nextCanonical_of fun hs =>
    by simp [hs.wf]

@[simp] theorem execExtest_next (s : State) : NextCanonical s (execExtest s) := nextCanonical_of fun hs => by simp
    [hs.wf]

@[simp] theorem execIdcode_next (s : State) : NextCanonical s (execIdcode s) := nextCanonical_of fun hs => by simp
    [hs.wf]

@[simp] theorem execSamplePreload_next (s : State) : NextCanonical s (execSamplePreload s) := nextCanonical_of fun hs
    => by simp [hs.wf]

@[simp] theorem execBypass_next (s : State) : NextCanonical s (execBypass s) := nextCanonical_of fun hs => by simp
    [hs.wf]

@[simp] theorem State.sdapReply_mem (s : State) (op st code : Nat) (v : List Byte) : (s.sdapReply op st code v).mem =
    s.mem := by
  simp [State.sdapReply]

@[simp] theorem State.sdapDone_mem (s : State) (op : Nat) (v : List Byte) : (s.sdapDone op v).mem = s.mem := by
  simp [State.sdapDone]

@[simp] theorem State.sdapRefused_mem (s : State) (op code : Nat) : (s.sdapRefused op code).mem = s.mem := by
  simp [State.sdapRefused]

@[simp] theorem State.sdap_wf (s : State) (op : Nat) (f : State → State)
    (hf : ∀ t : State, t.Canonical → (f t).Canonical) (hs : s.Canonical) :
    Memory.wf (s.sdap op f).mem = true := by
  have hw := hs.wf
  unfold State.sdap
  split
  · exact hs
  · dsimp only
    split
    · simp [hw]
    · split
      · simp [hw]
      · exact hf _ (by simp [hw])

@[simp] theorem State.sdapBench_wf (s : State) (op : Nat) (f : State → State)
    (hf : ∀ t : State, t.Canonical → (f t).Canonical) (hs : s.Canonical) : Memory.wf (s.sdapBench op f).mem = true := by
  refine State.sdap_wf s op _ (fun t ht => ?_) hs
  split
  · exact hf t ht
  · simpa using ht

@[simp] theorem execSdapSessionOpen_next (s : State) : NextCanonical s (execSdapSessionOpen s) := nextCanonical_of fun
    hs => by simp [hs.wf]

@[simp] theorem execSdapSessionClose_next (s : State) : NextCanonical s (execSdapSessionClose s) := nextCanonical_of
    fun hs => State.sdap_wf _ _ _ (fun t ht => by simp [ht.wf]) hs

@[simp] theorem execSdapDebugReset_next (s : State) : NextCanonical s (execSdapDebugReset s) := nextCanonical_of fun
    hs => State.sdap_wf _ _ _ (fun t ht => by simp [ht.wf]) hs

@[simp] theorem execSdapEngineReset_next (t : Byte) (s : State) : NextCanonical s (execSdapEngineReset t s) := by
  refine nextCanonical_of fun hs => ?_
  have hw := hs.wf
  split <;> simp [hw]

@[simp] theorem State.sdapObject_mem (s : State) (op code : Nat) (v : List Byte) : (s.sdapObject op code v).mem =
    s.mem := by
  simp [State.sdapObject]

@[simp] theorem State.sdapRead_mem (s : State) (idx sub : Nat) (active : Bool) : (s.sdapRead idx sub active).mem =
    s.mem := by
  simp [State.sdapRead]

@[simp] theorem execSdapObjectRead_next (idx : BitVec 16) (sub : Byte) (active : Bool) (s : State) : NextCanonical s
    (execSdapObjectRead idx sub active s) := nextCanonical_of fun hs => by simp [hs.wf]

@[simp] theorem execSdapObjectWrite_next (idx : BitVec 16) (sub : Byte) (data : List Byte) (s : State) : NextCanonical
    s (execSdapObjectWrite idx sub data s) := nextCanonical_of fun hs => State.sdap_wf _ _ _
    (fun t ht => by simp [ht.wf]) hs

@[simp] theorem execSdapHalt_next (t : Byte) (s : State) : NextCanonical s (execSdapHalt t s) := by
  refine nextCanonical_of fun hs => State.sdap_wf _ _ _ (fun t ht => ?_) hs
  have hw := ht.wf
  split <;> simp [hw]

@[simp] theorem State.resumeTarget_mem (s : State) (t : DebugTarget) : (s.resumeTarget t).mem = s.mem := by
  unfold State.resumeTarget
  split <;> simp

@[simp] theorem State.sdapHalted_wf (s : State) (op t : Nat) (f : State → DebugTarget → State)
    (hf : ∀ (u : State) g, u.Canonical → (f u g).Canonical) (hs : s.Canonical) :
    Memory.wf (s.sdapHalted op t f).mem = true := by
  refine State.sdapBench_wf s op _ (fun u hu => ?_) hs
  split
  · simpa using hu
  · split
    · simpa using hf u _ hu
    · simpa using hu

@[simp] theorem execSdapResume_next (t : Byte) (s : State) : NextCanonical s (execSdapResume t s) := nextCanonical_of
    fun hs => by simp [hs.wf]

theorem State.runThread_next (s : State) (i : Instr) : NextCanonical s (s.runThread i) := by
  unfold State.runThread
  split <;> simp

@[simp] theorem State.fetchRun_wf (s : State) (h : Hart) (hs : s.Canonical) : Memory.wf (s.fetchRun h).mem = true := by
  have hw := hs.wf
  unfold State.fetchRun
  extract_lets a word
  split
  · simp [hw]
  · split
    · simp [hw]
    · split
      · exact State.after_wf s _ (State.runThread_next s _) hs
      · exact State.after_wf s _ (execIllegalInstruction_next _ _ s) hs

@[simp] theorem State.stepHart_mem (s : State) (t : DebugTarget) : (s.stepHart t).2.mem = s.mem := by
  unfold State.stepHart
  split
  · rfl
  · dsimp only
    split
    · rfl
    · split <;> rfl

@[simp] theorem State.stepTarget_wf (s : State) (t : DebugTarget) (hs : s.Canonical) :
    Memory.wf (s.stepTarget t).mem = true := by
  have hw := hs.wf
  unfold State.stepTarget
  dsimp only
  split <;> simp [hw]

@[simp] theorem execSdapStep_next (t : Byte) (s : State) : NextCanonical s (execSdapStep t s) := nextCanonical_of fun
    hs => State.sdapHalted_wf _ _ _ _ (fun t _ ht => by simp [ht.wf]) hs

@[simp] theorem State.debugCells_mem (s : State) (a : Nat) : (s.debugCells a).mem = s.mem := by
  simp [State.debugCells]

@[simp] theorem State.debugRead_mem (s : State) (a : Nat) : (s.debugRead a).mem = s.mem := by
  unfold State.debugRead
  split <;> simp

@[simp] theorem State.debugWake_mem (s : State) (a : Nat) : (s.debugWake a).mem = s.mem := by
  unfold State.debugWake
  split <;> simp

@[simp] theorem execSdapMemoryRead_next (a : BitVec 48) (s : State) : NextCanonical s (execSdapMemoryRead a s) :=
    nextCanonical_of fun hs => by simp [hs.wf]

@[simp] theorem State.debugWrite_wf (s : State) (a : Nat) (d : Word) (hs : s.Canonical) :
    Memory.wf (s.debugWrite a d).mem = true := by
  have hw := hs.wf
  unfold State.debugWrite
  dsimp only
  repeat' split
  all_goals simp [hw]

@[simp] theorem execSdapMemoryWrite_next (a : BitVec 48) (d : Word) (s : State) : NextCanonical s
    (execSdapMemoryWrite a d s) := nextCanonical_of fun hs => State.sdapBench_wf _ _ _ (fun t ht => by simp [ht.wf])
    hs

/-! ## The steps of recovery -/

@[simp] theorem execWatchdogExpiry_next (s : State) : NextCanonical s (execWatchdogExpiry s) := nextCanonical_of fun
    hs => by simp [hs.wf]

@[simp] theorem execDeadlockScan_next (s : State) : NextCanonical s (execDeadlockScan s) := nextCanonical_of fun hs =>
    by simp [hs.wf]

@[simp] theorem execDikeDrainExpiry_next (e : Fin 48) (s : State) : NextCanonical s (execDikeDrainExpiry e s) :=
    nextCanonical_of fun hs => by simp [hs.wf]

@[simp] theorem execDikeResetDone_next (e : Fin 48) (s : State) : NextCanonical s (execDikeResetDone e s) := by
  refine nextCanonical_of fun hs => ?_
  split
  · exact hs
  · exact foldl_wf _ (fun t k ht => State.resetEngine_wf t k ht) _ s hs

@[simp] theorem execDikeScrubDone_next (e : Fin 48) (s : State) : NextCanonical s (execDikeScrubDone e s) := by
  refine nextCanonical_of fun hs => ?_
  have hw := hs.wf
  split <;> simp [hw]

@[simp] theorem execDikeOpen_next (e : Fin 48) (s : State) : NextCanonical s (execDikeOpen e s) := by
  refine nextCanonical_of fun hs => ?_
  have hw := hs.wf
  split <;> simp [hw]

@[simp] theorem State.partitionResetEnd_wf (s : State) (part : Nat) (hs : s.Canonical) :
    Memory.wf (s.partitionResetEnd part).mem = true := by
  have hz := foldl_wf (fun t r => t.memZero r.1 r.2) (fun t r ht => State.memZero_canonical t _ _ ht) (s.guestPages part) s hs
  simp [State.partitionResetEnd, hz, hs.wf]

@[simp] theorem execPartitionMoveScrubDone_next (e : Fin 48) (s : State) : NextCanonical s
    (execPartitionMoveScrubDone e s) := nextCanonical_of fun hs => by simp [hs.wf]

/-! ## DEPOT -/

@[simp] theorem execEntryWipeDone_next (s : State) : NextCanonical s (execEntryWipeDone s) := nextCanonical_of fun hs
    => by simp [hs.wf]

@[simp] theorem execGuestStartDone_next (g : Fin 8) (s : State) : NextCanonical s (execGuestStartDone g s) :=
    nextCanonical_of fun hs => by simp [hs.wf]

@[simp] theorem execGuestWipeDone_next (g : Fin 8) (s : State) : NextCanonical s (execGuestWipeDone g s) :=
    nextCanonical_of fun hs => by simp [hs.wf]

@[simp] theorem execPartitionResetDone_next (part : Fin 9) (s : State) : NextCanonical s
    (execPartitionResetDone part s) := nextCanonical_of fun hs => by simp [hs.wf]

@[simp] theorem execQuiesceDone_next (s : State) : NextCanonical s (execQuiesceDone s) := by
  refine nextCanonical_of fun hs => ?_
  split
  · exact hs
  · refine State.handoverNext_wf _ (foldl_wf _ (fun t g ht => ?_) _ _ (by simpa using hs))
    split
    · split
      · exact ht
      · exact ht
      · exact ht
    · exact ht

@[simp] theorem execCheckpointLimitExpiry_next (s : State) : NextCanonical s (execCheckpointLimitExpiry s) :=
    nextCanonical_of fun hs => by simp [hs.wf]

@[simp] theorem State.exitWiped_wf (s : State) (hs : s.Canonical) : Memory.wf s.exitWiped.mem = true := by
  have hw := hs.wf
  unfold State.exitWiped
  split
  · exact hs
  · have hf := foldl_wf (fun t g => t.wipeDone g) (fun t g ht => State.wipeDone_wf t g ht) (List.range 8) s hs
    dsimp only
    split <;> simp [hf]

@[simp] theorem execExitWipeDone_next (s : State) : NextCanonical s (execExitWipeDone s) := nextCanonical_of fun hs =>
    by simp [hs.wf]

@[simp] theorem execHandoverWipeDone_next (s : State) : NextCanonical s (execHandoverWipeDone s) := nextCanonical_of
    fun hs => by simp [hs.wf]

@[simp] theorem execCheckpointInterval_next (g : Fin 8) (s : State) : NextCanonical s (execCheckpointInterval g s) :=
    nextCanonical_of fun hs => by simp [hs.wf]

@[simp] theorem execHashBatchReady_next (g : Fin 8) (s : State) : NextCanonical s (execHashBatchReady g s) :=
    nextCanonical_of fun hs => by simp [hs.wf]

@[simp] theorem execResultReoffer_next (g : Fin 8) (s : State) : NextCanonical s (execResultReoffer g s) := by
  refine nextCanonical_of fun hs => ?_
  have hw := hs.wf
  split <;> simp [hw]

/-! ## Fleet and checkpoint messages as they arrive, and the timers of both ends -/

@[simp] theorem State.managerIn_wf (s : State) (layer op : Nat) (src : BitVec 32) (m : List Byte)
    (act : State → State)
    (ha : ∀ t : State, t.Canonical → (act t).Canonical) (hs : s.Canonical) :
    Memory.wf (s.managerIn layer op src m act).mem = true := by
  refine State.fleetIn_wf s layer op src.toNat m _ (fun t ht => ?_) hs
  split
  · exact ht
  · exact State.once_wf _ _ _ _ ha (by simpa using ht)

@[simp] theorem State.workerIn_wf (s : State) (layer op : Nat) (src : BitVec 32) (m : List Byte) (act : State → State)
    (ha : ∀ t : State, t.Canonical → (act t).Canonical) (hs : s.Canonical) :
    Memory.wf (s.workerIn layer op src m act).mem = true := by
  refine State.fleetIn_wf s layer op src.toNat m _ (fun t ht => ?_) hs
  split
  · exact ht
  · exact State.once_wf _ _ _ _ ha ht

@[simp] theorem execFleetJoin_next (src : BitVec 32) (m : List Byte) (s : State) : NextCanonical s
    (execFleetJoin src m s) := nextCanonical_of fun hs => by simp [hs.wf]

@[simp] theorem execFleetHeartbeat_next (src : BitVec 32) (m : List Byte) (s : State) : NextCanonical s
    (execFleetHeartbeat src m s) := nextCanonical_of fun hs => by simp [hs.wf]

@[simp] theorem execFleetLeave_next (src : BitVec 32) (m : List Byte) (s : State) : NextCanonical s
    (execFleetLeave src m s) := by
  refine nextCanonical_of fun hs => State.managerIn_wf _ _ _ _ _ _ (fun t ht => ?_) hs
  have hw := ht.wf
  split <;> simp [hw]

@[simp] theorem execJobAccept_next (src : BitVec 32) (m : List Byte) (s : State) : NextCanonical s
    (execJobAccept src m s) := by
  refine nextCanonical_of fun hs => State.fleetIn_wf _ _ _ _ _ _ (fun t ht => ?_) hs
  have hw := ht.wf
  dsimp only
  repeat' split
  all_goals simp [hw]

@[simp] theorem execJobRefuse_next (src : BitVec 32) (m : List Byte) (s : State) : NextCanonical s
    (execJobRefuse src m s) := by
  refine nextCanonical_of fun hs => State.fleetIn_wf _ _ _ _ _ _ (fun t ht => ?_) hs
  have hw := ht.wf
  dsimp only
  repeat' split
  all_goals simp [hw]

@[simp] theorem execJobStarted_next (src : BitVec 32) (m : List Byte) (s : State) : NextCanonical s
    (execJobStarted src m s) := nextCanonical_of fun hs => State.managerIn_wf _ _ _ _ _ _
    (fun t ht => by simp [ht.wf]) hs

@[simp] theorem execCheckpointDone_next (src : BitVec 32) (m : List Byte) (s : State) : NextCanonical s
    (execCheckpointDone src m s) := nextCanonical_of fun hs => State.managerIn_wf _ _ _ _ _ _
    (fun t ht => by simp [ht.wf]) hs

@[simp] theorem execJobDone_next (src : BitVec 32) (m : List Byte) (s : State) :
    NextCanonical s (execJobDone src m s) := nextCanonical_of fun hs => State.managerIn_wf _ _ _ _ _ _
      (fun t ht => by simp [ht.wf]) hs

@[simp] theorem execJobEvicted_next (src : BitVec 32) (m : List Byte) (s : State) : NextCanonical s
    (execJobEvicted src m s) := by
  refine nextCanonical_of fun hs => State.managerIn_wf _ _ _ _ _ _ (fun t ht => ?_) hs
  have hw := ht.wf
  dsimp only
  split <;> simp [hw]

@[simp] theorem execFleetJobOffer_next (s : State) : NextCanonical s (execFleetJobOffer s) := by
  refine nextCanonical_of fun hs => ?_
  have hw := hs.wf
  split
  · exact hs
  · split <;> simp [hw]

@[simp] theorem execOfferTimeout_next (job : BitVec 64) (s : State) : NextCanonical s (execOfferTimeout job s) := by
  refine nextCanonical_of fun hs => ?_
  have hw := hs.wf
  split <;> simp [hw]

@[simp] theorem execWorkerLoss_next (serial : BitVec 64) (s : State) : NextCanonical s (execWorkerLoss serial s) :=
    nextCanonical_of fun hs => by simp [hs.wf]

@[simp] theorem execJoinAck_next (src : BitVec 32) (m : List Byte) (s : State) :
    NextCanonical s (execJoinAck src m s) := nextCanonical_of fun hs => by simp [hs.wf]

@[simp] theorem execFleetHeartbeatAck_next (src : BitVec 32) (m : List Byte) (s : State) : NextCanonical s
    (execFleetHeartbeatAck src m s) := by
  refine nextCanonical_of fun hs => State.fleetIn_wf _ _ _ _ _ _ (fun t ht => ?_) hs
  have hw := ht.wf
  dsimp only
  repeat' split
  all_goals simp [hw]

@[simp] theorem execJobOffer_next (src : BitVec 32) (m : List Byte) (s : State) : NextCanonical s
    (execJobOffer src m s) := nextCanonical_of fun hs => State.workerIn_wf _ _ _ _ _ _ (fun t ht => by simp [ht.wf])
    hs

@[simp] theorem execCheckpointReq_next (src : BitVec 32) (m : List Byte) (s : State) : NextCanonical s
    (execCheckpointReq src m s) := by
  refine nextCanonical_of fun hs => State.workerIn_wf _ _ _ _ _ _ (fun t ht => ?_) hs
  have hw := ht.wf
  split <;> simp [hw]

@[simp] theorem execJobEvict_next (src : BitVec 32) (m : List Byte) (s : State) : NextCanonical s
    (execJobEvict src m s) := by
  refine nextCanonical_of fun hs => State.workerIn_wf _ _ _ _ _ _ (fun t ht => ?_) hs
  have hw := ht.wf
  split
  · simp [hw]
  · split
    · simp [hw]
    · split
      · split <;> simp [hw]
      · split <;> simp [hw]

@[simp] theorem execWorkerHeartbeatTimer_next (s : State) : NextCanonical s (execWorkerHeartbeatTimer s) :=
    nextCanonical_of fun hs => by simp [hs.wf]

@[simp] theorem execManagerLoss_next (s : State) : NextCanonical s (execManagerLoss s) := by
  refine nextCanonical_of fun hs => ?_
  split
  · exact hs
  · refine State.handoverNext_wf _ (foldl_wf _ (fun t g ht => ?_) _ _ (by simpa using hs))
    split
    · exact State.restoreFail_wf _ _ _ _ _ ht
    · exact ht

@[simp] theorem execFleetResendTimer_next (s : State) : NextCanonical s (execFleetResendTimer s) := nextCanonical_of
    fun hs => by simp [hs.wf]

@[simp] theorem execHaveQuery_next (src : BitVec 32) (m : List Byte) (s : State) : NextCanonical s
    (execHaveQuery src m s) := nextCanonical_of fun hs => by simp [hs.wf]

@[simp] theorem execHaveReply_next (src : BitVec 32) (m : List Byte) (s : State) : NextCanonical s
    (execHaveReply src m s) := by
  refine nextCanonical_of fun hs => State.fleetIn_wf _ _ _ _ _ _ (fun t ht => ?_) hs
  have hw := ht.wf
  split <;> simp [hw]

@[simp] theorem execFleetPull_next (src : BitVec 32) (m : List Byte) (s : State) : NextCanonical s
    (execFleetPull src m s) := by
  refine nextCanonical_of fun hs => State.fleetIn_wf _ _ _ _ _ _ (fun t ht => ?_) hs
  have hw := ht.wf
  dsimp only
  repeat' split
  all_goals simp [hw]

@[simp] theorem execFleetSegment_next (src : BitVec 32) (m : List Byte) (s : State) : NextCanonical s
    (execFleetSegment src m s) := nextCanonical_of fun hs => State.fleetIn_wf _ _ _ _ _ _
    (fun t ht => by simp [ht.wf]) hs

@[simp] theorem execNotHeld_next (src : BitVec 32) (m : List Byte) (s : State) :
    NextCanonical s (execNotHeld src m s) := by
  refine nextCanonical_of fun hs => State.fleetIn_wf _ _ _ _ _ _ (fun t ht => ?_) hs
  have hw := ht.wf
  dsimp only
  repeat' split
  all_goals simp [hw]

@[simp] theorem execManifestOffer_next (src : BitVec 32) (m : List Byte) (s : State) : NextCanonical s
    (execManifestOffer src m s) := by
  refine nextCanonical_of fun hs => State.managerIn_wf _ _ _ _ _ _ (fun t ht => ?_) hs
  have hw := ht.wf
  dsimp only
  repeat' split
  all_goals simp [hw]

@[simp] theorem execManifestResult_next (src : BitVec 32) (m : List Byte) (s : State) : NextCanonical s
    (execManifestResult src m s) := by
  refine nextCanonical_of fun hs => State.fleetIn_wf _ _ _ _ _ _ (fun t ht => ?_) hs
  have hw := ht.wf
  split <;> simp [hw]

@[simp] theorem execRestoreFailed_next (src : BitVec 32) (m : List Byte) (s : State) : NextCanonical s
    (execRestoreFailed src m s) := by
  refine nextCanonical_of fun hs => State.managerIn_wf _ _ _ _ _ _ (fun t ht => ?_) hs
  have hw := ht.wf
  dsimp only
  split <;> simp [hw]

@[simp] theorem execSegmentIdleTimeout_next (hash : BitVec 256) (s : State) : NextCanonical s
    (execSegmentIdleTimeout hash s) := by
  refine nextCanonical_of fun hs => ?_
  have hw := hs.wf
  split <;> simp [hw]

/-! ## Model load -/

@[simp] theorem State.applyItem_wf (s : State) (i : Nat × Nat × List Byte × Bool) (hs : s.Canonical) :
    Memory.wf (s.applyItem i).2.mem = true := by
  simp [State.applyItem, hs.wf]

theorem State.applyItems_wf {s : State} {l : List (Nat × Nat × List Byte × Bool)} {t : State} (h : s.applyItems l = some t)
    (hs : s.Canonical) : t.Canonical := by
  induction l generalizing s with
  | nil => cases h; exact hs
  | cons i rest ih =>
    unfold State.applyItems at h
    split at h
    · exact ih h (State.applyItem_wf s i hs)
    · cases h

theorem State.configure_wf {s : State} {b : List Byte} {t : State} (h : s.configure b = some t) (hs : s.Canonical) :
    t.Canonical := by
  obtain ⟨u, hu, rfl⟩ := Option.map_eq_some_iff.1 h
  simpa using State.applyItems_wf hu hs

@[simp] theorem State.sendImages_mem (s : State) (len : Nat) : (s.sendImages len).mem = s.mem := by
  simp [State.sendImages]

@[simp] theorem execImageCheckDone_next (s : State) : NextCanonical s (execImageCheckDone s) := by
  refine nextCanonical_of fun hs => ?_
  have hw := hs.wf
  split <;> simp [hw]

@[simp] theorem State.placeSections_wf (s : State) (b : List Byte) (p : Nat → Bool) (hs : s.Canonical) :
    Memory.wf (s.placeSections b p).mem = true := foldl_wf _ (fun t _ ht => State.memWrite_canonical t _ _ ht) _ s hs

@[simp] theorem State.keepersBoot_mem (s : State) : s.keepersBoot.mem = s.mem := by
  simp [State.keepersBoot]

@[simp] theorem State.imageLoaded_wf (s : State) (b : List Byte) (hs : s.Canonical) :
    Memory.wf (s.imageLoaded b).mem = true := by
  simp [State.imageLoaded, hs.wf]

@[simp] theorem execSectionsPlaced_next (s : State) : NextCanonical s (execSectionsPlaced s) := by
  refine nextCanonical_of fun hs => ?_
  split
  · exact hs
  · extract_lets b
    split
    · simp [hs.wf]
    · rename_i t u _ _ _
      have ht : t.Canonical := State.imageLoaded_wf _ _ (State.placeSections_wf s b _ hs)
      have hu : Memory.wf u.mem = true := by
        unfold u
        split
        · exact ht
        · cases e : t.configure b with
          | none => exact ht
          | some v => exact State.configure_wf e ht
      simp [hu]

@[simp] theorem State.residentFailed_mem (s : State) : s.residentFailed.mem = s.mem := by
  simp [State.residentFailed]

@[simp] theorem execResidentImageCheckDone_next (s : State) : NextCanonical s (execResidentImageCheckDone s) :=
    nextCanonical_of fun hs => by simp [hs.wf]

@[simp] theorem State.clearSlots_wf (s : State) (hs : s.Canonical) : Memory.wf s.clearSlots.mem = true := by
  simp [State.clearSlots, hs.wf]

@[simp] theorem execHandoverComplete_next (s : State) : NextCanonical s (execHandoverComplete s) := by
  refine nextCanonical_of fun hs => ?_
  split
  · exact hs
  · split
    · simp [hs.wf]
    · next t e =>
      have ht := (State.configure_wf e hs).wf
      simp [ht]

@[simp] theorem execKeeperRejoinDone_next (pass : Bool) (s : State) : NextCanonical s (execKeeperRejoinDone pass s) :=
    nextCanonical_of fun hs => by simp [hs.wf]

/-! ## The commands of the Fuind ports -/

@[simp] theorem State.relayRecord_mem (s : State) (rec : List Byte) (k : Nat) : (s.relayRecord rec k).mem = s.mem := by
  simp [State.relayRecord]

@[simp] theorem State.recordIn_mem (s : State) (m : List Byte) : (s.recordIn m).mem = s.mem := by
  simp [State.recordIn]

@[simp] theorem State.compareIn_mem (s : State) (m : List Byte) : (s.compareIn m).mem = s.mem := by
  simp [State.compareIn]

@[simp] theorem State.imageIn_wf (s : State) (p : Nat) (m : List Byte) (hs : s.Canonical) :
    Memory.wf (s.imageIn p m).mem = true := by
  simp [State.imageIn, hs.wf]

@[simp] theorem State.deliverMsg_wf (s : State) (p : Nat) (m : List Byte) (hs : s.Canonical) :
    Memory.wf (s.deliverMsg p m).mem = true := by
  have hw := hs.wf
  unfold State.deliverMsg
  split <;> simp [hw]

@[simp] theorem State.linkMsg_wf (s : State) (p : Nat) (m : List Byte) (hs : s.Canonical) :
    Memory.wf (s.linkMsg p m).mem = true := by
  simp [State.linkMsg, hs.wf]

@[simp] theorem State.linkRow_wf (s : State) (p type : Nat) (m : List Byte) (hs : s.Canonical) :
    Memory.wf (s.linkRow p type m).mem = true := by
  simp [State.linkRow, hs.wf]

@[simp] theorem execLinkTrainingStepDone_next (port : Fin 2) (lanes : Fin 3) (s : State) : NextCanonical s
    (execLinkTrainingStepDone port lanes s) := nextCanonical_of fun hs => by simp [hs.wf]

@[simp] theorem execLinkTrainingFailure_next (port : Fin 2) (s : State) : NextCanonical s
    (execLinkTrainingFailure port s) := nextCanonical_of fun hs => by simp [hs.wf]

@[simp] theorem execFlitTimeout_next (port : Fin 2) (s : State) : NextCanonical s (execFlitTimeout port s) :=
    nextCanonical_of fun hs => by simp [hs.wf]

@[simp] theorem execReplayTimeout_next (port : Fin 2) (s : State) : NextCanonical s (execReplayTimeout port s) :=
    nextCanonical_of fun hs => by simp [hs.wf]

@[simp] theorem State.flitRow_wf (s : State) (p kind : Nat) (f : List Byte) (act : State → State)
    (ha : ∀ t : State, t.Canonical → (act t).Canonical) (hs : s.Canonical) :
    Memory.wf (s.flitRow p kind f act).mem = true := by
  unfold State.flitRow
  split
  · exact hs
  · exact State.flitIn_wf s p f act ha hs

@[simp] theorem execDataFlit_next (port : Fin 2) (flit : List Byte) (s : State) : NextCanonical s
    (execDataFlit port flit s) := by
  refine nextCanonical_of fun hs => State.flitRow_wf _ _ _ _ _ (fun t ht => ?_) hs
  have hw := ht.wf
  dsimp only
  split <;> simp [hw]

@[simp] theorem execNakFlit_next (port : Fin 2) (flit : List Byte) (s : State) : NextCanonical s
    (execNakFlit port flit s) := nextCanonical_of fun hs => by simp [hs.wf]

@[simp] theorem execCreditInitFlit_next (port : Fin 2) (flit : List Byte) (s : State) : NextCanonical s
    (execCreditInitFlit port flit s) := nextCanonical_of fun hs => by simp [hs.wf]

@[simp] theorem execIdleFlit_next (port : Fin 2) (flit : List Byte) (s : State) : NextCanonical s
    (execIdleFlit port flit s) := nextCanonical_of fun hs => by simp [hs.wf]

@[simp] theorem execFuindHello_next (port : Fin 2) (m : List Byte) (s : State) : NextCanonical s
    (execFuindHello port m s) := nextCanonical_of fun hs => by simp [hs.wf]

@[simp] theorem execHelloRetry_next (port : Fin 2) (s : State) : NextCanonical s (execHelloRetry port s) :=
    nextCanonical_of fun hs => by simp [hs.wf]

@[simp] theorem execFuindHeartbeat_next (port : Fin 2) (m : List Byte) (s : State) : NextCanonical s
    (execFuindHeartbeat port m s) := nextCanonical_of fun hs => by simp [hs.wf]

@[simp] theorem execFuindHeartbeatTimer_next (s : State) : NextCanonical s (execFuindHeartbeatTimer s) :=
    nextCanonical_of fun hs => by simp [hs.wf]

@[simp] theorem execDeviceLoss_next (id : Fin 4) (s : State) : NextCanonical s (execDeviceLoss id s) :=
    nextCanonical_of fun hs => by simp [hs.wf]

@[simp] theorem execFormationLimit_next (s : State) : NextCanonical s (execFormationLimit s) := nextCanonical_of fun
    hs => by simp [hs.wf]

@[simp] theorem execFuindRecord_next (port : Fin 2) (m : List Byte) (s : State) : NextCanonical s
    (execFuindRecord port m s) := nextCanonical_of fun hs => by simp [hs.wf]

@[simp] theorem execFuindCompare_next (port : Fin 2) (m : List Byte) (s : State) : NextCanonical s
    (execFuindCompare port m s) := nextCanonical_of fun hs => by simp [hs.wf]

@[simp] theorem execCompareUnmatched_next (strm : Fin 96) (strip : Nat) (s : State) : NextCanonical s
    (execCompareUnmatched strm strip s) := by
  refine nextCanonical_of fun hs => ?_
  have hw := hs.wf
  dsimp only
  repeat' split
  all_goals simp [hw]

@[simp] theorem execFuindImage_next (port : Fin 2) (m : List Byte) (s : State) : NextCanonical s
    (execFuindImage port m s) := nextCanonical_of fun hs => by simp [hs.wf]

@[simp] theorem execFuindDictionary_next (port : Fin 2) (m : List Byte) (s : State) : NextCanonical s
    (execFuindDictionary port m s) := nextCanonical_of fun hs => by simp [hs.wf]

/-! ## What arrives at the sensor ports, what a sluice does on its own, and the hazard path's own steps -/

@[simp] theorem State.headerCheck_mem (s : State) (strm : Nat) (hdr : HeaderCheck) : (s.headerCheck strm hdr).mem =
    s.mem := by
  unfold State.headerCheck
  split <;> simp

@[simp] theorem State.cameraLine_wf (s : State) (q : Sluice) (dt wc : Nat) (payload : List Byte) (hdr : HeaderCheck)
    (crcOk : Bool) (hs : s.Canonical) : Memory.wf (s.cameraLine q dt wc payload hdr crcOk).mem = true := by
  simp [State.cameraLine, hs.wf]

@[simp] theorem execCsi2LinePacket_next (port : Fin 24) (vc : Fin 4) (vcx : Bool) (dt : BitVec 6) (wc : BitVec 16)
    (payload : List Byte) (hdr : HeaderCheck) (crcOk : Bool) (s : State) : NextCanonical s
    (execCsi2LinePacket port vc vcx dt wc payload hdr crcOk s) := by
  refine nextCanonical_of fun hs => ?_
  have hw := hs.wf
  split
  · exact hs
  · split
    · simp [hw]
    · split
      · exact hs
      · split <;> simp [hw]

@[simp] theorem State.shortPacket_wf (s : State) (port : Fin 24) (head : ShortHead) (act : State → Nat → State)
    (ha : ∀ (t : State) k, t.Canonical → (act t k).Canonical) (hs : s.Canonical) :
    Memory.wf (s.shortPacket port head act).mem = true := by
  have hw := hs.wf
  unfold State.shortPacket
  split
  · exact hs
  · split
    · simp [hw]
    · extract_lets l t
      have ht : t.Canonical := by simp [t, hw]
      split
      · exact ht
      · exact foldl_wf _ ha _ t ht

@[simp] theorem State.startFrame_wf (s : State) (strm : Nat) (hs : s.Canonical) : Memory.wf (s.startFrame strm).mem =
    true := by
  have hw := hs.wf
  unfold State.startFrame
  split <;> simp [hw]

@[simp] theorem execFrameStart_next (port : Fin 24) (head : ShortHead) (s : State) : NextCanonical s
    (execFrameStart port head s) := nextCanonical_of fun hs => State.shortPacket_wf s port head _
    (fun t k ht => State.startFrame_wf t k ht) hs

@[simp] theorem execFrameEnd_next (port : Fin 24) (head : ShortHead) (s : State) : NextCanonical s
    (execFrameEnd port head s) := nextCanonical_of fun hs => State.shortPacket_wf s port head _
    (fun t k ht => State.endShort_wf t k ht) hs

@[simp] theorem State.rangeHazard_mem (s : State) (port sensor : Nat) (samples : List (List Byte))
    (disagree : List Nat) : (s.rangeHazard port sensor samples disagree).mem = s.mem := by
  simp [State.rangeHazard]

@[simp] theorem State.rangeLine_wf (s : State) (q : Sluice) (m : List Byte) (samples : List (List Byte)) (ok : Bool)
    (hs : s.Canonical) : Memory.wf (s.rangeLine q m samples ok).mem = true := by
  have hw := hs.wf
  unfold State.rangeLine
  extract_lets strm flags line seqNo starts t was
  have ht : Memory.wf t.mem = true := by unfold t; split <;> simp [hw]
  split
  · simp [hw]
  · split
    · exact ht
    · split
      · simp [ht]
      · extract_lets u v
        have hv : Memory.wf v.mem = true := State.fillLines_wf _ _ _ (by
          unfold u
          split <;> simp [ht])
        split
        · simp [hv]
        · rename_i good w _
          have hw' : Memory.wf w.mem = true := by unfold w; split <;> simp [hv]
          split
          · simp [hw']
          · exact hw' 

@[simp] theorem execRangePacket_next (port : Fin 4) (f : RangeFrame) (disagree : List Nat) (fcsOk udpOk : Bool)
    (s : State) : NextCanonical s (execRangePacket port f disagree fcsOk udpOk s) := by
  refine nextCanonical_of fun hs => ?_
  have hw := hs.wf
  dsimp only
  repeat' split
  all_goals simp [hw]

@[simp] theorem execArpRequest_next (port : ArpPort) (target sender : BitVec 32) (s : State) : NextCanonical s
    (execArpRequest port target sender s) := by
  refine nextCanonical_of fun hs => ?_
  have hw := hs.wf
  split
  · exact hs
  · split <;> simp [hw]

@[simp] theorem State.nearOpen_mem (s : State) (strm : Nat) : (s.nearOpen strm).mem = s.mem := by
  simp [State.nearOpen]

@[simp] theorem State.nearMissing_wf (s : State) (strm : Nat) (k : Nat) (hs : s.Canonical) :
    Memory.wf (s.nearMissing strm k).mem = true := by
  induction k generalizing s with
  | zero => exact hs
  | succ k ih =>
    unfold State.nearMissing
    exact ih _ (State.writeLine_wf _ strm none false (by simpa using hs))

@[simp] theorem execNearFieldWord_next (port : Fin 2) (w : Half) (checks : FieldChecks) (s : State) : NextCanonical s
    (execNearFieldWord port w checks s) := by
  refine nextCanonical_of fun hs => ?_
  have hw := hs.wf
  dsimp only
  repeat' split
  all_goals simp [hw]

@[simp] theorem execDivertCopyDone_next (strm : Fin 96) (s : State) : NextCanonical s (execDivertCopyDone strm s) := by
  refine nextCanonical_of fun hs => ?_
  have hw := hs.wf
  split <;> simp [hw]

@[simp] theorem execSluiceSlotRelease_next (strm : Fin 96) (strip : Nat) (s : State) : NextCanonical s
    (execSluiceSlotRelease strm strip s) := by
  refine nextCanonical_of fun hs => ?_
  have hw := hs.wf
  split <;> simp [hw]

@[simp] theorem execLivenessExpiry_next (strm : Fin 96) (s : State) : NextCanonical s (execLivenessExpiry strm s) := by
  refine nextCanonical_of fun hs => ?_
  have hw := hs.wf
  dsimp only
  repeat' split
  all_goals simp [hw]

@[simp] theorem execHazardHoldExpiry_next (s : State) : NextCanonical s (execHazardHoldExpiry s) := nextCanonical_of
    fun hs => by simp [hs.wf]

@[simp] theorem execHazardInjectionTest_next (passed : Bool) (s : State) : NextCanonical s
    (execHazardInjectionTest passed s) := nextCanonical_of fun hs => by simp [hs.wf]

@[simp] theorem execHazardReadbackFault_next (s : State) : NextCanonical s (execHazardReadbackFault s) :=
    nextCanonical_of fun hs => by simp [hs.wf]

/-! ## The evaluations of the adaptive loops, the temperature monitor and the power samples -/

@[simp] theorem execAvsEvaluation_next (pathMin : BitVec 16) (margin warning acked : Bool) (s : State) : NextCanonical
    s (execAvsEvaluation pathMin margin warning acked s) := nextCanonical_of fun hs => by simp [hs.wf]

@[simp] theorem execAvsNoResponse_next (regulatorFault : Bool) (s : State) : NextCanonical s
    (execAvsNoResponse regulatorFault s) := nextCanonical_of fun hs => by simp [hs.wf]

@[simp] theorem execDroopTrip_next (s : State) : NextCanonical s (execDroopTrip s) := nextCanonical_of fun hs => by
    simp [hs.wf]

@[simp] theorem execDroopRelease_next (cycles : BitVec 32) (s : State) :
    NextCanonical s (execDroopRelease cycles s) := nextCanonical_of fun hs => by simp [hs.wf]

@[simp] theorem execDroopMarginEvaluation_next (s : State) : NextCanonical s (execDroopMarginEvaluation s) :=
    nextCanonical_of fun hs => by simp [hs.wf]

@[simp] theorem State.derate_mem (s : State) (t : Int) : (s.derate t).mem = s.mem := by
  simp [State.derate]

@[simp] theorem State.dutySample_mem (s : State) (t : Int) : (s.dutySample t).mem = s.mem := by
  simp [State.dutySample]

@[simp] theorem State.tempMonitor_mem (s : State) (l : List Int) (t : Int) : (s.tempMonitor l t).mem = s.mem := by
  simp [State.tempMonitor]

@[simp] theorem execTemperatureSample_next (sensors : List Int) (stack0 stack1 : Int) (s : State) : NextCanonical s
    (execTemperatureSample sensors stack0 stack1 s) := by
  refine nextCanonical_of fun hs => ?_
  split
  · exact hs
  · extract_lets l t u
    split
    · exact hs
    · rw [State.dutySample_mem, State.derate_mem, State.tempMonitor_mem, State.monSample_mem, foldl_mem _ (by simp),
        State.setObj_mem, State.setObj_mem, ite_mem, State.setObj_mem, ite_self, foldl_mem _ (fun _ _ => State.setObj_mem ..)]
      exact hs

@[simp] theorem State.powerLoop_mem (s : State) (avg : Nat) : (s.powerLoop avg).mem = s.mem := by
  simp [State.powerLoop]

@[simp] theorem execPowerSample_next (avg : BitVec 32) (rails : List (BitVec 16)) (traffic : Nat) (s : State) :
    NextCanonical s (execPowerSample avg rails traffic s) := nextCanonical_of fun hs => by simp [hs.wf]

@[simp] theorem execSpillLevelEvaluation_next (s : State) : NextCanonical s (execSpillLevelEvaluation s) :=
    nextCanonical_of fun hs => by simp [hs.wf]

@[simp] theorem execDisagreementHoldoffEnd_next (s : State) : NextCanonical s (execDisagreementHoldoffEnd s) :=
    nextCanonical_of fun hs => by simp [hs.wf]

/-! ## Polder gating, DOZE, and the BAR4 window -/

@[simp] theorem State.unitLevel_mem (s : State) (e lvl : Nat) : (s.unitLevel e lvl).mem = s.mem := by
  simp [State.unitLevel]

@[simp] theorem execPolderClockGate_next (e : Fin 48) (s : State) : NextCanonical s (execPolderClockGate e s) :=
    nextCanonical_of fun hs => by simp [hs.wf]

@[simp] theorem execPolderPowerGate_next (e : Fin 48) (s : State) : NextCanonical s (execPolderPowerGate e s) :=
    nextCanonical_of fun hs => by simp [hs.wf]

@[simp] theorem execPolderWakeDone_next (e : Fin 48) (s : State) : NextCanonical s (execPolderWakeDone e s) :=
    nextCanonical_of fun hs => by simp [hs.wf]

@[simp] theorem execDozeEntry_next (s : State) : NextCanonical s (execDozeEntry s) := nextCanonical_of fun hs => by
    simp [hs.wf]

@[simp] theorem State.bar4Read_mem (s : State) (fn : Nat) (l : List Nat) : (s.bar4Read fn l).mem = s.mem := by
  simp [State.bar4Read]

@[simp] theorem State.bar4Store_wf (s : State) (l : List (Nat × Byte)) (hs : s.Canonical) :
    Memory.wf (s.bar4Store l).mem = true := foldl_wf
    (fun (t : State) (e : Nat × Byte) => { t with mem := Amap.set 0 t.mem e.1 e.2 })
    (fun t e ht => Amap.wf_set (fun _ => (0 : Byte)) t.mem e.1 e.2 ht) _ _ hs

@[simp] theorem execBar4Access_next (fn : Fin 9) (x : BitVec 36) (write : Bool) (data : List Byte) (s : State) :
    NextCanonical s (execBar4Access fn x write data s) := by
  refine nextCanonical_of fun hs => ?_
  have hw := hs.wf
  dsimp only
  repeat' split
  all_goals simp [hw]

/-! ## The commands of the Pumping Station -/

@[simp] theorem execPorstNAssert_next (s : State) : NextCanonical s (execPorstNAssert s) := nextCanonical_of fun hs =>
    by simp [hs.wf]

@[simp] theorem execPorstNRelease_next (strap : Fin 4) (s : State) : NextCanonical s (execPorstNRelease strap s) :=
    nextCanonical_of fun hs => by simp [hs.wf]

@[simp] theorem execSclkConfirmed_next (s : State) : NextCanonical s (execSclkConfirmed s) := nextCanonical_of fun hs
    => by simp [hs.wf]

@[simp] theorem execSclkSubstitute_next (s : State) : NextCanonical s (execSclkSubstitute s) := nextCanonical_of fun
    hs => by simp [hs.wf]

@[simp] theorem execAclkRetrim_next (err : BitVec 16) (s : State) : NextCanonical s (execAclkRetrim err s) :=
    nextCanonical_of fun hs => by simp [hs.wf]

@[simp] theorem execVaonOutOfRange_next (mv : BitVec 16) (flagSurvives : Bool) (s : State) : NextCanonical s
    (execVaonOutOfRange mv flagSurvives s) := nextCanonical_of fun hs => by simp [hs.wf]

@[simp] theorem execVaonReturnToRange_next (s : State) : NextCanonical s (execVaonReturnToRange s) := nextCanonical_of
    fun hs => by simp [hs.wf]

@[simp] theorem State.ignLevel_mem (s : State) (level : Bool) : (s.ignLevel level).mem = s.mem := by
  unfold State.ignLevel
  dsimp only
  split <;> simp

@[simp] theorem execIgnWakeChange_next (level : Bool) (s : State) : NextCanonical s (execIgnWakeChange level s) :=
    nextCanonical_of fun hs => by simp [hs.wf]

@[simp] theorem State.shoreLevel_mem (s : State) (level : Bool) : (s.shoreLevel level).mem = s.mem := by
  unfold State.shoreLevel
  dsimp only
  split <;> simp

@[simp] theorem execShorePwrChange_next (level : Bool) (s : State) : NextCanonical s (execShorePwrChange level s) :=
    nextCanonical_of fun hs => by simp [hs.wf]

@[simp] theorem execResetNAssert_next (s : State) : NextCanonical s (execResetNAssert s) := nextCanonical_of fun hs =>
    by simp [hs.wf]

@[simp] theorem execResetNRelease_next (s : State) : NextCanonical s (execResetNRelease s) := nextCanonical_of fun hs
    => by simp [hs.wf]

@[simp] theorem execResetHeld_next (s : State) : NextCanonical s (execResetHeld s) := nextCanonical_of fun hs => by
    simp [hs.wf]

@[simp] theorem execResetLineStuck_next (s : State) : NextCanonical s (execResetLineStuck s) := nextCanonical_of fun
    hs => by simp [hs.wf]

@[simp] theorem execCanParkedFrame_next (f : CanFrame) (s : State) : NextCanonical s (execCanParkedFrame f s) :=
    nextCanonical_of fun hs => by simp [hs.wf]

@[simp] theorem execRealTimeAlarm_next (s : State) : NextCanonical s (execRealTimeAlarm s) := nextCanonical_of fun hs
    => by simp [hs.wf]

@[simp] theorem execDeferredWakeCommit_next (s : State) : NextCanonical s (execDeferredWakeCommit s) := by
  refine nextCanonical_of fun hs => ?_
  have hw := hs.wf
  split <;> simp [hw]

@[simp] theorem execCoreDomainsPowered_next (s : State) : NextCanonical s (execCoreDomainsPowered s) :=
    nextCanonical_of fun hs => by simp [hs.wf]

@[simp] theorem execPllLock_next (s : State) : NextCanonical s (execPllLock s) := by
  refine nextCanonical_of fun hs => ?_
  have hw := hs.wf
  dsimp only
  repeat' split
  all_goals simp [hw]

@[simp] theorem execKeeperLbistDone_next (passA passB : Bool) (s : State) : NextCanonical s
    (execKeeperLbistDone passA passB s) := nextCanonical_of fun hs => by simp [hs.wf]

@[simp] theorem execCellarTrainingDone_next (pass : Bool) (s : State) : NextCanonical s
    (execCellarTrainingDone pass s) := nextCanonical_of fun hs => by simp [hs.wf]

@[simp] theorem execEngineLbistDone_next (lbistFail mbistFail : BitVec 48) (s : State) : NextCanonical s
    (execEngineLbistDone lbistFail mbistFail s) := nextCanonical_of fun hs => by simp [hs.wf]

@[simp] theorem execPcieLinkTrained_next (s : State) : NextCanonical s (execPcieLinkTrained s) := nextCanonical_of fun
    hs => by simp [hs.wf]

@[simp] theorem execCellarZeroed_next (s : State) : NextCanonical s (execCellarZeroed s) := nextCanonical_of fun hs =>
    by simp [hs.wf]

@[simp] theorem execDeliveryDeadline_next (s : State) : NextCanonical s (execDeliveryDeadline s) := by
  refine nextCanonical_of fun hs => ?_
  have hw := hs.wf
  split <;> simp [hw]

@[simp] theorem execStartupComplete_next (s : State) : NextCanonical s (execStartupComplete s) := nextCanonical_of fun
    hs => by simp [hs.wf]

@[simp] theorem execReadyHoldExpiry_next (s : State) : NextCanonical s (execReadyHoldExpiry s) := nextCanonical_of fun
    hs => by simp [hs.wf]

@[simp] theorem execDriveOffDelayExpiry_next (s : State) : NextCanonical s (execDriveOffDelayExpiry s) :=
    nextCanonical_of fun hs => by simp [hs.wf]

@[simp] theorem execTeardownDone_next (s : State) : NextCanonical s (execTeardownDone s) := by
  refine nextCanonical_of fun hs => ?_
  split
  · have h3 := State.teardownStep_wf _ (State.teardownStep_wf _ (State.teardownStep_wf s hs))
    simpa using State.commitParked_wf _ false h3
  · exact hs

/-! ## The commands of the queue manager -/

@[simp] theorem State.bellStore_mem (s : State) (wr : Writer) (q off : Nat) (data : List Byte) :
    (s.bellStore wr q off data).mem = s.mem := by
  unfold State.bellStore
  split <;> simp

@[simp] theorem State.bellFetch_mem (s : State) (wr : Writer) (q off n : Nat) :
    (s.bellFetch wr q off n).mem = s.mem := by
  unfold State.bellFetch
  split <;> simp

@[simp] theorem execDoorbellSubmit_next (wr : Writer) (q : Fin 512) (access : BellAccess) (s : State) : NextCanonical
    s (execDoorbellSubmit wr q access s) := nextCanonical_of fun hs => by simp [hs.wf]

@[simp] theorem execDoorbellCancel_next (wr : Writer) (q : Fin 512) (tag : Word) (s : State) : NextCanonical s
    (execDoorbellCancel wr q tag s) := nextCanonical_of fun hs => by simp [hs.wf]

@[simp] theorem execCompletionsConsumed_next (wr : Writer) (q : Fin 512) (n : BitVec 32) (s : State) : NextCanonical s
    (execCompletionsConsumed wr q n s) := nextCanonical_of fun hs => by simp [hs.wf]

@[simp] theorem execCompletionRecordWrite_next (q : Fin 512) (s : State) : NextCanonical s
    (execCompletionRecordWrite q s) := nextCanonical_of fun hs => by simp [hs.wf]

@[simp] theorem execJobDispatch_next (s : State) : NextCanonical s (execJobDispatch s) := nextCanonical_of fun hs =>
    by simp [hs.wf]

/-! ## What one microsecond with no command does -/

@[simp] theorem State.clockTick_mem (s : State) : s.clockTick.mem = s.mem := by
  simp [State.clockTick]

@[simp] theorem State.engineCycles_mem (s : State) : s.engineCycles.mem = s.mem := by
  simp [State.engineCycles]

@[simp] theorem State.keeperCycles_mem (s : State) : s.keeperCycles.mem = s.mem := by
  simp [State.keeperCycles]

@[simp] theorem State.spentTicks_mem (s : State) (n : Nat) : (s.spentTicks n).mem = s.mem := by
  simp [State.spentTicks]

@[simp] theorem State.gptpEdge_mem (s : State) (n : Nat) : (s.gptpEdge n).mem = s.mem := by
  simp [State.gptpEdge]

@[simp] theorem State.coreTick_mem (s : State) (n : Nat) : (s.coreTick n).mem = s.mem := by
  simp [State.coreTick]

@[simp] theorem State.tick_wf (s : State) (hs : s.Canonical) : Memory.wf s.tick.mem = true := by
  simp [State.tick, hs.wf]

/-! ## Commands and steps -/

/-- Each command answers a next state that keeps the canonical form. -/
theorem exec_next (i : Instr) (s : State) : NextCanonical s (exec i s) :=
  match i with
  | .porstNAssert => execPorstNAssert_next ..
  | .porstNRelease .. => execPorstNRelease_next ..
  | .sclkConfirmed => execSclkConfirmed_next ..
  | .sclkSubstitute => execSclkSubstitute_next ..
  | .aclkRetrim .. => execAclkRetrim_next ..
  | .vaonOutOfRange .. => execVaonOutOfRange_next ..
  | .ignWakeChange .. => execIgnWakeChange_next ..
  | .shorePwrChange .. => execShorePwrChange_next ..
  | .resetNAssert => execResetNAssert_next ..
  | .resetNRelease => execResetNRelease_next ..
  | .resetHeld => execResetHeld_next ..
  | .resetLineStuck => execResetLineStuck_next ..
  | .canParkedFrame .. => execCanParkedFrame_next ..
  | .realTimeAlarm => execRealTimeAlarm_next ..
  | .deferredWakeCommit => execDeferredWakeCommit_next ..
  | .requestParked .. => execRequestParked_next ..
  | .requestWake .. => execRequestWake_next ..
  | .requestBench .. => execRequestBench_next ..
  | .requestDrive .. => execRequestDrive_next ..
  | .coreDomainsPowered => execCoreDomainsPowered_next ..
  | .pllLock => execPllLock_next ..
  | .keeperLbistDone .. => execKeeperLbistDone_next ..
  | .cellarTrainingDone .. => execCellarTrainingDone_next ..
  | .engineLbistDone .. => execEngineLbistDone_next ..
  | .pcieLinkTrained => execPcieLinkTrained_next ..
  | .cellarZeroed => execCellarZeroed_next ..
  | .deliveredLength .. => execDeliveredLength_next ..
  | .deliveryDeadline => execDeliveryDeadline_next ..
  | .imageCheckDone => execImageCheckDone_next ..
  | .sectionsPlaced => execSectionsPlaced_next ..
  | .startupComplete => execStartupComplete_next ..
  | .readyHoldExpiry => execReadyHoldExpiry_next ..
  | .driveOffDelayExpiry => execDriveOffDelayExpiry_next ..
  | .teardownDone => execTeardownDone_next ..
  | .atticWriteDone .. => execAtticWriteDone_next ..
  | .dozeEntry => execDozeEntry_next ..
  | .polderClockGate .. => execPolderClockGate_next ..
  | .polderPowerGate .. => execPolderPowerGate_next ..
  | .polderWakeDone .. => execPolderWakeDone_next ..
  | .temperatureSample .. => execTemperatureSample_next ..
  | .handoverWipeDone => execHandoverWipeDone_next ..
  | .residentImageCheckDone => execResidentImageCheckDone_next ..
  | .handoverComplete => execHandoverComplete_next ..
  | .objectWrite .. => execObjectWrite_next ..
  | .clearingRead .. => execClearingRead_next ..
  | .timeBaseRead .. => execTimeBaseRead_next ..
  | .unlockFirstKey .. => execUnlockFirstKey_next ..
  | .unlockSecondKey .. => execUnlockSecondKey_next ..
  | .unlockWindowClose .. => execUnlockWindowClose_next ..
  | .sealedWrite .. => execSealedWrite_next ..
  | .stagedDownloadTimeout .. => execStagedDownloadTimeout_next ..
  | .mailboxUploadStart .. => execMailboxUploadStart_next ..
  | .mailboxNextSegment .. => execMailboxNextSegment_next ..
  | .mailboxDownloadStart .. => execMailboxDownloadStart_next ..
  | .mailboxSegmentWrite .. => execMailboxSegmentWrite_next ..
  | .mailboxCommit .. => execMailboxCommit_next ..
  | .mailboxAbort .. => execMailboxAbort_next ..
  | .mailboxTimeout .. => execMailboxTimeout_next ..
  | .journalLatch .. => execJournalLatch_next ..
  | .peerSlotRelease .. => execPeerSlotRelease_next ..
  | .functionLevelReset .. => execFunctionLevelReset_next ..
  | .perstNAssert => execPerstNAssert_next ..
  | .canPortTakeover => execCanPortTakeover_next ..
  | .nmtStart .. => execNmtStart_next ..
  | .nmtStop .. => execNmtStop_next ..
  | .nmtEnterPreoperational .. => execNmtEnterPreoperational_next ..
  | .nmtResetNode .. => execNmtResetNode_next ..
  | .nmtResetCommunication .. => execNmtResetCommunication_next ..
  | .nmtAutostart .. => execNmtAutostart_next ..
  | .usdoRequest .. => execUsdoRequest_next ..
  | .tpdoEventTimer .. => execTpdoEventTimer_next ..
  | .tpdoChange .. => execTpdoChange_next ..
  | .heartbeatTimer .. => execHeartbeatTimer_next ..
  | .emcyTransmit .. => execEmcyTransmit_next ..
  | .canCollision .. => execCanCollision_next ..
  | .releaseBlocks .. => execReleaseBlocks_next ..
  | .busOffRecovery .. => execBusOffRecovery_next ..
  | .udpDictRead .. => execUdpDictRead_next ..
  | .udpDictWrite .. => execUdpDictWrite_next ..
  | .udpUploadStart .. => execUdpUploadStart_next ..
  | .udpUploadNext .. => execUdpUploadNext_next ..
  | .udpDownloadStart .. => execUdpDownloadStart_next ..
  | .udpDownloadSegment .. => execUdpDownloadSegment_next ..
  | .udpDownloadCommit .. => execUdpDownloadCommit_next ..
  | .udpDictAbort .. => execUdpDictAbort_next ..
  | .csi2LinePacket .. => execCsi2LinePacket_next ..
  | .frameStart .. => execFrameStart_next ..
  | .frameEnd .. => execFrameEnd_next ..
  | .rangePacket .. => execRangePacket_next ..
  | .arpRequest .. => execArpRequest_next ..
  | .nearFieldWord .. => execNearFieldWord_next ..
  | .divertCopyDone .. => execDivertCopyDone_next ..
  | .sluiceSlotRelease .. => execSluiceSlotRelease_next ..
  | .livenessExpiry .. => execLivenessExpiry_next ..
  | .streamEnable .. => execStreamEnable_next ..
  | .streamDisable .. => execStreamDisable_next ..
  | .calibrationSetWrite .. => execCalibrationSetWrite_next ..
  | .calibrationAreaCommit => execCalibrationAreaCommit_next ..
  | .syncReceived .. => execSyncReceived_next ..
  | .announceReceived .. => execAnnounceReceived_next ..
  | .pdelayReqTimer => execPdelayReqTimer_next ..
  | .pdelayRespReceived .. => execPdelayRespReceived_next ..
  | .pdelayReqReceived .. => execPdelayReqReceived_next ..
  | .syncReceiptTimeout => execSyncReceiptTimeout_next ..
  | .announceReceiptTimeout => execAnnounceReceiptTimeout_next ..
  | .timeBaseStep => execTimeBaseStep_next ..
  | .timedLaunch .. => execTimedLaunch_next ..
  | .fusedStripRecord .. => execFusedStripRecord_next ..
  | .stripJobResubmit .. => execStripJobResubmit_next ..
  | .stripDeadline .. => execStripDeadline_next ..
  | .stripWithdraw .. => execStripWithdraw_next ..
  | .candidateCopy .. => execCandidateCopy_next ..
  | .suppressionStart => execSuppressionStart_next ..
  | .suppressionDone => execSuppressionDone_next ..
  | .objectListDeadline .. => execObjectListDeadline_next ..
  | .hazardHoldExpiry => execHazardHoldExpiry_next ..
  | .hazardInjectionTest .. => execHazardInjectionTest_next ..
  | .hazardReadbackFault => execHazardReadbackFault_next ..
  | .translationInvalidate .. => execTranslationInvalidate_next ..
  | .bar4Access .. => execBar4Access_next ..
  | .add .. => execAdd_next ..
  | .sub .. => execSub_next ..
  | .andR .. => execAndR_next ..
  | .orR .. => execOrR_next ..
  | .xor .. => execXor_next ..
  | .sll .. => execSll_next ..
  | .srl .. => execSrl_next ..
  | .sra .. => execSra_next ..
  | .slt .. => execSlt_next ..
  | .sltu .. => execSltu_next ..
  | .minR .. => execMinR_next ..
  | .maxR .. => execMaxR_next ..
  | .minu .. => execMinu_next ..
  | .maxu .. => execMaxu_next ..
  | .mul .. => execMul_next ..
  | .mulh .. => execMulh_next ..
  | .mulhu .. => execMulhu_next ..
  | .div .. => execDiv_next ..
  | .divu .. => execDivu_next ..
  | .rem .. => execRem_next ..
  | .remu .. => execRemu_next ..
  | .clz .. => execClz_next ..
  | .ctz .. => execCtz_next ..
  | .popc .. => execPopc_next ..
  | .addi .. => execAddi_next ..
  | .andi .. => execAndi_next ..
  | .ori .. => execOri_next ..
  | .xori .. => execXori_next ..
  | .slli .. => execSlli_next ..
  | .srli .. => execSrli_next ..
  | .srai .. => execSrai_next ..
  | .slti .. => execSlti_next ..
  | .sltiu .. => execSltiu_next ..
  | .addiw .. => execAddiw_next ..
  | .li .. => execLi_next ..
  | .lih .. => execLih_next ..
  | .lpc .. => execLpc_next ..
  | .beq .. => execBeq_next ..
  | .bne .. => execBne_next ..
  | .blt .. => execBlt_next ..
  | .bge .. => execBge_next ..
  | .bltu .. => execBltu_next ..
  | .bgeu .. => execBgeu_next ..
  | .j .. => execJ_next ..
  | .jal .. => execJal_next ..
  | .jr .. => execJr_next ..
  | .load .. => execLoad_next ..
  | .store .. => execStore_next ..
  | .swap h dbl ord sc rd rs1 rs2 => execSwap_next h dbl ord sc rd rs1 rs2 s
  | .amoAdd h dbl ord sc rd rs1 rs2 => execAmoAdd_next h dbl ord sc rd rs1 rs2 s
  | .amoAnd h dbl ord sc rd rs1 rs2 => execAmoAnd_next h dbl ord sc rd rs1 rs2 s
  | .amoOr h dbl ord sc rd rs1 rs2 => execAmoOr_next h dbl ord sc rd rs1 rs2 s
  | .amoXor h dbl ord sc rd rs1 rs2 => execAmoXor_next h dbl ord sc rd rs1 rs2 s
  | .amoMin h dbl ord sc rd rs1 rs2 => execAmoMin_next h dbl ord sc rd rs1 rs2 s
  | .amoMax h dbl ord sc rd rs1 rs2 => execAmoMax_next h dbl ord sc rd rs1 rs2 s
  | .amoMinu h dbl ord sc rd rs1 rs2 => execAmoMinu_next h dbl ord sc rd rs1 rs2 s
  | .amoMaxu h dbl ord sc rd rs1 rs2 => execAmoMaxu_next h dbl ord sc rd rs1 rs2 s
  | .cas h dbl ord sc rd rs1 rs2 => execCas_next h dbl ord sc rd rs1 rs2 s
  | .lda h dbl ord sc rd rs1 => execLda_next h dbl ord sc rd rs1 s
  | .sta h dbl ord sc rs1 rs2 => execSta_next h dbl ord sc rs1 rs2 s
  | .fence .. => execFence_next ..
  | .fenceI .. => execFenceI_next ..
  | .waitt .. => execWaitt_next ..
  | .bar .. => execBar_next ..
  | .yield .. => execYield_next ..
  | .vadd .. => execVadd_next ..
  | .vsub .. => execVsub_next ..
  | .vmul .. => execVmul_next ..
  | .vmulh .. => execVmulh_next ..
  | .vand .. => execVand_next ..
  | .vor .. => execVor_next ..
  | .vxor .. => execVxor_next ..
  | .vsll .. => execVsll_next ..
  | .vsrl .. => execVsrl_next ..
  | .vsra .. => execVsra_next ..
  | .vmin .. => execVmin_next ..
  | .vmax .. => execVmax_next ..
  | .vabs .. => execVabs_next ..
  | .vadds .. => execVadds_next ..
  | .vsubs .. => execVsubs_next ..
  | .vrshr .. => execVrshr_next ..
  | .vfadd .. => execVfadd_next ..
  | .vfsub .. => execVfsub_next ..
  | .vfmul .. => execVfmul_next ..
  | .vfma .. => execVfma_next ..
  | .vfmin .. => execVfmin_next ..
  | .vfmax .. => execVfmax_next ..
  | .vceq .. => execVceq_next ..
  | .vclt .. => execVclt_next ..
  | .vcle .. => execVcle_next ..
  | .vcltu .. => execVcltu_next ..
  | .vsel .. => execVsel_next ..
  | .vbcast .. => execVbcast_next ..
  | .vcvtif .. => execVcvtif_next ..
  | .vcvtfi .. => execVcvtfi_next ..
  | .vcvtfh .. => execVcvtfh_next ..
  | .vcvtfb .. => execVcvtfb_next ..
  | .vload .. => execVload_next ..
  | .vstore .. => execVstore_next ..
  | .vloadStrided .. => execVloadStrided_next ..
  | .vstoreStrided .. => execVstoreStrided_next ..
  | .vrsum .. => execVrsum_next ..
  | .vrmax .. => execVrmax_next ..
  | .vrmin .. => execVrmin_next ..
  | .vrargmax .. => execVrargmax_next ..
  | .vslideup .. => execVslideup_next ..
  | .vslidedown .. => execVslidedown_next ..
  | .vperm .. => execVperm_next ..
  | .vcompress .. => execVcompress_next ..
  | .vfirst .. => execVfirst_next ..
  | .top .. => execTop_next ..
  | .tmove .. => execTmove_next ..
  | .tensorOpDone .. => execTensorOpDone_next ..
  | .submit .. => execSubmit_next ..
  | .cancel .. => execCancel_next ..
  | .jobend .. => execJobend_next ..
  | .tsr .. => execTsr_next ..
  | .tsw .. => execTsw_next ..
  | .trap .. => execTrap_next ..
  | .brk .. => execBrk_next ..
  | .wfe .. => execWfe_next ..
  | .wfeWake .. => execWfeWake_next ..
  | .eret .. => execEret_next ..
  | .doorbellSubmit .. => execDoorbellSubmit_next ..
  | .doorbellCancel .. => execDoorbellCancel_next ..
  | .completionsConsumed .. => execCompletionsConsumed_next ..
  | .completionRecordWrite .. => execCompletionRecordWrite_next ..
  | .jobDispatch => execJobDispatch_next ..
  | .queueEnable .. => execQueueEnable_next ..
  | .enginePartitionMove .. => execEnginePartitionMove_next ..
  | .partitionMoveScrubDone .. => execPartitionMoveScrubDone_next ..
  | .partitionResetDone .. => execPartitionResetDone_next ..
  | .recurrenceSlotStep .. => execRecurrenceSlotStep_next ..
  | .recurrenceBatchStep .. => execRecurrenceBatchStep_next ..
  | .recurrenceStepDone => execRecurrenceStepDone_next ..
  | .samplingFilter .. => execSamplingFilter_next ..
  | .samplingGumbelMax .. => execSamplingGumbelMax_next ..
  | .samplingDone => execSamplingDone_next ..
  | .mix4Load .. => execMix4Load_next ..
  | .stateSlotStore .. => execStateSlotStore_next ..
  | .resetAllSlots .. => execResetAllSlots_next ..
  | .keeperLockstepMismatch .. => execKeeperLockstepMismatch_next ..
  | .aliveResponse .. => execAliveResponse_next ..
  | .aliveCheck => execAliveCheck_next ..
  | .safeErrToggle => execSafeErrToggle_next ..
  | .safeCommit => execSafeCommit_next ..
  | .keeperSplitRequest .. => execKeeperSplitRequest_next ..
  | .handoverAck .. => execHandoverAck_next ..
  | .keeperSplitCommit => execKeeperSplitCommit_next ..
  | .keeperSplitTimeout => execKeeperSplitTimeout_next ..
  | .keeperRejoinRequest .. => execKeeperRejoinRequest_next ..
  | .keeperRejoinAckTimeout => execKeeperRejoinAckTimeout_next ..
  | .keeperRejoinDone .. => execKeeperRejoinDone_next ..
  | .twinPeriodicCompare .. => execTwinPeriodicCompare_next ..
  | .postMismatchLbistDone .. => execPostMismatchLbistDone_next ..
  | .lbistWithdraw .. => execLbistWithdraw_next ..
  | .lbistSlotStart .. => execLbistSlotStart_next ..
  | .lbistSkip .. => execLbistSkip_next ..
  | .lbistTestDone .. => execLbistTestDone_next ..
  | .storeRoomScrub .. => execStoreRoomScrub_next ..
  | .cellarScrub .. => execCellarScrub_next ..
  | .clockMonitorFault .. => execClockMonitorFault_next ..
  | .railFault .. => execRailFault_next ..
  | .watchdogKick .. => execWatchdogKick_next ..
  | .watchdogExpiry => execWatchdogExpiry_next ..
  | .deadlockScan => execDeadlockScan_next ..
  | .dikeDrainExpiry .. => execDikeDrainExpiry_next ..
  | .dikeResetDone .. => execDikeResetDone_next ..
  | .dikeScrubDone .. => execDikeScrubDone_next ..
  | .dikeOpen .. => execDikeOpen_next ..
  | .polderResetRequest .. => execPolderResetRequest_next ..
  | .countSourceSample => execCountSourceSample_next ..
  | .weirHoldoffEnd .. => execWeirHoldoffEnd_next ..
  | .monitorClear .. => execMonitorClear_next ..
  | .counterBankClear .. => execCounterBankClear_next ..
  | .sampledInstructionDone .. => execSampledInstructionDone_next ..
  | .sampleBufferClear .. => execSampleBufferClear_next ..
  | .sampleRecordLatch .. => execSampleRecordLatch_next ..
  | .entryWipeDone => execEntryWipeDone_next ..
  | .depotSuspend .. => execDepotSuspend_next ..
  | .guestEnable .. => execGuestEnable_next ..
  | .guestStartDone .. => execGuestStartDone_next ..
  | .guestDisable .. => execGuestDisable_next ..
  | .guestWipeDone .. => execGuestWipeDone_next ..
  | .fleetJoin .. => execFleetJoin_next ..
  | .joinAck .. => execJoinAck_next ..
  | .fleetHeartbeat .. => execFleetHeartbeat_next ..
  | .fleetHeartbeatAck .. => execFleetHeartbeatAck_next ..
  | .fleetLeave .. => execFleetLeave_next ..
  | .jobOffer .. => execJobOffer_next ..
  | .jobAccept .. => execJobAccept_next ..
  | .jobRefuse .. => execJobRefuse_next ..
  | .jobStarted .. => execJobStarted_next ..
  | .checkpointReq .. => execCheckpointReq_next ..
  | .checkpointDone .. => execCheckpointDone_next ..
  | .jobDone .. => execJobDone_next ..
  | .jobEvict .. => execJobEvict_next ..
  | .jobEvicted .. => execJobEvicted_next ..
  | .fleetResendTimer => execFleetResendTimer_next ..
  | .workerHeartbeatTimer => execWorkerHeartbeatTimer_next ..
  | .managerLoss => execManagerLoss_next ..
  | .workerLoss .. => execWorkerLoss_next ..
  | .checkpointInterval .. => execCheckpointInterval_next ..
  | .managerJobSubmit .. => execManagerJobSubmit_next ..
  | .fleetJobOffer => execFleetJobOffer_next ..
  | .offerTimeout .. => execOfferTimeout_next ..
  | .quiesceDone => execQuiesceDone_next ..
  | .checkpointLimitExpiry => execCheckpointLimitExpiry_next ..
  | .exitWipeDone => execExitWipeDone_next ..
  | .hashBatchReady .. => execHashBatchReady_next ..
  | .haveQuery .. => execHaveQuery_next ..
  | .haveReply .. => execHaveReply_next ..
  | .fleetPull .. => execFleetPull_next ..
  | .fleetSegment .. => execFleetSegment_next ..
  | .notHeld .. => execNotHeld_next ..
  | .manifestOffer .. => execManifestOffer_next ..
  | .manifestResult .. => execManifestResult_next ..
  | .restoreFailed .. => execRestoreFailed_next ..
  | .segmentIdleTimeout .. => execSegmentIdleTimeout_next ..
  | .resultReoffer .. => execResultReoffer_next ..
  | .putChunk .. => execPutChunk_next ..
  | .putManifest .. => execPutManifest_next ..
  | .linkTrainingStepDone .. => execLinkTrainingStepDone_next ..
  | .linkTrainingFailure .. => execLinkTrainingFailure_next ..
  | .flitTimeout .. => execFlitTimeout_next ..
  | .dataFlit .. => execDataFlit_next ..
  | .nakFlit .. => execNakFlit_next ..
  | .creditInitFlit .. => execCreditInitFlit_next ..
  | .idleFlit .. => execIdleFlit_next ..
  | .replayTimeout .. => execReplayTimeout_next ..
  | .fuindHello .. => execFuindHello_next ..
  | .helloRetry .. => execHelloRetry_next ..
  | .fuindHeartbeat .. => execFuindHeartbeat_next ..
  | .fuindHeartbeatTimer => execFuindHeartbeatTimer_next ..
  | .deviceLoss .. => execDeviceLoss_next ..
  | .formationLimit => execFormationLimit_next ..
  | .fuindRecord .. => execFuindRecord_next ..
  | .fuindCompare .. => execFuindCompare_next ..
  | .compareUnmatched .. => execCompareUnmatched_next ..
  | .fuindImage .. => execFuindImage_next ..
  | .fuindDictionary .. => execFuindDictionary_next ..
  | .avsEvaluation .. => execAvsEvaluation_next ..
  | .avsNoResponse .. => execAvsNoResponse_next ..
  | .droopTrip => execDroopTrip_next ..
  | .droopRelease .. => execDroopRelease_next ..
  | .droopMarginEvaluation => execDroopMarginEvaluation_next ..
  | .powerSample .. => execPowerSample_next ..
  | .spillLevelEvaluation => execSpillLevelEvaluation_next ..
  | .disagreementHoldoffEnd => execDisagreementHoldoffEnd_next ..
  | .trstNAssert => execTrstNAssert_next ..
  | .extest => execExtest_next ..
  | .idcode => execIdcode_next ..
  | .samplePreload => execSamplePreload_next ..
  | .bypass => execBypass_next ..
  | .sdapObjectRead .. => execSdapObjectRead_next ..
  | .sdapObjectWrite .. => execSdapObjectWrite_next ..
  | .sdapHalt .. => execSdapHalt_next ..
  | .sdapResume .. => execSdapResume_next ..
  | .sdapStep .. => execSdapStep_next ..
  | .sdapSessionOpen => execSdapSessionOpen_next ..
  | .sdapSessionClose => execSdapSessionClose_next ..
  | .sdapDebugReset => execSdapDebugReset_next ..
  | .sdapEngineReset .. => execSdapEngineReset_next ..
  | .sdapMemoryRead .. => execSdapMemoryRead_next ..
  | .sdapMemoryWrite .. => execSdapMemoryWrite_next ..
  | .vaonReturnToRange => execVaonReturnToRange_next ..
  | .railReturnToRange .. => execRailReturnToRange_next ..
  | .pllLockRegained .. => execPllLockRegained_next ..
  | .ethernetLinkChange .. => execEthernetLinkChange_next ..
  | .pcieHotReset => execPcieHotReset_next ..
  | .canBusError .. => execCanBusError_next ..
  | .canSuccessfulTransmission .. => execCanSuccessfulTransmission_next ..
  | .illegalInstruction .. => execIllegalInstruction_next ..
  | .instructionFetchFault .. => execInstructionFetchFault_next ..

/-- A step answers a next state that keeps the canonical form. -/
theorem step_next (s : State) : NextCanonical s (step s) := by
  unfold step
  split
  · exact nextCanonical_of fun hs => State.tick_wf s hs
  · exact exec_next _ _

end Sys2Proof.Machine

namespace Sys2Proof

open Machine

/-- Settles O4: the reset state lists no cell, and a store and a clear keep the canonical form. -/
theorem memoryCanonicalAtReset : Obligations.MemoryCanonicalAtReset := by
  unfold Obligations.MemoryCanonicalAtReset
  exact ⟨rfl, fun s a bs => s.memWrite_wf a bs, fun s a n => s.memZero_wf a n⟩

/-- Settles O5: no arm of `exec` faults or is refused, and every function that writes memory keeps its canonical form. -/
theorem everyStepKeepsMemoryCanonical : Obligations.EveryStepKeepsMemoryCanonical := by
  unfold Obligations.EveryStepKeepsMemoryCanonical
  refine ⟨fun i s => ?_, fun s hs => ?_⟩
  · obtain ⟨t, ht, -⟩ := exec_next i s
    exact ⟨t, ht⟩
  · obtain ⟨t, ht, hkeeps⟩ := step_next s
    exact ⟨t, ht, hkeeps hs⟩

end Sys2Proof
end

section
/-! # What a store leaves behind it (O6): R250 -/

namespace Sys2Proof.Machine

open Sys2Proof

/-- The bytes that were stored read back as a run. -/
theorem State.memBytes_memWrite_self (s : State) (a : Nat) (bs : List Byte) : (s.memWrite a bs).memBytes a bs.length = bs := by
  refine List.ext_getElem (by simp [State.memBytes]) fun k hk _ => ?_
  have hlt : k < bs.length := by simpa [State.memBytes] using hk
  simp [State.memBytes, State.memByte_memWrite, hlt]

/-- A word that a store covers whole is poisoned no longer. -/
theorem State.not_mem_poison_memWrite (s : State) {a w : Nat} {bs : List Byte} (ha : a ≤ w) (hw : w + 8 ≤ a + bs.length) :
    w ∉ (s.memWrite a bs).poison := by
  simp [State.memWrite, wordsWithin, ha, hw]

end Sys2Proof.Machine

namespace Sys2Proof

open Machine

/-- Settles O6, from what a store and a clear do to one byte. -/
theorem memoryReadsBackWhatWasStored : Obligations.MemoryReadsBackWhatWasStored := by
  unfold Obligations.MemoryReadsBackWhatWasStored
  exact ⟨State.memByte_memWrite, State.memByte_memZero, State.memBytes_memWrite_self,
    fun s _ _ _ ha hw => s.not_mem_poison_memWrite ha hw⟩

end Sys2Proof
end

section
/-! # Loads, stores and atomics (O13, O14, O15): R242 to R246, R250, R263 to R265 -/

namespace Sys2Proof.Machine

open Sys2Proof

variable {s : State} {h : Hart}

/-! ## Where an instruction's execution leads -/

/-- An instruction that retires past itself. -/
theorem State.execute_of_next {q : Pipe} {len : Nat} {k : State → Ctx → Ran} {t : State} {c : Ctx}
    (e : k (s.issued h q) (s.ctx h) = .next t c) :
    s.execute h q len k = t.retired h { c with pc := c.pc + BitVec.ofNat 64 len } := by
  simp only [State.execute, e]

/-- An instruction that raises an exception. -/
theorem State.execute_of_raise {q : Pipe} {len : Nat} {k : State → Ctx → Ran} {t : State} {code a : Nat}
    (e : k (s.issued h q) (s.ctx h) = .raise t code a) : s.execute h q len k = t.exc h code a := by
  simp only [State.execute, e]

/-! ## Accesses of memory cells -/

/-- A state after a load from cells by a hart: the counter banks and the hart's own L1 data lines may differ. -/
def OwnLoad (h : Hart) (s t : State) : Prop :=
  ∃ b l, t = { s with banks := b, l1 := l } ∧
    ∀ k, (∀ c : Fin 4, h = .keeper c → k ≠ s.l1Key c.val) → Amap.get [] l k = Amap.get [] s.l1 k

/-- A state after any access of cells by a hart: memory and poison may differ too. -/
def OwnAccess (h : Hart) (s t : State) : Prop :=
  ∃ b m p l, t = { s with banks := b, mem := m, poison := p, l1 := l } ∧
    ∀ k, (∀ c : Fin 4, h = .keeper c → k ≠ s.l1Key c.val) → Amap.get [] l k = Amap.get [] s.l1 k

theorem OwnLoad.refl (h : Hart) (s : State) : OwnLoad h s s := ⟨s.banks, s.l1, rfl, fun _ _ => rfl⟩

theorem OwnLoad.access {t : State} (ht : OwnLoad h s t) : OwnAccess h s t := by
  obtain ⟨b, l, rfl, hl⟩ := ht
  exact ⟨b, s.mem, s.poison, l, rfl, hl⟩

/-- Counting an access is such a load. -/
theorem OwnLoad.perf (h : Hart) (s : State) (w : Bool) (a n : Nat) : OwnLoad h s (s.accessPerf h w a n) := by
  obtain ⟨b, hb⟩ := s.accessPerf_banks h w a n
  exact ⟨b, s.l1, hb, fun _ _ => rfl⟩

theorem OwnLoad.trans {t u : State} (h1 : OwnLoad h s t) (h2 : OwnLoad h t u) : OwnLoad h s u := by
  obtain ⟨b, l, rfl, hl⟩ := h1
  obtain ⟨b', l', rfl, hl'⟩ := h2
  exact ⟨b', l', rfl, fun k hk => (hl' k hk).trans (hl k hk)⟩

theorem OwnAccess.trans {t u : State} (h1 : OwnAccess h s t) (h2 : OwnAccess h t u) : OwnAccess h s u := by
  obtain ⟨b, m, p, l, rfl, hl⟩ := h1
  obtain ⟨b', m', p', l', rfl, hl'⟩ := h2
  exact ⟨b', m', p', l', rfl, fun k hk => (hl' k hk).trans (hl k hk)⟩

/-- After such an access and the hart's retirement, the rest of the state is the same. -/
theorem OwnAccess.sameOthers {q : Pipe} {t : State} (ht : OwnAccess h (s.issued h q) t) (c : Ctx) :
    SameOthers h s (t.retired h c) := by
  obtain ⟨b, m, p, l, rfl, hl⟩ := ht
  refine sameOthers_stored s h q c b m p l fun k hk => ?_
  rw [← State.issued_l1 s h q]
  refine hl k fun d hd => ?_
  subst hd
  exact hk d rfl

/-- After a load and the hart's retirement, memory is the same. -/
theorem OwnLoad.sameMemory {q : Pipe} {t : State} (ht : OwnLoad h (s.issued h q) t) (c : Ctx) : SameMemory s (t.retired h c) := by
  obtain ⟨b, l, rfl, -⟩ := ht
  exact ⟨fun a => by simp [State.memByte], by simp⟩

/-- Counting an access leaves memory. -/
theorem State.memNat_accessPerf (w : Bool) (a n pa k : Nat) : (s.accessPerf h w a n).memNat pa k = s.memNat pa k := by
  obtain ⟨b, hb⟩ := s.accessPerf_banks h w a n
  rw [hb]; rfl

/-- A line that holds what memory does gives it, and no free value is taken (R246). -/
theorem State.l1Load_fresh {c : Fin 4} {pa n : Nat} (hf : Fresh (.keeper c) pa n s) :
    ∃ l, s.l1Load c.val pa n = (s.memBytes pa n, { s with l1 := l }) ∧
      ∀ k, k ≠ s.l1Key c.val → Amap.get [] l k = Amap.get [] s.l1 k := by
  unfold State.l1Load
  split
  · exact ⟨s.l1, rfl, fun _ _ => rfl⟩
  · dsimp only
    split
    · exact ⟨_, rfl, fun k hk => Amap.get_set_other _ _ _ hk⟩
    · next l hl =>
      have hbase : l.1 = pa / 64 * 64 := by simpa using List.find?_some hl
      have hhit := hf c rfl l (List.mem_of_find?_eq_some hl) hbase
      rw [if_pos hhit, hhit]
      exact ⟨s.l1, rfl, fun _ _ => rfl⟩

/-- A load from cells gives the bytes of memory, where the hart's lines hold no other. -/
theorem State.loadFrom_fresh {pa n : Nat} (m : Option Nat) (hf : Fresh h pa n s) :
    (s.loadFrom h (.cells pa m) n).1 = s.memBytes pa n ∧ OwnLoad h s (s.loadFrom h (.cells pa m) n).2 := by
  cases h with
  | ctx g => exact ⟨rfl, OwnLoad.refl _ s⟩
  | keeper c =>
    obtain ⟨l, hl, hk⟩ := State.l1Load_fresh hf
    simp only [State.loadFrom, hl]
    exact ⟨trivial, s.banks, l, rfl, fun k h' => hk k (h' c rfl)⟩

/-- A store at cells writes its bytes there and at the twin's, and the hart's own line. -/
theorem State.storeTo_cells (pa : Nat) (m : Option Nat) (bs : List Byte) :
    OwnAccess h s (s.storeTo h (.cells pa m) bs) ∧ Stores pa m bs s (s.storeTo h (.cells pa m) bs) := by
  obtain ⟨hst, mm, p, hc⟩ := s.cellsWrite_stores pa m bs
  cases h with
  | ctx g => exact ⟨⟨s.banks, mm, p, s.l1, hc, fun _ _ => rfl⟩, hst⟩
  | keeper c =>
    refine ⟨?_, hst⟩
    simp only [State.storeTo, hc]
    exact ⟨s.banks, mm, p, _, rfl, fun k hk => Amap.get_set_other _ _ _ (hk c rfl)⟩

/-- What a store changes depends on the memory before it alone. -/
theorem stores_congr {s u t : State} {a : Nat} {m : Option Nat} {bs : List Byte} (hm : u.mem = s.mem) (hp : u.poison = s.poison)
    (ht : Stores a m bs u t) : Stores a m bs s t := by
  simpa only [Stores, State.memByte, hm, hp] using ht

/-- An access of cells by an instruction that has issued finds the memory that was there. -/
theorem fresh_counted {q : Pipe} {w : Bool} {a k pa n : Nat} (hf : Fresh h pa n s) :
    Fresh h pa n ((s.issued h q).accessPerf h w a k) := by
  cases h with
  | ctx g => exact fun c hc => nomatch hc
  | keeper c => exact hf

/-! ## Checks of an access -/

theorem State.access_read_cells {a n pa : Nat} {m : Option Nat} {bs : List Byte} (ha : a % n = 0)
    (hp : s.place (.hart h) .read a = .inr (.cells pa m)) (hq : s.poisoned pa n = false) :
    s.access h .read a n bs = .ok (.cells pa m) := by
  simp [State.access, State.reach, ha, hp, hq]

theorem State.access_write_cells {a n pa : Nat} {m : Option Nat} {bs : List Byte} (ha : a % n = 0)
    (hp : s.place (.hart h) .write a = .inr (.cells pa m)) : s.access h .write a n bs = .ok (.cells pa m) := by
  simp [State.access, State.reach, ha, hp]

/-- A misaligned access faults with kind 7, before any other fault (log entry 12). -/
theorem State.access_misaligned {acc : Acs} {a n : Nat} {bs : List Byte} (ha : a % n ≠ 0) :
    s.access h acc a n bs = .fault 7 := by
  simp [State.access, State.reach, ha]

/-- A load of a poisoned word faults with kind 6. -/
theorem State.access_poisoned {a n pa : Nat} {m : Option Nat} {bs : List Byte} (ha : a % n = 0)
    (hp : s.place (.hart h) .read a = .inr (.cells pa m)) (hq : s.poisoned pa n = true) : s.access h .read a n bs = .fault 6 := by
  simp [State.access, State.reach, ha, hp, hq]

/-- A load on which the code finds nothing is made where its check allows it. -/
theorem State.loadThen_of_ok {a n : Nat} {k : State → Nat → Ran} {p : Place} (e : s.access h .read a n [] = .ok p) :
    s.loadThen h a n .clean k =
      k ((s.accessPerf h false a n).loadFrom h p n).2 (leVal ((s.accessPerf h false a n).loadFrom h p n).1) := by
  unfold State.loadThen
  extract_lets t
  have ht : t = s := by
    unfold t
    split
    · split <;> rfl
    · rfl
  simp only [ht, e]

/-- A load on which the code finds nothing raises the fault of its check. -/
theorem State.loadThen_of_fault {a n : Nat} {k : State → Nat → Ran} {kd : Nat} (e : s.access h .read a n [] = .fault kd) :
    s.loadThen h a n .clean k = .raise s (0x10 + kd) a := by
  unfold State.loadThen
  extract_lets t
  have ht : t = s := by
    unfold t
    split
    · split <;> rfl
    · rfl
  simp only [ht, e]

/-- A store on which the twins agree is made where its check allows it. -/
theorem State.storeThen_of_ok {c : Ctx} {a : Nat} {bs : List Byte} {p : Place} (e : s.access h .write a bs.length bs = .ok p) :
    s.storeThen h c a bs true = .next ((s.accessPerf h true a bs.length).storeTo h p bs) c := by
  simp [State.storeThen, e]

/-- A store raises the fault of its check. -/
theorem State.storeThen_of_fault {c : Ctx} {a : Nat} {bs : List Byte} {kd : Nat} {agree : Bool}
    (e : s.access h .write a bs.length bs = .fault kd) : s.storeThen h c a bs agree = .raise s (0x10 + kd) a := by
  simp [State.storeThen, e]

/-! ## Retiring after an access -/

/-- A register written and the PC moved past a word: what the claims say of the hart. -/
theorem retired_putReg (t : State) (rd : Fin 32) (v : Word) :
    RegWritten (s.ctx h) ((t.retired h { (s.ctx h).put rd v with pc := (s.ctx h).pc + 4 }).ctx h) rd v ∧
    ((t.retired h { (s.ctx h).put rd v with pc := (s.ctx h).pc + 4 }).ctx h).pc = (s.ctx h).pc + 4 ∧
    SameWords (s.ctx h) ((t.retired h { (s.ctx h).put rd v with pc := (s.ctx h).pc + 4 }).ctx h) := by
  rw [State.retired_ctx]
  exact ⟨regWritten_put _ _ _ _, rfl, sameWords_put _ _ _ _⟩

/-- The PC alone moved past a word. -/
theorem retired_movePc (t : State) :
    (∀ r, ((t.retired h { s.ctx h with pc := (s.ctx h).pc + 4 }).ctx h).get r = (s.ctx h).get r) ∧
    ((t.retired h { s.ctx h with pc := (s.ctx h).pc + 4 }).ctx h).pc = (s.ctx h).pc + 4 ∧
    SameWords (s.ctx h) ((t.retired h { s.ctx h with pc := (s.ctx h).pc + 4 }).ctx h) := by
  rw [State.retired_ctx]
  exact ⟨fun r => rfl, rfl, rfl, rfl, rfl, rfl, rfl, rfl, rfl, rfl, rfl, rfl, rfl, rfl, rfl, rfl, rfl, rfl⟩

/-- What a store has changed stands when its hart retires. -/
theorem stores_retired {q : Pipe} {t : State} {a : Nat} {m : Option Nat} {bs : List Byte} (c : Ctx)
    (ht : Stores a m bs (s.issued h q) t) : Stores a m bs s (t.retired h c) := by
  have hs := stores_congr (State.issued_mem s h q) (State.issued_poison s h q) ht
  simpa only [Stores, State.memByte, State.retired_mem, State.retired_poison] using hs

/-- An instruction that has loaded and writes a register. -/
theorem OwnLoad.loadsReg {q : Pipe} {t : State} (ht : OwnLoad h (s.issued h q) t) (rd : Fin 32) (v : Word) :
    LoadsReg h rd v s (t.retired h { (s.ctx h).put rd v with pc := (s.ctx h).pc + 4 }) := by
  obtain ⟨hreg, hpc, hwords⟩ := retired_putReg (s := s) (h := h) t rd v
  exact ⟨hreg, hpc, hwords, ht.access.sameOthers _, ht.sameMemory _⟩

/-- An instruction that has stored and writes a register. -/
theorem OwnAccess.writesRegStores {q : Pipe} {t : State} {a : Nat} {m : Option Nat} {bs : List Byte}
    (ht : OwnAccess h (s.issued h q) t) (hst : Stores a m bs (s.issued h q) t) (rd : Fin 32) (v : Word) :
    WritesRegStores h rd v a m bs s (t.retired h { (s.ctx h).put rd v with pc := (s.ctx h).pc + 4 }) := by
  obtain ⟨hreg, hpc, hwords⟩ := retired_putReg (s := s) (h := h) t rd v
  exact ⟨hreg, hpc, hwords, ht.sameOthers _, stores_retired _ hst⟩

/-- An instruction that has stored. -/
theorem OwnAccess.storesOnly {q : Pipe} {t : State} {a : Nat} {m : Option Nat} {bs : List Byte}
    (ht : OwnAccess h (s.issued h q) t) (hst : Stores a m bs (s.issued h q) t) :
    StoresOnly h a m bs s (t.retired h { s.ctx h with pc := (s.ctx h).pc + 4 }) := by
  obtain ⟨hreg, hpc, hwords⟩ := retired_movePc (s := s) (h := h) t
  exact ⟨hreg, hpc, hwords, ht.sameOthers _, stores_retired _ hst⟩

/-- A store, counted first: what it may change and what it writes. -/
theorem storeTo_counted (a k pa : Nat) (m : Option Nat) (bs : List Byte) :
    OwnAccess h s ((s.accessPerf h true a k).storeTo h (.cells pa m) bs) ∧
    Stores pa m bs s ((s.accessPerf h true a k).storeTo h (.cells pa m) bs) := by
  obtain ⟨hacc, hst⟩ := State.storeTo_cells (h := h) (s := s.accessPerf h true a k) pa m bs
  obtain ⟨b, hb⟩ := s.accessPerf_banks h true a k
  exact ⟨(OwnLoad.perf h s true a k).access.trans hacc, stores_congr (by rw [hb]) (by rw [hb]) hst⟩

/-! ## Loads and stores -/

variable {size : Fin 4} {sext : Bool} {rd rs1 : Fin 32} {imm : BitVec 14} {pa : Nat} {m : Option Nat}

/-- A load from cells on a hart that issues: the state. -/
theorem execLoad_cells (hr : s.runs h = true) (ha : (s.ctx h).ea rs1 imm % 2 ^ size.val = 0)
    (hp : Reaches s h .read ((s.ctx h).ea rs1 imm) (.cells pa m)) (hq : s.poisoned pa (2 ^ size.val) = false)
    (hx : size ≠ 3 ∨ sext = false) :
    let t := (s.issued h .memory).accessPerf h false ((s.ctx h).ea rs1 imm) (2 ^ size.val)
    let r := t.loadFrom h (.cells pa m) (2 ^ size.val)
    execLoad h size sext rd rs1 imm .clean s =
      .next (r.2.retired h { (s.ctx h).put rd (loadValue (2 ^ size.val) sext (leVal r.1)) with pc := (s.ctx h).pc + 4 }) := by
  have hlegal : ¬ (size = 3 && sext) = true := by
    rcases hx with hx | hx <;> simp [hx]
  have hcheck : (s.issued h .memory).access h .read ((s.ctx h).ea rs1 imm) (2 ^ size.val) [] = .ok (.cells pa m) :=
    State.access_read_cells ha hp (by simpa [State.poisoned] using hq)
  unfold execLoad
  rw [State.instr_runs s hr, State.execute_of_next (by rw [if_neg hlegal, State.loadThen_of_ok hcheck])]
  simp

/-- What a load of cells reads, where the hart's lines hold no other bytes: the word in memory. -/
theorem loadFrom_counted {q : Pipe} {a k n : Nat} (hf : Fresh h pa n s) :
    let r := ((s.issued h q).accessPerf h false a k).loadFrom h (.cells pa m) n
    leVal r.1 = s.memNat pa n ∧ OwnLoad h (s.issued h q) r.2 := by
  obtain ⟨hbytes, hown⟩ := State.loadFrom_fresh m (fresh_counted (q := q) (w := false) (a := a) (k := k) hf)
  refine ⟨?_, (OwnLoad.perf h _ false a k).trans hown⟩
  rw [hbytes]
  exact (State.memNat_accessPerf _ _ _ _ _).trans (congrArg leVal (List.map_congr_left fun x _ => by simp [State.memByte]))

/-- A load of bytes that a line of the hart holds gives those of memory or those of the line (R246). -/
theorem State.l1Load_old {c : Fin 4} {n : Nat} {l : List Byte} (hl : s.l1Holds pa = true)
    (hline : (Amap.get [] s.l1 (s.l1Key c.val)).find? (fun e => e.1 = pa / 64 * 64) = some (pa / 64 * 64, l)) :
    (s.l1Load c.val pa n).1 = s.memBytes pa n ∨ (s.l1Load c.val pa n).1 = slice l (pa % 64) n := by
  unfold State.l1Load
  rw [if_neg (by simp [hl])]
  dsimp only
  rw [hline]
  dsimp only
  split
  · exact .inr rfl
  · split
    · exact .inr rfl
    · exact .inl rfl

/-- A number as bytes has the length asked for. -/
theorem leBytes_length : ∀ n v : Nat, (leBytes n v).length = n
  | 0, _ => rfl
  | n + 1, v => congrArg (· + 1) (leBytes_length n (v / 256))

/-- A store to cells on a hart that issues. -/
theorem storesOnly_execStore {rs2 : Fin 32} (hr : s.runs h = true) (ha : (s.ctx h).ea rs1 imm % 2 ^ size.val = 0)
    (hp : Reaches s h .write ((s.ctx h).ea rs1 imm) (.cells pa m)) :
    Answers (.store h size rs2 rs1 imm true) s (StoresOnly h pa m (leBytes (2 ^ size.val) ((s.ctx h).get rs2).toNat) s) := by
  let bs := leBytes (2 ^ size.val) ((s.ctx h).get rs2).toNat
  have hcheck : (s.issued h .memory).access h .write ((s.ctx h).ea rs1 imm) bs.length bs = .ok (.cells pa m) :=
    State.access_write_cells (by rwa [leBytes_length]) hp
  obtain ⟨hown, hst⟩ := storeTo_counted (s := s.issued h .memory) (h := h) ((s.ctx h).ea rs1 imm) bs.length pa m bs
  refine answers_next (congrArg Host.Outcome.next ?_) (hown.storesOnly hst)
  rw [State.instr_runs s hr, State.execute_of_next (State.storeThen_of_ok hcheck)]
  rfl

/-! ## Atomics (R264) -/

section Atomic

variable {dbl : Bool} {rs1 rs2 rd : Fin 32} {pa : Nat} {m : Option Nat}

/-- An instruction that issues finds the words of memory that were there. -/
theorem State.memNat_issued (s : State) (h : Hart) (q : Pipe) (k n : Nat) : (s.issued h q).memNat k n = s.memNat k n :=
  congrArg leVal (List.map_congr_left fun x _ => by simp [State.memByte])

/-- What an atomic finds on a hart that issues: an aligned address in an area that takes atomics, at cells without poison. -/
structure AtomicAt (h : Hart) (dbl : Bool) (rs1 : Fin 32) (acc : Acs) (pa : Nat) (m : Option Nat) (s : State) : Prop where
  runs : s.runs h = true
  aligned : ((s.ctx h).get rs1).toNat % amoBytes dbl = 0
  area : ((s.ctx h).get rs1).toNat < keeperBase ∨ mapped ((s.ctx h).get rs1).toNat = false
  clean : s.poisoned pa (amoBytes dbl) = false
  reaches : Reaches s h acc ((s.ctx h).get rs1).toNat (.cells pa m)

/-- The old word that an atomic has read, counted where it reads. -/
def State.atomicRead (s : State) (h : Hart) (reads : Bool) (a n : Nat) : State := if reads then s.accessPerf h false a n else s

theorem State.atomicRead_own (reads : Bool) (a n : Nat) :
    OwnLoad h s (s.atomicRead h reads a n) ∧ (s.atomicRead h reads a n).l1 = s.l1 := by
  unfold State.atomicRead
  split
  · obtain ⟨b, hb⟩ := s.accessPerf_banks h false a n
    exact ⟨OwnLoad.perf h s false a n, by rw [hb]⟩
  · exact ⟨OwnLoad.refl h s, rfl⟩

/-- An atomic at such a place: its state. -/
theorem State.atomic_cells {reads writes : Bool} {f : Ctx → Nat → Option Nat} {g : Ctx → Nat → Ctx}
    (hat : AtomicAt h dbl rs1 (if writes then .write else .read) pa m s) :
    let a := ((s.ctx h).get rs1).toNat
    let c := g (s.ctx h) (s.memNat pa (amoBytes dbl))
    let t := (s.issued h .memory).atomicRead h reads a (amoBytes dbl)
    s.atomic h dbl rs1 reads writes f g =
      (match f (s.ctx h) (s.memNat pa (amoBytes dbl)) with
        | none => t
        | some v => (t.accessPerf h true a (amoBytes dbl)).storeTo h (.cells pa m) (leBytes (amoBytes dbl) v)).retired h
          { c with pc := c.pc + 4 } := by
  obtain ⟨hr, ha, harea, hq, hp⟩ := hat
  have hatomic : atomicArea ((s.ctx h).get rs1).toNat = true := by simpa [atomicArea] using harea
  have hclean : (s.issued h .memory).badWord (.cells pa m) (amoBytes dbl) = false := by
    simpa [State.badWord, State.poisoned] using hq
  have hword : (s.issued h .memory).wordAt (.cells pa m) (amoBytes dbl) = s.memNat pa (amoBytes dbl) :=
    State.memNat_issued s h _ _ _
  unfold Reaches at hp
  extract_lets a c t
  unfold State.atomic
  rw [State.instr_runs s hr]
  cases hf : f (s.ctx h) (s.memNat pa (amoBytes dbl)) with
  | none =>
    refine State.execute_of_next (c := c) ?_
    simp [ha, hatomic, hp, hclean, hword, hf, a, c, t, State.atomicRead]
  | some v =>
    refine State.execute_of_next (c := c) ?_
    simp [ha, hatomic, hp, hclean, hword, hf, a, c, t, State.atomicRead]

/-- An atomic that stores: what it may change and what it writes. -/
theorem State.atomicRead_storeTo (reads : Bool) (a n : Nat) (bs : List Byte) :
    OwnAccess h s (((s.atomicRead h reads a n).accessPerf h true a n).storeTo h (.cells pa m) bs) ∧
    Stores pa m bs s (((s.atomicRead h reads a n).accessPerf h true a n).storeTo h (.cells pa m) bs) := by
  obtain ⟨hload, -⟩ := State.atomicRead_own (h := h) (s := s) reads a n
  obtain ⟨hown, hst⟩ := storeTo_counted (h := h) (s := s.atomicRead h reads a n) a n pa m bs
  obtain ⟨b, l, ht, -⟩ := id hload
  exact ⟨hload.access.trans hown, stores_congr (by rw [ht]) (by rw [ht]) hst⟩

/-- The old word in a register: sign-extended for 4 bytes. -/
theorem amoOld_eq (dbl : Bool) (v : Nat) :
    amoOld dbl v = if dbl then BitVec.ofNat 64 v else (BitVec.ofNat 32 v).signExtend 64 := by
  cases dbl with
  | true => rfl
  | false =>
    show BitVec.ofInt 64 (toSigned 32 v) = BitVec.ofInt 64 (BitVec.ofNat 32 v).toInt
    congr 1
    rw [BitVec.toInt_eq_toNat_bmod, BitVec.toNat_ofNat]
    simp only [toSigned, Int.bmod]
    omega

/-- An atomic that stores and puts the old word in a register. -/
theorem writesRegStores_atomic {reads : Bool} {f : Ctx → Nat → Option Nat} {v : Nat} (hat : AtomicAt h dbl rs1 .write pa m s)
    (hf : f (s.ctx h) (s.memNat pa (amoBytes dbl)) = some v) :
    WritesRegStores h rd (amoOld dbl (s.memNat pa (amoBytes dbl))) pa m (leBytes (amoBytes dbl) v) s
      (s.atomic h dbl rs1 reads true f fun c old => c.put rd (amoOld dbl old)) := by
  rw [State.atomic_cells (writes := true) hat, hf]
  obtain ⟨hown, hst⟩ := State.atomicRead_storeTo (s := s.issued h .memory) (h := h) (pa := pa) (m := m) reads
    ((s.ctx h).get rs1).toNat (amoBytes dbl) (leBytes (amoBytes dbl) v)
  simpa using hown.writesRegStores hst rd (amoOld dbl (s.memNat pa (amoBytes dbl)))

/-- An atomic that stores alone. -/
theorem storesOnly_atomic {reads : Bool} {f : Ctx → Nat → Option Nat} {v : Nat} (hat : AtomicAt h dbl rs1 .write pa m s)
    (hf : f (s.ctx h) (s.memNat pa (amoBytes dbl)) = some v) :
    StoresOnly h pa m (leBytes (amoBytes dbl) v) s (s.atomic h dbl rs1 reads true f fun c _ => c) := by
  rw [State.atomic_cells (writes := true) hat, hf]
  obtain ⟨hown, hst⟩ := State.atomicRead_storeTo (s := s.issued h .memory) (h := h) (pa := pa) (m := m) reads
    ((s.ctx h).get rs1).toNat (amoBytes dbl) (leBytes (amoBytes dbl) v)
  exact hown.storesOnly hst

/-- An atomic that stores nothing puts the old word in a register and leaves the rest, its hart's lines too. -/
theorem writesReg_atomic {reads writes : Bool} {f : Ctx → Nat → Option Nat}
    (hat : AtomicAt h dbl rs1 (if writes then .write else .read) pa m s)
    (hf : f (s.ctx h) (s.memNat pa (amoBytes dbl)) = none) :
    WritesReg h rd (amoOld dbl (s.memNat pa (amoBytes dbl))) 4 s
      (s.atomic h dbl rs1 reads writes f fun c old => c.put rd (amoOld dbl old)) := by
  rw [State.atomic_cells hat, hf]
  obtain ⟨hown, hl⟩ := State.atomicRead_own (h := h) (s := s.issued h .memory) reads ((s.ctx h).get rs1).toNat (amoBytes dbl)
  obtain ⟨hreg, hpc, hwords, hothers, hmem⟩ := hown.loadsReg rd (amoOld dbl (s.memNat pa (amoBytes dbl)))
  simp only [Ctx.put_pc]
  exact ⟨hreg, hpc, hwords, ⟨hothers, (State.retired_l1 _ h _).trans (hl.trans (State.issued_l1 s h .memory))⟩, hmem⟩

end Atomic

/-! ## LDA, fences and waits (R264, R265) -/

/-- An instruction that issues and does nothing else moves the PC alone. -/
theorem movesPc_retired (q : Pipe) : MovesPc h ((s.ctx h).pc + 4) s
    ((s.issued h q).retired h { s.ctx h with pc := (s.ctx h).pc + 4 }) := by
  obtain ⟨hreg, hpc, hwords⟩ := retired_movePc (s := s) (h := h) (s.issued h q)
  exact ⟨hreg, hpc, hwords, sameBeside_retired s h q _, sameMemory_retired s h q _⟩

/-- An instruction whose code does nothing moves the PC alone. -/
theorem movesPc_instr {q : Pipe} {k : State → Ctx → Ran} (hr : s.runs h = true)
    (hk : k (s.issued h q) (s.ctx h) = .next (s.issued h q) (s.ctx h)) : MovesPc h ((s.ctx h).pc + 4) s (s.instr h q k) := by
  rw [State.instr_runs s hr, State.execute_of_next hk]
  exact movesPc_retired q

/-- A core whose lines have been emptied holds no bytes other than memory's. -/
theorem fresh_l1Clear (k : Fin 4) (c : Ctx) (pa n : Nat) : Fresh (.keeper k) pa n ((s.l1Clear k.val).retired (.keeper k) c) := by
  intro k' hk l hl
  cases hk
  have hempty : Amap.get [] ((s.l1Clear k.val).retired (.keeper k) c).l1 (s.l1Key k.val) = [] := by
    rw [State.retired_l1]
    exact Amap.get_set_self [] s.l1 (s.l1Key k.val) []
  rw [show ((s.l1Clear k.val).retired (.keeper k) c).l1Key k.val = s.l1Key k.val from rfl, hempty] at hl
  cases hl

end Sys2Proof.Machine

namespace Sys2Proof

open Sys2Proof.Machine

/-- Settles O13: from the check of an access, what a load of cells reads past the hart's L1 lines, and what a store of cells
writes. -/
theorem loadsAndStoresMoveBytes : Obligations.LoadsAndStoresMoveBytes := by
  unfold Obligations.LoadsAndStoresMoveBytes
  intro h size sext rd rs1 imm s pa m hr n a ha extended
  refine ⟨fun hp hq hf hx => ?_, fun k l hk hp hq hl hline hx => ?_, fun rs2 hp => storesOnly_execStore hr ha hp⟩
  · obtain ⟨hval, hown⟩ := loadFrom_counted (m := m) (q := .memory) (a := a) (k := n) hf
    refine answers_next (execLoad_cells hr ha hp hq hx) ?_
    rw [← hval]
    exact hown.loadsReg rd _
  · subst hk
    refine answers_next (execLoad_cells hr ha hp hq hx) ?_
    have hbytes : s.memNat pa n = leVal ((s.issued (.keeper k) .memory).memBytes pa n) := rfl
    rcases State.l1Load_old (s := s.issued (.keeper k) .memory) (c := k) (n := n) hl hline with hr' | hr'
    · refine .inl ?_
      rw [hbytes, ← hr']
      exact (retired_putReg _ rd _).1
    · refine .inr ?_
      rw [← hr']
      exact (retired_putReg _ rd _).1

/-- Settles O14: each atomic is `State.atomic`, which at cells stores what its function says and puts the old word. -/
theorem atomicsReadThenWriteOneWord : Obligations.AtomicsReadThenWriteOneWord := by
  unfold Obligations.AtomicsReadThenWriteOneWord
  intro h dbl ord sc rd rs1 rs2 s pa m hr a n old oldReg new ha harea hq hp
  have hat : AtomicAt h dbl rs1 .write pa m s := ⟨hr, ha, harea, hq, hp⟩
  have hold : amoOld dbl (s.memNat pa (amoBytes dbl)) = oldReg := amoOld_eq dbl old
  have hamo (f : Word → Word → Word) (g : Half → Half → Half) :
      WritesRegStores h rd oldReg pa m (new f g) s (s.amo h dbl rd rs1 rs2 f g) := by
    have hbytes : leBytes (amoBytes dbl) (if dbl then (f (BitVec.ofNat 64 old) ((s.ctx h).get rs2)).toNat
        else (g (BitVec.ofNat 32 old) (lo32 ((s.ctx h).get rs2))).toNat) = new f g := by
      cases dbl <;> rfl
    rw [← hold, ← hbytes]
    exact writesRegStores_atomic hat rfl
  refine ⟨answers_next rfl (hamo _ _), answers_next rfl (hamo _ _), answers_next rfl (hamo _ _), answers_next rfl (hamo _ _),
    answers_next rfl (hamo _ _), answers_next rfl (hamo _ _), answers_next rfl (hamo _ _), answers_next rfl (hamo _ _),
    answers_next rfl (hamo _ _), fun hmatch => answers_next rfl ?_, fun hmiss => answers_next rfl ?_, answers_next rfl ?_⟩
  · rw [← hold]
    exact writesRegStores_atomic hat (if_pos hmatch)
  · rw [← hold]
    exact writesReg_atomic (writes := true) hat (if_neg hmiss)
  · exact storesOnly_atomic hat rfl

/-- Settles O15: LDA is an atomic that stores nothing; the others' codes do nothing, but that a FENCE may empty lines. -/
theorem fencesAndAcquireLoads : Obligations.FencesAndAcquireLoads := by
  unfold Obligations.FencesAndAcquireLoads
  refine ⟨?_, fun h sc s hr => ⟨?_, ?_, ?_, ?_⟩, ?_⟩
  · intro h dbl ord sc rd rs1 s pa m hr a n old ha harea hq hp
    refine answers_next rfl ?_
    rw [← amoOld_eq dbl old]
    exact writesReg_atomic (writes := false) ⟨hr, ha, harea, hq, hp⟩ rfl
  · intro hh
    refine answers_next rfl (movesPc_instr hr ?_)
    cases h with
    | ctx g => rfl
    | keeper k =>
      obtain rfl : sc = .engine := hh.resolve_left fun hne => hne k rfl
      rfl
  · rintro k rfl hsc
    refine answers_next rfl ?_
    rw [State.instr_runs s hr, State.execute_of_next (t := (s.issued (.keeper k) .queue).l1Clear k.val) (by simp [hsc]; rfl)]
    obtain ⟨hreg, hpc, hwords⟩ := retired_movePc (s := s) (h := .keeper k) ((s.issued (.keeper k) .queue).l1Clear k.val)
    have hown : OwnLoad (.keeper k) (s.issued (.keeper k) .queue) ((s.issued (.keeper k) .queue).l1Clear k.val) :=
      ⟨s.banks, _, rfl, fun j hj => Amap.get_set_other _ _ _ (hj k rfl)⟩
    refine ⟨hreg, hpc, hwords, hown.access.sameOthers _, hown.sameMemory _, fresh_l1Clear k _⟩
  · exact answers_next rfl (movesPc_instr hr rfl)
  · exact answers_next rfl (movesPc_instr hr rfl)
  · intro g mask s hr hops
    refine answers_next rfl (movesPc_instr hr ?_)
    have hout : (s.ctx (.ctx g)).outstandingIn mask.toNat = false := by simpa [Ctx.outstandingIn] using hops
    have hdef : (s.ctx (.ctx g)).deferredIn mask.toNat = false := by
      simpa [Ctx.deferredIn] using fun o ho _ => hops o ho
    simp [isCtx, hout, hdef]

end Sys2Proof
end

section
/-! # Exceptions (O23): R277 to R281 -/

namespace Sys2Proof.Machine

open Sys2Proof

variable {s : State}

/-! ## Taking an exception -/

/-- Setting a hart's registers leaves the rest of the state. -/
theorem becomes_setCtx (s : State) (h : Hart) (c : Ctx) : Becomes h c s (s.setCtx h c) :=
  ⟨State.ctx_setCtx_self s h c, ⟨⟨fun k hk => State.ctx_setCtx_ne s c hk, fun i j k _ => rfl, by simp⟩, rfl⟩,
    fun _ => rfl, rfl⟩

/-- An exception on a Keeper core that is in none: the record, FLAGS [8] and TVEC (R277, R280). -/
theorem takesException_exc {c : Fin 4} (hone : Single (.keeper c) s) (code a : Nat) :
    TakesException c code a s (s.exc (.keeper c) code a) := by
  have hflag : (s.ctx (.keeper c)).inException = false := hone
  simp only [State.exc, hflag]
  exact becomes_setCtx s (.keeper c) _

/-- Where no operation of a context has faulted, its record is the exception's own. -/
theorem Ctx.excRecord_single {c : Ctx} (hone : ∀ o ∈ c.ops, o.fault = none) (code a mask : Nat) :
    c.excRecord code a mask = (code, a, c.pc) := by
  have hnone : (c.ops.findSome? fun o =>
      if mask.testBit o.token then o.fault.map fun f => (0x80 + f.1, f.2, BitVec.ofNat 64 o.pc) else none) = none := by
    rw [List.findSome?_eq_none_iff]
    intro o ho
    rw [hone o ho]
    split <;> rfl
  simp only [Ctx.excRecord, hnone]

/-- Counting an exception leaves the jobs. -/
theorem State.excCount_sched (s : State) (e code a : Nat) : (s.excCount e code a).sched = s.sched := by
  unfold State.excCount
  extract_lets k t
  have ht : t.sched = s.sched := State.perf_sched _ _ _ _
  split
  · exact foldl_keeps (fun u : State => u.sched = s.sched) _ (fun u e hu => by simpa using hu) _ _ ht
  · split
    · exact foldl_keeps (fun u : State => u.sched = s.sched) _ (fun u e hu => by simpa using hu) _ _ ht
    · exact ht

/-- A context that issues is held by a job. -/
theorem exists_jobOf_of_runs {g : Fin 3072} (hr : s.runs (.ctx g) = true) : ∃ j, s.jobOf g.val = some j := by
  cases hj : s.jobOf g.val with
  | some j => exact ⟨j, rfl⟩
  | none => simp [State.runs, State.ready, State.ctxReady, hj] at hr

/-- An exception on a context that a job holds (R278, R341). -/
theorem State.exc_ctx {g : Fin 3072} {j : Job} (hone : Single (.ctx g) s) (hj : s.jobOf g.val = some j) (code a : Nat) :
    s.exc (.ctx g) code a = ((s.setCtx (.ctx g) { s.ctx (.ctx g) with
      stopped := true, epc := (s.ctx (.ctx g)).pc, ecode := BitVec.ofNat 64 code,
      eaddr := BitVec.ofNat 64 a }).excCount (g.val / 64) code a).jobFault j.id code := by
  simp only [State.exc, Ctx.excRecord_single hone]
  have hsame (c : Ctx) : ((s.setCtx (.ctx g) c).excCount (g.val / 64) code a).jobOf g.val = some j := by
    rw [← hj]
    simp only [State.jobOf, State.excCount_sched, State.setCtx_sched]
  simp only [hsame]

/-- An instruction that raises takes its exception, on a hart that issues and has none waiting. -/
theorem excepts_instr {h : Hart} {q : Pipe} {k : State → Ctx → Ran} {code a : Nat} (hr : s.runs h = true) (hone : Single h s)
    (hk : k (s.issued h q) (s.ctx h) = .raise (s.issued h q) code a) : Excepts h q code a s (s.instr h q k) := by
  rw [State.instr_runs s hr, State.execute_of_raise hk]
  cases h with
  | keeper c => exact takesException_exc hone code a
  | ctx g =>
    obtain ⟨j, hj⟩ := exists_jobOf_of_runs hr
    refine ⟨j, hj, ?_⟩
    have hctx : (s.issued (.ctx g) q).ctx (.ctx g) = s.ctx (.ctx g) := State.ctx_congr (by simp) _
    have hone' : Single (.ctx g) (s.issued (.ctx g) q) := fun o ho => hone o (hctx ▸ ho)
    rw [State.exc_ctx hone' (j := j) (by simpa [State.jobOf] using hj), hctx]

/-! ## What raises -/

/-- ADD's word 0x0000_0000 is illegal (R258). -/
theorem firstWord_add_zero (h : Hart) : firstWord (.add h 0 0 0 false) = 0 := rfl

/-- BREAK raises where break catch does not take it (R262). -/
theorem execBrk_raises {h : Hart} (hr : s.runs h = true)
    (hfree : s.pw.mode ≠ .bench ∨ s.objBit 0x5050 4 (if isCtx h then 0 else 1) = false) (hone : Single h s) :
    Answers (.brk h) s (Excepts h .scalar 0x05 0 s) := by
  refine answers_next rfl (excepts_instr hr hone ?_)
  have hobj : (s.issued h .scalar).obj 0x5050 4 = s.obj 0x5050 4 := State.issued_obj s h .scalar (by decide)
  rcases hfree with hmode | hbit
  · simp [hmode]
  · simp_all [State.objBit]

/-- An exception on which the twins agree is raised. -/
theorem State.pairExc_agree (s : State) (h : Hart) (code a : Nat) : s.pairExc h code a true = .raise s code a := by
  simp [State.pairExc]

/-- A load raises the fault of its check. -/
theorem execLoad_raises {h : Hart} {size : Fin 4} {sext : Bool} {rd rs1 : Fin 32} {imm : BitVec 14} {kd : Nat}
    (hr : s.runs h = true) (hone : Single h s) (hx : size ≠ 3 ∨ sext = false)
    (hcheck : (s.issued h .memory).access h .read ((s.ctx h).ea rs1 imm) (2 ^ size.val) [] = .fault kd) :
    Answers (.load h size sext rd rs1 imm .clean) s (Excepts h .memory (0x10 + kd) ((s.ctx h).ea rs1 imm) s) := by
  have hlegal : ¬ (size = 3 && sext) = true := by
    rcases hx with hx | hx <;> simp [hx]
  refine answers_next rfl (excepts_instr hr hone ?_)
  dsimp only
  rw [if_neg hlegal, State.loadThen_of_fault hcheck]

/-- A misaligned store raises (log entry 12). -/
theorem execStore_raises {h : Hart} {size : Fin 4} {rs2 rs1 : Fin 32} {imm : BitVec 14} (hr : s.runs h = true)
    (hone : Single h s) (ha : (s.ctx h).ea rs1 imm % 2 ^ size.val ≠ 0) :
    Answers (.store h size rs2 rs1 imm true) s (Excepts h .memory 0x17 ((s.ctx h).ea rs1 imm) s) :=
  answers_next rfl (excepts_instr hr hone
    (State.storeThen_of_fault (State.access_misaligned (by rwa [leBytes_length]))))

/-- A fetch that faults on a hart that issues, the twins agreeing: its exception (R236, R281). -/
theorem execInstructionFetchFault_raises {h : Hart} {kind : Fin 8} {second : Bool} (hr : s.runs h = true)
    (hk : kind.val ≠ 0) (hf : s.fetchKind h ((s.ctx h).pc + if second then 4 else 0).toNat = kind.val) :
    execInstructionFetchFault h kind ⟨second, true⟩ s =
      .next (s.exc h (0x10 + kind.val) ((s.ctx h).pc + if second then 4 else 0).toNat) := by
  unfold execInstructionFetchFault
  extract_lets a
  have hmet : (kind.val != 0 && s.fetchKind h a = kind.val && s.runs h) = true := by
    rw [show s.fetchKind h a = kind.val from hf, hr]
    simp [hk]
  rw [if_pos hmet, State.pairExc_agree]

end Sys2Proof.Machine

namespace Sys2Proof

open Sys2Proof.Machine

/-- Settles O23: each instruction's code raises, which takes the exception of its hart. -/
theorem exceptionsSaveTheRecord : Obligations.ExceptionsSaveTheRecord := by
  unfold Obligations.ExceptionsSaveTheRecord
  refine ⟨fun h imm word s hr hone =>
    ⟨?_, fun hfree => execBrk_raises hr hfree hone, fun hdec => ?_, ?_, ?_, ?_, ?_⟩, ?_, ?_⟩
  · exact answers_next rfl (excepts_instr hr hone rfl)
  · refine answers_next (congrArg Host.Outcome.next (if_neg (by simp [hdec]))) (excepts_instr hr hone ?_)
    exact State.pairExc_agree _ _ _ _
  · refine answers_next rfl (excepts_instr hr hone ?_)
    rw [if_pos (firstWord_add_zero h)]
  · exact fun rd rs1 ecc => answers_next rfl (excepts_instr hr hone rfl)
  · refine fun rd rs1 hmis => answers_next rfl (excepts_instr hr hone ?_)
    simp [hmis]
  · intro size sext rd rs1 a
    refine ⟨fun ha hx => ⟨execLoad_raises hr hone hx (State.access_misaligned ha), execStore_raises hr hone ha⟩, ?_⟩
    exact fun pa m ha hp hq hx =>
      execLoad_raises hr hone hx (State.access_poisoned ha hp (by simpa [State.poisoned] using hq))
  · intro c kind second s hr hone a hk hf
    exact answers_next (execInstructionFetchFault_raises hr hk hf) (takesException_exc hone _ _)
  · intro g kind second s hr hone a hk hf
    obtain ⟨j, hj⟩ := exists_jobOf_of_runs hr
    exact ⟨j, hj, answers_next (execInstructionFetchFault_raises hr hk hf) (State.exc_ctx hone hj _ _)⟩

end Sys2Proof
end

section
/-! # Doorbells and completion records (O29): R236, R245, R333, R334, R339, R340 -/

namespace Sys2Proof.Machine

open Sys2Proof

variable {s : State} {q wc : Nat}

/-! ## Bytes and entries -/

/-- A number's bytes give it back, modulo what they hold. -/
theorem leVal_leBytes : ∀ n v : Nat, leVal (leBytes n v) = v % 256 ^ n
  | 0, v => by simp [leBytes, leVal, Nat.mod_one]
  | n + 1, v => by
    have ih := leVal_leBytes n (v / 256)
    rw [leVal] at ih ⊢
    rw [leBytes, List.foldr_cons, ih, pow_succ', Nat.mod_mul, BitVec.toNat_ofNat]

/-- A field that is all of a number's bytes. -/
theorem field_leBytes (n v : Nat) : field (leBytes n v) 0 n = v % 256 ^ n := by
  rw [field, slice, List.drop_zero, List.take_of_length_le (leBytes_length n v).le, leVal_leBytes]

/-- Where memory and poison are the same data. -/
theorem sameMemory_of_eq {t : State} (hm : t.mem = s.mem) (hp : t.poison = s.poison) : SameMemory s t :=
  ⟨fun a => by rw [State.memByte, State.memByte, hm], hp⟩

/-- A count of occupancy is a report. -/
theorem ReportsOnly.occupancy (s : State) (q : Nat) : ReportsOnly s (s.occupancy q) := .monSample _ _ _ _

/-- Reports leave the entries of a queue. -/
theorem ReportsOnly.queueObj {t : State} (ht : ReportsOnly s t) (j : Nat) (hj : j < 256) (hq : q < 65536) :
    t.obj 0x6001 j q = s.obj 0x6001 j q := by
  refine ht.objK _ ?_
  unfold reportKey
  rw [okey_div 0x6001 hj hq]
  decide

/-! ## Doorbell pages -/

@[simp] theorem State.bell_setBell_self (s : State) (q wc : Nat) (b : Doorbell) : (s.setBell q wc b).bell q wc = b :=
  Amap.get_set_self _ _ _ _

@[simp] theorem State.queue_setQueue_self (s : State) (q : Nat) (v : QueueState) : (s.setQueue q v).queue q = v :=
  Amap.get_set_self _ _ _ _

/-- A PCIe function whose path exists writes to a page of its partition. -/
theorem State.bellStore_fn {n : Fin 9} (hmode : s.pw.mode.awake = true) (hpath : (s.path (0x10 + n.val)).live = true)
    (hpart : s.queuePart q = n.val) (off : Nat) (d : List Byte) :
    s.bellStore (.fn n) q off d = (s.endDoze.bellWrite q n.val off d).settle := by
  simp [State.bellStore, State.bellBy, hmode, hpath, hpart, writerCode]

/-- A PCIe function outside the partition: its write is dropped and counted. -/
theorem State.bellStore_fn_outside {n : Fin 9} (hmode : s.pw.mode.awake = true) (hpath : (s.path (0x10 + n.val)).live = true)
    (hpart : s.queuePart q ≠ n.val) (off : Nat) (d : List Byte) :
    s.bellStore (.fn n) q off d = (s.bump 0x4803 1).settle := by
  simp [State.bellStore, State.bellBy, hmode, hpath, hpart]

/-- A thread whose context issues writes to a page of its partition. -/
theorem State.bellStore_ctx {g : Fin 3072} (hr : s.runs (.ctx g) = true) (hpart : s.queuePart q = s.enginePart (g.val / 64))
    (off : Nat) (d : List Byte) :
    s.bellStore (.hart (.ctx g)) q off d = (s.endDoze.bellWrite q (writerCode (.hart (.ctx g))) off d).settle := by
  simp [State.bellStore, State.bellBy, hr, hpart, State.whoPart]

/-- A thread outside the partition takes a memory exception of kind 3. -/
theorem State.bellStore_ctx_outside {g : Fin 3072} (hr : s.runs (.ctx g) = true)
    (hpart : s.queuePart q ≠ s.enginePart (g.val / 64)) (off : Nat) (d : List Byte) :
    s.bellStore (.hart (.ctx g)) q off d = s.exc (.ctx g) 0x13 (bellBase + q * 0x1000 + off) := by
  simp [State.bellStore, hr, hpart, State.whoPart, isCtx]

/-- The staging of a writer's view after a write of the staging bytes. -/
def Doorbell.staged (b : Doorbell) (off : Nat) (d : List Byte) : Doorbell :=
  { b with staging := (b.staging.take off ++ d ++ b.staging.drop (off + d.length)).take 64 }

/-- A write that ends before byte 0x38 only stages. -/
theorem State.bellWrite_stages {off : Nat} {d : List Byte} (h : off + d.length ≤ 0x38) :
    s.bellWrite q wc off d = s.setBell q wc ((s.bell q wc).staged off d) := by
  have hoff : off < 64 := by omega
  have hsubmit : ¬ 0x38 + 8 ≤ off + d.length := by omega
  have hcancel : ¬ 0x40 + 8 ≤ off + d.length := by omega
  have hconsume : ¬ 0x48 + 4 ≤ off + d.length := by omega
  simp [State.bellWrite, hoff, hsubmit, hcancel, hconsume, Doorbell.staged]

/-- A write of all 64 bytes stages them and submits. -/
theorem State.bellWrite_submits {d : List Byte} (h : d.length = 64) :
    s.bellWrite q wc 0 d = (s.setBell q wc { s.bell q wc with staging := d }).bellSubmit q wc := by
  simp [State.bellWrite, h]

/-- A write of the cancel tag. -/
theorem State.bellWrite_cancels (tag : Word) : s.bellWrite q wc 0x40 (leBytes 8 tag.toNat) = s.bellCancel q wc tag.toNat := by
  have hfield : field (leBytes 8 tag.toNat) 0 8 = tag.toNat := by
    rw [field_leBytes]
    exact Nat.mod_eq_of_lt tag.isLt
  simp [State.bellWrite, leBytes_length, hfield]

/-- A write of the consumed count. -/
theorem State.bellWrite_consumes (n : BitVec 32) :
    s.bellWrite q wc 0x48 (leBytes 4 n.toNat) = s.setQueue q { s.queue q with consumed := n.toNat } := by
  have hfield : field (leBytes 4 n.toNat) 0 4 = n.toNat := by
    rw [field_leBytes]
    exact Nat.mod_eq_of_lt n.isLt
  simp [State.bellWrite, leBytes_length, hfield]

/-! ## Submission (R333) -/

/-- The job of an accepted descriptor. -/
def State.newJob (s : State) (q : Nat) (d : List Byte) : Job :=
  { id := s.sched.nextId, queue := q, seq := (s.queue q).next, desc := d, prio := s.obj 0x6000 3 q, part := s.queuePart q,
    phase := .pending, engine := 0xFF, slots := [], cancelling := false, status := 0, user := 0, ecode := 0,
    acceptNs := s.nowNs, startNs := 0, endNs := 0 }

/-- A queue with a descriptor entered: its job at the end of the list, and the sequence number. -/
def State.withJob (s : State) (q : Nat) (d : List Byte) : State :=
  (State.setQueue { s with sched := { s.sched with jobs := s.sched.jobs ++ [s.newJob q d], nextId := s.sched.nextId + 1 } } q
    { s.queue q with next := ((s.queue q).next + 1) % 2 ^ 32 }).setObj 0x6001 3 (s.queue q).next q

/-- An accepted submission enters the descriptor and counts the occupancy. -/
theorem State.submit_accepted {d : List Byte} {strip : Bool} (hc : s.submitCode q d strip = 0) :
    s.submit q d strip = (0, (s.withJob q d).occupancy q) := by
  unfold State.submit
  extract_lets c
  rw [if_neg (by simp [c, hc])]
  rfl

/-- A refused submission: the code, and its count. -/
theorem State.submit_refused {d : List Byte} {strip : Bool} (hc : s.submitCode q d strip ≠ 0) :
    s.submit q d strip = (s.submitCode q d strip, s.bump 0x6001 5 q) := by
  simp [State.submit, hc]

/-- The staged descriptor is accepted: what the state holds then. -/
theorem State.bellSubmit_accepted (hq : q < 65536) (hc : s.submitCode q (s.bell q wc).staging false = 0) :
    let v := s.bellSubmit q wc
    v.sched.jobs = s.sched.jobs ++ [s.newJob q (s.bell q wc).staging] ∧ (v.bell q wc).status = 0 ∧
    (v.bell q wc).lastSeq = (s.queue q).next ∧ SameMemory s v := by
  extract_lets v
  have hv : v = ((s.withJob q (s.bell q wc).staging).occupancy q).setBell q wc
      { ((s.withJob q (s.bell q wc).staging).occupancy q).bell q wc with
        status := 0, lastSeq := ((s.withJob q (s.bell q wc).staging).occupancy q).obj 0x6001 3 q } := by
    simp only [v, State.bellSubmit, State.submit_accepted hc, if_true]
  have hrep := ReportsOnly.occupancy (s.withJob q (s.bell q wc).staging) q
  have hseq : ((s.withJob q (s.bell q wc).staging).occupancy q).obj 0x6001 3 q = (s.queue q).next := by
    rw [hrep.queueObj 3 (by decide) hq]
    exact State.obj_setObj_self _ _ _ _ _
  rw [hv, State.bell_setBell_self, hseq]
  refine ⟨?_, rfl, rfl, sameMemory_of_eq hrep.mem hrep.poison⟩
  exact congrArg Sched.jobs hrep.sched

/-- The staged descriptor is refused: the writer's status and the queue's count. -/
theorem State.bellSubmit_refused (hc : s.submitCode q (s.bell q wc).staging false ≠ 0) :
    let v := s.bellSubmit q wc
    v.sched.jobs = s.sched.jobs ∧ (v.bell q wc).status = s.submitCode q (s.bell q wc).staging false ∧
    v.obj 0x6001 5 q = (s.obj 0x6001 5 q + 1) % 2 ^ 32 ∧ SameMemory s v := by
  extract_lets v
  have hv : v = (s.bump 0x6001 5 q).setBell q wc { (s.bump 0x6001 5 q).bell q wc with
      status := s.submitCode q (s.bell q wc).staging false,
      refusals := min (((s.bump 0x6001 5 q).bell q wc).refusals + 1) (2 ^ 24 - 1) } := by
    simp only [v, State.bellSubmit, State.submit_refused hc, if_neg hc]
  rw [hv, State.bell_setBell_self]
  exact ⟨rfl, rfl, State.obj_bump_self s _ _ _ _, fun _ => rfl, rfl⟩

/-- A writer's view has no part in the judgement of a descriptor. -/
@[simp] theorem State.submitCode_setBell (s : State) (q wc : Nat) (b : Doorbell) (p : Nat) (d : List Byte) (strip : Bool) :
    (s.setBell q wc b).submitCode p d strip = s.submitCode p d strip := rfl

/-- All 64 bytes of a descriptor that is accepted. -/
theorem State.bellWrite_accepted {d : List Byte} (hq : q < 65536) (hd : d.length = 64) (hc : s.submitCode q d false = 0) :
    let v := s.bellWrite q wc 0 d
    v.sched.jobs = s.sched.jobs ++ [s.newJob q d] ∧ (v.bell q wc).status = 0 ∧ (v.bell q wc).lastSeq = (s.queue q).next ∧
    SameMemory s v := by
  have h := State.bellSubmit_accepted (s := s.setBell q wc { s.bell q wc with staging := d }) (wc := wc) hq
    (by rw [State.bell_setBell_self, State.submitCode_setBell]; exact hc)
  rw [State.bell_setBell_self] at h
  rw [State.bellWrite_submits hd]
  exact h

/-- All 64 bytes of a descriptor that is refused. -/
theorem State.bellWrite_refused {d : List Byte} (hd : d.length = 64) (hc : s.submitCode q d false ≠ 0) :
    let v := s.bellWrite q wc 0 d
    v.sched.jobs = s.sched.jobs ∧ (v.bell q wc).status = s.submitCode q d false ∧
    v.obj 0x6001 5 q = (s.obj 0x6001 5 q + 1) % 2 ^ 32 ∧ SameMemory s v := by
  have h := State.bellSubmit_refused (s := s.setBell q wc { s.bell q wc with staging := d }) (wc := wc) (q := q)
    (by rw [State.bell_setBell_self, State.submitCode_setBell]; exact hc)
  rw [State.bell_setBell_self, State.submitCode_setBell] at h
  rw [State.bellWrite_submits hd]
  exact h

/-! ## Cancelling (R340) -/

/-- A cancel of a tag that no job holds. -/
theorem State.bellCancel_unheld {tag : Nat} (h : ∀ j ∈ s.queueJobs q, j.phase ≠ .ended → j.tag ≠ tag) :
    let v := s.bellCancel q wc tag
    v.sched.jobs = s.sched.jobs ∧ (v.bell q wc).status = 0x0A ∧ SameMemory s v := by
  have hnone : (s.queueJobs q).find? (fun j => j.phase != .ended && j.tag = tag) = none := by
    rw [List.find?_eq_none]
    intro j hj
    simpa using h j hj
  have hcancel : s.cancelTag q tag = (0x0A, s) := by
    simp only [State.cancelTag, hnone]
  simp only [State.bellCancel, hcancel, State.bell_setBell_self]
  exact ⟨rfl, trivial, fun _ => rfl, rfl⟩

/-- A job of type 1 that is cancelled before it starts ends with status 3. -/
theorem State.endJob_pending {j : Job} (hj : s.job j.id = some j) (hp : j.phase = .pending) (ht : j.type ≠ 2) :
    (∃ k ∈ (s.endJob j.id 3 0).sched.jobs, k.id = j.id ∧ k.phase = .ended ∧ k.status = 3) ∧
    SameMemory s (s.endJob j.id 3 0) := by
  obtain ⟨f, hid, hphase, hstatus, hend⟩ : ∃ f : Job → Job, (∀ k, (f k).id = k.id) ∧ (∀ k, (f k).phase = .ended) ∧
      (∀ k, (f k).status = 3) ∧ s.endJob j.id 3 0 = ((s.modJob j.id f).bump 0x6001 6 j.queue).occupancy j.queue := by
    refine ⟨_, ?_, ?_, ?_, by simp [State.endJob, hj, hp, ht]; rfl⟩ <;> exact fun _ => rfl
  have hrep := ReportsOnly.occupancy ((s.modJob j.id f).bump 0x6001 6 j.queue) j.queue
  rw [hend]
  refine ⟨⟨f j, ?_, hid j, hphase j, hstatus j⟩, sameMemory_of_eq hrep.mem hrep.poison⟩
  rw [hrep.sched]
  exact List.mem_map.mpr ⟨j, List.mem_of_find?_eq_some hj, if_pos rfl⟩

/-- A cancel of a pending job of type 1. -/
theorem State.bellCancel_pending {tag : Nat} {j : Job}
    (hfind : (s.queueJobs q).find? (fun j => j.phase != .ended && j.tag = tag) = some j) (hj : s.job j.id = some j)
    (hp : j.phase = .pending) (ht : j.type ≠ 2) :
    let v := s.bellCancel q wc tag
    (v.bell q wc).status = 0 ∧ (∃ k ∈ v.sched.jobs, k.id = j.id ∧ k.phase = .ended ∧ k.status = 3) ∧
    SameMemory s v := by
  have hcancel : s.cancelTag q tag = (0, s.endJob j.id 3 0) := by
    simp only [State.cancelTag, hfind, if_pos hp]
  obtain ⟨hended, hmem⟩ := s.endJob_pending hj hp ht
  simp only [State.bellCancel, hcancel, State.bell_setBell_self]
  exact ⟨trivial, hended, hmem⟩

/-! ## Completion records (R339) -/

/-- The counts and samples that follow a record, and its interrupt. -/
def State.afterRecord (s : State) (q : Nat) (j : Job) : State :=
  let s := if j.status = 0 && j.part != 0 then s.bump 0x6020 1 (j.part - 1) else s
  let s := s.monSample 0x02 q (j.endNs - j.acceptNs : Int)
  let s := if j.engine != 0xFF then s.monSample 0x03 q (j.endNs - j.startNs : Int) else s
  if j.interrupts then s.emit (.msix j.part (s.obj 0x6000 9 q)) else s

/-- They leave the queue's entries, the jobs, the contexts and memory. -/
theorem State.afterRecord_leaves (j : Job) (hq : q < 512) :
    (s.afterRecord q j).obj 0x6001 4 q = s.obj 0x6001 4 q ∧ (s.afterRecord q j).sched = s.sched ∧
    (s.afterRecord q j).ctxs = s.ctxs ∧ (s.afterRecord q j).mem = s.mem ∧ (s.afterRecord q j).poison = s.poison := by
  unfold State.afterRecord
  extract_lets t u v
  have ht : t.obj 0x6001 4 q = s.obj 0x6001 4 q ∧ t.sched = s.sched ∧ t.ctxs = s.ctxs ∧ t.mem = s.mem ∧
      t.poison = s.poison := by
    unfold t
    split
    · exact ⟨State.obj_bump_ne s (by unfold okey; omega), rfl, rfl, rfl, rfl⟩
    · exact ⟨rfl, rfl, rfl, rfl, rfl⟩
  obtain ⟨hobj, hsched, hctxs, hmem, hpoison⟩ := ht
  have hrep : ReportsOnly t (if j.interrupts then v.emit (.msix j.part (v.obj 0x6000 9 q)) else v) :=
    ((ReportsOnly.monSample _ _ _ _).trans (.ite (.monSample _ _ _ _) (.refl _))).trans (.ite (.emit _ _) (.refl _))
  exact ⟨(hrep.queueObj 4 (by decide) (by omega)).trans hobj, hrep.sched.trans hsched, hrep.ctxs.trans hctxs,
    hrep.mem.trans hmem, hrep.poison.trans hpoison⟩

/-- The jobs without one. -/
def State.dropJob (s : State) (j : Job) : State :=
  { s with sched := { s.sched with jobs := s.sched.jobs.filter fun k => k.id != j.id } }

/-- Where the oldest job of a queue has ended, is quiet, and has a slot or needs none, its record is written. -/
theorem State.writeRecord_due {j : Job} {rest : List Job} (hjobs : s.queueJobs q = j :: rest) (hp : j.phase = .ended)
    (hquiet : s.jobQuiet j = true)
    (hfree : s.obj 0x6000 7 q = 0 ∨ (j.seq + 2 ^ 32 - (s.queue q).consumed) % 2 ^ 32 < s.obj 0x6000 8 q) :
    let slot := s.obj 0x6000 7 q + 32 * (j.seq % s.obj 0x6000 8 q)
    s.writeRecord q = (if s.obj 0x6000 7 q = 0 then s.dropJob j
      else ((s.dropJob j).writeFor j.part slot j.record).bump 0x6001 4 q).afterRecord q j := by
  have hdue : ¬ (j.phase != .ended || !s.jobQuiet j || (s.obj 0x6000 7 q != 0 &&
      decide (s.obj 0x6000 8 q ≤ (j.seq + 2 ^ 32 - (s.queue q).consumed) % 2 ^ 32))) = true := by
    rcases hfree with hbase | hslot
    · simp [hp, hquiet, hbase]
    · simpa [hp, hquiet] using fun _ => hslot
  unfold State.writeRecord
  rw [hjobs]
  exact if_neg hdue

/-- A record of a queue without a ring: the job leaves the queue. -/
theorem answers_record_ringless {q : Fin 512} {j : Job} {rest : List Job} (hjobs : s.queueJobs q.val = j :: rest)
    (hp : j.phase = .ended) (hquiet : s.jobQuiet j = true) (hbase : s.obj 0x6000 7 q.val = 0) :
    Answers (.completionRecordWrite q) s fun t => t.sched.jobs = s.sched.jobs.filter (fun k => k.id != j.id) ∧
      t.obj 0x6001 4 q.val = s.obj 0x6001 4 q.val ∧ t.ctxs = s.ctxs ∧ SameMemory s t := by
  refine answers_next rfl ?_
  rw [State.writeRecord_due hjobs hp hquiet (.inl hbase), if_pos hbase]
  obtain ⟨hobj, hsched, hctxs, hmem, hpoison⟩ := (s.dropJob j).afterRecord_leaves j q.isLt
  exact ⟨congrArg Sched.jobs hsched, hobj, hctxs, sameMemory_of_eq hmem hpoison⟩

/-- A record in its ring slot is stored there, and counted. -/
theorem answers_record_ring {q : Fin 512} {j : Job} {rest : List Job} {pa : Nat} {m : Option Nat}
    (hjobs : s.queueJobs q.val = j :: rest) (hp : j.phase = .ended) (hquiet : s.jobQuiet j = true)
    (hbase : s.obj 0x6000 7 q.val ≠ 0)
    (hslot : (j.seq + 2 ^ 32 - (s.queue q.val).consumed) % 2 ^ 32 < s.obj 0x6000 8 q.val)
    (hplace : s.place (.part j.part) .write (s.obj 0x6000 7 q.val + 32 * (j.seq % s.obj 0x6000 8 q.val)) =
      .inr (.cells pa m)) :
    Answers (.completionRecordWrite q) s fun t => t.sched.jobs = s.sched.jobs.filter (fun k => k.id != j.id) ∧
      Stores pa m j.record s t ∧ t.obj 0x6001 4 q.val = (s.obj 0x6001 4 q.val + 1) % 2 ^ 32 ∧ t.ctxs = s.ctxs := by
  have hwrite : (s.dropJob j).writeFor j.part (s.obj 0x6000 7 q.val + 32 * (j.seq % s.obj 0x6000 8 q.val)) j.record =
      (s.dropJob j).cellsWrite pa m j.record := by
    have hthere : (s.dropJob j).place (.part j.part) .write (s.obj 0x6000 7 q.val + 32 * (j.seq % s.obj 0x6000 8 q.val)) =
        .inr (.cells pa m) := hplace
    simp only [State.writeFor, hthere]
  refine answers_next rfl ?_
  rw [State.writeRecord_due hjobs hp hquiet (.inr hslot), if_neg hbase, hwrite]
  obtain ⟨hst, mm, p, hcells⟩ := (s.dropJob j).cellsWrite_stores pa m j.record
  obtain ⟨hobj, hsched, hctxs, hmem, hpoison⟩ :=
    (((s.dropJob j).cellsWrite pa m j.record).bump 0x6001 4 q.val).afterRecord_leaves j q.isLt
  refine ⟨?_, ?_, ?_, ?_⟩
  · rw [hsched, hcells]; rfl
  · have hstored : Stores pa m j.record s (((s.dropJob j).cellsWrite pa m j.record).bump 0x6001 4 q.val) := hst
    simpa only [Stores, State.memByte, hmem, hpoison] using hstored
  · rw [hobj, State.obj_bump_self, hcells]; rfl
  · rw [hctxs, hcells]; rfl

/-! ## A writer outside the partition (R334) -/

/-- Its write is dropped and counted. -/
theorem bellStore_dropped {n : Fin 9} {q : Nat} (hmode : s.pw.mode.awake = true) (hpath : (s.path (0x10 + n.val)).live = true)
    (hpart : s.queuePart q ≠ n.val) (off : Nat) (d : List Byte) :
    ∃ v : State, s.bellStore (.fn n) q off d = v.settle ∧ v.obj 0x4803 1 = (s.obj 0x4803 1 + 1) % 2 ^ 32 ∧
      v.sched = s.sched ∧ SameMemory s v :=
  ⟨s.bump 0x4803 1, State.bellStore_fn_outside hmode hpath hpart off d, State.obj_bump_self s _ _ _ _, rfl, fun _ => rfl, rfl⟩

end Sys2Proof.Machine

namespace Sys2Proof

open Sys2Proof.Machine

/-- Settles O29: each access is one act on the writer's view, the queue or a job, and what follows it are reports. -/
theorem doorbellsAndCompletionRecords : Obligations.DoorbellsAndCompletionRecords := by
  unfold Obligations.DoorbellsAndCompletionRecords
  refine ⟨?_, ?_, ?_, ?_⟩
  · intro n q s u hmode hpath hpart
    have hstore (off : Nat) (d : List Byte) : s.bellStore (.fn n) q.val off d = (u.bellWrite q.val n.val off d).settle :=
      State.bellStore_fn hmode hpath hpart off d
    refine ⟨fun d hd => ⟨fun hc => ?_, fun hc => ?_⟩, fun off d hoff => ?_, fun off d => ?_, fun tag htag => ?_,
      fun tag j hfind hj hp ht => ?_, fun m => ?_⟩
    · obtain ⟨hjobs, hstatus, hseq, hmem⟩ := State.bellWrite_accepted (s := u) (wc := n.val) (q := q.val) (by omega) hd hc
      exact answers_next rfl ⟨_, _, hstore 0 d, hjobs, rfl, rfl, rfl, rfl, hstatus, hseq, hmem⟩
    · obtain ⟨hjobs, hstatus, hcount, hmem⟩ := State.bellWrite_refused (s := u) (wc := n.val) (q := q.val) hd hc
      have hu : u.obj 0x6001 5 q.val = s.obj 0x6001 5 q.val := State.obj_setObj_ne s (by unfold okey; omega)
      exact answers_next rfl ⟨_, hstore 0 d, hjobs, hstatus, hu ▸ hcount, hmem⟩
    · refine answers_next rfl ⟨_, hstore _ d, ?_⟩
      rw [State.bellWrite_stages hoff, State.bell_setBell_self]
      exact ⟨rfl, rfl, fun _ => rfl, rfl⟩
    · exact answers_next rfl (by simp [State.bellFetch, hmode, hpath, hpart, writerCode, State.emit])
    · obtain ⟨hjobs, hstatus, hmem⟩ := State.bellCancel_unheld (s := u) (wc := n.val) (q := q.val) htag
      exact answers_next rfl ⟨_, (hstore _ _).trans (congrArg _ (State.bellWrite_cancels tag)), hjobs, hstatus, hmem⟩
    · obtain ⟨hstatus, hended, hmem⟩ := State.bellCancel_pending (s := u) (wc := n.val) (q := q.val) hfind hj hp ht
      exact answers_next rfl ⟨_, (hstore _ _).trans (congrArg _ (State.bellWrite_cancels tag)), hstatus, hended, hmem⟩
    · refine answers_next rfl ⟨_, (hstore _ _).trans (congrArg _ (State.bellWrite_consumes m)), ?_⟩
      rw [State.queue_setQueue_self]
      exact ⟨rfl, rfl, rfl, fun _ => rfl, rfl⟩
  · intro n q s off d tag m hmode hpath hpart dropped
    have hdrop (off : Nat) (d : List Byte) : dropped (s.bellStore (.fn n) q.val off d) :=
      bellStore_dropped hmode hpath hpart off d
    exact ⟨answers_next rfl (hdrop _ _), answers_next rfl (hdrop _ _), answers_next rfl (hdrop _ _),
      answers_next rfl (by simp [State.bellFetch, hmode, hpath, hpart, State.emit])⟩
  · intro g q s off d hr
    refine ⟨fun hpart m => ?_, fun hone hpart => ?_⟩
    · refine answers_next rfl ⟨_, (State.bellStore_ctx hr hpart _ _).trans (congrArg _ (State.bellWrite_consumes m)), ?_⟩
      rw [State.queue_setQueue_self]
      exact ⟨rfl, rfl, rfl, fun _ => rfl, rfl⟩
    · obtain ⟨j, hj⟩ := exists_jobOf_of_runs hr
      exact ⟨j, hj, answers_next rfl ((State.bellStore_ctx_outside hr hpart _ d).trans (State.exc_ctx hone hj _ _))⟩
  · intro q s j rest pa m base size hjobs hp hquiet
    exact ⟨fun hbase => answers_record_ringless hjobs hp hquiet hbase,
      fun hbase hslot hplace => answers_record_ring hjobs hp hquiet hbase hslot hplace⟩

end Sys2Proof
end

section
/-! # The words of the thread instructions (O7): R257 to R276 -/

namespace Sys2Proof.Machine

open Sys2Proof

/-! ## Fields of a word -/

theorem b2n_lt (b : Bool) : b2n b < 2 := by cases b <;> decide

@[simp] theorem b2n_false : b2n false = 0 := rfl

@[simp] theorem b2n_true : b2n true = 1 := rfl

@[simp] theorem b2n_le_one (b : Bool) : b2n b ≤ 1 := by cases b <;> decide

@[simp] theorem b2n_eq_one (b : Bool) : b2n b = 1 ↔ b = true := by cases b <;> decide

theorem fld_eq {w lo n : Nat} {hn : 0 < n} {v : Fin n} (h : w / 2 ^ lo % n = v.val) : fld w lo n hn = v := Fin.ext h

theorem testBit_eq {w lo : Nat} {b : Bool} (h : w / 2 ^ lo % 2 = b2n b) : w.testBit lo = b := by
  rw [Nat.testBit_eq_decide_div_mod_eq, h]
  cases b <;> rfl

theorem ofNat_eq {w n : Nat} {v : BitVec n} (h : w % 2 ^ n = v.toNat) : BitVec.ofNat n w = v :=
  BitVec.eq_of_toNat_eq ((BitVec.toNat_ofNat w n).trans h)

/-- A predicate operand in place is its register above its enable bit. -/
theorem prBits_succ (pr : Option (Fin 4)) (en : Nat) : prBits pr (en + 1) en = prBits pr 1 0 * 2 ^ en := by
  cases pr with
  | none => simp [prBits]
  | some p => simp only [prBits, pow_succ]; ring

theorem prBits_lt (pr : Option (Fin 4)) : prBits pr 1 0 < 8 := by
  cases pr with
  | none => decide
  | some p => simp only [prBits]; omega

theorem prfld_eq {w en : Nat} {pr : Option (Fin 4)} (h : w / 2 ^ en % 8 = prBits pr 1 0) : prfld w (en + 1) en = pr := by
  have hdiv : w / 2 ^ (en + 1) = w / 2 ^ en / 2 := by rw [pow_succ, Nat.div_div_eq_div_mul]
  have hbit : w.testBit en = decide (w / 2 ^ en % 2 = 1) := Nat.testBit_eq_decide_div_mod_eq
  cases pr with
  | none =>
    simp only [prBits] at h
    rw [prfld, hbit, decide_eq_false (by omega)]
    rfl
  | some p =>
    simp only [prBits] at h
    rw [prfld, hbit, decide_eq_true (by omega), if_pos rfl]
    exact congrArg some (fld_eq (by omega))

@[simp] theorem scopeOf_scopeCode (sc : Scope) : scopeOf (scopeCode sc) = some sc := by cases sc <;> rfl

theorem scopeCode_lt (sc : Scope) : scopeCode sc < 3 := by cases sc <;> decide

@[simp] theorem orderOf_orderCode (o : Order) : orderOf (orderCode o) = o := by cases o <;> rfl

theorem orderCode_lt (o : Order) : orderCode o < 4 := by cases o <;> decide

@[simp] theorem elemOf_elemCode (e : Elem) : elemOf (elemCode e) = e := by cases e <;> rfl

theorem elemCode_lt (e : Elem) : elemCode e < 4 := by cases e <;> decide

@[simp] theorem precOf_precCode (p : Precision) : precOf (precCode p) = some p := by cases p <;> rfl

theorem precCode_lt (p : Precision) : precCode p < 5 := by cases p <;> decide

/-! ## What a word reads as -/

/-- On a hart, words read as an instruction: the decoder gives it, and there is a second word where the first announces one. -/
def Reads (h : Hart) (i : Instr) (w : Nat) (w2 : Option Nat) : Prop :=
  decodeThread h w (w2.getD 0) = some i ∧ isLong w = w2.isSome ∧ w < 2 ^ 32

/-- Where an instruction of a hart has words, they read as it. -/
def WordsRead (i : Instr) : Prop :=
  ∀ (h : Hart) (w : Nat) (w2 : Option Nat),
    threadHart i = some h → threadForm i = true → encodeThread i = some (w, w2) → Reads h i w w2

theorem wordsRead_of_none {i : Instr} (he : encodeThread i = none) : WordsRead i := fun _ _ _ _ _ h => by
  rw [he] at h; cases h

theorem wordsRead_of {i : Instr} {h : Hart} {w : Nat} {w2 : Option Nat} (hh : threadHart i = some h)
    (he : encodeThread i = some (w, w2)) (hr : threadForm i = true → Reads h i w w2) : WordsRead i := by
  intro h' w' w2' hh' hform he'
  rw [hh, Option.some.injEq] at hh'
  rw [he, Option.some.injEq, Prod.mk.injEq] at he'
  obtain ⟨rfl, rfl⟩ := he'
  exact hh' ▸ hr hform

/-! ## The classes (R257) -/

section Classes

variable {h : Hart} {w w2 : Nat}

theorem decodeThread_rrr (hw : w / 2 ^ 28 = 0x0) : decodeThread h w w2 = decRrr h w := by simp only [decodeThread, hw]

theorem decodeThread_rri (hw : w / 2 ^ 28 = 0x1) : decodeThread h w w2 = decRri h w := by simp only [decodeThread, hw]

theorem decodeThread_long (hw : w / 2 ^ 28 = 0x2) : decodeThread h w w2 = decLong h w w2 := by simp only [decodeThread, hw]

theorem decodeThread_branch (hw : w / 2 ^ 28 = 0x3) : decodeThread h w w2 = decBranch h w := by simp only [decodeThread, hw]

theorem decodeThread_jump (hw : w / 2 ^ 28 = 0x4) : decodeThread h w w2 = decJump h w := by simp only [decodeThread, hw]

theorem decodeThread_mem (hw : w / 2 ^ 28 = 0x5) : decodeThread h w w2 = decMem h w := by simp only [decodeThread, hw]

theorem decodeThread_amo (hw : w / 2 ^ 28 = 0x6) : decodeThread h w w2 = decAmo h w := by simp only [decodeThread, hw]

theorem decodeThread_sync (hw : w / 2 ^ 28 = 0x7) : decodeThread h w w2 = decSync h w := by simp only [decodeThread, hw]

theorem decodeThread_vec (hw : w / 2 ^ 28 = 0x8) : decodeThread h w w2 = decVec h w := by simp only [decodeThread, hw]

theorem decodeThread_vmem (hw : w / 2 ^ 28 = 0x9) : decodeThread h w w2 = decVmem h w := by simp only [decodeThread, hw]

theorem decodeThread_vred (hw : w / 2 ^ 28 = 0xA) : decodeThread h w w2 = decVred h w := by simp only [decodeThread, hw]

theorem decodeThread_tensor (hw : w / 2 ^ 28 = 0xB) : decodeThread h w w2 = decTensor h w := by simp only [decodeThread, hw]

theorem decodeThread_queue (hw : w / 2 ^ 28 = 0xC) : decodeThread h w w2 = decQueue h w := by simp only [decodeThread, hw]

theorem decodeThread_sys (hw : w / 2 ^ 28 = 0xD) : decodeThread h w w2 = decSys h w := by simp only [decodeThread, hw]

end Classes

/-- A one-word instruction reads back where the decoder of its word's class, which is not the long immediates', gives it. -/
theorem wordsRead_short {i : Instr} {h : Hart} {w k : Nat} (hh : threadHart i = some h)
    (he : encodeThread i = some (w, none)) (hk : w / 2 ^ 28 = k) (hshort : k < 16 ∧ k ≠ 2)
    (hd : threadForm i = true → decodeThread h w 0 = some i) : WordsRead i := by
  obtain ⟨hlt, hne⟩ := hshort
  refine wordsRead_of hh he fun hform => ⟨hd hform, ?_, by omega⟩
  simp [-Nat.reducePow, isLong, hk, hne]

/-! ## Class 0x0: RRR (R259) -/

section Rrr

variable {f v : Nat} {rd rs1 rs2 : Fin 32} {w : Bool}

/-- What the decoder reads in an RRR word. -/
structure RrrWord (f : Nat) (rd rs1 rs2 : Fin 32) (w : Bool) (v : Nat) : Prop where
  class_ : v / 2 ^ 28 = 0
  low : v % 2 ^ 6 = 0
  zero : v = 0 ↔ f = 0 ∧ rd = 0 ∧ rs1 = 0 ∧ rs2 = 0 ∧ w = false
  code : v / 2 ^ 22 % 2 ^ 6 = f
  rd : xfld v 17 = rd
  rs1 : xfld v 12 = rs1
  rs2 : xfld v 7 = rs2
  w : v.testBit 6 = w

theorem rrrWord_of_eq (hf : f < 64) (hv : v = encRrr f rd rs1 rs2 w) : RrrWord f rd rs1 rs2 w v := by
  have hw := b2n_lt w
  unfold encRrr at hv
  refine ⟨by omega, by omega, ?_, by omega, fld_eq (by omega), fld_eq (by omega), fld_eq (by omega), testBit_eq (by omega)⟩
  have hw0 : b2n w = 0 ↔ w = false := by cases w <;> decide
  rw [← hw0, Fin.ext_iff, Fin.ext_iff, Fin.ext_iff]
  show v = 0 ↔ f = 0 ∧ rd.val = 0 ∧ rs1.val = 0 ∧ rs2.val = 0 ∧ b2n w = 0
  omega

theorem wordsRead_rrr {i : Instr} {h : Hart} (hh : threadHart i = some h)
    (he : encodeThread i = some (encRrr f rd rs1 rs2 w, none)) (hf : f < 64)
    (hd : threadForm i = true → ∀ v, RrrWord f rd rs1 rs2 w v → decRrr h v = some i) : WordsRead i :=
  have hv := rrrWord_of_eq hf (Eq.refl (encRrr f rd rs1 rs2 w))
  wordsRead_short hh he hv.class_ (by decide) fun hform => (decodeThread_rrr hv.class_).trans (hd hform _ hv)

end Rrr

/-! ## Class 0x1: RRI and immediate shifts (R259, R260) -/

section Rri

variable {f n v : Nat} {rd rs1 : Fin 32}

/-- What the decoder reads in an RRI word. -/
structure RriWord (f : Nat) (rd rs1 : Fin 32) (n v : Nat) : Prop where
  class_ : v / 2 ^ 28 = 1
  code : v / 2 ^ 24 % 2 ^ 4 = f
  rd : xfld v 19 = rd
  rs1 : xfld v 14 = rs1
  imm : v % 2 ^ 14 = n

theorem rriWord_of_eq (hf : f < 16) (hn : n < 2 ^ 14) (hv : v = encRri f rd rs1 n) : RriWord f rd rs1 n v := by
  unfold encRri at hv
  exact ⟨by omega, by omega, fld_eq (by omega), fld_eq (by omega), by omega⟩

theorem wordsRead_rri {i : Instr} {h : Hart} (hh : threadHart i = some h)
    (he : encodeThread i = some (encRri f rd rs1 n, none)) (hf : f < 16) (hn : n < 2 ^ 14)
    (hd : ∀ v, RriWord f rd rs1 n v → decRri h v = some i) : WordsRead i :=
  have hv := rriWord_of_eq hf hn (Eq.refl (encRri f rd rs1 n))
  wordsRead_short hh he hv.class_ (by decide) fun _ => (decodeThread_rri hv.class_).trans (hd _ hv)

/-- A shift amount stands below fields that are 0. -/
theorem RriWord.shift {sh : BitVec 6} (hv : RriWord f rd rs1 sh.toNat v) :
    v / 2 ^ 6 % 2 ^ 8 = 0 ∧ BitVec.ofNat 6 v = sh := by
  have := hv.imm
  exact ⟨by omega, ofNat_eq (by omega)⟩

end Rri

/-! ## Class 0x2: long immediates (R261) -/

section Long

variable {f v : Nat} {rd : Fin 32}

/-- What the decoder reads in the first word of a long immediate. -/
structure LongWord (f : Nat) (rd : Fin 32) (v : Nat) : Prop where
  class_ : v / 2 ^ 28 = 2
  low : v % 2 ^ 21 = 0
  code : v / 2 ^ 26 % 2 ^ 2 = f
  rd : xfld v 21 = rd

theorem longWord_of_eq (hf : f < 4) (hv : v = 0x20000000 + f * 2 ^ 26 + rd.val * 2 ^ 21) : LongWord f rd v :=
  ⟨by omega, by omega, by omega, fld_eq (by omega)⟩

theorem wordsRead_long {i : Instr} {h : Hart} {imm : BitVec 32} (hh : threadHart i = some h)
    (he : encodeThread i = some (0x20000000 + f * 2 ^ 26 + rd.val * 2 ^ 21, some imm.toNat)) (hf : f < 4)
    (hd : ∀ v, LongWord f rd v → decLong h v imm.toNat = some i) : WordsRead i := by
  have hv := longWord_of_eq hf (Eq.refl (0x20000000 + f * 2 ^ 26 + rd.val * 2 ^ 21))
  refine wordsRead_of hh he fun _ => ⟨(decodeThread_long hv.class_).trans (hd _ hv), ?_, by omega⟩
  simp [-Nat.reducePow, isLong, hv.class_]

end Long

/-! ## Classes 0x3 and 0x4: branches and jumps (R262) -/

section Branch

variable {f v : Nat} {rd rs1 rs2 : Fin 32} {off : BitVec 15}

/-- What the decoder reads in a branch. -/
structure BranchWord (f : Nat) (rs1 rs2 : Fin 32) (off : BitVec 15) (v : Nat) : Prop where
  class_ : v / 2 ^ 28 = 3
  code : v / 2 ^ 25 % 2 ^ 3 = f
  rs1 : xfld v 20 = rs1
  rs2 : xfld v 15 = rs2
  off : BitVec.ofNat 15 v = off

theorem branchWord_of_eq (hf : f < 8) (hv : v = encBranch f rs1 rs2 off) : BranchWord f rs1 rs2 off v := by
  unfold encBranch at hv
  exact ⟨by omega, by omega, fld_eq (by omega), fld_eq (by omega), ofNat_eq (by omega)⟩

theorem wordsRead_branch {i : Instr} {h : Hart} (hh : threadHart i = some h)
    (he : encodeThread i = some (encBranch f rs1 rs2 off, none)) (hf : f < 8)
    (hd : ∀ v, BranchWord f rs1 rs2 off v → decBranch h v = some i) : WordsRead i :=
  have hv := branchWord_of_eq hf (Eq.refl (encBranch f rs1 rs2 off))
  wordsRead_short hh he hv.class_ (by decide) fun _ => (decodeThread_branch hv.class_).trans (hd _ hv)

theorem decJump_j {h : Hart} {off : BitVec 26} (hv : v = 0x40000000 + off.toNat) : decJump h v = some (.j h off) := by
  have hcode : v / 2 ^ 26 % 2 ^ 2 = 0 := by omega
  have hoff : BitVec.ofNat 26 v = off := ofNat_eq (by omega)
  simp only [decJump, hcode, hoff]

theorem decJump_jal {h : Hart} {off : BitVec 26} (hv : v = 0x44000000 + off.toNat) : decJump h v = some (.jal h off) := by
  have hcode : v / 2 ^ 26 % 2 ^ 2 = 1 := by omega
  have hoff : BitVec.ofNat 26 v = off := ofNat_eq (by omega)
  simp only [decJump, hcode, hoff]

theorem decJump_jr {h : Hart} (hv : v = 0x48000000 + rd.val * 2 ^ 21 + rs1.val * 2 ^ 16) :
    decJump h v = some (.jr h rd rs1) := by
  have hcode : v / 2 ^ 26 % 2 ^ 2 = 2 := by omega
  have hlow : v % 2 ^ 16 = 0 := by omega
  have hrd : xfld v 21 = rd := fld_eq (by omega)
  have hrs1 : xfld v 16 = rs1 := fld_eq (by omega)
  simp [-Nat.reducePow, decJump, hcode, hlow, hrd, hrs1]

theorem wordsRead_jump {i : Instr} {h : Hart} (hh : threadHart i = some h) (he : encodeThread i = some (v, none))
    (hclass : v / 2 ^ 28 = 4) (hd : decJump h v = some i) : WordsRead i :=
  wordsRead_short hh he hclass (by decide) fun _ => (decodeThread_jump hclass).trans hd

end Branch

/-! ## Class 0x5: loads and stores (R263) -/

section Mem

variable {v : Nat} {size : Fin 4} {r rs1 : Fin 32} {imm : BitVec 14}

theorem decMem_load {h : Hart} {sext : Bool} (hform : (sext && size = 3) = false)
    (hv : v = 0x50000000 + size.val * 2 ^ 25 + b2n sext * 2 ^ 24 + r.val * 2 ^ 19 + rs1.val * 2 ^ 14 + imm.toNat) :
    decMem h v = some (.load h size sext r rs1 imm .clean) := by
  have hb := b2n_lt sext
  have hstore : v.testBit 27 = false := testBit_eq (by rw [b2n_false]; omega)
  have hsext : v.testBit 24 = sext := testBit_eq (by omega)
  have hsize : pfld v 25 = size := fld_eq (by omega)
  have hr : xfld v 19 = r := fld_eq (by omega)
  have hrs1 : xfld v 14 = rs1 := fld_eq (by omega)
  have himm : BitVec.ofNat 14 v = imm := ofNat_eq (by omega)
  simp [decMem, hstore, hsext, hsize, hr, hrs1, himm, hform]

theorem decMem_store {h : Hart}
    (hv : v = 0x58000000 + size.val * 2 ^ 25 + r.val * 2 ^ 19 + rs1.val * 2 ^ 14 + imm.toNat) :
    decMem h v = some (.store h size r rs1 imm true) := by
  have hstore : v.testBit 27 = true := testBit_eq (by rw [b2n_true]; omega)
  have hsext : v.testBit 24 = false := testBit_eq (by rw [b2n_false]; omega)
  have hsize : pfld v 25 = size := fld_eq (by omega)
  have hr : xfld v 19 = r := fld_eq (by omega)
  have hrs1 : xfld v 14 = rs1 := fld_eq (by omega)
  have himm : BitVec.ofNat 14 v = imm := ofNat_eq (by omega)
  simp [decMem, hstore, hsext, hsize, hr, hrs1, himm]

theorem wordsRead_load (h : Hart) (sext : Bool) (ecc : Ecc) : WordsRead (.load h size sext r rs1 imm ecc) := by
  have hb := b2n_lt sext
  have hclass : (0x50000000 + size.val * 2 ^ 25 + b2n sext * 2 ^ 24 + r.val * 2 ^ 19 + rs1.val * 2 ^ 14 +
      imm.toNat) / 2 ^ 28 = 5 := by omega
  refine wordsRead_short rfl rfl hclass (by decide) fun hform => (decodeThread_mem hclass).trans ?_
  obtain ⟨hlegal, rfl⟩ : (sext && size = 3) = false ∧ ecc = .clean := by
    simpa only [threadForm, Bool.and_eq_true, Bool.not_eq_true', decide_eq_true_eq] using hform
  exact decMem_load hlegal rfl

theorem wordsRead_store (h : Hart) (agree : Bool) : WordsRead (.store h size r rs1 imm agree) := by
  have hclass : (0x58000000 + size.val * 2 ^ 25 + r.val * 2 ^ 19 + rs1.val * 2 ^ 14 + imm.toNat) / 2 ^ 28 = 5 := by omega
  refine wordsRead_short rfl rfl hclass (by decide) fun hform => (decodeThread_mem hclass).trans ?_
  obtain rfl : agree = true := hform
  exact decMem_store rfl

end Mem

/-! ## Class 0x6: atomics (R264) -/

section Amo

variable {f v : Nat} {dbl : Bool} {ord : Order} {sc : Scope} {rd rs1 rs2 : Fin 32}

/-- What the decoder reads in an atomic. -/
structure AmoWord (f : Nat) (dbl : Bool) (ord : Order) (sc : Scope) (rd rs1 rs2 : Fin 32) (v : Nat) : Prop where
  class_ : v / 2 ^ 28 = 6
  low : v % 8 = 0
  size : v.testBit 23 = true
  dbl : v.testBit 22 = dbl
  ord : orderOf (v / 2 ^ 20 % 4) = ord
  scope : scopeOf (v / 2 ^ 18 % 4) = some sc
  code : v / 2 ^ 24 % 2 ^ 4 = f
  rd : xfld v 13 = rd
  rs1 : xfld v 8 = rs1
  rs2 : xfld v 3 = rs2

theorem amoWord_of_eq (hf : f < 16) (hv : v = encAmo f dbl ord sc rd rs1 rs2) : AmoWord f dbl ord sc rd rs1 rs2 v := by
  have hb := b2n_lt dbl
  have hs := scopeCode_lt sc
  have ho := orderCode_lt ord
  unfold encAmo at hv
  have hord : v / 2 ^ 20 % 4 = orderCode ord := by omega
  have hscope : v / 2 ^ 18 % 4 = scopeCode sc := by omega
  exact ⟨by omega, by omega, testBit_eq (by rw [b2n_true]; omega), testBit_eq (by omega), by rw [hord, orderOf_orderCode],
    by rw [hscope, scopeOf_scopeCode], by omega, fld_eq (by omega), fld_eq (by omega), fld_eq (by omega)⟩

theorem wordsRead_amo {i : Instr} {h : Hart} (hh : threadHart i = some h)
    (he : encodeThread i = some (encAmo f dbl ord sc rd rs1 rs2, none)) (hf : f < 16)
    (hd : ∀ v, AmoWord f dbl ord sc rd rs1 rs2 v → decAmo h v = some i) : WordsRead i :=
  have hv := amoWord_of_eq hf (Eq.refl (encAmo f dbl ord sc rd rs1 rs2))
  wordsRead_short hh he hv.class_ (by decide) fun _ => (decodeThread_amo hv.class_).trans (hd _ hv)

end Amo

/-! ## Class 0x7: synchronisation (R265) -/

section Sync

variable {v : Nat} {h : Hart}

theorem decSync_fence {sc : Scope} (hv : v = 0x70000000 + scopeCode sc * 2 ^ 22) : decSync h v = some (.fence h sc) := by
  have hs := scopeCode_lt sc
  have hmid : v / 2 ^ 12 % 2 ^ 10 = 0 := by omega
  have hlow : v % 2 ^ 12 = 0 := by omega
  have hscope : v / 2 ^ 22 % 4 = scopeCode sc := by omega
  have hcode : v / 2 ^ 24 % 2 ^ 4 = 0 := by omega
  simp [-Nat.reducePow, decSync, hmid, hlow, hscope, hcode]

theorem decSync_waitt {mask : Byte} (hv : v = 0x72000000 + mask.toNat) : decSync h v = some (.waitt h mask) := by
  have hmid : v / 2 ^ 12 % 2 ^ 10 = 0 := by omega
  have hlow : v % 2 ^ 12 = mask.toNat := by omega
  have hhigh : mask.toNat / 2 ^ 8 = 0 := by omega
  have hscope : v / 2 ^ 22 % 4 = 0 := by omega
  have hcode : v / 2 ^ 24 % 2 ^ 4 = 2 := by omega
  simp [-Nat.reducePow, decSync, hmid, hlow, hhigh, hscope, hcode]

theorem decSync_bar {id : Fin 16} {c : BitVec 7} (hv : v = 0x73000000 + id.val * 2 ^ 8 + c.toNat) :
    decSync h v = some (.bar h id c) := by
  have hmid : v / 2 ^ 12 % 2 ^ 10 = 0 := by omega
  have hscope : v / 2 ^ 22 % 4 = 0 := by omega
  have hcode : v / 2 ^ 24 % 2 ^ 4 = 3 := by omega
  have hbit : v.testBit 7 = false := testBit_eq (by rw [b2n_false]; omega)
  have hid : fld v 8 16 (by decide) = id := fld_eq (by omega)
  have hc : BitVec.ofNat 7 (v % 2 ^ 12) = c := ofNat_eq (by omega)
  simp [-Nat.reducePow, decSync, hmid, hscope, hcode, hbit, hid, hc]

theorem wordsRead_sync {i : Instr} (hh : threadHart i = some h) (he : encodeThread i = some (v, none))
    (hclass : v / 2 ^ 28 = 7) (hd : decSync h v = some i) : WordsRead i :=
  wordsRead_short hh he hclass (by decide) fun _ => (decodeThread_sync hclass).trans hd

end Sync

/-! ## Class 0x8: vector operate (R266, R267) -/

section Vec

variable {f ty v vd : Nat} {vs1 : Fin 8} {src : VSrc} {pr : Option (Fin 4)}

/-- What the decoder reads in a vector operation with a second operand in either form. -/
structure VecWord (f vd : Nat) (vs1 : Fin 8) (ty : Nat) (src : VSrc) (pr : Option (Fin 4)) (v : Nat) : Prop where
  class_ : v / 2 ^ 28 = 8
  low : v % 4 = 0
  code : v / 2 ^ 22 % 2 ^ 6 = f
  vd : v / 2 ^ 19 % 8 = vd
  vs1 : vfld v 16 = vs1
  ty : v / 2 ^ 6 % 4 = ty
  enabled : v.testBit 2 = pr.isSome
  pr : prfld v 3 2 = pr
  src : (if v.testBit 5 then VSrc.vs (xfld v 8) else .vv (vfld v 13)) = src
  scalar : (v.testBit 5 && vfld v 13 != 0) = false
  vector : (!v.testBit 5 && xfld v 8 != 0) = false

theorem vecWord_of_eq (hf : f < 64) (hd : vd < 8) (ht : ty < 2) (hv : v = encVecSrc f vd vs1.val ty src pr) :
    VecWord f vd vs1 ty src pr v := by
  have hp := prBits_lt pr
  have hen : prBits pr 1 0 % 2 = b2n pr.isSome := by cases pr <;> simp [prBits]
  cases src with
  | vv r =>
    simp only [encVecSrc, encVec, prBits_succ pr 2] at hv
    have hform : v.testBit 5 = false := testBit_eq (by rw [b2n_false]; omega)
    have hvs2 : vfld v 13 = r := fld_eq (by omega)
    have hrs : xfld v 8 = 0 := fld_eq (by show _ = 0; omega)
    exact ⟨by omega, by omega, by omega, by omega, fld_eq (by omega), by omega, testBit_eq (by omega), prfld_eq (by omega),
      by simp [hform, hvs2], by simp [hform], by simp [hrs]⟩
  | vs r =>
    simp only [encVecSrc, encVec, prBits_succ pr 2] at hv
    have hform : v.testBit 5 = true := testBit_eq (by rw [b2n_true]; omega)
    have hvs2 : vfld v 13 = 0 := fld_eq (by show _ = 0; omega)
    have hrs : xfld v 8 = r := fld_eq (by omega)
    exact ⟨by omega, by omega, by omega, by omega, fld_eq (by omega), by omega, testBit_eq (by omega), prfld_eq (by omega),
      by simp [hform, hrs], by simp [hvs2], by simp [hform]⟩

/-- The field of vd as a vector register. -/
theorem VecWord.vreg {d : Fin 8} (hv : VecWord f d.val vs1 ty src pr v) : vfld v 19 = d := fld_eq hv.vd

/-- The field of vd as a predicate register, below a bit that is 0. -/
theorem VecWord.preg {d : Fin 4} (hv : VecWord f d.val vs1 ty src pr v) : pfld v 19 = d ∧ v.testBit 21 = false := by
  have := hv.vd
  exact ⟨fld_eq (by omega), testBit_eq (by rw [b2n_false]; omega)⟩

/-- A second operand that is a vector register. -/
theorem VecWord.vv {r : Fin 8} (hv : VecWord f vd vs1 ty (.vv r) pr v) :
    v.testBit 5 = false ∧ vfld v 13 = r ∧ xfld v 8 = 0 := by
  have hsrc := hv.src
  have hrs := hv.vector
  split at hsrc
  · cases hsrc
  · next hform =>
    cases hsrc
    exact ⟨by simpa using hform, rfl, by simpa [hform] using hrs⟩

/-- A second operand that is a scalar register. -/
theorem VecWord.vs {r : Fin 32} (hv : VecWord f vd vs1 ty (.vs r) pr v) :
    v.testBit 5 = true ∧ xfld v 8 = r ∧ vfld v 13 = 0 := by
  have hsrc := hv.src
  have hvs2 := hv.scalar
  split at hsrc
  · next hform =>
    cases hsrc
    exact ⟨hform, rfl, by simpa [hform] using hvs2⟩
  · cases hsrc

/-- An enabling predicate register. -/
theorem VecWord.pred {p : Fin 4} (hv : VecWord f vd vs1 ty src (some p) v) : pfld v 3 = p := by
  have hen : v.testBit 2 = true := hv.enabled
  have hpr := hv.pr
  rw [prfld, if_pos hen] at hpr
  exact Option.some.inj hpr

theorem wordsRead_vec {i : Instr} {h : Hart} (hh : threadHart i = some h)
    (he : encodeThread i = some (encVecSrc f vd vs1.val ty src pr, none)) (hf : f < 64) (hvd : vd < 8) (ht : ty < 2)
    (hd : ∀ v, VecWord f vd vs1 ty src pr v → decVec h v = some i) : WordsRead i :=
  have hv := vecWord_of_eq hf hvd ht (Eq.refl (encVecSrc f vd vs1.val ty src pr))
  wordsRead_short hh he hv.class_ (by decide) fun _ => (decodeThread_vec hv.class_).trans (hd _ hv)

/-- VRSHR alone names a scalar register without the form of one. -/
theorem decVec_vrshr {h : Hart} {d : Fin 8} {rs : Fin 32} (hv : v = encVec 0x0F d.val vs1.val 0 rs.val 0 0 pr) :
    decVec h v = some (.vrshr h d vs1 rs pr) := by
  have hp := prBits_lt pr
  simp only [encVec, prBits_succ pr 2] at hv
  have hlow : v % 4 = 0 := by omega
  have hcode : v / 2 ^ 22 % 2 ^ 6 = 0x0F := by omega
  have hvd : vfld v 19 = d := fld_eq (by omega)
  have hvs1 : vfld v 16 = vs1 := fld_eq (by omega)
  have hrs : xfld v 8 = rs := fld_eq (by omega)
  have hty : v / 2 ^ 6 % 4 = 0 := by omega
  have hform : v.testBit 5 = false := testBit_eq (by rw [b2n_false]; omega)
  have hpr : prfld v 3 2 = pr := prfld_eq (by omega)
  simp [-Nat.reducePow, decVec, hlow, hcode, hvd, hvs1, hrs, hty, hform, hpr]

theorem wordsRead_vrshr (h : Hart) (d : Fin 8) (rs : Fin 32) : WordsRead (.vrshr h d vs1 rs pr) := by
  have hclass : encVec 0x0F d.val vs1.val 0 rs.val 0 0 pr / 2 ^ 28 = 8 := by
    have hp := prBits_lt pr
    simp only [encVec, prBits_succ pr 2]
    omega
  exact wordsRead_short rfl rfl hclass (by decide) fun _ => (decodeThread_vec hclass).trans (decVec_vrshr rfl)

end Vec

/-! ## Class 0x9: vector memory (R269) -/

section Vmem

variable {f v : Nat} {el : Elem} {r : Fin 8} {rs1 rs2 : Fin 32} {pr : Option (Fin 4)}

/-- What the decoder reads in a vector memory word. -/
structure VmemWord (f : Nat) (el : Elem) (r : Fin 8) (rs1 rs2 : Fin 32) (pr : Option (Fin 4)) (v : Nat) : Prop where
  class_ : v / 2 ^ 28 = 9
  low : v % 2 ^ 8 = 0
  code : v / 2 ^ 26 % 4 = f
  el : elemOf (v / 2 ^ 24 % 4) = el
  r : vfld v 21 = r
  rs1 : xfld v 16 = rs1
  rs2 : xfld v 11 = rs2
  pr : prfld v 9 8 = pr

theorem vmemWord_of_eq (hf : f < 4) (hv : v = encVmem f el r rs1.val rs2.val pr) : VmemWord f el r rs1 rs2 pr v := by
  have hp := prBits_lt pr
  have he := elemCode_lt el
  simp only [encVmem, prBits_succ pr 8] at hv
  have hel : v / 2 ^ 24 % 4 = elemCode el := by omega
  exact ⟨by omega, by omega, by omega, by rw [hel, elemOf_elemCode], fld_eq (by omega), fld_eq (by omega), fld_eq (by omega),
    prfld_eq (by omega)⟩

theorem wordsRead_vmem {i : Instr} {h : Hart} (hh : threadHart i = some h)
    (he : encodeThread i = some (encVmem f el r rs1.val rs2.val pr, none)) (hf : f < 4)
    (hd : ∀ v, VmemWord f el r rs1 rs2 pr v → decVmem h v = some i) : WordsRead i :=
  have hv := vmemWord_of_eq hf (Eq.refl (encVmem f el r rs1.val rs2.val pr))
  wordsRead_short hh he hv.class_ (by decide) fun _ => (decodeThread_vmem hv.class_).trans (hd _ hv)

end Vmem

/-! ## Class 0xA: vector reductions and permutes (R270) -/

section Vred

variable {f ty v : Nat} {vd vs1 vs2 : Fin 8} {rd : Fin 32} {pr : Option (Fin 4)}

/-- What the decoder reads in a vector reduction or permute. -/
structure VredWord (f : Nat) (vd vs1 vs2 : Fin 8) (rd : Fin 32) (ty : Nat) (pr : Option (Fin 4)) (v : Nat) : Prop where
  class_ : v / 2 ^ 28 = 0xA
  low : v % 2 ^ 5 = 0
  code : v / 2 ^ 24 % 2 ^ 4 = f
  vd : vfld v 21 = vd
  vs1 : vfld v 18 = vs1
  vs2 : vfld v 15 = vs2
  rd : xfld v 10 = rd
  ty : v / 2 ^ 8 % 4 = ty
  bits : v / 2 ^ 5 % 8 = prBits pr 1 0
  pr : prfld v 6 5 = pr

theorem vredWord_of_eq (hf : f < 16) (ht : ty < 2) (hv : v = encVred f vd.val vs1.val vs2.val rd.val ty pr) :
    VredWord f vd vs1 vs2 rd ty pr v := by
  have hp := prBits_lt pr
  simp only [encVred, prBits_succ pr 5] at hv
  exact ⟨by omega, by omega, by omega, fld_eq (by omega), fld_eq (by omega), fld_eq (by omega), fld_eq (by omega), by omega,
    by omega, prfld_eq (by omega)⟩

/-- An enabling predicate register. -/
theorem VredWord.pred {p : Fin 4} (hv : VredWord f vd vs1 vs2 rd ty (some p) v) : v.testBit 5 = true ∧ pfld v 6 = p := by
  have hbits := hv.bits
  simp only [prBits] at hbits
  exact ⟨testBit_eq (by rw [b2n_true]; omega), fld_eq (by omega)⟩

/-- No predicate operand at all. -/
theorem VredWord.nopred (hv : VredWord f vd vs1 vs2 rd ty none v) : v / 2 ^ 5 % 8 = 0 := hv.bits

theorem wordsRead_vred {i : Instr} {h : Hart} (hh : threadHart i = some h)
    (he : encodeThread i = some (encVred f vd.val vs1.val vs2.val rd.val ty pr, none)) (hf : f < 16) (ht : ty < 2)
    (hd : ∀ v, VredWord f vd vs1 vs2 rd ty pr v → decVred h v = some i) : WordsRead i :=
  have hv := vredWord_of_eq hf ht (Eq.refl (encVred f vd.val vs1.val vs2.val rd.val ty pr))
  wordsRead_short hh he hv.class_ (by decide) fun _ => (decodeThread_vred hv.class_).trans (hd _ hv)

end Vred

/-! ## Classes 0xB and 0xC: tensor and queue instructions (R271 to R274) -/

section Tensor

variable {v : Nat} {h : Hart} {rd rs1 rs2 : Fin 32}

theorem decTensor_top {prec : Precision} {acc deq : Bool}
    (hv : v = 0xB0000000 + rd.val * 2 ^ 19 + rs1.val * 2 ^ 14 + precCode prec * 2 ^ 11 + b2n acc * 2 ^ 10 + b2n deq * 2 ^ 9) :
    decTensor h v = some (.top h rd rs1 prec acc deq) := by
  have hp := precCode_lt prec
  have ha := b2n_lt acc
  have hq := b2n_lt deq
  have hlow : v % 2 ^ 9 = 0 := by omega
  have hcode : v / 2 ^ 24 % 2 ^ 4 = 0 := by omega
  have hrd : xfld v 19 = rd := fld_eq (by omega)
  have hrs1 : xfld v 14 = rs1 := fld_eq (by omega)
  have hprec : v / 2 ^ 11 % 8 = precCode prec := by omega
  have hacc : v.testBit 10 = acc := testBit_eq (by omega)
  have hdeq : v.testBit 9 = deq := testBit_eq (by omega)
  simp [-Nat.reducePow, decTensor, hlow, hcode, hrd, hrs1, hprec, hacc, hdeq]

theorem decTensor_tmove (hv : v = 0xB1000000 + rd.val * 2 ^ 19 + rs1.val * 2 ^ 14) :
    decTensor h v = some (.tmove h rd rs1) := by
  have hlow : v % 2 ^ 9 = 0 := by omega
  have hcode : v / 2 ^ 24 % 2 ^ 4 = 1 := by omega
  have hmid : v / 2 ^ 9 % 2 ^ 5 = 0 := by omega
  have hrd : xfld v 19 = rd := fld_eq (by omega)
  have hrs1 : xfld v 14 = rs1 := fld_eq (by omega)
  simp [-Nat.reducePow, decTensor, hlow, hcode, hmid, hrd, hrs1]

theorem wordsRead_tensor {i : Instr} (hh : threadHart i = some h) (he : encodeThread i = some (v, none))
    (hclass : v / 2 ^ 28 = 0xB) (hd : decTensor h v = some i) : WordsRead i :=
  wordsRead_short hh he hclass (by decide) fun _ => (decodeThread_tensor hclass).trans hd

theorem wordsRead_top (prec : Precision) (acc deq : Bool) : WordsRead (.top h rd rs1 prec acc deq) := by
  have hp := precCode_lt prec
  have ha := b2n_lt acc
  have hq := b2n_lt deq
  exact wordsRead_tensor rfl rfl (by omega) (decTensor_top rfl)

theorem decQueue_submit (hv : v = 0xC0000000 + rd.val * 2 ^ 19 + rs1.val * 2 ^ 14 + rs2.val * 2 ^ 9) :
    decQueue h v = some (.submit h rd rs1 rs2) := by
  have hlow : v % 2 ^ 9 = 0 := by omega
  have hcode : v / 2 ^ 24 % 2 ^ 4 = 0 := by omega
  have hrd : xfld v 19 = rd := fld_eq (by omega)
  have hrs1 : xfld v 14 = rs1 := fld_eq (by omega)
  have hrs2 : xfld v 9 = rs2 := fld_eq (by omega)
  simp [-Nat.reducePow, decQueue, hlow, hcode, hrd, hrs1, hrs2]

theorem decQueue_cancel (hv : v = 0xC1000000 + rd.val * 2 ^ 19 + rs1.val * 2 ^ 14 + rs2.val * 2 ^ 9) :
    decQueue h v = some (.cancel h rd rs1 rs2) := by
  have hlow : v % 2 ^ 9 = 0 := by omega
  have hcode : v / 2 ^ 24 % 2 ^ 4 = 1 := by omega
  have hrd : xfld v 19 = rd := fld_eq (by omega)
  have hrs1 : xfld v 14 = rs1 := fld_eq (by omega)
  have hrs2 : xfld v 9 = rs2 := fld_eq (by omega)
  simp [-Nat.reducePow, decQueue, hlow, hcode, hrd, hrs1, hrs2]

theorem decQueue_jobend (hv : v = 0xC2000000 + rs1.val * 2 ^ 14) : decQueue h v = some (.jobend h rs1) := by
  have hlow : v % 2 ^ 9 = 0 := by omega
  have hcode : v / 2 ^ 24 % 2 ^ 4 = 2 := by omega
  have hrd : xfld v 19 = 0 := fld_eq (by show _ = 0; omega)
  have hrs1 : xfld v 14 = rs1 := fld_eq (by omega)
  have hrs2 : xfld v 9 = 0 := fld_eq (by show _ = 0; omega)
  simp [-Nat.reducePow, decQueue, hlow, hcode, hrd, hrs1, hrs2]

theorem wordsRead_queue {i : Instr} (hh : threadHart i = some h) (he : encodeThread i = some (v, none))
    (hclass : v / 2 ^ 28 = 0xC) (hd : decQueue h v = some i) : WordsRead i :=
  wordsRead_short hh he hclass (by decide) fun _ => (decodeThread_queue hclass).trans hd

end Tensor

/-! ## Class 0xD: system (R275) -/

section Sys

variable {f v : Nat} {rd rs1 : Fin 32} {imm : BitVec 14}

/-- What the decoder reads in a system word. -/
structure SysWord (f : Nat) (rd rs1 : Fin 32) (imm : BitVec 14) (v : Nat) : Prop where
  class_ : v / 2 ^ 28 = 0xD
  code : v / 2 ^ 24 % 2 ^ 4 = f
  rest : v % 2 ^ 24 = rd.val * 2 ^ 19 + rs1.val * 2 ^ 14 + imm.toNat
  rd : xfld v 19 = rd
  rs1 : xfld v 14 = rs1
  imm : BitVec.ofNat 14 v = imm

theorem sysWord_of_eq (hf : f < 16) (hv : v = encSys f rd.val rs1.val imm.toNat) : SysWord f rd rs1 imm v := by
  unfold encSys at hv
  exact ⟨by omega, by omega, by omega, fld_eq (by omega), fld_eq (by omega), ofNat_eq (by omega)⟩

theorem wordsRead_sys {i : Instr} {h : Hart} (hh : threadHart i = some h)
    (he : encodeThread i = some (encSys f rd.val rs1.val imm.toNat, none)) (hf : f < 16)
    (hd : ∀ v, SysWord f rd rs1 imm v → decSys h v = some i) : WordsRead i :=
  have hv := sysWord_of_eq hf (Eq.refl (encSys f rd.val rs1.val imm.toNat))
  wordsRead_short hh he hv.class_ (by decide) fun _ => (decodeThread_sys hv.class_).trans (hd _ hv)

end Sys

/-! ## Every instruction -/

/-- The words of every instruction that has words read as it. -/
theorem wordsRead (i : Instr) : WordsRead i := by
  cases i with
  | add h rd rs1 rs2 w =>
    refine wordsRead_rrr rfl rfl (by decide) fun hform v hv => ?_
    have hne : ¬ (rd = 0 ∧ rs1 = 0 ∧ rs2 = 0 ∧ w = false) := by
      rintro ⟨rfl, rfl, rfl, rfl⟩
      cases hform
    simp [-Nat.reducePow, -not_and, decRrr, hv.low, hv.zero, hne, hv.code, hv.rd, hv.rs1, hv.rs2, hv.w]
  | sub | andR | orR | xor | sll | srl | sra | slt | sltu | minR | maxR | minu | maxu | mul | div | divu | rem | remu
  | mulh | mulhu | clz | ctz | popc =>
    exact wordsRead_rrr rfl rfl (by decide) fun _ v hv => by
      simp [-Nat.reducePow, decRrr, hv.low, hv.zero, hv.code, hv.rd, hv.rs1, hv.rs2, hv.w]
  | addi h rd rs1 imm | andi h rd rs1 imm | ori h rd rs1 imm | xori h rd rs1 imm | slti h rd rs1 imm | sltiu h rd rs1 imm
  | addiw h rd rs1 imm =>
    exact wordsRead_rri rfl rfl (by decide) imm.isLt fun v hv => by
      simp [-Nat.reducePow, decRri, hv.code, hv.rd, hv.rs1, ofNat_eq hv.imm]
  | slli h rd rs1 sh | srli h rd rs1 sh | srai h rd rs1 sh =>
    exact wordsRead_rri rfl rfl (by decide) (by omega) fun v hv => by
      simp [-Nat.reducePow, decRri, hv.code, hv.rd, hv.rs1, hv.shift]
  | li | lih | lpc =>
    exact wordsRead_long rfl rfl (by decide) fun v hv => by
      simp [-Nat.reducePow, decLong, hv.low, hv.code, hv.rd]
  | beq | bne | blt | bge | bltu | bgeu =>
    exact wordsRead_branch rfl rfl (by decide) fun v hv => by
      simp [-Nat.reducePow, decBranch, hv.code, hv.rs1, hv.rs2, hv.off]
  | j => exact wordsRead_jump rfl rfl (by omega) (decJump_j rfl)
  | jal => exact wordsRead_jump rfl rfl (by omega) (decJump_jal rfl)
  | jr => exact wordsRead_jump rfl rfl (by omega) (decJump_jr rfl)
  | load h size sext rd rs1 imm ecc => exact wordsRead_load h sext ecc
  | store h size rs2 rs1 imm agree => exact wordsRead_store h agree
  | swap | amoAdd | amoAnd | amoOr | amoXor | amoMin | amoMax | amoMinu | amoMaxu | cas | lda | sta =>
    exact wordsRead_amo rfl rfl (by decide) fun v hv => by
      simp [-Nat.reducePow, decAmo, hv.low, hv.size, hv.dbl, hv.ord, hv.scope, hv.code, hv.rd, hv.rs1, hv.rs2]
  | fence h sc =>
    have hs := scopeCode_lt sc
    exact wordsRead_sync rfl rfl (by omega) (decSync_fence rfl)
  | fenceI => exact wordsRead_sync rfl rfl (by decide) (by rfl)
  | waitt => exact wordsRead_sync rfl rfl (by omega) (decSync_waitt rfl)
  | bar => exact wordsRead_sync rfl rfl (by omega) (decSync_bar rfl)
  | yield => exact wordsRead_sync rfl rfl (by decide) (by rfl)
  | vadd h vd vs1 src pr | vsub h vd vs1 src pr | vmul h vd vs1 src pr | vmulh h vd vs1 src pr | vand h vd vs1 src pr
  | vor h vd vs1 src pr | vxor h vd vs1 src pr | vsll h vd vs1 src pr | vsrl h vd vs1 src pr | vsra h vd vs1 src pr
  | vmin h vd vs1 src pr | vmax h vd vs1 src pr | vadds h vd vs1 src pr | vsubs h vd vs1 src pr | vfadd h vd vs1 src pr
  | vfsub h vd vs1 src pr | vfmul h vd vs1 src pr | vfma h vd vs1 src pr | vfmin h vd vs1 src pr | vfmax h vd vs1 src pr =>
    exact wordsRead_vec rfl rfl (by decide) vd.isLt (by decide) fun v hv => by
      simp [-Nat.reducePow, decVec, hv.low, hv.scalar, hv.vector, hv.code, hv.vreg, hv.vs1, hv.src, hv.ty, hv.pr]
  | vabs h vd vs1 pr | vcvtif h vd vs1 pr | vcvtfi h vd vs1 pr | vcvtfh h vd vs1 pr | vcvtfb h vd vs1 pr =>
    exact wordsRead_vec (src := .vv 0) rfl rfl (by decide) vd.isLt (by decide) fun v hv => by
      simp [-Nat.reducePow, decVec, hv.low, hv.code, hv.vreg, hv.vs1, hv.vv, hv.ty, hv.pr]
  | vceq h fp pd vs1 src pr | vclt h fp pd vs1 src pr | vcle h fp pd vs1 src pr =>
    exact wordsRead_vec rfl rfl (by decide) (by omega) (b2n_lt fp) fun v hv => by
      simp [-Nat.reducePow, decVec, hv.low, hv.scalar, hv.vector, hv.code, hv.preg, hv.vs1, hv.src, hv.ty, hv.pr]
  | vcltu h pd vs1 src pr =>
    exact wordsRead_vec rfl rfl (by decide) (by omega) (by decide) fun v hv => by
      simp [-Nat.reducePow, decVec, hv.low, hv.scalar, hv.vector, hv.code, hv.preg, hv.vs1, hv.src, hv.ty, hv.pr]
  | vsel h vd vs1 src pr =>
    exact wordsRead_vec rfl rfl (by decide) vd.isLt (by decide) fun v hv => by
      simp [-Nat.reducePow, decVec, hv.low, hv.scalar, hv.vector, hv.code, hv.vreg, hv.vs1, hv.src, hv.ty, hv.enabled, hv.pred]
  | vbcast h vd rs pr =>
    exact wordsRead_vec (vs1 := 0) (src := .vs rs) rfl rfl (by decide) vd.isLt (by decide) fun v hv => by
      simp [-Nat.reducePow, decVec, hv.low, hv.code, hv.vreg, hv.vs1, hv.vs, hv.ty, hv.pr]
  | vrshr h vd vs1 rs pr => exact wordsRead_vrshr h vd rs
  | vload h el vd rs1 pr | vstore h el vd rs1 pr =>
    exact wordsRead_vmem (rs2 := 0) rfl rfl (by decide) fun v hv => by
      simp [-Nat.reducePow, decVmem, hv.low, hv.code, hv.el, hv.r, hv.rs1, hv.rs2, hv.pr]
  | vloadStrided | vstoreStrided =>
    exact wordsRead_vmem rfl rfl (by decide) fun v hv => by
      simp [-Nat.reducePow, decVmem, hv.low, hv.code, hv.el, hv.r, hv.rs1, hv.rs2, hv.pr]
  | vrsum h fp rd vs1 pr | vrmax h fp rd vs1 pr | vrmin h fp rd vs1 pr | vrargmax h fp rd vs1 pr =>
    exact wordsRead_vred (vd := 0) (vs2 := 0) rfl rfl (by decide) (b2n_lt fp) fun v hv => by
      simp [-Nat.reducePow, decVred, hv.low, hv.code, hv.vd, hv.vs1, hv.vs2, hv.rd, hv.ty, hv.pr]
  | vslideup | vslidedown =>
    exact wordsRead_vred (vs2 := 0) rfl rfl (by decide) (by decide) fun v hv => by
      simp [-Nat.reducePow, decVred, hv.low, hv.code, hv.vd, hv.vs1, hv.vs2, hv.rd, hv.ty, hv.pr]
  | vperm =>
    exact wordsRead_vred (rd := 0) rfl rfl (by decide) (by decide) fun v hv => by
      simp [-Nat.reducePow, decVred, hv.low, hv.code, hv.vd, hv.vs1, hv.vs2, hv.rd, hv.ty, hv.pr]
  | vcompress =>
    exact wordsRead_vred (vs2 := 0) rfl rfl (by decide) (by decide) fun v hv => by
      simp [-Nat.reducePow, decVred, hv.low, hv.code, hv.vd, hv.vs1, hv.vs2, hv.rd, hv.ty, hv.pred]
  | vfirst =>
    exact wordsRead_vred (vd := 0) (vs2 := 0) rfl rfl (by decide) (by decide) fun v hv => by
      simp [-Nat.reducePow, decVred, hv.low, hv.code, hv.vd, hv.vs1, hv.vs2, hv.rd, hv.ty, hv.nopred]
  | top h rd rs1 prec acc deq => exact wordsRead_top prec acc deq
  | tmove => exact wordsRead_tensor rfl rfl (by omega) (decTensor_tmove rfl)
  | submit => exact wordsRead_queue rfl rfl (by omega) (decQueue_submit rfl)
  | cancel => exact wordsRead_queue rfl rfl (by omega) (decQueue_cancel rfl)
  | jobend => exact wordsRead_queue rfl rfl (by omega) (decQueue_jobend rfl)
  | tsr =>
    exact wordsRead_sys (rs1 := 0) rfl rfl (by decide) fun v hv => by
      simp [-Nat.reducePow, decSys, hv.code, hv.rd, hv.rs1, hv.imm]
  | tsw =>
    exact wordsRead_sys (rd := 0) rfl rfl (by decide) fun v hv => by
      simp [-Nat.reducePow, decSys, hv.code, hv.rd, hv.rs1, hv.imm]
  | trap =>
    exact wordsRead_sys (rd := 0) (rs1 := 0) rfl rfl (by decide) fun v hv => by
      simp [-Nat.reducePow, decSys, hv.code, hv.rd, hv.rs1, hv.imm]
  | brk | wfe | eret =>
    exact wordsRead_sys (rd := 0) (rs1 := 0) (imm := 0) rfl rfl (by decide) fun v hv => by
      simp [-Nat.reducePow, decSys, hv.code, hv.rest]
  | _ => exact wordsRead_of_none rfl

end Sys2Proof.Machine

namespace Sys2Proof

open Sys2Proof.Machine

/-- Settles O7: each class's decoder reads in a word the fields that the encoder put there (`wordsRead`). -/
theorem threadWordsRoundTrip : Obligations.ThreadWordsRoundTrip := by
  unfold Obligations.ThreadWordsRoundTrip
  exact wordsRead

end Sys2Proof
end

section
/-! # Scalar instructions (O9 to O12): R257, R259 to R262 -/

namespace Sys2Proof.Machine

open Sys2Proof

variable {s : State} {h : Hart}

/-! ## Instructions that write one register -/

/-- A command that is a register operation writes its result. -/
theorem answers_rrr {i : Instr} {rd rs1 rs2 : Fin 32} {w : Bool} {f : Word → Word → Word} {g : Half → Half → Half}
    (hi : exec i s = .next (s.rrr h rd rs1 rs2 w f g)) (hr : s.runs h = true) :
    Answers i s (WritesReg h rd (rrrResult w f g ((s.ctx h).get rs1) ((s.ctx h).get rs2)) 4 s) :=
  answers_next hi (writesReg_writeReg s hr rd (fun c => rrrResult w f g (c.get rs1) (c.get rs2)) 4)

/-- A command that counts in one operand writes the count. -/
theorem answers_countOp {i : Instr} {rd rs1 : Fin 32} {w : Bool} {f : Nat → Nat → Nat}
    (hi : exec i s = .next (s.countOp h rd rs1 w f)) (hr : s.runs h = true) :
    Answers i s (WritesReg h rd
      (BitVec.ofNat 64 (if w then f 32 (lo32 ((s.ctx h).get rs1)).toNat else f 64 ((s.ctx h).get rs1).toNat)) 4 s) :=
  answers_next hi (writesReg_writeReg s hr rd _ 4)

/-- A command that computes its register from the hart's own registers writes it. -/
theorem answers_writeReg {i : Instr} {rd : Fin 32} {f : Ctx → Word} {len : Nat} {v : Word}
    (hi : exec i s = .next (s.writeReg h rd f len)) (hr : s.runs h = true) (hv : f (s.ctx h) = v) :
    Answers i s (WritesReg h rd v len s) :=
  answers_next hi (hv ▸ writesReg_writeReg s hr rd f len)

/-- ADD's word is zero, which is illegal, for one choice of its operands (R258). -/
theorem firstWord_add_eq_zero {rd rs1 rs2 : Fin 32} {w : Bool} :
    firstWord (.add h rd rs1 rs2 w) = 0 ↔ rd = 0 ∧ rs1 = 0 ∧ rs2 = 0 ∧ w = false := by
  have hzero := (rrrWord_of_eq (by decide) (Eq.refl (encRrr 0 rd rs1 rs2 w))).zero
  simpa only [firstWord, encodeThread, true_and] using hzero

theorem answers_add {rd rs1 rs2 : Fin 32} {w : Bool} (hr : s.runs h = true)
    (hword : rd ≠ 0 ∨ rs1 ≠ 0 ∨ rs2 ≠ 0 ∨ w = true) :
    Answers (.add h rd rs1 rs2 w) s
      (WritesReg h rd (rrrResult w (· + ·) (· + ·) ((s.ctx h).get rs1) ((s.ctx h).get rs2)) 4 s) := by
  have hne : firstWord (.add h rd rs1 rs2 w) ≠ 0 := by
    rw [Ne, firstWord_add_eq_zero]
    rintro ⟨rfl, rfl, rfl, rfl⟩
    simp at hword
  have hexec : exec (.add h rd rs1 rs2 w) s = .next (s.rrr h rd rs1 rs2 w (· + ·) (· + ·)) := by
    show execAdd h rd rs1 rs2 w s = _
    simp only [execAdd, if_neg hne, State.rrr, State.writeReg]
  exact answers_rrr hexec hr

/-! ## Counts of zero (R260) -/

theorem clzN_zero (n : Nat) : clzN n 0 = n := if_pos rfl

theorem ctzN_zero (n : Nat) : ctzN n 0 = n := by
  have hall : (List.range n).takeWhile (fun k => !(0 : Nat).testBit k) = List.range n :=
    List.takeWhile_eq_self_iff.2 fun k _ => by simp
  rw [ctzN, hall, List.length_range]

/-! ## Branches and jumps -/

theorem shiftLeft_two (x : Word) : x <<< 2 = 4 * x := by
  rw [BitVec.shiftLeft_eq_mul_twoPow, BitVec.mul_comm]
  rfl

theorem branchTo_eq (pc : Word) (off : BitVec 15) : branchTo pc off = pc + 4 * off.signExtend 64 := by
  rw [branchTo, shiftLeft_two]

theorem jumpTo_eq (pc : Word) (off : BitVec 26) : jumpTo pc off = pc + 4 * off.signExtend 64 := by
  rw [jumpTo, shiftLeft_two]

/-- A command that is a branch moves the PC by its condition. -/
theorem answers_branch {i : Instr} {rs1 rs2 : Fin 32} {off : BitVec 15} {p : Word → Word → Bool} {q : Prop} [Decidable q]
    (hi : exec i s = .next (s.branch h rs1 rs2 off p)) (hr : s.runs h = true)
    (hq : p ((s.ctx h).get rs1) ((s.ctx h).get rs2) = decide q) :
    Answers i s (MovesPc h (if q then (s.ctx h).pc + 4 * off.signExtend 64 else (s.ctx h).pc + 4) s) := by
  refine answers_next hi ?_
  have hmoves := movesPc_branch s hr rs1 rs2 off p
  simpa only [hq, branchTo_eq, decide_eq_true_eq] using hmoves

/-- An instruction that retires with a PC of its own. -/
theorem State.execute_of_jump {q : Pipe} {len : Nat} {k : State → Ctx → Ran} {t : State} {c : Ctx}
    (e : k (s.issued h q) (s.ctx h) = .jump t c) : s.execute h q len k = t.retired h c := by
  simp only [State.execute, e]

/-- An instruction that jumps and links: the register written, and the PC. -/
theorem links_instr {k : State → Ctx → Ran} {rd : Fin 32} {v pc : Word} (hr : s.runs h = true)
    (hk : k (s.issued h .scalar) (s.ctx h) = .jump (s.issued h .scalar) { (s.ctx h).put rd v with pc := pc }) :
    let t := s.instr h .scalar k
    RegWritten (s.ctx h) (t.ctx h) rd v ∧ (t.ctx h).pc = pc ∧ SameWords (s.ctx h) (t.ctx h) ∧ SameBeside h s t ∧
      SameMemory s t := by
  rw [State.instr_runs s hr, State.execute_of_jump hk]
  refine ⟨?_, ?_, ?_, sameBeside_retired s h _ _, sameMemory_retired s h _ _⟩ <;> rw [State.retired_ctx]
  · exact regWritten_put _ _ _ _
  · exact sameWords_put _ _ _ _

/-- An instruction that jumps alone. -/
theorem movesPc_jump {k : State → Ctx → Ran} {pc : Word} (hr : s.runs h = true)
    (hk : k (s.issued h .scalar) (s.ctx h) = .jump (s.issued h .scalar) { s.ctx h with pc := pc }) :
    MovesPc h pc s (s.instr h .scalar k) := by
  obtain ⟨⟨hreg, -⟩, hrest⟩ := links_instr (rd := 0) (v := 0) hr hk
  exact ⟨fun r => (hreg r).trans (if_neg fun e => e.2 rfl), hrest⟩

end Sys2Proof.Machine

namespace Sys2Proof

open Sys2Proof.Machine

/-- Settles O9: each is a register operation, and ADD is one but for its word of zeros. -/
theorem scalarArithmeticWritesRd : Obligations.ScalarArithmeticWritesRd := by
  unfold Obligations.ScalarArithmeticWritesRd
  intro h rd rs1 rs2 w s hr a b
  exact ⟨answers_rrr rfl hr, answers_rrr rfl hr, answers_rrr rfl hr, answers_rrr rfl hr, answers_rrr rfl hr, answers_rrr rfl hr,
    answers_rrr rfl hr, answers_rrr rfl hr, answers_rrr rfl hr, answers_rrr rfl hr, answers_rrr rfl hr, answers_add hr,
    answers_writeReg rfl hr rfl, answers_writeReg rfl hr rfl⟩

/-- Settles O10: shifts and divisions are register operations, counts one-operand ones. -/
theorem scalarShiftsDivisionsAndCounts : Obligations.ScalarShiftsDivisionsAndCounts := by
  unfold Obligations.ScalarShiftsDivisionsAndCounts
  intro h rd rs1 rs2 w s hr a b
  have hclz : Answers (.clz h rd rs1 w) s (WritesReg h rd
      (BitVec.ofNat 64 (if w then clzN 32 (lo32 a).toNat else clzN 64 a.toNat)) 4 s) := answers_countOp rfl hr
  have hctz : Answers (.ctz h rd rs1 w) s (WritesReg h rd
      (BitVec.ofNat 64 (if w then ctzN 32 (lo32 a).toNat else ctzN 64 a.toNat)) 4 s) := answers_countOp rfl hr
  refine ⟨answers_rrr rfl hr, answers_rrr rfl hr, answers_rrr rfl hr, answers_rrr rfl hr, answers_rrr rfl hr, answers_rrr rfl hr,
    answers_rrr rfl hr, fun ha hw => ?_, fun ha hw => ?_, fun ha hw => ?_, fun ha hw => ?_, hclz, hctz, answers_countOp rfl hr⟩
  · simpa [ha, hw, clzN_zero] using hclz
  · simpa [ha, hw, clzN_zero, lo32] using hclz
  · simpa [ha, hw, ctzN_zero] using hctz
  · simpa [ha, hw, ctzN_zero, lo32] using hctz

/-- Settles O11: each computes its register from the hart's own. -/
theorem scalarImmediatesWriteRd : Obligations.ScalarImmediatesWriteRd := by
  unfold Obligations.ScalarImmediatesWriteRd
  intro h rd rs1 imm sh imm32 s hr a
  exact ⟨answers_writeReg rfl hr rfl, answers_writeReg rfl hr rfl, answers_writeReg rfl hr rfl, answers_writeReg rfl hr rfl,
    answers_writeReg rfl hr rfl, answers_writeReg rfl hr rfl, answers_writeReg rfl hr rfl, answers_writeReg rfl hr rfl,
    answers_writeReg rfl hr rfl,
    answers_writeReg rfl hr rfl, answers_writeReg rfl hr rfl, answers_writeReg rfl hr rfl, answers_writeReg rfl hr rfl⟩

/-- Settles O12: a branch retires with the PC of its condition, and a jump with its own. -/
theorem branchesAndJumpsMoveThePc : Obligations.BranchesAndJumpsMoveThePc := by
  unfold Obligations.BranchesAndJumpsMoveThePc
  refine ⟨fun h rs1 rs2 off s hr => ?_, fun h off rd rs1 s hr => ⟨?_, ?_, fun ht => ?_⟩⟩
  · exact ⟨answers_branch rfl hr (by simp [beq_eq_decide]), answers_branch rfl hr (by simp [bne, beq_eq_decide]),
      answers_branch rfl hr (by simp),
      answers_branch rfl hr (by simp), answers_branch rfl hr (by simp), answers_branch rfl hr (by simp)⟩
  · rw [← jumpTo_eq]
    exact answers_next rfl (movesPc_jump hr rfl)
  · rw [← jumpTo_eq]
    exact answers_next rfl (links_instr hr rfl)
  · refine answers_next rfl (links_instr hr ?_)
    simp [ht]

end Sys2Proof
end

section
/-! # System instructions (O24 to O26): R258, R275, R276, R280, R347, R350, R499, R502 -/

namespace Sys2Proof.Machine

open Sys2Proof

variable {s : State} {h : Hart}

/-! ## Double exceptions (R280) -/

/-- An instruction that raises on a Keeper core that is in an exception is a class-S detection with code 0x03. -/
theorem detects_instr {c : Fin 4} {q : Pipe} {k : State → Ctx → Ran} {code a : Nat} (hr : s.runs (.keeper c) = true)
    (hd : Detecting s) (hexc : (s.ctx (.keeper c)).flags.getLsbD 8 = true)
    (hk : k s (s.ctx (.keeper c)) = .raise s code a) : Detects 0x03 s (s.instr (.keeper c) q k) := by
  have hin : (s.ctx (.keeper c)).inException = true := hexc
  rw [State.instr_runs s hr, State.execute_of_raise hk]
  simp only [State.exc, hin, if_true]
  exact State.classSOpen_detects hd _

/-- Break catch takes no BREAK where the state is not BENCH or it is not set. -/
theorem not_caught {b : Nat} (hfree : s.pw.mode ≠ .bench ∨ s.objBit 0x5050 4 b = false) :
    (decide (s.pw.mode = .bench) && s.objBit 0x5050 4 b) = false := by
  rcases hfree with hmode | hbit
  · simp [hmode]
  · simp [hbit]

/-! ## Instructions that change their hart alone -/

/-- An instruction that issues and retires makes of its hart what it retires with. -/
theorem becomes_retired (q : Pipe) (c : Ctx) : Becomes h c s ((s.issued h q).retired h c) :=
  ⟨State.retired_ctx _ h c, sameBeside_retired s h q c, sameMemory_retired s h q c⟩

/-- An instruction that goes on to the next word. -/
theorem becomes_instr {q : Pipe} {k : State → Ctx → Ran} {c : Ctx} (hr : s.runs h = true)
    (hk : k (s.issued h q) (s.ctx h) = .next (s.issued h q) c) :
    Becomes h { c with pc := c.pc + 4 } s (s.instr h q k) := by
  rw [State.instr_runs s hr, State.execute_of_next hk]
  exact becomes_retired q _

/-- An instruction that retires with a PC of its own. -/
theorem becomes_jump {q : Pipe} {k : State → Ctx → Ran} {c : Ctx} (hr : s.runs h = true)
    (hk : k (s.issued h q) (s.ctx h) = .jump (s.issued h q) c) : Becomes h c s (s.instr h q k) := by
  rw [State.instr_runs s hr, State.execute_of_jump hk]
  exact becomes_retired q _

/-- An instruction that writes one register and goes on to the next word. -/
theorem writesReg_instr {q : Pipe} {k : State → Ctx → Ran} {rd : Fin 32} {v : Word} (hr : s.runs h = true)
    (hk : k (s.issued h q) (s.ctx h) = .next (s.issued h q) ((s.ctx h).put rd v)) : WritesReg h rd v 4 s (s.instr h q k) := by
  rw [State.instr_runs s hr, State.execute_of_next hk, Ctx.put_pc]
  obtain ⟨hreg, hpc, hwords⟩ := retired_putReg (s := s) (h := h) (s.issued h q) rd v
  exact ⟨hreg, hpc, hwords, sameBeside_retired s h q _, sameMemory_retired s h q _⟩

/-! ## Thread state words (R276) -/

/-- Issuing leaves the hart's own registers. -/
theorem State.issued_ctx (q : Pipe) (k : Hart) : (s.issued h q).ctx k = s.ctx k := State.ctx_congr (State.issued_ctxs s h q) k

/-- TSR writes the value of the word. -/
theorem answers_tsr {rd : Fin 32} {n : BitVec 14} {v : Word} (hr : s.runs h = true)
    (hv : (s.issued h .scalar).stateWord h n.toNat = .value v) : Answers (.tsr h rd n) s (WritesReg h rd v 4 s) :=
  answers_next rfl (writesReg_instr hr (by simp only [hv]))

/-- TSR of a word that the profile has not is illegal. -/
theorem excepts_tsr {rd : Fin 32} {n : BitVec 14} (hr : s.runs h = true) (hone : Single h s)
    (hv : (s.issued h .scalar).stateWord h n.toNat = .none) :
    Answers (.tsr h rd n) s (Excepts h .scalar 0x01 (firstWord (.tsr h rd n)) s) :=
  answers_next rfl (excepts_instr hr hone (by simp only [hv]))

/-- TSW writes the word, where it is writable. -/
theorem answers_tsw {rs1 : Fin 32} {n : BitVec 14} {c d : Ctx} (hr : s.runs h = true)
    (hc : (s.ctx h).setWord h n.toNat ((s.ctx h).get rs1) = some c) (hd : { c with pc := c.pc + 4 } = d) :
    Answers (.tsw h rs1 n) s (Becomes h d s) :=
  answers_next rfl (hd ▸ becomes_instr hr (by simp only [hc]))

/-- TSW of a word that is not writable is illegal. -/
theorem excepts_tsw {rs1 : Fin 32} {n : BitVec 14} (hr : s.runs h = true) (hone : Single h s)
    (hc : (s.ctx h).setWord h n.toNat ((s.ctx h).get rs1) = none) :
    Answers (.tsw h rs1 n) s (Excepts h .scalar 0x01 (firstWord (.tsw h rs1 n)) s) :=
  answers_next rfl (excepts_instr hr hone (by simp only [hc]))

/-! ## WFE and ERET (R275, R280) -/

/-- EVENTS is not zero where a hand-over request is pending. -/
theorem State.events_bne_zero (s : State) (c : Nat) : (s.events c != 0) = s.handoverPending (c / 2) := by
  unfold State.events
  cases s.handoverPending (c / 2) <;> decide

/-- A core that waits does not issue. -/
theorem State.runs_of_waiting {k : Fin 4} (hw : (s.ctx (.keeper k)).waiting = true) : s.runs (.keeper k) = false := by
  have hready : s.ready (.keeper k) = false := by
    simp only [State.ready, State.coreReady]
    rw [show s.ctxAt (3072 + k.val) = s.ctx (.keeper k) from rfl, hw]
    simp
  simp [State.runs, hready]

/-- An instruction of the Keepers is illegal on a context. -/
theorem excepts_keeperInstr {g : Fin 3072} {i : Instr} {f : State → Ctx → Ran} (hr : s.runs (.ctx g) = true)
    (hone : Single (.ctx g) s) : Excepts (.ctx g) .scalar 0x01 (firstWord i) s (s.keeperInstr (.ctx g) i f) :=
  excepts_instr hr hone rfl

/-- What WFE finds on a core. -/
theorem wfe_events (s : State) (k : Fin 4) : (s.events (hartKey (.keeper k) - 3072) != 0) = s.handoverPending (k.val / 2) := by
  rw [State.events_bne_zero]
  simp [hartKey]

/-- A core that has begun to wait does not issue. -/
theorem becomes_waiting {k : Fin 4} {c : Ctx} {t : State} (hb : Becomes (.keeper k) { c with waiting := true } s t) :
    Becomes (.keeper k) { c with waiting := true } s t ∧ t.runs (.keeper k) = false :=
  ⟨hb, State.runs_of_waiting (by rw [hb.1])⟩

/-! ## Halts (R498, R502) -/

/-- Bits of an entry that are set one after the other. -/
theorem State.objBit_foldl_setObjBit (s : State) (i j n : Nat) (l : List Nat) :
    (l.foldl (fun s e => s.setObjBit i j e true) s).objBit i j n = (decide (n ∈ l) || s.objBit i j n) := by
  induction l generalizing s with
  | nil => simp
  | cons e l ih =>
    have hbit : (s.setObjBit i j e true).objBit i j n = (decide (n = e) || s.objBit i j n) := by
      simp [State.objBit, State.setObjBit, bit, setBit, Nat.testBit_or, Nat.testBit_two_pow, Bool.or_comm, eq_comm]
    rw [List.foldl_cons, ih, hbit]
    by_cases hn : n = e <;> simp [hn]

/-- Setting bits of an entry changes the entries alone. -/
theorem State.foldl_setObjBit_objs (s : State) (i j : Nat) (l : List Nat) :
    ∃ o, l.foldl (fun s e => s.setObjBit i j e true) s = { s with objs := o } := by
  refine foldl_keeps (fun t : State => ∃ o, t = { s with objs := o }) _ ?_ _ _ ⟨_, rfl⟩
  rintro _ e ⟨o, rfl⟩
  exact ⟨_, rfl⟩

/-- The cores that halt with a core, itself among them. -/
theorem State.mem_coreUnit (s : State) (c : Nat) : c ∈ s.coreUnit c := by
  unfold State.coreUnit
  split
  · simp
  · simp; omega

/-- The engines of an engine's unit, itself among them. -/
theorem State.mem_unitOf (s : State) (e : Nat) : e ∈ s.unitOf e := by
  unfold State.unitOf
  split
  · simp; omega
  · simp

/-- A halted hart does not issue. -/
theorem State.runs_of_halted (hh : s.hartHalted h = true) : s.runs h = false := by
  simp [State.runs, hh]

/-- A core that is halted: its bit is set, both pins are low, and no hart's registers nor memory change (R502). -/
theorem State.haltCore_halts (s : State) (c : Nat) :
    (s.haltCore c).coreHalted c = true ∧ (s.haltCore c).pins.err0 = false ∧ (s.haltCore c).pins.err1 = false ∧
      (s.haltCore c).ctxs = s.ctxs ∧ SameMemory s (s.haltCore c) := by
  have hbit := s.objBit_foldl_setObjBit 0x5050 2 c (s.coreUnit c)
  obtain ⟨o, ho⟩ := s.foldl_setObjBit_objs 0x5050 2 (s.coreUnit c)
  simp only [State.mem_coreUnit, decide_true, Bool.true_or] at hbit
  unfold State.haltCore
  rw [ho] at hbit ⊢
  have hlow (t : State) : ({ t with saf := { t.saf with toggle := false } } : State).mayToggle = false := by
    simp [State.mayToggle]
  rw [State.drivePins, hlow, if_neg Bool.false_ne_true]
  exact ⟨hbit, rfl, rfl, rfl, fun _ => rfl, rfl⟩

/-- An engine that is halted: its bit is set, and no hart's registers nor memory change. -/
theorem State.haltEngine_halts (s : State) (e : Nat) :
    (s.haltEngine e).engineHalted e = true ∧ (s.haltEngine e).ctxs = s.ctxs ∧ SameMemory s (s.haltEngine e) := by
  have hbit := s.objBit_foldl_setObjBit 0x5050 3 e (s.unitOf e)
  obtain ⟨o, ho⟩ := s.foldl_setObjBit_objs 0x5050 3 (s.unitOf e)
  simp only [State.mem_unitOf, decide_true, Bool.true_or] at hbit
  refine ⟨hbit, ?_⟩
  rw [State.haltEngine, ho]
  exact ⟨rfl, fun _ => rfl, rfl⟩

/-- An instruction that says all it did. -/
theorem State.execute_of_leave {q : Pipe} {len : Nat} {k : State → Ctx → Ran} {t : State}
    (e : k (s.issued h q) (s.ctx h) = .leave t) : s.execute h q len k = t := by
  simp only [State.execute, e]

/-- Break catch takes a BREAK in BENCH where it is set. -/
theorem caught {b : Nat} (q : Pipe) (hmode : s.pw.mode = .bench) (hbit : s.objBit 0x5050 4 b = true) :
    (decide ((s.issued h q).pw.mode = .bench) && (s.issued h q).objBit 0x5050 4 b) = true := by
  have hobj : (s.issued h q).obj 0x5050 4 = s.obj 0x5050 4 := State.issued_obj s h q (by decide)
  simp_all [State.objBit]

end Sys2Proof.Machine

namespace Sys2Proof

open Sys2Proof.Machine

/-- Settles O24: each raises, which in an exception is the detection (`detects_instr`). -/
theorem doubleExceptionIsClassS : Obligations.DoubleExceptionIsClassS := by
  unfold Obligations.DoubleExceptionIsClassS
  intro c imm word s hr hd hexc
  refine ⟨answers_next rfl (detects_instr hr hd hexc rfl), fun hdec => ?_, fun hfree => ?_⟩
  · refine answers_next (congrArg Host.Outcome.next (if_neg (by simp [hdec])))
      (detects_instr (code := 0x01) (a := word.toNat) hr hd hexc ?_)
    exact State.pairExc_agree _ _ _ _
  · refine answers_next rfl (detects_instr (code := 0x05) (a := 0) hr hd hexc ?_)
    have hcaught := not_caught hfree
    simp_all [isCtx]

/-- Settles O25: TSR puts the word's value in its register, and TSW retires with the word written. -/
theorem threadStateWordsReadAndWrite : Obligations.ThreadStateWordsReadAndWrite := by
  unfold Obligations.ThreadStateWordsReadAndWrite
  refine ⟨fun g rd s hr => ?_, fun k rd s hr => ?_⟩
  · intro h c
    have hctx : (s.issued h .scalar).ctx h = c := State.issued_ctx _ _
    have hclk : (s.issued h .scalar).clk = s.clk := State.issued_clk s h .scalar
    refine ⟨answers_tsr hr rfl, answers_tsr hr rfl, answers_tsr hr (congrArg (Tsr.value ∘ Ctx.tag) hctx),
      answers_tsr hr (congrArg (Tsr.value ∘ Ctx.flags) hctx),
      answers_tsr hr (congrArg (fun q : Clock => Tsr.value (BitVec.ofNat 64 (q.tb / 2 ^ 40 % 2 ^ 64))) hclk),
      answers_tsr hr (congrArg (fun q : Clock => Tsr.value (BitVec.ofNat 64 q.ticks)) hclk),
      answers_tsw hr rfl rfl, fun hone => ?_⟩
    exact ⟨excepts_tsw hr hone rfl, excepts_tsr hr hone rfl⟩
  · intro h c v
    exact ⟨answers_tsr hr rfl, answers_tsr hr rfl, answers_tsr hr rfl, answers_tsr hr rfl, answers_tsr hr rfl,
      answers_tsr hr rfl, answers_tsr hr rfl, answers_tsr hr rfl, answers_tsr hr rfl, answers_tsw hr rfl rfl,
      answers_tsw hr rfl rfl, answers_tsw hr rfl rfl, answers_tsw hr rfl rfl, answers_tsw hr rfl rfl, answers_tsw hr rfl rfl,
      fun hone => excepts_tsw hr hone rfl⟩

/-- Settles O26: each retires with its hart's new registers, raises, or halts its hart. -/
theorem keepersWaitReturnAndHalt : Obligations.KeepersWaitReturnAndHalt := by
  unfold Obligations.KeepersWaitReturnAndHalt
  refine ⟨fun k s hr => ?_, fun k s => ?_, fun g s hr => ⟨fun hone => ?_, fun hmode hbit => ?_⟩⟩
  · intro h c
    refine ⟨fun hpend => ?_, fun hpend => ?_, fun hexc => ?_, fun hexc => ?_, fun hmode hbit => ?_⟩
    · exact answers_next rfl (becomes_instr hr (if_pos ((wfe_events s k).trans hpend)))
    · refine answers_next rfl (becomes_waiting (becomes_jump hr ((if_neg Bool.false_ne_true).trans (if_neg ?_))))
      exact Bool.eq_false_iff.1 ((wfe_events s k).trans hpend)
    · exact answers_next rfl (becomes_jump hr (if_pos hexc))
    · have hnot : ¬ c.inException = true := Bool.eq_false_iff.1 hexc
      exact answers_next rfl (excepts_instr (h := .keeper k) hr hexc (if_neg hnot))
    · obtain ⟨hhalted, hlow0, hlow1, hctxs, hmem⟩ := s.haltCore_halts k.val
      have hexec : exec (.brk h) s = .next (s.haltCore k.val) := by
        refine congrArg Host.Outcome.next ?_
        rw [State.instr_runs s hr, State.execute_of_leave]
        exact if_neg (by rw [isCtx, if_neg Bool.false_ne_true, caught .scalar hmode hbit]; exact Bool.false_ne_true)
      exact answers_next hexec ⟨State.runs_of_halted hhalted, hhalted, hlow0, hlow1, hctxs, hmem⟩
  · intro c hwait hpend hhalt
    have hwakes : (c.waiting && s.events k.val != 0 && !s.coreHalted k.val) = true := by
      rw [State.events_bne_zero, hwait, hpend, hhalt]
      rfl
    exact answers_next (congrArg Host.Outcome.next (if_pos hwakes)) (becomes_setCtx s (.keeper k) _)
  · exact ⟨answers_next rfl (excepts_keeperInstr hr hone), answers_next rfl (excepts_keeperInstr hr hone)⟩
  · obtain ⟨hhalted, hctxs, hmem⟩ := (s.issued (.ctx g) .scalar).haltEngine_halts (g.val / 64)
    have hexec : exec (.brk (.ctx g)) s = .next ((s.issued (.ctx g) .scalar).haltEngine (g.val / 64)) := by
      refine congrArg Host.Outcome.next ?_
      rw [State.instr_runs s hr, State.execute_of_leave]
      exact if_neg (by rw [isCtx, if_pos rfl, caught .scalar hmode hbit]; exact Bool.false_ne_true)
    refine answers_next hexec ⟨hhalted, State.runs_of_halted hhalted, hctxs.trans (State.issued_ctxs s _ _), ?_⟩
    exact ⟨fun a => (hmem.1 a).trans (by simp [State.memByte]), hmem.2.trans (by simp)⟩

end Sys2Proof
end

section
/-! # Vector operations (O17 to O19): R266 to R268, R270 -/

namespace Sys2Proof.Machine

open Sys2Proof

variable {s : State} {g : Fin 3072}

/-! ## Lanes, predicate bits and flags -/

/-- A lane after a write of the enabled lanes of a register. -/
theorem Ctx.lane_putLanes (c : Ctx) (vd r : Fin 8) (pr : Option (Fin 4)) (f : Fin 64 → Half) (k : Fin 64) :
    (c.putLanes vd pr f).lane r k = if r = vd ∧ c.enabled pr k = true then f k else c.lane r k := by
  by_cases hr : r = vd
  · subst hr
    simp [Ctx.putLanes, Ctx.lane]
  · have hv : vd.val ≠ r.val := fun e => hr (Fin.ext e.symm)
    simp [Ctx.putLanes, Ctx.lane, hr, hv]

/-- Powers of two of the numbers that a condition picks, summed in order, are the bits of the condition. -/
theorem foldl_two_pow (n : Nat) (b : Fin n → Bool) :
    let v := (List.finRange n).foldl (fun v i => if b i then v + 2 ^ i.val else v) 0
    v < 2 ^ n ∧ ∀ k : Fin n, v.testBit k.val = b k := by
  induction n with
  | zero => exact ⟨Nat.one_pos, fun k => k.elim0⟩
  | succ n ih =>
    obtain ⟨hlt, hbits⟩ := ih fun i => b i.castSucc
    rw [List.finRange_succ_last, List.foldl_append, List.foldl_map]
    simp only [List.foldl_cons, List.foldl_nil, Fin.val_castSucc, Fin.val_last]
    generalize (List.finRange n).foldl (fun v i => if b i.castSucc then v + 2 ^ i.val else v) 0 = v at hlt hbits
    have hpow : 2 ^ (n + 1) = 2 ^ n + 2 ^ n := by rw [pow_succ]; omega
    have htop : v.testBit n = false := Nat.testBit_lt_two_pow hlt
    split
    · next hb =>
      refine ⟨by omega, Fin.lastCases ?_ fun k => ?_⟩
      · rw [Nat.add_comm, Fin.val_last, Nat.testBit_two_pow_add_eq, htop, hb]
        rfl
      · rw [Nat.add_comm, Fin.val_castSucc, Nat.testBit_two_pow_add_gt k.isLt]
        exact hbits k
    · next hb =>
      refine ⟨by omega, Fin.lastCases ?_ fun k => hbits k⟩
      rw [Fin.val_last, htop]
      simpa using hb

/-- A bit after a write of the enabled bits of a predicate register. -/
theorem Ctx.getLsbD_putPred (c : Ctx) (pd r : Fin 4) (pr : Option (Fin 4)) (f : Fin 64 → Bool) (k : Fin 64) :
    ((c.putPred pd pr f).p[r]).getLsbD k.val =
      if r = pd ∧ c.enabled pr k = true then f k else (c.p[r]).getLsbD k.val := by
  by_cases hr : r = pd
  · subst hr
    obtain ⟨-, hbits⟩ := foldl_two_pow 64 fun i => if c.enabled pr i then f i else (c.p[r]).getLsbD i.val
    have hself : (c.putPred r pr f).p[r] = BitVec.ofNat 64 (lanes.foldl (fun n i =>
        if (if c.enabled pr i then f i else (c.p[r]).getLsbD i.val) then n + 2 ^ i.val else n) 0) := by
      simp [Ctx.putPred]
    rw [hself, BitVec.getLsbD_ofNat, decide_eq_true k.isLt, Bool.true_and]
    refine (hbits k).trans ?_
    simp
  · have hv : pd.val ≠ r.val := fun e => hr (Fin.ext e.symm)
    simp [Ctx.putPred, hr, hv]

/-- One lane's part in the OR of the flags, where a flag is 0 or 1. -/
theorem orFlag_eq {n : Nat} (hn : n = 0 ∨ n = 1) (e : Bool) (P : Prop) [Decidable P] :
    (if e then n ||| (if P then 1 else 0) else n) = if n = 1 ∨ (e = true ∧ P) then 1 else 0 := by
  rcases hn with rfl | rfl <;> cases e <;> by_cases hp : P <;> simp [hp]

/-- The OR of the enabled lanes' flags, where each lane shows 1 under its own condition. -/
theorem Ctx.laneFlags_of_cond (c : Ctx) (pr : Option (Fin 4)) {P : Fin 64 → Prop} [DecidablePred P] :
    c.laneFlags pr (fun k => if P k then 1 else 0) = if ∃ k, c.enabled pr k = true ∧ P k then 1 else 0 := by
  have hfold (l : List (Fin 64)) (n : Nat) (hn : n = 0 ∨ n = 1) :
      l.foldl (fun n i => if c.enabled pr i then n ||| (if P i then 1 else 0) else n) n =
        if n = 1 ∨ ∃ k ∈ l, c.enabled pr k = true ∧ P k then 1 else 0 := by
    induction l generalizing n with
    | nil => rcases hn with rfl | rfl <;> simp
    | cons i l ih =>
      rw [List.foldl_cons, orFlag_eq hn, ih _ (by split <;> simp)]
      simp only [List.exists_mem_cons_iff, ← or_assoc]
      congr 2
      split <;> simp_all
  rw [Ctx.laneFlags, hfold lanes 0 (.inl rfl)]
  simp [lanes]

/-- No lane shows a flag. -/
theorem Ctx.laneFlags_zero (c : Ctx) (pr : Option (Fin 4)) : c.laneFlags pr (fun _ => 0) = 0 := by
  simpa using c.laneFlags_of_cond pr (P := fun _ => False)

@[simp] theorem Ctx.orFlags_zero (c : Ctx) : c.orFlags 0 = c := by
  simp [Ctx.orFlags]

/-! ## What an instruction of the vector unit retires with -/

/-- An instruction of the engine profile, on a context. -/
theorem State.engineInstr_ctx (s : State) (g : Fin 3072) (i : Instr) (q : Pipe) (k : State → Ctx → Ran) :
    s.engineInstr (.ctx g) i q k = s.instr (.ctx g) q k := rfl

/-- An instruction that goes on to the next word with flags, beside the registers. -/
theorem passes_of_becomes {h : Hart} {c : Ctx} {n : Nat} {t : State} (hb : Becomes h { c with pc := (s.ctx h).pc + 4 } s t)
    (hf : c.flags = (s.ctx h).flags ||| BitVec.ofNat 64 n) (hr : SameRest (s.ctx h) c) : Passes h n s t := by
  obtain ⟨hctx, hbeside, -⟩ := hb
  exact ⟨by rw [hctx]; exact hf, by rw [hctx], by rw [hctx]; exact hr, hbeside⟩

/-- An instruction of the vector unit that writes lanes and sets flags. -/
theorem writesLanes_instr {i : Instr} {k : State → Ctx → Ran} {vd : Fin 8} {pr : Option (Fin 4)} {f : Fin 64 → Half} {n : Nat}
    (hr : s.runs (.ctx g) = true)
    (hk : k (s.issued (.ctx g) .vector) (s.ctx (.ctx g)) =
      .next (s.issued (.ctx g) .vector) (((s.ctx (.ctx g)).putLanes vd pr f).orFlags n)) :
    WritesLanes (.ctx g) vd pr f n s (s.engineInstr (.ctx g) i .vector k) := by
  have hb := becomes_instr hr hk
  refine ⟨fun r j => ?_, ?_, ?_, passes_of_becomes hb rfl ⟨rfl, rfl, rfl, rfl, rfl, rfl, rfl, rfl, rfl, rfl, rfl, rfl, rfl⟩, hb.2.2⟩
  · rw [← Ctx.lane_putLanes, State.engineInstr_ctx, hb.1]
    rfl
  · rw [State.engineInstr_ctx, hb.1]; rfl
  · rw [State.engineInstr_ctx, hb.1]; rfl

/-- An instruction of the vector unit that writes predicate bits and sets flags. -/
theorem writesPred_instr {i : Instr} {k : State → Ctx → Ran} {pd : Fin 4} {pr : Option (Fin 4)} {f : Fin 64 → Bool} {n : Nat}
    (hr : s.runs (.ctx g) = true)
    (hk : k (s.issued (.ctx g) .vector) (s.ctx (.ctx g)) =
      .next (s.issued (.ctx g) .vector) (((s.ctx (.ctx g)).putPred pd pr f).orFlags n)) :
    WritesPred (.ctx g) pd pr f n s (s.engineInstr (.ctx g) i .vector k) := by
  have hb := becomes_instr hr hk
  refine ⟨fun r j => ?_, ?_, ?_, passes_of_becomes hb rfl ⟨rfl, rfl, rfl, rfl, rfl, rfl, rfl, rfl, rfl, rfl, rfl, rfl, rfl⟩, hb.2.2⟩
  · rw [← Ctx.getLsbD_putPred, State.engineInstr_ctx, hb.1]
    rfl
  · rw [State.engineInstr_ctx, hb.1]; rfl
  · rw [State.engineInstr_ctx, hb.1]; rfl

/-- A register written beside the flags: what else of the hart stays. -/
theorem Ctx.sameRest_put (c : Ctx) (rd : Fin 32) (v : Word) (n : Nat) : SameRest c ((c.put rd v).orFlags n) := by
  unfold Ctx.put Ctx.orFlags
  split <;> exact ⟨rfl, rfl, rfl, rfl, rfl, rfl, rfl, rfl, rfl, rfl, rfl, rfl, rfl⟩

/-- An instruction of the vector unit that writes a scalar register and sets flags. -/
theorem reduces_instr {i : Instr} {k : State → Ctx → Ran} {rd : Fin 32} {v : Word} {n : Nat} (hr : s.runs (.ctx g) = true)
    (hk : k (s.issued (.ctx g) .vector) (s.ctx (.ctx g)) =
      .next (s.issued (.ctx g) .vector) (((s.ctx (.ctx g)).put rd v).orFlags n)) :
    Reduces (.ctx g) rd v n s (s.engineInstr (.ctx g) i .vector k) := by
  have hb := becomes_instr hr hk
  have hpc : (((s.ctx (.ctx g)).put rd v).orFlags n).pc = (s.ctx (.ctx g)).pc := Ctx.put_pc _ _ _
  rw [hpc] at hb
  refine ⟨?_, ?_, ?_, passes_of_becomes hb ?_ (Ctx.sameRest_put _ _ _ _), hb.2.2⟩
  · rw [State.engineInstr_ctx, hb.1]
    refine ⟨fun r => ?_, ?_⟩
    · rw [← Ctx.get_put]; rfl
    · rfl
  · rw [State.engineInstr_ctx, hb.1]; exact Ctx.put_v _ _ _
  · rw [State.engineInstr_ctx, hb.1]; exact Ctx.put_p _ _ _
  · simp [Ctx.orFlags]

/-! ## Lane-wise operations -/

section Lanes

variable {i : Instr} {vd vs1 : Fin 8} {src : VSrc} {pr : Option (Fin 4)}

/-- A command that is a lane-wise operation without flags. -/
theorem answers_vecOp {f : Half → Half → Half} {r : Fin 64 → Half}
    (hi : exec i s = .next (s.vecOp (.ctx g) i vd vs1 src pr f)) (hr : s.runs (.ctx g) = true)
    (hf : ∀ k, f ((s.ctx (.ctx g)).lane vs1 k) ((s.ctx (.ctx g)).src src k) = r k) :
    Answers i s (WritesLanes (.ctx g) vd pr r 0 s) :=
  answers_next hi (writesLanes_instr hr (by simp only [Ctx.orFlags_zero, hf]))

/-- A command that is a lane-wise operation with flags. -/
theorem answers_vecFlagOp {f : Half → Half → Half → Half × Nat} {r : Fin 64 → Half} {fl : Fin 64 → Nat}
    (hi : exec i s = .next (s.vecFlagOp (.ctx g) i vd vs1 src pr f)) (hr : s.runs (.ctx g) = true)
    (hf : ∀ k, f ((s.ctx (.ctx g)).lane vd k) ((s.ctx (.ctx g)).lane vs1 k) ((s.ctx (.ctx g)).src src k) = (r k, fl k)) :
    Answers i s (WritesLanes (.ctx g) vd pr r ((s.ctx (.ctx g)).laneFlags pr fl) s) :=
  answers_next hi (writesLanes_instr hr (by simp only [hf]))

/-- A signed result, saturated, with its flag. -/
theorem satLane_eq (v : Int) :
    satLane v = (BitVec.ofInt 32 (max (-2 ^ 31) (min v (2 ^ 31 - 1))), if v < -2 ^ 31 ∨ 2 ^ 31 ≤ v then 1 else 0) := by
  unfold satLane
  by_cases hlow : v < -2 ^ 31
  · have hclamp : max (-2 ^ 31) (min v (2 ^ 31 - 1)) = -2 ^ 31 := by omega
    rw [if_pos hlow, if_pos (.inl hlow), hclamp]
    rfl
  · by_cases hhigh : 2 ^ 31 ≤ v
    · have hclamp : max (-2 ^ 31) (min v (2 ^ 31 - 1)) = 2 ^ 31 - 1 := by omega
      rw [if_neg hlow, if_pos hhigh, if_pos (.inr hhigh), hclamp]
      rfl
    · have hclamp : max (-2 ^ 31) (min v (2 ^ 31 - 1)) = v := by omega
      rw [if_neg hlow, if_neg hhigh, if_neg (by omega), hclamp]

/-- A flag that stands for a condition. -/
theorem flag_of_cond (P : Prop) [Decidable P] :
    ((if P then 1 else 0) = 0 ∨ (if P then 1 else 0) = 1) ∧ ((if P then 1 else 0) = 1 ↔ P) := by
  by_cases hp : P <;> simp [hp]

/-- A command that is a saturating operation: FLAGS [0] where an enabled lane saturates. -/
theorem answers_satOp {f : Half → Half → Int} {v : Fin 64 → Int}
    (hi : exec i s = .next (s.vecFlagOp (.ctx g) i vd vs1 src pr fun _ a b => satLane (f a b))) (hr : s.runs (.ctx g) = true)
    (hf : ∀ k, f ((s.ctx (.ctx g)).lane vs1 k) ((s.ctx (.ctx g)).src src k) = v k) :
    Answers i s (fun t => ∃ n, (n = 0 ∨ n = 1) ∧
      (n = 1 ↔ ∃ k, (s.ctx (.ctx g)).enabled pr k = true ∧ (v k < -2 ^ 31 ∨ 2 ^ 31 ≤ v k)) ∧
      WritesLanes (.ctx g) vd pr (fun k => BitVec.ofInt 32 (max (-2 ^ 31) (min (v k) (2 ^ 31 - 1)))) n s t) := by
  obtain ⟨t, ht, hwrites⟩ := answers_vecFlagOp hi hr fun k => (congrArg satLane (hf k)).trans (satLane_eq (v k))
  rw [Ctx.laneFlags_of_cond] at hwrites
  exact ⟨t, ht, _, (flag_of_cond _).1, (flag_of_cond _).2, hwrites⟩

/-- A command that is a compare. -/
theorem answers_vecCmp {pd : Fin 4} {f : Half → Half → Bool × Nat} {r : Fin 64 → Bool} {fl : Fin 64 → Nat}
    (hi : exec i s = .next (s.vecCmp (.ctx g) i pd vs1 src pr f)) (hr : s.runs (.ctx g) = true)
    (hf : ∀ k, f ((s.ctx (.ctx g)).lane vs1 k) ((s.ctx (.ctx g)).src src k) = (r k, fl k)) :
    Answers i s (WritesPred (.ctx g) pd pr r ((s.ctx (.ctx g)).laneFlags pr fl) s) :=
  answers_next hi (writesPred_instr hr (by simp only [hf]))

/-- A compare of either type. -/
theorem answers_cmpLane {pd : Fin 4} {fp : Bool} {n : Nat} {p : Half → Half → Bool}
    (hi : exec i s = .next (s.vecCmp (.ctx g) i pd vs1 src pr (cmpLane fp n))) (hr : s.runs (.ctx g) = true)
    (hp : ∀ a b : Half, (if n = 0 then a == b else if n = 1 then a.slt b else a.sle b) = p a b) :
    let a (k : Fin 64) := (s.ctx (.ctx g)).lane vs1 k
    let b (k : Fin 64) := (s.ctx (.ctx g)).src src k
    Answers i s (WritesPred (.ctx g) pd pr
      (fun k => if fp then (f32Cmp n (a k).toNat (b k).toNat).1 else p (a k) (b k))
      (if fp then (s.ctx (.ctx g)).laneFlags pr fun k => (f32Cmp n (a k).toNat (b k).toNat).2 else 0) s) := by
  intro a b
  cases fp with
  | true => exact answers_vecCmp hi hr fun k => rfl
  | false =>
    simp only [Bool.false_eq_true, if_false]
    rw [← Ctx.laneFlags_zero (s.ctx (.ctx g)) pr]
    exact answers_vecCmp hi hr fun k => congrArg (·, 0) (hp _ _)

/-- The rounding shift takes its amount from the low five bits of the register. -/
theorem rshrLane_lo32 (w : Word) (a : Half) :
    rshrLane ((lo32 w).toNat % 32) a =
      let n := w.toNat % 32
      if n = 0 then a else BitVec.ofInt 32 ((a.toInt + 2 ^ (n - 1)) / 2 ^ n) := by
  have hn : (lo32 w).toNat % 32 = w.toNat % 32 := by
    simp only [lo32, BitVec.truncate_eq_setWidth, BitVec.toNat_setWidth]
    omega
  rw [hn]
  rfl

end Lanes

/-! ## NaN operands (R268) -/

theorem Fp.eq_nan {a : Fp} (h : a.isNan = true) : ∃ n, a = .nan n := by
  cases a with
  | nan n => exact ⟨n, rfl⟩
  | inf _ => exact absurd h Bool.false_ne_true
  | fin _ _ _ => exact absurd h Bool.false_ne_true

theorem fpAdd_nan {a b : Fp} (h : a.isNan = true ∨ b.isNan = true) : (fpAdd a b).1 = fp32.nan := by
  rcases h with h | h
  · obtain ⟨n, rfl⟩ := Fp.eq_nan h
    rfl
  · obtain ⟨n, rfl⟩ := Fp.eq_nan h
    cases a <;> rfl

theorem fpMul_nan {a b : Fp} (h : a.isNan = true ∨ b.isNan = true) : (fpMul a b).1 = fp32.nan := by
  rcases h with h | h
  · obtain ⟨n, rfl⟩ := Fp.eq_nan h
    rfl
  · obtain ⟨n, rfl⟩ := Fp.eq_nan h
    cases a <;> rfl

theorem fpFma_nan {a b c : Fp} (h : a.isNan = true ∨ b.isNan = true ∨ c.isNan = true) : (fpFma a b c).1 = fp32.nan := by
  have hany : (a.isNan || b.isNan || c.isNan) = true := by simpa [or_assoc] using h
  simp only [fpFma, hany, if_true]
  rfl

theorem fpLt_nan {a b : Fp} (h : a.isNan = true ∨ b.isNan = true) : fpLt a b = false := by
  rcases h with h | h
  · obtain ⟨n, rfl⟩ := Fp.eq_nan h
    rfl
  · obtain ⟨n, rfl⟩ := Fp.eq_nan h
    cases a <;> rfl

theorem fpEq_nan {a b : Fp} (h : a.isNan = true ∨ b.isNan = true) : fpEq a b = false := by
  rcases h with h | h <;> simp [fpEq, h]

theorem Fp.isNan_neg (a : Fp) : a.neg.isNan = a.isNan := by cases a <;> rfl

theorem f32Cmp_nan (k : Nat) {a b : Nat} (h : f32IsNan a = true ∨ f32IsNan b = true) : (f32Cmp k a b).1 = false := by
  unfold f32Cmp
  extract_lets x y fl
  split
  · exact fpEq_nan h
  · exact fpLt_nan h
  · show (fpLt x y || fpEq x y) = false
    rw [fpLt_nan h, fpEq_nan h]
    rfl

end Sys2Proof.Machine

namespace Sys2Proof

open Sys2Proof.Machine

/-- Settles O17: each is a lane-wise operation, with the flag of saturation where it saturates. -/
theorem vectorIntegersWriteEnabledLanes : Obligations.VectorIntegersWriteEnabledLanes := by
  unfold Obligations.VectorIntegersWriteEnabledLanes
  intro g vd vs1 src rs pr s hr c a b sat out
  refine ⟨answers_vecOp rfl hr fun _ => rfl, answers_vecOp rfl hr fun _ => rfl, answers_vecOp rfl hr fun _ => rfl,
    answers_vecOp rfl hr fun _ => rfl, answers_vecOp rfl hr fun _ => rfl, answers_vecOp rfl hr fun _ => rfl,
    answers_vecOp rfl hr fun _ => rfl, answers_vecOp rfl hr fun _ => rfl, answers_vecOp rfl hr fun _ => rfl,
    answers_vecOp rfl hr fun _ => rfl, answers_vecOp rfl hr fun _ => rfl, answers_vecOp rfl hr fun _ => rfl,
    answers_vecOp rfl hr fun k => rshrLane_lo32 _ _, answers_vecOp rfl hr fun _ => rfl, fun q => ?_,
    answers_satOp rfl hr fun _ => rfl, answers_satOp rfl hr fun _ => rfl, answers_satOp rfl hr fun _ => rfl⟩
  exact answers_next rfl (writesLanes_instr hr (by rw [Ctx.orFlags_zero]))

/-- Settles O18: each is a lane-wise operation with its lanes' flags; a NaN operand is seen before any other case. -/
theorem vectorFloatsWriteEnabledLanes : Obligations.VectorFloatsWriteEnabledLanes := by
  unfold Obligations.VectorFloatsWriteEnabledLanes
  refine ⟨fun g vd vs1 src pr s hr => ?_, fun a b h => ⟨fpAdd_nan h, fpAdd_nan ?_, fpMul_nan h, fun k => f32Cmp_nan k h⟩,
    fun d a b h => fpFma_nan h⟩
  · exact ⟨answers_vecFlagOp rfl hr fun _ => rfl, answers_vecFlagOp rfl hr fun _ => rfl, answers_vecFlagOp rfl hr fun _ => rfl,
      answers_vecFlagOp rfl hr fun _ => rfl, answers_vecFlagOp rfl hr fun _ => rfl, answers_vecFlagOp rfl hr fun _ => rfl,
      answers_vecFlagOp rfl hr fun _ => rfl, answers_vecFlagOp rfl hr fun _ => rfl, answers_vecFlagOp rfl hr fun _ => rfl,
      answers_vecFlagOp rfl hr fun _ => rfl⟩
  · rwa [Fp.isNan_neg]

/-- Settles O19: each is a compare, of its type's truth and flags. -/
theorem vectorComparesWriteEnabledPredicateBits : Obligations.VectorComparesWriteEnabledPredicateBits := by
  unfold Obligations.VectorComparesWriteEnabledPredicateBits
  intro g fp pd vs1 src pr s hr c a b flags gives
  refine ⟨answers_cmpLane rfl hr fun _ _ => rfl, answers_cmpLane rfl hr fun _ _ => rfl, answers_cmpLane rfl hr fun _ _ => rfl, ?_⟩
  rw [← Ctx.laneFlags_zero c pr]
  exact answers_vecCmp rfl hr fun _ => rfl

end Sys2Proof
end

section
/-! # Vector reductions and permutes (O21, O22): R266, R270 -/

namespace Sys2Proof.Machine

open Sys2Proof

variable {s : State} {g : Fin 3072}

/-! ## The enabled lanes -/

theorem Ctx.mem_active {c : Ctx} {v : Fin 8} {pr : Option (Fin 4)} {q : Fin 64 × Half} :
    q ∈ c.active v pr ↔ c.enabled pr q.1 = true ∧ q.2 = c.lane v q.1 := by
  obtain ⟨k, a⟩ := q
  simp only [Ctx.active, List.mem_map, List.mem_filter, lanes, List.mem_finRange, true_and, Prod.mk.injEq]
  exact ⟨fun ⟨j, he, hj, ha⟩ => ⟨hj ▸ he, hj ▸ ha.symm⟩, fun ⟨he, ha⟩ => ⟨k, he, rfl, ha.symm⟩⟩

/-- The enabled lanes are listed from the lowest up. -/
theorem Ctx.active_sorted (c : Ctx) (v : Fin 8) (pr : Option (Fin 4)) : (c.active v pr).Pairwise (·.1 < ·.1) := by
  rw [Ctx.active, List.pairwise_map]
  exact (List.pairwise_lt_finRange 64).filter _

theorem Ctx.active_eq_nil {c : Ctx} {pr : Option (Fin 4)} (v : Fin 8) (hnone : ∀ k, ¬ c.enabled pr k = true) :
    c.active v pr = [] :=
  List.eq_nil_iff_forall_not_mem.2 fun _ hq => hnone _ (Ctx.mem_active.1 hq).1

/-- A sum in order over the members that a condition picks. -/
theorem foldl_add_filter {α : Type} (p : α → Bool) (f : α → Half) (l : List α) (a : Half) :
    (l.filter p).foldl (fun a k => a + f k) a = a + (l.map fun k => if p k then f k else 0).sum := by
  induction l generalizing a with
  | nil => simp
  | cons k l ih =>
    by_cases hk : p k = true
    · simp [hk, ih, add_assoc]
    · simp [hk, ih]

/-- The integer sum of the enabled lanes, modulo 2^32. -/
theorem Ctx.sum_active (c : Ctx) (v : Fin 8) (pr : Option (Fin 4)) :
    (c.active v pr).foldl (fun a q => a + q.2) 0 = ∑ k : Fin 64, if c.enabled pr k then c.lane v k else 0 := by
  rw [Ctx.active, List.foldl_map, foldl_add_filter, Fin.sum_univ_def, zero_add]
  rfl

/-! ## The extreme lane -/

/-- Whether a signed value goes beyond another: above it for a maximum, below it for a minimum. -/
def exceeds (high : Bool) (a b : Half) : Bool := if high then b.slt a else a.slt b

theorem exceeds_iff {high : Bool} {a b : Half} :
    exceeds high a b = true ↔ if high then b.toInt < a.toInt else a.toInt < b.toInt := by
  cases high <;> exact BitVec.slt_iff_toInt_lt

theorem exceeds_self (high : Bool) (a : Half) : exceeds high a a = false := by
  rw [Bool.eq_false_iff, Ne, exceeds_iff]
  cases high <;> exact lt_irrefl _

/-- What does not exceed the lesser of two does not exceed the greater one. -/
theorem not_exceeds_of_exceeds {high : Bool} {a b x : Half} (hab : exceeds high a b = true) (hx : exceeds high x b = false) :
    exceeds high x a = false ∧ exceeds high a x = true := by
  rw [Bool.eq_false_iff, Ne, exceeds_iff] at hx ⊢
  rw [exceeds_iff] at hab ⊢
  cases high
  · exact ⟨fun h => hx (lt_trans h hab), lt_of_lt_of_le hab (not_lt.1 hx)⟩
  · exact ⟨fun h => hx (lt_trans hab h), lt_of_le_of_lt (not_lt.1 hx) hab⟩

/-- The better of the lane so far and one more. -/
def furthest (high : Bool) (best : Option (Fin 64 × Half)) (q : Fin 64 × Half) : Option (Fin 64 × Half) :=
  match best with
  | none => some q
  | some b => if exceeds high q.2 b.2 then some q else some b

theorem extreme_int (high : Bool) (l : List (Fin 64 × Half)) : extreme false high l = l.foldl (furthest high) none := by
  simp only [extreme, Bool.false_and, Bool.false_eq_true, if_false]
  congr 1
  funext best q
  cases best with
  | none => rfl
  | some b => cases high <;> simp only [furthest, exceeds, Bool.false_eq_true, if_true, if_false]

/-- One more lane. -/
theorem extreme_append (high : Bool) (l : List (Fin 64 × Half)) (q : Fin 64 × Half) :
    extreme false high (l ++ [q]) = furthest high (extreme false high l) q := by
  rw [extreme_int, extreme_int, List.foldl_append]
  rfl

/-- The extreme of lanes from the lowest up: no lane exceeds it, and it exceeds every lane below it. -/
theorem extreme_spec (high : Bool) (l : List (Fin 64 × Half)) (hl : l.Pairwise (·.1 < ·.1)) (hne : l ≠ []) :
    ∃ q ∈ l, extreme false high l = some q ∧
      ∀ x ∈ l, exceeds high x.2 q.2 = false ∧ (x.1 < q.1 → exceeds high q.2 x.2 = true) := by
  induction l using List.reverseRecOn with
  | nil => exact absurd rfl hne
  | append_singleton l q ih =>
    obtain ⟨hl, -, hlast⟩ := List.pairwise_append.1 hl
    rcases eq_or_ne l [] with rfl | hl0
    · refine ⟨q, by simp, extreme_append high [] q, fun x hx => ?_⟩
      obtain rfl : x = q := by simpa using hx
      exact ⟨exceeds_self _ _, fun h => absurd h (lt_irrefl _)⟩
    · obtain ⟨b, hb, hsome, hbest⟩ := ih hl hl0
      rw [extreme_append, hsome]
      by_cases hq : exceeds high q.2 b.2 = true
      · refine ⟨q, by simp, if_pos hq, fun x hx => ?_⟩
        rcases List.mem_append.1 hx with hx | hx
        · obtain ⟨hno, hyes⟩ := not_exceeds_of_exceeds hq (hbest x hx).1
          exact ⟨hno, fun _ => hyes⟩
        · obtain rfl : x = q := by simpa using hx
          exact ⟨exceeds_self _ _, fun h => absurd h (lt_irrefl _)⟩
      · refine ⟨b, by simp [hb], if_neg hq, fun x hx => ?_⟩
        rcases List.mem_append.1 hx with hx | hx
        · exact hbest x hx
        · obtain rfl : x = q := by simpa using hx
          exact ⟨by simpa using hq, fun h => absurd h (hlast b hb x (by simp)).asymm⟩

/-- The extreme of the enabled lanes has the value of any enabled lane that none exceeds. -/
theorem Ctx.extreme_active {c : Ctx} {v : Fin 8} {pr : Option (Fin 4)} {high : Bool} {m : Fin 64} (hm : c.enabled pr m = true)
    (hbest : ∀ k, c.enabled pr k = true → exceeds high (c.lane v k) (c.lane v m) = false) :
    ∃ q, extreme false high (c.active v pr) = some (q, c.lane v m) ∧
      ((∀ k, c.enabled pr k = true → k < m → exceeds high (c.lane v m) (c.lane v k) = true) → q = m) := by
  have hmem : (m, c.lane v m) ∈ c.active v pr := Ctx.mem_active.2 ⟨hm, rfl⟩
  obtain ⟨⟨q, a⟩, hq, hsome, hspec⟩ := extreme_spec high _ (c.active_sorted v pr) (List.ne_nil_of_mem hmem)
  obtain ⟨hqon, ha⟩ := Ctx.mem_active.1 hq
  obtain rfl : a = c.lane v q := ha
  obtain ⟨hnot, hlower⟩ := hspec _ hmem
  have hqm := hbest q hqon
  have hval : c.lane v q = c.lane v m := by
    rw [Bool.eq_false_iff, Ne, exceeds_iff] at hnot hqm
    cases high
    · exact BitVec.eq_of_toInt_eq (le_antisymm (not_lt.1 hnot) (not_lt.1 hqm))
    · exact BitVec.eq_of_toInt_eq (le_antisymm (not_lt.1 hqm) (not_lt.1 hnot))
  refine ⟨q, by rw [hsome, hval], fun hfirst => ?_⟩
  rcases lt_trichotomy q m with h | h | h
  · have habove := hfirst q hqon h
    rw [hval, exceeds_self] at habove
    exact absurd habove Bool.false_ne_true
  · exact h
  · have habove := hlower h
    rw [hval, exceeds_self] at habove
    exact absurd habove Bool.false_ne_true

/-! ## What a reduction retires with -/

section Reductions

variable {fp : Bool} {rd : Fin 32} {vs1 : Fin 8} {pr : Option (Fin 4)}

/-- The word of a maximum or minimum: INT32 sign-extended, FP32 in [31:0]; the identity without a lane. -/
def extremeWord (fp high : Bool) (q : Option (Fin 64 × Half)) : Word :=
  let v := (q.map (·.2)).getD (redIdentity fp high)
  if fp then v.setWidth 64 else sx32 v

/-- A maximum or minimum, by the extreme of its enabled lanes. -/
theorem answers_vecExtreme {i : Instr} {high : Bool}
    (hi : exec i s = .next (s.vecExtreme (.ctx g) i fp high rd vs1 pr)) (hr : s.runs (.ctx g) = true) :
    Answers i s (Reduces (.ctx g) rd (extremeWord fp high (extreme fp high ((s.ctx (.ctx g)).active vs1 pr)))
      (nanFlags fp ((s.ctx (.ctx g)).active vs1 pr)) s) :=
  answers_next hi (reduces_instr hr rfl)

/-- The number of the lane with the maximum. -/
theorem answers_vrargmax (hr : s.runs (.ctx g) = true) :
    Answers (.vrargmax (.ctx g) fp rd vs1 pr) s (Reduces (.ctx g) rd
      (BitVec.ofNat 64 (((extreme fp true ((s.ctx (.ctx g)).active vs1 pr)).map (·.1.val)).getD 64))
      (nanFlags fp ((s.ctx (.ctx g)).active vs1 pr)) s) :=
  answers_next rfl (reduces_instr hr rfl)

/-- The reductions without an enabled lane. -/
theorem reductions_of_none (hr : s.runs (.ctx g) = true) (hnone : ∀ k, ¬(s.ctx (.ctx g)).enabled pr k = true) :
    Answers (.vrmax (.ctx g) fp rd vs1 pr) s (Reduces (.ctx g) rd (if fp then 0xFF800000 else 0xFFFFFFFF80000000) 0 s) ∧
    Answers (.vrmin (.ctx g) fp rd vs1 pr) s (Reduces (.ctx g) rd (if fp then 0x7F800000 else 0x7FFFFFFF) 0 s) ∧
    Answers (.vrargmax (.ctx g) fp rd vs1 pr) s (Reduces (.ctx g) rd 64 0 s) := by
  have hmax := answers_vecExtreme (i := .vrmax (.ctx g) fp rd vs1 pr) (high := true) rfl hr
  have hmin := answers_vecExtreme (i := .vrmin (.ctx g) fp rd vs1 pr) (high := false) rfl hr
  have harg := answers_vrargmax (fp := fp) (rd := rd) (vs1 := vs1) (pr := pr) hr
  rw [Ctx.active_eq_nil vs1 hnone] at hmax hmin harg
  cases fp <;> exact ⟨hmax, hmin, harg⟩

/-- The INT32 reductions at an enabled lane that none exceeds. -/
theorem reductions_of_lane (hr : s.runs (.ctx g) = true) {m : Fin 64} (hm : (s.ctx (.ctx g)).enabled pr m = true) :
    let c := s.ctx (.ctx g)
    let a (k : Fin 64) : Half := c.lane vs1 k
    let on (k : Fin 64) : Prop := c.enabled pr k = true
    ((∀ k, on k → (a k).toInt ≤ (a m).toInt) →
      Answers (.vrmax (.ctx g) false rd vs1 pr) s (Reduces (.ctx g) rd ((a m).signExtend 64) 0 s)) ∧
    ((∀ k, on k → (a m).toInt ≤ (a k).toInt) →
      Answers (.vrmin (.ctx g) false rd vs1 pr) s (Reduces (.ctx g) rd ((a m).signExtend 64) 0 s)) ∧
    ((∀ k, on k → (a k).toInt ≤ (a m).toInt) → (∀ k, on k → k < m → (a k).toInt < (a m).toInt) →
      Answers (.vrargmax (.ctx g) false rd vs1 pr) s (Reduces (.ctx g) rd (BitVec.ofNat 64 m.val) 0 s)) := by
  intro c a on
  have hnot (high : Bool) (x y : Half) (h : if high then x.toInt ≤ y.toInt else y.toInt ≤ x.toInt) :
      exceeds high x y = false := by
    rw [Bool.eq_false_iff, Ne, exceeds_iff]
    cases high <;> exact not_lt.2 h
  refine ⟨fun hmax => ?_, fun hmin => ?_, fun hmax hfirst => ?_⟩
  · obtain ⟨q, hq, -⟩ := Ctx.extreme_active hm fun k hk => hnot true _ _ (hmax k hk)
    have hans := answers_vecExtreme (i := .vrmax (.ctx g) false rd vs1 pr) (high := true) rfl hr
    rwa [hq] at hans
  · obtain ⟨q, hq, -⟩ := Ctx.extreme_active hm fun k hk => hnot false _ _ (hmin k hk)
    have hans := answers_vecExtreme (i := .vrmin (.ctx g) false rd vs1 pr) (high := false) rfl hr
    rwa [hq] at hans
  · obtain ⟨q, hq, hqm⟩ := Ctx.extreme_active hm fun k hk => hnot true _ _ (hmax k hk)
    have hans := answers_vrargmax (fp := false) (rd := rd) (vs1 := vs1) (pr := pr) hr
    rw [hq, hqm fun k hk hkm => exceeds_iff.2 (hfirst k hk hkm)] at hans
    exact hans

end Reductions

/-! ## Slides, VPERM and VCOMPRESS -/

/-- A lane by a number that is not negative. -/
theorem Ctx.laneAt_natCast (c : Ctx) (v : Fin 8) (k : Nat) : c.laneAt v k = if hk : k < 64 then c.lane v ⟨k, hk⟩ else 0 := by
  simp [Ctx.laneAt]

/-- A lane by a difference, which may be below 0. -/
theorem Ctx.laneAt_sub (c : Ctx) (v : Fin 8) (i n : Nat) :
    c.laneAt v ((i : Int) - n) = if n ≤ i then (if hk : i - n < 64 then c.lane v ⟨i - n, hk⟩ else 0) else 0 := by
  by_cases h : n ≤ i
  · rw [if_pos h, ← Int.ofNat_sub h, Ctx.laneAt_natCast]
  · rw [if_neg h, Ctx.laneAt, if_neg (by omega)]

/-- An instruction of the vector unit that writes lanes alone. -/
theorem answers_putLanes {i : Instr} {k : State → Ctx → Ran} {vd : Fin 8} {pr : Option (Fin 4)} {f : Fin 64 → Half}
    (hi : exec i s = .next (s.engineInstr (.ctx g) i .vector k)) (hr : s.runs (.ctx g) = true)
    (hk : k (s.issued (.ctx g) .vector) (s.ctx (.ctx g)) =
      .next (s.issued (.ctx g) .vector) ((s.ctx (.ctx g)).putLanes vd pr f)) :
    Answers i s (WritesLanes (.ctx g) vd pr f 0 s) :=
  answers_next hi (writesLanes_instr hr (by rw [hk, Ctx.orFlags_zero]))

/-- The values of the enabled lanes, in lane order. -/
theorem Ctx.map_active (c : Ctx) (v : Fin 8) (pr : Option (Fin 4)) :
    (c.active v pr).map (·.2) = ((List.finRange 64).filter fun k => c.enabled pr k).map (c.lane v) := by
  rw [Ctx.active, List.map_map]
  rfl

/-- Registers and lanes of a context after VCOMPRESS. -/
theorem answers_vcompress (vd vs1 : Fin 8) (rd : Fin 32) (q : Fin 4) (hr : s.runs (.ctx g) = true) :
    let c := s.ctx (.ctx g)
    let on := (List.finRange 64).filter fun k => c.enabled (some q) k
    Answers (.vcompress (.ctx g) vd vs1 rd q) s (fun t =>
      (∀ r k, (t.ctx (.ctx g)).lane r k = if r = vd then ((on.map (c.lane vs1)).getD k.val 0) else c.lane r k) ∧
      RegWritten c (t.ctx (.ctx g)) rd (BitVec.ofNat 64 on.length) ∧ (t.ctx (.ctx g)).p = c.p ∧ Passes (.ctx g) 0 s t ∧
      SameMemory s t) := by
  intro c on
  have hb := becomes_instr (q := .vector) (k := fun s c => .next s ((c.putLanes vd none fun i =>
    ((c.active vs1 (some q)).map (·.2)).getD i.val 0).put rd (BitVec.ofNat 64 ((c.active vs1 (some q)).map (·.2)).length))) hr rfl
  rw [Ctx.map_active, List.length_map, Ctx.put_pc] at hb
  refine answers_next rfl ⟨fun r k => ?_, ?_, ?_, passes_of_becomes hb ?_ ?_, hb.2.2⟩
  · rw [State.engineInstr_ctx, hb.1]
    show ((s.ctx (.ctx g)).putLanes vd none _ |>.put rd _).lane r k = _
    rw [Ctx.lane, Ctx.put_v, ← Ctx.lane, Ctx.lane_putLanes]
    simp [Ctx.enabled, c, on]
  · rw [State.engineInstr_ctx, hb.1]
    exact ⟨fun r => Ctx.get_put _ rd r _, rfl⟩
  · rw [State.engineInstr_ctx, hb.1]
    exact Ctx.put_p _ _ _
  · exact (Ctx.put_flags _ _ _).trans (BitVec.or_zero).symm
  · unfold Ctx.put
    split <;> exact ⟨rfl, rfl, rfl, rfl, rfl, rfl, rfl, rfl, rfl, rfl, rfl, rfl, rfl⟩

end Sys2Proof.Machine

namespace Sys2Proof

open Sys2Proof.Machine

/-- Settles O21: the integer forms by their sum and their extreme lane, the FP32 forms by the model's own functions. -/
theorem vectorReductionsWriteRd : Obligations.VectorReductionsWriteRd := by
  unfold Obligations.VectorReductionsWriteRd
  intro g fp rd vs1 pr s hr c a on h
  refine ⟨?_, ?_, reductions_of_none hr, ?_, ?_, ?_⟩
  · rintro rfl
    exact answers_next rfl (reduces_instr hr (by rw [Ctx.orFlags_zero, ← Ctx.sum_active]; rfl))
  · rintro rfl
    exact answers_next rfl (reduces_instr hr rfl)
  · rintro rfl m hm
    exact reductions_of_lane hr hm
  · rintro rfl
    have hsome {i : Instr} {v : Word} {n : Nat} :
        Answers i s (Reduces h rd v n s) → Answers i s fun t => ∃ v, Reduces h rd v n s t :=
      fun ⟨t, ht, hred⟩ => ⟨t, ht, v, hred⟩
    exact ⟨_, hsome (answers_vecExtreme rfl hr), hsome (answers_vecExtreme rfl hr), hsome (answers_vrargmax hr)⟩
  · exact answers_next rfl (reduces_instr hr (by rw [Ctx.orFlags_zero]; rfl))

/-- Settles O22: each slide and VPERM writes enabled lanes from the lane it names, VCOMPRESS every lane. -/
theorem vectorPermutesMoveLanes : Obligations.VectorPermutesMoveLanes := by
  unfold Obligations.VectorPermutesMoveLanes
  intro g rd rs vd vs1 vs2 pr q s hr c h lane n on
  refine ⟨answers_putLanes rfl hr ?_, answers_putLanes rfl hr ?_, answers_putLanes rfl hr ?_, answers_vcompress vd vs1 rd q hr⟩
  · simp only [Ctx.laneAt_sub]
    rfl
  · simp only [← Int.natCast_add, Ctx.laneAt_natCast]
    rfl
  · simp only [Ctx.laneAt_natCast]
    rfl

end Sys2Proof
end

section
/-! # Barriers (O16): R265, R282 -/

namespace Sys2Proof.Machine

open Sys2Proof

variable {s : State} {g : Fin 3072}

/-! ## An engine's barriers -/

/-- The barriers of an engine beside one number. -/
def Engine.otherBarriers (v : Engine) (id : Nat) : List Barrier := v.barriers.filter fun b => b.id != id

/-- Its barriers beside a number hold none of that number. -/
theorem Engine.find_otherBarriers (v : Engine) (id : Nat) :
    (v.otherBarriers id).find? (fun b => b.id = id && !b.arrived.isEmpty) = none := by
  rw [List.find?_eq_none]
  intro b hb
  have hid : b.id ≠ id := by simpa using (List.mem_filter.1 hb).2
  simp [hid]

theorem Engine.barrier_freed (v w : Engine) (id : Nat) :
    ({ w with barriers := v.otherBarriers id } : Engine).barrier id = none := v.find_otherBarriers id

theorem Engine.barrier_waiting (v w : Engine) (b : Barrier) (hb : b.arrived ≠ []) :
    ({ w with barriers := v.otherBarriers b.id ++ [b] } : Engine).barrier b.id = some b := by
  rw [Engine.barrier, List.find?_append, v.find_otherBarriers]
  simp [hb]

/-! ## Contexts that resume -/

/-- Contexts by number resume behind their BAR. -/
def State.resumeAll (s : State) (l : List Nat) : State := l.foldl (fun s k => s.setCtxAt k (s.ctxAt k).resume) s

/-- Resuming changes the contexts' registers alone. -/
theorem State.resumeAll_rest (s : State) (l : List Nat) : s.resumeAll l = { s with ctxs := (s.resumeAll l).ctxs } := by
  refine foldl_keeps (fun t : State => t = { s with ctxs := t.ctxs }) _ (fun t k ht => ?_) l s rfl
  rw [ht]; rfl

@[simp] theorem State.resumeAll_engines (s : State) (l : List Nat) : (s.resumeAll l).engines = s.engines :=
  (congrArg State.engines (s.resumeAll_rest l) :)
@[simp] theorem State.resumeAll_mem (s : State) (l : List Nat) : (s.resumeAll l).mem = s.mem :=
  (congrArg State.mem (s.resumeAll_rest l) :)
@[simp] theorem State.resumeAll_poison (s : State) (l : List Nat) : (s.resumeAll l).poison = s.poison :=
  (congrArg State.poison (s.resumeAll_rest l) :)

/-- Each of different contexts resumes once, and no other hart's registers change. -/
theorem State.ctxAt_resumeAll {l : List Nat} (hl : l.Nodup) (s : State) (k : Nat) :
    (s.resumeAll l).ctxAt k = if k ∈ l then (s.ctxAt k).resume else s.ctxAt k := by
  induction l generalizing s with
  | nil => rfl
  | cons a l ih =>
    obtain ⟨ha, hl⟩ := List.nodup_cons.1 hl
    show ((s.setCtxAt a (s.ctxAt a).resume).resumeAll l).ctxAt k = _
    rw [ih hl, State.ctxAt_setCtxAt]
    by_cases hk : k = a
    · subst hk
      simp [ha]
    · simp [hk]

/-! ## An arrival (R265) -/

/-- The contexts that wait at a barrier of an engine. -/
def State.waitingAt (s : State) (e id : Nat) : List Nat :=
  match (s.engine e).barrier id with
  | some b => b.arrived
  | none => []

/-- The last arrival frees the barrier and lets all who waited go on; another one waits. -/
theorem State.arrive_eq (s : State) (g id count : Nat) (c : Ctx) :
    let e := g / 64
    let l := s.waitingAt e id
    let others := (s.engine e).otherBarriers id
    s.arrive g id count c =
      if l.length + 1 = count then
        (((s.perf e 1).modEngine e fun v => { v with barriers := others }).resumeAll l).setCtxAt g { c with pc := c.pc + 4 }
      else
        ((s.perf e 1).modEngine e fun v =>
          { v with barriers := others ++ [{ id := id, count := count, arrived := l ++ [g] }] }).setCtxAt g
            { c with barrier := some id } := rfl

/-- The first arrival at a barrier of more than one: the context waits, and the barrier remembers it. -/
theorem State.arrive_waits {id count : Nat} (c : Ctx) (hfree : (s.engine (g.val / 64)).barrier id = none) (hcount : count ≠ 1) :
    let t := s.arrive g.val id count c
    t.ctx (.ctx g) = { c with barrier := some id } ∧
      (t.engine (g.val / 64)).barrier id = some { id := id, count := count, arrived := [g.val] } ∧
      (∀ k, k ≠ .ctx g → t.ctx k = s.ctx k) ∧ SameMemory s t := by
  have hnone : s.waitingAt (g.val / 64) id = [] := by rw [State.waitingAt, hfree]
  intro t
  have ht : t = _ := s.arrive_eq g.val id count c
  rw [hnone, if_neg fun h => hcount h.symm] at ht
  rw [ht]
  refine ⟨State.ctx_setCtx_self _ (.ctx g) _, ?_, fun k hk => (State.ctx_setCtx_ne (h := .ctx g) _ _ hk).trans ?_,
    sameMemory_of_mem (by simp) (by simp)⟩
  · rw [State.engine, State.setCtxAt_engines, ← State.engine, State.engine_modEngine_self]
    exact Engine.barrier_waiting _ _ { id := id, count := count, arrived := [g.val] } (by simp)
  · exact State.ctx_congr (by simp) k

/-- The arrival that completes the count: the barrier is free, and all who waited resume with the last. -/
theorem State.arrive_completes {id count : Nat} {c : Ctx} (hlast : (s.waitingAt (g.val / 64) id).length + 1 = count)
    (honce : (s.waitingAt (g.val / 64) id).Nodup) :
    let t := s.arrive g.val id count c
    t.ctx (.ctx g) = { c with pc := c.pc + 4 } ∧ (t.engine (g.val / 64)).barrier id = none ∧
      (∀ k, k ≠ .ctx g → t.ctx k = if hartKey k ∈ s.waitingAt (g.val / 64) id then (s.ctx k).resume else s.ctx k) ∧
      SameMemory s t := by
  intro t
  have ht : t = _ := s.arrive_eq g.val id count c
  rw [if_pos hlast] at ht
  rw [ht]
  generalize s.waitingAt (g.val / 64) id = l at honce
  generalize hu : (s.perf (g.val / 64) 1).modEngine (g.val / 64) (fun v =>
    { v with barriers := (s.engine (g.val / 64)).otherBarriers id }) = u
  refine ⟨State.ctx_setCtx_self _ (.ctx g) _, ?_, fun k hk => (State.ctx_setCtx_ne (h := .ctx g) _ _ hk).trans ?_,
    sameMemory_of_mem (by simp [← hu]) (by simp [← hu])⟩
  · rw [State.engine, State.setCtxAt_engines, State.resumeAll_engines, ← hu, ← State.engine, State.engine_modEngine_self]
    exact Engine.barrier_freed _ _ id
  · have hctx : u.ctx k = s.ctx k := State.ctx_congr (by simp [← hu]) k
    rw [← hctx]
    exact State.ctxAt_resumeAll honce u (hartKey k)

/-- A context that waits at a barrier does not issue. -/
theorem State.runs_of_barrier {id : Nat} (hb : (s.ctx (.ctx g)).barrier = some id) : s.runs (.ctx g) = false := by
  have hready : s.ctxReady g.val = false := by
    simp only [State.ctxReady]
    rw [show s.ctxAt g.val = s.ctx (.ctx g) from rfl, hb]
    simp
  simp [State.runs, State.ready, hready]

/-- BAR arrives, where no fault is deferred and no other count is fixed. -/
theorem exec_bar {id : Fin 16} {count1 : BitVec 7} (hr : s.runs (.ctx g) = true)
    (hops : ∀ o ∈ (s.ctx (.ctx g)).ops, o.fault = none)
    (hcount : ∀ b, (s.engine (g.val / 64)).barrier id.val = some b → b.count = count1.toNat + 1) :
    exec (.bar (.ctx g) id count1) s =
      .next ((s.issued (.ctx g) .queue).arrive g.val id.val (count1.toNat + 1) (s.ctx (.ctx g))) := by
  have hdef : (s.ctx (.ctx g)).deferredIn 0xFF = false := by simpa [Ctx.deferredIn] using fun o ho hf => by simp [hops o ho] at hf
  have heng : (s.issued (.ctx g) .queue).engine (g.val / 64) = s.engine (g.val / 64) := by simp [State.engine]
  refine congrArg Host.Outcome.next ?_
  rw [State.engineInstr_ctx, State.instr_runs s hr, State.execute_of_leave]
  show (if (s.ctx (.ctx g)).deferredIn 0xFF then _ else _) = _
  rw [hdef, if_neg Bool.false_ne_true]
  show (match ((s.issued (.ctx g) .queue).engine (g.val / 64)).barrier id.val with | some b => _ | none => _) = _
  rw [heng]
  cases hb : (s.engine (g.val / 64)).barrier id.val with
  | none => rfl
  | some b => simp [hcount b hb]; rfl

end Sys2Proof.Machine

namespace Sys2Proof

open Sys2Proof.Machine

/-- Settles O16: BAR is an arrival (`exec_bar`), which completes the count or waits. -/
theorem barrierReleasesOnTheLastArrival : Obligations.BarrierReleasesOnTheLastArrival := by
  unfold Obligations.BarrierReleasesOnTheLastArrival
  intro g id count1 s hr hops v c
  have hctx : ∀ k, (s.issued (.ctx g) .queue).ctx k = s.ctx k := State.issued_ctx _
  have heng : (s.issued (.ctx g) .queue).engine (g.val / 64) = v := by simp [State.engine, v]
  have hmem : SameMemory s (s.issued (.ctx g) .queue) := sameMemory_of_mem (by simp) (by simp)
  refine ⟨fun hfree hone => ?_, fun hfree hmore => ?_, fun b hb hcount hlast honce hnew _ => ?_⟩
  · obtain ⟨hself, -, hothers, hsame⟩ := State.arrive_completes (g := g) (s := s.issued (.ctx g) .queue) (id := id.val)
      (count := count1.toNat + 1) (c := c) (by simp [State.waitingAt, heng, hfree, hone]) (by simp [State.waitingAt, heng, hfree])
    refine answers_next (exec_bar hr hops (by simp [v, hfree])) ⟨hself, fun k hk => ?_, sameMemory_trans hmem hsame⟩
    rw [hothers k hk, if_neg (by simp [State.waitingAt, heng, hfree]), hctx]
  · have hne : count1.toNat + 1 ≠ 1 := fun h => hmore (BitVec.eq_of_toNat_eq (Nat.succ.inj h))
    obtain ⟨hself, hbar, hothers, hsame⟩ := State.arrive_waits (g := g) (s := s.issued (.ctx g) .queue) c
      (by rw [heng]; exact hfree) hne
    exact answers_next (exec_bar hr hops (by simp [v, hfree])) ⟨hself, hbar, fun k hk => (hothers k hk).trans (hctx k),
      State.runs_of_barrier (by rw [hself]), sameMemory_trans hmem hsame⟩
  · have hwait : (s.issued (.ctx g) .queue).waitingAt (g.val / 64) id.val = b.arrived := by simp [State.waitingAt, heng, hb]
    obtain ⟨hself, hbar, hothers, hsame⟩ := State.arrive_completes (g := g) (s := s.issued (.ctx g) .queue) (id := id.val)
      (count := count1.toNat + 1) (c := c) (by rw [hwait, hlast]) (by rwa [hwait])
    rw [hwait] at hothers
    refine answers_next (exec_bar hr hops (by simp [v, hb, hcount])) ⟨hself, hbar, fun k hk => ?_, fun k hkg hk => ?_,
      sameMemory_trans hmem hsame⟩
    · have hne : k ≠ g := fun h => hnew (h ▸ hk)
      rw [hothers (.ctx k) (by simpa using hne), if_pos (by exact hk), hctx]
      rfl
    · rw [hothers (.ctx k) (by simpa using hkg), if_neg (by exact hk), hctx]

end Sys2Proof
end

section
/-! # What a tensor operation's accesses leave of the contexts' operations (O27): R272, R295

A tensor operation may store into doorbells, ports of the units and the state table, which end jobs, queue requests and feed
monitor channels. None of that changes the list of operations of a context: most of it leaves every hart's registers alone
(`_ctxs`), and the end of a job and a context slot leave the operations (`KeepsOps`). -/

namespace Sys2Proof.Machine

open Sys2Proof

/-! ## Registers that are the same -/

@[simp] theorem ite_ctxs (c : Prop) [Decidable c] (a b : State) : (if c then a else b).ctxs = if c then a.ctxs else b.ctxs :=
  apply_ite State.ctxs c a b

/-- The harts' registers are the same. -/
def SameCtxs (s t : State) : Prop := t.ctxs = s.ctxs

@[simp] theorem sameCtxs_iff {s t : State} : SameCtxs s t ↔ t.ctxs = s.ctxs := ⟨id, id⟩

/-- A fold whose steps leave the harts' registers alone leaves them alone. -/
@[simp] theorem foldl_ctxs {α : Type} (f : State → α → State) (hf : ∀ b a, SameCtxs b (f b a)) (l : List α) (s : State) :
    (l.foldl f s).ctxs = s.ctxs := foldl_same State.ctxs f hf l s

@[simp] theorem State.takeFree_ctxs (s : State) : s.takeFree.2.ctxs = s.ctxs := rfl

@[simp] theorem State.raiseMax_ctxs (s : State) (i j v c : Nat) : (s.raiseMax i j v c).ctxs = s.ctxs := by
  simp [State.raiseMax]

@[simp] theorem State.nearMissIn_ctxs (s : State) (i j c : Nat) : (s.nearMissIn i j c).ctxs = s.ctxs := by
  simp [State.nearMissIn]

@[simp] theorem State.nearMiss_ctxs (s : State) : s.nearMiss.ctxs = s.ctxs := by
  simp [State.nearMiss]

@[simp] theorem State.monSample_ctxs (s : State) (src param : Nat) (v : Int) : (s.monSample src param v).ctxs = s.ctxs :=
  (ReportsOnly.monSample s src param v).ctxs

@[simp] theorem State.wakeEngine_ctxs (s : State) (e : Nat) : (s.wakeEngine e).ctxs = s.ctxs := by
  simp [State.wakeEngine]

@[simp] theorem State.cellsWrite_ctxs (s : State) (a : Nat) (m : Option Nat) (bs : List Byte) :
    (s.cellsWrite a m bs).ctxs = s.ctxs := by
  cases m <;> rfl

/-! ## Strips (R165, R168, R219, R386) -/

@[simp] theorem State.mapSluices_ctxs (s : State) (p : Sluice → Bool) (f : Sluice → Sluice) :
    (s.mapSluices p f).ctxs = s.ctxs := rfl

@[simp] theorem State.modSluice_ctxs (s : State) (strm : Nat) (f : Sluice → Sluice) : (s.modSluice strm f).ctxs = s.ctxs := rfl

@[simp] theorem State.modStrip_ctxs (s : State) (p : Sluice → Bool) (n : Nat) (f : Strip → Strip) :
    (s.modStrip p n f).ctxs = s.ctxs := rfl

@[simp] theorem State.weirCheck_ctxs (s : State) (q : Sluice) : (s.weirCheck q).ctxs = s.ctxs := by
  simp [State.weirCheck]

@[simp] theorem State.sluiceChanged_ctxs (s : State) (strm : Nat) : (s.sluiceChanged strm).ctxs = s.ctxs := by
  unfold State.sluiceChanged
  dsimp only
  split <;> simp

@[simp] theorem State.sluiceMoved_ctxs (s : State) (strm : Nat) : (s.sluiceMoved strm).ctxs = s.ctxs := by
  unfold State.sluiceMoved
  dsimp only
  split <;> simp

@[simp] theorem State.releaseStrip_ctxs (s : State) (p : Sluice → Bool) (strm n : Nat) :
    (s.releaseStrip p strm n).ctxs = s.ctxs := by
  simp [State.releaseStrip]

@[simp] theorem State.register_ctxs (s : State) (o : Outcome) : (s.register o).ctxs = s.ctxs := by
  simp [State.register, State.frameOutcome]

@[simp] theorem State.registerMiss_ctxs (s : State) (strm : Nat) (t : Strip) : (s.registerMiss strm t).ctxs = s.ctxs := by
  simp [State.registerMiss]

@[simp] theorem State.stripResult_ctxs (s : State) (strm : Nat) (t : Strip) : (s.stripResult strm t).ctxs = s.ctxs := by
  simp [State.stripResult]

@[simp] theorem State.stripJobEnd_ctxs (s : State) (j : Job) (status : Nat) : (s.stripJobEnd j status).ctxs = s.ctxs := by
  unfold State.stripJobEnd
  split <;> simp

/-! ## Submission and the units' requests (R309, R313, R333) -/

@[simp] theorem State.occupancy_ctxs (s : State) (q : Nat) : (s.occupancy q).ctxs = s.ctxs := by
  simp [State.occupancy]

@[simp] theorem State.useSample_ctxs (s : State) (e : Nat) : (s.useSample e).ctxs = s.ctxs := (SameWork.useSample s e).1

@[simp] theorem State.submit_ctxs (s : State) (q : Nat) (d : List Byte) (strip : Bool) : (s.submit q d strip).2.ctxs = s.ctxs := by
  unfold State.submit
  extract_lets c n j s1 s2
  split
  · rfl
  · exact State.occupancy_ctxs _ _

@[simp] theorem State.setBell_ctxs (s : State) (q wc : Nat) (b : Doorbell) : (s.setBell q wc b).ctxs = s.ctxs := rfl

@[simp] theorem State.bellSubmit_ctxs (s : State) (q wc : Nat) : (s.bellSubmit q wc).ctxs = s.ctxs := by
  simp [State.bellSubmit]

@[simp] theorem State.recStart_ctxs (s : State) : s.recStart.ctxs = s.ctxs := by
  unfold State.recStart
  split <;> simp

@[simp] theorem State.smpStart_ctxs (s : State) : s.smpStart.ctxs = s.ctxs := by
  unfold State.smpStart
  split <;> simp

@[simp] theorem State.tableStore_ctxs (s : State) (a : Nat) (bs : List Byte) : (s.tableStore a bs).ctxs = s.ctxs := rfl

@[simp] theorem State.unitLoad_ctxs (s : State) (u off n : Nat) : (s.unitLoad u off n).2.ctxs = s.ctxs := by
  unfold State.unitLoad
  dsimp only
  repeat' split
  all_goals rfl

@[simp] theorem State.wakeReach_ctxs (s : State) (w : Who) (a n : Nat) : (s.wakeReach w a n).ctxs = s.ctxs := by
  refine foldl_ctxs _ (fun t e => sameCtxs_iff.2 ?_) _ s
  repeat' split
  all_goals simp

@[simp] theorem State.putBy_ctxs (s : State) (w : Who) (a : Nat) (bs : List Byte) : (s.putBy w a bs).2.ctxs = s.ctxs := by
  refine foldl_keeps (fun r : Option (Nat × Nat) × State => r.2.ctxs = s.ctxs) _ (fun r k hr => ?_) _ _ rfl
  repeat' split
  all_goals simpa using hr

theorem State.writeBy_ctxs {s t : State} {w : Who} {a : Nat} {bs : List Byte} (h : s.writeBy w a bs = some t) :
    t.ctxs = s.ctxs := by
  unfold State.writeBy at h
  dsimp only at h
  split at h
  · cases h
  · cases h
    exact State.putBy_ctxs s w a bs

@[simp] theorem State.complete_ctxs (s : State) (u : Nat) (r : UnitReq) (rec : List Byte) : (s.complete u r rec).ctxs = s.ctxs := by
  unfold State.complete
  dsimp only
  split
  · rfl
  · cases h : (s.wakeReach r.who (completionAddr u r.desc) 32).writeBy r.who (completionAddr u r.desc) rec with
    | none => rfl
    | some t => exact (State.writeBy_ctxs h).trans (State.wakeReach_ctxs _ _ _ _)

@[simp] theorem State.trigger_ctxs (s : State) (u : Nat) (h : Hart) (desc : Nat) : (s.trigger u h desc).ctxs = s.ctxs := by
  simp [State.trigger]

@[simp] theorem State.alive_ctxs (s : State) (pair : Nat) (v : BitVec 16) : (s.alive pair v).ctxs = s.ctxs := by
  simp [State.alive, State.drivePins]

/-! ## Loads, and the accesses of a TOP (R272, R289 to R295) -/

@[simp] theorem State.loadFrom_ctxs (s : State) (h : Hart) (p : Place) (n : Nat) : (s.loadFrom h p n).2.ctxs = s.ctxs := by
  cases p with
  | cells pa m =>
    cases h with
    | ctx g => rfl
    | keeper c =>
      show (s.l1Load c.val pa n).2.ctxs = s.ctxs
      unfold State.l1Load
      dsimp only
      repeat' split
      all_goals rfl
  | unit u off => exact State.unitLoad_ctxs s u off n
  | _ => rfl

theorem State.movePlace_ctxs {s t : State} {h : Hart} {acc : Acs} {a : Nat} {bs : List Byte} {p : Place}
    (e : s.movePlace h acc a bs = .inr (p, t)) : t.ctxs = s.ctxs := by
  unfold State.movePlace at e
  split at e
  · cases e
  · cases e; rfl
  · split at e
    · split at e
      · cases e
      · cases e; exact State.wakeEngine_ctxs _ _
    · cases e

@[simp] theorem State.topWakes_ctxs (s : State) (w : Who) (t : TopOp) : (s.topWakes w t).ctxs = s.ctxs := by
  simp [State.topWakes]

@[simp] theorem State.putAll_ctxs (s : State) (w : Who) (l : List (Nat × List Byte)) : (s.putAll w l).2.ctxs = s.ctxs := by
  refine foldl_keeps (fun r : Option (Nat × Nat) × State => r.2.ctxs = s.ctxs) _ (fun r x hr => ?_) _ _ rfl
  split
  · exact hr
  · exact (State.putBy_ctxs _ _ _ _).trans hr

@[simp] theorem State.runTop_ctxs (s : State) (w : Who) (e : Nat) (o : TensorOp) : (s.runTop w e o).2.ctxs = s.ctxs := by
  unfold State.runTop
  dsimp only
  repeat' split
  all_goals simp

/-! ## Operations that are the same -/

@[simp] theorem Ctx.put_ops (c : Ctx) (r : Fin 32) (v : Word) : (c.put r v).ops = c.ops := by
  unfold Ctx.put
  split <;> rfl

theorem Ctx.setSlotWord_ops (c : Ctx) (g : Fin 3072) (o : Nat) (d : Word) : (c.setSlotWord g o d).ops = c.ops := by
  unfold Ctx.setSlotWord
  split
  · exact Ctx.put_ops _ _ _
  · repeat' split
    all_goals rfl

/-- Every context's list of operations is the same. -/
def KeepsOps (s t : State) : Prop := ∀ g : Fin 3072, (t.ctxAt g.val).ops = (s.ctxAt g.val).ops

namespace KeepsOps

variable {s t u : State}

theorem of_ctxs (h : t.ctxs = s.ctxs) : KeepsOps s t := fun g => by rw [State.ctxAt, State.ctxAt, h]

theorem refl (s : State) : KeepsOps s s := of_ctxs rfl

theorem trans (h : KeepsOps s t) (k : KeepsOps t u) : KeepsOps s u := fun g => (k g).trans (h g)

/-- What follows leaves the harts' registers. -/
theorem then_ctxs (h : KeepsOps s t) (k : u.ctxs = t.ctxs) : KeepsOps s u := h.trans (of_ctxs k)

theorem ite {c : Prop} [Decidable c] (ht : KeepsOps s t) (hu : KeepsOps s u) : KeepsOps s (if c then t else u) := by
  split
  · exact ht
  · exact hu

theorem foldl {α : Type} {f : State → α → State} (hf : ∀ b a, KeepsOps b (f b a)) (l : List α) (s : State) :
    KeepsOps s (l.foldl f s) := foldl_keeps (KeepsOps s) f (fun b a hb => hb.trans (hf b a)) l s (refl s)

theorem setCtxAt (s : State) (g : Nat) {c : Ctx} (hc : c.ops = (s.ctxAt g).ops) : KeepsOps s (s.setCtxAt g c) := fun k => by
  rw [State.ctxAt_setCtxAt]
  split
  · next h => rw [hc, h]
  · rfl

/-! ### The end of a job and doorbells (R334, R339, R340) -/

theorem leaveBarriers (s : State) (g : Nat) : KeepsOps s (s.leaveBarriers g) :=
  (of_ctxs (t := s.modEngine (g / 64) _) rfl).trans (setCtxAt _ g rfl)

theorem endJob (s : State) (id status ecode : Nat) (mismatch : Bool) : KeepsOps s (s.endJob id status ecode mismatch) := by
  unfold State.endJob
  split
  · exact refl s
  · next j _ =>
    refine ite (refl s) ?_
    extract_lets user s1 s2 s3 s4 s5 s6 s7
    have hleft : KeepsOps s s1 := ite (foldl leaveBarriers _ _) (refl s)
    have h3 : s3.ctxs = s1.ctxs := by simp [s3, s2]
    have h4 : s4.ctxs = s3.ctxs := by simp [s4]
    have h6 : s6.ctxs = s4.ctxs := by simp [s6, s5]
    exact ((hleft.then_ctxs h3).then_ctxs h4).then_ctxs ((by simp [s7] : _ = s6.ctxs).trans h6)

theorem settleCancels (s : State) : KeepsOps s s.settleCancels :=
  foldl (fun _ _ => ite (endJob _ _ _ _ _) (refl _)) _ s

theorem cancelTag (s : State) (q tag : Nat) : KeepsOps s (s.cancelTag q tag).2 := by
  unfold State.cancelTag
  split
  · exact refl s
  · split
    · exact endJob _ _ _ _ _
    · exact (of_ctxs (t := s.modJob _ _) rfl).trans (settleCancels _)

theorem bellCancel (s : State) (q wc tag : Nat) : KeepsOps s (s.bellCancel q wc tag) := (cancelTag s q tag).then_ctxs rfl

theorem bellWrite (s : State) (q wc off : Nat) (bs : List Byte) : KeepsOps s (s.bellWrite q wc off bs) := by
  unfold State.bellWrite
  extract_lets covers b s1 s2 s3
  have hstaged : KeepsOps s s2 := of_ctxs (by simp [s2, s1])
  have hcancelled : KeepsOps s s3 := ite (hstaged.trans (bellCancel _ _ _ _)) hstaged
  exact ite (hcancelled.then_ctxs rfl) hcancelled

theorem bellBy (s : State) (wr : Writer) (q off : Nat) (bs : List Byte) : KeepsOps s (s.bellBy wr q off bs) := by
  have hwrite (wc : Nat) : KeepsOps s (s.endDoze.bellWrite q wc off bs) :=
    (of_ctxs (t := s.endDoze) rfl).trans (bellWrite _ _ _ _ _)
  unfold State.bellBy
  split
  · exact ite (refl s) (ite (of_ctxs (State.bump_ctxs s _ _ _ _)) (hwrite _))
  · exact hwrite _

/-! ### Context slots and the Keepers' ports (R232, R256, R352) -/

theorem slotWrite (s : State) (g o : Nat) (bs : List Byte) : KeepsOps s (s.slotWrite g o bs) := by
  unfold State.slotWrite
  split
  · exact setCtxAt s g (Ctx.setSlotWord_ops _ _ _ _)
  · exact refl s

/-- A rejoin that holds the cores in reset leaves the contexts. -/
theorem rejoinHold (s : State) : KeepsOps s s.rejoinHold := fun g => by
  have hget : Amap.get Ctx.zero (s.ctxs.filter fun c => c.1 < 3072) g.val = Amap.get Ctx.zero s.ctxs g.val := by
    rw [Amap.get_filter Ctx.zero s.ctxs (· < 3072), if_pos (decide_eq_true g.isLt)]
  exact congrArg Ctx.ops hget

theorem handoverAcked (s : State) (pair : Nat) : KeepsOps s (s.handoverAcked pair) := by
  unfold State.handoverAcked
  refine ite (refl s) ?_
  extract_lets s1 saf s2
  have h1 : s1.ctxs = s.ctxs := by
    simp only [s1]
    split
    · simp [State.nearEdge]
    · rfl
  have h2 : KeepsOps s s2 := of_ctxs ((ite_ctxs _ _ _).trans ((ite_self _).trans h1))
  exact ite (h2.trans (rejoinHold s2)) h2

theorem portWrite (s : State) (pair off : Nat) (bs : List Byte) : KeepsOps s (s.portWrite pair off bs) :=
  ite (of_ctxs (State.alive_ctxs _ _ _)) (ite (handoverAcked s pair) (refl s))

/-! ### Accesses (R272, R284, R292, R293) -/

theorem storeTo (s : State) (h : Hart) (p : Place) (bs : List Byte) : KeepsOps s (s.storeTo h p bs) := by
  cases p with
  | cells pa m => exact of_ctxs (by cases h <;> exact State.cellsWrite_ctxs _ _ _ _)
  | slot g o => exact slotWrite _ _ _ _
  | port pair off => exact portWrite _ _ _ _
  | bell q off => exact bellBy _ _ _ _ _
  | unit u off => exact ite (of_ctxs (State.trigger_ctxs _ _ _ _)) (of_ctxs (State.tableStore_ctxs _ _ _))
  | gated e a m => exact of_ctxs (State.cellsWrite_ctxs _ _ _ _)

theorem copyWord (s : State) (h : Hart) (src dst : Nat) : KeepsOps s (s.copyWord h src dst).2 := by
  unfold State.copyWord
  split
  · exact refl s
  · next p t ht =>
    have hload : KeepsOps s (t.loadFrom h p 8).2 := of_ctxs ((State.loadFrom_ctxs _ _ _ _).trans (State.movePlace_ctxs ht))
    dsimp only
    split
    · exact hload
    · next q u hu => exact (hload.then_ctxs (State.movePlace_ctxs hu)).trans (storeTo _ _ _ _)

theorem copyWords (s : State) (h : Hart) (src dst n : Nat) : KeepsOps s (s.copyWords h src dst n).2 := by
  refine foldl_keeps (fun r : Option (Nat × Nat) × State => KeepsOps s r.2) _ (fun r k hr => ?_) _ _ (refl s)
  split
  · exact hr
  · exact hr.trans (copyWord _ _ _ _)

theorem runMove (s : State) (h : Hart) (d : List Byte) : KeepsOps s (s.runMove h d).2 := by
  refine foldl_keeps (fun r : Option (Nat × Nat) × State => KeepsOps s r.2) _ (fun r k hr => ?_) _ _ (refl s)
  dsimp only
  split
  · exact hr
  · exact hr.trans (copyWords _ _ _ _ _)

theorem runTop (s : State) (w : Who) (e : Nat) (o : TensorOp) : KeepsOps s (s.runTop w e o).2 := of_ctxs (State.runTop_ctxs s w e o)

end KeepsOps

end Sys2Proof.Machine
end

section
/-! # Tensor operations (O27): R271 to R273, R287, R295 -/

namespace Sys2Proof.Machine

open Sys2Proof

variable {s : State} {g : Fin 3072}

/-! ## What issuing leaves -/

@[simp] theorem State.issued_twinned (s : State) (h : Hart) (q : Pipe) : (s.issued h q).twinned = s.twinned := by
  simp only [State.twinned, State.objB, State.issued_pw,
    State.issued_obj s h q (show okey 0x5020 1 0 ≠ okey 0x7040 5 0 by decide)]

theorem State.issued_lead (s : State) (h : Hart) (q : Pipe) : (s.issued h q).lead = s.lead := by
  funext e
  rw [State.lead, State.lead, State.issued_twinned]

@[simp] theorem State.issued_ownDesc (s : State) (h : Hart) (q : Pipe) (g a : Nat) :
    (s.issued h q).ownDesc g a = s.ownDesc g a := by
  unfold State.ownDesc
  rw [State.issued_lead]

@[simp] theorem State.issued_poisoned (s : State) (h : Hart) (q : Pipe) (a n : Nat) :
    (s.issued h q).poisoned a n = s.poisoned a n := by
  simp only [State.poisoned, State.issued_poison]

@[simp] theorem State.issued_memBytes (s : State) (h : Hart) (q : Pipe) (a n : Nat) :
    (s.issued h q).memBytes a n = s.memBytes a n := by
  simp only [State.memBytes, State.memByte, State.issued_mem]

@[simp] theorem State.issued_jobOf (s : State) (h : Hart) (q : Pipe) (k : Nat) : (s.issued h q).jobOf k = s.jobOf k := by
  simp only [State.jobOf, State.issued_sched]

/-! ## Issue (R271, R272, R287) -/

/-- The operation that a context issues with a token. -/
def State.tensorIssue (s : State) (g : Fin 3072) (tk a pa : Nat) (copy : Bool) (mode : Nat) : TensorOp :=
  { token := tk, copy := copy, desc := s.memBytes pa 64, mode := mode, addr := a, pc := (s.ctx (.ctx g)).pc.toNat,
    finished := false, fault := none, job := ((s.jobOf g.val).map (·.id)).getD 0 }

/-- The registers of a context after the issue of an operation. -/
def Ctx.issues (c : Ctx) (o : TensorOp) (rd : Fin 32) : Ctx := { c with ops := c.ops ++ [o] }.put rd (BitVec.ofNat 64 o.token)

theorem Ctx.issues_pc (c : Ctx) (o : TensorOp) (rd : Fin 32) : (c.issues o rd).pc = c.pc := Ctx.put_pc _ _ _

/-- A valid, unpoisoned descriptor in the own store room issues with the lowest free token; a TOP joins its engine's order. -/
theorem State.issueTensor_eq {rd rs1 : Fin 32} {copy : Bool} {mode pa tk : Nat} {valid : List Byte → Bool} (q : Pipe)
    (hown : s.ownDesc g ((s.ctx (.ctx g)).get rs1).toNat = some pa) (hclean : s.poisoned pa 64 = false)
    (hfree : (s.ctx (.ctx g)).freeToken = some tk) (hvalid : valid (s.memBytes pa 64) = true) :
    let u := s.issued (.ctx g) q
    u.issueTensor g.val (s.ctx (.ctx g)) rd rs1 copy mode valid =
      .next (if copy then u else u.modEngine (g.val / 64) fun v => { v with tops := v.tops ++ [(g.val % 64, tk)] })
        ((s.ctx (.ctx g)).issues (s.tensorIssue g tk ((s.ctx (.ctx g)).get rs1).toNat pa copy mode) rd) := by
  intro u
  simp only [u, State.issueTensor, State.issued_ownDesc, hown, State.issued_poisoned, hclean, Bool.false_eq_true, if_false,
    State.issued_memBytes, hvalid, Bool.not_true, hfree, State.issued_jobOf]
  rfl

/-- A TOP issues. -/
theorem answers_top {rd rs1 : Fin 32} {prec : Precision} {acc deq : Bool} {pa tk : Nat} (hr : s.runs (.ctx g) = true)
    (hown : s.ownDesc g ((s.ctx (.ctx g)).get rs1).toNat = some pa) (hclean : s.poisoned pa 64 = false)
    (hfree : (s.ctx (.ctx g)).freeToken = some tk)
    (hvalid : TopOp.valid { d := s.memBytes pa 64, prec := precCode prec, acc := acc, deq := deq } = true) :
    let c := s.ctx (.ctx g)
    let o := s.tensorIssue g tk (c.get rs1).toNat pa false (precCode prec * 4 + b2n acc * 2 + b2n deq)
    Answers (.top (.ctx g) rd rs1 prec acc deq) s (fun t =>
      t.ctx (.ctx g) = { c.issues o rd with pc := c.pc + 4 } ∧
      (t.engine (g.val / 64)).tops = (s.engine (g.val / 64)).tops ++ [(g.val % 64, tk)] ∧
      (∀ k, k ≠ .ctx g → t.ctx k = s.ctx k) ∧ SameMemory s t) := by
  intro c o
  have hk := State.issueTensor_eq (rd := rd) (copy := false) (mode := precCode prec * 4 + b2n acc * 2 + b2n deq)
    (valid := fun d => TopOp.valid { d := d, prec := precCode prec, acc := acc, deq := deq }) .tensor hown hclean hfree hvalid
  have hexec := (State.instr_runs s hr .tensor (fun u c => u.issueTensor g.val c rd rs1 false _ _) 4).trans
    (State.execute_of_next hk)
  rw [Ctx.issues_pc, if_neg Bool.false_ne_true] at hexec
  refine answers_next (congrArg Host.Outcome.next hexec) ⟨State.retired_ctx _ _ _, ?_, fun k hk => ?_, sameMemory_of_mem ?_ ?_⟩
  · rw [State.engine, State.retired_engines, ← State.engine, State.engine_modEngine_self]
    simp [State.engine]
  · exact (State.retired_ctx_ne _ _ hk).trans (State.ctx_congr (by simp) k)
  · simp [State.retired]
  · simp [State.retired]

/-- A TMOVE issues. -/
theorem answers_tmove {rd rs1 : Fin 32} {pa tk : Nat} (hr : s.runs (.ctx g) = true)
    (hown : s.ownDesc g ((s.ctx (.ctx g)).get rs1).toNat = some pa) (hclean : s.poisoned pa 64 = false)
    (hfree : (s.ctx (.ctx g)).freeToken = some tk) (hvalid : moveValid (s.memBytes pa 64) = true) :
    let c := s.ctx (.ctx g)
    Answers (.tmove (.ctx g) rd rs1) s
      (Becomes (.ctx g) { c.issues (s.tensorIssue g tk (c.get rs1).toNat pa true 0) rd with pc := c.pc + 4 } s) := by
  intro c
  have hb := becomes_instr (k := fun u c => u.issueTensor g.val c rd rs1 true 0 moveValid) hr
    (State.issueTensor_eq (rd := rd) (copy := true) (mode := 0) .tensor hown hclean hfree hvalid)
  rw [Ctx.issues_pc] at hb
  exact answers_next rfl hb

/-! ## Completion (R273, R295) -/

/-- Where a predicate fails, nothing is dropped. -/
theorem mem_dropWhile_of_not {α : Type} {p : α → Bool} {l : List α} {x : α} (hx : x ∈ l) (hp : p x = false) :
    x ∈ l.dropWhile p := by
  rw [← List.takeWhile_append_dropWhile (p := p) (l := l), List.mem_append] at hx
  refine hx.resolve_left fun htake => ?_
  rw [List.mem_takeWhile_imp htake] at hp
  exact absurd hp (by decide)

/-- An operation after that of a token has run to its end or its fault. -/
def TensorOp.afterRun (token : Nat) (fault : Option (Nat × Nat)) (x : TensorOp) : TensorOp :=
  if x.token = token then { x with finished := fault.isNone, fault := fault } else x

/-- The operations of a context after one has run: the finished front is freed, up to the first that has not or has faulted. -/
def opsDone (l : List TensorOp) (token : Nat) (fault : Option (Nat × Nat)) : List TensorOp :=
  (l.map (TensorOp.afterRun token fault)).dropWhile fun x => x.finished && x.fault.isNone

/-- The fault of an operation waits with it. -/
theorem opsDone_fault {l : List TensorOp} {token : Nat} {o : TensorOp} (h : l.find? (fun o => o.token = token) = some o)
    (f : Nat × Nat) : ∃ x ∈ opsDone l token (some f), x.token = token ∧ x.fault = some f := by
  have htoken : o.token = token := by simpa using List.find?_some h
  have hrun : o.afterRun token (some f) = { o with finished := false, fault := some f } := if_pos htoken
  have hmem := List.mem_map_of_mem (f := TensorOp.afterRun token (some f)) (List.mem_of_find?_eq_some h)
  rw [hrun] at hmem
  exact ⟨_, mem_dropWhile_of_not hmem rfl, htoken, rfl⟩

/-- What an operation does: its copy, or its tensor function. -/
def State.runOp (s : State) (g : Fin 3072) (o : TensorOp) : Option (Nat × Nat) × State :=
  if o.copy then s.runMove (.ctx g) o.desc else s.runTop (.hart (.ctx g)) (g.val / 64) o

theorem KeepsOps.runOp (s : State) (g : Fin 3072) (o : TensorOp) : KeepsOps s (s.runOp g o).2 := by
  unfold State.runOp
  split
  · exact runMove _ _ _
  · exact runTop _ _ _ _

/-- The state after an operation has run: a TOP has left its engine's order, and one without a fault has counted its cellar
traffic (R295, R409). -/
def State.opCounted (s : State) (g : Fin 3072) (token : Fin 8) (o : TensorOp) : State :=
  let e := g.val / 64
  let r := s.runOp g o
  let u := if o.copy then r.2 else r.2.modEngine e fun v => { v with tops := v.tops.erase (g.val % 64, token.val) }
  if r.1.isSome then u else (u.perf e 0x09 (unitsOf o.traffic.1)).perf e 0x0A (unitsOf o.traffic.2)

theorem State.opCounted_keeps (s : State) (g : Fin 3072) (token : Fin 8) (o : TensorOp) :
    (s.opCounted g token o).ctxs = (s.runOp g o).2.ctxs ∧ (s.opCounted g token o).mem = (s.runOp g o).2.mem ∧
      (s.opCounted g token o).poison = (s.runOp g o).2.poison := by
  unfold State.opCounted
  extract_lets e r u
  have hu : u.ctxs = r.2.ctxs ∧ u.mem = r.2.mem ∧ u.poison = r.2.poison := by
    simp only [u]
    split <;> exact ⟨rfl, rfl, rfl⟩
  split
  · exact hu
  · simpa using hu

/-- An operation that may finish: memory is what it left, and its context's operations are those that are not freed. -/
theorem answers_tensorOpDone {token : Fin 8} {o : TensorOp}
    (hfind : (s.ctxAt g.val).ops.find? (fun o => o.token = token.val) = some o) (hmay : s.mayFinish g.val o = true) :
    Answers (.tensorOpDone g token) s (fun t => ∃ u : State, t = u.settle ∧ u.mem = (s.runOp g o).2.mem ∧
      u.poison = (s.runOp g o).2.poison ∧
      (u.ctxAt g.val).ops = opsDone (s.ctxAt g.val).ops token.val (s.runOp g o).1) := by
  let v := s.opCounted g token o
  let c := v.ctxAt g.val
  obtain ⟨hctxs, hmem, hpoison⟩ := s.opCounted_keeps g token o
  have hexec : exec (.tensorOpDone g token) s = .next (v.setCtxAt g.val
      ({ c with ops := c.ops.map (TensorOp.afterRun token.val (s.runOp g o).1) } : Ctx).freeTokens).settle := by
    refine congrArg Host.Outcome.next ?_
    simp only [hfind, hmay, Bool.not_true, Bool.false_eq_true, if_false]
    rfl
  have hops : c.ops = (s.ctxAt g.val).ops := (KeepsOps.runOp s g o).then_ctxs hctxs g
  refine answers_next hexec ⟨_, rfl, hmem, hpoison, ?_⟩
  rw [State.ctxAt_setCtxAt, if_pos rfl, ← hops]
  rfl

end Sys2Proof.Machine

namespace Sys2Proof

open Sys2Proof.Machine

/-- Settles O27: an issue takes the lowest free token; an operation's accesses leave the list of operations, in which its end or
its fault is then entered. -/
theorem tensorOperationsTakeAToken : Obligations.TensorOperationsTakeAToken := by
  unfold Obligations.TensorOperationsTakeAToken
  refine ⟨fun g rd rs1 s pa tk hr => ?_, fun g token s o => ?_⟩
  · intro h c a issue hown hclean hfree
    exact ⟨fun prec acc deq hvalid => answers_top hr hown hclean hfree hvalid,
      fun hvalid => answers_tmove hr hown hclean hfree hvalid⟩
  · intro c hfind hmay r
    obtain ⟨t, ht, u, hsettle, hmem, hpoison, hops⟩ := answers_tensorOpDone hfind hmay
    refine ⟨t, ht, u, hsettle, hmem, hpoison, fun hnone => ?_, fun f hfault => ?_⟩
    · rw [hops, show (s.runOp g o).1 = none from hnone]
      rfl
    · rw [hops, show (s.runOp g o).1 = some f from hfault]
      exact opsDone_fault hfind f

end Sys2Proof
end
